-- ==== Sys2Proof/Word.lean ====
section
/-! DEFINITION. The words of the module: 64-bit registers and bytes (R8 to R11). -/

namespace Sys2Proof

/-- A 64-bit register or address word. -/
abbrev Word := BitVec 64

/-- One byte of memory. -/
abbrev Byte := BitVec 8

end Sys2Proof
end

