-- ==== Sys2Proof/Syntax.lean ====
section
/-! DEFINITION. The commands of the module: one constructor per row of spec/opcode_table.json. Core, context, strand,
entry and port numbers are plain numbers, checked by WellFormed.lean; an instruction row names the strand that issues:
core g, context c, strand k. -/

namespace Sys2Proof

/-- Which register of a traverse entry a write names (R149). -/
inductive TrvReg where | next | land | late
  deriving DecidableEq, Repr

/-- What memory reports with the data of a read. -/
inductive MemErr where
  | ok
  | corrected (bit : Nat)
  | uncorrectable
  | bus (cause : Nat)
  deriving DecidableEq, Repr

/-- What a link reports. -/
inductive LinkEvent where
  /-- every lane of the link has signal -/
  | signal
  /-- alignment locked, with the lane mapping and inversions found (R313) -/
  | aligned (map inv : Nat)
  /-- alignment or training lost while the signal stays -/
  | unlock
  /-- no signal on the lanes of a mask -/
  | loss (los : Nat)
  /-- FEC codewords corrected, and uncorrectable, since the last report (Table NET-1's RS-FEC) -/
  | fec (corrected bad : Nat)
  deriving DecidableEq, Repr

/-- The Ethernet, IPv6 and UDP fields of a frame beside its addresses and hop limit (R315). -/
structure Wire where
  dstMac : Nat := 0
  srcMac : Nat := 0
  /-- the 802.1Q tag: VLAN and PCP -/
  vlan : Option (Nat × Nat) := none
  /-- the traffic class, with ECN in its low two bits -/
  tclass : Nat := 0
  label : Nat := 0
  srcPort : Nat := 0
  dstPort : Nat := 0
  deriving DecidableEq, Repr

/-- A Noine packet in its frame (R315, Table NET-3): the link it arrives on, the checks of the outer layers, the IPv6
addresses as numbers whose least significant byte is byte 0, the fields of the header, the payload and the PCRC. -/
structure Packet where
  link : Nat := 0
  /-- FCS, IPv6 length and UDP checksum are right. -/
  good : Bool := true
  /-- marked CE by the network -/
  ce : Bool := false
  srcIp : Nat := 0
  dstIp : Nat := 0
  hop : Nat := 64
  type : Nat := 0
  version : Nat := 1
  first : Bool := false
  last : Bool := false
  retx : Bool := false
  poison : Bool := false
  ceEcho : Bool := false
  tok : Bool := false
  ctx : Nat := 0
  srcNode : Nat := 0
  srcCore : Nat := 0
  dstNode : Nat := 0
  dstCore : Nat := 255
  flow : Nat := 0
  epoch : Nat := 0
  psn : Nat := 0
  limit : Nat := 0
  addr : Nat := 0
  aux : Nat := 0
  tag : Nat := 0
  payload : List Byte := []
  pcrc : Nat := 0
  wire : Wire := {}
  /-- An ATOMIC_REQ that is no add: an exchange, or a compare with a word. Table NET-5 gives these no place in the header and
  no payload; how they travel is open (DESIGN CHOICE, log entry 24). -/
  swap : Option (Option (BitVec 64)) := none
  deriving DecidableEq, Repr

/-- Where an arriving message or total comes from: entry n of the module's own transit list, or a packet. -/
inductive Src where
  | own (n : Nat)
  | net (p : Packet)
  deriving DecidableEq, Repr

/-- A host command entry of 64 B. -/
structure Entry where
  bytes : List Byte
  deriving DecidableEq, Repr

/-- What a cold start finds (Table HOST-9): the primary port of the board record, the real-time clock where it was held,
the factory calibration where it verifies (version, then values by index), a rail that fails, a stack whose training
fails. -/
structure ColdInfo where
  primary : Nat := 0
  utc : Option Nat := none
  cal : Option (Nat × List Nat) := none
  rail : Bool := false
  hbm : Bool := false
  deriving DecidableEq, Repr

/-- A failure that a self-test finds, by the fields of BIST_FAIL_LAST and BIST_FAIL_ADDR. -/
structure Fail where
  kind : Nat
  phys : Nat
  addr : Nat
  bit : Nat := 0
  step : Nat := 0
  deriving DecidableEq, Repr

/-- How a steward command arrives: on SMBus at a 7-bit address, on a port, or in a mailbox. -/
inductive Via where
  | smbus (addr : Nat)
  | port (p : Nat)
  | mailbox (p : Nat)
  deriving DecidableEq, Repr

/-- What resets a port (R347): a conventional reset by PERST#, which stays asserted; a Function Level Reset; a link-down. -/
inductive PortReset where
  | perst
  | flr
  | linkDown
  deriving DecidableEq, Repr

/-- What the far end of a PCI Express link offers, and what the receiver found (R343): the highest rate, 1 to 6; the widest
width of which every lane works; FLIT mode; lane reversal; inverted lanes. -/
structure PcieEnd where
  speed : Nat := 6
  width : Nat := 8
  flit : Bool := true
  reversed : Bool := false
  inv : Nat := 0
  deriving DecidableEq, Repr

/-- A rate and a width that exist. -/
def PcieEnd.ok (e : PcieEnd) : Bool :=
  decide (1 ≤ e.speed) && decide (e.speed ≤ 6) && (e.width == 1 || e.width == 2 || e.width == 4 || e.width == 8 || e.width == 16)

/-- An error that the protection of Table REL-1 detects, beside those of HBM and scratchpad reads. -/
inductive UnitErr where
  /-- the n-th replay of a mesh or saddle flit -/
  | flit (n : Nat)
  /-- corrected: unit 1 to 4, core, address and bit -/
  | corrected (unit g addr bit : Nat)
  /-- uncorrectable: word n of a core's instruction store -/
  | instr (g n : Nat)
  /-- an element of an accumulator -/
  | acc (g c a : Nat)
  /-- total n on its way to a landing area -/
  | transit (n : Nat)
  /-- the data of a read burst in the DMA buffer -/
  | buffer (g id : Nat)
  /-- an entry of the spur queue -/
  | spur (g seq : Nat)
  /-- packet n that a receive flow holds for reorder -/
  | reorder (flow n : Nat)
  /-- control state of a core, or of none -/
  | control (g : Option Nat)
  /-- a page of the steward's store beyond its code: the other copy is read -/
  | store
  /-- a PCI Express port's report of errors for AER: correctable and uncorrectable status bits -/
  | pcie (p ce ue : Nat)
  deriving DecidableEq, Repr


/-- The commands of the block: one constructor per row of spec/opcode_table.json, in the table's order. -/
inductive Instr where
  /-- R36: The frame period elapses on the frame time base and the module performs the ordered tick actions of
      Table FRM-1 within 2 µs. -/
  | frmTick
  /-- R50: The age count of a context's oldest open frame reaches W owned frames and the watchdog halts the
      context on every core. -/
  | frameWatchdogFire (c : Nat)
  /-- R200: The END_FRAME tick of a revoking or released loan is reached and the lend or borrow entry turns idle
      with LOAN_END set. -/
  | loanEndTick (lend : Bool) (i : Nat)
  /-- R56: A queued request whose age in frames exceeds FRM_IN_DEADLINE is returned with the status deferred. -/
  | intakeDeadlineExpiry (c : Nat)
  /-- R294: Tick VOTE_FRAME + LIMIT passes with the step still open, and the step becomes undecided with an event. -/
  | stepUndecided (c : Nat)
  /-- R40: Setting RUN compares FRM_START_TIME with FRM_NOW and schedules the first tick, or cancels a pending
      stop. -/
  | frmCtrlRunSet
  /-- R41: Clearing RUN requests a stop after the current frame, or withdraws a start whose first tick has not yet
      occurred. -/
  | frmCtrlRunClear
  /-- R43: Setting or clearing SYNC_EN switches the frame time base between IEEE 1588 discipline and free running. -/
  | syncEn (on : Bool)
  /-- R40: The scheduled start time is reached and the first tick occurs as frame START_FRAME + k, setting
      START_MISSED if the start time had already passed. -/
  | firstTick
  /-- R42: The time receiver reaches the locked state, and while RUN is 0 the module loads the time base with IEEE
      1588 time once. -/
  | ptpLock (port : Nat) (time : Word) (utcOffset : Nat)
  /-- R43: An IEEE 1588 event message with its hardware timestamp is processed, and the time base frequency is
      corrected by at most ±50 ppm. -/
  | ptpEventMessage (port : Nat) (offset : BitVec 32)
  /-- R45: The time receiver loses lock and the time base enters holdover on the local oscillator. -/
  | holdover
  /-- R60: A write of 1 to CLEAR resets FRM_OVR_MAX.TIME, with a coinciding overrun kept. -/
  | frmOvrMaxClear (c : Nat) (clear : Bool)
  /-- R51: RESUME restarts a watchdog-halted context from its saved state at the next tick, with its open frames
      counted as closed. -/
  | frmCtxResume (c : Nat)
  /-- R51: DISCARD empties a watchdog-halted context for reloading. -/
  | frmCtxDiscard (c : Nat)
  /-- R53: The stall watch time exceeds FRM_STALL_THRESH and a snapshot is recorded, or FRM_STALL_MISSED is
      counted if one is already held. -/
  | stallSnapshot (g c : Nat)
  /-- R69: The firing unit finds an eligible block, consumes its tokens or sets its tick mark, clears ONESHOT
      blocks and appends the block to the ready queue. -/
  | blockFire (g c : Nat)
  /-- R70: A ready block is dispatched to the lowest free strand of its owning context, and its registers are set
      as R62 gives. -/
  | blockDispatch (g c : Nat)
  /-- R83: Does nothing. -/
  | nop (g c k : Nat)
  /-- R71: Ends the block; the strand becomes free after END, or after its last pending load returns. -/
  | endBlock (g c k : Nat)
  /-- R73: Waits for the strand's engine instructions to complete, then closes the context's oldest open frame on
      the core. -/
  | fclose (g c k : Nat)
  /-- R83: Gives up the issue slot for one cycle. -/
  | yield (g c k : Nat)
  /-- R65: Adds 1 to 255 to a token counter other than T28. -/
  | tokadd (g c k : Nat)
  /-- R72: Sets the armed bit of a block. -/
  | arm (g c k : Nat)
  /-- R72: Clears the armed bit of a block. -/
  | disarm (g c k : Nat)
  /-- R83: Waits until the strand's matrix and/or vector engine instructions complete. -/
  | esync (g c k : Nat)
  /-- R84: Waits until the strand's loads, stores, atomics and spur operations complete. -/
  | fence (g c k : Nat)
  /-- R78: Branches if RS1 = RS2. -/
  | beq (g c k : Nat)
  /-- R78: Branches if RS1 ≠ RS2. -/
  | bne (g c k : Nat)
  /-- R78: Branches if RS1 < RS2, signed. -/
  | blt (g c k : Nat)
  /-- R78: Branches if RS1 ≥ RS2, signed. -/
  | bge (g c k : Nat)
  /-- R78: Branches if RS1 < RS2, unsigned. -/
  | bltu (g c k : Nat)
  /-- R78: Branches if RS1 ≥ RS2, unsigned. -/
  | bgeu (g c k : Nat)
  /-- R78: Writes the return index to RD and jumps relative to itself. -/
  | jal (g c k : Nat)
  /-- R78: Writes the return index to RD and jumps to RS1 + IMM32 within the block. -/
  | jalr (g c k : Nat)
  /-- R88: Halts the context with the trap fault and places the immediate in CORE_FAULT_ADDR. -/
  | trap (g c k : Nat)
  /-- R83: 64-bit wrapping add. -/
  | add (g c k : Nat)
  /-- R83: 64-bit wrapping subtract. -/
  | sub (g c k : Nat)
  /-- R83: Bitwise and. -/
  | and (g c k : Nat)
  /-- R83: Bitwise or. -/
  | or (g c k : Nat)
  /-- R83: Bitwise exclusive or. -/
  | xor (g c k : Nat)
  /-- R83: Shifts left by RS2[5:0]. -/
  | sll (g c k : Nat)
  /-- R83: Shifts right logically by RS2[5:0]. -/
  | srl (g c k : Nat)
  /-- R83: Shifts right arithmetically by RS2[5:0]. -/
  | sra (g c k : Nat)
  /-- R83: Sets RD to 1 if RS1 < RS2 signed, else 0. -/
  | slt (g c k : Nat)
  /-- R83: Sets RD to 1 if RS1 < RS2 unsigned, else 0. -/
  | sltu (g c k : Nat)
  /-- R83: Low 64 bits of the product, with a 4-cycle interlock. -/
  | mul (g c k : Nat)
  /-- R83: High 64 bits of the unsigned product. -/
  | mulhu (g c k : Nat)
  /-- R83: Unsigned quotient, all ones on division by zero. -/
  | divu (g c k : Nat)
  /-- R83: Unsigned remainder, RS1 on division by zero. -/
  | remu (g c k : Nat)
  /-- R83: Signed minimum. -/
  | min (g c k : Nat)
  /-- R83: Signed maximum. -/
  | max (g c k : Nat)
  /-- R83: Number of set bits of RS1. -/
  | popc (g c k : Nat)
  /-- R83: Leading zeros of RS1. -/
  | clz (g c k : Nat)
  /-- R83: Adds a sign-extended immediate. -/
  | addi (g c k : Nat)
  /-- R83: Ands a sign-extended immediate. -/
  | andi (g c k : Nat)
  /-- R83: Ors a sign-extended immediate. -/
  | ori (g c k : Nat)
  /-- R83: Exclusive-ors a sign-extended immediate. -/
  | xori (g c k : Nat)
  /-- R83: Shifts left by IMM32[5:0]. -/
  | slli (g c k : Nat)
  /-- R83: Shifts right logically by IMM32[5:0]. -/
  | srli (g c k : Nat)
  /-- R83: Shifts right arithmetically by IMM32[5:0]. -/
  | srai (g c k : Nat)
  /-- R83: Sets RD to 1 if RS1 < IMM32 signed, else 0. -/
  | slti (g c k : Nat)
  /-- R83: Loads a sign-extended immediate into RD. -/
  | li (g c k : Nat)
  /-- R83: Writes IMM32 into RD[63:32] and leaves RD[31:0] unchanged. -/
  | lui (g c k : Nat)
  /-- R84: Loads a zero-extended byte; a miss takes a request slot and marks RD pending. -/
  | ld8 (g c k : Nat)
  /-- R84: Loads a zero-extended half. -/
  | ld16 (g c k : Nat)
  /-- R84: Loads a zero-extended word. -/
  | ld32 (g c k : Nat)
  /-- R84: Loads a double. -/
  | ld64 (g c k : Nat)
  /-- R84: Loads a sign-extended byte. -/
  | lds8 (g c k : Nat)
  /-- R84: Loads a sign-extended half. -/
  | lds16 (g c k : Nat)
  /-- R84: Loads a sign-extended word. -/
  | lds32 (g c k : Nat)
  /-- R84: Stores the low byte of RD. -/
  | st8 (g c k : Nat)
  /-- R84: Stores the low half of RD. -/
  | st16 (g c k : Nat)
  /-- R84: Stores the low word of RD. -/
  | st32 (g c k : Nat)
  /-- R84: Stores RD. -/
  | st64 (g c k : Nat)
  /-- R84: 64-bit atomic add at the target, returning the old value. -/
  | amoadd (g c k : Nat)
  /-- R84: 64-bit atomic swap at the target. -/
  | amoswap (g c k : Nat)
  /-- R84: 64-bit atomic compare-and-swap at the target. -/
  | amocas (g c k : Nat)
  /-- R74: A load, store or atomic beyond the core's own scratchpad completes, fills or clears the pending
      register and frees its request slot. -/
  | scalarAccessComplete (g n : Nat)
  /-- R127: Queues a tile multiply-add into an accumulator, computed in exact chunked order. -/
  | mma (g c k : Nat)
  /-- R131: Queues a write of the accumulator total, scaled and rounded once, to a destination tile. -/
  | mwb (g c k : Nat)
  /-- R138: Queues a load of the landed traverse total into the accumulator. -/
  | mtin (g c k : Nat)
  /-- R137: Queues the sending of the accumulator total to the next traverse hop. -/
  | mtout (g c k : Nat)
  /-- R143: Opens a layer bracket of the block's class using a layer descriptor. -/
  | mlb (g c k : Nat)
  /-- R145: Closes the layer bracket and starts the end-of-layer decision. -/
  | mle (g c k : Nat)
  /-- R133: A queued matrix instruction starts once its predecessor has started, its resource is free and no
      accumulator or tile conflict holds. -/
  | matrixInstructionStart (g : Nat)
  /-- R129: A matrix instruction completes and ORs its flags into MTX_FLAGS and into the open bracket. -/
  | matrixInstructionComplete (g n : Nat)
  /-- R137: A sent total with its header lands in the destination's landing area, or is forwarded at once if the
      entry is late-pending, and T(16 + RQ) is incremented. -/
  | traverseTotalLanding (src : Src)
  /-- R139: At tick DUE + 1 an unsent SKIP_EN entry becomes late and its landed total, or an empty total, is
      forwarded with SKIPS incremented. -/
  | traverseSkip (g c t : Nat)
  /-- R145: After the counted instructions (and the layer col, if used) complete, MLE delivers the done token or
      decides a replay in the next wider format. -/
  | layerEndDecision (g c cls : Nat)
  /-- R149: A write to an idle traverse entry's NEXT, LAND or LATE takes effect, and a NEXT write sets CREDIT to
      1. -/
  | mtxTrvNextWrite (g c t : Nat) (w : TrvReg) (v : Word)
  /-- R155: Integer add, saturating under SAT. -/
  | vadd (g c k : Nat)
  /-- R155: Integer subtract. -/
  | vsub (g c k : Nat)
  /-- R155: Integer multiply, low half. -/
  | vmul (g c k : Nat)
  /-- R155: Shifts left by the second source, saturating under SAT. -/
  | vshl (g c k : Nat)
  /-- R155: Shifts right, arithmetic for signed formats. -/
  | vshr (g c k : Nat)
  /-- R154: Bitwise and on the encodings. -/
  | vand (g c k : Nat)
  /-- R154: Bitwise or on the encodings. -/
  | vor (g c k : Nat)
  /-- R154: Bitwise exclusive or on the encodings. -/
  | vxor (g c k : Nat)
  /-- R156: Writes an all-ones or all-zeros mask element per element, using quiet predicates. -/
  | vcmp (g c k : Nat)
  /-- R156: Selects S1 where the prior destination is nonzero, else S2. -/
  | vsel (g c k : Nat)
  /-- R157: Float add, rounded once. -/
  | vfadd (g c k : Nat)
  /-- R157: Float multiply, rounded once. -/
  | vfmul (g c k : Nat)
  /-- R157: Fused S1 × S2 + prior destination, with one rounding. -/
  | vfma (g c k : Nat)
  /-- R114: Converts FMT to DFMT under the conversion rules. -/
  | vcvt (g c k : Nat)
  /-- R159: Reciprocal seed of 8 significant bits. -/
  | vrcp (g c k : Nat)
  /-- R159: Reciprocal-square-root seed of 8 significant bits. -/
  | vrsq (g c k : Nat)
  /-- R160: One Newton refinement step of a reciprocal or reciprocal square root. -/
  | vrstep (g c k : Nat)
  /-- R158: Exact per-row sum, rounded once into DFMT. -/
  | vredsum (g c k : Nat)
  /-- R158: Per-row maximum. -/
  | vredmax (g c k : Nat)
  /-- R158: Per-row minimum. -/
  | vredmin (g c k : Nat)
  /-- R168: Runs an update rule on one parameter segment and advances the layer descriptor. -/
  | vupd (g c k : Nat)
  /-- R85: Sets the strand's vector configuration word. -/
  | vcfg (g c k : Nat)
  /-- R151: A queued vector instruction starts when the engine occupancy of the previous one ends and no in-flight
      MWB conflict holds. -/
  | vectorInstructionStart (g : Nat)
  /-- R161: A vector instruction completes and ORs its flags into VEC_FLAGS and into the bracket. -/
  | vectorInstructionComplete (g : Nat)
  /-- R210: Checks a descriptor and loads it into the channel's shadow set, waiting while the shadow holds an
      unstarted transfer. -/
  | dld (g c k : Nat)
  /-- R210: Queues the loaded shadow set for activation. -/
  | dgo (g c k : Nat)
  /-- R236: Stops the channel after the bursts in flight and empties the shadow set. -/
  | dstop (g c k : Nat)
  /-- R241: Returns the channel status word. -/
  | dstat (g c k : Nat)
  /-- R210: A queued shadow set becomes the active set in the cycle after the active set goes idle. -/
  | shadowActivation (g ch : Nat)
  /-- R217: The read engine issues one read burst, chosen demand before run-ahead in round robin, and reserves a
      buffer entry. -/
  | dmaReadBurstIssue (g : Nat)
  /-- R220: Read data returns to the buffer, with poison reread, run-ahead suppression or bus-error handling
      applied. -/
  | dmaReadReturn (g n : Nat) (err : MemErr)
  /-- R216: The write engine issues one write burst when its data has arrived and pacing allows. -/
  | dmaWriteBurstIssue (g : Nat)
  /-- R218: A write is acknowledged, its buffer entry is released, and a completed unit delivers its token. -/
  | dmaWriteAck (g n : Nat) (err : MemErr)
  /-- R228: A write to the counter word is seen 2 cycles later and opens or closes the paced channel. -/
  | dmaPaceCounterSeen (g ch : Nat)
  /-- R234: Under ERR_MODE 1 a failed demand burst is reissued 4 cycles after the failure, up to RETRY times. -/
  | dmaBurstRetry (g ch : Nat)
  /-- R236: A stopping channel's bursts in flight complete and it goes idle with code 2, 3 or 7. -/
  | channelDrained (g ch : Nat)
  /-- R235: Resumes a channel in error, reissuing the failing burst first. -/
  | dmaChRestart (g ch : Nat)
  /-- R235: Ends a transfer in error with code 3. -/
  | dmaChAbort (g ch : Nat)
  /-- R233: Resumes every stopped channel of the core and clears STOPPED. -/
  | restartAll (g : Nat)
  /-- R235: Aborts every channel of the core in error and clears STOPPED. -/
  | abortAll (g : Nat)
  /-- R229: Sets HIGH and LOW unless the write breaks 0 ≤ LOW < HIGH. -/
  | dmaChPaceWrite (g ch : Nat) (v : Word)
  /-- R229: Sets the counter-word address only while the channel is idle with no queued shadow. -/
  | dmaChPaceAddrWrite (g ch : Nat) (v : Word)
  /-- R238: Queues a remote write of 1 to 256 B on the spur path. -/
  | sput (g c k : Nat)
  /-- R238: Queues a remote read of 1 to 256 B into local scratchpad. -/
  | sget (g c k : Nat)
  /-- R238: Queues a remote 64-bit atomic add whose old value goes to RC. -/
  | satom (g c k : Nat)
  /-- R237: The spur queue sends one operation through the core port, reading SPUT or MSEND local bytes then. -/
  | spurSend (g : Nat)
  /-- R237: A spur operation completes, frees its queue entry and delivers T29 if requested. -/
  | spurComplete (g n : Nat)
  /-- R238: A spur operation not complete after DMA_SPUR_TIMEOUT raises the unmapped fault. -/
  | spurTimeout (g n : Nat)
  /-- R86: Queues a message of 8 to 64 B from scratchpad to a receive queue. -/
  | msend (g c k : Nat)
  /-- R86: Queues a message whose payload comes from consecutive registers. -/
  | msendr (g c k : Nat)
  /-- R263: Moves the head message to scratchpad and frees the slot, waiting while the queue is empty. -/
  | mrecv (g c k : Nat)
  /-- R263: Returns the number of messages queued. -/
  | mcount (g c k : Nat)
  /-- R262: An arriving message is written to the receive ring and T(16 + q) is incremented, or the message is
      refused. -/
  | messageArrival (src : Src)
  /-- R264: A message held at a full queue is offered again when a slot frees. -/
  | messageReoffer (g c q : Nat)
  /-- R261: Sets up a receive queue, enabling it only if the ring lies in the window. -/
  | colMqCfgWrite (g c q : Nat) (v : Word)
  /-- R270: Enters a col with a token slot as waiter. -/
  | cole (g c k : Nat)
  /-- R270: Enters a col and holds the strand until the release. -/
  | colw (g c k : Nat)
  /-- R273: Returns the core's col state word. -/
  | colr (g c k : Nat)
  /-- R270: A third entry stalled on two outstanding rounds is sent once a release frees room. -/
  | colStalledEntrySend (g n : Nat)
  /-- R271: An entry reaches its counter and is counted into round ROUND or ROUND + 1, completing and releasing a
      round or sending an arrival. -/
  | colEntryArrival (n : Nat)
  /-- R272: A release reaches a core and serves its matching waiters in order: tokens, COLW strands or layer
      decisions. -/
  | colReleaseArrival (n : Nat)
  /-- R87: Reads a per-context CORE register or a read-only value. -/
  | crd (g c k : Nat)
  /-- R87: Writes a per-context CORE register. -/
  | cwr (g c k : Nat)
  /-- R89: Resumes a fault-halted context at the next tick, abandoning the faulting block. -/
  | coreCtxResume (c : Nat)
  /-- R89: Empties the context on every core and resets its traverse entries. -/
  | coreCtxDiscard (c : Nat)
  /-- R92: Starts loading a program image into a context on a core. -/
  | loadGo (g c : Nat)
  /-- R93: Loading completes after the image checks, writing code, block table and scratchpad data and clearing
      tokens, or errors. -/
  | loadDone (g c : Nat) (err : MemErr)
  /-- R94: Empties a loaded or halted context on the core. -/
  | unload (g c : Nat)
  /-- R94: Selects a block table entry and discards every pending word. -/
  | coreBtIndexWrite (g c : Nat) (v : Word)
  /-- R94: A write to DATA0 to DATA2 holds a pending word. -/
  | coreBtDataStage (g c w : Nat) (v : Word)
  /-- R94: A write to DATA3 commits the block table entry at once. -/
  | coreBtData3Commit (g c : Nat) (v : Word)
  /-- R96: Sets a token counter of a loaded or halted context. -/
  | coreTokenWrite (g c t : Nat) (v : Word)
  /-- R200: A grant arrives and a waiting borrow entry that matches exactly becomes active at the next tick, or
      LOAN_MISMATCH is set. -/
  | loanGrant (p : Packet)
  /-- R200: A revocation notice arrives and the borrow entry turns revoking with END_FRAME copied. -/
  | loanNotice (p : Packet)
  /-- R200: A release arrives and the lender ends the loan at the next tick. -/
  | loanRelease (p : Packet)
  /-- R246: An add on a page count word acts or is refused at its controller, and a page whose count reaches 0
      becomes pending. -/
  | countWordAtomic (g pool seg page : Nat) (delta : Word)
  /-- R248: An atomic on a segment allocation word takes a page from the ring with count 1, or returns all ones. -/
  | allocationWordAtomic (pool seg : Nat)
  /-- R245: Initialisation of a newly valid segment completes and READY becomes 1. -/
  | segmentReady (pool seg : Nat)
  /-- R278: Every 1 µs the die power manager registers lenders, returns idle borrowers' steps and grants clock
      steps to busy cores. -/
  | lendingPeriod (die : Nat)
  /-- R279: A lending core stops being idle at a col, its GRANT is withdrawn and borrowed steps are reclaimed at
      once. -/
  | lenderWake (g : Nat)
  /-- R282: Sets lending parameters from the next period; clearing EN returns every step. -/
  | colLendCfgWrite (die : Nat) (v : Word)
  /-- R289: Requests that the step open at the next tick, subject to the refusals of Table TRN-5. -/
  | trnStepOpen (c : Nat)
  /-- R292: Raises the host-abort cause on an open step. -/
  | trnStepAbort (c : Nat)
  /-- R295: Decides an undecided step as committed if the local round is complete with flag 0. -/
  | forceCommit (c : Nat)
  /-- R295: Decides an undecided step as aborted. -/
  | forceAbort (c : Nat)
  /-- R305: Sets the measured traverses and resets SAMPLES to 0. -/
  | trnGnsCfgWrite (c : Nat) (v : Word)
  /-- R314: A link changes between down, training and up on signal, negotiation and alignment events, setting
      NET_EVENT.LINK. -/
  | linkStateChange (link : Nat) (ev : LinkEvent)
  /-- R314: A link that has been out of the up state for more than 100 ms enters fault. -/
  | linkFault (link : Nat)
  /-- R330: A packet of a flow is sent when its PSN lies below the credit limit and the window. -/
  | noinePacketSend (f : Nat)
  /-- R326: A received WRITE packet is applied in PSN order after the window or lend checks. -/
  | write (p : Packet)
  /-- R326: A received read request is performed in PSN order and answered with READ_RESP. -/
  | readReq (p : Packet)
  /-- R323: A read response with data and status arrives on the reverse direction of the flow. -/
  | readResp (p : Packet)
  /-- R326: A received atomic request acts at its target in PSN order. -/
  | atomicReq (p : Packet)
  /-- R323: An atomic response returns the old value and status. -/
  | atomicResp (p : Packet)
  /-- R327: An acknowledgement advances the cumulative PSN, credit and window, and may trigger resends or window
      reduction. -/
  | ack (p : Packet)
  /-- R327: A refusal for a PSN is handled by its reason as Table NET-6 gives. -/
  | nak (p : Packet)
  /-- R327: An ACK is sent 2 µs after an unacknowledged packet, after 16 packets, or at once on a gap. -/
  | ackTimer (f : Nat)
  /-- R328: RTO passes since a packet was sent, and it is resent or the flow fails beyond RETRY. -/
  | retransmitTimeout (f : Nat)
  /-- R327: A packet refused with code 1 or 2 is resent after RNR. -/
  | rnrResend (f : Nat)
  /-- R328: A read without a response within NET_CPL_TIMEOUT fails with cause 2. -/
  | completionTimeout (f : Nat)
  /-- R329: A send flow idle for NET_FLOW_IDLE frames is closed with FLOW_CLOSE. -/
  | flowIdleClose (f : Nat)
  /-- R329: A received FLOW_CLOSE frees the receive flow. -/
  | flowClose (p : Packet)
  /-- R137: A traverse credit return restores CREDIT on the upstream entry and releases a waiting MTOUT or skip
      forward. -/
  | trvCredit (p : Packet)
  /-- R274: A module's completed local round arrives at the home counter as A0 or A1 with its flag. -/
  | colArrival (p : Packet)
  /-- R275: A multicast release reaches a participating module, which releases its cores and shifts its counter. -/
  | colRelease (p : Packet)
  /-- R332: Every NET_REL_POLL a module still waiting for a release sends COL_QUERY. -/
  | colQueryPoll (ctr : Nat)
  /-- R332: A home that has released the round answers with COL_RELEASE on the control flow. -/
  | colQuery (p : Packet)
  /-- R321: A frame for another address is forwarded on the hashed link with the hop limit lowered. -/
  | frameRelay (p : Packet)
  /-- R317: A received priority flow control frame pauses the port's priority when PFC_EN is set. -/
  | pfcFrame (port prio : Nat) (pause : Bool)
  /-- R389: Opens the owner's transaction. -/
  | txnBegin (o : Nat)
  /-- R389: Closes staging so that the transaction is taken at the next tick. -/
  | txnCommit (o : Nat)
  /-- R389: Discards the open transaction. -/
  | txnRollback (o : Nat)
  /-- R390: An RT field write is staged in the owner's open transaction, or flagged OUTSIDE, CONFLICT or OVERFLOW. -/
  | rtFieldWrite (o off size : Nat) (v : Word)
  /-- R393: An open transaction reaches OPEN_FRAME + TIMEOUT and rolls back. -/
  | txnTimeout (o : Nat)
  /-- R17: A register write with no row of its own takes effect in order of arrival under the access codes and BAR
      0 rules. -/
  | registerWrite (src bar off size : Nat) (v : Word)
  /-- R346: A host write through the HBM aperture lands, or is discarded if protected. -/
  | apertureWrite (p off : Nat) (data : List Byte)
  /-- R346: A host read through the aperture returns data, poisoned data completing with EP. -/
  | apertureRead (p off len : Nat) (err : MemErr)
  /-- R347: A conventional reset, FLR or link-down resets only that port's function and ring registers. -/
  | pciePortReset (p : Nat) (kind : PortReset)
  /-- R358: PERST# deasserts and the port begins link training once start-up is done. -/
  | perstDeassert (p : Nat)
  /-- R350: At tick time less the lead, the module reads each enabled ring header and its entries within the
      bounds. -/
  | hostRingFetch (p c n : Nat)
  /-- R352: A NOP command entry completes with status 0. -/
  | commandNop (p c : Nat) (e : Entry)
  /-- R352: A REQUEST entry goes to the intake queue, or is refused beyond the port's credit. -/
  | request (p c : Nat) (e : Entry)
  /-- R352: A NOTE entry is delivered as a message to the named receive queue. -/
  | note (p c : Nat) (e : Entry)
  /-- R352: A TOKEN entry adds to T30 or T31 on a core unless that would exceed 4,095. -/
  | token (p c : Nat) (e : Entry)
  /-- R366: Enabling a ring zeroes CMD_CI and CPL_PI and locks its base registers. -/
  | hifCrCfgEnable (p c : Nat) (v : Word)
  /-- R357: Input entering range runs the cold start: steward boot and image checks, rails, reset, repair, HBM
      training and link enable. -/
  | coldStart (info : ColdInfo)
  /-- R359: HIF_RESET.WARM with the key stops the ticks, resets the package with HBM in self-refresh and reloads
      firmware. -/
  | warmReset (src : Nat)
  /-- R359: HIF_RESET.COLD with the key removes package power and restarts from cold. -/
  | coldReset (src : Nat)
  /-- R364: The steward answers an MCTP control message on SMBus or PCI Express. -/
  | mctpControlMessage (via : Via) (body : List Byte)
  /-- R365: Steward command returning HIF_BOOT, steward state and FAIL code. -/
  | getStatus (via : Via)
  /-- R381: Returns 16 B readings for the masked sensors. -/
  | readSensors (via : Via) (body : List Byte)
  /-- R385: Returns complete cairn log records. -/
  | readCairn (via : Via) (body : List Byte)
  /-- R363: Returns a dual-signed attestation report over a nonce. -/
  | attest (via : Via) (body : List Byte)
  /-- R362: Returns the certificate chain of a key type. -/
  | getCerts (via : Via) (body : List Byte)
  /-- R361: Writes firmware image data to a slot. -/
  | fwWrite (via : Via) (body : List Byte)
  /-- R360: Verifies an image slot and reports the failing step. -/
  | fwVerify (via : Via) (body : List Byte)
  /-- R361: Marks a slot active for the next reset, optionally raising the fused SVN. -/
  | fwActivate (via : Via) (body : List Byte)
  /-- R359: Steward command performing a warm or cold reset. -/
  | reset (via : Via) (body : List Byte)
  /-- R393: Stages and commits one calibration offset as a steward transaction. -/
  | calUser (via : Via) (body : List Byte)
  /-- R367: A CRC failure on a mesh or saddle flit is replayed. -/
  | meshFlitError (e : UnitErr)
  /-- R369: The corrected word is written back in the next cycle with no write to it pending. -/
  | correctedWriteback (n : Nat)
  /-- R371: The controllers read HBM granules in order once per PERIOD hours, at the lowest priority. -/
  | hbmScrubRead (err : MemErr)
  /-- R373: An eligible idle core locks 32 granules, runs the march patterns and writes the saved data back. -/
  | bistSlice (g : Nat) (fail : Option Fail)
  /-- R375: A die PLL loses lock for 1 µs, which is a fatal error. -/
  | pllLockLoss (die : Nat)
  /-- R375: Every 1 ms each PLL frequency is checked against the reference oscillator. -/
  | pllFrequencyCheck (die : Nat) (err : BitVec 16)
  /-- R375: Every 10 ms neighbouring sensors are compared, and a disagreeing sensor is excluded. -/
  | thermalSensorCrossCheck (readings : List (Nat × Nat)) (bad : Option Nat)
  /-- R375: Every 10 ms each voltage monitor is compared with the steward ADC, and a failing monitor is excluded. -/
  | voltageMonitorCheck (readings : List (Nat × Nat)) (bad : Option Nat)
  /-- R376: Starts a near-end or far-end loop-back on a disabled Ethernet port. -/
  | bistLoopGo (v : Word)
  /-- R376: The 10 s loop-back ends and LOOP_DONE is set with per-lane results. -/
  | loopDone (lanes errors : Nat)
  /-- R378: A shorted sideband pin is current-limited and reported in ERR_ENV. -/
  | sidebandShort (pin : Nat)
  /-- R382: At least once a second the steward mirrors the lifetime counters into the LIFE registers. -/
  | lifeCounterMirror
  /-- R382: Every 15 minutes the steward commits the lifetime counters to the store. -/
  | lifeCounterCommit
  /-- R383: Every second the Arrhenius-equivalent wear of each die is added. -/
  | wearAccumulate
  /-- R386: Sets the real-time clock from host seconds, logging a step larger than 1 s. -/
  | lifeUtcSet (v : Word)
  /-- R398: Input in 44 V to 48 V sets UV and limits power to voltage × 37.5 A. -/
  | inputUnderVoltageBand (mv : Nat)
  /-- R398: Input below 44 V for 10 µs takes the package rails off at once. -/
  | underVoltageCutoff
  /-- R398: Input in 59 V to 62 V sets OV with full function. -/
  | inputOverVoltageBand (mv : Nat)
  /-- R398: Input above 62 V for 10 µs disconnects the input. -/
  | overVoltageCutoff
  /-- R398: After 100 ms below 59 V the input is reconnected and the module starts cold. -/
  | inputReconnect (info : ColdInfo)
  /-- R401: Every 1 µs input power is sampled, and a sample above 2,100 W lowers the clock 10 steps. -/
  | powerSample (volt amp : Nat)
  /-- R401: A 10 µs interval whose mean exceeds the limit lowers the clock one step and suspends lending. -/
  | powerIntervalDown
  /-- R401: Every 100 µs the clock rises one step when the 1 ms mean is below limit less HYST and nothing holds it
      lower. -/
  | powerClockStepUp
  /-- R405: A junction or HBM reading crosses a level, setting WARN, doubling HBM refresh or starting or ending a
      throttle. -/
  | thermalCondition (i v : Nat)
  /-- R405: While throttling, the clock steps down once per 100 µs. -/
  | thermalThrottleStep
  /-- R405: A junction at 105 °C for 1 s, or 10 s throttling at PWR_CLK_MIN, starts an orderly shutdown. -/
  | junctionOverheatShutdown
  /-- R405: A junction at 115 °C or HBM at 105 °C takes the rails off within 10 µs. -/
  | hardwareTrip
  /-- R405: Flow below 1.5 L/min for 1 s forces the clock to PWR_CLK_MIN. -/
  | flowLow (v : Nat)
  /-- R405: Flow at or above 2.0 L/min for 1 s lets the clock step up again. -/
  | flowRestored (v : Nat)
  /-- R405: Flow low for 10 s, or below 0.5 L/min for 1 s, starts an orderly shutdown. -/
  | flowLossShutdown
  /-- R405: LEAK# asserted for 100 ms sets LEAK and starts an orderly shutdown. -/
  | leakDetect
  /-- R406: SHDN_REQ# held for 1 ms starts an orderly shutdown. -/
  | shdnReq
  /-- R406: PWR_EN deasserted starts an orderly shutdown. -/
  | pwrEnDeassert
  /-- R406: PWR_SD.REQ requests an orderly shutdown. -/
  | pwrSdReq (src : Nat)
  /-- R406: The shutdown notice ends, contexts halt, the macro test runs, counters commit and the rails go down. -/
  | shutdownNoticeExpiry (fails : List Fail) (info : ColdInfo)
  /-- R408: A rail leaving or failing to reach its tolerance takes every rail down with FAIL code 4. -/
  | railFault (rail : Nat)
  /-- R306: In every 10 ns of the frame time base, each active core on an owned ridge adds 1 to the phase counter
      of its context, with the phase chosen by the priority of R306. -/
  | altimeterPhaseCount
  /-- R45: In holdover, the estimated offset grows past FRM_SYNC_LIMIT (SYNC_TOL) or past 10 µs (SYNC_FAULT, free
      running). -/
  | holdoverOffsetLimit (offset : Nat)
  /-- R329: A receive flow idle for twice NET_FLOW_IDLE frames is freed without a FLOW_CLOSE. -/
  | receiveFlowIdleFree (f : Nat)
  /-- R347: A PCI Express port leaves reset as its link trains up, and HIF_EVENT.PORT_RESET is set for that port. -/
  | pcieLinkUp (p : Nat) (far : PcieEnd)
  /-- R232: A host-tier read whose completion does not arrive within the timeout the host programs fails as a bus
      error with cause 2. -/
  | pcieCompletionTimeout (g n : Nat)
  /-- R408: PWR_EN asserted again after it was deasserted lets the power stage sequence the package rails up and
      start the package. -/
  | pwrEnAssert (info : ColdInfo)
  /-- R398: Input rising back above 48.0 V clears PWR_STATUS.UV_BAND and restores the power limit to PWR_LIMIT. -/
  | underVoltageBandExit (mv : Nat)
  /-- R398: Input falling below 36 V stops the steward, store and sensors, leaving the real-time clock on its
      supercapacitor. -/
  | standbyPowerLoss
  /-- R315: A received frame that fails FCS, IPv6 length, UDP checksum or PCRC, or that carries a reserved type or
      subtype, is dropped and counted in NET_DROPS. -/
  | receivedFrameDrop (p : Packet)
  deriving DecidableEq, Repr

end Sys2Proof
end

