-- ==== Sys2Proof/Decode.lean ====
section
/-! DEFINITION. The command a table word spells. No row of spec/opcode_table.json gives any bits (every "fields" list is
empty): the commands of the block are events, register accesses, packets and instruction issues, not words of one
encoding. The instruction words of a core are decoded in Machine/Operands.lean. -/

namespace Sys2Proof

/-- The command of a row that gives bits: there is none. -/
def decodeTableWord (_nbits _w : Nat) : Option Instr := none

end Sys2Proof
end

