-- ==== Sys2Proof/Config.lean ====
section
/-! DEFINITION. The values the spec leaves open, as constants without a body: nothing in Lean can evaluate them, so a
statement about a model that uses one holds for every value. Free values are applied to State.freeCtr, which each use
advances (log entry 2). -/

namespace Sys2Proof.Config

/-- The n-th free 64-bit value. -/
opaque freeWord : Nat → Word

/-- The n-th free byte. -/
opaque freeByte : Nat → Byte

/-- The n-th free choice. -/
opaque freeBool : Nat → Bool

/-! ### Fuses and the store as manufactured (R360 to R363, R379; log entry 33) -/

/-- The fused key hashes by slot. -/
opaque edKeyHash : Nat → List Byte

opaque mldsaKeyHash : Nat → List Byte

/-- Byte o of firmware slot n as manufactured, by its key n × 2^26 + o. -/
opaque storeByte : Nat → Byte

/-- The fused seeds of the device keys (R362). -/
opaque edSeed : List Byte

opaque mldsaSeed : List Byte

/-- The certificate chain of a key type. -/
opaque certChain : Nat → List Byte

/-- The module serial. -/
opaque serial : Word

/-- The subsystem IDs of the steward's board record (Table HOST-1). -/
opaque subsystem : Nat

/-- The factory calibration record. -/
opaque calRecord : List Byte

/-- The repair resources of an HBM bank group (R377). -/
opaque pprRows : Nat

/-- An MCTP control message: the endpoint number it leaves, from the old one, and the answer (R364). -/
opaque mctpEid : Nat → List Byte → Nat

opaque mctpAnswer : Nat → List Byte → List Byte

end Sys2Proof.Config
end

