-- ==== Sys2Proof/Machine/Reg.lean ====
section
/-! DEFINITION. The names of the 315 registers of the module (the register tables of spec/02_frames.md to
spec/16_electrical_thermal.md) and the key of one register of the map. -/

namespace Sys2Proof.Machine

/-- The registers of the register tables, under the spec's mnemonics. -/
inductive RegName where
  | FRM_CTRL | FRM_PERIOD | FRM_COUNT | FRM_TIME | FRM_START_TIME | FRM_START_FRAME | FRM_TICK_TIME
  | FRM_SYNC_STATUS | FRM_SYNC_LIMIT | FRM_EVENT | FRM_EVENT_EN | FRM_SCHED_LEN | FRM_SCHED_EPOCH | FRM_NOW
  | FRM_SCHED_A | FRM_SCHED_B | FRM_WDOG | FRM_STALL_THRESH | FRM_OVR_COUNT | FRM_OVR_LAST
  | FRM_OVR_LAST_FRAME | FRM_OVR_MAX | FRM_WDOG_HALT | FRM_WDOG_FRAME | FRM_CTX_CTRL | FRM_STALL_SNAP0
  | FRM_STALL_SNAP1 | FRM_STALL_SNAP2 | FRM_STALL_MISSED | FRM_IN_HIGH | FRM_IN_LOW | FRM_IN_DEADLINE
  | FRM_IN_LEVEL | FRM_IN_ADMITTED | FRM_IN_DEFERRED | FRM_IN_REFUSED | CORE_CTX_ISTORE | CORE_CTX_STATE
  | CORE_LOAD_ADDR | CORE_LOAD_CTRL | CORE_LOAD_STATUS | CORE_BT_INDEX | CORE_BT_DATA0 | CORE_BT_DATA1
  | CORE_BT_DATA2 | CORE_BT_DATA3 | CORE_DEFER_MAX | CORE_FAULT | CORE_FAULT_ADDR | CORE_EVENT | CORE_FIRES
  | CORE_SWITCHES | CORE_IDLE_CYCLES | CORE_SIDEQ_WAITS | CORE_TOKEN | CORE_ID | CORE_STATUS | CORE_CYCLES
  | CORE_SLOT_STAT | CORE_CTX_HALT | CORE_FAULT_EVENT | CORE_FAULT_EVENT_EN | MTX_FLAGS | MTX_ACC_STATE
  | MTX_LAYER | MTX_RPL_COUNT | MTX_RPL_LAST | MTX_RPL_LAST_FRAME | MTX_TRV_NEXT | MTX_TRV_LAND
  | MTX_TRV_LATE | MTX_TRV_DUE | MTX_TRV_STATUS | MTX_EVENT | MTX_EVENT_EN | VEC_FLAGS | VEC_UPD_COUNT
  | VEC_UPD_LAST | VEC_UPD_SKIPS | VEC_SEED | VEC_EVENT | VEC_EVENT_EN | PLC_EVENT | PLC_EVENT_EN
  | PLC_HOST_BASE | PLC_WIN | PLC_REFUSE | PLC_LEND_REFUSED | PLC_ENT_CTL | PLC_ENT_BASE | PLC_ENT_SIZE
  | PLC_ENT_TARGET | PLC_BOR_CTL | PLC_BOR_BASE | PLC_BOR_SIZE | PLC_BOR_END | PLC_LEND_CTL | PLC_LEND_BASE
  | PLC_LEND_SIZE | PLC_LEND_END | DMA_EVENT | DMA_EVENT_EN | DMA_SPUR_TIMEOUT | DMA_CORE_CFG | DMA_OWNER
  | DMA_BUF_STAT | DMA_SPUR_STAT | DMA_STOPPED | DMA_CORE_CTRL | DMA_CH_CTL | DMA_CH_SRC | DMA_CH_DST
  | DMA_CH_COUNTS | DMA_CH_LOOP1 | DMA_CH_LOOP2 | DMA_CH_LOOP3 | DMA_CH_AUX | DMA_CH_SHD | DMA_CH_CFG
  | DMA_CH_PACE | DMA_CH_PACE_ADDR | DMA_CH_STATUS | DMA_CH_DONE | DMA_CH_ERR | DMA_CH_ERR_ADDR
  | DMA_CH_SUPPRESS | DMA_CH_CTRL | DMA_CH_RETRIES | KV_EVENT | KV_EVENT_EN | KV_CNT_ERR | KV_CNT_ERRS
  | KV_REFUSE | KV_POOL_CFG | KV_POOL_CB | KV_POOL_MARKS | KV_POOL_ALLOCS | KV_POOL_FAILS | KV_POOL_RETURNS
  | KV_SEG_STATUS | KV_SEG_CTL | KV_SEG_BASE | KV_SEG_CNT | KV_SEG_RING | COL_EVENT | COL_EVENT_EN
  | COL_REFUSE | COL_PROTO | COL_LEND_CFG | COL_LEND_STAT | COL_XLATE | COL_CTR_CFG | COL_CTR_HOME
  | COL_CTR_STATE | COL_CTR_ARR | COL_CORE_BOOST | COL_WAIT_CYCLES | COL_MQ_REFUSED | COL_MQ_CFG
  | COL_MQ_STATE | TRN_EVENT | TRN_EVENT_EN | TRN_STEP_CFG | TRN_VOTE_FRAME | TRN_STEP_LIMIT | TRN_STEP_NEXT
  | TRN_STEP_CTRL | TRN_STEP_STATE | TRN_STEP_NUM | TRN_STEP_DONE | TRN_STEP_REC | TRN_LEDGER_BASE
  | TRN_LEDGER_SLOTS | TRN_VOTERS | TRN_COMMITS | TRN_ABORTS | TRN_LATE_KEPT | TRN_LATE_DROPPED | TRN_CHECKS
  | TRN_GNS_CFG | TRN_GNS_STATUS | TRN_ALT_CFG | TRN_ALT_INFO | TRN_ALT_MARK | TRN_ALT_RUN | TRN_ALT_STEP
  | TRN_GNS_LOCAL | TRN_GNS_TOTAL | TRN_GNS_COUNT | TRN_GNS_WEIGHT | NET_NODE_ID | NET_ADDR_HI | NET_ADDR_LO
  | NET_MAC_BASE | NET_NODE_TBL | NET_NODE_CNT | NET_MCAST_HI | NET_MCAST_LO | NET_UDP | NET_QOS | NET_MTU
  | NET_TIMERS | NET_CPL_TIMEOUT | NET_WINDOW | NET_REL_POLL | NET_EVENT | NET_EVENT_EN | NET_FLOW_STAT
  | NET_FLOW_FAILS | NET_FLOW_FAIL_LAST | NET_DROPS | NET_REFUSE | NET_PTP_CFG | NET_PTP_TX | NET_PORT_CFG
  | NET_PORT_LANES | NET_LINK_PEER | NET_LINK_STATUS | NET_LINK_FEC | NET_LINK_TX | NET_LINK_RX
  | NET_LINK_RETX | NET_LINK_CE | NET_MG_CTL | NET_MG_UP | NET_MG_FWD | NET_MIR_CTL | NET_MIR_BASE
  | NET_MIR_SIZE | NET_MIR_OFF | HIF_EVENT | HIF_EVENT_EN | HIF_BOOT | HIF_RESET | HIF_ADMIN | HIF_FETCH_LEAD
  | HIF_IRQ_ROUTE | HIF_APT_BLOCKED | HIF_CPL_DROPPED | HIF_APT | HIF_LINK | HIF_MBX | HIF_CR_BASE
  | HIF_CR_CFG | HIF_CC_BASE | HIF_CC_CFG | HIF_RING_HDR | HIF_RING_STAT | HIF_RING_OUT | HIF_SVC_BASE
  | HIF_SVC_CFG | HIF_SVC_STAT | ERR_EVENT | ERR_EVENT_EN | ERR_LAST_UE | ERR_LAST_UE_ADDR | ERR_LAST_CE
  | ERR_LAST_CE_ADDR | ERR_FATAL | ERR_ENV | ERR_SCRUB | ERR_SCRUB_STAT | ERR_CE_COUNT | ERR_UE_COUNT
  | BIST_EVENT | BIST_EVENT_EN | BIST_RT_CFG | BIST_RT_STAT | BIST_SD_CFG | BIST_FAIL_COUNT | BIST_FAIL_LAST
  | BIST_FAIL_ADDR | BIST_LOOP_CTRL | BIST_LOOP_STAT | BIST_ANA_STAT | BIST_REPAIR | CAL_EVENT | CAL_EVENT_EN
  | CAL_STATUS | CAL_REFUSE | CAL_FACTORY | CAL_USER | LIFE_EVENT | LIFE_EVENT_EN | LIFE_UTC | LIFE_UTC_SET
  | LIFE_STATUS | LIFE_POH | LIFE_CYCLES | LIFE_WEAR | LIFE_HBM_CE | LIFE_HBM_UE | LIFE_REPAIRS | TXN_EVENT
  | TXN_EVENT_EN | TXN_CTRL | TXN_STATUS | TXN_TIMEOUT | TXN_OPEN_FRAME | TXN_APPLY_FRAME | TXN_CONFLICT_ADDR
  | TXN_COUNT | PWR_EVENT | PWR_EVENT_EN | PWR_LIMIT | PWR_CLK_MIN | PWR_STATUS | PWR_INPUT | PWR_PEAK
  | PWR_TEMP | PWR_FLOW | PWR_THERM_CFG | PWR_SD | PWR_THR_TIME | PWR_ENERGY
  deriving DecidableEq, Repr

/-- One register: its name and up to three instance numbers (core, context, entry, …), 0 where unused. -/
structure Reg where
  name : RegName
  i : Nat := 0
  j : Nat := 0
  k : Nat := 0
  deriving DecidableEq, Repr

/-- A field of a register: bits [lo + len - 1 : lo]. -/
structure Fld where
  reg : RegName
  lo : Nat
  len : Nat
  deriving DecidableEq, Repr

/-- The access codes of Table SC-4 (R12). -/
inductive Access where | rw | ro | w1c | wo | rws | rt
  deriving DecidableEq, Repr

/-- A field of a register table: first bit, width, access code, Reset column. -/
structure FieldInfo where
  lo : Nat
  len : Nat
  acc : Access
  rst : Nat
  deriving DecidableEq, Repr

/-- A register of the map: BAR 0 offset of its first instance, stride and count of each index, fields. -/
structure RegInfo where
  base : Nat
  dims : List (Nat × Nat)
  fields : List FieldInfo
  deriving DecidableEq, Repr

end Sys2Proof.Machine
end

