-- ==== Sys2Proof/Machine/Fields.lean ====
section
/-! DEFINITION. The fields of the register tables, by name: REGISTER_FIELD. -/

namespace Sys2Proof.Machine.F
open RegName

abbrev FRM_CTRL_RUN : Fld := ⟨.FRM_CTRL, 0, 1⟩
abbrev FRM_CTRL_SYNC_EN : Fld := ⟨.FRM_CTRL, 1, 1⟩
abbrev FRM_PERIOD_PERIOD : Fld := ⟨.FRM_PERIOD, 0, 27⟩
abbrev FRM_COUNT_FRAME : Fld := ⟨.FRM_COUNT, 0, 64⟩
abbrev FRM_TIME_TIME : Fld := ⟨.FRM_TIME, 0, 27⟩
abbrev FRM_START_TIME_TIME : Fld := ⟨.FRM_START_TIME, 0, 64⟩
abbrev FRM_START_FRAME_FRAME : Fld := ⟨.FRM_START_FRAME, 0, 64⟩
abbrev FRM_TICK_TIME_TIME : Fld := ⟨.FRM_TICK_TIME, 0, 64⟩
abbrev FRM_SYNC_STATUS_STATE : Fld := ⟨.FRM_SYNC_STATUS, 0, 3⟩
abbrev FRM_SYNC_STATUS_PORT : Fld := ⟨.FRM_SYNC_STATUS, 8, 4⟩
abbrev FRM_SYNC_STATUS_OFFSET : Fld := ⟨.FRM_SYNC_STATUS, 32, 32⟩
abbrev FRM_SYNC_LIMIT_LIMIT : Fld := ⟨.FRM_SYNC_LIMIT, 0, 16⟩
abbrev FRM_EVENT_SYNC_TOL : Fld := ⟨.FRM_EVENT, 0, 1⟩
abbrev FRM_EVENT_SYNC_FAULT : Fld := ⟨.FRM_EVENT, 1, 1⟩
abbrev FRM_EVENT_HOLDOVER : Fld := ⟨.FRM_EVENT, 2, 1⟩
abbrev FRM_EVENT_START_MISSED : Fld := ⟨.FRM_EVENT, 3, 1⟩
abbrev FRM_EVENT_OVERRUN : Fld := ⟨.FRM_EVENT, 4, 4⟩
abbrev FRM_EVENT_WDOG : Fld := ⟨.FRM_EVENT, 8, 4⟩
abbrev FRM_EVENT_STALL : Fld := ⟨.FRM_EVENT, 12, 4⟩
abbrev FRM_EVENT_INTAKE_CLOSED : Fld := ⟨.FRM_EVENT, 16, 4⟩
abbrev FRM_EVENT_DEFERRED : Fld := ⟨.FRM_EVENT, 20, 4⟩
abbrev FRM_EVENT_EN_EN : Fld := ⟨.FRM_EVENT_EN, 0, 24⟩
abbrev FRM_SCHED_LEN_LEN_M1 : Fld := ⟨.FRM_SCHED_LEN, 0, 6⟩
abbrev FRM_SCHED_EPOCH_EPOCH : Fld := ⟨.FRM_SCHED_EPOCH, 0, 64⟩
abbrev FRM_NOW_TIME : Fld := ⟨.FRM_NOW, 0, 64⟩
abbrev FRM_SCHED_A_CODE_0 : Fld := ⟨.FRM_SCHED_A, 0, 3⟩
abbrev FRM_SCHED_A_CODE_1 : Fld := ⟨.FRM_SCHED_A, 4, 3⟩
abbrev FRM_SCHED_A_CODE_2 : Fld := ⟨.FRM_SCHED_A, 8, 3⟩
abbrev FRM_SCHED_A_CODE_3 : Fld := ⟨.FRM_SCHED_A, 12, 3⟩
abbrev FRM_SCHED_A_CODE_4 : Fld := ⟨.FRM_SCHED_A, 16, 3⟩
abbrev FRM_SCHED_A_CODE_5 : Fld := ⟨.FRM_SCHED_A, 20, 3⟩
abbrev FRM_SCHED_A_CODE_6 : Fld := ⟨.FRM_SCHED_A, 24, 3⟩
abbrev FRM_SCHED_A_CODE_7 : Fld := ⟨.FRM_SCHED_A, 28, 3⟩
abbrev FRM_SCHED_A_CODE_8 : Fld := ⟨.FRM_SCHED_A, 32, 3⟩
abbrev FRM_SCHED_A_CODE_9 : Fld := ⟨.FRM_SCHED_A, 36, 3⟩
abbrev FRM_SCHED_A_CODE_10 : Fld := ⟨.FRM_SCHED_A, 40, 3⟩
abbrev FRM_SCHED_A_CODE_11 : Fld := ⟨.FRM_SCHED_A, 44, 3⟩
abbrev FRM_SCHED_A_CODE_12 : Fld := ⟨.FRM_SCHED_A, 48, 3⟩
abbrev FRM_SCHED_A_CODE_13 : Fld := ⟨.FRM_SCHED_A, 52, 3⟩
abbrev FRM_SCHED_A_CODE_14 : Fld := ⟨.FRM_SCHED_A, 56, 3⟩
abbrev FRM_SCHED_A_CODE_15 : Fld := ⟨.FRM_SCHED_A, 60, 3⟩
abbrev FRM_SCHED_B_CODE_0 : Fld := ⟨.FRM_SCHED_B, 0, 3⟩
abbrev FRM_SCHED_B_CODE_1 : Fld := ⟨.FRM_SCHED_B, 4, 3⟩
abbrev FRM_SCHED_B_CODE_2 : Fld := ⟨.FRM_SCHED_B, 8, 3⟩
abbrev FRM_SCHED_B_CODE_3 : Fld := ⟨.FRM_SCHED_B, 12, 3⟩
abbrev FRM_SCHED_B_CODE_4 : Fld := ⟨.FRM_SCHED_B, 16, 3⟩
abbrev FRM_SCHED_B_CODE_5 : Fld := ⟨.FRM_SCHED_B, 20, 3⟩
abbrev FRM_SCHED_B_CODE_6 : Fld := ⟨.FRM_SCHED_B, 24, 3⟩
abbrev FRM_SCHED_B_CODE_7 : Fld := ⟨.FRM_SCHED_B, 28, 3⟩
abbrev FRM_SCHED_B_CODE_8 : Fld := ⟨.FRM_SCHED_B, 32, 3⟩
abbrev FRM_SCHED_B_CODE_9 : Fld := ⟨.FRM_SCHED_B, 36, 3⟩
abbrev FRM_SCHED_B_CODE_10 : Fld := ⟨.FRM_SCHED_B, 40, 3⟩
abbrev FRM_SCHED_B_CODE_11 : Fld := ⟨.FRM_SCHED_B, 44, 3⟩
abbrev FRM_SCHED_B_CODE_12 : Fld := ⟨.FRM_SCHED_B, 48, 3⟩
abbrev FRM_SCHED_B_CODE_13 : Fld := ⟨.FRM_SCHED_B, 52, 3⟩
abbrev FRM_SCHED_B_CODE_14 : Fld := ⟨.FRM_SCHED_B, 56, 3⟩
abbrev FRM_SCHED_B_CODE_15 : Fld := ⟨.FRM_SCHED_B, 60, 3⟩
abbrev FRM_WDOG_W : Fld := ⟨.FRM_WDOG, 0, 8⟩
abbrev FRM_STALL_THRESH_THRESH : Fld := ⟨.FRM_STALL_THRESH, 0, 32⟩
abbrev FRM_OVR_COUNT_COUNT : Fld := ⟨.FRM_OVR_COUNT, 0, 64⟩
abbrev FRM_OVR_LAST_TIME : Fld := ⟨.FRM_OVR_LAST, 0, 32⟩
abbrev FRM_OVR_LAST_CORE : Fld := ⟨.FRM_OVR_LAST, 32, 8⟩
abbrev FRM_OVR_LAST_FRAME_FRAME : Fld := ⟨.FRM_OVR_LAST_FRAME, 0, 64⟩
abbrev FRM_OVR_MAX_TIME : Fld := ⟨.FRM_OVR_MAX, 0, 32⟩
abbrev FRM_OVR_MAX_CLEAR : Fld := ⟨.FRM_OVR_MAX, 32, 1⟩
abbrev FRM_WDOG_HALT_HALTED : Fld := ⟨.FRM_WDOG_HALT, 0, 1⟩
abbrev FRM_WDOG_HALT_CORE : Fld := ⟨.FRM_WDOG_HALT, 8, 8⟩
abbrev FRM_WDOG_FRAME_FRAME : Fld := ⟨.FRM_WDOG_FRAME, 0, 64⟩
abbrev FRM_CTX_CTRL_RESUME : Fld := ⟨.FRM_CTX_CTRL, 0, 1⟩
abbrev FRM_CTX_CTRL_DISCARD : Fld := ⟨.FRM_CTX_CTRL, 1, 1⟩
abbrev FRM_STALL_SNAP0_CORE : Fld := ⟨.FRM_STALL_SNAP0, 0, 8⟩
abbrev FRM_STALL_SNAP0_QUEUES : Fld := ⟨.FRM_STALL_SNAP0, 8, 7⟩
abbrev FRM_STALL_SNAP0_STRANDS : Fld := ⟨.FRM_STALL_SNAP0, 16, 8⟩
abbrev FRM_STALL_SNAP0_DURATION : Fld := ⟨.FRM_STALL_SNAP0, 32, 32⟩
abbrev FRM_STALL_SNAP1_FRAME : Fld := ⟨.FRM_STALL_SNAP1, 0, 64⟩
abbrev FRM_STALL_SNAP2_WAITING : Fld := ⟨.FRM_STALL_SNAP2, 0, 16⟩
abbrev FRM_STALL_SNAP2_OLDEST : Fld := ⟨.FRM_STALL_SNAP2, 16, 16⟩
abbrev FRM_STALL_SNAP2_DMA_MISSING : Fld := ⟨.FRM_STALL_SNAP2, 32, 16⟩
abbrev FRM_STALL_SNAP2_MSG_MISSING : Fld := ⟨.FRM_STALL_SNAP2, 48, 1⟩
abbrev FRM_STALL_SNAP2_COL_MISSING : Fld := ⟨.FRM_STALL_SNAP2, 49, 1⟩
abbrev FRM_STALL_SNAP2_TICK_MISSING : Fld := ⟨.FRM_STALL_SNAP2, 50, 1⟩
abbrev FRM_STALL_SNAP2_SPUR_MISSING : Fld := ⟨.FRM_STALL_SNAP2, 51, 1⟩
abbrev FRM_STALL_MISSED_COUNT : Fld := ⟨.FRM_STALL_MISSED, 0, 32⟩
abbrev FRM_IN_HIGH_HIGH : Fld := ⟨.FRM_IN_HIGH, 0, 17⟩
abbrev FRM_IN_LOW_LOW : Fld := ⟨.FRM_IN_LOW, 0, 17⟩
abbrev FRM_IN_DEADLINE_FRAMES : Fld := ⟨.FRM_IN_DEADLINE, 0, 32⟩
abbrev FRM_IN_LEVEL_LEVEL : Fld := ⟨.FRM_IN_LEVEL, 0, 17⟩
abbrev FRM_IN_LEVEL_CLOSED : Fld := ⟨.FRM_IN_LEVEL, 32, 1⟩
abbrev FRM_IN_LEVEL_CREDIT : Fld := ⟨.FRM_IN_LEVEL, 33, 17⟩
abbrev FRM_IN_ADMITTED_COUNT : Fld := ⟨.FRM_IN_ADMITTED, 0, 64⟩
abbrev FRM_IN_DEFERRED_COUNT : Fld := ⟨.FRM_IN_DEFERRED, 0, 64⟩
abbrev FRM_IN_REFUSED_COUNT : Fld := ⟨.FRM_IN_REFUSED, 0, 64⟩
abbrev CORE_CTX_ISTORE_BASE : Fld := ⟨.CORE_CTX_ISTORE, 0, 5⟩
abbrev CORE_CTX_ISTORE_SIZE : Fld := ⟨.CORE_CTX_ISTORE, 8, 6⟩
abbrev CORE_CTX_STATE_STATE : Fld := ⟨.CORE_CTX_STATE, 0, 2⟩
abbrev CORE_CTX_STATE_STRANDS : Fld := ⟨.CORE_CTX_STATE, 8, 8⟩
abbrev CORE_CTX_STATE_READY : Fld := ⟨.CORE_CTX_STATE, 16, 10⟩
abbrev CORE_CTX_STATE_WAITING : Fld := ⟨.CORE_CTX_STATE, 32, 10⟩
abbrev CORE_LOAD_ADDR_ADDR : Fld := ⟨.CORE_LOAD_ADDR, 0, 64⟩
abbrev CORE_LOAD_CTRL_GO : Fld := ⟨.CORE_LOAD_CTRL, 0, 1⟩
abbrev CORE_LOAD_CTRL_UNLOAD : Fld := ⟨.CORE_LOAD_CTRL, 1, 1⟩
abbrev CORE_LOAD_STATUS_STATE : Fld := ⟨.CORE_LOAD_STATUS, 0, 2⟩
abbrev CORE_LOAD_STATUS_ERROR : Fld := ⟨.CORE_LOAD_STATUS, 8, 8⟩
abbrev CORE_BT_INDEX_BLOCK : Fld := ⟨.CORE_BT_INDEX, 0, 9⟩
abbrev CORE_BT_DATA0_WORD : Fld := ⟨.CORE_BT_DATA0, 0, 64⟩
abbrev CORE_BT_DATA1_WORD : Fld := ⟨.CORE_BT_DATA1, 0, 64⟩
abbrev CORE_BT_DATA2_WORD : Fld := ⟨.CORE_BT_DATA2, 0, 64⟩
abbrev CORE_BT_DATA3_WORD : Fld := ⟨.CORE_BT_DATA3, 0, 64⟩
abbrev CORE_DEFER_MAX_MAX : Fld := ⟨.CORE_DEFER_MAX, 0, 4⟩
abbrev CORE_FAULT_CODE : Fld := ⟨.CORE_FAULT, 0, 8⟩
abbrev CORE_FAULT_STRAND : Fld := ⟨.CORE_FAULT, 8, 3⟩
abbrev CORE_FAULT_BLOCK : Fld := ⟨.CORE_FAULT, 16, 9⟩
abbrev CORE_FAULT_INDEX : Fld := ⟨.CORE_FAULT, 32, 12⟩
abbrev CORE_FAULT_ADDR_ADDR : Fld := ⟨.CORE_FAULT_ADDR, 0, 64⟩
abbrev CORE_EVENT_FAULT : Fld := ⟨.CORE_EVENT, 0, 1⟩
abbrev CORE_EVENT_LOAD_DONE : Fld := ⟨.CORE_EVENT, 1, 1⟩
abbrev CORE_EVENT_LOAD_ERR : Fld := ⟨.CORE_EVENT, 2, 1⟩
abbrev CORE_EVENT_FCLOSE_EMPTY : Fld := ⟨.CORE_EVENT, 3, 1⟩
abbrev CORE_FIRES_COUNT : Fld := ⟨.CORE_FIRES, 0, 64⟩
abbrev CORE_SWITCHES_COUNT : Fld := ⟨.CORE_SWITCHES, 0, 64⟩
abbrev CORE_IDLE_CYCLES_COUNT : Fld := ⟨.CORE_IDLE_CYCLES, 0, 64⟩
abbrev CORE_SIDEQ_WAITS_COUNT : Fld := ⟨.CORE_SIDEQ_WAITS, 0, 64⟩
abbrev CORE_TOKEN_COUNT : Fld := ⟨.CORE_TOKEN, 0, 12⟩
abbrev CORE_ID_PHYS : Fld := ⟨.CORE_ID, 0, 9⟩
abbrev CORE_ID_LOGICAL : Fld := ⟨.CORE_ID, 16, 8⟩
abbrev CORE_STATUS_OWNER : Fld := ⟨.CORE_STATUS, 0, 3⟩
abbrev CORE_STATUS_MTX_Q : Fld := ⟨.CORE_STATUS, 8, 4⟩
abbrev CORE_STATUS_MTX_FULL : Fld := ⟨.CORE_STATUS, 12, 1⟩
abbrev CORE_STATUS_VEC_Q : Fld := ⟨.CORE_STATUS, 16, 4⟩
abbrev CORE_STATUS_VEC_FULL : Fld := ⟨.CORE_STATUS, 20, 1⟩
abbrev CORE_CYCLES_COUNT : Fld := ⟨.CORE_CYCLES, 0, 64⟩
abbrev CORE_SLOT_STAT_IN_USE : Fld := ⟨.CORE_SLOT_STAT, 0, 6⟩
abbrev CORE_SLOT_STAT_SIDEQ : Fld := ⟨.CORE_SLOT_STAT, 8, 6⟩
abbrev CORE_SLOT_STAT_PEAK : Fld := ⟨.CORE_SLOT_STAT, 16, 6⟩
abbrev CORE_CTX_HALT_HALTED : Fld := ⟨.CORE_CTX_HALT, 0, 1⟩
abbrev CORE_CTX_HALT_CORE : Fld := ⟨.CORE_CTX_HALT, 8, 8⟩
abbrev CORE_CTX_HALT_RESUME : Fld := ⟨.CORE_CTX_HALT, 16, 1⟩
abbrev CORE_CTX_HALT_DISCARD : Fld := ⟨.CORE_CTX_HALT, 17, 1⟩
abbrev CORE_FAULT_EVENT_FAULT : Fld := ⟨.CORE_FAULT_EVENT, 0, 4⟩
abbrev CORE_FAULT_EVENT_EN_EN : Fld := ⟨.CORE_FAULT_EVENT_EN, 0, 4⟩
abbrev MTX_FLAGS_OVF : Fld := ⟨.MTX_FLAGS, 0, 1⟩
abbrev MTX_FLAGS_UNF : Fld := ⟨.MTX_FLAGS, 1, 1⟩
abbrev MTX_FLAGS_INV : Fld := ⟨.MTX_FLAGS, 2, 1⟩
abbrev MTX_ACC_STATE_MODE0 : Fld := ⟨.MTX_ACC_STATE, 0, 2⟩
abbrev MTX_ACC_STATE_MODE1 : Fld := ⟨.MTX_ACC_STATE, 2, 2⟩
abbrev MTX_ACC_STATE_BUSY0 : Fld := ⟨.MTX_ACC_STATE, 4, 1⟩
abbrev MTX_ACC_STATE_BUSY1 : Fld := ⟨.MTX_ACC_STATE, 5, 1⟩
abbrev MTX_LAYER_STATE : Fld := ⟨.MTX_LAYER, 0, 2⟩
abbrev MTX_LAYER_FLAG : Fld := ⟨.MTX_LAYER, 2, 1⟩
abbrev MTX_LAYER_LAYER_ID : Fld := ⟨.MTX_LAYER, 16, 16⟩
abbrev MTX_RPL_COUNT_COUNT : Fld := ⟨.MTX_RPL_COUNT, 0, 64⟩
abbrev MTX_RPL_LAST_LAYER_ID : Fld := ⟨.MTX_RPL_LAST, 0, 16⟩
abbrev MTX_RPL_LAST_FROM_FMT : Fld := ⟨.MTX_RPL_LAST, 16, 4⟩
abbrev MTX_RPL_LAST_TO_FMT : Fld := ⟨.MTX_RPL_LAST, 20, 4⟩
abbrev MTX_RPL_LAST_EXHAUSTED : Fld := ⟨.MTX_RPL_LAST, 24, 1⟩
abbrev MTX_RPL_LAST_CLASS : Fld := ⟨.MTX_RPL_LAST, 25, 1⟩
abbrev MTX_RPL_LAST_FRAME_FRAME : Fld := ⟨.MTX_RPL_LAST_FRAME, 0, 64⟩
abbrev MTX_TRV_NEXT_NEXT_CORE : Fld := ⟨.MTX_TRV_NEXT, 0, 8⟩
abbrev MTX_TRV_NEXT_LAST : Fld := ⟨.MTX_TRV_NEXT, 8, 1⟩
abbrev MTX_TRV_NEXT_RQ : Fld := ⟨.MTX_TRV_NEXT, 9, 3⟩
abbrev MTX_TRV_NEXT_SKIP_EN : Fld := ⟨.MTX_TRV_NEXT, 12, 1⟩
abbrev MTX_TRV_NEXT_FIRST : Fld := ⟨.MTX_TRV_NEXT, 13, 1⟩
abbrev MTX_TRV_NEXT_CONTRIB : Fld := ⟨.MTX_TRV_NEXT, 16, 16⟩
abbrev MTX_TRV_NEXT_NEXT_NODE : Fld := ⟨.MTX_TRV_NEXT, 44, 20⟩
abbrev MTX_TRV_LAND_ADDR : Fld := ⟨.MTX_TRV_LAND, 0, 64⟩
abbrev MTX_TRV_LATE_ADDR : Fld := ⟨.MTX_TRV_LATE, 0, 64⟩
abbrev MTX_TRV_DUE_FRAME : Fld := ⟨.MTX_TRV_DUE, 0, 64⟩
abbrev MTX_TRV_STATUS_STATE : Fld := ⟨.MTX_TRV_STATUS, 0, 2⟩
abbrev MTX_TRV_STATUS_CREDIT : Fld := ⟨.MTX_TRV_STATUS, 2, 1⟩
abbrev MTX_TRV_STATUS_LATE : Fld := ⟨.MTX_TRV_STATUS, 3, 1⟩
abbrev MTX_TRV_STATUS_CONTRIB : Fld := ⟨.MTX_TRV_STATUS, 16, 32⟩
abbrev MTX_TRV_STATUS_SKIPS : Fld := ⟨.MTX_TRV_STATUS, 48, 8⟩
abbrev MTX_EVENT_REPLAY : Fld := ⟨.MTX_EVENT, 0, 4⟩
abbrev MTX_EVENT_EXHAUST : Fld := ⟨.MTX_EVENT, 4, 4⟩
abbrev MTX_EVENT_SKIP : Fld := ⟨.MTX_EVENT, 8, 4⟩
abbrev MTX_EVENT_EN_EN : Fld := ⟨.MTX_EVENT_EN, 0, 12⟩
abbrev VEC_FLAGS_OVF : Fld := ⟨.VEC_FLAGS, 0, 1⟩
abbrev VEC_FLAGS_UNF : Fld := ⟨.VEC_FLAGS, 1, 1⟩
abbrev VEC_FLAGS_INV : Fld := ⟨.VEC_FLAGS, 2, 1⟩
abbrev VEC_UPD_COUNT_COUNT : Fld := ⟨.VEC_UPD_COUNT, 0, 64⟩
abbrev VEC_UPD_LAST_LAYER_ID : Fld := ⟨.VEC_UPD_LAST, 0, 16⟩
abbrev VEC_UPD_LAST_RULE : Fld := ⟨.VEC_UPD_LAST, 16, 2⟩
abbrev VEC_UPD_LAST_PHASE : Fld := ⟨.VEC_UPD_LAST, 18, 1⟩
abbrev VEC_UPD_LAST_SKIPPED : Fld := ⟨.VEC_UPD_LAST, 19, 1⟩
abbrev VEC_UPD_LAST_OVF : Fld := ⟨.VEC_UPD_LAST, 20, 1⟩
abbrev VEC_UPD_LAST_INV : Fld := ⟨.VEC_UPD_LAST, 21, 1⟩
abbrev VEC_UPD_LAST_STEP_DONE : Fld := ⟨.VEC_UPD_LAST, 22, 1⟩
abbrev VEC_UPD_LAST_T : Fld := ⟨.VEC_UPD_LAST, 32, 32⟩
abbrev VEC_UPD_SKIPS_COUNT : Fld := ⟨.VEC_UPD_SKIPS, 0, 64⟩
abbrev VEC_SEED_SEED : Fld := ⟨.VEC_SEED, 0, 64⟩
abbrev VEC_EVENT_UPD_OVF : Fld := ⟨.VEC_EVENT, 0, 4⟩
abbrev VEC_EVENT_UPD_SKIP : Fld := ⟨.VEC_EVENT, 4, 4⟩
abbrev VEC_EVENT_UPD_INV : Fld := ⟨.VEC_EVENT, 8, 4⟩
abbrev VEC_EVENT_EN_EN : Fld := ⟨.VEC_EVENT_EN, 0, 12⟩
abbrev PLC_EVENT_LOAN_GRANT : Fld := ⟨.PLC_EVENT, 0, 1⟩
abbrev PLC_EVENT_LOAN_NOTICE : Fld := ⟨.PLC_EVENT, 1, 1⟩
abbrev PLC_EVENT_LOAN_END : Fld := ⟨.PLC_EVENT, 2, 1⟩
abbrev PLC_EVENT_LOAN_MISMATCH : Fld := ⟨.PLC_EVENT, 3, 1⟩
abbrev PLC_EVENT_REFUSED : Fld := ⟨.PLC_EVENT, 4, 1⟩
abbrev PLC_EVENT_EN_EN : Fld := ⟨.PLC_EVENT_EN, 0, 5⟩
abbrev PLC_HOST_BASE_BASE : Fld := ⟨.PLC_HOST_BASE, 16, 48⟩
abbrev PLC_WIN_BASE : Fld := ⟨.PLC_WIN, 0, 6⟩
abbrev PLC_WIN_SIZE : Fld := ⟨.PLC_WIN, 8, 6⟩
abbrev PLC_REFUSE_CODE : Fld := ⟨.PLC_REFUSE, 0, 8⟩
abbrev PLC_REFUSE_CTX : Fld := ⟨.PLC_REFUSE, 8, 2⟩
abbrev PLC_REFUSE_ENTRY : Fld := ⟨.PLC_REFUSE, 16, 10⟩
abbrev PLC_LEND_REFUSED_COUNT : Fld := ⟨.PLC_LEND_REFUSED, 0, 64⟩
abbrev PLC_ENT_CTL_VALID : Fld := ⟨.PLC_ENT_CTL, 0, 1⟩
abbrev PLC_ENT_CTL_TIER : Fld := ⟨.PLC_ENT_CTL, 1, 2⟩
abbrev PLC_ENT_CTL_RO : Fld := ⟨.PLC_ENT_CTL, 3, 1⟩
abbrev PLC_ENT_CTL_SPREAD : Fld := ⟨.PLC_ENT_CTL, 4, 1⟩
abbrev PLC_ENT_CTL_PORT : Fld := ⟨.PLC_ENT_CTL, 5, 1⟩
abbrev PLC_ENT_CTL_B_FIRST : Fld := ⟨.PLC_ENT_CTL, 6, 6⟩
abbrev PLC_ENT_CTL_B_COUNT_M1 : Fld := ⟨.PLC_ENT_CTL, 12, 4⟩
abbrev PLC_ENT_BASE_OBJ_BASE : Fld := ⟨.PLC_ENT_BASE, 0, 44⟩
abbrev PLC_ENT_SIZE_SIZE : Fld := ⟨.PLC_ENT_SIZE, 0, 44⟩
abbrev PLC_ENT_TARGET_TARGET : Fld := ⟨.PLC_ENT_TARGET, 0, 44⟩
abbrev PLC_BOR_CTL_VALID : Fld := ⟨.PLC_BOR_CTL, 0, 1⟩
abbrev PLC_BOR_CTL_STATE : Fld := ⟨.PLC_BOR_CTL, 8, 2⟩
abbrev PLC_BOR_CTL_LENDER : Fld := ⟨.PLC_BOR_CTL, 44, 20⟩
abbrev PLC_BOR_BASE_REMOTE_BASE : Fld := ⟨.PLC_BOR_BASE, 0, 44⟩
abbrev PLC_BOR_SIZE_SIZE : Fld := ⟨.PLC_BOR_SIZE, 0, 44⟩
abbrev PLC_BOR_END_END_FRAME : Fld := ⟨.PLC_BOR_END, 0, 64⟩
abbrev PLC_LEND_CTL_VALID : Fld := ⟨.PLC_LEND_CTL, 0, 1⟩
abbrev PLC_LEND_CTL_REVOKE : Fld := ⟨.PLC_LEND_CTL, 1, 1⟩
abbrev PLC_LEND_CTL_STATE : Fld := ⟨.PLC_LEND_CTL, 8, 2⟩
abbrev PLC_LEND_CTL_NOTICE : Fld := ⟨.PLC_LEND_CTL, 16, 16⟩
abbrev PLC_LEND_CTL_BORROWER : Fld := ⟨.PLC_LEND_CTL, 44, 20⟩
abbrev PLC_LEND_BASE_LOCAL_BASE : Fld := ⟨.PLC_LEND_BASE, 0, 44⟩
abbrev PLC_LEND_SIZE_SIZE : Fld := ⟨.PLC_LEND_SIZE, 0, 44⟩
abbrev PLC_LEND_END_END_FRAME : Fld := ⟨.PLC_LEND_END, 0, 64⟩
abbrev DMA_EVENT_BUS_ERR : Fld := ⟨.DMA_EVENT, 0, 4⟩
abbrev DMA_EVENT_STOP_ALL : Fld := ⟨.DMA_EVENT, 4, 4⟩
abbrev DMA_EVENT_POISON : Fld := ⟨.DMA_EVENT, 8, 4⟩
abbrev DMA_EVENT_ALLOC : Fld := ⟨.DMA_EVENT, 12, 4⟩
abbrev DMA_EVENT_EN_EN : Fld := ⟨.DMA_EVENT_EN, 0, 16⟩
abbrev DMA_SPUR_TIMEOUT_TIMEOUT : Fld := ⟨.DMA_SPUR_TIMEOUT, 0, 32⟩
abbrev DMA_CORE_CFG_ERR_MODE : Fld := ⟨.DMA_CORE_CFG, 0, 1⟩
abbrev DMA_CORE_CFG_RETRY : Fld := ⟨.DMA_CORE_CFG, 4, 4⟩
abbrev DMA_OWNER_OWNER_0 : Fld := ⟨.DMA_OWNER, 0, 2⟩
abbrev DMA_OWNER_OWNER_1 : Fld := ⟨.DMA_OWNER, 2, 2⟩
abbrev DMA_OWNER_OWNER_2 : Fld := ⟨.DMA_OWNER, 4, 2⟩
abbrev DMA_OWNER_OWNER_3 : Fld := ⟨.DMA_OWNER, 6, 2⟩
abbrev DMA_OWNER_OWNER_4 : Fld := ⟨.DMA_OWNER, 8, 2⟩
abbrev DMA_OWNER_OWNER_5 : Fld := ⟨.DMA_OWNER, 10, 2⟩
abbrev DMA_OWNER_OWNER_6 : Fld := ⟨.DMA_OWNER, 12, 2⟩
abbrev DMA_OWNER_OWNER_7 : Fld := ⟨.DMA_OWNER, 14, 2⟩
abbrev DMA_OWNER_OWNER_8 : Fld := ⟨.DMA_OWNER, 16, 2⟩
abbrev DMA_OWNER_OWNER_9 : Fld := ⟨.DMA_OWNER, 18, 2⟩
abbrev DMA_OWNER_OWNER_10 : Fld := ⟨.DMA_OWNER, 20, 2⟩
abbrev DMA_OWNER_OWNER_11 : Fld := ⟨.DMA_OWNER, 22, 2⟩
abbrev DMA_OWNER_OWNER_12 : Fld := ⟨.DMA_OWNER, 24, 2⟩
abbrev DMA_OWNER_OWNER_13 : Fld := ⟨.DMA_OWNER, 26, 2⟩
abbrev DMA_OWNER_OWNER_14 : Fld := ⟨.DMA_OWNER, 28, 2⟩
abbrev DMA_OWNER_OWNER_15 : Fld := ⟨.DMA_OWNER, 30, 2⟩
abbrev DMA_BUF_STAT_USED : Fld := ⟨.DMA_BUF_STAT, 0, 11⟩
abbrev DMA_BUF_STAT_READS : Fld := ⟨.DMA_BUF_STAT, 16, 10⟩
abbrev DMA_BUF_STAT_PEAK : Fld := ⟨.DMA_BUF_STAT, 32, 11⟩
abbrev DMA_SPUR_STAT_QUEUED : Fld := ⟨.DMA_SPUR_STAT, 0, 6⟩
abbrev DMA_STOPPED_STOPPED : Fld := ⟨.DMA_STOPPED, 0, 1⟩
abbrev DMA_CORE_CTRL_RESTART_ALL : Fld := ⟨.DMA_CORE_CTRL, 0, 1⟩
abbrev DMA_CORE_CTRL_ABORT_ALL : Fld := ⟨.DMA_CORE_CTRL, 1, 1⟩
abbrev DMA_CH_CTL_WORD : Fld := ⟨.DMA_CH_CTL, 0, 64⟩
abbrev DMA_CH_SRC_WORD : Fld := ⟨.DMA_CH_SRC, 0, 64⟩
abbrev DMA_CH_DST_WORD : Fld := ⟨.DMA_CH_DST, 0, 64⟩
abbrev DMA_CH_COUNTS_WORD : Fld := ⟨.DMA_CH_COUNTS, 0, 64⟩
abbrev DMA_CH_LOOP1_WORD : Fld := ⟨.DMA_CH_LOOP1, 0, 64⟩
abbrev DMA_CH_LOOP2_WORD : Fld := ⟨.DMA_CH_LOOP2, 0, 64⟩
abbrev DMA_CH_LOOP3_WORD : Fld := ⟨.DMA_CH_LOOP3, 0, 64⟩
abbrev DMA_CH_AUX_WORD : Fld := ⟨.DMA_CH_AUX, 0, 64⟩
abbrev DMA_CH_SHD_WORD : Fld := ⟨.DMA_CH_SHD, 0, 64⟩
abbrev DMA_CH_CFG_DEPTH_M1 : Fld := ⟨.DMA_CH_CFG, 0, 4⟩
abbrev DMA_CH_PACE_HIGH : Fld := ⟨.DMA_CH_PACE, 0, 16⟩
abbrev DMA_CH_PACE_LOW : Fld := ⟨.DMA_CH_PACE, 16, 16⟩
abbrev DMA_CH_PACE_ADDR_ADDR : Fld := ⟨.DMA_CH_PACE_ADDR, 0, 64⟩
abbrev DMA_CH_STATUS_STATE : Fld := ⟨.DMA_CH_STATUS, 0, 3⟩
abbrev DMA_CH_STATUS_SHADOW : Fld := ⟨.DMA_CH_STATUS, 3, 2⟩
abbrev DMA_CH_STATUS_NOT_OWNER : Fld := ⟨.DMA_CH_STATUS, 7, 1⟩
abbrev DMA_CH_STATUS_LAST : Fld := ⟨.DMA_CH_STATUS, 8, 8⟩
abbrev DMA_CH_STATUS_UNITS : Fld := ⟨.DMA_CH_STATUS, 32, 32⟩
abbrev DMA_CH_DONE_UNITS : Fld := ⟨.DMA_CH_DONE, 0, 48⟩
abbrev DMA_CH_ERR_CAUSE : Fld := ⟨.DMA_CH_ERR, 0, 4⟩
abbrev DMA_CH_ERR_TRIES : Fld := ⟨.DMA_CH_ERR, 8, 4⟩
abbrev DMA_CH_ERR_WRITE : Fld := ⟨.DMA_CH_ERR, 16, 1⟩
abbrev DMA_CH_ERR_ADDR_ADDR : Fld := ⟨.DMA_CH_ERR_ADDR, 0, 64⟩
abbrev DMA_CH_SUPPRESS_COUNT : Fld := ⟨.DMA_CH_SUPPRESS, 0, 64⟩
abbrev DMA_CH_CTRL_RESTART : Fld := ⟨.DMA_CH_CTRL, 0, 1⟩
abbrev DMA_CH_CTRL_ABORT : Fld := ⟨.DMA_CH_CTRL, 1, 1⟩
abbrev DMA_CH_RETRIES_COUNT : Fld := ⟨.DMA_CH_RETRIES, 0, 64⟩
abbrev KV_EVENT_LOW : Fld := ⟨.KV_EVENT, 0, 16⟩
abbrev KV_EVENT_CNT_ERR : Fld := ⟨.KV_EVENT, 16, 1⟩
abbrev KV_EVENT_REFUSED : Fld := ⟨.KV_EVENT, 17, 1⟩
abbrev KV_EVENT_EN_EN : Fld := ⟨.KV_EVENT_EN, 0, 18⟩
abbrev KV_CNT_ERR_PAGE : Fld := ⟨.KV_CNT_ERR, 0, 32⟩
abbrev KV_CNT_ERR_POOL : Fld := ⟨.KV_CNT_ERR, 32, 4⟩
abbrev KV_CNT_ERR_CORE : Fld := ⟨.KV_CNT_ERR, 40, 8⟩
abbrev KV_CNT_ERR_KIND : Fld := ⟨.KV_CNT_ERR, 48, 2⟩
abbrev KV_CNT_ERRS_COUNT : Fld := ⟨.KV_CNT_ERRS, 0, 64⟩
abbrev KV_REFUSE_CODE : Fld := ⟨.KV_REFUSE, 0, 8⟩
abbrev KV_REFUSE_POOL : Fld := ⟨.KV_REFUSE, 8, 4⟩
abbrev KV_REFUSE_SEG : Fld := ⟨.KV_REFUSE, 12, 3⟩
abbrev KV_POOL_CFG_ENABLE : Fld := ⟨.KV_POOL_CFG, 0, 1⟩
abbrev KV_POOL_CFG_OWNER : Fld := ⟨.KV_POOL_CFG, 1, 2⟩
abbrev KV_POOL_CFG_READERS : Fld := ⟨.KV_POOL_CFG, 4, 4⟩
abbrev KV_POOL_CFG_APPEND_SEG : Fld := ⟨.KV_POOL_CFG, 8, 3⟩
abbrev KV_POOL_CB_ADDR : Fld := ⟨.KV_POOL_CB, 0, 44⟩
abbrev KV_POOL_MARKS_LOW : Fld := ⟨.KV_POOL_MARKS, 0, 29⟩
abbrev KV_POOL_MARKS_RESERVE : Fld := ⟨.KV_POOL_MARKS, 32, 29⟩
abbrev KV_POOL_ALLOCS_COUNT : Fld := ⟨.KV_POOL_ALLOCS, 0, 64⟩
abbrev KV_POOL_FAILS_COUNT : Fld := ⟨.KV_POOL_FAILS, 0, 64⟩
abbrev KV_POOL_RETURNS_COUNT : Fld := ⟨.KV_POOL_RETURNS, 0, 64⟩
abbrev KV_SEG_STATUS_FREE : Fld := ⟨.KV_SEG_STATUS, 0, 29⟩
abbrev KV_SEG_STATUS_READY : Fld := ⟨.KV_SEG_STATUS, 31, 1⟩
abbrev KV_SEG_STATUS_PENDING : Fld := ⟨.KV_SEG_STATUS, 32, 29⟩
abbrev KV_SEG_CTL_VALID : Fld := ⟨.KV_SEG_CTL, 0, 1⟩
abbrev KV_SEG_CTL_PAGES : Fld := ⟨.KV_SEG_CTL, 32, 29⟩
abbrev KV_SEG_BASE_BASE : Fld := ⟨.KV_SEG_BASE, 0, 44⟩
abbrev KV_SEG_CNT_ADDR : Fld := ⟨.KV_SEG_CNT, 0, 44⟩
abbrev KV_SEG_RING_ADDR : Fld := ⟨.KV_SEG_RING, 0, 44⟩
abbrev COL_EVENT_MSG_REFUSED : Fld := ⟨.COL_EVENT, 0, 4⟩
abbrev COL_EVENT_PROTO : Fld := ⟨.COL_EVENT, 4, 1⟩
abbrev COL_EVENT_REFUSED : Fld := ⟨.COL_EVENT, 5, 1⟩
abbrev COL_EVENT_EN_EN : Fld := ⟨.COL_EVENT_EN, 0, 6⟩
abbrev COL_REFUSE_CODE : Fld := ⟨.COL_REFUSE, 0, 8⟩
abbrev COL_REFUSE_CTX : Fld := ⟨.COL_REFUSE, 8, 2⟩
abbrev COL_REFUSE_ID : Fld := ⟨.COL_REFUSE, 16, 12⟩
abbrev COL_REFUSE_PHYS : Fld := ⟨.COL_REFUSE, 32, 10⟩
abbrev COL_PROTO_PHYS : Fld := ⟨.COL_PROTO, 0, 10⟩
abbrev COL_PROTO_KIND : Fld := ⟨.COL_PROTO, 10, 2⟩
abbrev COL_LEND_CFG_EN : Fld := ⟨.COL_LEND_CFG, 0, 1⟩
abbrev COL_LEND_CFG_GRANT : Fld := ⟨.COL_LEND_CFG, 8, 8⟩
abbrev COL_LEND_CFG_COST : Fld := ⟨.COL_LEND_CFG, 16, 4⟩
abbrev COL_LEND_CFG_MAX_STEPS : Fld := ⟨.COL_LEND_CFG, 24, 4⟩
abbrev COL_LEND_CFG_WAIT : Fld := ⟨.COL_LEND_CFG, 32, 32⟩
abbrev COL_LEND_STAT_POOL : Fld := ⟨.COL_LEND_STAT, 0, 16⟩
abbrev COL_LEND_STAT_BORROWED : Fld := ⟨.COL_LEND_STAT, 16, 16⟩
abbrev COL_LEND_STAT_LENDERS : Fld := ⟨.COL_LEND_STAT, 32, 8⟩
abbrev COL_LEND_STAT_BORROWERS : Fld := ⟨.COL_LEND_STAT, 40, 8⟩
abbrev COL_XLATE_VALID : Fld := ⟨.COL_XLATE, 0, 1⟩
abbrev COL_XLATE_KIND : Fld := ⟨.COL_XLATE, 1, 1⟩
abbrev COL_XLATE_PHYS : Fld := ⟨.COL_XLATE, 16, 10⟩
abbrev COL_CTR_CFG_VALID : Fld := ⟨.COL_CTR_CFG, 0, 1⟩
abbrev COL_CTR_CFG_XMOD : Fld := ⟨.COL_CTR_CFG, 1, 1⟩
abbrev COL_CTR_CFG_HOME : Fld := ⟨.COL_CTR_CFG, 2, 1⟩
abbrev COL_CTR_CFG_COUNT : Fld := ⟨.COL_CTR_CFG, 16, 9⟩
abbrev COL_CTR_CFG_MODULES : Fld := ⟨.COL_CTR_CFG, 32, 20⟩
abbrev COL_CTR_HOME_HOME_PHYS : Fld := ⟨.COL_CTR_HOME, 0, 10⟩
abbrev COL_CTR_HOME_MGROUP : Fld := ⟨.COL_CTR_HOME, 16, 16⟩
abbrev COL_CTR_HOME_HOME_NODE : Fld := ⟨.COL_CTR_HOME, 44, 20⟩
abbrev COL_CTR_STATE_ROUND : Fld := ⟨.COL_CTR_STATE, 0, 16⟩
abbrev COL_CTR_STATE_C0 : Fld := ⟨.COL_CTR_STATE, 16, 9⟩
abbrev COL_CTR_STATE_F0 : Fld := ⟨.COL_CTR_STATE, 25, 1⟩
abbrev COL_CTR_STATE_DONE0 : Fld := ⟨.COL_CTR_STATE, 26, 1⟩
abbrev COL_CTR_STATE_C1 : Fld := ⟨.COL_CTR_STATE, 32, 9⟩
abbrev COL_CTR_STATE_F1 : Fld := ⟨.COL_CTR_STATE, 41, 1⟩
abbrev COL_CTR_STATE_DONE1 : Fld := ⟨.COL_CTR_STATE, 42, 1⟩
abbrev COL_CTR_ARR_A0 : Fld := ⟨.COL_CTR_ARR, 0, 20⟩
abbrev COL_CTR_ARR_A1 : Fld := ⟨.COL_CTR_ARR, 20, 20⟩
abbrev COL_CTR_ARR_AF0 : Fld := ⟨.COL_CTR_ARR, 40, 1⟩
abbrev COL_CTR_ARR_AF1 : Fld := ⟨.COL_CTR_ARR, 41, 1⟩
abbrev COL_CORE_BOOST_STEPS : Fld := ⟨.COL_CORE_BOOST, 0, 4⟩
abbrev COL_CORE_BOOST_LENDING : Fld := ⟨.COL_CORE_BOOST, 4, 1⟩
abbrev COL_CORE_BOOST_IDLE_AT_COL : Fld := ⟨.COL_CORE_BOOST, 5, 1⟩
abbrev COL_WAIT_CYCLES_COUNT : Fld := ⟨.COL_WAIT_CYCLES, 0, 64⟩
abbrev COL_MQ_REFUSED_COUNT : Fld := ⟨.COL_MQ_REFUSED, 0, 64⟩
abbrev COL_MQ_CFG_ENABLE : Fld := ⟨.COL_MQ_CFG, 0, 1⟩
abbrev COL_MQ_CFG_SLOTS_M1 : Fld := ⟨.COL_MQ_CFG, 8, 8⟩
abbrev COL_MQ_CFG_BASE : Fld := ⟨.COL_MQ_CFG, 16, 16⟩
abbrev COL_MQ_STATE_COUNT : Fld := ⟨.COL_MQ_STATE, 0, 9⟩
abbrev COL_MQ_STATE_HEAD : Fld := ⟨.COL_MQ_STATE, 16, 8⟩
abbrev COL_MQ_STATE_TAIL : Fld := ⟨.COL_MQ_STATE, 24, 8⟩
abbrev TRN_EVENT_COMMIT : Fld := ⟨.TRN_EVENT, 0, 4⟩
abbrev TRN_EVENT_ABORT : Fld := ⟨.TRN_EVENT, 4, 4⟩
abbrev TRN_EVENT_UNDECIDED : Fld := ⟨.TRN_EVENT, 8, 4⟩
abbrev TRN_EVENT_LATE_CAUSE : Fld := ⟨.TRN_EVENT, 12, 4⟩
abbrev TRN_EVENT_REFUSED : Fld := ⟨.TRN_EVENT, 16, 4⟩
abbrev TRN_EVENT_EN_EN : Fld := ⟨.TRN_EVENT_EN, 0, 20⟩
abbrev TRN_STEP_CFG_COMMIT_COL : Fld := ⟨.TRN_STEP_CFG, 0, 12⟩
abbrev TRN_STEP_CFG_AUTO : Fld := ⟨.TRN_STEP_CFG, 12, 1⟩
abbrev TRN_STEP_CFG_LATE : Fld := ⟨.TRN_STEP_CFG, 13, 2⟩
abbrev TRN_STEP_CFG_CHK_CHANNELS : Fld := ⟨.TRN_STEP_CFG, 16, 16⟩
abbrev TRN_STEP_CFG_PERIOD : Fld := ⟨.TRN_STEP_CFG, 32, 32⟩
abbrev TRN_VOTE_FRAME_FRAME : Fld := ⟨.TRN_VOTE_FRAME, 0, 64⟩
abbrev TRN_STEP_LIMIT_LIMIT : Fld := ⟨.TRN_STEP_LIMIT, 0, 16⟩
abbrev TRN_STEP_NEXT_STEP : Fld := ⟨.TRN_STEP_NEXT, 0, 64⟩
abbrev TRN_STEP_CTRL_OPEN : Fld := ⟨.TRN_STEP_CTRL, 0, 1⟩
abbrev TRN_STEP_CTRL_ABORT : Fld := ⟨.TRN_STEP_CTRL, 1, 1⟩
abbrev TRN_STEP_CTRL_FORCE_COMMIT : Fld := ⟨.TRN_STEP_CTRL, 2, 1⟩
abbrev TRN_STEP_CTRL_FORCE_ABORT : Fld := ⟨.TRN_STEP_CTRL, 3, 1⟩
abbrev TRN_STEP_STATE_STATE : Fld := ⟨.TRN_STEP_STATE, 0, 3⟩
abbrev TRN_STEP_STATE_BANK : Fld := ⟨.TRN_STEP_STATE, 3, 1⟩
abbrev TRN_STEP_STATE_VOTED : Fld := ⟨.TRN_STEP_STATE, 4, 1⟩
abbrev TRN_STEP_STATE_FLAG : Fld := ⟨.TRN_STEP_STATE, 5, 1⟩
abbrev TRN_STEP_STATE_CAUSE : Fld := ⟨.TRN_STEP_STATE, 8, 4⟩
abbrev TRN_STEP_STATE_CORE : Fld := ⟨.TRN_STEP_STATE, 16, 8⟩
abbrev TRN_STEP_STATE_LATE_CAUSE : Fld := ⟨.TRN_STEP_STATE, 24, 4⟩
abbrev TRN_STEP_STATE_REFUSE : Fld := ⟨.TRN_STEP_STATE, 28, 4⟩
abbrev TRN_STEP_NUM_STEP : Fld := ⟨.TRN_STEP_NUM, 0, 64⟩
abbrev TRN_STEP_DONE_STEP : Fld := ⟨.TRN_STEP_DONE, 0, 64⟩
abbrev TRN_STEP_REC_ADDR : Fld := ⟨.TRN_STEP_REC, 0, 64⟩
abbrev TRN_LEDGER_BASE_ADDR : Fld := ⟨.TRN_LEDGER_BASE, 0, 64⟩
abbrev TRN_LEDGER_SLOTS_SLOTS : Fld := ⟨.TRN_LEDGER_SLOTS, 0, 17⟩
abbrev TRN_VOTERS_CORES : Fld := ⟨.TRN_VOTERS, 0, 64⟩
abbrev TRN_COMMITS_COUNT : Fld := ⟨.TRN_COMMITS, 0, 64⟩
abbrev TRN_ABORTS_COUNT : Fld := ⟨.TRN_ABORTS, 0, 64⟩
abbrev TRN_LATE_KEPT_COUNT : Fld := ⟨.TRN_LATE_KEPT, 0, 64⟩
abbrev TRN_LATE_DROPPED_COUNT : Fld := ⟨.TRN_LATE_DROPPED, 0, 64⟩
abbrev TRN_CHECKS_COUNT : Fld := ⟨.TRN_CHECKS, 0, 64⟩
abbrev TRN_GNS_CFG_TRV_MASK : Fld := ⟨.TRN_GNS_CFG, 0, 16⟩
abbrev TRN_GNS_STATUS_SAMPLES : Fld := ⟨.TRN_GNS_STATUS, 0, 8⟩
abbrev TRN_GNS_STATUS_READY : Fld := ⟨.TRN_GNS_STATUS, 8, 1⟩
abbrev TRN_GNS_STATUS_UNBINNED : Fld := ⟨.TRN_GNS_STATUS, 32, 32⟩
abbrev TRN_ALT_CFG_BASE_PHASE : Fld := ⟨.TRN_ALT_CFG, 0, 3⟩
abbrev TRN_ALT_INFO_FIRST : Fld := ⟨.TRN_ALT_INFO, 0, 1⟩
abbrev TRN_ALT_INFO_ABORTED : Fld := ⟨.TRN_ALT_INFO, 1, 1⟩
abbrev TRN_ALT_INFO_STEP : Fld := ⟨.TRN_ALT_INFO, 32, 32⟩
abbrev TRN_ALT_MARK_OFFSET : Fld := ⟨.TRN_ALT_MARK, 0, 32⟩
abbrev TRN_ALT_MARK_PHASE : Fld := ⟨.TRN_ALT_MARK, 32, 3⟩
abbrev TRN_ALT_MARK_VALID : Fld := ⟨.TRN_ALT_MARK, 35, 1⟩
abbrev TRN_ALT_RUN_TIME : Fld := ⟨.TRN_ALT_RUN, 0, 64⟩
abbrev TRN_ALT_STEP_TIME : Fld := ⟨.TRN_ALT_STEP, 0, 64⟩
abbrev TRN_GNS_LOCAL_SQ : Fld := ⟨.TRN_GNS_LOCAL, 0, 64⟩
abbrev TRN_GNS_TOTAL_SQ : Fld := ⟨.TRN_GNS_TOTAL, 0, 64⟩
abbrev TRN_GNS_COUNT_LOCAL_N : Fld := ⟨.TRN_GNS_COUNT, 0, 32⟩
abbrev TRN_GNS_COUNT_TOTAL_W : Fld := ⟨.TRN_GNS_COUNT, 32, 32⟩
abbrev TRN_GNS_WEIGHT_LOCAL_W : Fld := ⟨.TRN_GNS_WEIGHT, 0, 64⟩
abbrev NET_NODE_ID_ID : Fld := ⟨.NET_NODE_ID, 0, 20⟩
abbrev NET_ADDR_HI_ADDR : Fld := ⟨.NET_ADDR_HI, 0, 64⟩
abbrev NET_ADDR_LO_ADDR : Fld := ⟨.NET_ADDR_LO, 0, 64⟩
abbrev NET_MAC_BASE_MAC : Fld := ⟨.NET_MAC_BASE, 0, 48⟩
abbrev NET_NODE_TBL_BASE : Fld := ⟨.NET_NODE_TBL, 0, 44⟩
abbrev NET_NODE_CNT_COUNT : Fld := ⟨.NET_NODE_CNT, 0, 21⟩
abbrev NET_MCAST_HI_PREFIX : Fld := ⟨.NET_MCAST_HI, 0, 64⟩
abbrev NET_MCAST_LO_PREFIX : Fld := ⟨.NET_MCAST_LO, 0, 48⟩
abbrev NET_UDP_PORT : Fld := ⟨.NET_UDP, 0, 16⟩
abbrev NET_QOS_DSCP : Fld := ⟨.NET_QOS, 0, 6⟩
abbrev NET_QOS_CTRL_DSCP : Fld := ⟨.NET_QOS, 6, 6⟩
abbrev NET_QOS_VLAN_EN : Fld := ⟨.NET_QOS, 12, 1⟩
abbrev NET_QOS_PCP : Fld := ⟨.NET_QOS, 13, 3⟩
abbrev NET_QOS_VLAN : Fld := ⟨.NET_QOS, 16, 12⟩
abbrev NET_QOS_HOP : Fld := ⟨.NET_QOS, 28, 8⟩
abbrev NET_MTU_MTU : Fld := ⟨.NET_MTU, 0, 14⟩
abbrev NET_MTU_PAYLOAD : Fld := ⟨.NET_MTU, 16, 2⟩
abbrev NET_TIMERS_RTO : Fld := ⟨.NET_TIMERS, 0, 16⟩
abbrev NET_TIMERS_RNR : Fld := ⟨.NET_TIMERS, 16, 16⟩
abbrev NET_TIMERS_RETRY : Fld := ⟨.NET_TIMERS, 32, 4⟩
abbrev NET_CPL_TIMEOUT_TIME : Fld := ⟨.NET_CPL_TIMEOUT, 0, 32⟩
abbrev NET_WINDOW_CREDIT_INIT : Fld := ⟨.NET_WINDOW, 0, 9⟩
abbrev NET_WINDOW_WIN_INIT : Fld := ⟨.NET_WINDOW, 16, 9⟩
abbrev NET_WINDOW_WIN_MAX : Fld := ⟨.NET_WINDOW, 32, 9⟩
abbrev NET_REL_POLL_TIME : Fld := ⟨.NET_REL_POLL, 0, 32⟩
abbrev NET_REL_POLL_FLOW_IDLE : Fld := ⟨.NET_REL_POLL, 32, 32⟩
abbrev NET_EVENT_LINK : Fld := ⟨.NET_EVENT, 0, 1⟩
abbrev NET_EVENT_FLOW_FAIL : Fld := ⟨.NET_EVENT, 1, 1⟩
abbrev NET_EVENT_STALE_SRC : Fld := ⟨.NET_EVENT, 2, 1⟩
abbrev NET_EVENT_MIRROR_FAIL : Fld := ⟨.NET_EVENT, 3, 1⟩
abbrev NET_EVENT_REFUSED : Fld := ⟨.NET_EVENT, 4, 1⟩
abbrev NET_EVENT_EN_EN : Fld := ⟨.NET_EVENT_EN, 0, 5⟩
abbrev NET_FLOW_STAT_SEND : Fld := ⟨.NET_FLOW_STAT, 0, 14⟩
abbrev NET_FLOW_STAT_RECV : Fld := ⟨.NET_FLOW_STAT, 16, 14⟩
abbrev NET_FLOW_FAILS_COUNT : Fld := ⟨.NET_FLOW_FAILS, 0, 64⟩
abbrev NET_FLOW_FAIL_LAST_NODE : Fld := ⟨.NET_FLOW_FAIL_LAST, 0, 20⟩
abbrev NET_FLOW_FAIL_LAST_CORE : Fld := ⟨.NET_FLOW_FAIL_LAST, 20, 8⟩
abbrev NET_FLOW_FAIL_LAST_CLASS : Fld := ⟨.NET_FLOW_FAIL_LAST, 28, 2⟩
abbrev NET_FLOW_FAIL_LAST_SRC_CORE : Fld := ⟨.NET_FLOW_FAIL_LAST, 32, 8⟩
abbrev NET_DROPS_CRC : Fld := ⟨.NET_DROPS, 0, 16⟩
abbrev NET_DROPS_STALE : Fld := ⟨.NET_DROPS, 16, 16⟩
abbrev NET_DROPS_RELAY : Fld := ⟨.NET_DROPS, 32, 16⟩
abbrev NET_DROPS_TYPE : Fld := ⟨.NET_DROPS, 48, 16⟩
abbrev NET_REFUSE_CODE : Fld := ⟨.NET_REFUSE, 0, 8⟩
abbrev NET_PTP_CFG_RX_LINK : Fld := ⟨.NET_PTP_CFG, 0, 6⟩
abbrev NET_PTP_CFG_P2P : Fld := ⟨.NET_PTP_CFG, 6, 1⟩
abbrev NET_PTP_CFG_ONE_STEP : Fld := ⟨.NET_PTP_CFG, 7, 1⟩
abbrev NET_PTP_CFG_L2 : Fld := ⟨.NET_PTP_CFG, 8, 1⟩
abbrev NET_PTP_CFG_DOMAIN : Fld := ⟨.NET_PTP_CFG, 16, 8⟩
abbrev NET_PTP_CFG_SYNC_LOG : Fld := ⟨.NET_PTP_CFG, 24, 4⟩
abbrev NET_PTP_TX_LINKS : Fld := ⟨.NET_PTP_TX, 0, 64⟩
abbrev NET_PORT_CFG_ENABLE : Fld := ⟨.NET_PORT_CFG, 0, 1⟩
abbrev NET_PORT_CFG_MODE : Fld := ⟨.NET_PORT_CFG, 1, 2⟩
abbrev NET_PORT_CFG_PFC_EN : Fld := ⟨.NET_PORT_CFG, 3, 1⟩
abbrev NET_PORT_CFG_TX_INV : Fld := ⟨.NET_PORT_CFG, 8, 8⟩
abbrev NET_PORT_LANES_MAP : Fld := ⟨.NET_PORT_LANES, 0, 24⟩
abbrev NET_PORT_LANES_RX_INV : Fld := ⟨.NET_PORT_LANES, 24, 8⟩
abbrev NET_PORT_LANES_LOS : Fld := ⟨.NET_PORT_LANES, 32, 8⟩
abbrev NET_LINK_PEER_MAC : Fld := ⟨.NET_LINK_PEER, 0, 48⟩
abbrev NET_LINK_STATUS_STATE : Fld := ⟨.NET_LINK_STATUS, 0, 2⟩
abbrev NET_LINK_FEC_CORR : Fld := ⟨.NET_LINK_FEC, 0, 32⟩
abbrev NET_LINK_FEC_UNCORR : Fld := ⟨.NET_LINK_FEC, 32, 32⟩
abbrev NET_LINK_TX_BYTES : Fld := ⟨.NET_LINK_TX, 0, 64⟩
abbrev NET_LINK_RX_BYTES : Fld := ⟨.NET_LINK_RX, 0, 64⟩
abbrev NET_LINK_RETX_COUNT : Fld := ⟨.NET_LINK_RETX, 0, 64⟩
abbrev NET_LINK_CE_COUNT : Fld := ⟨.NET_LINK_CE, 0, 64⟩
abbrev NET_MG_CTL_GROUP : Fld := ⟨.NET_MG_CTL, 0, 16⟩
abbrev NET_MG_CTL_VALID : Fld := ⟨.NET_MG_CTL, 16, 1⟩
abbrev NET_MG_CTL_SUB : Fld := ⟨.NET_MG_CTL, 17, 1⟩
abbrev NET_MG_UP_LINKS : Fld := ⟨.NET_MG_UP, 0, 64⟩
abbrev NET_MG_FWD_LINKS : Fld := ⟨.NET_MG_FWD, 0, 64⟩
abbrev NET_MIR_CTL_VALID : Fld := ⟨.NET_MIR_CTL, 0, 1⟩
abbrev NET_MIR_CTL_BROKEN : Fld := ⟨.NET_MIR_CTL, 1, 1⟩
abbrev NET_MIR_CTL_BORROW : Fld := ⟨.NET_MIR_CTL, 8, 6⟩
abbrev NET_MIR_BASE_BASE : Fld := ⟨.NET_MIR_BASE, 0, 44⟩
abbrev NET_MIR_SIZE_SIZE : Fld := ⟨.NET_MIR_SIZE, 0, 44⟩
abbrev NET_MIR_OFF_OFF : Fld := ⟨.NET_MIR_OFF, 0, 44⟩
abbrev HIF_EVENT_BAD_CMD : Fld := ⟨.HIF_EVENT, 0, 4⟩
abbrev HIF_EVENT_FETCH_LATE : Fld := ⟨.HIF_EVENT, 4, 4⟩
abbrev HIF_EVENT_PORT_RESET : Fld := ⟨.HIF_EVENT, 8, 2⟩
abbrev HIF_EVENT_MBX_DONE : Fld := ⟨.HIF_EVENT, 10, 2⟩
abbrev HIF_EVENT_FW_FAIL : Fld := ⟨.HIF_EVENT, 12, 1⟩
abbrev HIF_EVENT_NOTIFY_SAT : Fld := ⟨.HIF_EVENT, 13, 4⟩
abbrev HIF_EVENT_EN_EN : Fld := ⟨.HIF_EVENT_EN, 0, 17⟩
abbrev HIF_BOOT_STATE : Fld := ⟨.HIF_BOOT, 0, 3⟩
abbrev HIF_BOOT_PRIMARY : Fld := ⟨.HIF_BOOT, 3, 1⟩
abbrev HIF_BOOT_WARM : Fld := ⟨.HIF_BOOT, 4, 1⟩
abbrev HIF_BOOT_FAIL : Fld := ⟨.HIF_BOOT, 8, 8⟩
abbrev HIF_BOOT_ACTIVE : Fld := ⟨.HIF_BOOT, 16, 9⟩
abbrev HIF_BOOT_WARM_COUNT : Fld := ⟨.HIF_BOOT, 32, 32⟩
abbrev HIF_RESET_WARM : Fld := ⟨.HIF_RESET, 0, 1⟩
abbrev HIF_RESET_COLD : Fld := ⟨.HIF_RESET, 1, 1⟩
abbrev HIF_RESET_KEY : Fld := ⟨.HIF_RESET, 32, 16⟩
abbrev HIF_ADMIN_SEC_ADMIN : Fld := ⟨.HIF_ADMIN, 0, 1⟩
abbrev HIF_FETCH_LEAD_LEAD : Fld := ⟨.HIF_FETCH_LEAD, 0, 20⟩
abbrev HIF_IRQ_ROUTE_PORTS : Fld := ⟨.HIF_IRQ_ROUTE, 0, 2⟩
abbrev HIF_APT_BLOCKED_COUNT : Fld := ⟨.HIF_APT_BLOCKED, 0, 64⟩
abbrev HIF_CPL_DROPPED_COUNT : Fld := ⟨.HIF_CPL_DROPPED, 0, 64⟩
abbrev HIF_APT_INDEX : Fld := ⟨.HIF_APT, 0, 5⟩
abbrev HIF_LINK_SPEED : Fld := ⟨.HIF_LINK, 0, 3⟩
abbrev HIF_LINK_FLIT : Fld := ⟨.HIF_LINK, 3, 1⟩
abbrev HIF_LINK_WIDTH : Fld := ⟨.HIF_LINK, 4, 4⟩
abbrev HIF_LINK_REVERSED : Fld := ⟨.HIF_LINK, 8, 1⟩
abbrev HIF_LINK_RX_INV : Fld := ⟨.HIF_LINK, 9, 8⟩
abbrev HIF_LINK_UP : Fld := ⟨.HIF_LINK, 17, 1⟩
abbrev HIF_LINK_BME : Fld := ⟨.HIF_LINK, 18, 1⟩
abbrev HIF_MBX_GO : Fld := ⟨.HIF_MBX, 0, 1⟩
abbrev HIF_MBX_BUSY : Fld := ⟨.HIF_MBX, 1, 1⟩
abbrev HIF_MBX_CODE : Fld := ⟨.HIF_MBX, 8, 8⟩
abbrev HIF_MBX_LEN : Fld := ⟨.HIF_MBX, 16, 16⟩
abbrev HIF_CR_BASE_BASE : Fld := ⟨.HIF_CR_BASE, 12, 52⟩
abbrev HIF_CR_CFG_ENABLE : Fld := ⟨.HIF_CR_CFG, 0, 1⟩
abbrev HIF_CR_CFG_LOG2 : Fld := ⟨.HIF_CR_CFG, 4, 5⟩
abbrev HIF_CR_CFG_FETCH_MAX_M1 : Fld := ⟨.HIF_CR_CFG, 16, 12⟩
abbrev HIF_CR_CFG_VEC_EN : Fld := ⟨.HIF_CR_CFG, 32, 1⟩
abbrev HIF_CC_BASE_BASE : Fld := ⟨.HIF_CC_BASE, 12, 52⟩
abbrev HIF_CC_CFG_LOG2 : Fld := ⟨.HIF_CC_CFG, 4, 5⟩
abbrev HIF_RING_HDR_ADDR : Fld := ⟨.HIF_RING_HDR, 6, 58⟩
abbrev HIF_RING_STAT_CMD_CI : Fld := ⟨.HIF_RING_STAT, 0, 32⟩
abbrev HIF_RING_STAT_CPL_PI : Fld := ⟨.HIF_RING_STAT, 32, 32⟩
abbrev HIF_RING_OUT_OUTSTANDING : Fld := ⟨.HIF_RING_OUT, 0, 32⟩
abbrev HIF_SVC_BASE_ADDR : Fld := ⟨.HIF_SVC_BASE, 0, 44⟩
abbrev HIF_SVC_CFG_SLOTS : Fld := ⟨.HIF_SVC_CFG, 0, 13⟩
abbrev HIF_SVC_CFG_CORE : Fld := ⟨.HIF_SVC_CFG, 16, 8⟩
abbrev HIF_SVC_CFG_CTR : Fld := ⟨.HIF_SVC_CFG, 24, 1⟩
abbrev HIF_SVC_CFG_Q : Fld := ⟨.HIF_SVC_CFG, 32, 5⟩
abbrev HIF_SVC_STAT_ADMITTED : Fld := ⟨.HIF_SVC_STAT, 0, 13⟩
abbrev ERR_EVENT_CE : Fld := ⟨.ERR_EVENT, 0, 1⟩
abbrev ERR_EVENT_UE : Fld := ⟨.ERR_EVENT, 1, 1⟩
abbrev ERR_EVENT_FATAL : Fld := ⟨.ERR_EVENT, 2, 1⟩
abbrev ERR_EVENT_ENV : Fld := ⟨.ERR_EVENT, 3, 1⟩
abbrev ERR_EVENT_WEAK : Fld := ⟨.ERR_EVENT, 4, 1⟩
abbrev ERR_EVENT_ANALOG : Fld := ⟨.ERR_EVENT, 5, 1⟩
abbrev ERR_EVENT_EN_EN : Fld := ⟨.ERR_EVENT_EN, 0, 6⟩
abbrev ERR_LAST_UE_UNIT : Fld := ⟨.ERR_LAST_UE, 0, 4⟩
abbrev ERR_LAST_UE_PHYS : Fld := ⟨.ERR_LAST_UE, 8, 9⟩
abbrev ERR_LAST_UE_FRAME : Fld := ⟨.ERR_LAST_UE, 32, 32⟩
abbrev ERR_LAST_UE_ADDR_ADDR : Fld := ⟨.ERR_LAST_UE_ADDR, 0, 64⟩
abbrev ERR_LAST_CE_UNIT : Fld := ⟨.ERR_LAST_CE, 0, 4⟩
abbrev ERR_LAST_CE_PHYS : Fld := ⟨.ERR_LAST_CE, 8, 9⟩
abbrev ERR_LAST_CE_BIT : Fld := ⟨.ERR_LAST_CE, 24, 7⟩
abbrev ERR_LAST_CE_FRAME : Fld := ⟨.ERR_LAST_CE, 32, 32⟩
abbrev ERR_LAST_CE_ADDR_ADDR : Fld := ⟨.ERR_LAST_CE_ADDR, 0, 64⟩
abbrev ERR_FATAL_CODE : Fld := ⟨.ERR_FATAL, 0, 4⟩
abbrev ERR_FATAL_PHYS : Fld := ⟨.ERR_FATAL, 8, 9⟩
abbrev ERR_ENV_SB_SHORT : Fld := ⟨.ERR_ENV, 0, 8⟩
abbrev ERR_ENV_FLOW_LOW : Fld := ⟨.ERR_ENV, 8, 1⟩
abbrev ERR_ENV_TS_EXCLUDED : Fld := ⟨.ERR_ENV, 9, 1⟩
abbrev ERR_ENV_VM_EXCLUDED : Fld := ⟨.ERR_ENV, 10, 1⟩
abbrev ERR_ENV_NVS_COPY : Fld := ⟨.ERR_ENV, 11, 1⟩
abbrev ERR_SCRUB_PERIOD : Fld := ⟨.ERR_SCRUB, 0, 16⟩
abbrev ERR_SCRUB_STAT_PASSES : Fld := ⟨.ERR_SCRUB_STAT, 0, 32⟩
abbrev ERR_SCRUB_STAT_FOUND : Fld := ⟨.ERR_SCRUB_STAT, 32, 32⟩
abbrev ERR_CE_COUNT_COUNT : Fld := ⟨.ERR_CE_COUNT, 0, 64⟩
abbrev ERR_UE_COUNT_COUNT : Fld := ⟨.ERR_UE_COUNT, 0, 64⟩
abbrev BIST_EVENT_RT_FAIL : Fld := ⟨.BIST_EVENT, 0, 1⟩
abbrev BIST_EVENT_SD_FAIL : Fld := ⟨.BIST_EVENT, 1, 1⟩
abbrev BIST_EVENT_ANALOG_FAIL : Fld := ⟨.BIST_EVENT, 2, 1⟩
abbrev BIST_EVENT_LOOP_DONE : Fld := ⟨.BIST_EVENT, 3, 1⟩
abbrev BIST_EVENT_EN_EN : Fld := ⟨.BIST_EVENT_EN, 0, 4⟩
abbrev BIST_RT_CFG_EN : Fld := ⟨.BIST_RT_CFG, 0, 1⟩
abbrev BIST_RT_CFG_GROUPS_M1 : Fld := ⟨.BIST_RT_CFG, 8, 5⟩
abbrev BIST_RT_CFG_MAX_PER_FRAME : Fld := ⟨.BIST_RT_CFG, 16, 16⟩
abbrev BIST_RT_STAT_PASSES : Fld := ⟨.BIST_RT_STAT, 0, 32⟩
abbrev BIST_RT_STAT_LAG : Fld := ⟨.BIST_RT_STAT, 32, 11⟩
abbrev BIST_SD_CFG_EN : Fld := ⟨.BIST_SD_CFG, 0, 1⟩
abbrev BIST_SD_CFG_RIDGES_M1 : Fld := ⟨.BIST_SD_CFG, 4, 4⟩
abbrev BIST_FAIL_COUNT_COUNT : Fld := ⟨.BIST_FAIL_COUNT, 0, 64⟩
abbrev BIST_FAIL_LAST_SOURCE : Fld := ⟨.BIST_FAIL_LAST, 0, 4⟩
abbrev BIST_FAIL_LAST_KIND : Fld := ⟨.BIST_FAIL_LAST, 4, 4⟩
abbrev BIST_FAIL_LAST_PHYS : Fld := ⟨.BIST_FAIL_LAST, 8, 9⟩
abbrev BIST_FAIL_LAST_BIT : Fld := ⟨.BIST_FAIL_LAST, 24, 7⟩
abbrev BIST_FAIL_LAST_STEP : Fld := ⟨.BIST_FAIL_LAST, 32, 4⟩
abbrev BIST_FAIL_ADDR_ADDR : Fld := ⟨.BIST_FAIL_ADDR, 0, 64⟩
abbrev BIST_LOOP_CTRL_PORT : Fld := ⟨.BIST_LOOP_CTRL, 0, 4⟩
abbrev BIST_LOOP_CTRL_MODE : Fld := ⟨.BIST_LOOP_CTRL, 4, 2⟩
abbrev BIST_LOOP_CTRL_GO : Fld := ⟨.BIST_LOOP_CTRL, 6, 1⟩
abbrev BIST_LOOP_STAT_LANE_FAIL : Fld := ⟨.BIST_LOOP_STAT, 0, 8⟩
abbrev BIST_LOOP_STAT_BUSY : Fld := ⟨.BIST_LOOP_STAT, 8, 1⟩
abbrev BIST_LOOP_STAT_ERRORS : Fld := ⟨.BIST_LOOP_STAT, 32, 32⟩
abbrev BIST_ANA_STAT_PLL_LOCK : Fld := ⟨.BIST_ANA_STAT, 0, 2⟩
abbrev BIST_ANA_STAT_FREQ_OK : Fld := ⟨.BIST_ANA_STAT, 2, 1⟩
abbrev BIST_ANA_STAT_FREQ_ERR : Fld := ⟨.BIST_ANA_STAT, 16, 16⟩
abbrev BIST_REPAIR_ACTIVE : Fld := ⟨.BIST_REPAIR, 0, 9⟩
abbrev BIST_REPAIR_FAILED : Fld := ⟨.BIST_REPAIR, 16, 9⟩
abbrev BIST_REPAIR_ROWS : Fld := ⟨.BIST_REPAIR, 32, 8⟩
abbrev CAL_EVENT_REFUSED : Fld := ⟨.CAL_EVENT, 0, 1⟩
abbrev CAL_EVENT_FACTORY_BAD : Fld := ⟨.CAL_EVENT, 1, 1⟩
abbrev CAL_EVENT_EN_EN : Fld := ⟨.CAL_EVENT_EN, 0, 2⟩
abbrev CAL_STATUS_FACTORY_OK : Fld := ⟨.CAL_STATUS, 0, 1⟩
abbrev CAL_STATUS_USER_LOADED : Fld := ⟨.CAL_STATUS, 1, 1⟩
abbrev CAL_STATUS_VERSION : Fld := ⟨.CAL_STATUS, 32, 32⟩
abbrev CAL_REFUSE_CODE : Fld := ⟨.CAL_REFUSE, 0, 8⟩
abbrev CAL_REFUSE_INDEX : Fld := ⟨.CAL_REFUSE, 16, 9⟩
abbrev CAL_FACTORY_VALUE : Fld := ⟨.CAL_FACTORY, 0, 64⟩
abbrev CAL_USER_OFFSET : Fld := ⟨.CAL_USER, 0, 64⟩
abbrev LIFE_EVENT_CLOCK_INVALID : Fld := ⟨.LIFE_EVENT, 0, 1⟩
abbrev LIFE_EVENT_LOG_WRAP : Fld := ⟨.LIFE_EVENT, 1, 1⟩
abbrev LIFE_EVENT_EN_EN : Fld := ⟨.LIFE_EVENT_EN, 0, 2⟩
abbrev LIFE_UTC_SECONDS : Fld := ⟨.LIFE_UTC, 0, 64⟩
abbrev LIFE_UTC_SET_SECONDS : Fld := ⟨.LIFE_UTC_SET, 0, 64⟩
abbrev LIFE_STATUS_UTC_VALID : Fld := ⟨.LIFE_STATUS, 0, 1⟩
abbrev LIFE_STATUS_SOURCE : Fld := ⟨.LIFE_STATUS, 1, 2⟩
abbrev LIFE_STATUS_LOG_SEQ : Fld := ⟨.LIFE_STATUS, 32, 32⟩
abbrev LIFE_POH_HOURS : Fld := ⟨.LIFE_POH, 0, 64⟩
abbrev LIFE_CYCLES_POWER : Fld := ⟨.LIFE_CYCLES, 0, 32⟩
abbrev LIFE_CYCLES_THERMAL : Fld := ⟨.LIFE_CYCLES, 32, 32⟩
abbrev LIFE_WEAR_WEAR : Fld := ⟨.LIFE_WEAR, 0, 64⟩
abbrev LIFE_HBM_CE_COUNT : Fld := ⟨.LIFE_HBM_CE, 0, 64⟩
abbrev LIFE_HBM_UE_COUNT : Fld := ⟨.LIFE_HBM_UE, 0, 64⟩
abbrev LIFE_REPAIRS_SPARES : Fld := ⟨.LIFE_REPAIRS, 0, 16⟩
abbrev LIFE_REPAIRS_RETIRED : Fld := ⟨.LIFE_REPAIRS, 16, 16⟩
abbrev LIFE_REPAIRS_ROWS : Fld := ⟨.LIFE_REPAIRS, 32, 16⟩
abbrev LIFE_REPAIRS_HBM_PPR : Fld := ⟨.LIFE_REPAIRS, 48, 16⟩
abbrev TXN_EVENT_DONE : Fld := ⟨.TXN_EVENT, 0, 3⟩
abbrev TXN_EVENT_ROLLBACK : Fld := ⟨.TXN_EVENT, 3, 3⟩
abbrev TXN_EVENT_ERROR : Fld := ⟨.TXN_EVENT, 6, 3⟩
abbrev TXN_EVENT_EN_EN : Fld := ⟨.TXN_EVENT_EN, 0, 9⟩
abbrev TXN_CTRL_BEGIN : Fld := ⟨.TXN_CTRL, 0, 1⟩
abbrev TXN_CTRL_COMMIT : Fld := ⟨.TXN_CTRL, 1, 1⟩
abbrev TXN_CTRL_ROLLBACK : Fld := ⟨.TXN_CTRL, 2, 1⟩
abbrev TXN_STATUS_STATE : Fld := ⟨.TXN_STATUS, 0, 2⟩
abbrev TXN_STATUS_OUTSIDE : Fld := ⟨.TXN_STATUS, 2, 1⟩
abbrev TXN_STATUS_BAD_CTRL : Fld := ⟨.TXN_STATUS, 3, 1⟩
abbrev TXN_STATUS_CONFLICT : Fld := ⟨.TXN_STATUS, 4, 1⟩
abbrev TXN_STATUS_OVERFLOW : Fld := ⟨.TXN_STATUS, 5, 1⟩
abbrev TXN_STATUS_RESULT : Fld := ⟨.TXN_STATUS, 8, 3⟩
abbrev TXN_STATUS_BLOCK : Fld := ⟨.TXN_STATUS, 12, 4⟩
abbrev TXN_STATUS_STAGED : Fld := ⟨.TXN_STATUS, 16, 15⟩
abbrev TXN_TIMEOUT_FRAMES : Fld := ⟨.TXN_TIMEOUT, 0, 16⟩
abbrev TXN_OPEN_FRAME_FRAME : Fld := ⟨.TXN_OPEN_FRAME, 0, 64⟩
abbrev TXN_APPLY_FRAME_FRAME : Fld := ⟨.TXN_APPLY_FRAME, 0, 64⟩
abbrev TXN_CONFLICT_ADDR_OFFSET : Fld := ⟨.TXN_CONFLICT_ADDR, 0, 26⟩
abbrev TXN_COUNT_APPLIED : Fld := ⟨.TXN_COUNT, 0, 32⟩
abbrev TXN_COUNT_ENDED : Fld := ⟨.TXN_COUNT, 32, 32⟩
abbrev PWR_EVENT_LIMIT : Fld := ⟨.PWR_EVENT, 0, 1⟩
abbrev PWR_EVENT_THERMAL : Fld := ⟨.PWR_EVENT, 1, 1⟩
abbrev PWR_EVENT_WARN : Fld := ⟨.PWR_EVENT, 2, 1⟩
abbrev PWR_EVENT_UV : Fld := ⟨.PWR_EVENT, 3, 1⟩
abbrev PWR_EVENT_OV : Fld := ⟨.PWR_EVENT, 4, 1⟩
abbrev PWR_EVENT_FLOW : Fld := ⟨.PWR_EVENT, 5, 1⟩
abbrev PWR_EVENT_EXCURSION : Fld := ⟨.PWR_EVENT, 6, 1⟩
abbrev PWR_EVENT_SHUTDOWN : Fld := ⟨.PWR_EVENT, 7, 1⟩
abbrev PWR_EVENT_LEAK : Fld := ⟨.PWR_EVENT, 8, 1⟩
abbrev PWR_EVENT_EN_EN : Fld := ⟨.PWR_EVENT_EN, 0, 9⟩
abbrev PWR_LIMIT_LIMIT : Fld := ⟨.PWR_LIMIT, 0, 12⟩
abbrev PWR_LIMIT_HYST : Fld := ⟨.PWR_LIMIT, 16, 8⟩
abbrev PWR_CLK_MIN_MHZ : Fld := ⟨.PWR_CLK_MIN, 0, 12⟩
abbrev PWR_STATUS_CAUSE : Fld := ⟨.PWR_STATUS, 0, 2⟩
abbrev PWR_STATUS_PENDING : Fld := ⟨.PWR_STATUS, 2, 1⟩
abbrev PWR_STATUS_UV_BAND : Fld := ⟨.PWR_STATUS, 3, 1⟩
abbrev PWR_STATUS_CLK : Fld := ⟨.PWR_STATUS, 4, 12⟩
abbrev PWR_INPUT_VOLT : Fld := ⟨.PWR_INPUT, 0, 16⟩
abbrev PWR_INPUT_AMP : Fld := ⟨.PWR_INPUT, 16, 16⟩
abbrev PWR_INPUT_P1MS : Fld := ⟨.PWR_INPUT, 32, 16⟩
abbrev PWR_PEAK_P10US : Fld := ⟨.PWR_PEAK, 0, 16⟩
abbrev PWR_TEMP_TJ_EAST : Fld := ⟨.PWR_TEMP, 0, 8⟩
abbrev PWR_TEMP_TJ_WEST : Fld := ⟨.PWR_TEMP, 8, 8⟩
abbrev PWR_TEMP_HBM : Fld := ⟨.PWR_TEMP, 16, 8⟩
abbrev PWR_TEMP_INLET : Fld := ⟨.PWR_TEMP, 24, 8⟩
abbrev PWR_TEMP_OUTLET : Fld := ⟨.PWR_TEMP, 32, 8⟩
abbrev PWR_FLOW_FLOW : Fld := ⟨.PWR_FLOW, 0, 16⟩
abbrev PWR_THERM_CFG_WARN : Fld := ⟨.PWR_THERM_CFG, 0, 8⟩
abbrev PWR_THERM_CFG_THROTTLE : Fld := ⟨.PWR_THERM_CFG, 8, 8⟩
abbrev PWR_SD_REQ : Fld := ⟨.PWR_SD, 0, 1⟩
abbrev PWR_SD_NOTICE : Fld := ⟨.PWR_SD, 16, 10⟩
abbrev PWR_THR_TIME_TIME : Fld := ⟨.PWR_THR_TIME, 0, 64⟩
abbrev PWR_ENERGY_JOULES : Fld := ⟨.PWR_ENERGY, 0, 64⟩

end Sys2Proof.Machine.F
end

