-- ==== Sys2Proof/Machine/Bits.lean ====
section
/-! DEFINITION. Bit fields, sign extension and little-endian byte lists (R10, R11). -/

namespace Sys2Proof.Machine

/-- Bits [lo + len - 1 : lo] of a number. -/
def bitsN (v lo len : Nat) : Nat := v / 2 ^ lo % 2 ^ len

/-- Bits [lo + len - 1 : lo] of a word. -/
def bits (w : Word) (lo len : Nat) : Nat := bitsN w.toNat lo len

/-- The word with bits [lo + len - 1 : lo] replaced by the low len bits of n. -/
def setBits (w : Word) (lo len n : Nat) : Word :=
  let mask := BitVec.ofNat 64 ((2 ^ len - 1) * 2 ^ lo)
  (w &&& ~~~ mask) ||| (BitVec.ofNat 64 (n % 2 ^ len * 2 ^ lo) &&& mask)

/-- Bit i of a word. -/
def bit (w : Word) (i : Nat) : Bool := bits w i 1 == 1

/-- Bit i of a number. -/
def bitN (v i : Nat) : Bool := bitsN v i 1 == 1

/-- The signed value of the low n bits of v. -/
def signedN (n v : Nat) : Int :=
  let u := v % 2 ^ n
  if 2 * u ≥ 2 ^ n then (u : Int) - 2 ^ n else u

/-- The low n bits of an integer. -/
def wrapN (n : Nat) (z : Int) : Nat := (z % 2 ^ n).toNat

/-- A 32-bit immediate sign-extended to 64 bits (R78). -/
def sext32 (v : Nat) : Word := BitVec.ofInt 64 (signedN 32 v)

/-- The number whose little-endian bytes are given (R11). -/
def ofLE : List Byte → Nat
  | [] => 0
  | b :: bs => b.toNat + 256 * ofLE bs

/-- The low n bytes of a number, least significant first (R11). -/
def toLE : Nat → Nat → List Byte
  | 0, _ => []
  | n + 1, v => BitVec.ofNat 8 v :: toLE n (v / 256)

/-- ceil(a ÷ b). -/
def ceilDiv (a b : Nat) : Nat := (a + b - 1) / b

/-- The number of set bits of the low n bits of v. -/
def popCount : Nat → Nat → Nat
  | 0, _ => 0
  | n + 1, v => v % 2 + popCount n (v / 2)

/-- The number with bit i set. -/
def setBitN (v i : Nat) : Nat := if bitN v i then v else v + 2 ^ i

/-- The number with bit i cleared. -/
def clearBitN (v i : Nat) : Nat := if bitN v i then v - 2 ^ i else v

/-- The lesser of v and the largest n-bit value: a counter that saturates. -/
def satN (n v : Nat) : Nat := min v (2 ^ n - 1)

/-- n copies of a byte. -/
def zeroBytes (n : Nat) : List Byte := List.replicate n 0#8

/-- The first position at or after i, of n positions, that satisfies p. -/
def firstFrom (p : Nat → Bool) : Nat → Nat → Option Nat
  | 0, _ => none
  | n + 1, i => if p i then some i else firstFrom p n (i + 1)

/-- The element of a list with the given change at position i. -/
def modAt {α : Type} (l : List α) (i : Nat) (f : α → α) : List α :=
  match l, i with
  | [], _ => []
  | x :: xs, 0 => f x :: xs
  | x :: xs, i + 1 => x :: modAt xs i f

/-- f applied for i = 0 to n - 1, in that order. -/
def iter {α : Type} (n : Nat) (f : Nat → α → α) (a : α) : α := (List.range n).foldl (fun s i => f i s) a

end Sys2Proof.Machine
end

