-- ==== Sys2Proof/Machine/Format.lean ====
section
/-! DEFINITION. Number formats, rounding, conversion and the stochastic generator (spec/04_formats.md). Values are exact:
a finite value is a sign, a magnitude and a power of two. -/

namespace Sys2Proof.Machine

/-- A format's shape (Table FMT-1): width, exponent bits (0 for an integer), mantissa bits, bias, whether it has the
infinities and NaNs of IEEE 754, whether it has the one NaN of E4M3, and whether an integer is signed. -/
structure Fmt where
  width : Nat
  ebits : Nat := 0
  mbits : Nat := 0
  bias : Nat := 0
  ieee : Bool := false
  oneNaN : Bool := false
  signed : Bool := true
  deriving DecidableEq, Repr

/-- The formats by code (Tables ISA-4 and FMT-1). -/
def fmt : Nat → Fmt
  | 0 => ⟨64, 11, 52, 1023, true, false, true⟩
  | 1 => ⟨32, 8, 23, 127, true, false, true⟩
  | 2 => ⟨19, 8, 10, 127, true, false, true⟩
  | 3 => ⟨16, 8, 7, 127, true, false, true⟩
  | 4 => ⟨16, 5, 10, 15, true, false, true⟩
  | 5 => ⟨8, 5, 2, 15, true, false, true⟩
  | 6 => ⟨8, 4, 3, 7, false, true, true⟩
  | 7 => ⟨6, 3, 2, 3, false, false, true⟩
  | 8 => ⟨6, 2, 3, 1, false, false, true⟩
  | 9 => ⟨4, 2, 1, 1, false, false, true⟩
  | 10 => { width := 32 }
  | 11 => { width := 16 }
  | 12 => { width := 8 }
  | 13 => { width := 8, signed := false }
  | _ => { width := 4 }

/-- The format is floating. -/
def Fmt.float (x : Fmt) : Bool := x.ebits != 0

/-- An exact value: (-1)^neg × m × 2^e, an infinity, or a NaN with its signalling bit. -/
inductive FVal where
  | fin (neg : Bool) (m : Nat) (e : Int)
  | inf (neg : Bool)
  | nan (sig : Bool)
  deriving DecidableEq, Repr

/-- The flags of R111. -/
structure FFlags where
  ovf : Bool := false
  unf : Bool := false
  inv : Bool := false
  deriving DecidableEq, Repr

/-- Flags collected over elements (R111). -/
def FFlags.or (a b : FFlags) : FFlags := ⟨a.ovf || b.ovf, a.unf || b.unf, a.inv || b.inv⟩

/-- OVF in bit 0, UNF in bit 1, INV in bit 2 (MTX_FLAGS, VEC_FLAGS). -/
def FFlags.toNat (a : FFlags) : Nat := a.ovf.toNat + 2 * a.unf.toNat + 4 * a.inv.toNat

/-- The value of an encoding (R98, R99, R102). -/
def decodeF (x : Fmt) (v : Nat) : FVal :=
  let v := v % 2 ^ x.width
  if !x.float then
    let z : Int := if x.signed then signedN x.width v else v
    .fin (decide (z < 0)) z.natAbs 0
  else
    let neg := bitN v (x.width - 1)
    let e := bitsN v x.mbits x.ebits
    let m := bitsN v 0 x.mbits
    if x.ieee && e == 2 ^ x.ebits - 1 then if m = 0 then .inf neg else .nan (!bitN m (x.mbits - 1))
    else if x.oneNaN && e == 2 ^ x.ebits - 1 && m == 2 ^ x.mbits - 1 then .nan false
    else if e = 0 then .fin neg m (1 - (x.bias : Int) - x.mbits)
    else .fin neg (2 ^ x.mbits + m) ((e : Int) - x.bias - x.mbits)

/-- The canonical quiet NaN (Table FMT-3). -/
def nanOf (x : Fmt) : Nat :=
  if x.ieee then (2 ^ x.ebits - 1) * 2 ^ x.mbits + 2 ^ (x.mbits - 1)
  else if x.oneNaN then 2 ^ (x.width - 1) - 1 else 0

/-- The sign bit of an encoding. -/
def signOf (x : Fmt) (neg : Bool) : Nat := if neg then 2 ^ (x.width - 1) else 0

/-- The encoding of infinity, of a format that has it. -/
def infOf (x : Fmt) (neg : Bool) : Nat := signOf x neg + (2 ^ x.ebits - 1) * 2 ^ x.mbits

/-- The encoding of the largest finite magnitude (Table FMT-2), without sign. -/
def maxOf (x : Fmt) : Nat :=
  if x.ieee then (2 ^ x.ebits - 1) * 2 ^ x.mbits - 1
  else if x.oneNaN then 2 ^ (x.width - 1) - 2 else 2 ^ (x.width - 1) - 1

/-- m × 2^e as (units, 0) over a common spacing 2^q with q ≤ e. -/
def scaleTo (m : Nat) (e q : Int) : Nat := m * 2 ^ (e - q).toNat

/-- m × 2^e > m' × 2^e'. -/
def magGt (m : Nat) (e : Int) (m' : Nat) (e' : Int) : Bool :=
  let q := min e e'
  decide (scaleTo m' e' q < scaleTo m e q)

/-- A rounding: mode, number of stochastic bits and their value (R112, R119). -/
structure Rnd where
  mode : Nat := 0
  n : Nat := 1
  r : Nat := 0
  deriving DecidableEq, Repr

/-- The exponent of the destination's spacing at m × 2^e (R112): the exponent is unbounded above and at least the
smallest normal exponent; integers have spacing 1. -/
def spacing (x : Fmt) (m : Nat) (e : Int) : Int :=
  if x.float then max ((Nat.log2 m : Int) + e) (1 - (x.bias : Int)) - x.mbits else 0

/-- `round_mag` (R112): the magnitude in units of the spacing, and whether it is inexact. -/
def roundMag (x : Fmt) (neg : Bool) (m : Nat) (e : Int) (rnd : Rnd) : Nat × Int × Bool :=
  let q := spacing x m e
  if q ≤ e then (scaleTo m e q, q, false) else
  let d := 2 ^ (q - e).toNat
  let lo := m / d
  let rem := m % d
  if rem = 0 then (lo, q, false) else
  let up := match rnd.mode with
    | 0 => decide (d < 2 * rem) || (decide (2 * rem = d) && decide (lo % 2 = 1))
    | 1 => false
    | 2 => !neg
    | 3 => neg
    | _ => decide (2 ^ rnd.n ≤ rem * 2 ^ rnd.n / d + rnd.r)
  (if up then lo + 1 else lo, q, true)

/-- The encoding of a representable magnitude, units × 2^q with the spacing of `spacing`. -/
def encodeMag (x : Fmt) (neg : Bool) (u : Nat) (q : Int) : Nat :=
  let (u, q) := if u = 2 ^ (x.mbits + 1) then (u / 2, q + 1) else (u, q)
  if u < 2 ^ x.mbits then signOf x neg + u
  else signOf x neg + (q + x.mbits + x.bias).toNat * 2 ^ x.mbits + (u - 2 ^ x.mbits)

/-- Overflow of a floating destination (Table FMT-4, R113). -/
def overflowF (x : Fmt) (neg : Bool) (mode : Nat) : Nat :=
  if x.ieee then
    match mode with
    | 1 => signOf x neg + maxOf x
    | 2 => if neg then signOf x neg + maxOf x else infOf x neg
    | 3 => if neg then infOf x neg else signOf x neg + maxOf x
    | _ => infOf x neg
  else if x.oneNaN then nanOf x else signOf x neg + maxOf x

/-- The least and largest integer of a format (R102). -/
def intRange (x : Fmt) : Int × Int :=
  if x.signed then (-(2 ^ (x.width - 1)), 2 ^ (x.width - 1) - 1) else (0, 2 ^ x.width - 1)

/-- An integer saturated to a format, and whether it was out of range. -/
def satInt (x : Fmt) (z : Int) : Nat × Bool :=
  let (lo, hi) := intRange x
  if z < lo then (wrapN x.width lo, true) else if hi < z then (wrapN x.width hi, true) else (wrapN x.width z, false)

/-- An exact value rounded once into a format: the encoding and its flags (R112 to R114, Table FMT-4, R111, R107). -/
def encodeF (x : Fmt) (rnd : Rnd) : FVal → Nat × FFlags
  | .nan sig =>
    if x.ieee || x.oneNaN then (nanOf x, { inv := sig }) else (0, { inv := true })
  | .inf neg =>
    if x.ieee then (infOf x neg, {})
    else if x.oneNaN then (nanOf x, { ovf := true })
    else if x.float then (signOf x neg + maxOf x, { ovf := true })
    else (wrapN x.width (if neg then (intRange x).1 else (intRange x).2), { ovf := true })
  | .fin neg m e =>
    if m = 0 then (if x.float then signOf x neg else 0, {}) else
    let (u, q, inexact) := roundMag x neg m e rnd
    if x.float then
      let unf := inexact && decide ((Nat.log2 m : Int) + e < 1 - (x.bias : Int))
      let big := match decodeF x (maxOf x) with
        | .fin _ mm me => magGt u q mm me
        | _ => false
      if big then (overflowF x neg rnd.mode, { ovf := true, unf := unf }) else (encodeMag x neg u q, { unf := unf })
    else
      let (v, o) := satInt x (if neg then -(u : Int) else u)
      (v, { ovf := o })

/-- The conversion of R114 from one format to another; sat is the configuration word's SAT. -/
def convF (src dst : Fmt) (sat : Bool) (rnd : Rnd) (v : Nat) : Nat × FFlags :=
  if !src.float && !dst.float then
    let z : Int := if src.signed then signedN src.width v else (v % 2 ^ src.width : Nat)
    if sat then let (u, o) := satInt dst z; (u, { ovf := o }) else (wrapN dst.width z, {})
  else encodeF dst rnd (decodeF src v)

/-! ### Exact arithmetic on values (R106 to R108) -/

/-- The value is a NaN. -/
def FVal.isNaN : FVal → Bool
  | .nan _ => true
  | _ => false

/-- The value is a signalling NaN. -/
def FVal.isSig : FVal → Bool
  | .nan s => s
  | _ => false

/-- A sign changed. -/
def FVal.negate : FVal → FVal
  | .fin n m e => .fin (!n) m e
  | .inf n => .inf (!n)
  | v => v

/-- The signed integer of a finite value over the spacing 2^q, q ≤ e. -/
def FVal.units (q : Int) : FVal → Int
  | .fin n m e => if n then -(scaleTo m e q : Int) else scaleTo m e q
  | _ => 0

/-- The exponent of a finite value. -/
def FVal.expo : FVal → Int
  | .fin _ _ e => e
  | _ => 0

/-- The exact sum, with the sign of R108 for a zero, and whether INV is raised (R107). -/
def addV (mode : Nat) (a b : FVal) : FVal × Bool :=
  match a, b with
  | .nan s, y => (.nan false, s || y.isSig)
  | x, .nan s => (.nan false, x.isSig || s)
  | .inf n, .inf n' => if n = n' then (.inf n, false) else (.nan false, true)
  | .inf n, _ => (.inf n, false)
  | _, .inf n => (.inf n, false)
  | .fin n m e, .fin n' m' e' =>
    let q := min e e'
    let z := FVal.units q a + FVal.units q b
    if z = 0 then (.fin (if m = 0 ∧ m' = 0 ∧ n = n' then n else mode == 3) 0 0, false)
    else (.fin (decide (z < 0)) z.natAbs q, false)

/-- The exact product and whether INV is raised (R107, R108). -/
def mulV (a b : FVal) : FVal × Bool :=
  match a, b with
  | .nan s, y => (.nan false, s || y.isSig)
  | x, .nan s => (.nan false, x.isSig || s)
  | .inf n, .inf n' => (.inf (n != n'), false)
  | .inf n, .fin n' m _ => if m = 0 then (.nan false, true) else (.inf (n != n'), false)
  | .fin n m _, .inf n' => if m = 0 then (.nan false, true) else (.inf (n != n'), false)
  | .fin n m e, .fin n' m' e' => (.fin (n != n') (m * m') (e + e'), false)

/-- The exact a × b + d with one rounding to come; 0 × ∞ raises INV even where d is a NaN (R107, R157). -/
def fmaV (mode : Nat) (a b d : FVal) : FVal × Bool :=
  let (p, i) := mulV a b
  let (z, j) := addV mode p d
  (z, i || j)

/-- Equality of two numbers; -0 equals +0; false with a NaN (R109). -/
def eqV : FVal → FVal → Bool
  | .inf n, .inf n' => n == n'
  | .fin n m e, .fin n' m' e' =>
    let q := min e e'
    decide (FVal.units q (.fin n m e) = FVal.units q (.fin n' m' e'))
  | _, _ => false

/-- a < b of two numbers; false with a NaN (R109). -/
def ltV : FVal → FVal → Bool
  | .inf n, .inf n' => n && !n'
  | .inf n, .fin _ _ _ => n
  | .fin _ _ _, .inf n => !n
  | .fin n m e, .fin n' m' e' =>
    let q := min e e'
    decide (FVal.units q (.fin n m e) < FVal.units q (.fin n' m' e'))
  | _, _ => false

/-- The total order of R110 on numbers: -0 counts as less than +0. -/
def ltTotal (a b : FVal) : Bool :=
  ltV a b || (eqV a b && (match a, b with
    | .fin n m _, .fin n' _ _ => decide (m = 0) && n && !n'
    | _, _ => false))

/-- The value is zero. -/
def FVal.isZero : FVal → Bool
  | .fin _ m _ => m == 0
  | _ => false

/-- The value is negative, a zero included. -/
def FVal.isNeg : FVal → Bool
  | .fin n _ _ => n
  | .inf n => n
  | .nan _ => false

/-! ### Quotients and square roots

A quotient or root is not dyadic. Its value is cut to a number of bits far below every destination's rounding point, with
a last bit that is 1 where anything was cut (sticky): every rounding of R112 then gives the exact result's rounding. -/

/-- Bits kept below the leading bit. -/
def stickyBits : Nat := 160

/-- |a| ÷ |b| of nonzero finite values, sticky. -/
def divV (a b : FVal) : FVal :=
  match a, b with
  | .fin n m e, .fin n' m' e' =>
    if m' = 0 then .nan false else
    let sh := stickyBits + Nat.log2 m' + 1
    let num := m * 2 ^ sh
    let qn := num / m'
    let st := if num % m' = 0 then 0 else 1
    .fin (n != n') (2 * qn + st) (e - e' - sh - 1)
  | _, _ => .nan false

/-- The integer square root by bits: the largest r with r × r ≤ v, built from bit n - 1 down. -/
def isqrtBits : Nat → Nat → Nat → Nat
  | 0, r, _ => r
  | n + 1, r, v => if (r + 2 ^ n) * (r + 2 ^ n) ≤ v then isqrtBits n (r + 2 ^ n) v else isqrtBits n r v

/-- The square root of a positive finite value, sticky. -/
def sqrtV : FVal → FVal
  | .fin n m e =>
    if m = 0 then .fin n 0 0 else
    if n then .nan false else
    let sh := 2 * stickyBits
    let (m, e) := if e % 2 = 0 then (m, e) else (2 * m, e - 1)
    let v := m * 2 ^ sh
    let r := isqrtBits (Nat.log2 v / 2 + 1) 0 v
    let st := if r * r = v then 0 else 1
    .fin false (2 * r + st) (e / 2 - stickyBits - 1)
  | .inf n => if n then .nan false else .inf false
  | .nan s => .nan s

/-! ### The stochastic generator (R119) -/

/-- `mix64`. -/
def mix64 (z : Word) : Word :=
  let z := (z ^^^ (z >>> 30)) * 0xBF58476D1CE4E5B9#64
  let z := (z ^^^ (z >>> 27)) * 0x94D049BB133111EB#64
  z ^^^ (z >>> 31)

/-- `sr_bits`: the n random bits of an element. -/
def srBits (seed tag : Word) (lane index n : Nat) : Nat :=
  let k := mix64 (seed ^^^ 0x9E3779B97F4A7C15#64)
  let st := mix64 (k ^^^ tag)
  let y := mix64 (st + BitVec.ofNat 64 (lane * 2 ^ 32 + index))
  bits y (64 - n) n

/-- The lanes Λ of a destination (Table FMT-5). -/
def lanesOf (x : Fmt) : Nat := if x.width ≤ 8 then 512 else if x.width ≤ 16 then 256 else 128

/-! ### Packing (R103) -/

/-- Element k of width w of a byte string. -/
def elemAt (w k : Nat) (bs : List Byte) : Nat :=
  let lo := w * k / 8
  let hi := (w * k + w + 7) / 8
  bitsN (ofLE ((bs.drop lo).take (hi - lo))) (w * k % 8) w

/-- Elements of width w as a byte string; the last byte is filled with zeros (log entry 73). -/
def packElems (w : Nat) (es : List Nat) : List Byte :=
  toLE ((w * es.length + 7) / 8) (es.foldr (fun e acc => e % 2 ^ w + 2 ^ w * acc) 0)

/-- n elements of width w of a byte string. -/
def unpackElems (w n : Nat) (bs : List Byte) : List Nat := (List.range n).map (fun k => elemAt w k bs)

end Sys2Proof.Machine
end

