-- ==== Sys2Proof/Machine/Map.lean ====
section
/-! DEFINITION. Sparse maps as lists of key and value pairs in one canonical form: keys in rising rank, no entry equal
to the default. The register file, the memory and every per-core table of State are such maps. -/

namespace Sys2Proof.Machine

/-- A sparse map. A key that is not listed holds the default its reader names. -/
abbrev SMap (κ ν : Type) := List (κ × ν)

variable {κ ν : Type} [DecidableEq κ] [DecidableEq ν]

/-- The value of a key, d where the key is not listed. -/
def SMap.get (d : ν) : SMap κ ν → κ → ν
  | [], _ => d
  | (k', v) :: m, k => if k' = k then v else SMap.get d m k

/-- The map without a key. -/
def SMap.erase (k : κ) : SMap κ ν → SMap κ ν
  | [] => []
  | (k', v) :: m => if k' = k then SMap.erase k m else (k', v) :: SMap.erase k m

/-- The map with an entry put before the first entry of a higher rank. -/
def SMap.insert (rank : κ → Nat) (k : κ) (v : ν) : SMap κ ν → SMap κ ν
  | [] => [(k, v)]
  | (k', v') :: m => if rank k < rank k' then (k, v) :: (k', v') :: m else (k', v') :: SMap.insert rank k v m

/-- The map with key k at v; a default is not listed. -/
def SMap.set (rank : κ → Nat) (d : ν) (m : SMap κ ν) (k : κ) (v : ν) : SMap κ ν :=
  if v = d then SMap.erase k m else SMap.insert rank k v (SMap.erase k m)

/-- The keys listed. -/
def SMap.keys (m : SMap κ ν) : List κ := m.map (·.1)

/-- The canonical form: ranks strictly rise and no entry is the default of its key. -/
def SMap.wf (rank : κ → Nat) (dflt : κ → ν) : SMap κ ν → Bool
  | [] => true
  | (k, v) :: m => decide (v ≠ dflt k) && m.all (fun e => decide (rank k < rank e.1)) && SMap.wf rank dflt m

end Sys2Proof.Machine
end

