-- ==== Sys2Proof/Machine/Mem.lean ====
section
/-! DEFINITION. Memory: HBM, the scratchpads, the instruction stores, the two host memories and the mailbox buffers as
one canonical list of cells. Each space is a range of keys. -/

namespace Sys2Proof.Machine

/-- All memory of the model: keys strictly rise, no listed byte is 0. -/
abbrev Mem := List Host.Cell

/-- What an unlisted address reads as: HBM and scratchpads are written with zeros at start (Table HOST-9); for the
instruction stores and the host memories DESIGN CHOICE, log entry 5, UNSAFE. -/
def unlistedByte : Byte := 0#8

/-- The byte at a key. -/
def Mem.get (m : Mem) (k : Nat) : Byte := SMap.get unlistedByte m k

/-- The memory with the byte at a key replaced. -/
def Mem.set (m : Mem) (k : Nat) (b : Byte) : Mem := SMap.set id unlistedByte m k b

/-- The canonical form. -/
def Memory.wf (m : Mem) : Bool := SMap.wf id (fun _ => unlistedByte) m

/-- n bytes from a key. -/
def Mem.read (m : Mem) (k n : Nat) : List Byte := (List.range n).map (fun i => m.get (k + i))

/-- The memory with a list of bytes stored from a key. -/
def Mem.write : Mem → Nat → List Byte → Mem
  | m, _, [] => m
  | m, k, b :: bs => Mem.write (m.set k b) (k + 1) bs

/-- The first key of HBM; HBM local address a has key a (R183). -/
def hbmSize : Nat := 0x12000000000

/-- The key of HBM local address a. -/
def hbmKey (a : Nat) : Nat := a

/-- The bytes of one scratchpad (R186). -/
def spadSize : Nat := 0x300000

/-- The key of offset o of core g's scratchpad. -/
def spadKey (g o : Nat) : Nat := 2 ^ 44 + g * 2 ^ 22 + o

/-- The key of byte o of core g's instruction store (32 units of 1,024 instructions, R92). -/
def istoreKey (g o : Nat) : Nat := 2 ^ 45 + g * 2 ^ 18 + o

/-- The key of byte o of port p's mailbox pages (Table HOST-2): request from 0, response from 0x8000. -/
def mbxKey (p o : Nat) : Nat := 2 ^ 46 + p * 2 ^ 16 + o

/-- The key of host bus address a behind port p (R204). -/
def hostKey (p a : Nat) : Nat := (p + 1) * 2 ^ 70 + a % 2 ^ 64

end Sys2Proof.Machine
end

