-- ==== Sys2Proof/Machine/Operands.lean ====
section
/-! DEFINITION. Instruction words: classes, opcodes, operand formats and reserved fields (R78 to R85, Tables ISA-2 to
ISA-13). Decoding is total: a word is an instruction or it raises the invalid-instruction fault. -/

namespace Sys2Proof.Machine

/-- The opcodes of Tables ISA-6 to ISA-13; the immediate form of a vector opcode is the same opcode (R84). -/
inductive Op where
  | nop | endBlock | fclose | yield | fence | tokadd | arm | disarm | esync | beq | bne | blt | bge | bltu
  | bgeu | jal | jalr | trap | add | sub | and | or | xor | sll | srl | sra | slt | sltu | mul | mulhu | divu
  | remu | min | max | popc | clz | addi | andi | ori | xori | slli | srli | srai | slti | li | lui | ld8
  | ld16 | ld32 | ld64 | lds8 | lds16 | lds32 | st8 | st16 | st32 | st64 | amoadd | amoswap | amocas | mma
  | mwb | mtin | mtout | mlb | mle | vadd | vsub | vmul | vshl | vshr | vand | vor | vxor | vcmp | vsel
  | vfadd | vfmul | vfma | vcvt | vrcp | vrsq | vrstep | vredsum | vredmax | vredmin | vupd | vcfg | dld
  | dgo | dstop | dstat | sput | sget | satom | msend | msendr | mrecv | mcount | cole | colw | colr | crd
  | cwr
  deriving DecidableEq, Repr

/-- A decoded instruction: opcode, odd vector opcode (immediate form), the three register fields and the word. -/
structure Dec where
  op : Op
  odd : Bool
  rd : Nat
  rs1 : Nat
  rs2 : Nat
  raw : Word
  deriving DecidableEq, Repr

/-- One row of the opcode tables: class, opcode, the bits that must be 0, which register fields are read (RD, RS1, RS2)
and which are written. -/
structure OpRow where
  op : Op
  cls : Nat
  code : Nat
  zero : Nat
  rdRead : Bool
  rs1Read : Bool
  rs2Read : Bool
  rdWrite : Bool
  rs1Write : Bool
  rs2Write : Bool
  deriving DecidableEq, Repr

/-- Class 0 (Table ISA-6). -/
def opRowsControl : List OpRow :=
  [⟨.nop, 0, 0x0, 0x3fffffffffffff, false, false, false, false, false, false⟩,
   ⟨.endBlock, 0, 0x1, 0x3fffffffffffff, false, false, false, false, false, false⟩,
   ⟨.fclose, 0, 0x2, 0x3fffffffffffff, false, false, false, false, false, false⟩,
   ⟨.yield, 0, 0x3, 0x3fffffffffffff, false, false, false, false, false, false⟩,
   ⟨.fence, 0, 0x8, 0x3fffffffffffff, false, false, false, false, false, false⟩,
   ⟨.tokadd, 0, 0x4, 0x1fffffff00fff, false, false, false, false, false, false⟩,
   ⟨.arm, 0, 0x5, 0x3fffffffe00fff, false, false, false, false, false, false⟩,
   ⟨.disarm, 0, 0x6, 0x3fffffffe00fff, false, false, false, false, false, false⟩,
   ⟨.esync, 0, 0x7, 0x3fffffffffcfff, false, false, false, false, false, false⟩,
   ⟨.beq, 0, 0x9, 0x3e0000007fffff, false, true, true, false, false, false⟩,
   ⟨.bne, 0, 0xa, 0x3e0000007fffff, false, true, true, false, false, false⟩,
   ⟨.blt, 0, 0xb, 0x3e0000007fffff, false, true, true, false, false, false⟩,
   ⟨.bge, 0, 0xc, 0x3e0000007fffff, false, true, true, false, false, false⟩,
   ⟨.bltu, 0, 0xd, 0x3e0000007fffff, false, true, true, false, false, false⟩,
   ⟨.bgeu, 0, 0xe, 0x3e0000007fffff, false, true, true, false, false, false⟩,
   ⟨.jal, 0, 0xf, 0x1f00000000fff, false, false, false, true, false, false⟩,
   ⟨.jalr, 0, 0x10, 0xfff, false, true, false, true, false, false⟩,
   ⟨.trap, 0, 0x11, 0x3ff00000000fff, false, false, false, false, false, false⟩]

/-- Class 1 (Table ISA-7). -/
def opRowsScalar : List OpRow :=
  [⟨.add, 1, 0x0, 0x7fffffffff, false, true, true, true, false, false⟩,
   ⟨.sub, 1, 0x1, 0x7fffffffff, false, true, true, true, false, false⟩,
   ⟨.and, 1, 0x2, 0x7fffffffff, false, true, true, true, false, false⟩,
   ⟨.or, 1, 0x3, 0x7fffffffff, false, true, true, true, false, false⟩,
   ⟨.xor, 1, 0x4, 0x7fffffffff, false, true, true, true, false, false⟩,
   ⟨.sll, 1, 0x5, 0x7fffffffff, false, true, true, true, false, false⟩,
   ⟨.srl, 1, 0x6, 0x7fffffffff, false, true, true, true, false, false⟩,
   ⟨.sra, 1, 0x7, 0x7fffffffff, false, true, true, true, false, false⟩,
   ⟨.slt, 1, 0x8, 0x7fffffffff, false, true, true, true, false, false⟩,
   ⟨.sltu, 1, 0x9, 0x7fffffffff, false, true, true, true, false, false⟩,
   ⟨.mul, 1, 0xa, 0x7fffffffff, false, true, true, true, false, false⟩,
   ⟨.mulhu, 1, 0xb, 0x7fffffffff, false, true, true, true, false, false⟩,
   ⟨.divu, 1, 0xc, 0x7fffffffff, false, true, true, true, false, false⟩,
   ⟨.remu, 1, 0xd, 0x7fffffffff, false, true, true, true, false, false⟩,
   ⟨.min, 1, 0xe, 0x7fffffffff, false, true, true, true, false, false⟩,
   ⟨.max, 1, 0xf, 0x7fffffffff, false, true, true, true, false, false⟩,
   ⟨.popc, 1, 0x10, 0xfffffffffff, false, true, false, true, false, false⟩,
   ⟨.clz, 1, 0x11, 0xfffffffffff, false, true, false, true, false, false⟩,
   ⟨.addi, 1, 0x20, 0xfff, false, true, false, true, false, false⟩,
   ⟨.andi, 1, 0x21, 0xfff, false, true, false, true, false, false⟩,
   ⟨.ori, 1, 0x22, 0xfff, false, true, false, true, false, false⟩,
   ⟨.xori, 1, 0x23, 0xfff, false, true, false, true, false, false⟩,
   ⟨.slli, 1, 0x24, 0xffffffc0fff, false, true, false, true, false, false⟩,
   ⟨.srli, 1, 0x25, 0xffffffc0fff, false, true, false, true, false, false⟩,
   ⟨.srai, 1, 0x26, 0xffffffc0fff, false, true, false, true, false, false⟩,
   ⟨.slti, 1, 0x27, 0xfff, false, true, false, true, false, false⟩,
   ⟨.li, 1, 0x28, 0x1f00000000fff, false, false, false, true, false, false⟩,
   ⟨.lui, 1, 0x29, 0x1f00000000fff, true, false, false, true, false, false⟩,
   ⟨.ld8, 1, 0x30, 0xfff, false, true, false, true, false, false⟩,
   ⟨.ld16, 1, 0x31, 0xfff, false, true, false, true, false, false⟩,
   ⟨.ld32, 1, 0x32, 0xfff, false, true, false, true, false, false⟩,
   ⟨.ld64, 1, 0x33, 0xfff, false, true, false, true, false, false⟩,
   ⟨.lds8, 1, 0x34, 0xfff, false, true, false, true, false, false⟩,
   ⟨.lds16, 1, 0x35, 0xfff, false, true, false, true, false, false⟩,
   ⟨.lds32, 1, 0x36, 0xfff, false, true, false, true, false, false⟩,
   ⟨.st8, 1, 0x38, 0xfff, true, true, false, false, false, false⟩,
   ⟨.st16, 1, 0x39, 0xfff, true, true, false, false, false, false⟩,
   ⟨.st32, 1, 0x3a, 0xfff, true, true, false, false, false, false⟩,
   ⟨.st64, 1, 0x3b, 0xfff, true, true, false, false, false, false⟩,
   ⟨.amoadd, 1, 0x3c, 0x7fffffffff, false, true, true, true, false, false⟩,
   ⟨.amoswap, 1, 0x3d, 0x7fffffffff, false, true, true, true, false, false⟩,
   ⟨.amocas, 1, 0x3e, 0x7fffffffff, true, true, true, true, false, false⟩]

/-- Class 2 (Table ISA-8 and ISA-9). -/
def opRowsMatrix : List OpRow :=
  [⟨.mma, 2, 0x0, 0xf8003ffffff, true, true, false, false, false, false⟩,
   ⟨.mwb, 2, 0x1, 0xf8003ffffff, true, true, false, false, false, false⟩,
   ⟨.mtin, 2, 0x2, 0x3ffffff7f0ffff, false, false, false, false, false, false⟩,
   ⟨.mtout, 2, 0x3, 0x3ffffff7f0ffff, false, false, false, false, false, false⟩,
   ⟨.mlb, 2, 0x4, 0x1ffffffffffff, true, false, false, false, false, false⟩,
   ⟨.mle, 2, 0x5, 0x3fffffffffffff, false, false, false, false, false, false⟩]

/-- Class 3 (Table ISA-11). -/
def opRowsVector : List OpRow :=
  [⟨.vadd, 3, 0x0, 0xffffffff, true, true, true, false, false, false⟩,
   ⟨.vadd, 3, 0x1, 0xf8000000000, true, true, false, false, false, false⟩,
   ⟨.vsub, 3, 0x2, 0xffffffff, true, true, true, false, false, false⟩,
   ⟨.vsub, 3, 0x3, 0xf8000000000, true, true, false, false, false, false⟩,
   ⟨.vmul, 3, 0x4, 0xffffffff, true, true, true, false, false, false⟩,
   ⟨.vmul, 3, 0x5, 0xf8000000000, true, true, false, false, false, false⟩,
   ⟨.vshl, 3, 0x6, 0xffffffff, true, true, true, false, false, false⟩,
   ⟨.vshl, 3, 0x7, 0xf8000000000, true, true, false, false, false, false⟩,
   ⟨.vshr, 3, 0x8, 0xffffffff, true, true, true, false, false, false⟩,
   ⟨.vshr, 3, 0x9, 0xf8000000000, true, true, false, false, false, false⟩,
   ⟨.vand, 3, 0xa, 0xffffffff, true, true, true, false, false, false⟩,
   ⟨.vand, 3, 0xb, 0xf8000000000, true, true, false, false, false, false⟩,
   ⟨.vor, 3, 0xc, 0xffffffff, true, true, true, false, false, false⟩,
   ⟨.vor, 3, 0xd, 0xf8000000000, true, true, false, false, false, false⟩,
   ⟨.vxor, 3, 0xe, 0xffffffff, true, true, true, false, false, false⟩,
   ⟨.vxor, 3, 0xf, 0xf8000000000, true, true, false, false, false, false⟩,
   ⟨.vcmp, 3, 0x10, 0xffffffff, true, true, true, false, false, false⟩,
   ⟨.vcmp, 3, 0x11, 0xf8000000000, true, true, false, false, false, false⟩,
   ⟨.vsel, 3, 0x12, 0xffffffff, true, true, true, false, false, false⟩,
   ⟨.vsel, 3, 0x13, 0xf8000000000, true, true, false, false, false, false⟩,
   ⟨.vfadd, 3, 0x14, 0xffffffff, true, true, true, false, false, false⟩,
   ⟨.vfadd, 3, 0x15, 0xf8000000000, true, true, false, false, false, false⟩,
   ⟨.vfmul, 3, 0x16, 0xffffffff, true, true, true, false, false, false⟩,
   ⟨.vfmul, 3, 0x17, 0xf8000000000, true, true, false, false, false, false⟩,
   ⟨.vfma, 3, 0x18, 0xffffffff, true, true, true, false, false, false⟩,
   ⟨.vfma, 3, 0x19, 0xf8000000000, true, true, false, false, false, false⟩,
   ⟨.vcvt, 3, 0x1a, 0xf80ffffffff, true, true, false, false, false, false⟩,
   ⟨.vrcp, 3, 0x1c, 0xf80ffffffff, true, true, false, false, false, false⟩,
   ⟨.vrsq, 3, 0x1e, 0xf80ffffffff, true, true, false, false, false, false⟩,
   ⟨.vrstep, 3, 0x20, 0xfffffffe, true, true, true, false, false, false⟩,
   ⟨.vredsum, 3, 0x22, 0xf80ffffffff, true, true, false, false, false, false⟩,
   ⟨.vredmax, 3, 0x24, 0xf80ffffffff, true, true, false, false, false, false⟩,
   ⟨.vredmin, 3, 0x26, 0xf80ffffffff, true, true, false, false, false, false⟩,
   ⟨.vupd, 3, 0x28, 0x7f00000000, true, true, true, false, false, false⟩,
   ⟨.vcfg, 3, 0x3f, 0x3e0fffffffffff, false, true, false, false, false, false⟩]

/-- Class 4 (Table ISA-12). -/
def opRowsDma : List OpRow :=
  [⟨.dld, 4, 0x0, 0x1ff87ffffffff, true, false, false, false, false, false⟩,
   ⟨.dgo, 4, 0x1, 0x3fff87ffffffff, false, false, false, false, false, false⟩,
   ⟨.dstop, 4, 0x2, 0x3fff87ffffffff, false, false, false, false, false, false⟩,
   ⟨.dstat, 4, 0x3, 0x1ff87ffffffff, false, false, false, true, false, false⟩]

/-- Class 5 (Table ISA-13). -/
def opRowsSpur : List OpRow :=
  [⟨.sput, 5, 0x0, 0xf803fffffff, true, true, false, false, false, false⟩,
   ⟨.sget, 5, 0x1, 0xf803fffffff, true, true, false, false, false, false⟩,
   ⟨.satom, 5, 0x2, 0x7fbfffffff, true, true, false, false, false, true⟩]

/-- Class 6 (Table ISA-13). -/
def opRowsMessage : List OpRow :=
  [⟨.msend, 6, 0x0, 0xf80ffffffff, true, true, false, false, false, false⟩,
   ⟨.msendr, 6, 0x1, 0xf80ffffffff, true, false, false, false, false, false⟩,
   ⟨.mrecv, 6, 0x2, 0xf8fffffffff, true, false, false, false, true, false⟩,
   ⟨.mcount, 6, 0x3, 0x1ff8fffffffff, false, false, false, true, false, false⟩]

/-- Class 7 (Table ISA-13). -/
def opRowsCol : List OpRow :=
  [⟨.cole, 7, 0x0, 0x3fff8001ffffff, false, false, false, false, false, false⟩,
   ⟨.colw, 7, 0x1, 0x3fff8007ffffff, false, false, false, false, false, false⟩,
   ⟨.colr, 7, 0x2, 0x1ff8007ffffff, false, false, false, true, false, false⟩]

/-- Class 8 (Table ISA-13). -/
def opRowsConfig : List OpRow :=
  [⟨.crd, 8, 0x0, 0x1ff8007ffffff, false, false, false, true, false, false⟩,
   ⟨.cwr, 8, 0x1, 0x3e0f8007ffffff, false, true, false, false, false, false⟩]

/-- The rows of a class (Table ISA-3); a reserved class has none. -/
def opRows (cls : Nat) : List OpRow :=
  match cls with
  | 0 => opRowsControl
  | 1 => opRowsScalar
  | 2 => opRowsMatrix
  | 3 => opRowsVector
  | 4 => opRowsDma
  | 5 => opRowsSpur
  | 6 => opRowsMessage
  | 7 => opRowsCol
  | 8 => opRowsConfig
  | _ => []

/-- Bits [53:0] field accessors of an instruction word. -/
def Dec.field (d : Dec) (lo len : Nat) : Nat := bits d.raw lo len

/-- IMM32 of format I. -/
def Dec.imm (d : Dec) : Nat := d.field 12 32

/-- IMM32 sign-extended (R78). -/
def Dec.immS (d : Dec) : Word := sext32 d.imm

/-- OFF16 of format B, signed. -/
def Dec.off (d : Dec) : Int := signedN 16 (d.field 23 16)

/-- ID12 of format C. -/
def Dec.id12 (d : Dec) : Nat := d.field 27 12

/-- IMM of the vector class. -/
def Dec.vimm (d : Dec) : Nat := d.field 0 32

/-- FMT of the vector class, AFMT of MMA, DFMT of MWB, channel of the DMA class. -/
def Dec.f35 (d : Dec) : Nat := d.field 35 4

/-- RND or COND of the vector class, RND of MWB. -/
def Dec.f32 (d : Dec) : Nat := d.field 32 3

/-- The reserved codes of a field that the opcode uses (R78, R80, R154): format 15, rounding 5 to 7; TOKADD of 0 or to
T28; an MSENDR run past s31 (R86). -/
def Dec.badCode (d : Dec) : Bool :=
  match d.op with
  | .tokadd => d.field 12 8 == 0 || d.rd == 28
  | .mma => d.f35 == 15 || d.field 31 4 == 15
  | .mwb => d.f35 == 15 || decide (5 ≤ d.f32)
  | .vadd | .vsub | .vmul | .vshl | .vshr | .vand | .vor | .vxor | .vcmp | .vsel | .vrcp | .vrsq => d.f35 == 15
  | .vfadd | .vfmul | .vfma | .vcvt | .vrstep | .vredsum | .vredmax | .vredmin =>
    d.f35 == 15 || decide (5 ≤ d.f32)
  | .msendr => decide (31 < d.rs1 + d.field 33 3)
  | _ => false

/-- The row of a word, by class [63:60] and opcode [59:54]. -/
def rowOf (w : Word) : Option OpRow := (opRows (bits w 60 4)).find? (fun r => r.code == bits w 54 6)

/-- The instruction a word spells; none where it raises the invalid-instruction fault (R78). -/
def decodeWord (w : Word) : Option Dec :=
  match rowOf w with
  | none => none
  | some r =>
    let d : Dec := ⟨r.op, bits w 54 1 == 1, bits w 49 5, bits w 44 5, bits w 39 5, w⟩
    if w.toNat &&& r.zero = 0 ∧ d.badCode = false then some d else none

/-- The instruction rounds stochastically, for which it samples s30 at issue (R117). -/
def Dec.stochastic (d : Dec) : Bool :=
  match d.op with
  | .mwb | .vfadd | .vfmul | .vfma | .vcvt | .vrstep | .vredsum | .vredmax | .vredmin => decide (d.f32 = 4)
  | _ => false

/-- The scalar registers an instruction reads or writes: a pending mark on one of them holds the strand (R64). An
MSENDR reads LEN ÷ 8 registers from RB (R86). -/
def Dec.uses (d : Dec) : List Nat :=
  match rowOf d.raw with
  | none => []
  | some r =>
    (if r.rdRead || r.rdWrite then [d.rd] else []) ++ (if r.rs1Read || r.rs1Write then [d.rs1] else []) ++
    (if r.rs2Read || r.rs2Write then [d.rs2] else []) ++
    (if d.op = .msendr then (List.range (d.field 33 3 + 1)).map (d.rs1 + ·) else []) ++ (if d.stochastic then [30] else [])

end Sys2Proof.Machine
end

