-- ==== Sys2Proof/Machine/RegMap.lean ====
section
/-! DEFINITION. The register map: BAR 0 offsets, instances, fields, access codes and Reset column of every register,
transcribed from the register tables of spec/ (bases: spec/15_transactions_registers.md). Reserved fields are not listed:
they read 0 and ignore writes (R15). -/

namespace Sys2Proof.Machine
open RegName Access

/-- The map's entry of a register. -/
def RegName.info : RegName → RegInfo
  | FRM_CTRL => ⟨0x0, [], [⟨0, 1, rw, 0⟩, ⟨1, 1, rw, 0⟩]⟩
  | FRM_PERIOD => ⟨0x8, [], [⟨0, 27, rt, 0x186a0⟩]⟩
  | FRM_COUNT => ⟨0x10, [], [⟨0, 64, ro, 0⟩]⟩
  | FRM_TIME => ⟨0x18, [], [⟨0, 27, ro, 0⟩]⟩
  | FRM_START_TIME => ⟨0x20, [], [⟨0, 64, rw, 0⟩]⟩
  | FRM_START_FRAME => ⟨0x28, [], [⟨0, 64, rw, 0⟩]⟩
  | FRM_TICK_TIME => ⟨0x30, [], [⟨0, 64, ro, 0⟩]⟩
  | FRM_SYNC_STATUS => ⟨0x38, [], [⟨0, 3, ro, 0⟩, ⟨8, 4, ro, 0⟩, ⟨32, 32, ro, 0⟩]⟩
  | FRM_SYNC_LIMIT => ⟨0x40, [], [⟨0, 16, rw, 0x19⟩]⟩
  | FRM_EVENT => ⟨0x48, [],
      [⟨0, 1, w1c, 0⟩, ⟨1, 1, w1c, 0⟩, ⟨2, 1, w1c, 0⟩, ⟨3, 1, w1c, 0⟩, ⟨4, 4, w1c, 0⟩, ⟨8, 4, w1c, 0⟩,
       ⟨12, 4, w1c, 0⟩, ⟨16, 4, w1c, 0⟩, ⟨20, 4, w1c, 0⟩]⟩
  | FRM_EVENT_EN => ⟨0x50, [], [⟨0, 24, rw, 0⟩]⟩
  | FRM_SCHED_LEN => ⟨0x58, [], [⟨0, 6, rt, 0⟩]⟩
  | FRM_SCHED_EPOCH => ⟨0x60, [], [⟨0, 64, ro, 0⟩]⟩
  | FRM_NOW => ⟨0x68, [], [⟨0, 64, ro, 0⟩]⟩
  | FRM_SCHED_A => ⟨0x100, [(0x10, 64)],
      [⟨0, 3, rt, 0⟩, ⟨4, 3, rt, 0⟩, ⟨8, 3, rt, 0⟩, ⟨12, 3, rt, 0⟩, ⟨16, 3, rt, 0⟩, ⟨20, 3, rt, 0⟩,
       ⟨24, 3, rt, 0⟩, ⟨28, 3, rt, 0⟩, ⟨32, 3, rt, 0⟩, ⟨36, 3, rt, 0⟩, ⟨40, 3, rt, 0⟩, ⟨44, 3, rt, 0⟩,
       ⟨48, 3, rt, 0⟩, ⟨52, 3, rt, 0⟩, ⟨56, 3, rt, 0⟩, ⟨60, 3, rt, 0⟩]⟩
  | FRM_SCHED_B => ⟨0x108, [(0x10, 64)],
      [⟨0, 3, rt, 0⟩, ⟨4, 3, rt, 0⟩, ⟨8, 3, rt, 0⟩, ⟨12, 3, rt, 0⟩, ⟨16, 3, rt, 0⟩, ⟨20, 3, rt, 0⟩,
       ⟨24, 3, rt, 0⟩, ⟨28, 3, rt, 0⟩, ⟨32, 3, rt, 0⟩, ⟨36, 3, rt, 0⟩, ⟨40, 3, rt, 0⟩, ⟨44, 3, rt, 0⟩,
       ⟨48, 3, rt, 0⟩, ⟨52, 3, rt, 0⟩, ⟨56, 3, rt, 0⟩, ⟨60, 3, rt, 0⟩]⟩
  | FRM_WDOG => ⟨0x1000, [(0x100, 4)], [⟨0, 8, rw, 0x10⟩]⟩
  | FRM_STALL_THRESH => ⟨0x1008, [(0x100, 4)], [⟨0, 32, rw, 0x186a0⟩]⟩
  | FRM_OVR_COUNT => ⟨0x1010, [(0x100, 4)], [⟨0, 64, ro, 0⟩]⟩
  | FRM_OVR_LAST => ⟨0x1018, [(0x100, 4)], [⟨0, 32, ro, 0⟩, ⟨32, 8, ro, 0⟩]⟩
  | FRM_OVR_LAST_FRAME => ⟨0x1020, [(0x100, 4)], [⟨0, 64, ro, 0⟩]⟩
  | FRM_OVR_MAX => ⟨0x1028, [(0x100, 4)], [⟨0, 32, ro, 0⟩, ⟨32, 1, wo, 0⟩]⟩
  | FRM_WDOG_HALT => ⟨0x1030, [(0x100, 4)], [⟨0, 1, ro, 0⟩, ⟨8, 8, ro, 0⟩]⟩
  | FRM_WDOG_FRAME => ⟨0x1038, [(0x100, 4)], [⟨0, 64, ro, 0⟩]⟩
  | FRM_CTX_CTRL => ⟨0x1040, [(0x100, 4)], [⟨0, 1, wo, 0⟩, ⟨1, 1, wo, 0⟩]⟩
  | FRM_STALL_SNAP0 => ⟨0x1048, [(0x100, 4)], [⟨0, 8, ro, 0⟩, ⟨8, 7, ro, 0⟩, ⟨16, 8, ro, 0⟩, ⟨32, 32, ro, 0⟩]⟩
  | FRM_STALL_SNAP1 => ⟨0x1050, [(0x100, 4)], [⟨0, 64, ro, 0⟩]⟩
  | FRM_STALL_SNAP2 => ⟨0x1058, [(0x100, 4)],
      [⟨0, 16, ro, 0⟩, ⟨16, 16, ro, 0⟩, ⟨32, 16, ro, 0⟩, ⟨48, 1, ro, 0⟩, ⟨49, 1, ro, 0⟩, ⟨50, 1, ro, 0⟩,
       ⟨51, 1, ro, 0⟩]⟩
  | FRM_STALL_MISSED => ⟨0x1060, [(0x100, 4)], [⟨0, 32, ro, 0⟩]⟩
  | FRM_IN_HIGH => ⟨0x1070, [(0x100, 4)], [⟨0, 17, rw, 0x1000⟩]⟩
  | FRM_IN_LOW => ⟨0x1078, [(0x100, 4)], [⟨0, 17, rw, 0xc00⟩]⟩
  | FRM_IN_DEADLINE => ⟨0x1080, [(0x100, 4)], [⟨0, 32, rw, 0⟩]⟩
  | FRM_IN_LEVEL => ⟨0x1088, [(0x100, 4)], [⟨0, 17, ro, 0⟩, ⟨32, 1, ro, 0⟩, ⟨33, 17, ro, 0⟩]⟩
  | FRM_IN_ADMITTED => ⟨0x1090, [(0x100, 4)], [⟨0, 64, ro, 0⟩]⟩
  | FRM_IN_DEFERRED => ⟨0x1098, [(0x100, 4)], [⟨0, 64, ro, 0⟩]⟩
  | FRM_IN_REFUSED => ⟨0x10a0, [(0x100, 4)], [⟨0, 64, ro, 0⟩]⟩
  | CORE_CTX_ISTORE => ⟨0x1011000, [(0x4000, 256), (0x800, 4)], [⟨0, 5, rw, 0⟩, ⟨8, 6, rw, 8⟩]⟩
  | CORE_CTX_STATE => ⟨0x1011008, [(0x4000, 256), (0x800, 4)],
      [⟨0, 2, ro, 0⟩, ⟨8, 8, ro, 0⟩, ⟨16, 10, ro, 0⟩, ⟨32, 10, ro, 0⟩]⟩
  | CORE_LOAD_ADDR => ⟨0x1011010, [(0x4000, 256), (0x800, 4)], [⟨0, 64, rw, 0⟩]⟩
  | CORE_LOAD_CTRL => ⟨0x1011018, [(0x4000, 256), (0x800, 4)], [⟨0, 1, wo, 0⟩, ⟨1, 1, wo, 0⟩]⟩
  | CORE_LOAD_STATUS => ⟨0x1011020, [(0x4000, 256), (0x800, 4)], [⟨0, 2, ro, 0⟩, ⟨8, 8, ro, 0⟩]⟩
  | CORE_BT_INDEX => ⟨0x1011028, [(0x4000, 256), (0x800, 4)], [⟨0, 9, rw, 0⟩]⟩
  | CORE_BT_DATA0 => ⟨0x1011030, [(0x4000, 256), (0x800, 4)], [⟨0, 64, rw, 0⟩]⟩
  | CORE_BT_DATA1 => ⟨0x1011038, [(0x4000, 256), (0x800, 4)], [⟨0, 64, rw, 0⟩]⟩
  | CORE_BT_DATA2 => ⟨0x1011040, [(0x4000, 256), (0x800, 4)], [⟨0, 64, rw, 0⟩]⟩
  | CORE_BT_DATA3 => ⟨0x1011048, [(0x4000, 256), (0x800, 4)], [⟨0, 64, rw, 0⟩]⟩
  | CORE_DEFER_MAX => ⟨0x1011050, [(0x4000, 256), (0x800, 4)], [⟨0, 4, rw, 4⟩]⟩
  | CORE_FAULT => ⟨0x1011058, [(0x4000, 256), (0x800, 4)],
      [⟨0, 8, ro, 0⟩, ⟨8, 3, ro, 0⟩, ⟨16, 9, ro, 0⟩, ⟨32, 12, ro, 0⟩]⟩
  | CORE_FAULT_ADDR => ⟨0x1011060, [(0x4000, 256), (0x800, 4)], [⟨0, 64, ro, 0⟩]⟩
  | CORE_EVENT => ⟨0x1011068, [(0x4000, 256), (0x800, 4)],
      [⟨0, 1, w1c, 0⟩, ⟨1, 1, w1c, 0⟩, ⟨2, 1, w1c, 0⟩, ⟨3, 1, w1c, 0⟩]⟩
  | CORE_FIRES => ⟨0x1011070, [(0x4000, 256), (0x800, 4)], [⟨0, 64, ro, 0⟩]⟩
  | CORE_SWITCHES => ⟨0x1011078, [(0x4000, 256), (0x800, 4)], [⟨0, 64, ro, 0⟩]⟩
  | CORE_IDLE_CYCLES => ⟨0x1011080, [(0x4000, 256), (0x800, 4)], [⟨0, 64, ro, 0⟩]⟩
  | CORE_SIDEQ_WAITS => ⟨0x1011088, [(0x4000, 256), (0x800, 4)], [⟨0, 64, ro, 0⟩]⟩
  | CORE_TOKEN => ⟨0x1011100, [(0x4000, 256), (0x800, 4), (0x8, 32)], [⟨0, 12, rw, 0⟩]⟩
  | CORE_ID => ⟨0x1010000, [(0x4000, 256)], [⟨0, 9, ro, 0⟩, ⟨16, 8, ro, 0⟩]⟩
  | CORE_STATUS => ⟨0x1010008, [(0x4000, 256)],
      [⟨0, 3, ro, 0⟩, ⟨8, 4, ro, 0⟩, ⟨12, 1, ro, 0⟩, ⟨16, 4, ro, 0⟩, ⟨20, 1, ro, 0⟩]⟩
  | CORE_CYCLES => ⟨0x1010010, [(0x4000, 256)], [⟨0, 64, ro, 0⟩]⟩
  | CORE_SLOT_STAT => ⟨0x1010018, [(0x4000, 256)], [⟨0, 6, ro, 0⟩, ⟨8, 6, ro, 0⟩, ⟨16, 6, rw, 0⟩]⟩
  | CORE_CTX_HALT => ⟨0x1000000, [(0x10, 4)], [⟨0, 1, ro, 0⟩, ⟨8, 8, ro, 0⟩, ⟨16, 1, wo, 0⟩, ⟨17, 1, wo, 0⟩]⟩
  | CORE_FAULT_EVENT => ⟨0x1000040, [], [⟨0, 4, w1c, 0⟩]⟩
  | CORE_FAULT_EVENT_EN => ⟨0x1000048, [], [⟨0, 4, rw, 0⟩]⟩
  | MTX_FLAGS => ⟨0x810000, [(0x2000, 256), (0x400, 4)], [⟨0, 1, w1c, 0⟩, ⟨1, 1, w1c, 0⟩, ⟨2, 1, w1c, 0⟩]⟩
  | MTX_ACC_STATE => ⟨0x810008, [(0x2000, 256), (0x400, 4)],
      [⟨0, 2, ro, 0⟩, ⟨2, 2, ro, 0⟩, ⟨4, 1, ro, 0⟩, ⟨5, 1, ro, 0⟩]⟩
  | MTX_LAYER => ⟨0x810010, [(0x2000, 256), (0x400, 4), (0x8, 2)], [⟨0, 2, ro, 0⟩, ⟨2, 1, ro, 0⟩, ⟨16, 16, ro, 0⟩]⟩
  | MTX_RPL_COUNT => ⟨0x810020, [(0x2000, 256), (0x400, 4)], [⟨0, 64, ro, 0⟩]⟩
  | MTX_RPL_LAST => ⟨0x810028, [(0x2000, 256), (0x400, 4)],
      [⟨0, 16, ro, 0⟩, ⟨16, 4, ro, 0⟩, ⟨20, 4, ro, 0⟩, ⟨24, 1, ro, 0⟩, ⟨25, 1, ro, 0⟩]⟩
  | MTX_RPL_LAST_FRAME => ⟨0x810030, [(0x2000, 256), (0x400, 4)], [⟨0, 64, ro, 0⟩]⟩
  | MTX_TRV_NEXT => ⟨0x810100, [(0x2000, 256), (0x400, 4), (0x20, 16)],
      [⟨0, 8, rw, 0⟩, ⟨8, 1, rw, 0⟩, ⟨9, 3, rw, 0⟩, ⟨12, 1, rw, 0⟩, ⟨13, 1, rw, 0⟩, ⟨16, 16, rw, 0⟩,
       ⟨44, 20, rw, 0⟩]⟩
  | MTX_TRV_LAND => ⟨0x810108, [(0x2000, 256), (0x400, 4), (0x20, 16)], [⟨0, 64, rw, 0⟩]⟩
  | MTX_TRV_LATE => ⟨0x810110, [(0x2000, 256), (0x400, 4), (0x20, 16)], [⟨0, 64, rw, 0⟩]⟩
  | MTX_TRV_DUE => ⟨0x810118, [(0x2000, 256), (0x400, 4), (0x20, 16)], [⟨0, 64, rw, 0⟩]⟩
  | MTX_TRV_STATUS => ⟨0x810300, [(0x2000, 256), (0x400, 4), (0x8, 16)],
      [⟨0, 2, ro, 0⟩, ⟨2, 1, ro, 1⟩, ⟨3, 1, w1c, 0⟩, ⟨16, 32, ro, 0⟩, ⟨48, 8, ro, 0⟩]⟩
  | MTX_EVENT => ⟨0x800000, [], [⟨0, 4, w1c, 0⟩, ⟨4, 4, w1c, 0⟩, ⟨8, 4, w1c, 0⟩]⟩
  | MTX_EVENT_EN => ⟨0x800008, [], [⟨0, 12, rw, 0⟩]⟩
  | VEC_FLAGS => ⟨0x610000, [(0x1000, 256), (0x100, 4)], [⟨0, 1, w1c, 0⟩, ⟨1, 1, w1c, 0⟩, ⟨2, 1, w1c, 0⟩]⟩
  | VEC_UPD_COUNT => ⟨0x610008, [(0x1000, 256), (0x100, 4)], [⟨0, 64, ro, 0⟩]⟩
  | VEC_UPD_LAST => ⟨0x610010, [(0x1000, 256), (0x100, 4)],
      [⟨0, 16, ro, 0⟩, ⟨16, 2, ro, 0⟩, ⟨18, 1, ro, 0⟩, ⟨19, 1, ro, 0⟩, ⟨20, 1, ro, 0⟩, ⟨21, 1, ro, 0⟩,
       ⟨22, 1, ro, 0⟩, ⟨32, 32, ro, 0⟩]⟩
  | VEC_UPD_SKIPS => ⟨0x610018, [(0x1000, 256), (0x100, 4)], [⟨0, 64, ro, 0⟩]⟩
  | VEC_SEED => ⟨0x600000, [(0x8, 4)], [⟨0, 64, rt, 0⟩]⟩
  | VEC_EVENT => ⟨0x600040, [], [⟨0, 4, w1c, 0⟩, ⟨4, 4, w1c, 0⟩, ⟨8, 4, w1c, 0⟩]⟩
  | VEC_EVENT_EN => ⟨0x600048, [], [⟨0, 12, rw, 0⟩]⟩
  | PLC_EVENT => ⟨0x80000, [], [⟨0, 1, w1c, 0⟩, ⟨1, 1, w1c, 0⟩, ⟨2, 1, w1c, 0⟩, ⟨3, 1, w1c, 0⟩, ⟨4, 1, w1c, 0⟩]⟩
  | PLC_EVENT_EN => ⟨0x80008, [], [⟨0, 5, rw, 0⟩]⟩
  | PLC_HOST_BASE => ⟨0x80010, [(0x8, 2)], [⟨16, 48, rt, 0⟩]⟩
  | PLC_WIN => ⟨0x80100, [(0x8, 4)], [⟨0, 6, rt, 0⟩, ⟨8, 6, rt, 0⟩]⟩
  | PLC_REFUSE => ⟨0x80200, [], [⟨0, 8, ro, 0⟩, ⟨8, 2, ro, 0⟩, ⟨16, 10, ro, 0⟩]⟩
  | PLC_LEND_REFUSED => ⟨0x80208, [], [⟨0, 64, ro, 0⟩]⟩
  | PLC_ENT_CTL => ⟨0x90000, [(0x8000, 4), (0x20, 1024)],
      [⟨0, 1, rt, 0⟩, ⟨1, 2, rt, 0⟩, ⟨3, 1, rt, 0⟩, ⟨4, 1, rt, 0⟩, ⟨5, 1, rt, 0⟩, ⟨6, 6, rt, 0⟩,
       ⟨12, 4, rt, 0⟩]⟩
  | PLC_ENT_BASE => ⟨0x90008, [(0x8000, 4), (0x20, 1024)], [⟨0, 44, rt, 0⟩]⟩
  | PLC_ENT_SIZE => ⟨0x90010, [(0x8000, 4), (0x20, 1024)], [⟨0, 44, rt, 0⟩]⟩
  | PLC_ENT_TARGET => ⟨0x90018, [(0x8000, 4), (0x20, 1024)], [⟨0, 44, rt, 0⟩]⟩
  | PLC_BOR_CTL => ⟨0xc0000, [(0x20, 64)], [⟨0, 1, rt, 0⟩, ⟨8, 2, ro, 0⟩, ⟨44, 20, rt, 0⟩]⟩
  | PLC_BOR_BASE => ⟨0xc0008, [(0x20, 64)], [⟨0, 44, rt, 0⟩]⟩
  | PLC_BOR_SIZE => ⟨0xc0010, [(0x20, 64)], [⟨0, 44, rt, 0⟩]⟩
  | PLC_BOR_END => ⟨0xc0018, [(0x20, 64)], [⟨0, 64, ro, 0⟩]⟩
  | PLC_LEND_CTL => ⟨0xc1000, [(0x20, 64)],
      [⟨0, 1, rt, 0⟩, ⟨1, 1, rt, 0⟩, ⟨8, 2, ro, 0⟩, ⟨16, 16, rt, 1⟩, ⟨44, 20, rt, 0⟩]⟩
  | PLC_LEND_BASE => ⟨0xc1008, [(0x20, 64)], [⟨0, 44, rt, 0⟩]⟩
  | PLC_LEND_SIZE => ⟨0xc1010, [(0x20, 64)], [⟨0, 44, rt, 0⟩]⟩
  | PLC_LEND_END => ⟨0xc1018, [(0x20, 64)], [⟨0, 64, ro, 0⟩]⟩
  | DMA_EVENT => ⟨0xc00000, [], [⟨0, 4, w1c, 0⟩, ⟨4, 4, w1c, 0⟩, ⟨8, 4, w1c, 0⟩, ⟨12, 4, w1c, 0⟩]⟩
  | DMA_EVENT_EN => ⟨0xc00008, [], [⟨0, 16, rw, 0⟩]⟩
  | DMA_SPUR_TIMEOUT => ⟨0xc00010, [], [⟨0, 32, rw, 0xf4240⟩]⟩
  | DMA_CORE_CFG => ⟨0xc10000, [(0x2000, 256)], [⟨0, 1, rw, 0⟩, ⟨4, 4, rw, 3⟩]⟩
  | DMA_OWNER => ⟨0xc10008, [(0x2000, 256)],
      [⟨0, 2, rt, 0⟩, ⟨2, 2, rt, 0⟩, ⟨4, 2, rt, 0⟩, ⟨6, 2, rt, 0⟩, ⟨8, 2, rt, 0⟩, ⟨10, 2, rt, 0⟩,
       ⟨12, 2, rt, 0⟩, ⟨14, 2, rt, 0⟩, ⟨16, 2, rt, 0⟩, ⟨18, 2, rt, 0⟩, ⟨20, 2, rt, 0⟩, ⟨22, 2, rt, 0⟩,
       ⟨24, 2, rt, 0⟩, ⟨26, 2, rt, 0⟩, ⟨28, 2, rt, 0⟩, ⟨30, 2, rt, 0⟩]⟩
  | DMA_BUF_STAT => ⟨0xc10010, [(0x2000, 256)], [⟨0, 11, ro, 0⟩, ⟨16, 10, ro, 0⟩, ⟨32, 11, rw, 0⟩]⟩
  | DMA_SPUR_STAT => ⟨0xc10018, [(0x2000, 256)], [⟨0, 6, ro, 0⟩]⟩
  | DMA_STOPPED => ⟨0xc10020, [(0x2000, 256)], [⟨0, 1, ro, 0⟩]⟩
  | DMA_CORE_CTRL => ⟨0xc10028, [(0x2000, 256)], [⟨0, 1, wo, 0⟩, ⟨1, 1, wo, 0⟩]⟩
  | DMA_CH_CTL => ⟨0xc10400, [(0x2000, 256), (0x100, 16)], [⟨0, 64, ro, 0⟩]⟩
  | DMA_CH_SRC => ⟨0xc10408, [(0x2000, 256), (0x100, 16)], [⟨0, 64, ro, 0⟩]⟩
  | DMA_CH_DST => ⟨0xc10410, [(0x2000, 256), (0x100, 16)], [⟨0, 64, ro, 0⟩]⟩
  | DMA_CH_COUNTS => ⟨0xc10418, [(0x2000, 256), (0x100, 16)], [⟨0, 64, ro, 0⟩]⟩
  | DMA_CH_LOOP1 => ⟨0xc10420, [(0x2000, 256), (0x100, 16)], [⟨0, 64, ro, 0⟩]⟩
  | DMA_CH_LOOP2 => ⟨0xc10428, [(0x2000, 256), (0x100, 16)], [⟨0, 64, ro, 0⟩]⟩
  | DMA_CH_LOOP3 => ⟨0xc10430, [(0x2000, 256), (0x100, 16)], [⟨0, 64, ro, 0⟩]⟩
  | DMA_CH_AUX => ⟨0xc10438, [(0x2000, 256), (0x100, 16)], [⟨0, 64, ro, 0⟩]⟩
  | DMA_CH_SHD => ⟨0xc10440, [(0x2000, 256), (0x100, 16), (0x8, 8)], [⟨0, 64, ro, 0⟩]⟩
  | DMA_CH_CFG => ⟨0xc10480, [(0x2000, 256), (0x100, 16)], [⟨0, 4, rw, 3⟩]⟩
  | DMA_CH_PACE => ⟨0xc10488, [(0x2000, 256), (0x100, 16)], [⟨0, 16, rw, 4⟩, ⟨16, 16, rw, 2⟩]⟩
  | DMA_CH_PACE_ADDR => ⟨0xc10490, [(0x2000, 256), (0x100, 16)], [⟨0, 64, rw, 0⟩]⟩
  | DMA_CH_STATUS => ⟨0xc10498, [(0x2000, 256), (0x100, 16)],
      [⟨0, 3, ro, 0⟩, ⟨3, 2, ro, 0⟩, ⟨7, 1, ro, 0⟩, ⟨8, 8, ro, 0⟩, ⟨32, 32, ro, 0⟩]⟩
  | DMA_CH_DONE => ⟨0xc104a0, [(0x2000, 256), (0x100, 16)], [⟨0, 48, ro, 0⟩]⟩
  | DMA_CH_ERR => ⟨0xc104a8, [(0x2000, 256), (0x100, 16)], [⟨0, 4, ro, 0⟩, ⟨8, 4, ro, 0⟩, ⟨16, 1, ro, 0⟩]⟩
  | DMA_CH_ERR_ADDR => ⟨0xc104b0, [(0x2000, 256), (0x100, 16)], [⟨0, 64, ro, 0⟩]⟩
  | DMA_CH_SUPPRESS => ⟨0xc104b8, [(0x2000, 256), (0x100, 16)], [⟨0, 64, ro, 0⟩]⟩
  | DMA_CH_CTRL => ⟨0xc104c0, [(0x2000, 256), (0x100, 16)], [⟨0, 1, wo, 0⟩, ⟨1, 1, wo, 0⟩]⟩
  | DMA_CH_RETRIES => ⟨0xc104c8, [(0x2000, 256), (0x100, 16)], [⟨0, 64, ro, 0⟩]⟩
  | KV_EVENT => ⟨0x10000, [], [⟨0, 16, w1c, 0⟩, ⟨16, 1, w1c, 0⟩, ⟨17, 1, w1c, 0⟩]⟩
  | KV_EVENT_EN => ⟨0x10008, [], [⟨0, 18, rw, 0⟩]⟩
  | KV_CNT_ERR => ⟨0x10010, [], [⟨0, 32, ro, 0⟩, ⟨32, 4, ro, 0⟩, ⟨40, 8, ro, 0⟩, ⟨48, 2, ro, 0⟩]⟩
  | KV_CNT_ERRS => ⟨0x10018, [], [⟨0, 64, ro, 0⟩]⟩
  | KV_REFUSE => ⟨0x10020, [], [⟨0, 8, ro, 0⟩, ⟨8, 4, ro, 0⟩, ⟨12, 3, ro, 0⟩]⟩
  | KV_POOL_CFG => ⟨0x11000, [(0x200, 16)], [⟨0, 1, rt, 0⟩, ⟨1, 2, rt, 0⟩, ⟨4, 4, rt, 0⟩, ⟨8, 3, rt, 0⟩]⟩
  | KV_POOL_CB => ⟨0x11008, [(0x200, 16)], [⟨0, 44, rt, 0⟩]⟩
  | KV_POOL_MARKS => ⟨0x11010, [(0x200, 16)], [⟨0, 29, rw, 0⟩, ⟨32, 29, rw, 0⟩]⟩
  | KV_POOL_ALLOCS => ⟨0x11018, [(0x200, 16)], [⟨0, 64, ro, 0⟩]⟩
  | KV_POOL_FAILS => ⟨0x11020, [(0x200, 16)], [⟨0, 64, ro, 0⟩]⟩
  | KV_POOL_RETURNS => ⟨0x11028, [(0x200, 16)], [⟨0, 64, ro, 0⟩]⟩
  | KV_SEG_STATUS => ⟨0x11080, [(0x200, 16), (0x8, 8)], [⟨0, 29, ro, 0⟩, ⟨31, 1, ro, 0⟩, ⟨32, 29, ro, 0⟩]⟩
  | KV_SEG_CTL => ⟨0x11100, [(0x200, 16), (0x20, 8)], [⟨0, 1, rt, 0⟩, ⟨32, 29, rt, 0⟩]⟩
  | KV_SEG_BASE => ⟨0x11108, [(0x200, 16), (0x20, 8)], [⟨0, 44, rt, 0⟩]⟩
  | KV_SEG_CNT => ⟨0x11110, [(0x200, 16), (0x20, 8)], [⟨0, 44, rt, 0⟩]⟩
  | KV_SEG_RING => ⟨0x11118, [(0x200, 16), (0x20, 8)], [⟨0, 44, rt, 0⟩]⟩
  | COL_EVENT => ⟨0x400000, [], [⟨0, 4, w1c, 0⟩, ⟨4, 1, w1c, 0⟩, ⟨5, 1, w1c, 0⟩]⟩
  | COL_EVENT_EN => ⟨0x400008, [], [⟨0, 6, rw, 0⟩]⟩
  | COL_REFUSE => ⟨0x400010, [], [⟨0, 8, ro, 0⟩, ⟨8, 2, ro, 0⟩, ⟨16, 12, ro, 0⟩, ⟨32, 10, ro, 0⟩]⟩
  | COL_PROTO => ⟨0x400018, [], [⟨0, 10, ro, 0⟩, ⟨10, 2, ro, 0⟩]⟩
  | COL_LEND_CFG => ⟨0x400100, [(0x10, 2)],
      [⟨0, 1, rw, 0⟩, ⟨8, 8, rw, 40⟩, ⟨16, 4, rw, 5⟩, ⟨24, 4, rw, 12⟩, ⟨32, 32, rw, 2000⟩]⟩
  | COL_LEND_STAT => ⟨0x400108, [(0x10, 2)], [⟨0, 16, ro, 0⟩, ⟨16, 16, ro, 0⟩, ⟨32, 8, ro, 0⟩, ⟨40, 8, ro, 0⟩]⟩
  | COL_XLATE => ⟨0x410000, [(0x8000, 4), (0x8, 4096)], [⟨0, 1, rt, 0⟩, ⟨1, 1, rt, 0⟩, ⟨16, 10, rt, 0⟩]⟩
  | COL_CTR_CFG => ⟨0x430000, [(0x20, 1024)],
      [⟨0, 1, rt, 0⟩, ⟨1, 1, rt, 0⟩, ⟨2, 1, rt, 0⟩, ⟨16, 9, rt, 0⟩, ⟨32, 20, rt, 0⟩]⟩
  | COL_CTR_HOME => ⟨0x430008, [(0x20, 1024)], [⟨0, 10, rt, 0⟩, ⟨16, 16, rt, 0⟩, ⟨44, 20, rt, 0⟩]⟩
  | COL_CTR_STATE => ⟨0x430010, [(0x20, 1024)],
      [⟨0, 16, ro, 0⟩, ⟨16, 9, ro, 0⟩, ⟨25, 1, ro, 0⟩, ⟨26, 1, ro, 0⟩, ⟨32, 9, ro, 0⟩, ⟨41, 1, ro, 0⟩,
       ⟨42, 1, ro, 0⟩]⟩
  | COL_CTR_ARR => ⟨0x430018, [(0x20, 1024)], [⟨0, 20, ro, 0⟩, ⟨20, 20, ro, 0⟩, ⟨40, 1, ro, 0⟩, ⟨41, 1, ro, 0⟩]⟩
  | COL_CORE_BOOST => ⟨0x440000, [(0x1000, 256)], [⟨0, 4, ro, 0⟩, ⟨4, 1, ro, 0⟩, ⟨5, 1, ro, 0⟩]⟩
  | COL_WAIT_CYCLES => ⟨0x440100, [(0x1000, 256), (0x100, 4)], [⟨0, 64, ro, 0⟩]⟩
  | COL_MQ_REFUSED => ⟨0x440108, [(0x1000, 256), (0x100, 4)], [⟨0, 64, ro, 0⟩]⟩
  | COL_MQ_CFG => ⟨0x440140, [(0x1000, 256), (0x100, 4), (0x10, 8)],
      [⟨0, 1, rw, 0⟩, ⟨8, 8, rw, 0⟩, ⟨16, 16, rw, 0⟩]⟩
  | COL_MQ_STATE => ⟨0x440148, [(0x1000, 256), (0x100, 4), (0x10, 8)],
      [⟨0, 9, ro, 0⟩, ⟨16, 8, ro, 0⟩, ⟨24, 8, ro, 0⟩]⟩
  | TRN_EVENT => ⟨0x180000, [], [⟨0, 4, w1c, 0⟩, ⟨4, 4, w1c, 0⟩, ⟨8, 4, w1c, 0⟩, ⟨12, 4, w1c, 0⟩, ⟨16, 4, w1c, 0⟩]⟩
  | TRN_EVENT_EN => ⟨0x180008, [], [⟨0, 20, rw, 0⟩]⟩
  | TRN_STEP_CFG => ⟨0x181000, [(0x400, 4)],
      [⟨0, 12, rw, 0⟩, ⟨12, 1, rw, 0⟩, ⟨13, 2, rw, 0⟩, ⟨16, 16, rw, 0⟩, ⟨32, 32, rw, 0⟩]⟩
  | TRN_VOTE_FRAME => ⟨0x181008, [(0x400, 4)], [⟨0, 64, rw, 0⟩]⟩
  | TRN_STEP_LIMIT => ⟨0x181010, [(0x400, 4)], [⟨0, 16, rw, 0x40⟩]⟩
  | TRN_STEP_NEXT => ⟨0x181018, [(0x400, 4)], [⟨0, 64, rw, 1⟩]⟩
  | TRN_STEP_CTRL => ⟨0x181020, [(0x400, 4)], [⟨0, 1, wo, 0⟩, ⟨1, 1, wo, 0⟩, ⟨2, 1, wo, 0⟩, ⟨3, 1, wo, 0⟩]⟩
  | TRN_STEP_STATE => ⟨0x181028, [(0x400, 4)],
      [⟨0, 3, ro, 0⟩, ⟨3, 1, rws, 0⟩, ⟨4, 1, ro, 0⟩, ⟨5, 1, ro, 0⟩, ⟨8, 4, ro, 0⟩, ⟨16, 8, ro, 0⟩,
       ⟨24, 4, ro, 0⟩, ⟨28, 4, ro, 0⟩]⟩
  | TRN_STEP_NUM => ⟨0x181030, [(0x400, 4)], [⟨0, 64, ro, 0⟩]⟩
  | TRN_STEP_DONE => ⟨0x181038, [(0x400, 4)], [⟨0, 64, rws, 0⟩]⟩
  | TRN_STEP_REC => ⟨0x181040, [(0x400, 4)], [⟨0, 64, rw, 0⟩]⟩
  | TRN_LEDGER_BASE => ⟨0x181048, [(0x400, 4)], [⟨0, 64, rw, 0⟩]⟩
  | TRN_LEDGER_SLOTS => ⟨0x181050, [(0x400, 4)], [⟨0, 17, rw, 0⟩]⟩
  | TRN_VOTERS => ⟨0x181058, [(0x400, 4), (0x8, 4)], [⟨0, 64, rw, 0⟩]⟩
  | TRN_COMMITS => ⟨0x181078, [(0x400, 4)], [⟨0, 64, ro, 0⟩]⟩
  | TRN_ABORTS => ⟨0x181080, [(0x400, 4)], [⟨0, 64, ro, 0⟩]⟩
  | TRN_LATE_KEPT => ⟨0x181088, [(0x400, 4)], [⟨0, 64, ro, 0⟩]⟩
  | TRN_LATE_DROPPED => ⟨0x181090, [(0x400, 4)], [⟨0, 64, ro, 0⟩]⟩
  | TRN_CHECKS => ⟨0x181098, [(0x400, 4)], [⟨0, 64, ro, 0⟩]⟩
  | TRN_GNS_CFG => ⟨0x1810a0, [(0x400, 4)], [⟨0, 16, rw, 0⟩]⟩
  | TRN_GNS_STATUS => ⟨0x1810a8, [(0x400, 4)], [⟨0, 8, ro, 0⟩, ⟨8, 1, ro, 0⟩, ⟨32, 32, ro, 0⟩]⟩
  | TRN_ALT_CFG => ⟨0x1810b0, [(0x400, 4)], [⟨0, 3, rw, 0⟩]⟩
  | TRN_ALT_INFO => ⟨0x1810b8, [(0x400, 4)], [⟨0, 1, ro, 0⟩, ⟨1, 1, ro, 0⟩, ⟨32, 32, ro, 0⟩]⟩
  | TRN_ALT_MARK => ⟨0x181100, [(0x400, 4), (0x8, 8)], [⟨0, 32, rw, 0⟩, ⟨32, 3, rw, 0⟩, ⟨35, 1, rw, 0⟩]⟩
  | TRN_ALT_RUN => ⟨0x181200, [(0x400, 4), (0x8, 8)], [⟨0, 64, ro, 0⟩]⟩
  | TRN_ALT_STEP => ⟨0x181240, [(0x400, 4), (0x8, 8)], [⟨0, 64, ro, 0⟩]⟩
  | TRN_GNS_LOCAL => ⟨0x190000, [(0x2000, 4), (0x20, 256)], [⟨0, 64, ro, 0⟩]⟩
  | TRN_GNS_TOTAL => ⟨0x190008, [(0x2000, 4), (0x20, 256)], [⟨0, 64, ro, 0⟩]⟩
  | TRN_GNS_COUNT => ⟨0x190010, [(0x2000, 4), (0x20, 256)], [⟨0, 32, ro, 0⟩, ⟨32, 32, ro, 0⟩]⟩
  | TRN_GNS_WEIGHT => ⟨0x190018, [(0x2000, 4), (0x20, 256)], [⟨0, 64, ro, 0⟩]⟩
  | NET_NODE_ID => ⟨0x20000, [], [⟨0, 20, rt, 0⟩]⟩
  | NET_ADDR_HI => ⟨0x20008, [], [⟨0, 64, rt, 0⟩]⟩
  | NET_ADDR_LO => ⟨0x20010, [], [⟨0, 64, rt, 0⟩]⟩
  | NET_MAC_BASE => ⟨0x20018, [], [⟨0, 48, rt, 0⟩]⟩
  | NET_NODE_TBL => ⟨0x20020, [], [⟨0, 44, rt, 0⟩]⟩
  | NET_NODE_CNT => ⟨0x20028, [], [⟨0, 21, rt, 0⟩]⟩
  | NET_MCAST_HI => ⟨0x20030, [], [⟨0, 64, rt, 0⟩]⟩
  | NET_MCAST_LO => ⟨0x20038, [], [⟨0, 48, rt, 0⟩]⟩
  | NET_UDP => ⟨0x20040, [], [⟨0, 16, rt, 0xc814⟩]⟩
  | NET_QOS => ⟨0x20048, [],
      [⟨0, 6, rt, 26⟩, ⟨6, 6, rt, 46⟩, ⟨12, 1, rt, 0⟩, ⟨13, 3, rt, 3⟩, ⟨16, 12, rt, 0⟩, ⟨28, 8, rt, 64⟩]⟩
  | NET_MTU => ⟨0x20050, [], [⟨0, 14, rt, 0x5dc⟩, ⟨16, 2, ro, 0⟩]⟩
  | NET_TIMERS => ⟨0x20058, [], [⟨0, 16, rw, 0x7d0⟩, ⟨16, 16, rw, 0xc8⟩, ⟨32, 4, rw, 7⟩]⟩
  | NET_CPL_TIMEOUT => ⟨0x20060, [], [⟨0, 32, rw, 0x186a0⟩]⟩
  | NET_WINDOW => ⟨0x20068, [], [⟨0, 9, rw, 0x20⟩, ⟨16, 9, rw, 0x40⟩, ⟨32, 9, rw, 0x40⟩]⟩
  | NET_REL_POLL => ⟨0x20070, [], [⟨0, 32, rw, 0x1388⟩, ⟨32, 32, rw, 0x64⟩]⟩
  | NET_EVENT => ⟨0x20078, [], [⟨0, 1, w1c, 0⟩, ⟨1, 1, w1c, 0⟩, ⟨2, 1, w1c, 0⟩, ⟨3, 1, w1c, 0⟩, ⟨4, 1, w1c, 0⟩]⟩
  | NET_EVENT_EN => ⟨0x20080, [], [⟨0, 5, rw, 0⟩]⟩
  | NET_FLOW_STAT => ⟨0x20088, [], [⟨0, 14, ro, 0⟩, ⟨16, 14, ro, 0⟩]⟩
  | NET_FLOW_FAILS => ⟨0x20090, [], [⟨0, 64, ro, 0⟩]⟩
  | NET_FLOW_FAIL_LAST => ⟨0x20098, [], [⟨0, 20, ro, 0⟩, ⟨20, 8, ro, 0⟩, ⟨28, 2, ro, 0⟩, ⟨32, 8, ro, 0⟩]⟩
  | NET_DROPS => ⟨0x200a0, [], [⟨0, 16, ro, 0⟩, ⟨16, 16, ro, 0⟩, ⟨32, 16, ro, 0⟩, ⟨48, 16, ro, 0⟩]⟩
  | NET_REFUSE => ⟨0x200a8, [], [⟨0, 8, ro, 0⟩]⟩
  | NET_PTP_CFG => ⟨0x200b0, [],
      [⟨0, 6, rt, 0⟩, ⟨6, 1, rt, 0⟩, ⟨7, 1, rt, 0⟩, ⟨8, 1, rt, 0⟩, ⟨16, 8, rt, 0⟩, ⟨24, 4, rt, 13⟩]⟩
  | NET_PTP_TX => ⟨0x200b8, [], [⟨0, 64, rt, 0⟩]⟩
  | NET_PORT_CFG => ⟨0x20800, [(0x10, 16)], [⟨0, 1, rt, 0⟩, ⟨1, 2, rt, 0⟩, ⟨3, 1, rw, 0⟩, ⟨8, 8, rw, 0⟩]⟩
  | NET_PORT_LANES => ⟨0x20808, [(0x10, 16)], [⟨0, 24, ro, 0⟩, ⟨24, 8, ro, 0⟩, ⟨32, 8, ro, 0⟩]⟩
  | NET_LINK_PEER => ⟨0x21000, [(0x40, 64)], [⟨0, 48, rw, 0⟩]⟩
  | NET_LINK_STATUS => ⟨0x21008, [(0x40, 64)], [⟨0, 2, ro, 0⟩]⟩
  | NET_LINK_FEC => ⟨0x21010, [(0x40, 64)], [⟨0, 32, ro, 0⟩, ⟨32, 32, ro, 0⟩]⟩
  | NET_LINK_TX => ⟨0x21018, [(0x40, 64)], [⟨0, 64, ro, 0⟩]⟩
  | NET_LINK_RX => ⟨0x21020, [(0x40, 64)], [⟨0, 64, ro, 0⟩]⟩
  | NET_LINK_RETX => ⟨0x21028, [(0x40, 64)], [⟨0, 64, ro, 0⟩]⟩
  | NET_LINK_CE => ⟨0x21030, [(0x40, 64)], [⟨0, 64, ro, 0⟩]⟩
  | NET_MG_CTL => ⟨0x23000, [(0x20, 64)], [⟨0, 16, rt, 0⟩, ⟨16, 1, rt, 0⟩, ⟨17, 1, rt, 0⟩]⟩
  | NET_MG_UP => ⟨0x23008, [(0x20, 64)], [⟨0, 64, rt, 0⟩]⟩
  | NET_MG_FWD => ⟨0x23010, [(0x20, 64)], [⟨0, 64, rt, 0⟩]⟩
  | NET_MIR_CTL => ⟨0x24000, [(0x20, 8)], [⟨0, 1, rt, 0⟩, ⟨1, 1, ro, 0⟩, ⟨8, 6, rt, 0⟩]⟩
  | NET_MIR_BASE => ⟨0x24008, [(0x20, 8)], [⟨0, 44, rt, 0⟩]⟩
  | NET_MIR_SIZE => ⟨0x24010, [(0x20, 8)], [⟨0, 44, rt, 0⟩]⟩
  | NET_MIR_OFF => ⟨0x24018, [(0x20, 8)], [⟨0, 44, rt, 0⟩]⟩
  | HIF_EVENT => ⟨0x100000, [],
      [⟨0, 4, w1c, 0⟩, ⟨4, 4, w1c, 0⟩, ⟨8, 2, w1c, 0⟩, ⟨10, 2, w1c, 0⟩, ⟨12, 1, w1c, 0⟩, ⟨13, 4, w1c, 0⟩]⟩
  | HIF_EVENT_EN => ⟨0x100008, [], [⟨0, 17, rw, 0⟩]⟩
  | HIF_BOOT => ⟨0x100010, [],
      [⟨0, 3, ro, 0⟩, ⟨3, 1, ro, 0⟩, ⟨4, 1, ro, 0⟩, ⟨8, 8, ro, 0⟩, ⟨16, 9, ro, 0⟩, ⟨32, 32, ro, 0⟩]⟩
  | HIF_RESET => ⟨0x100018, [], [⟨0, 1, wo, 0⟩, ⟨1, 1, wo, 0⟩, ⟨32, 16, wo, 0⟩]⟩
  | HIF_ADMIN => ⟨0x100020, [], [⟨0, 1, rw, 0⟩]⟩
  | HIF_FETCH_LEAD => ⟨0x100028, [], [⟨0, 20, rw, 0x7d0⟩]⟩
  | HIF_IRQ_ROUTE => ⟨0x100030, [], [⟨0, 2, rw, 3⟩]⟩
  | HIF_APT_BLOCKED => ⟨0x100038, [], [⟨0, 64, ro, 0⟩]⟩
  | HIF_CPL_DROPPED => ⟨0x100040, [], [⟨0, 64, ro, 0⟩]⟩
  | HIF_APT => ⟨0x100100, [(0x40, 2)], [⟨0, 5, rw, 0⟩]⟩
  | HIF_LINK => ⟨0x100108, [(0x40, 2)],
      [⟨0, 3, ro, 0⟩, ⟨3, 1, ro, 0⟩, ⟨4, 4, ro, 0⟩, ⟨8, 1, ro, 0⟩, ⟨9, 8, ro, 0⟩, ⟨17, 1, ro, 0⟩,
       ⟨18, 1, ro, 0⟩]⟩
  | HIF_MBX => ⟨0x100110, [(0x40, 2)], [⟨0, 1, wo, 0⟩, ⟨1, 1, ro, 0⟩, ⟨8, 8, ro, 0⟩, ⟨16, 16, rw, 0⟩]⟩
  | HIF_CR_BASE => ⟨0x110000, [(0x10000, 4), (0x800, 2)], [⟨12, 52, rw, 0⟩]⟩
  | HIF_CR_CFG => ⟨0x110008, [(0x10000, 4), (0x800, 2)],
      [⟨0, 1, rw, 0⟩, ⟨4, 5, rw, 6⟩, ⟨16, 12, rw, 255⟩, ⟨32, 1, rw, 0⟩]⟩
  | HIF_CC_BASE => ⟨0x110010, [(0x10000, 4), (0x800, 2)], [⟨12, 52, rw, 0⟩]⟩
  | HIF_CC_CFG => ⟨0x110018, [(0x10000, 4), (0x800, 2)], [⟨4, 5, rw, 7⟩]⟩
  | HIF_RING_HDR => ⟨0x110020, [(0x10000, 4), (0x800, 2)], [⟨6, 58, rw, 0⟩]⟩
  | HIF_RING_STAT => ⟨0x110028, [(0x10000, 4), (0x800, 2)], [⟨0, 32, ro, 0⟩, ⟨32, 32, ro, 0⟩]⟩
  | HIF_RING_OUT => ⟨0x110030, [(0x10000, 4), (0x800, 2)], [⟨0, 32, ro, 0⟩]⟩
  | HIF_SVC_BASE => ⟨0x111000, [(0x10000, 4)], [⟨0, 44, rw, 0⟩]⟩
  | HIF_SVC_CFG => ⟨0x111008, [(0x10000, 4)], [⟨0, 13, rw, 0⟩, ⟨16, 8, rw, 0⟩, ⟨24, 1, rw, 0⟩, ⟨32, 5, rw, 0x10⟩]⟩
  | HIF_SVC_STAT => ⟨0x111010, [(0x10000, 4)], [⟨0, 13, ro, 0⟩]⟩
  | ERR_EVENT => ⟨0x30000, [],
      [⟨0, 1, w1c, 0⟩, ⟨1, 1, w1c, 0⟩, ⟨2, 1, w1c, 0⟩, ⟨3, 1, w1c, 0⟩, ⟨4, 1, w1c, 0⟩, ⟨5, 1, w1c, 0⟩]⟩
  | ERR_EVENT_EN => ⟨0x30008, [], [⟨0, 6, rw, 0⟩]⟩
  | ERR_LAST_UE => ⟨0x30010, [], [⟨0, 4, ro, 0⟩, ⟨8, 9, ro, 0x1ff⟩, ⟨32, 32, ro, 0⟩]⟩
  | ERR_LAST_UE_ADDR => ⟨0x30018, [], [⟨0, 64, ro, 0⟩]⟩
  | ERR_LAST_CE => ⟨0x30020, [], [⟨0, 4, ro, 0⟩, ⟨8, 9, ro, 0x1ff⟩, ⟨24, 7, ro, 0⟩, ⟨32, 32, ro, 0⟩]⟩
  | ERR_LAST_CE_ADDR => ⟨0x30028, [], [⟨0, 64, ro, 0⟩]⟩
  | ERR_FATAL => ⟨0x30030, [], [⟨0, 4, ro, 0⟩, ⟨8, 9, ro, 0x1ff⟩]⟩
  | ERR_ENV => ⟨0x30038, [], [⟨0, 8, ro, 0⟩, ⟨8, 1, ro, 0⟩, ⟨9, 1, ro, 0⟩, ⟨10, 1, ro, 0⟩, ⟨11, 1, ro, 0⟩]⟩
  | ERR_SCRUB => ⟨0x30040, [], [⟨0, 16, rw, 0x18⟩]⟩
  | ERR_SCRUB_STAT => ⟨0x30048, [], [⟨0, 32, ro, 0⟩, ⟨32, 32, ro, 0⟩]⟩
  | ERR_CE_COUNT => ⟨0x30100, [(0x8, 16)], [⟨0, 64, ro, 0⟩]⟩
  | ERR_UE_COUNT => ⟨0x30180, [(0x8, 16)], [⟨0, 64, ro, 0⟩]⟩
  | BIST_EVENT => ⟨0x40000, [], [⟨0, 1, w1c, 0⟩, ⟨1, 1, w1c, 0⟩, ⟨2, 1, w1c, 0⟩, ⟨3, 1, w1c, 0⟩]⟩
  | BIST_EVENT_EN => ⟨0x40008, [], [⟨0, 4, rw, 0⟩]⟩
  | BIST_RT_CFG => ⟨0x40010, [], [⟨0, 1, rw, 1⟩, ⟨8, 5, rw, 3⟩, ⟨16, 16, rw, 0x40⟩]⟩
  | BIST_RT_STAT => ⟨0x40018, [], [⟨0, 32, ro, 0⟩, ⟨32, 11, ro, 0⟩]⟩
  | BIST_SD_CFG => ⟨0x40020, [], [⟨0, 1, rws, 1⟩, ⟨4, 4, rws, 3⟩]⟩
  | BIST_FAIL_COUNT => ⟨0x40028, [], [⟨0, 64, ro, 0⟩]⟩
  | BIST_FAIL_LAST => ⟨0x40030, [],
      [⟨0, 4, ro, 0⟩, ⟨4, 4, ro, 0⟩, ⟨8, 9, ro, 511⟩, ⟨24, 7, ro, 0⟩, ⟨32, 4, ro, 0⟩]⟩
  | BIST_FAIL_ADDR => ⟨0x40038, [], [⟨0, 64, ro, 0⟩]⟩
  | BIST_LOOP_CTRL => ⟨0x40040, [], [⟨0, 4, rw, 0⟩, ⟨4, 2, rw, 0⟩, ⟨6, 1, wo, 0⟩]⟩
  | BIST_LOOP_STAT => ⟨0x40048, [], [⟨0, 8, ro, 0⟩, ⟨8, 1, ro, 0⟩, ⟨32, 32, ro, 0⟩]⟩
  | BIST_ANA_STAT => ⟨0x40050, [], [⟨0, 2, ro, 0⟩, ⟨2, 1, ro, 0⟩, ⟨16, 16, ro, 0⟩]⟩
  | BIST_REPAIR => ⟨0x40100, [(0x8, 32)], [⟨0, 9, ro, 0⟩, ⟨16, 9, ro, 0⟩, ⟨32, 8, ro, 0⟩]⟩
  | CAL_EVENT => ⟨0x50000, [], [⟨0, 1, w1c, 0⟩, ⟨1, 1, w1c, 0⟩]⟩
  | CAL_EVENT_EN => ⟨0x50008, [], [⟨0, 2, rw, 0⟩]⟩
  | CAL_STATUS => ⟨0x50010, [], [⟨0, 1, ro, 0⟩, ⟨1, 1, ro, 0⟩, ⟨32, 32, ro, 0⟩]⟩
  | CAL_REFUSE => ⟨0x50018, [], [⟨0, 8, ro, 0⟩, ⟨16, 9, ro, 0⟩]⟩
  | CAL_FACTORY => ⟨0x51000, [(0x8, 337)], [⟨0, 64, ro, 0⟩]⟩
  | CAL_USER => ⟨0x53000, [(0x8, 337)], [⟨0, 64, rt, 0⟩]⟩
  | LIFE_EVENT => ⟨0x60000, [], [⟨0, 1, w1c, 0⟩, ⟨1, 1, w1c, 0⟩]⟩
  | LIFE_EVENT_EN => ⟨0x60008, [], [⟨0, 2, rw, 0⟩]⟩
  | LIFE_UTC => ⟨0x60010, [], [⟨0, 64, ro, 0⟩]⟩
  | LIFE_UTC_SET => ⟨0x60018, [], [⟨0, 64, wo, 0⟩]⟩
  | LIFE_STATUS => ⟨0x60020, [], [⟨0, 1, ro, 0⟩, ⟨1, 2, ro, 0⟩, ⟨32, 32, ro, 0⟩]⟩
  | LIFE_POH => ⟨0x60028, [], [⟨0, 64, ro, 0⟩]⟩
  | LIFE_CYCLES => ⟨0x60030, [], [⟨0, 32, ro, 0⟩, ⟨32, 32, ro, 0⟩]⟩
  | LIFE_WEAR => ⟨0x60038, [(0x8, 2)], [⟨0, 64, ro, 0⟩]⟩
  | LIFE_HBM_CE => ⟨0x60048, [(0x8, 12)], [⟨0, 64, ro, 0⟩]⟩
  | LIFE_HBM_UE => ⟨0x600a8, [(0x8, 12)], [⟨0, 64, ro, 0⟩]⟩
  | LIFE_REPAIRS => ⟨0x60108, [], [⟨0, 16, ro, 0⟩, ⟨16, 16, ro, 0⟩, ⟨32, 16, ro, 0⟩, ⟨48, 16, ro, 0⟩]⟩
  | TXN_EVENT => ⟨0x70000, [], [⟨0, 3, w1c, 0⟩, ⟨3, 3, w1c, 0⟩, ⟨6, 3, w1c, 0⟩]⟩
  | TXN_EVENT_EN => ⟨0x70008, [], [⟨0, 9, rw, 0⟩]⟩
  | TXN_CTRL => ⟨0x70100, [(0x40, 3)], [⟨0, 1, wo, 0⟩, ⟨1, 1, wo, 0⟩, ⟨2, 1, wo, 0⟩]⟩
  | TXN_STATUS => ⟨0x70108, [(0x40, 3)],
      [⟨0, 2, ro, 0⟩, ⟨2, 1, w1c, 0⟩, ⟨3, 1, w1c, 0⟩, ⟨4, 1, ro, 0⟩, ⟨5, 1, ro, 0⟩, ⟨8, 3, ro, 0⟩,
       ⟨12, 4, ro, 0⟩, ⟨16, 15, ro, 0⟩]⟩
  | TXN_TIMEOUT => ⟨0x70110, [(0x40, 3)], [⟨0, 16, rw, 0x3e8⟩]⟩
  | TXN_OPEN_FRAME => ⟨0x70118, [(0x40, 3)], [⟨0, 64, ro, 0⟩]⟩
  | TXN_APPLY_FRAME => ⟨0x70120, [(0x40, 3)], [⟨0, 64, ro, 0⟩]⟩
  | TXN_CONFLICT_ADDR => ⟨0x70128, [(0x40, 3)], [⟨0, 26, ro, 0⟩]⟩
  | TXN_COUNT => ⟨0x70130, [(0x40, 3)], [⟨0, 32, ro, 0⟩, ⟨32, 32, ro, 0⟩]⟩
  | PWR_EVENT => ⟨0x200000, [],
      [⟨0, 1, w1c, 0⟩, ⟨1, 1, w1c, 0⟩, ⟨2, 1, w1c, 0⟩, ⟨3, 1, w1c, 0⟩, ⟨4, 1, w1c, 0⟩, ⟨5, 1, w1c, 0⟩,
       ⟨6, 1, w1c, 0⟩, ⟨7, 1, w1c, 0⟩, ⟨8, 1, w1c, 0⟩]⟩
  | PWR_EVENT_EN => ⟨0x200008, [], [⟨0, 9, rw, 0⟩]⟩
  | PWR_LIMIT => ⟨0x200010, [], [⟨0, 12, rw, 0x708⟩, ⟨16, 8, rw, 0x1e⟩]⟩
  | PWR_CLK_MIN => ⟨0x200018, [], [⟨0, 12, rw, 0x4b0⟩]⟩
  | PWR_STATUS => ⟨0x200020, [], [⟨0, 2, ro, 0⟩, ⟨2, 1, ro, 0⟩, ⟨3, 1, ro, 0⟩, ⟨4, 12, ro, 0x9c4⟩]⟩
  | PWR_INPUT => ⟨0x200028, [], [⟨0, 16, ro, 0⟩, ⟨16, 16, ro, 0⟩, ⟨32, 16, ro, 0⟩]⟩
  | PWR_PEAK => ⟨0x200030, [], [⟨0, 16, rw, 0⟩]⟩
  | PWR_TEMP => ⟨0x200038, [], [⟨0, 8, ro, 0⟩, ⟨8, 8, ro, 0⟩, ⟨16, 8, ro, 0⟩, ⟨24, 8, ro, 0⟩, ⟨32, 8, ro, 0⟩]⟩
  | PWR_FLOW => ⟨0x200040, [], [⟨0, 16, ro, 0⟩]⟩
  | PWR_THERM_CFG => ⟨0x200048, [], [⟨0, 8, rw, 0x5f⟩, ⟨8, 8, rw, 0x64⟩]⟩
  | PWR_SD => ⟨0x200050, [], [⟨0, 1, wo, 0⟩, ⟨16, 10, rw, 0x64⟩]⟩
  | PWR_THR_TIME => ⟨0x200058, [], [⟨0, 64, ro, 0⟩]⟩
  | PWR_ENERGY => ⟨0x200060, [], [⟨0, 64, ro, 0⟩]⟩

/-- Every register name, in the order of the map. -/
def regNamesFRM : List RegName :=
  [FRM_CTRL, FRM_PERIOD, FRM_COUNT, FRM_TIME, FRM_START_TIME, FRM_START_FRAME, FRM_TICK_TIME, FRM_SYNC_STATUS,
   FRM_SYNC_LIMIT, FRM_EVENT, FRM_EVENT_EN, FRM_SCHED_LEN, FRM_SCHED_EPOCH, FRM_NOW, FRM_SCHED_A, FRM_SCHED_B,
   FRM_WDOG, FRM_STALL_THRESH, FRM_OVR_COUNT, FRM_OVR_LAST, FRM_OVR_LAST_FRAME, FRM_OVR_MAX, FRM_WDOG_HALT,
   FRM_WDOG_FRAME, FRM_CTX_CTRL, FRM_STALL_SNAP0, FRM_STALL_SNAP1, FRM_STALL_SNAP2, FRM_STALL_MISSED,
   FRM_IN_HIGH, FRM_IN_LOW, FRM_IN_DEADLINE, FRM_IN_LEVEL, FRM_IN_ADMITTED, FRM_IN_DEFERRED, FRM_IN_REFUSED]

def regNamesCORE : List RegName :=
  [CORE_CTX_ISTORE, CORE_CTX_STATE, CORE_LOAD_ADDR, CORE_LOAD_CTRL, CORE_LOAD_STATUS, CORE_BT_INDEX,
   CORE_BT_DATA0, CORE_BT_DATA1, CORE_BT_DATA2, CORE_BT_DATA3, CORE_DEFER_MAX, CORE_FAULT, CORE_FAULT_ADDR,
   CORE_EVENT, CORE_FIRES, CORE_SWITCHES, CORE_IDLE_CYCLES, CORE_SIDEQ_WAITS, CORE_TOKEN, CORE_ID, CORE_STATUS,
   CORE_CYCLES, CORE_SLOT_STAT, CORE_CTX_HALT, CORE_FAULT_EVENT, CORE_FAULT_EVENT_EN]

def regNamesMTX : List RegName :=
  [MTX_FLAGS, MTX_ACC_STATE, MTX_LAYER, MTX_RPL_COUNT, MTX_RPL_LAST, MTX_RPL_LAST_FRAME, MTX_TRV_NEXT,
   MTX_TRV_LAND, MTX_TRV_LATE, MTX_TRV_DUE, MTX_TRV_STATUS, MTX_EVENT, MTX_EVENT_EN]

def regNamesVEC : List RegName :=
  [VEC_FLAGS, VEC_UPD_COUNT, VEC_UPD_LAST, VEC_UPD_SKIPS, VEC_SEED, VEC_EVENT, VEC_EVENT_EN]

def regNamesPLC : List RegName :=
  [PLC_EVENT, PLC_EVENT_EN, PLC_HOST_BASE, PLC_WIN, PLC_REFUSE, PLC_LEND_REFUSED, PLC_ENT_CTL, PLC_ENT_BASE,
   PLC_ENT_SIZE, PLC_ENT_TARGET, PLC_BOR_CTL, PLC_BOR_BASE, PLC_BOR_SIZE, PLC_BOR_END, PLC_LEND_CTL,
   PLC_LEND_BASE, PLC_LEND_SIZE, PLC_LEND_END]

def regNamesDMA : List RegName :=
  [DMA_EVENT, DMA_EVENT_EN, DMA_SPUR_TIMEOUT, DMA_CORE_CFG, DMA_OWNER, DMA_BUF_STAT, DMA_SPUR_STAT,
   DMA_STOPPED, DMA_CORE_CTRL, DMA_CH_CTL, DMA_CH_SRC, DMA_CH_DST, DMA_CH_COUNTS, DMA_CH_LOOP1, DMA_CH_LOOP2,
   DMA_CH_LOOP3, DMA_CH_AUX, DMA_CH_SHD, DMA_CH_CFG, DMA_CH_PACE, DMA_CH_PACE_ADDR, DMA_CH_STATUS, DMA_CH_DONE,
   DMA_CH_ERR, DMA_CH_ERR_ADDR, DMA_CH_SUPPRESS, DMA_CH_CTRL, DMA_CH_RETRIES]

def regNamesKV : List RegName :=
  [KV_EVENT, KV_EVENT_EN, KV_CNT_ERR, KV_CNT_ERRS, KV_REFUSE, KV_POOL_CFG, KV_POOL_CB, KV_POOL_MARKS,
   KV_POOL_ALLOCS, KV_POOL_FAILS, KV_POOL_RETURNS, KV_SEG_STATUS, KV_SEG_CTL, KV_SEG_BASE, KV_SEG_CNT,
   KV_SEG_RING]

def regNamesCOL : List RegName :=
  [COL_EVENT, COL_EVENT_EN, COL_REFUSE, COL_PROTO, COL_LEND_CFG, COL_LEND_STAT, COL_XLATE, COL_CTR_CFG,
   COL_CTR_HOME, COL_CTR_STATE, COL_CTR_ARR, COL_CORE_BOOST, COL_WAIT_CYCLES, COL_MQ_REFUSED, COL_MQ_CFG,
   COL_MQ_STATE]

def regNamesTRN : List RegName :=
  [TRN_EVENT, TRN_EVENT_EN, TRN_STEP_CFG, TRN_VOTE_FRAME, TRN_STEP_LIMIT, TRN_STEP_NEXT, TRN_STEP_CTRL,
   TRN_STEP_STATE, TRN_STEP_NUM, TRN_STEP_DONE, TRN_STEP_REC, TRN_LEDGER_BASE, TRN_LEDGER_SLOTS, TRN_VOTERS,
   TRN_COMMITS, TRN_ABORTS, TRN_LATE_KEPT, TRN_LATE_DROPPED, TRN_CHECKS, TRN_GNS_CFG, TRN_GNS_STATUS,
   TRN_ALT_CFG, TRN_ALT_INFO, TRN_ALT_MARK, TRN_ALT_RUN, TRN_ALT_STEP, TRN_GNS_LOCAL, TRN_GNS_TOTAL,
   TRN_GNS_COUNT, TRN_GNS_WEIGHT]

def regNamesNET : List RegName :=
  [NET_NODE_ID, NET_ADDR_HI, NET_ADDR_LO, NET_MAC_BASE, NET_NODE_TBL, NET_NODE_CNT, NET_MCAST_HI, NET_MCAST_LO,
   NET_UDP, NET_QOS, NET_MTU, NET_TIMERS, NET_CPL_TIMEOUT, NET_WINDOW, NET_REL_POLL, NET_EVENT, NET_EVENT_EN,
   NET_FLOW_STAT, NET_FLOW_FAILS, NET_FLOW_FAIL_LAST, NET_DROPS, NET_REFUSE, NET_PTP_CFG, NET_PTP_TX,
   NET_PORT_CFG, NET_PORT_LANES, NET_LINK_PEER, NET_LINK_STATUS, NET_LINK_FEC, NET_LINK_TX, NET_LINK_RX,
   NET_LINK_RETX, NET_LINK_CE, NET_MG_CTL, NET_MG_UP, NET_MG_FWD, NET_MIR_CTL, NET_MIR_BASE, NET_MIR_SIZE,
   NET_MIR_OFF]

def regNamesHIF : List RegName :=
  [HIF_EVENT, HIF_EVENT_EN, HIF_BOOT, HIF_RESET, HIF_ADMIN, HIF_FETCH_LEAD, HIF_IRQ_ROUTE, HIF_APT_BLOCKED,
   HIF_CPL_DROPPED, HIF_APT, HIF_LINK, HIF_MBX, HIF_CR_BASE, HIF_CR_CFG, HIF_CC_BASE, HIF_CC_CFG, HIF_RING_HDR,
   HIF_RING_STAT, HIF_RING_OUT, HIF_SVC_BASE, HIF_SVC_CFG, HIF_SVC_STAT]

def regNamesERR : List RegName :=
  [ERR_EVENT, ERR_EVENT_EN, ERR_LAST_UE, ERR_LAST_UE_ADDR, ERR_LAST_CE, ERR_LAST_CE_ADDR, ERR_FATAL, ERR_ENV,
   ERR_SCRUB, ERR_SCRUB_STAT, ERR_CE_COUNT, ERR_UE_COUNT]

def regNamesBIST : List RegName :=
  [BIST_EVENT, BIST_EVENT_EN, BIST_RT_CFG, BIST_RT_STAT, BIST_SD_CFG, BIST_FAIL_COUNT, BIST_FAIL_LAST,
   BIST_FAIL_ADDR, BIST_LOOP_CTRL, BIST_LOOP_STAT, BIST_ANA_STAT, BIST_REPAIR]

def regNamesCAL : List RegName :=
  [CAL_EVENT, CAL_EVENT_EN, CAL_STATUS, CAL_REFUSE, CAL_FACTORY, CAL_USER]

def regNamesLIFE : List RegName :=
  [LIFE_EVENT, LIFE_EVENT_EN, LIFE_UTC, LIFE_UTC_SET, LIFE_STATUS, LIFE_POH, LIFE_CYCLES, LIFE_WEAR,
   LIFE_HBM_CE, LIFE_HBM_UE, LIFE_REPAIRS]

def regNamesTXN : List RegName :=
  [TXN_EVENT, TXN_EVENT_EN, TXN_CTRL, TXN_STATUS, TXN_TIMEOUT, TXN_OPEN_FRAME, TXN_APPLY_FRAME,
   TXN_CONFLICT_ADDR, TXN_COUNT]

def regNamesPWR : List RegName :=
  [PWR_EVENT, PWR_EVENT_EN, PWR_LIMIT, PWR_CLK_MIN, PWR_STATUS, PWR_INPUT, PWR_PEAK, PWR_TEMP, PWR_FLOW,
   PWR_THERM_CFG, PWR_SD, PWR_THR_TIME, PWR_ENERGY]

/-- Every register name of the map. -/
def regNames : List RegName :=
  regNamesFRM ++ regNamesCORE ++ regNamesMTX ++ regNamesVEC ++ regNamesPLC ++ regNamesDMA ++ regNamesKV ++
  regNamesCOL ++ regNamesTRN ++ regNamesNET ++ regNamesHIF ++ regNamesERR ++ regNamesBIST ++ regNamesCAL ++
  regNamesLIFE ++ regNamesTXN ++ regNamesPWR

/-- The number of instances of index d (1 where the register has no such index). -/
def RegInfo.count (x : RegInfo) (d : Nat) : Nat := (x.dims.getD d (0, 1)).2

/-- The stride of index d. -/
def RegInfo.stride (x : RegInfo) (d : Nat) : Nat := (x.dims.getD d (0, 1)).1

/-- The BAR 0 offset of a register (R395, R399 and the tables' offset columns). -/
def Reg.offset (r : Reg) : Nat :=
  let x := r.name.info
  x.base + x.stride 0 * r.i + x.stride 1 * r.j + x.stride 2 * r.k

/-- Every index lies below its count. -/
def Reg.inRange (r : Reg) : Bool :=
  let x := r.name.info
  decide (r.i < x.count 0 ∧ r.j < x.count 1 ∧ r.k < x.count 2)

/-- The quotient of d by a stride, 0 for a stride of 0. -/
def idx (d stride : Nat) : Nat := if stride = 0 then 0 else d / stride

/-- The remainder of d by a stride, d itself for a stride of 0. -/
def rem (d stride : Nat) : Nat := if stride = 0 then d else d % stride

/-- The instance of register n at BAR 0 offset o, where it has one there. Strides fall from index 0 to index 2. -/
def RegName.at? (n : RegName) (o : Nat) : Option Reg :=
  let x := n.info
  if o < x.base then none else
  let d0 := o - x.base
  let d1 := rem d0 (x.stride 0)
  let d2 := rem d1 (x.stride 1)
  let r : Reg := ⟨n, idx d0 (x.stride 0), idx d1 (x.stride 1), idx d2 (x.stride 2)⟩
  if rem d2 (x.stride 2) = 0 ∧ r.inRange then some r else none

/-- The register at a BAR 0 offset; none at a reserved offset (R15). -/
def regAt (o : Nat) : Option Reg := regNames.findSome? (fun n => n.at? o)

/-- The word a list of fields' Reset column gives. -/
def resetWord (fs : List FieldInfo) : Nat := fs.foldl (fun a f => a + f.rst % 2 ^ f.len * 2 ^ f.lo) 0

/-- The value of a register after cold reset: its Reset column (R16); the rows whose Reset column is not a number are
DESIGN CHOICE (log entry 6): no core is retired, so a core's physical number is that of slot g mod 8 of its ridge (R5).
UNSAFE, see the log. -/
def Reg.resetVal (r : Reg) : BitVec 64 :=
  match r.name with
  | FRM_SCHED_A | FRM_SCHED_B => if r.i = 0 then 0 else 0x7777777777777777#64
  | CORE_CTX_ISTORE => BitVec.ofNat 64 (8 * r.j + 8 * 2 ^ 8)
  | CORE_ID => BitVec.ofNat 64 (r.i / 128 * 144 + r.i % 128 / 8 * 9 + r.i % 8 + r.i * 2 ^ 16)
  | HIF_BOOT => BitVec.ofNat 64 (256 * 2 ^ 16)
  | BIST_REPAIR => 0xff#64
  | n => BitVec.ofNat 64 (resetWord n.info.fields)

end Sys2Proof.Machine
end

