-- ==== Sys2Proof/Machine/State.lean ====
section
/-! DEFINITION. The state of the module: every register, queue, buffer, counter and mode the spec gives it, as plain
data, and the state after reset. -/

namespace Sys2Proof.Machine

/-- Why the model stops. -/
inductive Fault where
  /-- The frame counter would pass 2^64 - 1; R33: "The module does not define behaviour at the wrap." Raised by FRM_TICK
  and FIRST_TICK (and by a step that reaches a tick). Safe: the model stops where the manual gives nothing. -/
  | frameCounterWrap
  deriving DecidableEq, Repr

/-- Why a command is refused. -/
inductive Refusal where
  /-- The command has no meaning yet; raised by Dispatch.lean only. Safe. -/
  | notModelled (mnemonic : String)
  deriving DecidableEq, Repr

/-! ### Frames -/

/-- The frame time base and the ticks (R33, R40 to R42). -/
structure Clock where
  /-- FRM_NOW, 10 ns units. -/
  now : Nat := 0
  /-- Core cycles since cold reset in units of 1/100 cycle. -/
  cyc : Nat := 0
  /-- FRM_COUNT. -/
  frame : Nat := 0
  /-- FRM_TICK_TIME. -/
  tickTime : Nat := 0
  /-- Some tick has occurred since the latest start and the ticks have not stopped. -/
  running : Bool := false
  /-- The scheduled first tick: its time, its frame, and whether the start time had passed (R40). -/
  start : Option (Nat × Nat × Bool) := none
  /-- RUN was cleared: the ticks stop after the next one (R41). -/
  stopping : Bool := false
  /-- Actions 2 and 3 are skipped at the next tick (R41). -/
  skip : Bool := true
  deriving DecidableEq, Repr

/-- What the cycle counters of the cores hold beyond the package clock (R9, R95, R281), in units of 1/100 cycle, and how
long an engine of a core was occupied since the die's latest lending period, in 10 ns units (R277). -/
structure Cycles where
  /-- of a core: the cycles that its boost has added -/
  boost : SMap Nat Nat := []
  /-- of a ridge and its owner: cycles of the package clock -/
  owned : SMap (Nat × Nat) Nat := []
  /-- of a core and context: what CORE_IDLE_CYCLES has beyond the owned cycles -/
  idle : SMap (Nat × Nat) Int := []
  /-- of a core and context: COL_WAIT_CYCLES -/
  wait : SMap (Nat × Nat) Nat := []
  /-- of a core: the time in which its array or vector engine was occupied, since its die began the present lending period -/
  occupied : SMap Nat Nat := []
  deriving DecidableEq, Repr

/-- What the module keeps for a context besides its registers. -/
structure ModCtx where
  /-- FRM_CTX_CTRL.RESUME written, due at the next tick (R51). -/
  resumeW : Bool := false
  /-- CORE_CTX_HALT.RESUME written, due at the next tick (R89). -/
  resumeF : Bool := false
  /-- a fault's halt on its way to the other cores: when it was raised, and the cores that have faulted (R88) -/
  haltAt : Option (Nat × List Nat) := none
  deriving DecidableEq, Repr

/-! ### Cores -/

/-- The phase of a context on a core; halted is a loaded or running context of a halted context (R92, R93). -/
inductive Phase where | empty | loaded | running
  deriving DecidableEq, Repr

/-- A block table entry (Table ISA-17) with its armed bit, firing count and tick mark (R67, R68). -/
structure Block where
  w0 : Word := 0
  w1 : Word := 0
  w2 : Word := 0
  w3 : Word := 0
  armed : Bool := false
  fires : Nat := 0
  mark : Nat := 0
  /-- when it was last loaded, armed or fired: it has waited since then (R53) -/
  since : Nat := 0
  deriving DecidableEq, Repr

/-- An open frame of a context on a core: its number, the owned frames from it to the one that last ended, and the time
its overrun timer started (R46, R49, R73). -/
structure OpenFrame where
  frame : Nat
  age : Nat := 0
  timer : Option Nat := none
  deriving DecidableEq, Repr

/-- A context on a core. -/
structure Ctx where
  phase : Phase := .empty
  blocks : List Block := []
  codeLen : Nat := 0
  /-- Pending words of the block table entry (R94). -/
  btPend : List (Nat × Word) := []
  /-- Ticks delivered since load, T28. -/
  ticks : Nat := 0
  /-- The ready queue, oldest first (R69). -/
  ready : List Nat := []
  /-- Open frames, oldest first (R73). -/
  frames : List OpenFrame := []
  /-- the image address of a load in progress (R92) -/
  load : Option Nat := none
  /-- the core's issue number at the load: operations below it belong to an earlier load (R65) -/
  born : Nat := 0
  deriving DecidableEq, Repr

/-- A strand (R61). -/
structure Strand where
  exec : Bool := false
  /-- END has issued and a pending load keeps the strand (R71). -/
  ended : Bool := false
  /-- A fault was raised by the block this strand executes (R89). -/
  faulted : Bool := false
  /-- COLW has entered its col and waits for the release. -/
  held : Bool := false
  block : Nat := 0
  pc : Nat := 0
  /-- The number of the dispatch, which tells the operations of one block run from another's. -/
  fid : Nat := 0
  regs : SMap Nat Word := []
  pend : List Nat := []
  vcfg : Word := 0
  deriving DecidableEq, Repr

/-- Where an address leads after translation (R183, R197, R204). -/
inductive Loc where
  /-- a key of memory: HBM or a scratchpad of this module -/
  | mem (key : Nat)
  /-- host bus address behind a port -/
  | host (p a : Nat)
  /-- local address on another node -/
  | remote (node a : Nat)
  deriving DecidableEq, Repr

/-- The target whose quota a slot request counts against (R75). -/
inductive Target where
  | bank (pc bg : Nat)
  | core (g : Nat)
  | node (n : Nat)
  | port (p : Nat)
  deriving DecidableEq, Repr

/-- A scalar access kind (Table ISA-7). -/
inductive Acc where
  | load (n : Nat) (signed : Bool)
  | store (n : Nat)
  | amoadd | amoswap | amocas
  deriving DecidableEq, Repr

/-- The answer of a remote node: status 0 and data, or a refusal (R323). -/
structure Rsp where
  status : Nat
  data : List Byte := []
  poison : Bool := false
  deriving DecidableEq, Repr

/-- The strand and instruction that issued an operation: context, strand, dispatch number, block, index. -/
structure Who where
  c : Nat
  k : Nat
  fid : Nat
  block : Nat := 0
  index : Nat := 0
  deriving DecidableEq, Repr

/-- A scalar access beyond the own scratchpad, in a slot or in the side queue (R74 to R77). -/
structure Req where
  /-- issue number on the core -/
  seq : Nat
  who : Who
  acc : Acc
  rd : Nat
  addr : Nat
  loc : Loc
  tgt : Target
  /-- store data or second operand -/
  data : Word := 0
  /-- compare value of AMOCAS -/
  cmp : Word := 0
  rsp : Option Rsp := none
  /-- mirror copies of a store not yet acknowledged, and the status of one that failed (R336, R338) -/
  dups : Nat := 0
  dupFail : Option Nat := none
  deriving DecidableEq, Repr

/-! ### Cols -/

/-- Who waits for the release of a col entry (R270, R272, R290). -/
inductive Waiter where
  /-- COLE: a token on T(24 + slot) -/
  | token (slot : Nat)
  /-- COLW: strand k in dispatch fid -/
  | strand (k fid : Nat)
  /-- MLE: the layer bracket of a class -/
  | bracket (cls : Nat)
  /-- FCLOSE's vote: nobody waits -/
  | vote
  deriving DecidableEq, Repr

/-- An outstanding entry of a core's wait table (R270). -/
structure WaitEnt where
  id : Nat
  tag : Nat
  waiter : Waiter
  deriving DecidableEq, Repr

/-- The round tag of an identifier on a core, with the latest release matched (R270, Table COL-4). -/
structure ColTag where
  tag : Nat := 0
  lastTag : Nat := 0
  lastFlag : Bool := false
  deriving DecidableEq, Repr

/-- An entry that waits for room: the third of its identifier, or a full wait table (R270). -/
structure Stall where
  c : Nat
  id : Nat
  waiter : Waiter
  flag : Bool
  /-- the strand that COLE or COLW holds, and its dispatch -/
  k : Nat := 0
  fid : Nat := 0
  deriving DecidableEq, Repr

/-- An entry on its way from core g to a counter (R270). -/
structure ColEnt where
  g : Nat
  phys : Nat
  tag : Nat
  flag : Bool
  deriving DecidableEq, Repr

/-- A release on its way from a counter to core g (R271, R272). -/
structure ColRel where
  g : Nat
  phys : Nat
  c : Nat
  id : Nat
  tag : Nat
  flag : Bool
  deriving DecidableEq, Repr

/-- A matrix instruction queued or running: its operands at issue, and its tiles as they stood at issue (R134). -/
structure MOp where
  who : Who
  seq : Nat
  /-- the bracket class of its block (R143) -/
  cls : Nat
  dec : Dec
  ra : Word := 0
  rb : Word := 0
  seed : Word := 0
  tag : Word := 0
  started : Bool := false
  snap : Mem := []
  /-- of an MLB not yet started: a counted vector instruction issued after it has raised OVF -/
  early : Bool := false
  /-- of a started MWB or MTOUT: the gradient-noise bucket of the bracket in which it was issued (R304) -/
  bin : Option Nat := none
  deriving DecidableEq, Repr

/-- A vector instruction queued or running. -/
structure VOp where
  who : Who
  seq : Nat
  cls : Nat
  dec : Dec
  ra : Nat := 0
  rb : Nat := 0
  rc : Nat := 0
  cfg : Word := 0
  seed : Word := 0
  tag : Word := 0
  started : Bool := false
  snap : Mem := []
  /-- of a started VUPD: descriptors, hyper-parameter block and late header as read at the start (R167) -/
  cap : List Byte := []
  /-- of a started VUPD: the contributor count read at the start -/
  count : Nat := 0
  deriving DecidableEq, Repr

/-- An open layer bracket, beside MTX_LAYER (R143 to R145). -/
structure Bracket where
  /-- issue number of its MLB, and of its MLE once that has started -/
  openSeq : Nat
  closeSeq : Option Nat := none
  who : Who
  vecOvf : Bool := false
  /-- the descriptor's address -/
  addr : Nat := 0
  /-- the flag that the layer col released -/
  released : Option Bool := none
  deriving DecidableEq, Repr

/-- What a hop keeps for a traverse entry besides its registers (R137, R139). -/
structure Hop where
  /-- the core that sent the landed total: node and core -/
  up : Option (Nat × Nat) := none
  /-- an MTOUT has executed since the latest write to MTX_TRV_DUE -/
  sent : Bool := false
  /-- a skip forward that waits for credit -/
  wait : Bool := false
  deriving DecidableEq, Repr

/-- A traverse total on its way to a core of this module: entry t of context c on core g, the sending core, and the area
by offset. -/
structure TrvMsg where
  g : Nat
  c : Nat
  t : Nat
  node : Nat
  core : Nat
  area : Mem
  /-- the area it was read from held poison -/
  poison : Bool := false
  deriving DecidableEq, Repr

/-- Spur operations (R237). -/
inductive SpurKind where
  | put | get | atom
  | msg (core queue : Nat)
  deriving DecidableEq, Repr

/-- A part of a spur operation's remote operand within one 64 KiB stripe (R197): where it leads, its offset and length in
the operand, and the answer. -/
structure SPart where
  loc : Loc
  off : Nat
  len : Nat
  rsp : Option Rsp := none
  deriving DecidableEq, Repr

/-- A spur operation in the spur queue: its remote address or destination word, its parts, the key of the local operand,
the addend, and the result register. -/
structure SOp where
  seq : Nat
  who : Who
  kind : SpurKind
  tok : Bool
  addr : Nat
  parts : List SPart
  loc : Nat := 0
  len : Nat
  val : Word := 0
  rc : Nat := 0
  /-- the bytes it carries, read when it leaves the queue, or at issue by MSENDR -/
  data : List Byte := []
  poison : Bool := false
  /-- it has left the queue through the core port -/
  sent : Bool := false
  /-- when it was issued, for DMA_SPUR_TIMEOUT -/
  born : Nat := 0
  /-- mirror copies not yet acknowledged, and the status of one that failed (R336, R338) -/
  dups : Nat := 0
  dupFail : Option Nat := none
  deriving DecidableEq, Repr

/-- A message on its way to a core of this module: the sender's operation, the receiving core, context and queue; held
once it has found the queue full (R264). -/
structure Msg where
  g : Nat
  seq : Nat
  dst : Nat
  c : Nat
  q : Nat
  data : List Byte
  poison : Bool := false
  held : Bool := false
  deriving DecidableEq, Repr

/-- What MTIN on a LAST entry loaded, until the first MWB with KEEP = 0 measures it (R304). -/
structure AccSrc where
  t : Nat
  mode : Nat
  tot : SMap Nat Nat
  contrib : Nat
  deriving DecidableEq, Repr

/-! ### Training -/

/-- The sums of a gradient-noise bucket in the present step, exact (R304, R305). -/
structure Bucket where
  localSq : FVal := .fin false 0 0
  totalSq : FVal := .fin false 0 0
  localN : Nat := 0
  totalW : Nat := 0
  localW : Nat := 0
  deriving DecidableEq, Repr

/-- The step transaction of a context, beside its TRN registers. -/
structure Trn where
  /-- registers as they stood at the open, in force while the step is open, decided or undecided (R310) -/
  eff : List (Reg × Word) := []
  /-- OPEN was written, due at the next tick (R289) -/
  openReq : Bool := false
  openFrame : Nat := 0
  /-- of a decided step: commit -/
  commit : Bool := false
  /-- the voters that have voted, and the cores whose flag a cause has set (R291) -/
  voted : List Nat := []
  flags : List Nat := []
  buckets : SMap Nat Bucket := []
  /-- phase times of the present step (R307) -/
  phases : SMap Nat Nat := []
  /-- a step has been decided since the load or reset (R307) -/
  seen : Bool := false
  deriving DecidableEq, Repr

/-! ### Page pools -/

/-- A segment beside its registers (R245, R250): the ring's head, the indices of pending pages, and an initialisation in
progress. -/
structure Seg where
  head : Nat := 0
  pend : List Nat := []
  init : Bool := false
  deriving DecidableEq, Repr

/-! ### Noine (R322 to R330) -/

/-- The operation that a packet serves. -/
inductive OpKind where
  | none
  | scalar (g seq : Nat)
  | spur (g seq : Nat)
  | dma (g ch id : Nat)
  /-- an applied packet of a receive flow, whose acknowledgement waits for a mirror copy (R336) -/
  | rx (node flow epoch psn : Nat)
  deriving DecidableEq, Repr

/-- The operation, and the mirror entry where the packet is its duplicate. -/
structure OpRef where
  op : OpKind := .none
  mir : Option Nat := Option.none
  /-- the part of a spur operation -/
  part : Nat := 0
  deriving DecidableEq, Repr

/-- Flow classes (Table NET-4). -/
inductive FlowClass where | spur | dma | traverse | control
  deriving DecidableEq, Repr

/-- A flow key (Table NET-4): sub is the context or channel; core and dst are 0xFF for the module. -/
structure FlowKey where
  cls : FlowClass
  core : Nat := 255
  sub : Nat := 0
  trv : Nat := 0
  node : Nat
  dst : Nat := 255
  deriving DecidableEq, Repr

/-- A packet queued or kept until it is acknowledged: when it was last sent, its resends, and a refusal that waits for
RNR. -/
structure TxPkt where
  pkt : Packet
  refs : List OpRef := []
  /-- the DMA unit whose contiguous bursts may share a packet (R325) -/
  unit : Option Nat := none
  sent : Nat := 0
  tries : Nat := 0
  rnr : Bool := false
  /-- when the operation was first sent, for the spur timeout (R264) -/
  born : Nat := 0
  deriving DecidableEq, Repr

/-- The sending end of one direction of a flow (R323, R330): its next PSN, what waits, what is sent and not acknowledged. -/
structure Tx where
  next : Nat := 0
  /-- nothing of the epoch has been sent -/
  fresh : Bool := true
  queue : List TxPkt := []
  unacked : List TxPkt := []
  limit : Nat := 0
  /-- W -/
  w : Rat := 0
  lastCut : Option Nat := none
  deriving DecidableEq, Repr

/-- The receiving end of one direction of a flow (R326, R327). -/
structure Rx where
  next : Nat := 0
  held : List Packet := []
  /-- the link of its latest packet -/
  link : Nat := 0
  /-- packets applied and not yet acknowledged, and when the first was -/
  due : Nat := 0
  dueAt : Nat := 0
  ce : Bool := false
  /-- the flow's next message waits under code 1 -/
  waits : Bool := false
  /-- applied PSNs whose mirror copies are not yet acknowledged -/
  mirrored : List Nat := []
  /-- the credit limit last returned (R330) -/
  limit : Nat := 0
  deriving DecidableEq, Repr

/-- A send flow: the requests it sends and the responses that come back on it (R323). -/
structure SFlow where
  key : FlowKey
  epoch : Nat := 0
  tx : Tx := {}
  rx : Rx := {}
  /-- the frame of its latest use -/
  used : Nat := 0
  /-- read and atomic requests without a response: tag, time sent, operation -/
  reads : List (Nat × Nat × OpRef) := []
  /-- a control flow whose last packet is its own FLOW_CLOSE (R329) -/
  closing : Bool := false
  deriving DecidableEq, Repr

/-- A receive flow: the requests that arrive on it and the responses it sends. -/
structure RFlow where
  node : Nat
  flow : Nat
  epoch : Nat
  rx : Rx := {}
  tx : Tx := {}
  used : Nat := 0
  /-- the header of the traverse area that is arriving -/
  hdr : List Byte := []
  deriving DecidableEq, Repr

/-! ### The DMA engine -/

/-- What a read burst fetches: transfer data, the second pattern of a compare, a list entry, an append record, the page of
a record's first token. -/
inductive BurstKind where | data | second | entry | record | tail
  deriving DecidableEq, Repr

/-- The life of a read burst: on its way, arrived and not wholly written, suppressed (R231), failed and to be reissued
first (R235), failed and waiting for its retry (R234), found poisoned and waiting for its reread from ALT (R220). -/
inductive BurstSt where | reading | ready | suppressed | failed | retry | reread
  deriving DecidableEq, Repr

/-- A read burst of a channel: its unit, its place in the transfer (run and offset), its source. -/
structure Burst where
  id : Nat
  ch : Nat
  /-- of the queued shadow transfer (R230) -/
  next : Bool
  kind : BurstKind
  unit : Nat
  run : Nat
  off : Nat
  addr : Nat
  loc : Loc
  len : Nat
  demand : Bool
  st : BurstSt := .reading
  /-- it has been reread from ALT (R220) -/
  alt : Bool := false
  rsp : Option Rsp := none
  /-- times issued, and how many of them were reissues under R234 -/
  tries : Nat := 1
  again : Nat := 0
  /-- the bytes to write, those whose write has been issued, and those acknowledged -/
  data : List Byte := []
  poison : Bool := false
  sent : Nat := 0
  acked : Nat := 0
  deriving DecidableEq, Repr

/-- What a write burst stores: transfer data, a page number in a list, the TOKENS of a record. -/
inductive WriteKind where | data | list | tokens
  deriving DecidableEq, Repr

/-- A write burst: the read burst whose data it carries, none for data the engine makes itself. -/
structure DWrite where
  id : Nat
  ch : Nat
  kind : WriteKind
  src : Option Nat
  unit : Nat
  run : Nat
  off : Nat
  addr : Nat
  loc : Loc
  data : List Byte
  poison : Bool := false
  rsp : Option Rsp := none
  dups : Nat := 0
  dupFail : Option Nat := none
  tries : Nat := 1
  again : Nat := 0
  /-- failed: waits for its reissue; true where the reissue waits for DMA_BURST_RETRY -/
  failed : Option Bool := none
  deriving DecidableEq, Repr

/-- The append record of a scatter-append unit (R225): LIST, TOKENS, CAP. -/
structure AppRec where
  list : Nat
  tokens : Nat
  cap : Nat
  deriving DecidableEq, Repr

/-- How far the reads of a transfer have come, and what its walk has read. -/
structure Walk where
  run : Nat := 0
  off : Nat := 0
  /-- the place of the second pattern's reads -/
  run2 : Nat := 0
  off2 : Nat := 0
  /-- the units below this have had their list entry or record asked for -/
  asked : Nat := 0
  /-- list entries read: unit and page number -/
  pages : SMap Nat (Option Nat) := []
  recs : List (Nat × AppRec) := []
  deriving DecidableEq, Repr

/-- A digest in progress: the CRC register, the place it has reached, and stretches that wait for an earlier one. -/
structure Digest where
  crc : Word := BitVec.allOnes 64
  run : Nat := 0
  off : Nat := 0
  hold : List (Nat × Nat × List Byte) := []
  deriving DecidableEq, Repr

/-- The active transfer of a channel. -/
structure Xfer where
  who : Who
  /-- issued on a checked channel while the context's step was open (R287) -/
  chk : Bool := false
  walk : Walk := {}
  /-- the place that the stretches the write engine makes itself have reached -/
  ownRun : Nat := 0
  ownOff : Nat := 0
  /-- 64 B granules of memory the transfer has written, with what they held before (R215) -/
  overwritten : SMap Nat (List Byte) := []
  /-- the head unit: the lowest that is not complete -/
  head : Nat := 0
  /-- bytes of units acknowledged -/
  acked : SMap Nat Nat := []
  /-- S, and the units from the head on whose first write has been issued -/
  startedN : Nat := 0
  started : List Nat := []
  c0 : Word := 0
  /-- the counter value the channel has seen -/
  seen : Word := 0
  /-- some destination granule is poisoned -/
  bad : Bool := false
  dig : Digest := {}
  dig2 : Digest := {}
  /-- the first 64 B delivered, for the shard check -/
  tag : List Byte := []
  /-- compare: bytes of the two patterns not yet compared, bytes compared, differing bytes, the first of them -/
  pa : List Byte := []
  pb : List Byte := []
  done : Nat := 0
  diff : Nat := 0
  first : Option Nat := none
  bytes : Nat := 0
  suppressed : Nat := 0
  retries : Nat := 0
  /-- scatter-append: pages of the head record's list, the list word still to write, the TOKENS write issued, and the token and code at which it stopped -/
  tokPages : SMap Nat (Option Nat) := []
  listDue : Option (Nat × Nat) := none
  tokDone : Bool := false
  stop : Option (Nat × Nat) := none
  /-- the end code a stopping transfer takes -/
  ending : Nat := 0
  deriving DecidableEq, Repr

/-- A channel beside its registers. -/
structure Chan where
  act : Option Xfer := none
  /-- the DGO of the queued shadow set, its check mark and its run-ahead -/
  whoQ : Option (Who × Bool) := none
  shd : Walk := {}
  deriving DecidableEq, Repr

/-- The issue slot of a core (R63, R64): the current strand, which issued last, its consecutive instructions, 256 where it
gives the slot up, and the fixed-latency interlocks: context, strand, register, and the issues that end it at the latest.
With it the time since which the core, issuing nothing, is idle at a col (Table COL-6). -/
structure IssueSlot where
  last : Option (Nat × Nat) := none
  run : Nat := 0
  lock : List (Nat × Nat × Nat × Nat) := []
  idle : Option Nat := none
  deriving DecidableEq, Repr

/-- Bytes of the own scratchpad that a strand has stored over and the engines may not yet see (R84): the strand, the old
bytes, and the core's issue number at the strand's next TOKADD. -/
structure Unseen where
  c : Nat
  k : Nat
  key : Nat
  old : List Byte
  tok : Option Nat := none
  deriving DecidableEq, Repr

/-- The units of a core shared by its contexts. -/
structure Core where
  /-- the next issue number -/
  seq : Nat := 0
  iss : IssueSlot := {}
  mtxq : List MOp := []
  vecq : List VOp := []
  spurq : List SOp := []
  /-- DMA read bursts and write bursts, in order of issue; the channels served last -/
  bursts : List Burst := []
  writes : List DWrite := []
  lastRead : Nat := 15
  lastWrite : Nat := 15
  slots : List Req := []
  sideq : List Req := []
  /-- col entries that wait for room, oldest first -/
  stalls : List Stall := []
  deriving DecidableEq, Repr

/-! ### Transactions -/

/-- The staged registers of an owner's transaction, oldest first, and the order of its COMMIT (R390, R391). -/
structure Txn where
  staged : List (Reg × Word) := []
  timeout : Nat := 0
  order : Nat := 0
  deriving DecidableEq, Repr

/-! ### The steward -/

/-- The lifetime counters (Table REL-6): seconds of package power, power and thermal cycles, wear of the two dies in
2^-64 equivalent seconds, HBM errors per stack, repairs, and events. -/
structure Life where
  seconds : Nat := 0
  power : Nat := 0
  thermal : Nat := 0
  wear : SMap Nat Nat := []
  ce : SMap Nat Nat := []
  ue : SMap Nat Nat := []
  spares : Nat := 0
  retired : Nat := 0
  rows : Nat := 0
  ppr : Nat := 0
  warm : Nat := 0
  firmware : Nat := 0
  fatal : Nat := 0
  deriving DecidableEq, Repr

/-- A command that the steward has received and not yet served (R365): of a mailbox, or of an MCTP interface with its
message type and body. -/
inductive Job where
  | mailbox (p : Nat)
  | mctp (via : Via) (type : Nat) (body : List Byte)
  deriving DecidableEq, Repr

/-- What the steward and its nonvolatile store hold. -/
structure Steward where
  /-- the event ring, latest first: records of 64 B (Table REL-7) -/
  cairn : List (List Byte) := []
  /-- the number of its latest record -/
  logSeq : Nat := 0
  /-- lifetime counters as counted, and as last committed to the store -/
  life : Life := {}
  stored : Life := {}
  /-- fraction of a second, in 10 ns units -/
  sub : Nat := 0
  /-- the real-time clock, in seconds -/
  utc : Nat := 0
  /-- it has been set or was held -/
  utcOk : Bool := false
  /-- latest trough and peak of each die (R384), °C -/
  trough : SMap Nat (Option Nat) := []
  peak : SMap Nat (Option Nat) := []
  /-- the bytes of the firmware slots that FW_WRITE has written; others are as manufactured -/
  fw : SMap Nat (Option Byte) := []
  /-- the active slot of each image type, 0 A and 1 B; types whose slot was marked active since they last started; slots
  whose image has run without a FAIL code (R361) -/
  active : SMap Nat Nat := []
  marked : List Nat := []
  ran : List Nat := []
  /-- the verified copy of each image that runs: its slot and header; none where none verified (R359, R363) -/
  running : SMap Nat (Option (Nat × List Byte)) := []
  /-- fused: minimum SVN of each image type; revoked Ed25519 and ML-DSA-65 key slots -/
  svn : SMap Nat Nat := []
  edRevoked : List Nat := []
  mldsaRevoked : List Nat := []
  /-- stored user offsets (R380) -/
  cal : SMap Nat Word := []
  /-- commands that wait to be served, oldest first (R365) -/
  jobs : List Job := []
  /-- excluded thermal sensors and voltage monitors -/
  tsOut : List Nat := []
  vmOut : List Nat := []
  /-- latest raw outputs of sensors and monitors, by index -/
  sensors : SMap Nat (Option Nat) := []
  /-- the repair record: every failure repaired or to be repaired (R374, R377) -/
  record : List Fail := []
  /-- the last failure that the previous shut-down test found -/
  sdFail : Option Fail := none
  /-- MCTP endpoint numbers by interface: 0 SMBus, 1 + p port p -/
  eids : SMap Nat Nat := []
  deriving DecidableEq, Repr

/-! ### The PCI Express functions -/

/-- The configuration space of a port's function, beside what is constant and Bus Master Enable (Table HOST-1, R347): the
Command register, the addresses of BARs 0, 2 and 4, D3hot, MSI-X enable and function mask, the codes of Max_Payload_Size and
Max_Read_Request_Size, and the AER status words. -/
structure PcieFn where
  cmd : Nat := 0
  bar0 : Nat := 0
  bar2 : Nat := 0
  bar4 : Nat := 0
  d3 : Bool := false
  msixOn : Bool := false
  msixMask : Bool := false
  mps : Nat := 0
  mrrs : Nat := 2
  aerCe : Nat := 0
  aerUe : Nat := 0
  deriving DecidableEq, Repr

/-! ### Power -/

/-- A shutdown under way (R406): its cause is thermal, it ends in a restart, when its notice ends. -/
structure Shutdown where
  thermal : Bool := false
  restart : Bool := false
  due : Nat := 0
  deriving DecidableEq, Repr

/-- The power stage and the package power manager, beside the PWR registers (R398 to R408). -/
structure Power where
  /-- input power of the latest samples in 0.1 mW, latest first -/
  samples : List Nat := []
  /-- the targets of R402, MHz -/
  target : Nat := 2500
  thermal : Nat := 2500
  /-- the throttle, refresh and flow conditions in force -/
  throttle : Bool := false
  refresh : Bool := false
  flowLow : Bool := false
  /-- the dies whose PLL frequency is out of its limit (R375) -/
  pllOut : List Nat := []
  /-- fraction of a joule, 10^-10 J -/
  energy : Nat := 0
  sd : Option Shutdown := none
  /-- the package rails are down -/
  off : Bool := false
  /-- PWR_EN is asserted; the input is connected; the steward, store and sensors have power -/
  en : Bool := true
  input : Bool := true
  standby : Bool := true
  deriving DecidableEq, Repr

/-- A loop-back under way (R376): its port and mode as the GO gave them, and when it ends. -/
structure Loopback where
  port : Nat := 0
  mode : Nat := 1
  due : Nat := 0
  deriving DecidableEq, Repr

/-! ### The host interface -/

/-- A request in an intake queue: its port, the frame in which it was fetched, its entry (R56). -/
structure HReq where
  port : Nat
  frame : Nat
  bytes : List Byte
  deriving DecidableEq, Repr

/-- A completion that waits to be written: its port and place in the order of R355, and the fields of Table HOST-8. -/
structure Cpl where
  port : Nat
  order : Nat
  slot : Nat := 0
  tag : List Byte
  status : Nat
  op : Nat
  result : List Byte := []
  deriving DecidableEq, Repr

/-- The host side of a context (R350 to R356): the intake queue, occupied service slots with the port and tag of their
requests, completions, entries fetched for the next tick by port with the frame of their fetch, ports whose fetch left
entries behind, the credit published at the latest tick. -/
structure Svc where
  queue : List HReq := []
  slots : List (Nat × Nat × List Byte) := []
  cpls : List Cpl := []
  fetched : List (Nat × Nat × List (List Byte)) := []
  late : List Nat := []
  credit0 : Nat := 0
  credit1 : Nat := 0
  deriving DecidableEq, Repr

/-! ### The module -/

/-- What leaves the module besides writes to host memory. -/
inductive Out where
  /-- MSI-X vector v sent on port p. -/
  | msix (p v : Nat)
  /-- An answer of the steward over MCTP: on SMBus, or on port p; its completion code and data. -/
  | smbus (code : Nat) (data : List Byte)
  | vdm (p code : Nat) (data : List Byte)
  /-- The data of an aperture read through port p, with EP where it is poisoned (R346). -/
  | aperture (p : Nat) (data : List Byte) (poison : Bool)
  /-- A packet sent on a link. -/
  | packet (link : Nat) (p : Packet)
  /-- Priority flow control sent on a port: pause or release (R317). -/
  | pfc (port : Nat) (pause : Bool)
  deriving DecidableEq, Repr

/-- The state of the block. -/
structure State where
  /-- Commands waiting, first in first out. -/
  pending : List Instr := []
  /-- The register map; a register not listed holds its reset value. -/
  regs : SMap Reg Word := []
  clk : Clock := {}
  /-- The owner code of each ridge, 0 to 7 (R24); a ridge is die × 16 + ridge. -/
  owner : SMap Nat Nat := []
  mem : Mem := []
  /-- Poisoned granules: memory keys ÷ 64, rising. -/
  poison : List Nat := []
  /-- The MSI-X tables of the two ports, by 32-bit word (R345); a vector control word not listed has its mask bit set. -/
  msix : SMap (Nat × Nat) Nat := []
  /-- The pending-bit arrays: port and vector. -/
  msixPend : List (Nat × Nat) := []
  mctx : SMap Nat ModCtx := []
  ctxs : SMap (Nat × Nat) Ctx := []
  /-- Stall watch times (R52), in 10 ns units. -/
  watch : SMap (Nat × Nat) Nat := []
  /-- Cores and contexts whose present stall has been recorded or counted (R53). -/
  stalled : List (Nat × Nat) := []
  strands : SMap (Nat × Nat × Nat) Strand := []
  cores : SMap Nat Core := []
  /-- Stores to a core's own scratchpad that its engines may not yet see, latest first (R84). -/
  unseen : SMap Nat (List Unseen) := []
  /-- The wait tables: outstanding col entries of a core and context, oldest first (R270). -/
  waits : SMap (Nat × Nat) (List WaitEnt) := []
  /-- The round tags by core, context and identifier. -/
  tags : SMap (Nat × Nat × Nat) ColTag := []
  brackets : SMap (Nat × Nat × Nat) (Option Bracket) := []
  /-- Accumulator totals by core, context and accumulator: element position and 64-bit encoding, +0 not listed (R124). -/
  accs : SMap (Nat × Nat × Nat) (SMap Nat Nat) := []
  accSrc : SMap (Nat × Nat × Nat) (Option AccSrc) := []
  hops : SMap (Nat × Nat × Nat) Hop := []
  /-- DMA channels by core and number. -/
  chans : SMap (Nat × Nat) Chan := []
  trn : SMap Nat Trn := []
  /-- Segments by pool and number. -/
  segs : SMap (Nat × Nat) Seg := []
  transit : List TrvMsg := []
  /-- Messages on their way to cores of this module, oldest first. -/
  msgs : List Msg := []
  /-- Send flows by index; the epoch that the next flow of a closed or failed index opens with. -/
  sflows : SMap Nat (Option SFlow) := []
  epochs : SMap Nat Nat := []
  rflows : List RFlow := []
  /-- The next request tag. -/
  tag : Nat := 0
  /-- Packets that wait for a link or a paused port (R317, R324), oldest first; with the link for a copy that has only one. -/
  netWait : List (Option Nat × Packet) := []
  /-- Packets for a flow that finds no free index (R329), oldest first. -/
  flowWait : List (FlowKey × List TxPkt) := []
  /-- Entries on their way to counters, oldest first. -/
  colEnts : List ColEnt := []
  /-- Releases on their way to cores, oldest first. -/
  colRels : List ColRel := []
  /-- Rounds that a home counter has released, latest first, with their flags (R332). -/
  colHist : SMap Nat (List (Nat × Bool)) := []
  /-- When a cross-module counter last sent an arrival or a query. -/
  colPoll : SMap Nat Nat := []
  /-- Borrow entries granted, with the END_FRAME of a notice that has followed, and lend entries released, that change at
  the next tick (R200). -/
  granted : List (Nat × Option Nat) := []
  lendRel : List Nat := []
  /-- Ports paused by their peers for priority PCP, and ports that pause theirs (R317). -/
  paused : List Nat := []
  pausing : List Nat := []
  /-- When a link left the up state (R314). -/
  linkDown : SMap Nat (Option Nat) := []
  txns : SMap Nat Txn := []
  txnOrder : Nat := 0
  stw : Steward := {}
  pwr : Power := {}
  svcs : SMap Nat Svc := []
  /-- Ports whose PERST# is deasserted (R358). -/
  perst : List Nat := []
  fns : SMap Nat PcieFn := []
  /-- The ADDR straps: an open strap reads 1 (R409). -/
  straps : Nat := 7
  cycles : Cycles := {}
  /-- Lending: the time of each die's latest period, the next core of its round robin, configurations written. -/
  lendAt : SMap Nat Nat := []
  lendPtr : SMap Nat Nat := []
  lendNew : SMap Nat (Option Word) := []
  /-- Run-time test: slices each core has done in its pass, slices begun in the present frame (R372). -/
  slices : SMap Nat Nat := []
  sliceFrame : SMap Nat (Nat × Nat) := []
  /-- The next HBM granule of the scrub pass (R371). -/
  scrubAt : Nat := 0
  /-- The loop-back under way (R376). -/
  loopback : Option Loopback := none
  /-- Corrections since the last start, by unit and word (R369). -/
  weak : SMap (Nat × Nat) Nat := []
  /-- Failures scheduled for repair at the next start (R369, R373). -/
  repairDue : List Fail := []
  /-- Words of instruction stores, and accumulators, that hold an uncorrectable error (R367). -/
  badInstr : List Nat := []
  badAcc : List (Nat × Nat × Nat) := []
  /-- When the latest uncorrectable and corrected errors were detected (R369). -/
  ueAt : Option Nat := none
  ceAt : Option Nat := none
  /-- Corrected words that wait to be written back, by unit and word, oldest first (R369). -/
  wback : List (Nat × Nat) := []
  /-- What the module has sent, latest first (the model's own record). -/
  out : List Out := []
  /-- The number of free values used (the model's own counter). -/
  freeCtr : Nat := 0
  deriving DecidableEq, Repr

/-- The module right after cold reset: every register at its Reset column, nothing queued, no tick started (R16). -/
def State.reset : State := {}

end Sys2Proof.Machine
end

