-- ==== Sys2Proof/Machine/Ops.lean ====
section
/-! DEFINITION. The named operations over State: registers and their fields, event bits and their MSI-X vectors, memory
with poison marks, the per-core tables, tokens, and raising a fault. -/

namespace Sys2Proof.Machine

/-! ### Registers -/

/-- The stored word of a register. -/
def State.reg (s : State) (r : Reg) : Word := SMap.get r.resetVal s.regs r

/-- The state with a register's stored word replaced. -/
def State.setReg (s : State) (r : Reg) (w : Word) : State := { s with regs := SMap.set Reg.offset r.resetVal s.regs r w }

/-- A field of a register, with up to three instance numbers. -/
def State.f (s : State) (x : Fld) (i : Nat := 0) (j : Nat := 0) (k : Nat := 0) : Nat :=
  bits (s.reg ⟨x.reg, i, j, k⟩) x.lo x.len

/-- The state with a field of a register set to the low bits of v. -/
def State.setF (s : State) (x : Fld) (v : Nat) (i : Nat := 0) (j : Nat := 0) (k : Nat := 0) : State :=
  s.setReg ⟨x.reg, i, j, k⟩ (setBits (s.reg ⟨x.reg, i, j, k⟩) x.lo x.len v)

/-- The state with a counter field raised by n, wrapping at its width. -/
def State.addF (s : State) (x : Fld) (n : Nat) (i : Nat := 0) (j : Nat := 0) (k : Nat := 0) : State :=
  s.setF x (s.f x i j k + n) i j k

/-- The state with a counter field raised by n, held at its largest value. -/
def State.addSatF (s : State) (x : Fld) (n : Nat) (i : Nat := 0) (j : Nat := 0) (k : Nat := 0) : State :=
  s.setF x (satN x.len (s.f x i j k + n)) i j k

/-- A one-bit field as a Bool. -/
def State.fb (s : State) (x : Fld) (i : Nat := 0) (j : Nat := 0) (k : Nat := 0) : Bool := s.f x i j k == 1

/-- The instances of a register that the map lists. -/
def State.listed (s : State) (n : RegName) : List Reg := (SMap.keys s.regs).filter (fun r => r.name = n)

/-! ### Events and MSI-X (R349) -/

/-- The enable register and the vector of a block's event register (Table HOST-3). -/
def eventInfo : RegName → Option (RegName × Nat)
  | .FRM_EVENT => some (.FRM_EVENT_EN, 0)
  | .CORE_FAULT_EVENT => some (.CORE_FAULT_EVENT_EN, 1)
  | .MTX_EVENT => some (.MTX_EVENT_EN, 2)
  | .VEC_EVENT => some (.VEC_EVENT_EN, 3)
  | .PLC_EVENT => some (.PLC_EVENT_EN, 4)
  | .DMA_EVENT => some (.DMA_EVENT_EN, 5)
  | .KV_EVENT => some (.KV_EVENT_EN, 6)
  | .COL_EVENT => some (.COL_EVENT_EN, 7)
  | .TRN_EVENT => some (.TRN_EVENT_EN, 8)
  | .NET_EVENT => some (.NET_EVENT_EN, 9)
  | .HIF_EVENT => some (.HIF_EVENT_EN, 10)
  | .ERR_EVENT => some (.ERR_EVENT_EN, 11)
  | .BIST_EVENT => some (.BIST_EVENT_EN, 12)
  | .CAL_EVENT => some (.CAL_EVENT_EN, 12)
  | .LIFE_EVENT => some (.LIFE_EVENT_EN, 12)
  | .TXN_EVENT => some (.TXN_EVENT_EN, 13)
  | .PWR_EVENT => some (.PWR_EVENT_EN, 14)
  | _ => none

/-- Some enabled event bit of the block is set. -/
def State.eventOr (s : State) (r : RegName) : Bool :=
  match eventInfo r with
  | none => false
  | some (en, _) => (s.reg ⟨r, 0, 0, 0⟩ &&& s.reg ⟨en, 0, 0, 0⟩) != 0

/-- Word i of port p's MSI-X table; a vector control word not listed reads 1, masked (PRESUMED, log entry 7). -/
def State.msixWord (s : State) (p i : Nat) : Nat := SMap.get (if i % 4 = 3 then 1 else 0) s.msix (p, i)

/-- The function of port p. -/
def State.fn (s : State) (p : Nat) : PcieFn := SMap.get {} s.fns p

def State.setFn (s : State) (p : Nat) (x : PcieFn) : State := { s with fns := SMap.set id {} s.fns p x }

/-- Port p may master the bus: Bus Master Enable is set and the function is in D0 (R348). -/
def State.bme (s : State) (p : Nat) : Bool := s.fb F.HIF_LINK_BME p && !(s.fn p).d3

/-- MSI-X vector v raised on port p: sent, or held pending while its entry or the function is masked; nothing while the
function's MSI-X is not enabled (PRESUMED, log entry 7). -/
def State.msixSend (s : State) (p v : Nat) : State :=
  if !(s.fn p).msixOn then s
  else if bitN (s.msixWord p (4 * v + 3)) 0 || (s.fn p).msixMask then
    { s with msixPend := if (p, v) ∈ s.msixPend then s.msixPend else (p, v) :: s.msixPend }
  else { s with out := .msix p v :: s.out }

/-- A block vector raised on the ports of HIF_IRQ_ROUTE (R349). -/
def State.blockVector (s : State) (v : Nat) : State :=
  let routed := s.f F.HIF_IRQ_ROUTE_PORTS
  let s := if bitN routed 0 then s.msixSend 0 v else s
  if bitN routed 1 then s.msixSend 1 v else s

/-- The vector of a block sent where its OR was 0 before and is 1 now (R349). -/
def State.vectorIfRisen (s : State) (before : Bool) (r : RegName) : State :=
  match eventInfo r with
  | none => s
  | some (_, v) => if !before && s.eventOr r then s.blockVector v else s

/-- Bit n of an event field set by the module (R13, R349). -/
def State.event (s : State) (x : Fld) (n : Nat := 0) (i : Nat := 0) (j : Nat := 0) : State :=
  let before := s.eventOr x.reg
  (s.setF x (setBitN (s.f x i j) n) i j).vectorIfRisen before x.reg

/-! ### Per-core tables -/

/-- Core g exists: its ridge has more than g mod 8 active slots (R5, BIST_REPAIR.ACTIVE). -/
def State.coreOk (s : State) (g : Nat) : Bool :=
  decide (g < 256) && decide (g % 8 < min 8 (popCount 9 (s.f F.BIST_REPAIR_ACTIVE (g / 8))))

/-- The existing cores, in ascending global logical number. -/
def State.coreList (s : State) : List Nat := (List.range 256).filter s.coreOk

def State.ctx (s : State) (g c : Nat) : Ctx := SMap.get {} s.ctxs (g, c)

def State.setCtx (s : State) (g c : Nat) (x : Ctx) : State :=
  { s with ctxs := SMap.set (fun k => 4 * k.1 + k.2) {} s.ctxs (g, c) x }

def State.strand (s : State) (g c k : Nat) : Strand := SMap.get {} s.strands (g, c, k)

def State.setStrand (s : State) (g c k : Nat) (x : Strand) : State :=
  { s with strands := SMap.set (fun k => 32 * k.1 + 8 * k.2.1 + k.2.2) {} s.strands (g, c, k) x }

def State.core (s : State) (g : Nat) : Core := SMap.get {} s.cores g

def State.setCore (s : State) (g : Nat) (x : Core) : State := { s with cores := SMap.set id {} s.cores g x }

def State.mod (s : State) (c : Nat) : ModCtx := SMap.get {} s.mctx c

def State.setMod (s : State) (c : Nat) (x : ModCtx) : State := { s with mctx := SMap.set id {} s.mctx c x }

/-- The owner code of core g's ridge (R24). -/
def State.ownerOf (s : State) (g : Nat) : Nat := SMap.get 0 s.owner (g / 8)

/-- Context c owns core g's ridge in this frame. -/
def State.owns (s : State) (g c : Nat) : Bool := s.ownerOf g == c

/-- Context c is halted, by the watchdog (R50) or by a fault (R88). -/
def State.halted (s : State) (c : Nat) : Bool := s.fb F.FRM_WDOG_HALT_HALTED c || s.fb F.CORE_CTX_HALT_HALTED c

/-- The halt of a fault has reached core g: at once where the core has faulted, elsewhere within 2 µs (R88). -/
def State.haltReached (s : State) (g c : Nat) : Bool :=
  match (s.mod c).haltAt with
  | none => true
  | some (t, cores) => cores.contains g || decide (t + 200 ≤ s.clk.now)

/-- Context c is halted on core g: by the watchdog at once (R50), by a fault once its halt has reached the core (R88). -/
def State.haltedOn (s : State) (g c : Nat) : Bool :=
  s.fb F.FRM_WDOG_HALT_HALTED c || (s.fb F.CORE_CTX_HALT_HALTED c && s.haltReached g c)

/-- The context runs on the core: it is loaded there, has become running (R93), and no halt has reached the core. -/
def State.running (s : State) (g c : Nat) : Bool := decide ((s.ctx g c).phase = .running) && !s.haltedOn g c

/-- The contexts on core g that are not empty. -/
def State.occupied (s : State) (g c : Nat) : Bool := decide ((s.ctx g c).phase ≠ .empty)

/-- A tick occurs in this cycle: the time at which the effects of Table FRM-1 take place (R37). -/
def State.atTick (s : State) : Bool := s.clk.running && s.clk.now == s.clk.tickTime

/-! ### Free values -/

/-- The state that has used n free values. -/
def State.useFree (s : State) (n : Nat) : State := { s with freeCtr := s.freeCtr + n }

/-- The next free word, and the state that has used it. -/
def State.free (s : State) : Word × State := (Config.freeWord s.freeCtr, s.useFree 1)

/-! ### Memory with poison marks (R368) -/

/-- Some granule of n bytes from a key is poisoned. -/
def State.poisoned (s : State) (key n : Nat) : Bool :=
  s.poison.any (fun q => decide (q * 64 < key + n) && decide (key < q * 64 + 64))

/-- A granule put into the poison list, which stays in rising order. -/
def poisonInsert (q : Nat) : List Nat → List Nat
  | [] => [q]
  | p :: ps => if q < p then q :: p :: ps else if q = p then p :: ps else p :: poisonInsert q ps

/-- n bytes of memory from a key. -/
def State.read (s : State) (key n : Nat) : List Byte := s.mem.read key n

/-- Bytes stored from a key; a granule written whole loses its poison mark (R368). -/
def State.write (s : State) (key : Nat) (bs : List Byte) : State :=
  { s with
    mem := s.mem.write key bs
    poison := s.poison.filter (fun q => !(decide (key ≤ q * 64) && decide (q * 64 + 64 ≤ key + bs.length))) }

/-- The granules that n bytes from a key touch marked poisoned. -/
def State.poisonAt (s : State) (key n : Nat) : State :=
  { s with poison := iter (if n = 0 then 0 else (key + n - 1) / 64 - key / 64 + 1) (fun i ps => poisonInsert (key / 64 + i) ps) s.poison }

/-- A little-endian number of n bytes from a key (R11). -/
def State.readN (s : State) (key n : Nat) : Nat := ofLE (s.read key n)

/-- A little-endian number of n bytes stored from a key. -/
def State.writeN (s : State) (key n v : Nat) : State := s.write key (toLE n v)

/-! ### Faults (R88) -/

/-- Context c halted by core g (R88). Where it is halted already, the core recorded first stays (R96), unless core g has the
lower number and faults in the same cycle: which faults of one unit of the time base share a cycle is a free choice (log
entry 71). -/
def State.haltBy (s : State) (g c : Nat) : State :=
  let m := s.mod c
  if s.fb F.CORE_CTX_HALT_HALTED c then
    match m.haltAt with
    | none => s
    | some (t, cores) =>
      let first := decide (t = s.clk.now ∧ g < s.f F.CORE_CTX_HALT_CORE c) && Config.freeBool s.freeCtr
      let s := (s.setMod c { m with haltAt := some (t, g :: cores) }).useFree 1
      if first then s.setF F.CORE_CTX_HALT_CORE g c else s
  else
    ((s.setF F.CORE_CTX_HALT_HALTED 1 c).setF F.CORE_CTX_HALT_CORE g c).setMod c { m with haltAt := some (s.clk.now, [g]) }

/-- A fault of context c on core g: the halt, the records and the events. strand, block and index are those of the
instruction at fault; where no instruction is at fault, or the fault has no address, the spec states no value there and
the record takes a free value (log entry 2). -/
def State.raiseAt (s : State) (g c code : Nat) (who : Option (Nat × Nat × Nat)) (addr : Option Nat) : State :=
  let (fw, s) := s.free
  let w := who.getD (bits fw 0 3, bits fw 3 9, bits fw 12 12)
  let s := s.setF F.CORE_FAULT_CODE code g c
  let s := s.setF F.CORE_FAULT_STRAND w.1 g c
  let s := s.setF F.CORE_FAULT_BLOCK w.2.1 g c
  let s := s.setF F.CORE_FAULT_INDEX w.2.2 g c
  let (fa, s) := s.free
  let s := s.setF F.CORE_FAULT_ADDR_ADDR (addr.getD fa.toNat) g c
  let s := s.event F.CORE_EVENT_FAULT 0 g c
  (s.haltBy g c).event F.CORE_FAULT_EVENT_FAULT c

/-- A fault of the instruction at strand k's pc: the strand keeps the faulting block until RESUME abandons it (R89). -/
def State.raise (s : State) (g c k code : Nat) (addr : Option Nat := none) : State :=
  let t := s.strand g c k
  (s.raiseAt g c code (some (k, t.block, t.pc)) addr).setStrand g c k { t with faulted := true }

/-- A fault of an engine or memory operation that dispatch fid of strand k issued from instruction (block, index). -/
def State.raiseOp (s : State) (g c k fid block index code : Nat) (addr : Option Nat := none) : State :=
  let s := s.raiseAt g c code (some (k, block, index)) addr
  let t := s.strand g c k
  if t.exec && t.fid == fid then s.setStrand g c k { t with faulted := true } else s

/-- Progress of context c on core g: its stall watch time restarts (R52). -/
def State.progress (s : State) (g c : Nat) : State :=
  { s with watch := SMap.set (fun k => 4 * k.1 + k.2) 0 s.watch (g, c) 0
           stalled := s.stalled.filter (fun e => e ≠ (g, c)) }

/-! ### Tokens (R65) -/

/-- Counter Tt of context c on core g raised by n, which is progress (R52): nothing where the context is empty there; past
4,095 it stays at 4,095 and raises the token-overflow fault (R65). -/
def State.token (s : State) (g c t n : Nat) : State :=
  if !s.occupied g c then s
  else if s.f F.CORE_TOKEN_COUNT g c t + n > 4095 then (s.setF F.CORE_TOKEN_COUNT 4095 g c t).raiseAt g c 0x07 none none
  else (s.setF F.CORE_TOKEN_COUNT (s.f F.CORE_TOKEN_COUNT g c t + n) g c t).progress g c

end Sys2Proof.Machine
end

