-- ==== Sys2Proof/Machine/Addr.lean ====
section
/-! DEFINITION. Global addresses (R182 to R187), the HBM interleave (R190, R191), the placement table and the direct
windows (R194 to R198, R204). -/

namespace Sys2Proof.Machine

/-! ### The HBM interleave -/

/-- Pseudo-channel and bank group of HBM local address a (R190, `hbm_map`). -/
def hbmBank (a : Nat) : Nat × Nat :=
  let g := a / 256
  let q := g / 384
  ((g % 384 + q % 384) % 384, (q % 4) ^^^ (q / 4096 % 4))

/-- Bank, row and byte within the row of HBM local address a (R190, `hbm_map`). -/
def hbmRow (a : Nat) : Nat × Nat × Nat :=
  let q := a / 256 / 384
  ((q / 4 % 4) ^^^ (q / 16384 % 4), q / 64, q / 16 % 4 * 256 + a % 256)

/-! ### Scratchpad windows (R187) -/

/-- Offset o lies in the scratchpad window of context c. -/
def State.inWin (s : State) (c o : Nat) : Bool :=
  let b := s.f F.PLC_WIN_BASE c * 65536
  decide (b ≤ o) && decide (o < b + s.f F.PLC_WIN_SIZE c * 65536)

/-- The check of R187 for an offset: 0x06 in the window of another context, 0x05 in no window. -/
def State.winCheck (s : State) (c o : Nat) : Except Nat Unit :=
  if (List.range 4).any (fun d => decide (d ≠ c) && s.inWin d o) then .error 0x06
  else if s.inWin c o then .ok () else .error 0x05

/-! ### Placement (R195 to R198) -/

/-- The valid placement entries of context c, by number. -/
def State.entries (s : State) (c : Nat) : List Nat :=
  ((s.listed .PLC_ENT_CTL).filter (fun r => decide (r.i = c) && s.fb F.PLC_ENT_CTL_VALID c r.j)).map (·.j)

/-- Number of borrow entries a foothill entry stripes over. -/
def State.entSpan (s : State) (c e : Nat) : Nat :=
  if s.fb F.PLC_ENT_CTL_SPREAD c e then s.f F.PLC_ENT_CTL_B_COUNT_M1 c e + 1 else 1

/-- The borrow entry carries traffic: active or revoking (R206). -/
def State.borrowLive (s : State) (b : Nat) : Bool := decide (2 ≤ s.f F.PLC_BOR_CTL_STATE b)

/-- Host bus address of offset o of port p's window (R204). -/
def State.hostLoc (s : State) (p o : Nat) : Loc := .host p (s.f F.PLC_HOST_BASE_BASE p * 65536 + o)

/-- The translation of `place` by entry e of context c (R197). -/
def State.placeBy (s : State) (c e a : Nat) : Except Nat Loc :=
  let o := (a - s.f F.PLC_ENT_BASE_OBJ_BASE c e + s.f F.PLC_ENT_TARGET_TARGET c e) % 2 ^ 44
  let k := o / 65536
  let b := o % 65536
  match s.f F.PLC_ENT_CTL_TIER c e with
  | 0 => if o < hbmSize then .ok (.mem (hbmKey o)) else .error 0x05
  | 1 =>
    let n := s.entSpan c e
    let be := s.f F.PLC_ENT_CTL_B_FIRST c e + k % n
    let off := k / n * 65536 + b
    if s.borrowLive be && decide (off < s.f F.PLC_BOR_SIZE_SIZE be) then
      .ok (.remote (s.f F.PLC_BOR_CTL_LENDER be) (s.f F.PLC_BOR_BASE_REMOTE_BASE be + off))
    else .error 0x05
  | 2 =>
    let spread := s.fb F.PLC_ENT_CTL_SPREAD c e
    let p := if spread then k % 2 else s.f F.PLC_ENT_CTL_PORT c e
    let kk := if spread then k / 2 else k
    .ok (s.hostLoc p (kk * 65536 + b))
  | _ => .error 0x05

/-- `place` of R197: an address of the object window through the context's placement table. -/
def State.place (s : State) (c a : Nat) (write : Bool) : Except Nat Loc :=
  match (s.entries c).find? (fun e => decide (s.f F.PLC_ENT_BASE_OBJ_BASE c e ≤ a) &&
      decide (a < s.f F.PLC_ENT_BASE_OBJ_BASE c e + s.f F.PLC_ENT_SIZE_SIZE c e)) with
  | none => .error 0x05
  | some e => if write && s.fb F.PLC_ENT_CTL_RO c e then .error 0x06 else s.placeBy c e a

/-- The entries of context c that cover HBM local address a (R198). -/
def State.hbmCover (s : State) (c a : Nat) : List Nat :=
  (s.entries c).filter (fun e => decide (s.f F.PLC_ENT_CTL_TIER c e = 0) &&
    decide (s.f F.PLC_ENT_TARGET_TARGET c e ≤ a) &&
    decide (a < s.f F.PLC_ENT_TARGET_TARGET c e + s.f F.PLC_ENT_SIZE_SIZE c e))

/-- The entries of context c that cover offset o of port p's direct window (R198). -/
def State.hostCover (s : State) (c p o : Nat) : List Nat :=
  (s.entries c).filter (fun e => decide (s.f F.PLC_ENT_CTL_TIER c e = 2) && !s.fb F.PLC_ENT_CTL_SPREAD c e &&
    decide (s.f F.PLC_ENT_CTL_PORT c e = p) && decide (s.f F.PLC_ENT_TARGET_TARGET c e ≤ o) &&
    decide (o < s.f F.PLC_ENT_TARGET_TARGET c e + s.f F.PLC_ENT_SIZE_SIZE c e))

/-- The entries of context c that name a live borrow entry of the node covering local address a (R184). -/
def State.remoteCover (s : State) (c n a : Nat) : List Nat :=
  (s.entries c).filter (fun e => decide (s.f F.PLC_ENT_CTL_TIER c e = 1) &&
    (List.range (s.entSpan c e)).any (fun i =>
      let b := s.f F.PLC_ENT_CTL_B_FIRST c e + i
      s.borrowLive b && decide (s.f F.PLC_BOR_CTL_LENDER b = n) && decide (s.f F.PLC_BOR_BASE_REMOTE_BASE b ≤ a) &&
        decide (a < s.f F.PLC_BOR_BASE_REMOTE_BASE b + s.f F.PLC_BOR_SIZE_SIZE b)))

/-- The check of R198 over the covering entries of each context: a write needs one entry with RO = 0; an address only
another context covers is a violation, any other uncovered address is unmapped. -/
def State.coverCheck (s : State) (c : Nat) (write : Bool) (cover : Nat → List Nat) (loc : Loc) : Except Nat Loc :=
  if (cover c).isEmpty then
    if (List.range 4).any (fun d => decide (d ≠ c) && !(cover d).isEmpty) then .error 0x06 else .error 0x05
  else if write && (cover c).all (fun e => s.fb F.PLC_ENT_CTL_RO c e) then .error 0x06
  else .ok loc

/-! ### The access -/

/-- Who accesses: a scalar access, a spur operation or message, or a DMA transfer (R184). -/
inductive AccKind where | scalar | spur | dma
  deriving DecidableEq, Repr

/-- The key of byte o of the node table entry of node n (Table NET-2). -/
def State.nodeKey (s : State) (n o : Nat) : Nat := hbmKey (s.f F.NET_NODE_TBL_BASE + 32 * n + o)

/-- Node n has a VALID entry in the node table in force (R319, R320). -/
def State.nodeKnown (s : State) (n : Nat) : Bool :=
  decide (n < s.f F.NET_NODE_CNT_COUNT) && bitN (s.readN (s.nodeKey n 0x18) 1) 0

/-- The local windows of Table TIER-2, for an access by context c on core g. -/
def State.xlateLocal (s : State) (g c a : Nat) (write : Bool) : Except Nat Loc :=
  if a < hbmSize then s.coverCheck c write (fun d => s.hbmCover d a) (.mem (hbmKey a))
  else if a < 0x80000000000 then .error 0x05
  else if a < 0xA0000000000 then
    let p := if a < 0x90000000000 then 0 else 1
    let o := a % 2 ^ 40
    s.coverCheck c write (fun d => s.hostCover d p o) (s.hostLoc p o)
  else if a < 0xC0000000000 then .error 0x05
  else if a < 0xE0000000000 then s.place c a write
  else if a < 0xF0000000000 then .error 0x05
  else if a < 0xF0040000000 then
    let h := (a - 0xF0000000000) / 0x400000
    let o := (a - 0xF0000000000) % 0x400000
    if spadSize ≤ o ∨ s.coreOk h = false then .error 0x05
    else match s.winCheck c o with
      | .error e => .error e
      | .ok _ => .ok (.mem (spadKey h o))
  else if 0xF8000000000 ≤ a ∧ a < 0xF8000000000 + spadSize then
    let o := a - 0xF8000000000
    match s.winCheck c o with
    | .error e => .error e
    | .ok _ => .ok (.mem (spadKey g o))
  else .error 0x05

/-- The remote ranges of R184; a node the table does not know is unmapped (R320). -/
def State.xlateRemote (s : State) (c n a : Nat) (write : Bool) (kind : AccKind) : Except Nat Loc :=
  if !s.nodeKnown n then .error 0x05
  else if a < hbmSize then
    let cover := s.remoteCover c n a
    if cover.isEmpty then .error 0x05
    else if write && cover.all (fun e => s.fb F.PLC_ENT_CTL_RO c e) then .error 0x06
    else .ok (.remote n a)
  else if 0xF0000000000 ≤ a ∧ a < 0xF0040000000 ∧ kind ≠ .scalar ∧ (a - 0xF0000000000) % 0x400000 < spadSize then
    .ok (.remote n a)
  else .error 0x05

/-- The translation of a 64-bit global address (R182), for an access that lies in one 64 KiB stripe. -/
def State.xlate (s : State) (g c addr : Nat) (write : Bool) (kind : AccKind) : Except Nat Loc :=
  if addr / 2 ^ 44 = s.f F.NET_NODE_ID_ID then s.xlateLocal g c (addr % 2 ^ 44) write
  else s.xlateRemote c (addr / 2 ^ 44) (addr % 2 ^ 44) write kind

/-- A part of a divided access: where it leads, its address and its bytes (R197). -/
structure Part where
  loc : Loc
  addr : Nat
  len : Nat
  deriving DecidableEq, Repr

/-- The translation of an access of len bytes, divided at the 64 KiB stripe boundaries, each part translated by its own
entry; the first failing part fails the access (R197). Every base and size in use is a multiple of 64 KiB. -/
def State.xlateParts (s : State) (g c : Nat) (write : Bool) (kind : AccKind) : Nat → Nat → Nat → Except Nat (List Part)
  | 0, _, _ => .ok []
  | fuel + 1, addr, len =>
    if len = 0 then .ok [] else
    let n := min len (65536 - addr % 65536)
    match s.xlate g c addr write kind with
    | .error e => .error e
    | .ok l =>
      match s.xlateParts g c write kind fuel (addr + n) (len - n) with
      | .error e => .error e
      | .ok ps => .ok ({ loc := l, addr := addr, len := n } :: ps)

/-- The quota target of a location (R75, R191). -/
def targetOf : Loc → Target
  | .mem k => if k < 2 ^ 44 then .bank (hbmBank k).1 (hbmBank k).2 else .core ((k - 2 ^ 44) / 2 ^ 22)
  | .host p _ => .port p
  | .remote n _ => .node n

/-- The quota of a target (R75). -/
def quotaOf : Target → Nat
  | .bank _ _ => 8
  | .core _ => 8
  | .node _ => 24
  | .port _ => 24

/-- The location i bytes on. -/
def Loc.plus : Loc → Nat → Loc
  | .mem k, i => .mem (k + i)
  | .host p a, i => .host p (a + i)
  | .remote n a, i => .remote n (a + i)

/-- The key of a location of this module or of a host; none for a remote one. -/
def Loc.key : Loc → Option Nat
  | .mem k => some k
  | .host p a => some (hostKey p a)
  | .remote _ _ => none

/-- The location is core g's own scratchpad (R186). -/
def ownSpad (g : Nat) : Loc → Bool
  | .mem k => decide (spadKey g 0 ≤ k) && decide (k < spadKey g spadSize)
  | _ => false

end Sys2Proof.Machine
end

