-- ==== Sys2Proof/Machine/Noine.lean ====
section
/-! DEFINITION. Noine: packets, paths, flows and what is queued on them (R315, R318, R316 to R318, R322 to R325, R329, R330). -/

namespace Sys2Proof.Machine

/-! ### Packets -/

/-- Bytes 0x00 to 0x2B of the header (Table NET-3). -/
def packetHeader (p : Packet) : List Byte :=
  toLE 1 (p.type % 16 + 16 * (p.version % 16)) ++
  toLE 1 (p.first.toNat + 2 * p.last.toNat + 4 * p.retx.toNat + 8 * p.poison.toNat + 16 * p.ceEcho.toNat +
    32 * p.tok.toNat + 64 * (p.ctx % 4)) ++
  toLE 2 p.payload.length ++ toLE 4 (p.srcNode % 2 ^ 20 + p.srcCore % 256 * 2 ^ 20) ++
  toLE 4 (p.dstNode % 2 ^ 20 + p.dstCore % 256 * 2 ^ 20) ++ toLE 2 p.flow ++ toLE 2 p.epoch ++ toLE 4 p.psn ++
  toLE 4 p.limit ++ toLE 8 p.addr ++ toLE 8 p.aux ++ toLE 4 p.tag

/-- One bit of CRC-32C, reflected. -/
def crc32cBit (c : BitVec 32) : BitVec 32 := if c.getLsbD 0 then (c >>> 1) ^^^ 0x82F63B78#32 else c >>> 1

/-- One byte into CRC-32C. -/
def crc32cByte (c : BitVec 32) (b : Byte) : BitVec 32 :=
  crc32cBit (crc32cBit (crc32cBit (crc32cBit (crc32cBit (crc32cBit (crc32cBit (crc32cBit (c ^^^ b.setWidth 32))))))))

/-- CRC-32C of a byte string. -/
def crc32c (bs : List Byte) : Nat := (~~~ (bs.foldl crc32cByte (BitVec.allOnes 32))).toNat

/-- The PCRC of a packet. -/
def packetCrc (p : Packet) : Nat := crc32c (packetHeader p ++ p.payload)

/-- Packet types (Table NET-5). -/
def tWrite : Nat := 0
def tReadReq : Nat := 1
def tReadResp : Nat := 2
def tAtomicReq : Nat := 3
def tAtomicResp : Nat := 4
def tMsg : Nat := 5
def tTrv : Nat := 6
def tCtrl : Nat := 7
def tAck : Nat := 8
def tNak : Nat := 9

/-! ### Addresses and paths -/

/-- The module's own logical node. -/
def State.node (s : State) : Nat := s.f F.NET_NODE_ID_ID

/-- NET_ADDR. -/
def State.netAddr (s : State) : Nat := s.f F.NET_ADDR_HI_ADDR + 2 ^ 64 * s.f F.NET_ADDR_LO_ADDR

/-- ADDR of node n's table entry (Table NET-2). -/
def State.nodeAddr (s : State) (n : Nat) : Nat := s.readN (s.nodeKey n 0) 16

/-- The group address of an MGROUP: the prefix, then the group in network byte order (R332). -/
def State.groupAddr (s : State) (m : Nat) : Nat :=
  s.f F.NET_MCAST_HI_PREFIX + 2 ^ 64 * s.f F.NET_MCAST_LO_PREFIX + 2 ^ 112 * (m / 256 % 256 + 256 * (m % 256))

/-- `path_hash` (R324). -/
def pathHash (src dst flow : Nat) : Nat :=
  (mix64 (BitVec.ofNat 64 (dst * 2 ^ 32 + src) ^^^ BitVec.ofNat 64 (flow * 2 ^ 16))).toNat

/-- h of a packet, of its header words SRC and DST. -/
def packetHash (p : Packet) : Nat :=
  pathHash (p.srcNode % 2 ^ 20 + p.srcCore % 256 * 2 ^ 20) (p.dstNode % 2 ^ 20 + p.dstCore % 256 * 2 ^ 20) p.flow

/-- Link l is up. -/
def State.linkUp (s : State) (l : Nat) : Bool := s.f F.NET_LINK_STATUS_STATE l == 2

/-- The links that are up of a mask. -/
def State.upLinks (s : State) (mask : Nat) : List Nat := (List.range 64).filter (fun l => bitN mask l && s.linkUp l)

/-- The link of a packet to the node of its header (R324); none while no link of the entry is up. -/
def State.linkOf (s : State) (p : Packet) : Option Nat :=
  let ls := s.upLinks (s.readN (s.nodeKey p.dstNode 0x10) 8)
  ls[packetHash p / 2 ^ 32 % ls.length]?

/-- The payload limit of NET_MTU (R316): 0 1,024 B, 1 2,048 B, 2 4,096 B. -/
def payloadCode (mtu : Nat) : Nat := if 4096 + 96 ≤ mtu then 2 else if 2048 + 96 ≤ mtu then 1 else 0

/-- PAYLOAD in bytes. -/
def State.payloadMax (s : State) : Nat := 1024 * 2 ^ payloadCode (s.f F.NET_MTU_MTU)

/-- A byte string cut into pieces of at most n bytes. -/
def chunksOf (n : Nat) : Nat → List Byte → List (List Byte)
  | 0, _ => []
  | fuel + 1, bs => if bs.isEmpty then [] else bs.take n :: chunksOf n fuel (bs.drop n)

/-! ### Frames that leave (R315, R317) -/

/-- A packet of this module with its checksums and the fields of the outer layers; every frame is ECT(0) (R317). -/
def State.seal (s : State) (p : Packet) : Packet :=
  { p with
    pcrc := packetCrc p
    wire :=
      { vlan := if s.fb F.NET_QOS_VLAN_EN then some (s.f F.NET_QOS_VLAN, s.f F.NET_QOS_PCP) else none
        tclass := 4 * (if p.type = tCtrl then s.f F.NET_QOS_CTRL_DSCP else s.f F.NET_QOS_DSCP) + 2
        label := packetHash p % 2 ^ 20
        srcPort := 0xC000 + packetHash p % 2 ^ 14
        dstPort := s.f F.NET_UDP_PORT } }

/-- A packet leaves on link l with the Ethernet addresses of the link; its bytes are counted. -/
def State.sendOn (s : State) (l : Nat) (p : Packet) : State :=
  let s := s.addF F.NET_LINK_TX_BYTES (96 + p.payload.length) l
  let wire := { p.wire with dstMac := s.f F.NET_LINK_PEER_MAC l, srcMac := s.f F.NET_MAC_BASE_MAC + l }
  { s with out := .packet l { p with link := l, wire := wire } :: s.out }

/-- The port of link l is held by a pause for priority PCP (R317). -/
def State.portHeld (s : State) (l : Nat) : Bool := s.paused.contains (l / 4) && s.fb F.NET_PORT_CFG_PFC_EN (l / 4)

/-- The link on which a sealed packet may leave now: the one given, or that of its path. -/
def State.way (s : State) (l : Option Nat) (p : Packet) : Option Nat :=
  (match l with
    | some l => if s.linkUp l then some l else none
    | none => s.linkOf p).filter (fun l => !s.portHeld l)

/-- A sealed packet leaves, or waits for a link or for the end of a pause; a resend of one that waits waits with it. -/
def State.send (s : State) (l : Option Nat) (p : Packet) : State :=
  match s.way l p with
  | some l => s.sendOn l p
  | none =>
    if s.netWait.any (fun w => decide (w.1 = l ∧ { w.2 with retx := p.retx } = p)) then s
    else { s with netWait := s.netWait ++ [(l, p)] }

/-- The packets that wait are offered again, relayed frames ahead of the module's own (R321). -/
def State.netFlush (s : State) : State :=
  let own (w : Option Nat × Packet) : Bool := w.2.srcIp == s.netAddr
  (s.netWait.filter (fun w => !own w) ++ s.netWait.filter own).foldl (fun s w => s.send w.1 w.2) { s with netWait := [] }

/-- A packet of this module leaves on its path. -/
def State.emit (s : State) (p : Packet) : State := s.send none (s.seal p)

/-- A packet from the module to a node, with the addresses filled in. -/
def State.outPacket (s : State) (p : Packet) : Packet :=
  { p with srcIp := s.netAddr, dstIp := s.nodeAddr p.dstNode, srcNode := s.node, hop := s.f F.NET_QOS_HOP }

/-! ### Flow tables -/

def State.sflow (s : State) (f : Nat) : Option SFlow := SMap.get none s.sflows f

def State.setSFlow (s : State) (f : Nat) (x : Option SFlow) : State := { s with sflows := SMap.set id none s.sflows f x }

/-- The epoch with which index f opens next. -/
def State.epochOf (s : State) (f : Nat) : Nat := SMap.get 0 s.epochs f

/-- The open send flows: index and flow. -/
def State.openFlows (s : State) : List (Nat × SFlow) := s.sflows.filterMap (fun e => e.2.map (fun x => (e.1, x)))

/-- The open flow of a key. -/
def State.flowOf (s : State) (k : FlowKey) : Option Nat := ((s.openFlows).find? (fun e => e.2.key = k)).map (·.1)

/-- The lowest free index. -/
def State.freeFlow (s : State) : Option Nat := firstFrom (fun f => (s.sflow f).isNone) 8192 0

def State.rflow (s : State) (node flow : Nat) : Option RFlow := s.rflows.find? (fun r => decide (r.node = node ∧ r.flow = flow))

/-- A receive flow put in place of the one of its name, or added. -/
def State.setRFlow (s : State) (r : RFlow) : State :=
  if (s.rflow r.node r.flow).isSome then
    { s with rflows := s.rflows.map (fun q => if q.node = r.node ∧ q.flow = r.flow then r else q) }
  else { s with rflows := s.rflows ++ [r] }

/-- The two ends of a direction as a flow opens (R330). -/
def State.newTx (s : State) : Tx := { limit := s.f F.NET_WINDOW_CREDIT_INIT, w := (s.f F.NET_WINDOW_WIN_INIT : Nat) }

def State.newRx (s : State) : Rx := { limit := s.f F.NET_WINDOW_CREDIT_INIT }

/-! ### The reorder buffers (R317, R326) -/

/-- Bytes of the packets that a die's reorder buffer holds; a packet counts its header and payload. -/
def State.reorder (s : State) (die : Nat) : Nat :=
  let sum (x : Rx) : Nat := (x.held.filter (fun p => p.link / 32 = die)).foldl (fun a p => a + 48 + p.payload.length) 0
  s.rflows.foldl (fun a r => a + sum r.rx) 0 + s.openFlows.foldl (fun a e => a + sum e.2.rx) 0

/-- Pause sent on port p as its die's buffer fills, and released as it empties; with PFC_EN clear none is sent. -/
def State.pfcPort (s : State) (p : Nat) : State :=
  let n := s.reorder (p / 8)
  let on := s.pausing.contains p
  let rest := s.pausing.filter (· ≠ p)
  if !s.fb F.NET_PORT_CFG_PFC_EN p then { s with pausing := rest }
  else if 3 * 2 ^ 20 < n ∧ on = false then { s with pausing := s.pausing ++ [p], out := .pfc p true :: s.out }
  else if n < 2 * 2 ^ 20 ∧ on = true then { s with pausing := rest, out := .pfc p false :: s.out }
  else s

/-- Every port. -/
def State.pfcAll (s : State) : State := iter 16 (fun p (s : State) => s.pfcPort p) s

/-! ### Opening, closing and queueing (R322, R329) -/

/-- A control packet of a subtype (Table NET-7). -/
def ctrlPacket (node subtype aux : Nat) (payload : List Byte) : Packet :=
  { type := tCtrl, dstNode := node, addr := subtype, aux := aux, payload := payload }

/-- A new flow of a key on an index (R330). -/
def State.newFlow (s : State) (f : Nat) (k : FlowKey) : State :=
  s.setSFlow f (some { key := k, epoch := s.epochOf f, tx := s.newTx, rx := s.newRx, used := s.clk.frame })

/-- Packets queued on a flow; a control flow that was to close stays open. -/
def State.flowPush (s : State) (f : Nat) (ps : List TxPkt) : State :=
  match s.sflow f with
  | none => s
  | some x => s.setSFlow f (some { x with tx := { x.tx with queue := x.tx.queue ++ ps }, used := s.clk.frame, closing := false })

/-- The packets of the oldest key that waits for an index take index f, which is free. -/
def State.flowFill (s : State) (f : Nat) : State :=
  match s.flowWait with
  | [] => s
  | (k, _) :: _ =>
    let mine := (s.flowWait.filter (fun e => e.1 = k)).flatMap (·.2)
    (({ s with flowWait := s.flowWait.filter (fun e => e.1 ≠ k) } : State).newFlow f k).flowPush f mine

/-- An index is freed: its next epoch is kept, and what waits for an index takes it. -/
def State.flowDrop (s : State) (f : Nat) : State :=
  match s.sflow f with
  | none => s
  | some x => (({ s.setSFlow f none with epochs := SMap.set id 0 s.epochs f ((x.epoch + 1) % 65536) } : State).flowFill f).pfcAll

/-- Nothing is queued or outstanding on a flow. -/
def SFlow.quiet (x : SFlow) : Bool := x.tx.queue.isEmpty && x.tx.unacked.isEmpty && x.reads.isEmpty

/-- A quiet flow is closed by FLOW_CLOSE on the control flow to its node, and its index freed (R329, R331). A control flow,
and a flow whose index the control flow must take because no other is free, sends it as its own last packet and is freed
when that is acknowledged. -/
def State.closeFlow (s : State) (f : Nat) : State :=
  match s.sflow f with
  | none => s
  | some x =>
    let ctl : FlowKey := { cls := .control, node := x.key.node }
    let bye : TxPkt := { pkt := s.outPacket (ctrlPacket x.key.node 7 0 (toLE 8 f)), born := s.clk.now }
    if x.key = ctl then
      if x.closing then s else s.setSFlow f (some { x with tx := { x.tx with queue := x.tx.queue ++ [bye] }, closing := true })
    else match s.flowOf ctl with
      | some k => (s.flowPush k [bye]).flowDrop f
      | none => match s.freeFlow with
        | some k => ((s.newFlow k ctl).flowPush k [bye]).flowDrop f
        | none => s.setSFlow f (some { key := ctl, epoch := (x.epoch + 1) % 65536, tx := { s.newTx with queue := [bye] },
                                       rx := s.newRx, used := s.clk.frame, closing := true })

/-- The longest-idle quiet flow. -/
def State.idlest (s : State) : Option Nat :=
  (s.openFlows.filter (fun e => e.2.quiet)).foldl (fun b e =>
    if b.all (fun g => decide (e.2.used < (s.sflow g).elim 0 (·.used))) then some e.1 else b) none

/-- Packets with their operations queued on the flow of a key, which opens where it is not open; with no index free they
wait and the longest-idle flow is closed first (R322, R329). -/
def State.flowSend (s : State) (k : FlowKey) (ps : List TxPkt) : State :=
  let ps := ps.map (fun t => { t with
    pkt :=
      let p := s.outPacket { t.pkt with dstNode := k.node }
      if k.cls = .control then p else { p with srcCore := k.core, dstCore := k.dst }
    born := s.clk.now })
  match s.flowOf k with
  | some f => s.flowPush f ps
  | none => match s.freeFlow with
    | some f => (s.newFlow f k).flowPush f ps
    | none =>
      let s := { s with flowWait := s.flowWait ++ [(k, ps)] }
      match s.idlest with
      | some f => s.closeFlow f
      | none => s

/-- A control packet on the control flow to a node (R331). -/
def State.ctrlSend (s : State) (node subtype aux : Nat) (payload : List Byte) : State :=
  s.flowSend { cls := .control, node := node } [{ pkt := ctrlPacket node subtype aux payload }]

/-- The next request tag. -/
def State.nextTag (s : State) : Nat × State := (s.tag, { s with tag := (s.tag + 1) % 2 ^ 32 })

end Sys2Proof.Machine
end

