-- ==== Sys2Proof/Machine/Kv.lean ====
section
/-! DEFINITION. Page pools: count words, free rings, allocation words and their ticks (R242 to R252). -/

namespace Sys2Proof.Machine

def State.seg (s : State) (p i : Nat) : Seg := SMap.get {} s.segs (p, i)

def State.setSeg (s : State) (p i : Nat) (x : Seg) : State :=
  { s with segs := SMap.set (fun k => 8 * k.1 + k.2) {} s.segs (p, i) x }

/-- Pool p is enabled. -/
def State.poolOn (s : State) (p : Nat) : Bool := s.fb F.KV_POOL_CFG_ENABLE p

/-- Segment i of pool p is valid. -/
def State.segOk (s : State) (p i : Nat) : Bool := s.fb F.KV_SEG_CTL_VALID p i

def State.segPages (s : State) (p i : Nat) : Nat := s.f F.KV_SEG_CTL_PAGES p i

/-- The key of the count word of page index n. -/
def State.countKey (s : State) (p i n : Nat) : Nat := hbmKey (s.f F.KV_SEG_CNT_ADDR p i + 8 * n)

/-- The key of ring entry n. -/
def State.ringKey (s : State) (p i n : Nat) : Nat := hbmKey (s.f F.KV_SEG_RING_ADDR p i + 4 * n)

/-- The key of allocation word i of pool p. -/
def State.allocKey (s : State) (p i : Nat) : Nat := hbmKey (s.f F.KV_POOL_CB_ADDR p + 8 * i)

/-- Pool and segment of every valid segment. -/
def State.validSegs (s : State) : List (Nat × Nat) :=
  (List.range 16).flatMap (fun p => ((List.range 8).filter (s.segOk p)).map (fun i => (p, i)))

/-- The protected ranges of R247: count arrays and rings of valid segments, control blocks of enabled pools. -/
def State.kvRanges (s : State) : List (Nat × Nat) :=
  s.validSegs.flatMap (fun e => [(s.countKey e.1 e.2 0, 8 * s.segPages e.1 e.2), (s.ringKey e.1 e.2 0, 4 * s.segPages e.1 e.2)]) ++
  ((List.range 16).filter s.poolOn).map (fun p => (s.allocKey p 0, 64))

/-- n bytes from a key touch a protected range. -/
def State.kvProtected (s : State) (key n : Nat) : Bool :=
  s.kvRanges.any (fun r => decide (key < r.1 + r.2) && decide (r.1 < key + n))

/-- The count word at a key: pool, segment, page index. -/
def State.countWordAt (s : State) (key : Nat) : Option (Nat × Nat × Nat) :=
  (s.validSegs.find? (fun e => decide (s.countKey e.1 e.2 0 ≤ key) &&
    decide (key < s.countKey e.1 e.2 0 + 8 * s.segPages e.1 e.2))).map
    (fun e => (e.1, e.2, (key - s.countKey e.1 e.2 0) / 8))

/-- The allocation word at a key: pool and segment. -/
def State.allocWordAt (s : State) (key : Nat) : Option (Nat × Nat) :=
  ((List.range 16).find? (fun p => s.poolOn p && decide (s.allocKey p 0 ≤ key) && decide (key < s.allocKey p 0 + 64))).map
    (fun p => (p, (key - s.allocKey p 0) / 8))

/-- The allocation words of an enabled pool read as FREE of their segments, valid or not (R248). -/
def State.freeWords (s : State) (p : Nat) : State :=
  if s.poolOn p then iter 8 (fun i s => s.writeN (s.allocKey p i) 8 (s.f F.KV_SEG_STATUS_FREE p i)) s else s

/-- FREE of a segment, which its allocation word reads as (R248). -/
def State.setFree (s : State) (p i n : Nat) : State :=
  let s := s.setF F.KV_SEG_STATUS_FREE n p i
  if s.poolOn p then s.writeN (s.allocKey p i) 8 n else s

/-- The page number of index n of segment i (R243). -/
def pageNumber (i n : Nat) : Nat := i * 2 ^ 29 + n

/-- An add on a count word by core g (R246): the old count, and the state after the add or its refusal. -/
def State.countAdd (s : State) (g p i n : Nat) (d : Word) : Word × State :=
  let key := s.countKey p i n
  let c := s.readN key 8
  let z : Int := (c : Int) + d.toInt
  let kind := if c = 0 ∧ d ≠ 0 then 1 else if z < 0 then 2 else if 0xFFFFFFFF < z then 3 else 0
  if kind ≠ 0 then
    let s := s.setReg ⟨.KV_CNT_ERR, 0, 0, 0⟩
      (BitVec.ofNat 64 (pageNumber i n + p * 2 ^ 32 + g * 2 ^ 40 + kind * 2 ^ 48))
    (BitVec.ofNat 64 c, (s.addF F.KV_CNT_ERRS_COUNT 1).event F.KV_EVENT_CNT_ERR)
  else
    let s := s.writeN key 8 z.toNat
    let s := if 0 < c ∧ z = 0 then
        (s.setSeg p i { s.seg p i with pend := (s.seg p i).pend ++ [n] }).addF F.KV_SEG_STATUS_PENDING 1 p i
      else s
    (BitVec.ofNat 64 c, s)

/-- A page taken from a segment with pages to spare (R248): its number, none where the segment gives none. -/
def State.allocPage (s : State) (p i reserve : Nat) : Option Nat × State :=
  let free := s.f F.KV_SEG_STATUS_FREE p i
  if s.poolOn p && s.segOk p i && s.fb F.KV_SEG_STATUS_READY p i && decide (reserve < free) then
    let x := s.seg p i
    let page := s.readN (s.ringKey p i x.head) 4
    let s := s.setSeg p i { x with head := (x.head + 1) % s.segPages p i }
    let s := s.writeN (s.countKey p i (page % 2 ^ 29)) 8 1
    (some page, (s.setFree p i (free - 1)).addF F.KV_POOL_ALLOCS_COUNT 1 p)
  else (none, s.addF F.KV_POOL_FAILS_COUNT 1 p)

/-- An atomic on an allocation word (R248): the page number, or all ones. Only the pool's owner allocates (R244): of any
other context, and of another node, the atomic fails as one that finds no page (log entry 67). -/
def State.allocWord (s : State) (c : Option Nat) (p i : Nat) : Word × State :=
  if c = some (s.f F.KV_POOL_CFG_OWNER p) then
    let (r, s) := s.allocPage p i 0
    (r.elim (BitVec.allOnes 64) (BitVec.ofNat 64), s)
  else (BitVec.allOnes 64, s.addF F.KV_POOL_FAILS_COUNT 1 p)

/-- Pages appended to the tail of a ring, in the order given, and counted as free (R250). -/
def State.returnPages (s : State) (p i : Nat) (ns : List Nat) : State :=
  let x := s.seg p i
  let free := s.f F.KV_SEG_STATUS_FREE p i
  let s := ((List.range ns.length).zip ns).foldl (fun s e =>
    s.writeN (s.ringKey p i ((x.head + free + e.1) % s.segPages p i)) 4 (pageNumber i e.2)) s
  (s.setFree p i (free + ns.length)).addF F.KV_POOL_RETURNS_COUNT ns.length p

/-- A list of indices in ascending order. -/
def insertNat (n : Nat) : List Nat → List Nat
  | [] => [n]
  | m :: ms => if n ≤ m then n :: m :: ms else m :: insertNat n ms

def sortNats (l : List Nat) : List Nat := l.foldr insertNat []

/-- Action 8 (R250, R251): pending pages return in ascending page number, then the low marks. -/
def State.kvAction (s : State) : State :=
  let s := s.validSegs.foldl (fun s e =>
    let ns := sortNats (s.seg e.1 e.2).pend
    let s := s.setSeg e.1 e.2 { s.seg e.1 e.2 with pend := [] }
    (s.returnPages e.1 e.2 ns).setF F.KV_SEG_STATUS_PENDING 0 e.1 e.2) s
  (List.range 16).foldl (fun s p =>
    let low := s.f F.KV_POOL_MARKS_LOW p
    if low != 0 && decide (s.f F.KV_SEG_STATUS_FREE p (s.f F.KV_POOL_CFG_APPEND_SEG p) ≤ low) then
      s.event F.KV_EVENT_LOW p
    else s) s

/-- A segment becomes valid at a tick (R245): count words 0, the ring filled in ascending order, FREE and PENDING; READY
follows. -/
def State.segStart (s : State) (p i : Nat) : State :=
  let n := s.segPages p i
  let s := s.write (s.countKey p i 0) (zeroBytes (8 * n))
  let s := s.write (s.ringKey p i 0) ((List.range n).flatMap (fun j => toLE 4 (pageNumber i j)))
  let s := s.setSeg p i { init := true }
  let s := s.setF F.KV_SEG_STATUS_READY 0 p i
  (s.setF F.KV_SEG_STATUS_PENDING 0 p i).setFree p i n

/-- SEGMENT_READY (R245): the initialisation of a valid segment is done. -/
def execSegmentReady (pool seg : Nat) (s : State) : Host.Outcome State Fault Refusal :=
  .next (if s.segOk pool seg && (s.seg pool seg).init then
    (s.setSeg pool seg { s.seg pool seg with init := false }).setF F.KV_SEG_STATUS_READY 1 pool seg else s)

/-- COUNT_WORD_ATOMIC (R246): an add of core g on a page's count word. -/
def execCountWordAtomic (g pool seg page : Nat) (delta : Word) (s : State) : Host.Outcome State Fault Refusal :=
  if s.segOk pool seg && decide (page < s.segPages pool seg) then .next (s.countAdd g pool seg page delta).2 else .next s

/-- ALLOCATION_WORD_ATOMIC (R248): an atomic of the owner on the allocation word of a segment. The control block of a
disabled pool is plain memory (R247), on which the command has no effect. -/
def execAllocationWordAtomic (pool seg : Nat) (s : State) : Host.Outcome State Fault Refusal :=
  if s.poolOn pool then .next (s.allocWord (some (s.f F.KV_POOL_CFG_OWNER pool)) pool seg).2 else .next s

end Sys2Proof.Machine
end

