-- ==== Sys2Proof/Machine/Issue.lean ====
section
/-! DEFINITION. Issue: which strand issues (R63), what holds a strand (R64), fetching its next instruction, and what every
issued instruction does (R71, R78, R81). -/

namespace Sys2Proof.Machine

/-- A scalar register; s0 reads 0 (R61). -/
def Strand.rd (t : Strand) (r : Nat) : Word := if r = 0 then 0 else SMap.get 0 t.regs r

/-- A scalar register written; writes to s0 are discarded (R61). -/
def Strand.wr (t : Strand) (r : Nat) (v : Word) : Strand :=
  if r = 0 then t else { t with regs := SMap.set id 0 t.regs r v }

/-- Entry b of a context's block table; an absent entry reads 0 (R94). -/
def Ctx.blk (x : Ctx) (b : Nat) : Block := x.blocks.getD b {}

/-- ENTRY of a block (Table ISA-17). -/
def Block.entry (b : Block) : Nat := bits b.w0 0 15

/-- LEN_M1 of a block. -/
def Block.lenM1 (b : Block) : Nat := bits b.w0 16 12

/-- DEFER of a block. -/
def Block.defer (b : Block) : Bool := bit b.w0 28

/-- ONESHOT of a block. -/
def Block.oneshot (b : Block) : Bool := bit b.w0 30

/-- The counter of requirement j (Table ISA-17, word 1). -/
def Block.ctr (b : Block) (j : Nat) : Nat := bits b.w1 (16 * j) 5

/-- The threshold of requirement j; 0 is unused. -/
def Block.thr (b : Block) (j : Nat) : Nat := bits b.w1 (16 * j + 8) 8

/-- The key of instruction i of context c's code on core g (R78). -/
def State.codeKey (s : State) (g c i : Nat) : Nat := istoreKey g (s.f F.CORE_CTX_ISTORE_BASE g c * 8192 + 8 * i)

/-- The instruction at a key holds an uncorrectable error (Table REL-1, unit 1). -/
def State.instrBad (s : State) (key : Nat) : Bool := s.poisoned key 8 || s.badInstr.contains key

/-- Strand k executes a block that has not ended, its context runs on the core, and no col wait holds it. -/
def State.ready (s : State) (g c k : Nat) : Bool :=
  let t := s.strand g c k
  s.running g c && t.exec && !t.ended && !t.held

/-! ### What holds a strand (R64) -/

/-- Strand k has an engine instruction queued or running (R73, ESYNC): matrix, vector. -/
def State.engineBusy (s : State) (g c k : Nat) (matrix vector : Bool) : Bool :=
  (matrix && (s.core g).mtxq.any (fun o => decide (o.who.c = c ∧ o.who.k = k))) ||
  (vector && (s.core g).vecq.any (fun o => decide (o.who.c = c ∧ o.who.k = k)))

/-- Strand k has a load, store, atomic or spur operation in flight (FENCE). -/
def State.memBusy (s : State) (g c k : Nat) : Bool :=
  let mine (w : Who) : Bool := decide (w.c = c ∧ w.k = k)
  (s.core g).slots.any (fun r => mine r.who) || (s.core g).sideq.any (fun r => mine r.who) ||
  (s.core g).spurq.any (fun o => mine o.who)

/-- Loads of strand k that are pending (R64). -/
def State.loadsPending (s : State) (g c k : Nat) : Nat :=
  let f := (s.strand g c k).fid
  let mine (r : Req) : Bool := decide (r.who.c = c ∧ r.who.k = k ∧ r.who.fid = f) &&
    (match r.acc with | .load _ _ => true | _ => false)
  ((s.core g).slots.filter mine).length + ((s.core g).sideq.filter mine).length

/-- Slots that a target holds. -/
def Core.held (x : Core) (t : Target) : Nat := (x.slots.filter (fun r => r.tgt = t)).length

/-- A request to a target finds neither a slot nor, at its quota, a side-queue entry (R76). -/
def State.noSlot (s : State) (g : Nat) (t : Target) : Bool :=
  let x := s.core g
  decide (48 ≤ x.slots.length) || (decide (quotaOf t ≤ x.held t) && decide (32 ≤ x.sideq.length))

/-- The size of an access. -/
def Acc.size : Acc → Nat
  | .load n _ => n
  | .store n => n
  | _ => 8

/-- The access writes. -/
def Acc.writes : Acc → Bool
  | .load _ _ => false
  | _ => true

/-- n bytes from a key touch a mirror range in use (R337). -/
def State.mirrored (s : State) (key n : Nat) : Bool :=
  (List.range 8).any (fun m => s.fb F.NET_MIR_CTL_VALID m &&
    decide (s.f F.NET_MIR_BASE_BASE m < key + n) && decide (key < s.f F.NET_MIR_BASE_BASE m + s.f F.NET_MIR_SIZE_SIZE m))

/-- The check of a write or atomic on memory of this module: a protected range refuses every write but an atomic add
(R247), a mirror range every atomic (R337). -/
def State.writeCheck (s : State) (l : Loc) (n : Nat) (acc : Acc) : Except Nat Unit :=
  match l, acc with
  | .mem k, .store _ => if s.kvProtected k n then .error 0x06 else .ok ()
  | .mem k, .amoadd => if s.mirrored k n then .error 0x06 else .ok ()
  | .mem k, .amoswap => if s.kvProtected k n || s.mirrored k n then .error 0x06 else .ok ()
  | .mem k, .amocas => if s.kvProtected k n || s.mirrored k n then .error 0x06 else .ok ()
  | _, _ => .ok ()

/-- A scalar access at an address waits for a slot or a side-queue entry; one that would fault, and one to the own
scratchpad, does not. -/
def State.accessWaits (s : State) (g c : Nat) (acc : Acc) (addr : Nat) : Bool :=
  if addr % acc.size ≠ 0 then false else
  match s.xlate g c addr acc.writes .scalar with
  | .error _ => false
  | .ok loc =>
    match s.writeCheck loc acc.size acc with
    | .error _ => false
    | .ok _ => !ownSpad g loc && s.noSlot g (targetOf loc)

/-- Loads and stores: bytes and sign of a scalar memory opcode (Table ISA-7). -/
def Op.acc : Op → Option Acc
  | .ld8 => some (.load 1 false)
  | .ld16 => some (.load 2 false)
  | .ld32 => some (.load 4 false)
  | .ld64 => some (.load 8 false)
  | .lds8 => some (.load 1 true)
  | .lds16 => some (.load 2 true)
  | .lds32 => some (.load 4 true)
  | .st8 => some (.store 1)
  | .st16 => some (.store 2)
  | .st32 => some (.store 4)
  | .st64 => some (.store 8)
  | .amoadd => some .amoadd
  | .amoswap => some .amoswap
  | .amocas => some .amocas
  | _ => none

/-- The address of a scalar memory instruction: RS1 plus IMM32, of an atomic RS1. -/
def accAddr (acc : Acc) (t : Strand) (d : Dec) : Nat :=
  match acc with
  | .load _ _ | .store _ => (t.rd d.rs1 + d.immS).toNat
  | _ => (t.rd d.rs1).toNat

/-- The context that owns a channel (R208). -/
def State.chOwner (s : State) (g ch : Nat) : Nat := bits (s.reg ⟨.DMA_OWNER, g, 0, 0⟩) (2 * ch) 2

/-- SHADOW of a channel: 0 empty, 1 loaded, 2 queued. -/
def State.shadow (s : State) (g ch : Nat) : Nat := s.f F.DMA_CH_STATUS_SHADOW g ch

/-- The instruction at strand k waits for something other than a register (R64): pending loads, a slot, room in a queue or
a shadow set, or the event of a wait of latency class E. -/
def State.waitsFor (s : State) (g c k : Nat) (d : Dec) : Bool :=
  let t := s.strand g c k
  let u := s.core g
  match d.op.acc with
  | some acc => (!acc.writes && decide (8 ≤ s.loadsPending g c k)) || s.accessWaits g c acc (accAddr acc t d)
  | none =>
    match d.op with
    | .mma | .mwb | .mtin | .mtout | .mlb | .mle => decide (16 ≤ (u.mtxq.filter (fun o => !o.started)).length)
    | .vadd | .vsub | .vmul | .vshl | .vshr | .vand | .vor | .vxor | .vcmp | .vsel | .vfadd | .vfmul | .vfma | .vcvt
    | .vrcp | .vrsq | .vrstep | .vredsum | .vredmax | .vredmin | .vupd =>
      decide (16 ≤ (u.vecq.filter (fun o => !o.started)).length)
    | .sput | .sget | .satom | .msend | .msendr => decide (32 ≤ u.spurq.length)
    | .dld => decide (s.chOwner g d.f35 = c) && decide (s.shadow g d.f35 ≠ 0)
    | .mrecv => decide (s.f F.COL_MQ_STATE_COUNT g c (d.field 36 3) = 0)
    | .esync => s.engineBusy g c k (d.field 12 1 == 1) (d.field 13 1 == 1)
    | .fence => s.memBusy g c k
    | .fclose => s.engineBusy g c k true true
    | _ => false

/-- Strand k can go on (R64) while some fixed-latency interlocks hold: it raises a fault, or its next instruction names no
pending register, none that an interlock holds, and waits for nothing. -/
def State.ableUnder (s : State) (lock : List (Nat × Nat × Nat × Nat)) (g c k : Nat) : Bool :=
  let t := s.strand g c k
  let b := (s.ctx g c).blk t.block
  let key := s.codeKey g c (b.entry + t.pc)
  if b.lenM1 < t.pc ∨ (s.ctx g c).codeLen ≤ b.entry + t.pc then true
  else if s.instrBad key then true
  else match decodeWord (BitVec.ofNat 64 (s.readN key 8)) with
    | none => true
    | some d =>
      !d.uses.any (fun r => t.pend.contains r || lock.any (fun e => decide ((e.1, e.2.1, e.2.2.1) = (c, k, r)))) &&
        !s.waitsFor g c k d

/-- Strand k is surely able to issue: no interlock that may still run holds it. -/
def State.able (s : State) (g c k : Nat) : Bool := s.ableUnder (s.core g).iss.lock g c k

/-! ### The issue slot (R63) -/

/-- The place of strand k of context c in the search of core g: the current strand first, then ascending with wrap-around;
the current strand last where it gives the slot up. -/
def IssueSlot.place (x : IssueSlot) (c k : Nat) : Nat :=
  match x.last with
  | none => 8 * c + k
  | some (c0, k0) =>
    if (c, k) = (c0, k0) then (if x.run < 256 then 0 else 33) else (8 * c + k + 63 - (8 * c0 + k0)) % 32 + 1

/-- No strand of core g that is surely able to issue comes before strand k of context c (R63). -/
def State.turn (s : State) (g c k : Nat) : Bool :=
  let x := (s.core g).iss
  !s.strands.any (fun e => decide (e.1.1 = g) && decide (x.place e.1.2.1 e.1.2.2 < x.place c k) &&
    s.ready g e.1.2.1 e.1.2.2 && s.able g e.1.2.1 e.1.2.2)

/-- Strand k may issue: it executes, nothing holds it, and the slot is its own (R63, R64). -/
def State.canIssue (s : State) (g c k : Nat) : Bool := s.ready g c k && s.turn g c k

/-- The strand that issues, for the records of its operations. -/
def Strand.who (t : Strand) (c k : Nat) : Who := ⟨c, k, t.fid, t.block, t.pc⟩

/-- The issue of one instruction by strand k as opcode op. Where the strand cannot issue, where its next instruction is
another one, or where a register it names is pending (R64), nothing happens. The block's entry is the one in effect, also where a
commit replaced it while the block executes (log entry 66). Past the block or past CODE_LEN it raises
0x03 (R71), a poisoned instruction 0x0D (Table REL-1), a word that is no instruction 0x01 (R78). -/
def State.issue (s : State) (g c k : Nat) (op : Op) (f : State → Dec → State) : State :=
  if !s.canIssue g c k then s else
  let t := s.strand g c k
  let x := s.ctx g c
  let b := x.blk t.block
  if b.lenM1 < t.pc ∨ x.codeLen ≤ b.entry + t.pc then s.raise g c k 0x03 else
  let key := s.codeKey g c (b.entry + t.pc)
  if s.instrBad key then s.raise g c k 0x0D else
  match decodeWord (BitVec.ofNat 64 (s.readN key 8)) with
  | none => s.raise g c k 0x01
  | some d => if d.op ≠ op then s else if d.uses.any (fun r => t.pend.contains r) then s else f s d

/-- One issue of the core later: the interlocks have one cycle less to go. -/
def IssueSlot.pass (x : IssueSlot) (c k : Nat) : IssueSlot :=
  { last := some (c, k), run := if x.last = some (c, k) ∧ x.run < 256 then x.run + 1 else 1
    lock := (x.lock.filter (fun e => decide (1 < e.2.2.2))).map (fun e => (e.1, e.2.1, e.2.2.1, e.2.2.2 - 1)) }

/-- What every issued instruction does besides its own effect: it is progress (R52), and a change of strand counts a
switch of the context (R63, CORE_SWITCHES). -/
def State.issued (s : State) (g c k : Nat) : State :=
  let x := (s.core g).iss
  let s := if x.last ≠ none ∧ x.last ≠ some (c, k) then s.addF F.CORE_SWITCHES_COUNT 1 g c else s
  (s.setCore g { s.core g with iss := x.pass c k }).progress g c

/-- The strand gives up the issue slot: after 256 consecutive instructions (R63), by YIELD, or in the cycle of a taken branch
(R81). -/
def State.yieldSlot (s : State) (g : Nat) : State :=
  let x := s.core g
  s.setCore g { x with iss := { x.iss with run := 256 } }

/-- Register r of strand k is in a fixed-latency interlock of n cycles (R64, R81). -/
def State.interlock (s : State) (g c k r n : Nat) : State :=
  let x := s.core g
  s.setCore g { x with iss := { x.iss with lock := (c, k, r, n) :: x.iss.lock } }

/-- The instruction has issued: the strand, as given, goes on at the next instruction. -/
def State.retire (s : State) (g c k : Nat) (t : Strand) : State :=
  (s.setStrand g c k { t with pc := t.pc + 1 }).issued g c k

/-- The instruction has issued and writes RD. -/
def State.retireRd (s : State) (g c k r : Nat) (v : Word) : State := s.retire g c k ((s.strand g c k).wr r v)

/-- The instruction has issued and writes RD, which interlocks for n cycles (latency class B, R81). -/
def State.retireB (s : State) (g c k r : Nat) (v : Word) (n : Nat) : State := (s.retireRd g c k r v).interlock g c k r n

/-- A jump or taken branch to an index, after which another strand may issue for one cycle (R81); outside the block it raises
0x03 (R78). -/
def State.jump (s : State) (g c k : Nat) (target : Int) (t : Strand) : State :=
  if 0 ≤ target ∧ target ≤ ((s.ctx g c).blk t.block).lenM1 then
    ((s.setStrand g c k { t with pc := target.toNat }).issued g c k).yieldSlot g
  else s.raise g c k 0x03

/-- The strand is freed (R71). Its registers are set anew at the next dispatch (R62). -/
def State.freeStrand (s : State) (g c k : Nat) : State := s.setStrand g c k {}

end Sys2Proof.Machine
end

