-- ==== Sys2Proof/Machine/Engine.lean ====
section
/-! DEFINITION. What the matrix and the vector engine share: operands in scratchpad, reads that race with other writers
(R134, R153), and layer brackets (R143, R144). -/

namespace Sys2Proof.Machine

/-! ### Operands -/

/-- The offset in core g's scratchpad that a global address names: through the self alias or core g's own window. -/
def State.spadOff (s : State) (g addr : Nat) : Option Nat :=
  let a := addr % 2 ^ 44
  if addr / 2 ^ 44 ≠ s.f F.NET_NODE_ID_ID then none
  else if 0xF8000000000 ≤ a ∧ a < 0xF8000000000 + spadSize then some (a - 0xF8000000000)
  else if 0xF0000000000 + g * 0x400000 ≤ a ∧ a < 0xF0000000000 + g * 0x400000 + spadSize then
    some (a - (0xF0000000000 + g * 0x400000))
  else none

/-- n bytes from an address lie wholly in context c's window on core g: the key of the first. -/
def State.winKey (s : State) (g c addr n : Nat) : Option Nat :=
  match s.spadOff g addr with
  | none => none
  | some o =>
    let b := s.f F.PLC_WIN_BASE c * 65536
    if b ≤ o ∧ o + n ≤ b + s.f F.PLC_WIN_SIZE c * 65536 then some (spadKey g o) else none

/-- An engine operand: 64 B aligned and wholly in the window (R123, R150). -/
def State.operandKey (s : State) (g c addr n : Nat) : Option Nat :=
  if addr % 64 = 0 then s.winKey g c addr n else none

/-- Two byte ranges share a byte. -/
def overlap (a n b m : Nat) : Bool := decide (a < b + m) && decide (b < a + n) && decide (0 < n) && decide (0 < m)

/-! ### Reads that race (R134, R153) -/

/-- The listed cells of some ranges of memory. -/
def Mem.part (m : Mem) (rs : List (Nat × Nat)) : Mem :=
  m.filter (fun e => rs.any (fun r => decide (r.1 ≤ e.1) && decide (e.1 < r.1 + r.2)))

/-- The memory with n bytes from a key taken from another memory. -/
def Mem.patch (m src : Mem) (key n : Nat) : Mem :=
  m.filter (fun e => decide (e.1 < key)) ++ src.part [(key, n)] ++ m.filter (fun e => decide (key + n ≤ e.1))

/-- n bytes of an operand: each 64 B granule that another writer changed since the issue reads as it stood before or as
it stands now, a free choice (log entry 2). -/
def State.raced (s : State) (snap : Mem) (key n : Nat) : List Byte × State :=
  ((List.range n).map (fun i =>
    let new := s.mem.get (key + i)
    if Config.freeBool (s.freeCtr + i / 64) then new else
    let old := snap.get (key + i)
    if old = new then new else old),
   s.useFree (ceilDiv n 64))

/-- Engine instructions of core g that have not started see bytes that the matrix engine has just written, and vector
instructions those of the vector engine: the engines' own order decides there, not a race (R133, R151, R153). A vector
result that lands between an MMA's issue and its completion races with it (R134). -/
def State.patchSnaps (s : State) (g key n : Nat) (matrix : Bool) : State :=
  let u := s.core g
  s.setCore g { u with
    mtxq := u.mtxq.map (fun o => if o.started || !matrix then o else { o with snap := o.snap.patch s.mem key n })
    vecq := u.vecq.map (fun o => if o.started then o else { o with snap := o.snap.patch s.mem key n }) }

/-- The matrix engine's result stored: memory, and what waits on the core. -/
def State.matrixWrite (s : State) (g key : Nat) (bs : List Byte) : State :=
  (s.write key bs).patchSnaps g key bs.length true

/-- The vector engine's result stored. -/
def State.vectorWrite (s : State) (g key : Nat) (bs : List Byte) : State :=
  (s.write key bs).patchSnaps g key bs.length false

/-- Memory as the engines of core g may see it from dispatch fid: without the stores to the scratchpad that are followed by
no ESYNC of their strand, and by no TOKADD of it before that dispatch (R84). -/
def State.engineMem (s : State) (g fid : Nat) : Mem :=
  ((SMap.get [] s.unseen g).filter (fun e => e.tok.all (fun n => decide (fid < n)))).foldl (fun m e => m.write e.key e.old) s.mem

/-! ### Issue to an engine queue -/

/-- The seed in force for context c (R116). -/
def State.seedOf (s : State) (c : Nat) : Word := s.reg ⟨.VEC_SEED, c, 0, 0⟩

/-- The class of a strand's block (R143). -/
def State.classOf (s : State) (g c k : Nat) : Nat := ((s.ctx g c).blk (s.strand g c k).block).defer.toNat

/-- The next issue number of core g taken. -/
def State.nextSeq (s : State) (g : Nat) : State := s.setCore g { s.core g with seq := (s.core g).seq + 1 }

/-! ### Layer brackets -/

def State.bracket (s : State) (g c cls : Nat) : Option Bracket := SMap.get none s.brackets (g, c, cls)

def State.setBracket (s : State) (g c cls : Nat) (b : Option Bracket) : State :=
  { s with brackets := SMap.set (fun k => (4 * k.1 + k.2.1) * 2 + k.2.2) none s.brackets (g, c, cls) b }

/-- A bracket counts an instruction issued with number seq: after its MLB and before its MLE (R144). -/
def Bracket.counts (b : Bracket) (seq : Nat) : Bool :=
  decide (b.openSeq < seq) && (match b.closeSeq with
    | none => true
    | some e => decide (seq < e))

/-- An MLE of the class that was issued before instruction seq, and closes the bracket, has not started. -/
def State.mleBefore (s : State) (g c cls : Nat) (b : Bracket) (seq : Nat) : Bool :=
  (s.core g).mtxq.any (fun o => !o.started && decide (o.dec.op = .mle) &&
    decide (o.who.c = c ∧ o.cls = cls ∧ b.openSeq < o.seq ∧ o.seq < seq))

/-- The OVF of an instruction of a class and issue number enters its bracket: the one that counts it, or, of a vector
instruction, the MLB before it that has not started (R144). -/
def State.bracketOvf (s : State) (g c cls seq : Nat) (vector : Bool) : State :=
  let inOpen := match s.bracket g c cls with
    | none => false
    | some b => b.counts seq && !s.mleBefore g c cls b seq && (!vector || b.vecOvf)
  if inOpen then s.setF F.MTX_LAYER_FLAG 1 g c cls
  else if vector then
    let u := s.core g
    let before := u.mtxq.filter (fun o => !o.started && decide (o.who.c = c ∧ o.cls = cls ∧ o.seq < seq) &&
      (decide (o.dec.op = .mlb) || decide (o.dec.op = .mle)))
    match before.getLast? with
    | none => s
    | some o =>
      if o.dec.op = .mlb then
        s.setCore g { u with mtxq := u.mtxq.map (fun x => if x.seq = o.seq then { x with early := true } else x) }
      else s
  else s

/-! ### Completion -/

/-- The strand and instruction that a fault of an engine operation names. -/
def State.raiseWho (s : State) (g : Nat) (w : Who) (code : Nat) (addr : Option Nat := none) : State :=
  s.raiseOp g w.c w.k w.fid w.block w.index code addr

end Sys2Proof.Machine
end

