-- ==== Sys2Proof/Machine/MatrixArith.lean ====
section
/-! DEFINITION. The arithmetic of the matrix engine: accepted pairs, the exact dot product, the FP64 path and write-back
(R121 to R131, R115). -/

namespace Sys2Proof.Machine

/-- The width class of a matrix input format: 4, 6, 8, 16, 32 or 64 bits. -/
def mmaWidth (f : Nat) : Nat := (fmt f).width

/-- What a format pair gives (Table MTX-1): chunk length and accumulation mode, 1 float, 2 integer, 3 FP64; none where
the pair is not accepted. -/
def mmaPair (a b : Nat) : Option (Nat × Nat) :=
  let small (f : Nat) : Bool := decide (5 ≤ f ∧ f ≤ 9)
  let smallInt (f : Nat) : Bool := decide (12 ≤ f ∧ f ≤ 14)
  if small a && small b then some (32, 1)
  else if smallInt a && smallInt b then some (32, 2)
  else if (a == 3 || a == 4) && (b == 3 || b == 4) then some (16, 1)
  else if a == 1 && b == 1 then some (8, 1)
  else if a == 0 && b == 0 then some (128, 3)
  else none

/-- A tile's bytes (R123, Table TIER-3). -/
def tileBytes (f : Nat) : Nat := 16384 * (fmt f).width / 8

/-- An element and its flags. -/
abbrev Elem := Nat × FFlags

/-- A matrix input: FP32 converts to K19 as it enters the array, truncated where K19TR = 1 (R115). -/
def mmaInput (f : Nat) (k19tr : Bool) (v : Nat) : FVal × FFlags :=
  if f = 1 then
    let (w, fl) := encodeF (fmt 2) { mode := if k19tr then 1 else 0 } (decodeF (fmt 1) v)
    (decodeF (fmt 2) w, fl)
  else (decodeF (fmt f) v, {})

/-- One product added to a chunk sum: binary32, rounded to nearest even, the first product rounded alone (R127). -/
def chunkStep (s : Option Nat × FFlags) (a b : FVal) : Option Nat × FFlags :=
  let (p, i) := mulV a b
  let (v, j) := match s.1 with
    | none => (p, false)
    | some w => addV 0 (decodeF (fmt 1) w) p
  let (w, fl) := encodeF (fmt 1) {} v
  (some w, (s.2.or fl).or { inv := i || j })

/-- One chunk added to the total: the first total is the sum itself, widened exactly (R127). -/
def chunkAdd (acc : Option Nat × FFlags) (ps : List (FVal × FVal)) : Option Nat × FFlags :=
  let (s, fl) := ps.foldl (fun s p => chunkStep s p.1 p.2) (none, {})
  match s with
  | none => acc
  | some w =>
    let (v, j) := match acc.1 with
      | none => (decodeF (fmt 1) w, false)
      | some t => addV 0 (decodeF (fmt 0) t) (decodeF (fmt 1) w)
    let (t, fl') := encodeF (fmt 0) {} v
    (some t, ((acc.2.or fl).or fl').or { inv := j })

/-- `mma_float` (R127): products in ascending k, chunks of C, nC chunks. -/
def mmaFloat (c : Nat) : Nat → Option Nat × FFlags → List (FVal × FVal) → Option Nat × FFlags
  | 0, acc, _ => acc
  | n + 1, acc, ps => mmaFloat c n (chunkAdd acc (ps.take c)) (ps.drop c)

/-- The int64 saturation of an integer total (R128). -/
def sat64 (z : Int) : Nat × Bool := satInt { width := 64 } z

/-- The integer a decoded integer input holds. -/
def FVal.toInt : FVal → Int
  | .fin n m _ => if n then -(m : Int) else m
  | _ => 0

/-- `mma_int` (R127): chunks of 32, each exact, added to the total with saturation. -/
def mmaInt : Nat → Nat × FFlags → List (FVal × FVal) → Nat × FFlags
  | 0, acc, _ => acc
  | n + 1, acc, ps =>
    let z : Int := ((ps.take 32).map (fun p => p.1.toInt * p.2.toInt)).sum
    let (t, o) := sat64 (signedN 64 acc.1 + z)
    mmaInt n (t, acc.2.or { ovf := o }) (ps.drop 32)

/-- The FP64 path (R130): a fused multiply-add per product, nearest even; the first step of an empty total rounds the
product alone. -/
def mmaF64 (acc : Option Nat × FFlags) (ps : List (FVal × FVal)) : Option Nat × FFlags :=
  ps.foldl (fun acc p =>
    let (v, i) := match acc.1 with
      | none => mulV p.1 p.2
      | some t => fmaV 0 p.1 p.2 (decodeF (fmt 0) t)
    let (t, fl) := encodeF (fmt 0) {} v
    (some t, (acc.2.or fl).or { inv := i })) acc

/-- One element of an MMA: the total before (none of an empty accumulator), the row of A and the column of B. -/
def mmaElem (mode c : Nat) (acc : Option Nat) (ps : List (FVal × FVal)) : Elem :=
  match mode with
  | 2 => mmaInt 4 (acc.getD 0, {}) ps
  | 3 => let (t, fl) := mmaF64 (acc, {}) ps; (t.getD 0, fl)
  | _ => let (t, fl) := mmaFloat c (128 / c) (acc, {}) ps; (t.getD 0, fl)

/-- The position of element (r, q) of a stored tile, read transposed or not (R122, R192). -/
def tilePos (tr : Bool) (r q : Nat) : Nat := if tr then 128 * q + r else 128 * r + q

/-- A whole MMA over two tiles given as element encodings in stored order (R122, R127, R129). -/
def mmaTile (fa fb : Nat) (atr btr k19tr : Bool) (mode c : Nat) (acc : Nat → Option Nat) (ta tb : List Nat) :
    List Nat × FFlags :=
  let aa := (ta.map (mmaInput fa k19tr)).toArray
  let bb := (tb.map (mmaInput fb k19tr)).toArray
  let conv := (aa.toList ++ bb.toList).foldl (fun fl e => fl.or e.2) {}
  let zero : FVal × FFlags := (.fin false 0 0, {})
  let es := (List.range 16384).map (fun p =>
    mmaElem mode c (acc p) ((List.range 128).map (fun k =>
      ((aa.getD (tilePos atr (p / 128) k) zero).1, (bb.getD (tilePos btr k (p % 128)) zero).1))))
  (es.map (·.1), es.foldl (fun fl e => fl.or e.2) conv)

/-- The exact value of an accumulator element by mode: binary64, or int64 in integer mode (R124, R126). -/
def accVal (mode v : Nat) : FVal :=
  if mode = 2 then decodeF { width := 64 } v else if mode = 0 then .fin false 0 0 else decodeF (fmt 0) v

/-- One element of `mwb` (R131): the exact product of total and scale, converted once. -/
def mwbElem (mode v : Nat) (scale : FVal) (dst : Fmt) (rnd : Rnd) : Elem :=
  let (e, i) := mulV (accVal mode v) scale
  let (w, fl) := encodeF dst rnd e
  (w, fl.or { inv := i })

/-- The combined scale of two FP32 scales, nearest even (R105). -/
def scaleProd (a b : Nat) : Nat × FFlags :=
  let (p, i) := mulV (decodeF (fmt 1) a) (decodeF (fmt 1) b)
  let (w, fl) := encodeF (fmt 1) {} p
  (w, fl.or { inv := i })

/-- `mwb` (R131): every element of the destination tile. -/
def mwbTile (mode : Nat) (acc : Nat → Nat) (scale f rmode n : Nat) (seed tag : Word) : List Nat × FFlags :=
  let sv := decodeF (fmt 1) scale
  let es := (List.range 16384).map (fun p =>
    mwbElem mode (acc p) sv (fmt f) ⟨rmode, n, if rmode = 4 then srBits seed tag (p % 128) p n else 0⟩)
  (es.map (·.1), es.foldl (fun fl e => fl.or e.2) {})

/-- One element of a late total (R140) with its flags (R107, R111): round64_rne(ACC - landed), exact and saturating in integer
mode, where saturation is an overflow. -/
def lateElem (mode a l : Nat) : Nat × FFlags :=
  if mode = 2 then
    let (w, sat) := sat64 (signedN 64 a - signedN 64 l)
    (w, { ovf := sat })
  else
    let (v, i) := addV 0 (decodeF (fmt 0) a) (decodeF (fmt 0) l).negate
    let (w, fl) := encodeF (fmt 0) {} v
    (w, fl.or { inv := i })

/-- CRC-64/XZ: reflected, polynomial 0x42F0E1EBA9EA3693, initial and final all ones. -/
def crc64Bit (c : Word) : Word := if bit c 0 then (c >>> 1) ^^^ 0xC96C5795D7870F42#64 else c >>> 1

/-- One byte into the CRC. -/
def crc64Byte (c : Word) (b : Byte) : Word :=
  crc64Bit (crc64Bit (crc64Bit (crc64Bit (crc64Bit (crc64Bit (crc64Bit (crc64Bit (c ^^^ b.setWidth 64))))))))

/-- CRC-64/XZ of a byte string. -/
def crc64 (bs : List Byte) : Word := ~~~ (bs.foldl crc64Byte (BitVec.allOnes 64))

end Sys2Proof.Machine
end

