-- ==== Sys2Proof/Machine/Col.lean ====
section
/-! DEFINITION. Cols: translation and scope, entering, counters, releases and their arrival at a core (R266 to R276). -/

namespace Sys2Proof.Machine

def State.waitsOf (s : State) (g c : Nat) : List WaitEnt := SMap.get [] s.waits (g, c)

def State.setWaits (s : State) (g c : Nat) (x : List WaitEnt) : State :=
  { s with waits := SMap.set (fun k => 4 * k.1 + k.2) [] s.waits (g, c) x }

def State.colTag (s : State) (g c id : Nat) : ColTag := SMap.get {} s.tags (g, c, id)

def State.setColTag (s : State) (g c id : Nat) (x : ColTag) : State :=
  { s with tags := SMap.set (fun k => (4 * k.1 + k.2.1) * 4096 + k.2.2) {} s.tags (g, c, id) x }

/-- Core g lies in the scope of physical counter k (Table COL-2). -/
def colScope (k g : Nat) : Bool :=
  if k < 512 then g / 8 == k / 16 else if k < 768 then g / 128 == (k - 512) / 128 else true

/-- The cores of a counter's scope that exist. -/
def State.scopeCores (s : State) (k : Nat) : List Nat := s.coreList.filter (colScope k)

/-- An entry of the given kind is allowed: the identifier is valid, of the kind, and the core in scope (R267). -/
def State.colOk (s : State) (g c id kind : Nat) : Bool :=
  s.fb F.COL_XLATE_VALID c id && s.f F.COL_XLATE_KIND c id == kind && colScope (s.f F.COL_XLATE_PHYS c id) g

/-- Outstanding entries of an identifier on a core. -/
def State.outstanding (s : State) (g c id : Nat) : Nat := ((s.waitsOf g c).filter (fun e => e.id = id)).length

/-- An entry can be sent: fewer than two outstanding, room in the wait table, and no earlier entry stalled (R270). -/
def State.colRoom (s : State) (g c id : Nat) : Bool :=
  decide (s.outstanding g c id < 2) && decide ((s.waitsOf g c).length < 32) &&
    !(s.core g).stalls.any (fun e => decide (e.c = c ∧ e.id = id))

/-- The part of `col_enter` (R270) after its waits: the tag advances, the wait table takes the entry, it is sent. -/
def State.colSend (s : State) (g c id : Nat) (waiter : Waiter) (flag : Bool) : State :=
  let t := s.colTag g c id
  let s := s.setColTag g c id { t with tag := (t.tag + 1) % 4 }
  let s := s.setWaits g c (s.waitsOf g c ++ [⟨id, t.tag, waiter⟩])
  { s with colEnts := s.colEnts ++ [⟨g, s.f F.COL_XLATE_PHYS c id, t.tag, flag⟩] }

/-- An entry that stalls (R270). -/
def State.colStall (s : State) (g : Nat) (e : Stall) : State :=
  let x := s.core g
  s.setCore g { x with stalls := x.stalls ++ [e] }

/-- A protocol error (R271, R275). -/
def State.colProto (s : State) (k kind : Nat) : State :=
  ((s.setF F.COL_PROTO_PHYS k).setF F.COL_PROTO_KIND kind).event F.COL_EVENT_PROTO

/-- A counter restarts at ROUND 0 (R268, R276): counts, flags, arrivals, and what it has released and polled. -/
def State.ctrClear (s : State) (k : Nat) : State :=
  let s := (s.setReg ⟨.COL_CTR_STATE, k, 0, 0⟩ 0).setReg ⟨.COL_CTR_ARR, k, 0, 0⟩ 0
  { s with colHist := SMap.set id [] s.colHist k [], colPoll := SMap.set id 0 s.colPoll k 0 }

/-- The context and identifier that name a counter; at most one does (Table COL-3, code 1). -/
def State.colName (s : State) (k : Nat) : Option (Nat × Nat) :=
  ((s.listed .COL_XLATE).find? (fun r => s.fb F.COL_XLATE_VALID r.i r.j && s.f F.COL_XLATE_PHYS r.i r.j == k)).map
    (fun r => (r.i, r.j))

/-- `release` without its last check (R271): the broadcast to the scope, and the shift to the next round. -/
def State.colRelease (s : State) (k r : Nat) (flag : Bool) : State :=
  let s := match s.colName k with
    | none => s
    | some (c, id) => { s with colRels := s.colRels ++ (s.scopeCores k).map (fun g => ({ g := g, phys := k, c := c, id := id, tag := r % 4, flag := flag } : ColRel)) }
  let s := s.addF F.COL_CTR_STATE_ROUND 1 k
  let s := s.setF F.COL_CTR_STATE_C0 (s.f F.COL_CTR_STATE_C1 k) k
  let s := s.setF F.COL_CTR_STATE_F0 (s.f F.COL_CTR_STATE_F1 k) k
  let s := s.setF F.COL_CTR_STATE_DONE0 (s.f F.COL_CTR_STATE_DONE1 k) k
  let s := s.setF F.COL_CTR_STATE_C1 0 k
  let s := s.setF F.COL_CTR_STATE_F1 0 k
  s.setF F.COL_CTR_STATE_DONE1 0 k

/-- An arrival counted at a home counter (R274): for its round ROUND or ROUND + 1, otherwise a protocol error 1. -/
def State.homeArrival (s : State) (k r : Nat) (flag : Bool) : State :=
  let round := s.f F.COL_CTR_STATE_ROUND k
  if r % 2 ^ 16 = round then
    let s := s.addF F.COL_CTR_ARR_A0 1 k
    if flag then s.setF F.COL_CTR_ARR_AF0 1 k else s
  else if r % 2 ^ 16 = (round + 1) % 2 ^ 16 then
    let s := s.addF F.COL_CTR_ARR_A1 1 k
    if flag then s.setF F.COL_CTR_ARR_AF1 1 k else s
  else s.colProto k 1

/-- `send_arrival` (R274): the local round of counter k counted at its home, on this module or by COL_ARRIVAL. The round
is kept for COL_QUERY (R332). -/
def State.sendArrival (s : State) (k r : Nat) (flag : Bool) : State :=
  let home := s.f F.COL_CTR_HOME_HOME_NODE k
  let phys := s.f F.COL_CTR_HOME_HOME_PHYS k
  let s := { s with colPoll := SMap.set id 0 s.colPoll k s.clk.now }
  if home = s.node then s.homeArrival phys r flag
  else s.ctrlSend home 1 0 (toLE 8 (phys + r * 2 ^ 16 + flag.toNat * 2 ^ 32))

/-- `check` (R271). At most two rounds can complete. -/
def State.colCheck : Nat → Nat → State → State
  | 0, _, s => s
  | n + 1, k, s =>
    let count := s.f F.COL_CTR_CFG_COUNT k
    let xmod := s.fb F.COL_CTR_CFG_XMOD k
    let round := s.f F.COL_CTR_STATE_ROUND k
    if s.f F.COL_CTR_STATE_C0 k = count ∧ !s.fb F.COL_CTR_STATE_DONE0 k ∧ !xmod then
      State.colCheck n k (s.colRelease k round (s.fb F.COL_CTR_STATE_F0 k))
    else
      let s :=
        if s.f F.COL_CTR_STATE_C0 k = count ∧ !s.fb F.COL_CTR_STATE_DONE0 k then
          (s.setF F.COL_CTR_STATE_DONE0 1 k).sendArrival k round (s.fb F.COL_CTR_STATE_F0 k)
        else s
      if xmod ∧ s.fb F.COL_CTR_STATE_DONE0 k ∧ s.f F.COL_CTR_STATE_C1 k = count ∧ !s.fb F.COL_CTR_STATE_DONE1 k then
        (s.setF F.COL_CTR_STATE_DONE1 1 k).sendArrival k ((round + 1) % 2 ^ 16) (s.fb F.COL_CTR_STATE_F1 k)
      else s

/-- `on_entry` (R271). -/
def State.colOnEntry (s : State) (k r : Nat) (flag : Bool) : State :=
  let round := s.f F.COL_CTR_STATE_ROUND k
  if r = round % 4 then
    let s := s.addF F.COL_CTR_STATE_C0 1 k
    State.colCheck 3 k (if flag then s.setF F.COL_CTR_STATE_F0 1 k else s)
  else if r = (round + 1) % 4 then
    let s := s.addF F.COL_CTR_STATE_C1 1 k
    State.colCheck 3 k (if flag then s.setF F.COL_CTR_STATE_F1 1 k else s)
  else s.colProto k 1

/-- A bracket keeps the flag that its layer col released, for the layer decision (R145). -/
def State.bracketReleased (s : State) (g c cls : Nat) (flag : Bool) : State :=
  { s with brackets := s.brackets.map (fun e =>
      if e.1 = (g, c, cls) then (e.1, e.2.map (fun b => { b with released := some flag })) else e) }

/-- One waiter served by a release (R272). A vote goes to the step decision: decide does that (R290). -/
def State.colServe (decide' : Nat → Bool → State → State) (s : State) (g c : Nat) (flag : Bool) :
    Waiter → State
  | .token slot => s.token g c (24 + slot) 1
  | .strand k fid =>
    let t := s.strand g c k
    if t.exec && t.held && t.fid == fid then s.setStrand g c k { t with held := false, pc := t.pc + 1 } else s
  | .bracket cls => s.bracketReleased g c cls flag
  | .vote => decide' c flag s

/-- A release at a core (R272): every outstanding entry of the identifier with the released tag is served in the order
made, and freed; a core with none ignores it. -/
def State.colArrive (decide' : Nat → Bool → State → State) (s : State) (r : ColRel) : State :=
  let mine := (s.waitsOf r.g r.c).filter (fun e => decide (e.id = r.id ∧ e.tag = r.tag))
  if mine.isEmpty then s else
  let s := s.setWaits r.g r.c ((s.waitsOf r.g r.c).filter (fun e => !decide (e.id = r.id ∧ e.tag = r.tag)))
  let s := s.setColTag r.g r.c r.id { s.colTag r.g r.c r.id with lastTag := r.tag, lastFlag := r.flag }
  (mine.foldl (fun s e => s.colServe decide' r.g r.c r.flag e.waiter) s).progress r.g r.c

/-- COLE and COLW: the col fault, the entry, or its stall (R267, R270). COLE goes on at once, COLW is held until the
release of its round; a stalled entry holds the strand. -/
def State.colIssue (s : State) (g c k : Nat) (op : Op) (waiter : Dec → Strand → Waiter) (holds : Bool) : State :=
  s.issue g c k op (fun s d =>
    let t := s.strand g c k
    if !s.colOk g c d.id12 0 then s.raise g c k 0x0C
    else if s.colRoom g c d.id12 then
      let s := s.colSend g c d.id12 (waiter d t) false
      if holds then (s.setStrand g c k { t with held := true }).issued g c k else s.retire g c k t
    else
      (s.colStall g ⟨c, d.id12, waiter d t, false, k, t.fid⟩).setStrand g c k { t with held := true })

/-- COLE (R270): enters the col with slot [26:25]. -/
def execCole (g c k : Nat) (s : State) : Host.Outcome State Fault Refusal :=
  .next (s.colIssue g c k .cole (fun d _ => .token (d.field 25 2)) false)

/-- COLW (R270): enters the col and holds the strand until the release. -/
def execColw (g c k : Nat) (s : State) : Host.Outcome State Fault Refusal :=
  .next (s.colIssue g c k .colw (fun _ t => .strand k t.fid) true)

/-- The col state word (Table COL-4). -/
def State.colWord (s : State) (g c id : Nat) : Word :=
  let t := s.colTag g c id
  BitVec.ofNat 64 (t.tag + 4 * s.outstanding g c id + 16 * t.lastTag + 64 * t.lastFlag.toNat +
    128 * s.f F.COL_XLATE_KIND c id)

/-- COLR (R267, R273): RD ← the col state word; of either kind. -/
def execColr (g c k : Nat) (s : State) : Host.Outcome State Fault Refusal :=
  .next (s.issue g c k .colr (fun s d =>
    if !s.colOk g c d.id12 (s.f F.COL_XLATE_KIND c d.id12) then s.raise g c k 0x0C
    else s.retireB g c k d.rd (s.colWord g c d.id12) 4))

/-- A stalled entry is sent once there is room (R270). -/
def State.stallSend (s : State) (g n : Nat) : State :=
  match (s.core g).stalls[n]? with
  | none => s
  | some e =>
    let first := !((s.core g).stalls.take n).any (fun x => decide (x.c = e.c ∧ x.id = e.id))
    if s.halted e.c || !first || !decide (s.outstanding g e.c e.id < 2) || !decide ((s.waitsOf g e.c).length < 32) then s
    else
      let x := s.core g
      let s := (s.setCore g { x with stalls := x.stalls.eraseIdx n }).colSend g e.c e.id e.waiter e.flag
      match e.waiter with
      | .token _ =>
        let t := s.strand g e.c e.k
        if t.exec && t.held && t.fid == e.fid then (s.setStrand g e.c e.k { t with held := false, pc := t.pc + 1 }).issued g e.c e.k
        else s
      | _ => s.progress g e.c

/-- COL_STALLED_ENTRY_SEND (R270). -/
def execColStalledEntrySend (g n : Nat) (s : State) : Host.Outcome State Fault Refusal := .next (s.stallSend g n)

/-- Discarding a context (R276): its wait tables and round tags on every core, its entries and releases on the way, and
every counter its valid translation entries name. -/
def State.colDiscard (s : State) (c : Nat) : State :=
  let phys := (((s.listed .COL_XLATE).filter (fun r => decide (r.i = c) && s.fb F.COL_XLATE_VALID c r.j)).map
    (fun r => s.f F.COL_XLATE_PHYS c r.j))
  let s := { s with
    waits := s.waits.filter (fun e => e.1.2 ≠ c)
    tags := s.tags.filter (fun e => e.1.2.1 ≠ c)
    colEnts := s.colEnts.filter (fun e => !phys.contains e.phys)
    colRels := s.colRels.filter (fun e => e.c ≠ c) }
  let s := (s.cores.map (·.1)).foldl (fun s g =>
    s.setCore g { s.core g with stalls := (s.core g).stalls.filter (fun e => e.c ≠ c) }) s
  phys.foldl State.ctrClear s

end Sys2Proof.Machine
end

