-- ==== Sys2Proof/Machine/Firing.lean ====
section
/-! DEFINITION. Firing and dispatch of blocks (R65 to R70), and open frames (R46, R47, R73). -/

namespace Sys2Proof.Machine

/-- Requirement j of a block holds: unused, or its counter at the threshold; T28 counts ticks since the mark (R67). -/
def State.reqMet (s : State) (g c : Nat) (b : Block) (j : Nat) : Bool :=
  if b.thr j = 0 then true
  else if b.ctr j = 28 then decide (b.thr j ≤ (s.ctx g c).ticks - b.mark)
  else decide (b.thr j ≤ s.f F.CORE_TOKEN_COUNT g c (b.ctr j))

/-- A firing of block n is executing (R67). -/
def State.executing (s : State) (g c n : Nat) : Bool :=
  (List.range 8).any (fun k => (s.strand g c k).exec && (s.strand g c k).block == n)

/-- Block n of context c on core g is eligible (R67). A block with no used requirement never is. -/
def State.eligible (s : State) (g c n : Nat) : Bool :=
  let x := s.ctx g c
  let b := x.blk n
  decide (n < x.blocks.length) && b.armed && !x.ready.contains n && !s.executing g c n &&
    (List.range 4).any (fun j => b.thr j != 0) && (List.range 4).all (fun j => s.reqMet g c b j)

/-- Armed blocks not eligible (CORE_CTX_STATE.WAITING). -/
def State.waiting (s : State) (g c : Nat) : List Nat :=
  (List.range (s.ctx g c).blocks.length).filter (fun n => ((s.ctx g c).blk n).armed && !s.eligible g c n)

/-- The thresholds of a block subtracted from their counters, T28 excepted (R69). Where two requirements of the block name
one counter and it falls below the second threshold, the spec states no difference: a free value (log entry 2). -/
def State.consume (s : State) (g c : Nat) (b : Block) : State :=
  iter 4 (fun j s =>
    let v := s.f F.CORE_TOKEN_COUNT g c (b.ctr j)
    if b.thr j = 0 ∨ b.ctr j = 28 then s
    else if b.thr j ≤ v then s.setF F.CORE_TOKEN_COUNT (v - b.thr j) g c (b.ctr j)
    else s.free.2.setF F.CORE_TOKEN_COUNT s.free.1.toNat g c (b.ctr j)) s

/-- The firing of block n (R69): tokens consumed, tick mark set, ONESHOT disarmed, appended to the ready queue. -/
def State.fire (s : State) (g c n : Nat) : State :=
  let b := (s.ctx g c).blk n
  let s := s.consume g c b
  let x := s.ctx g c
  let b' : Block := { b with mark := x.ticks, armed := b.armed && !b.oneshot, fires := (b.fires + 1) % 2 ^ 64, since := s.clk.now }
  let s := s.setCtx g c { x with blocks := modAt x.blocks n (fun _ => b'), ready := x.ready ++ [n] }
  (s.addF F.CORE_FIRES_COUNT 1 g c).progress g c

/-- BLOCK_FIRE (R69): the firing unit fires the lowest-numbered eligible block of a running context. -/
def execBlockFire (g c : Nat) (s : State) : Host.Outcome State Fault Refusal :=
  if !s.running g c then .next s else
  match (List.range (s.ctx g c).blocks.length).find? (s.eligible g c) with
  | none => .next s
  | some n => .next (s.fire g c n)

/-- The block that is dispatched next (R70): the first DEFER = 0 block of the ready queue, otherwise the first DEFER = 1
block while fewer than MAX strands execute one. -/
def State.nextReady (s : State) (g c : Nat) : Option Nat :=
  let x := s.ctx g c
  match x.ready.find? (fun n => !(x.blk n).defer) with
  | some n => some n
  | none =>
    let busy := ((List.range 8).filter (fun k => (s.strand g c k).exec && (x.blk (s.strand g c k).block).defer)).length
    if busy < s.f F.CORE_DEFER_MAX_MAX g c then x.ready.head? else none

/-- A strand of another context that is not halted still executes a block on the core (R28). -/
def State.othersExecuting (s : State) (g c : Nat) : Bool :=
  (List.range 4).any (fun d => decide (d ≠ c) && !s.haltedOn g d && (List.range 8).any (fun k => (s.strand g d k).exec))

/-- The vector configuration word at dispatch (Table ISA-10). -/
def vcfgDispatch : Word := 0x0000000703000100#64

/-- The dispatch of block n on strand k (R62). -/
def State.dispatch (s : State) (g c n k : Nat) : State :=
  let x := s.ctx g c
  let b := x.blk n
  let u := s.core g
  let t : Strand := { exec := true, block := n, fid := u.seq, vcfg := vcfgDispatch }
  let t := (((t.wr 1 b.w2).wr 2 (BitVec.ofNat 64 s.clk.frame)).wr 3 (BitVec.ofNat 64 n)).wr 4 (BitVec.ofNat 64 (b.fires + 2 ^ 64 - 1))
  let s := s.setCore g { u with seq := u.seq + 1 }
  (s.setCtx g c { x with ready := x.ready.erase n }).setStrand g c k t

/-- BLOCK_DISPATCH (R70, R26, R28): the next ready block starts on the lowest free strand of the owning context. -/
def execBlockDispatch (g c : Nat) (s : State) : Host.Outcome State Fault Refusal :=
  if !s.running g c || !s.owns g c || s.othersExecuting g c then .next s else
  match s.nextReady g c, (List.range 8).find? (fun k => !(s.strand g c k).exec) with
  | some n, some k => .next (s.dispatch g c n k)
  | _, _ => .next s

/-! ### Closing a frame -/

/-- The overrun of frame fr on core g closes after time t (R47, R60). -/
def State.overrunClosed (s : State) (g c fr t : Nat) : State :=
  let t := satN 32 t
  let s := (s.setF F.FRM_OVR_LAST_TIME t c).setF F.FRM_OVR_LAST_CORE g c
  let s := s.setF F.FRM_OVR_LAST_FRAME_FRAME fr c
  let s := if s.f F.FRM_OVR_MAX_TIME c < t then s.setF F.FRM_OVR_MAX_TIME t c else s
  s.event F.FRM_EVENT_OVERRUN c

/-- The oldest open frame of a context on a core closes (R73, R47); with none open FCLOSE_EMPTY is set. -/
def State.closeFrame (s : State) (g c : Nat) : State :=
  let x := s.ctx g c
  match x.frames with
  | [] => s.event F.CORE_EVENT_FCLOSE_EMPTY 0 g c
  | fr :: rest =>
    let s := s.setCtx g c { x with frames := rest }
    match fr.timer with
    | none => s
    | some t => s.overrunClosed g c fr.frame (s.clk.now - t)

end Sys2Proof.Machine
end

