-- ==== Sys2Proof/Machine/Train.lean ====
section
/-! DEFINITION. The step transaction of a context: causes, votes, decisions, gradient-noise statistics and the altimeter
(R283 to R310). -/

namespace Sys2Proof.Machine

/-! ### State -/

def State.trnOf (s : State) (c : Nat) : Trn := SMap.get {} s.trn c

def State.setTrn (s : State) (c : Nat) (x : Trn) : State := { s with trn := SMap.set id {} s.trn c x }

/-- STATE of a context's step: 0 idle, 1 open, 2 decided, 3 undecided, 4 committed, 5 aborted. -/
def State.stepState (s : State) (c : Nat) : Nat := s.f F.TRN_STEP_STATE_STATE c

/-- A step is open. -/
def State.stepOpen (s : State) (c : Nat) : Bool := s.stepState c == 1

/-- A TRN register as in force: as it stood at the open while the step is open, decided or undecided (R310). -/
def State.trnReg (s : State) (r : Reg) : Word :=
  let st := s.stepState r.i
  if st = 1 ∨ st = 2 ∨ st = 3 then ((s.trnOf r.i).eff.find? (fun e => e.1 = r)).elim (s.reg r) (·.2) else s.reg r

/-- A field of a TRN register as in force. -/
def State.trnF (s : State) (x : Fld) (c : Nat) (i : Nat := 0) : Nat := bits (s.trnReg ⟨x.reg, c, i, 0⟩) x.lo x.len

/-- The registers that an open takes over (R310). -/
def trnHeld (c : Nat) : List Reg :=
  [⟨.TRN_STEP_CFG, c, 0, 0⟩, ⟨.TRN_VOTE_FRAME, c, 0, 0⟩, ⟨.TRN_STEP_LIMIT, c, 0, 0⟩, ⟨.TRN_VOTERS, c, 0, 0⟩,
   ⟨.TRN_VOTERS, c, 1, 0⟩, ⟨.TRN_VOTERS, c, 2, 0⟩, ⟨.TRN_VOTERS, c, 3, 0⟩, ⟨.TRN_LEDGER_BASE, c, 0, 0⟩,
   ⟨.TRN_LEDGER_SLOTS, c, 0, 0⟩]

/-- Core g votes for context c (TRN_VOTERS). -/
def State.isVoter (s : State) (c g : Nat) : Bool := bitN (s.trnF F.TRN_VOTERS_CORES c (g / 64)) (g % 64)

/-- The voters, ascending. -/
def State.voters (s : State) (c : Nat) : List Nat := (List.range 256).filter (s.isVoter c)

/-! ### Votes and causes (R290 to R293) -/

/-- Core g votes with its flag, or with 1: the entry into the commit col, which may stall, and the marks of the round. A
halted context cannot vote (Table TRN-3). -/
def State.vote (s : State) (c g : Nat) (one : Bool) : State :=
  let x := s.trnOf c
  let id := s.trnF F.TRN_STEP_CFG_COMMIT_COL c
  let flag := one || x.flags.contains g
  if s.halted c || x.voted.contains g then s else
  let s := s.setTrn c { x with voted := x.voted ++ [g] }
  let s := if flag then s.setF F.TRN_STEP_STATE_FLAG 1 c else s
  if !s.colOk g c id 1 then s.raiseAt g c 0x0C none none
  else if s.colRoom g c id then s.colSend g c id .vote flag
  else s.colStall g { c := c, id := id, waiter := .vote, flag := flag }

/-- A cause after a vote is recorded (R291). -/
def State.lateCause (s : State) (c code : Nat) : State :=
  (s.setF F.TRN_STEP_STATE_LATE_CAUSE code c).event F.TRN_EVENT_LATE_CAUSE c

/-- A cause arises on core g (R291, R292); code 6 is the host's, of no core, with g = 0xFF for the record. While the step is
open and a voter has not voted it becomes the first cause if none was, sets the core's flag, and every voter that has not
voted votes at once with flag 1; those of a halted context cannot, and there the host's cause sets the flag of each. On a
voter that has voted, and after the votes, it is recorded as late. -/
def State.trnCause (s : State) (c g code : Nat) : State :=
  let x := s.trnOf c
  let st := s.stepState c
  let left := (s.voters c).filter (fun v => !x.voted.contains v)
  if st = 1 ∧ left ≠ [] then
    let s := if s.f F.TRN_STEP_STATE_CAUSE c = 0 then
        (s.setF F.TRN_STEP_STATE_CAUSE code c).setF F.TRN_STEP_STATE_CORE g c else s
    let s := s.setTrn c { x with flags := x.flags ++ if code = 6 then left else [g] }
    let s := left.foldl (fun s v => s.vote c v true) s
    if code ≠ 6 ∧ x.voted.contains g then s.lateCause c code else s
  else if st = 1 ∨ st = 2 ∨ st = 3 then s.lateCause c code
  else s

/-- An entry of the commit col that makes the local round of an open or undecided step complete sets VOTED (R295). -/
def State.roundVoted (s : State) (e : ColEnt) : State :=
  match s.colName e.phys with
  | none => s
  | some (c, id) =>
    let st := s.stepState c
    let round := s.f F.COL_CTR_STATE_ROUND e.phys
    let count := if e.tag = round % 4 then s.f F.COL_CTR_STATE_C0 e.phys
      else if e.tag = (round + 1) % 4 then s.f F.COL_CTR_STATE_C1 e.phys else 2 ^ 10
    if (st = 1 ∨ st = 3) ∧ id = s.trnF F.TRN_STEP_CFG_COMMIT_COL c ∧ count + 1 = s.f F.COL_CTR_CFG_COUNT e.phys then
      s.setF F.TRN_STEP_STATE_VOTED 1 c
    else s

/-- A step control is refused (Table TRN-5). -/
def State.trnRefuse (s : State) (c code : Nat) : State :=
  (s.setF F.TRN_STEP_STATE_REFUSE code c).event F.TRN_EVENT_REFUSED c

/-- `on_release` (R294): the first release of the step's round at any voter is the decision. -/
def State.trnRelease (c : Nat) (flag : Bool) (s : State) : State :=
  let st := s.stepState c
  if st = 1 ∨ st = 3 then
    let s := (s.setF F.TRN_STEP_STATE_STATE 2 c).setTrn c { s.trnOf c with commit := !flag }
    if flag && s.f F.TRN_STEP_STATE_CAUSE c == 0 then
      (s.setF F.TRN_STEP_STATE_CAUSE 8 c).setF F.TRN_STEP_STATE_CORE 0xFF c
    else s
  else s

/-! ### Gradient-noise statistics (R304, R305) -/

/-- The exact sum of squares of some values. -/
def sumSquares (vs : List FVal) : FVal := vs.foldl (fun a v => (addV 0 a (mulV v v).1).1) (.fin false 0 0)

/-- A measurement joins its bucket: that of the bracket in which the instruction was issued; one issued with no bracket open is
unbinned (R304). -/
def State.gnsAdd (s : State) (c : Nat) (bin : Option Nat) (f : Bucket → Bucket) : State :=
  match bin with
  | none => s.addF F.TRN_GNS_STATUS_UNBINNED 1 c
  | some l =>
    let x := s.trnOf c
    s.setTrn c { x with buckets := SMap.set id {} x.buckets l (f (SMap.get {} x.buckets l)) }

/-- Traverse t is measured (TRN_GNS_CFG.TRV_MASK) while a step is open. -/
def State.gnsOn (s : State) (c t : Nat) : Bool := s.stepOpen c && bitN (s.f F.TRN_GNS_CFG_TRV_MASK c) t

/-- A local contribution of weight w. -/
def Bucket.addLocal (b : Bucket) (sq : FVal) (w : Nat) : Bucket :=
  { b with localSq := (addV 0 b.localSq sq).1, localN := b.localN + 1, localW := b.localW + w }

/-- A reduced total of w contributors. -/
def Bucket.addTotal (b : Bucket) (sq : FVal) (w : Nat) : Bucket :=
  { b with totalSq := (addV 0 b.totalSq sq).1, totalW := b.totalW + w }

/-- `gns_publish`: the step's sums replace the bucket registers, each rounded once. -/
def State.gnsPublish (s : State) (c : Nat) : State :=
  let x := s.trnOf c
  let word (v : FVal) : Nat := (encodeF (fmt 0) {} v).1
  let s := iter 256 (fun l s =>
    let b : Bucket := SMap.get {} x.buckets l
    let s := s.setF F.TRN_GNS_LOCAL_SQ (word b.localSq) c l
    let s := s.setF F.TRN_GNS_TOTAL_SQ (word b.totalSq) c l
    let s := s.setF F.TRN_GNS_COUNT_LOCAL_N b.localN c l
    let s := s.setF F.TRN_GNS_COUNT_TOTAL_W b.totalW c l
    s.setF F.TRN_GNS_WEIGHT_LOCAL_W b.localW c l) s
  let s := s.addSatF F.TRN_GNS_STATUS_SAMPLES 1 c
  s.setF F.TRN_GNS_STATUS_READY (if 8 ≤ s.f F.TRN_GNS_STATUS_SAMPLES c then 1 else 0) c

/-! ### The decision at a tick (R285, R294) -/

/-- The step record (Table TRN-1). -/
def State.trnRecord (s : State) (c m : Nat) : State :=
  let a := s.f F.TRN_STEP_REC_ADDR c
  let st := s.stepState c
  let core := if s.f F.TRN_STEP_STATE_CAUSE c = 0 then 0xFF else s.f F.TRN_STEP_STATE_CORE c
  if a = 0 ∨ a % 64 ≠ 0 ∨ a / 2 ^ 44 ≠ s.node ∨ hbmSize ≤ a % 2 ^ 44 then s else
  s.write (hbmKey (a % 2 ^ 44)) (toLE 8 (s.f F.TRN_STEP_NUM_STEP c) ++ toLE 8 (s.f F.TRN_STEP_DONE_STEP c) ++
    toLE 1 (if st = 4 then 1 else 2) ++ toLE 1 (s.f F.TRN_STEP_STATE_BANK c) ++
    toLE 1 (s.f F.TRN_STEP_STATE_CAUSE c) ++ toLE 1 core ++ zeroBytes 4 ++ toLE 8 m ++ zeroBytes 32)

/-- The altimeter snapshot of a decision (R307). -/
def State.altSnapshot (s : State) (c : Nat) : State :=
  let x := s.trnOf c
  let s := iter 8 (fun p s => s.setF F.TRN_ALT_STEP_TIME (SMap.get 0 x.phases p) c p) s
  let s := s.setF F.TRN_ALT_INFO_FIRST (if x.seen then 0 else 1) c
  let s := s.setF F.TRN_ALT_INFO_ABORTED (if s.stepState c = 5 then 1 else 0) c
  (s.setF F.TRN_ALT_INFO_STEP (s.f F.TRN_STEP_NUM_STEP c) c).setTrn c { x with seen := true }

/-- The refusal code of an open at tick m; 0 where it is accepted (Table TRN-5). -/
def State.openRefusal (s : State) (c m : Nat) : Nat :=
  let st := s.stepState c
  let id := s.f F.TRN_STEP_CFG_COMMIT_COL c
  let phys := s.f F.COL_XLATE_PHYS c id
  let voters := (List.range 256).filter (fun g => bitN (s.f F.TRN_VOTERS_CORES c (g / 64)) (g % 64))
  if st ≠ 0 ∧ st ≠ 4 ∧ st ≠ 5 then 1
  else if s.f F.TRN_STEP_NEXT_STEP c = 0 ∨ s.f F.TRN_STEP_NEXT_STEP c ≤ s.f F.TRN_STEP_DONE_STEP c ∨
    s.f F.TRN_VOTE_FRAME_FRAME c ≤ m then 2
  else if !s.fb F.COL_XLATE_VALID c id || s.f F.COL_XLATE_KIND c id != 1 ||
    voters.any (fun g => decide (s.outstanding g c id ≠ 0)) then 3
  else if voters.length ≠ s.f F.COL_CTR_CFG_COUNT phys ∨ voters.any (fun g => !s.coreOk g) then 4
  else 0

/-- The open of a step at tick m (R289). -/
def State.trnOpen (s : State) (c m : Nat) : State :=
  match s.openRefusal c m with
  | 0 =>
    let x := s.trnOf c
    let s := s.setTrn c { x with eff := (trnHeld c).map (fun r => (r, s.reg r)), openFrame := m, voted := [], flags := [],
                                 buckets := [], phases := [] }
    let s := s.setF F.TRN_STEP_STATE_STATE 1 c
    let s := s.setF F.TRN_STEP_STATE_VOTED 0 c
    let s := s.setF F.TRN_STEP_STATE_FLAG 0 c
    let s := s.setF F.TRN_STEP_STATE_CAUSE 0 c
    let s := s.setF F.TRN_STEP_STATE_CORE 0 c
    s.setF F.TRN_STEP_NUM_STEP (s.f F.TRN_STEP_NEXT_STEP c) c
  | code => s.trnRefuse c code

/-- `step_tick` (R294). -/
def State.trnTick (s : State) (c m : Nat) : State :=
  let x := s.trnOf c
  let st := s.stepState c
  if st = 2 then
    let period := s.trnF F.TRN_STEP_CFG_PERIOD c
    let auto := s.trnF F.TRN_STEP_CFG_AUTO c
    let s :=
      if x.commit then
        let n := s.f F.TRN_STEP_NUM_STEP c
        let s := s.setF F.TRN_STEP_STATE_BANK (1 - s.f F.TRN_STEP_STATE_BANK c) c
        let s := s.setF F.TRN_STEP_DONE_STEP n c
        let s := s.setF F.TRN_STEP_NEXT_STEP (n + 1) c
        let s := s.setF F.TRN_STEP_STATE_STATE 4 c
        (s.addF F.TRN_COMMITS_COUNT 1 c).gnsPublish c
      else (s.setF F.TRN_STEP_STATE_STATE 5 c).addF F.TRN_ABORTS_COUNT 1 c
    let s := (s.trnRecord c m).altSnapshot c
    let s := s.setTrn c { s.trnOf c with buckets := [], phases := [] }
    let s := if x.commit then s.event F.TRN_EVENT_COMMIT c else s.event F.TRN_EVENT_ABORT c
    if x.commit && auto == 1 then
      (s.setF F.TRN_VOTE_FRAME_FRAME (s.f F.TRN_VOTE_FRAME_FRAME c + period) c).trnOpen c m
    else s
  else if st = 1 ∧ m = s.trnF F.TRN_VOTE_FRAME_FRAME c + s.trnF F.TRN_STEP_LIMIT_LIMIT c then
    (s.setF F.TRN_STEP_STATE_STATE 3 c).event F.TRN_EVENT_UNDECIDED c
  else s

/-- Action 4 of tick m for a context: the decision, then an open that was requested. -/
def State.trnAction (s : State) (c m : Nat) : State :=
  let s := s.trnTick c m
  let x := s.trnOf c
  if x.openReq then (s.setTrn c { x with openReq := false }).trnOpen c m else s

/-- Discarding a context: idle, STEP_DONE 0, BANK 0 (Table TRN-3). -/
def State.trnDiscard (s : State) (c : Nat) : State :=
  let s := s.setF F.TRN_STEP_STATE_STATE 0 c
  let s := s.setF F.TRN_STEP_STATE_BANK 0 c
  let s := s.setF F.TRN_STEP_DONE_STEP 0 c
  s.setTrn c { s.trnOf c with openReq := false, voted := [], flags := [], buckets := [], phases := [] }

/-! ### Commands -/

/-- TRN_STEP_OPEN (R289): the open is requested for the next tick. -/
def execTrnStepOpen (c : Nat) (s : State) : Host.Outcome State Fault Refusal :=
  .next (s.setTrn c { s.trnOf c with openReq := true })

/-- TRN_STEP_ABORT (R292): cause 6 of an open step; otherwise refusal 1. -/
def execTrnStepAbort (c : Nat) (s : State) : Host.Outcome State Fault Refusal :=
  .next (if s.stepOpen c then s.trnCause c 0xFF 6 else s.trnRefuse c 1)

/-- FORCE_COMMIT (R295): an undecided step whose local round is complete with flag 0 is decided as committed. -/
def execForceCommit (c : Nat) (s : State) : Host.Outcome State Fault Refusal :=
  if s.stepState c ≠ 3 then .next (s.trnRefuse c 1)
  else if s.fb F.TRN_STEP_STATE_VOTED c && !s.fb F.TRN_STEP_STATE_FLAG c then
    .next ((s.setF F.TRN_STEP_STATE_STATE 2 c).setTrn c { s.trnOf c with commit := true })
  else .next (s.trnRefuse c 5)

/-- FORCE_ABORT (R295): an undecided step is decided as aborted, with cause 7 where it had none. -/
def execForceAbort (c : Nat) (s : State) : Host.Outcome State Fault Refusal :=
  if s.stepState c ≠ 3 then .next (s.trnRefuse c 1)
  else
    let s := (s.setF F.TRN_STEP_STATE_STATE 2 c).setTrn c { s.trnOf c with commit := false }
    .next (if s.f F.TRN_STEP_STATE_CAUSE c = 0 then
      (s.setF F.TRN_STEP_STATE_CAUSE 7 c).setF F.TRN_STEP_STATE_CORE 0xFF c else s)

/-- STEP_UNDECIDED (R294): at tick VOTE_FRAME + LIMIT an open step turns undecided. -/
def execStepUndecided (c : Nat) (s : State) : Host.Outcome State Fault Refusal :=
  .next (if s.atTick && s.stepOpen c && s.clk.frame == s.trnF F.TRN_VOTE_FRAME_FRAME c + s.trnF F.TRN_STEP_LIMIT_LIMIT c then
    (s.setF F.TRN_STEP_STATE_STATE 3 c).event F.TRN_EVENT_UNDECIDED c else s)

/-- TRN_GNS_CFG_WRITE (R305): the measured traverses are set and SAMPLES is 0; READY is 0 until it reaches 8. -/
def execTrnGnsCfgWrite (c : Nat) (v : Word) (s : State) : Host.Outcome State Fault Refusal :=
  .next (((s.setF F.TRN_GNS_CFG_TRV_MASK v.toNat c).setF F.TRN_GNS_STATUS_SAMPLES 0 c).setF F.TRN_GNS_STATUS_READY 0 c)

/-- FCLOSE (R73, R290): waits for the strand's engine instructions, closes the oldest open frame; the close of the vote
frame on a voter of an open step is its vote. -/
def execFclose (g c k : Nat) (s : State) : Host.Outcome State Fault Refusal :=
  .next (s.issue g c k .fclose (fun s _ =>
    if s.engineBusy g c k true true then s else
    let votes := match (s.ctx g c).frames with
      | fr :: _ => decide (fr.frame = s.trnF F.TRN_VOTE_FRAME_FRAME c) && s.stepOpen c && s.isVoter c g
      | [] => false
    let s := (s.closeFrame g c).retire g c k (s.strand g c k)
    if votes then s.vote c g false else s))

/-- COL_ENTRY_ARRIVAL (R271): entry n on its way reaches its counter; it is the oldest of its core for that counter. -/
def execColEntryArrival (n : Nat) (s : State) : Host.Outcome State Fault Refusal :=
  match s.colEnts[n]? with
  | none => .next s
  | some e =>
    if (s.colEnts.take n).any (fun x => decide (x.g = e.g ∧ x.phys = e.phys)) then .next s
    else .next ((({ s with colEnts := s.colEnts.eraseIdx n } : State).roundVoted e).colOnEntry e.phys e.tag e.flag)

/-- COL_RELEASE_ARRIVAL (R272): release n on its way reaches its core; it is the oldest of that core and counter. -/
def execColReleaseArrival (n : Nat) (s : State) : Host.Outcome State Fault Refusal :=
  match s.colRels[n]? with
  | none => .next s
  | some r =>
    if (s.colRels.take n).any (fun x => decide (x.g = r.g ∧ x.phys = r.phys)) then .next s
    else .next (({ s with colRels := s.colRels.eraseIdx n } : State).colArrive State.trnRelease r)

end Sys2Proof.Machine
end

