-- ==== Sys2Proof/Machine/Traverse.lean ====
section
/-! DEFINITION. Traverse entries: landing, credit, skips, late totals and their registers (R136 to R141, R149, R296). -/

namespace Sys2Proof.Machine

/-! ### Accumulators (R124) -/

/-- The mode of an accumulator: 0 empty, 1 float, 2 integer, 3 FP64. -/
def State.accMode (s : State) (g c a : Nat) : Nat :=
  if a = 0 then s.f F.MTX_ACC_STATE_MODE0 g c else s.f F.MTX_ACC_STATE_MODE1 g c

/-- The listed totals of an accumulator. -/
def State.accTot (s : State) (g c a : Nat) : SMap Nat Nat := SMap.get [] s.accs (g, c, a)

/-- An accumulator holds an uncorrectable error (Table REL-1, unit 2). -/
def State.accBad (s : State) (g c a : Nat) : Bool := s.badAcc.contains (g, c, a)

/-- An accumulator with a mode and totals, written whole. -/
def State.setAcc (s : State) (g c a mode : Nat) (tot : SMap Nat Nat) : State :=
  let s := { s with
    accs := SMap.set (fun k => (4 * k.1 + k.2.1) * 2 + k.2.2) [] s.accs (g, c, a) (if mode = 0 then [] else tot)
    badAcc := s.badAcc.filter (fun e => e ≠ (g, c, a)) }
  if a = 0 then s.setF F.MTX_ACC_STATE_MODE0 mode g c else s.setF F.MTX_ACC_STATE_MODE1 mode g c

/-- Totals as an array of 16,384 words. -/
def denseTot (tot : SMap Nat Nat) : Array Nat := tot.foldl (fun a e => a.setIfInBounds e.1 e.2) (Array.replicate 16384 0)

/-- Totals with +0 not listed. -/
def sparseTot (es : List Nat) : SMap Nat Nat := ((List.range es.length).zip es).filter (fun e => decide (e.2 ≠ 0))

/-! ### Areas (Table MTX-3) -/

/-- The bytes of a landing or late area. -/
def areaSize : Nat := 131136

/-- The 131,072 B of totals. -/
def totBytes (tot : SMap Nat Nat) : List Byte := (denseTot tot).toList.flatMap (toLE 8)

/-- The header of an area. -/
structure TrvHdr where
  trv : Nat
  mode : Nat
  skips : Nat
  contrib : Nat
  sender : Nat
  firstSkip : Nat
  frame : Nat
  digest : Nat
  deriving DecidableEq, Repr

/-- The 64 B of a header. -/
def TrvHdr.bytes (h : TrvHdr) : List Byte :=
  toLE 1 h.trv ++ toLE 1 h.mode ++ toLE 1 h.skips ++ zeroBytes 1 ++ toLE 4 h.contrib ++ toLE 8 h.sender ++
  toLE 8 h.firstSkip ++ toLE 8 h.frame ++ toLE 8 h.digest ++ zeroBytes 24

/-- A header read from an area. -/
def TrvHdr.ofArea (m : Mem) (k : Nat) : TrvHdr :=
  let n (o len : Nat) : Nat := ofLE (m.read (k + o) len)
  ⟨n 0 1, n 1 1, n 2 1, n 4 4, n 8 8, n 16 8, n 24 8, n 32 8⟩

/-- The totals of an area by element position. -/
def areaTot (m : Mem) (k : Nat) : SMap Nat Nat :=
  let cells := m.part [(k + 64, 131072)]
  sparseTot ((List.range 16384).map (fun p => ofLE (Mem.read cells (k + 64 + 8 * p) 8)))

/-- An area as cells from offset 0. -/
def areaOf (h : TrvHdr) (tot : SMap Nat Nat) : Mem :=
  Mem.write ((tot.flatMap (fun e => ((List.range 8).zip (toLE 8 e.2)).map (fun b => (64 + 8 * e.1 + b.1, b.2)))).filter
    (fun e => decide (e.2 ≠ unlistedByte))) 0 h.bytes

/-- This core's name in a header: node in [63:44], core in [7:0]. -/
def State.coreWord (s : State) (g : Nat) : Nat := s.node * 2 ^ 44 + g

/-- The area at an address register of an entry: its key, none outside the window (R149). -/
def State.areaKey (s : State) (g c addr : Nat) : Option Nat := s.operandKey g c (addr / 64 * 64) areaSize

def State.landKey (s : State) (g c t : Nat) : Option Nat := s.areaKey g c (s.f F.MTX_TRV_LAND_ADDR g c t)

def State.lateKey (s : State) (g c t : Nat) : Option Nat := s.areaKey g c (s.f F.MTX_TRV_LATE_ADDR g c t)

/-- An area stored at a key. -/
def State.putArea (s : State) (key : Nat) (area : Mem) : State :=
  { s with
    mem := (area.filter (fun e => decide (e.1 < areaSize))).foldr (fun e m => Mem.set m (key + e.1) e.2)
      (s.mem.filter (fun e => decide (e.1 < key) || decide (key + areaSize ≤ e.1)))
    poison := s.poison.filter (fun q => !(decide (key ≤ q * 64) && decide (q * 64 < key + areaSize))) }

/-! ### Entries -/

def State.hop (s : State) (g c t : Nat) : Hop := SMap.get {} s.hops (g, c, t)

def State.setHop (s : State) (g c t : Nat) (x : Hop) : State :=
  { s with hops := SMap.set (fun k => (4 * k.1 + k.2.1) * 16 + k.2.2) {} s.hops (g, c, t) x }

def State.trvState (s : State) (g c t : Nat) : Nat := s.f F.MTX_TRV_STATUS_STATE g c t

def State.setTrvState (s : State) (g c t st : Nat) : State := s.setF F.MTX_TRV_STATUS_STATE st g c t

/-- The next hop of an entry exists: a core of this module, or a node of the table. -/
def State.nextKnown (s : State) (g c t : Nat) : Bool :=
  let node := s.f F.MTX_TRV_NEXT_NEXT_NODE g c t
  if node = s.node then s.coreOk (s.f F.MTX_TRV_NEXT_NEXT_CORE g c t) else s.nodeKnown node

/-- An area sent to the next hop, whose credit it takes (R137): on this module it is in transit, to another it goes in
packets on the traverse's flow (R322, R325). -/
def State.trvSend (s : State) (g c t : Nat) (area : Mem) (poison : Bool) : State :=
  let node := s.f F.MTX_TRV_NEXT_NEXT_NODE g c t
  let core := s.f F.MTX_TRV_NEXT_NEXT_CORE g c t
  let s := s.setF F.MTX_TRV_STATUS_CREDIT 0 g c t
  if node = s.node then
    { s with transit := s.transit ++ [{ g := core, c := c, t := t, node := node, core := g, area := area, poison := poison }] }
  else
    let n := s.payloadMax
    let bs := Mem.read area 0 areaSize
    let pieces := chunksOf n (areaSize / n + 1) bs
    s.flowSend { cls := .traverse, core := g, sub := c, trv := t, node := node, dst := core }
      (((List.range pieces.length).zip pieces).map (fun e =>
        { pkt := { type := tTrv, ctx := c, addr := t, aux := e.1 * n, payload := e.2, poison := poison,
                   last := e.1 + 1 == pieces.length } }))

/-- A landed or empty total is forwarded (R139). Without credit the forward waits; a LAND outside the window is a fault of
the entry's core. -/
def State.trvForward (s : State) (g c t : Nat) (empty : Bool) : State :=
  let key := s.landKey g c t
  if !empty && key.isNone then s.raiseAt g c 0x09 none none
  else if !s.fb F.MTX_TRV_STATUS_CREDIT g c t then s.setHop g c t { s.hop g c t with wait := true }
  else if !s.nextKnown g c t then s.raiseAt g c 0x05 none none
  else
    let me := s.coreWord g
    let k := key.getD 0
    let h := TrvHdr.ofArea s.mem k
    let s :=
      if empty then
        s.trvSend g c t (areaOf ⟨t, 0, 1, 0, me, me, s.clk.frame, (crc64 (zeroBytes 131072)).toNat⟩ []) false
      else
        s.trvSend g c t (areaOf { h with trv := t, skips := min 255 (h.skips + 1), sender := me, frame := s.clk.frame,
                                         firstSkip := if h.skips = 0 then me else h.firstSkip } (areaTot s.mem k))
          (s.poisoned k areaSize)
    let s := s.setHop g c t { s.hop g c t with wait := false }
    (s.setTrvState g c t 3).event F.MTX_EVENT_SKIP c

/-- Credit returns to an entry and releases a forward that waits (R137, R139). -/
def State.trvCredit (s : State) (g c t : Nat) : State :=
  let s := s.setF F.MTX_TRV_STATUS_CREDIT 1 g c t
  if (s.hop g c t).wait then s.trvForward g c t (s.fb F.MTX_TRV_NEXT_FIRST g c t) else s

/-- The hop has consumed its landing area: credit goes to the core that sent the total (R137). -/
def State.creditUp (s : State) (g c t : Nat) : State :=
  match (s.hop g c t).up with
  | none => s
  | some (node, core) =>
    let s := s.setHop g c t { s.hop g c t with up := none }
    if node = s.node then s.trvCredit core c t
    else
      s.flowSend { cls := .control, node := node }
        [{ pkt := { ctrlPacket node 8 0 (toLE 8 t) with srcCore := g, dstCore := core, ctx := c } }]

/-- The arrival of a whole total at an entry (R137, R149): the area is written where LAND lies in the window, the entry
turns landed, or is forwarded at once where it is late-pending, and T(16 + RQ) counts it. -/
def State.trvLand (s : State) (g c t node core : Nat) (area : Option (Mem × Bool)) (contrib skips : Nat) : State :=
  let s := match area, s.landKey g c t with
    | some (a, p), some key => let s := s.putArea key a; if p then s.poisonAt key areaSize else s
    | _, _ => s
  let s := s.setHop g c t { s.hop g c t with up := some (node, core) }
  let s := s.setF F.MTX_TRV_STATUS_CONTRIB contrib g c t
  let s := s.setF F.MTX_TRV_STATUS_SKIPS skips g c t
  let s := match s.trvState g c t with
    | 2 => s.trvForward g c t false
    | 3 => s
    | _ => s.setTrvState g c t 1
  s.token g c (16 + s.f F.MTX_TRV_NEXT_RQ g c t) 1

/-- Tick action 9 for an entry (R139): at DUE + 1 an unsent SKIP_EN entry that is not LAST is late. -/
def State.trvSkip (s : State) (g c t frame : Nat) : State :=
  let due := s.fb F.MTX_TRV_NEXT_SKIP_EN g c t && !s.fb F.MTX_TRV_NEXT_LAST g c t &&
    decide (s.f F.MTX_TRV_DUE_FRAME g c t + 1 = frame) && !(s.hop g c t).sent && !(s.hop g c t).wait
  if !due then s
  else if s.fb F.MTX_TRV_NEXT_FIRST g c t then
    if s.trvState g c t = 0 then s.trvForward g c t true else s
  else match s.trvState g c t with
    | 0 => s.setTrvState g c t 2
    | 1 => s.trvForward g c t false
    | _ => s

/-- Action 9: every entry, by core, context and traverse. -/
def State.skipAction (s : State) (frame : Nat) : State :=
  ((s.listed .MTX_TRV_NEXT).filter (fun r => s.coreOk r.i)).foldl (fun s r => s.trvSkip r.i r.j r.k frame) s

/-- An MTIN or MTOUT on traverse t is queued or running. -/
def State.trvQueued (s : State) (g c t : Nat) : Bool :=
  (s.core g).mtxq.any (fun o => decide (o.who.c = c) && (decide (o.dec.op = .mtin) || decide (o.dec.op = .mtout)) &&
    decide (o.dec.field 16 4 = t))

/-- A write to NEXT, LAND or LATE of an entry (R149); the registers of a core that does not exist are reserved (R148). A write to
NEXT sets CREDIT; a skip forward that waits goes on waiting for the credit's return (log entry 52). -/
def State.trvWrite (s : State) (g c t : Nat) (w : TrvReg) (v : Word) : State :=
  if !s.coreOk g || s.trvState g c t ≠ 0 || s.trvQueued g c t then s
  else match w with
    | .next =>
      (s.setReg ⟨.MTX_TRV_NEXT, g, c, t⟩ (v &&& 0xFFFFF000FFFF3FFF#64)).setF F.MTX_TRV_STATUS_CREDIT 1 g c t
    | .land => s.setReg ⟨.MTX_TRV_LAND, g, c, t⟩ v
    | .late => s.setReg ⟨.MTX_TRV_LATE, g, c, t⟩ v

/-- A write to MTX_TRV_DUE: the hop counts as unsent for the new frame (R139). -/
def State.trvDueWrite (s : State) (g c t : Nat) (v : Word) : State :=
  (s.setReg ⟨.MTX_TRV_DUE, g, c, t⟩ v).setHop g c t { s.hop g c t with sent := false }

/-- The reset of an entry when its context is discarded or unloaded (R149). -/
def State.trvReset (s : State) (g c : Nat) : State :=
  iter 16 (fun t s =>
    let s := s.setHop g c t {}
    let s := s.setTrvState g c t 0
    let s := s.setF F.MTX_TRV_STATUS_CREDIT 1 g c t
    s.setF F.MTX_TRV_STATUS_LATE 0 g c t) s

/-! ### Commands -/

/-- A total of the module's own transit list lands. -/
def State.landOwn (s : State) (n : Nat) : State :=
  match s.transit[n]? with
  | none => s
  | some m =>
    let h := TrvHdr.ofArea m.area 0
    ({ s with transit := s.transit.eraseIdx n } : State).trvLand m.g m.c m.t m.node m.core (some (m.area, m.poison))
      h.contrib h.skips

/-- TRAVERSE_SKIP (R139): the skip of one entry, at tick DUE + 1. -/
def execTraverseSkip (g c t : Nat) (s : State) : Host.Outcome State Fault Refusal := 
  .next (if s.atTick then s.trvSkip g c t s.clk.frame else s)

/-- MTX_TRV_NEXT_WRITE (R149). -/
def execMtxTrvNextWrite (g c t : Nat) (w : TrvReg) (v : Word) (s : State) : Host.Outcome State Fault Refusal :=
  .next (s.trvWrite g c t w v)

end Sys2Proof.Machine
end

