-- ==== Sys2Proof/Machine/Vector.lean ====
section
/-! DEFINITION. The element operations of the vector engine and the issue of vector instructions (R150 to R161, R109,
R110, Table VEC-1). -/

namespace Sys2Proof.Machine

/-! ### Configuration word (Table ISA-10) -/

def VOp.vlen (o : VOp) : Nat := bits o.cfg 0 24
def VOp.dfmt (o : VOp) : Nat := bits o.cfg 24 4
def VOp.sat (o : VOp) : Bool := bit o.cfg 28
def VOp.nsr (o : VOp) : Nat := bits o.cfg 32 4 + 1
def VOp.rowlen (o : VOp) : Nat := if bits o.cfg 40 16 = 0 then o.vlen else bits o.cfg 40 16

/-! ### Integer and bit operations (R155, R156) -/

/-- The value of an integer encoding. -/
def intVal (x : Fmt) (v : Nat) : Int := if x.signed then signedN x.width v else (v % 2 ^ x.width : Nat)

/-- An exact integer into a format: saturated under SAT, else its low bits (R155). -/
def fitInt (x : Fmt) (sat : Bool) (z : Int) : Elem :=
  if sat then let (v, o) := satInt x z; (v, { ovf := o }) else (wrapN x.width z, {})

/-- VADD, VSUB, VMUL, VSHL, VSHR (R155). -/
def vecInt (op : Op) (x : Fmt) (sat : Bool) (a b : Nat) : Elem :=
  let va := intVal x a
  let count := b % 256
  match op with
  | .vadd => fitInt x sat (va + intVal x b)
  | .vsub => fitInt x sat (va - intVal x b)
  | .vmul => fitInt x sat (va * intVal x b)
  | .vshl => fitInt x sat (va * 2 ^ count)
  | _ => (wrapN x.width (va / 2 ^ count), {})

/-- The condition COND of two values (Table ISA-11, R109); nanless formats are never unordered. -/
def vecCond (cond : Nat) (a b : FVal) : Bool :=
  let un := a.isNaN || b.isNaN
  match cond with
  | 0 => eqV a b
  | 1 => !eqV a b
  | 2 => ltV a b
  | 3 => ltV a b || eqV a b
  | 4 => ltV b a
  | 5 => ltV b a || eqV a b
  | 6 => un
  | _ => !un

/-- An immediate as an element of FMT: its low bits; for FP64 the FP32 value widened exactly (R154). -/
def vecImm (f imm : Nat) : Nat :=
  if f ≠ 0 then imm % 2 ^ (fmt f).width
  else match decodeF (fmt 1) imm with
    | .nan _ => bitsN imm 31 1 * 2 ^ 63 + 2047 * 2 ^ 52 + bitsN imm 0 23 * 2 ^ 29
    | v => (encodeF (fmt 0) {} v).1

/-! ### Seeds and refinement (R159, R160) -/

/-- A positive value rounded to nearest even at 8 significant bits. -/
def rne8 (v : FVal) : FVal :=
  match v with
  | .fin n m e =>
    if m = 0 then v else
    let l := Nat.log2 m
    if l ≤ 7 then v else
    let d := 2 ^ (l - 7)
    let lo := m / d
    let r := m % d
    let up := decide (d < 2 * r) || (decide (2 * r = d) && decide (lo % 2 = 1))
    .fin n (if up then lo + 1 else lo) (e + (l - 7 : Nat))
  | _ => v

/-- m and e of a finite nonzero value: the exponent e and m7 of R159 as a value. -/
def seedParts (m : Nat) (e : Int) : Int × FVal :=
  let l := Nat.log2 m
  let top := if 7 ≤ l then m / 2 ^ (l - 7) else m * 2 ^ (7 - l)
  (e + l, .fin false (2 * top + 1) (-8))

/-- VRCP of a value. -/
def rcpSeed (v : FVal) : FVal × Bool :=
  match v with
  | .nan s => (.nan false, s)
  | .inf n => (.fin n 0 0, false)
  | .fin n m e =>
    if m = 0 then (.inf n, false) else
    let (x, m7) := seedParts m e
    match rne8 (divV (.fin false 1 0) m7) with
    | .fin _ q qe => (.fin n q (qe - x), false)
    | w => (w, false)

/-- VRSQ of a value. -/
def rsqSeed (v : FVal) : FVal × Bool :=
  match v with
  | .nan s => (.nan false, s)
  | .inf n => if n then (.nan false, true) else (.fin false 0 0, false)
  | .fin n m e =>
    if m = 0 then (.inf n, false)
    else if n then (.nan false, true)
    else
      let (x, m7) := seedParts m e
      let k := x / 2
      let mm := match m7 with
        | .fin _ a b => FVal.fin false a (b + (x - 2 * k))
        | w => w
      match rne8 (sqrtV (divV (.fin false 1 0) mm)) with
      | .fin _ q qe => (.fin false q (qe - k), false)
      | w => (w, false)

/-- A seed in FMT, by nearest even (R159). -/
def vecSeed (op : Op) (x : Fmt) (a : Nat) : Elem :=
  let (v, i) := if op = .vrcp then rcpSeed (decodeF x a) else rsqSeed (decodeF x a)
  let (w, fl) := encodeF x {} v
  (w, fl.or { inv := i })

/-- An exact value rounded to nearest even in a format, and its flags with an invalid flag added. -/
def roundStep (x : Fmt) (v : FVal × Bool) : FVal × FFlags :=
  let (w, fl) := encodeF x {} v.1
  (decodeF x w, fl.or { inv := v.2 })

/-- The value is zero or infinite. -/
def FVal.special : FVal → Bool
  | .fin _ m _ => m == 0
  | .inf _ => true
  | .nan _ => false

/-- `vrstep` (R160). -/
def vecStep (x : Fmt) (kind : Nat) (rnd : Rnd) (ya xb : Nat) : Elem :=
  let y := decodeF x ya
  let v := decodeF x xb
  let one : FVal := .fin false 1 0
  if y.isNaN || v.isNaN then (nanOf x, { inv := y.isSig || v.isSig })
  else if y.special || v.special then (ya, {})
  else if kind = 0 then
    let (r, f1) := roundStep x (fmaV 0 v.negate y one)
    let (z, i) := fmaV rnd.mode y r y
    let (w, f2) := encodeF x rnd z
    (w, (f1.or f2).or { inv := i })
  else
    let (t, f0) := roundStep x (mulV y y)
    let (r, f1) := roundStep x (fmaV 0 v.negate t one)
    let (h, f2) := roundStep x (mulV (.fin false 1 (-1)) y)
    let (z, i) := fmaV rnd.mode h r y
    let (w, f3) := encodeF x rnd z
    (w, (((f0.or f1).or f2).or f3).or { inv := i })

/-! ### Element operations -/

/-- One element of an element-wise operation; d is the destination's prior element. -/
def vecElem (op : Op) (f dst cond kind : Nat) (sat : Bool) (rnd : Rnd) (a b d : Nat) : Elem :=
  let x := fmt f
  let va := decodeF x a
  let vb := decodeF x b
  let out (r : FVal × Bool) : Elem := let (w, fl) := encodeF x rnd r.1; (w, fl.or { inv := r.2 })
  match op with
  | .vand => (a &&& b, {})
  | .vor => (a ||| b, {})
  | .vxor => (a ^^^ b, {})
  | .vcmp => (if vecCond cond va vb then 2 ^ x.width - 1 else 0, { inv := va.isSig || vb.isSig })
  | .vsel => (if d = 0 then b else a, {})
  | .vfadd => out (addV rnd.mode va vb)
  | .vfmul => out (mulV va vb)
  | .vfma => out (fmaV rnd.mode va vb (decodeF x d))
  | .vcvt => convF x (fmt dst) sat rnd a
  | .vrcp | .vrsq => vecSeed op x a
  | .vrstep => vecStep x kind rnd a b
  | _ => vecInt op x sat a b

/-! ### Reductions (R158, R110) -/

/-- The exact sum of a row, by R158. -/
def rowSum (mode : Nat) (vs : List FVal) : FVal × Bool :=
  let sig := vs.any FVal.isSig
  let pos := vs.any (fun v => decide (v = .inf false))
  let neg := vs.any (fun v => decide (v = .inf true))
  if vs.any FVal.isNaN then (.nan false, sig || (pos && neg))
  else if pos && neg then (.nan false, true)
  else if pos then (.inf false, false)
  else if neg then (.inf true, false)
  else
    let q := vs.foldl (fun q v => min q v.expo) 0
    let z := (vs.map (FVal.units q)).sum
    if z = 0 then
      let allNeg := vs.all (fun v => v.isZero && v.isNeg)
      let allPos := vs.all (fun v => v.isZero && !v.isNeg)
      (.fin (allNeg || (mode == 3 && !allPos)) 0 0, false)
    else (.fin (decide (z < 0)) z.natAbs q, false)

/-- The exact sum of a row of integers; the integer 0 is +0 (R158, R114). -/
def rowSumInt (vs : List FVal) : FVal × Bool :=
  let z := (vs.map FVal.toInt).sum
  (.fin (decide (z < 0)) z.natAbs 0, false)

/-- The maximum or minimum of a row, by R110. -/
def rowPick (op : Op) (vs : List FVal) : FVal × Bool :=
  if vs.any FVal.isNaN then (.nan false, vs.any FVal.isSig)
  else
    match vs with
    | [] => (.fin false 0 0, false)
    | v :: rest => (rest.foldl (fun m w => if op = .vredmax then (if ltTotal m w then w else m) else (if ltTotal w m then w else m)) v, false)

/-- One row into DFMT: an integer to an integer under SAT, everything else rounded once (R114). -/
def vecRow (op : Op) (f dst : Nat) (sat : Bool) (rnd : Rnd) (row : List Nat) : Elem :=
  let vs := row.map (decodeF (fmt f))
  let (v, i) := if op = .vredsum then (if (fmt f).float then rowSum rnd.mode vs else rowSumInt vs) else rowPick op vs
  if !(fmt f).float && !(fmt dst).float then fitInt (fmt dst) sat (FVal.toInt v)
  else
    let (w, fl) := encodeF (fmt dst) rnd v
    (w, fl.or { inv := i })

/-! ### The streams of an instruction -/

/-- What an instruction reads and writes: formats, counts, and the streams as address and bytes. -/
structure VLay where
  f : Nat
  dst : Nat
  count : Nat
  s1 : Nat × Nat
  s2 : Option (Nat × Nat)
  prior : Option (Nat × Nat)
  d : Nat × Nat
  deriving DecidableEq, Repr

/-- The opcode is a reduction. -/
def isRed (op : Op) : Bool := decide (op = .vredsum ∨ op = .vredmax ∨ op = .vredmin)

/-- FMT values of Table VEC-1. -/
def vecAccepts (op : Op) (f : Nat) : Bool :=
  match op with
  | .vadd | .vsub | .vmul | .vshl | .vshr => decide (10 ≤ f ∧ f ≤ 14)
  | .vfadd | .vfmul | .vfma => decide (f ≤ 9 ∧ f ≠ 2)
  | .vrcp | .vrsq | .vrstep => decide (f = 0 ∨ f = 1 ∨ f = 3 ∨ f = 4)
  | _ => decide (f ≤ 14 ∧ f ≠ 2)

/-- The opcode has a second source. -/
def hasS2 (op : Op) : Bool := !(isRed op || decide (op = .vcvt ∨ op = .vrcp ∨ op = .vrsq))

/-- The bytes of n packed elements of a format (R103, R150). -/
def packedBytes (f n : Nat) : Nat := ((fmt f).width * n + 7) / 8

/-- The streams of an instruction; a reduction writes VLEN ÷ ROWLEN elements, and its destination is checked over those (log
entry 50); none where the opcode does not accept FMT or DFMT, or ROWLEN does not divide VLEN
(R154, R158). -/
def vecLay (o : VOp) : Option VLay :=
  let op := o.dec.op
  let f := o.dec.f35
  let wide := isRed op || decide (op = .vcvt)
  let dst := if wide then o.dfmt else f
  let count := if isRed op then o.vlen / o.rowlen else o.vlen
  if !vecAccepts op f || !decide (dst ≤ 14 ∧ dst ≠ 2) || (isRed op && o.vlen % o.rowlen != 0) then none
  else some {
    f := f
    dst := dst
    count := count
    s1 := (o.rb, packedBytes f o.vlen)
    s2 := if hasS2 op && !o.dec.odd then some (o.rc, packedBytes f o.vlen) else none
    prior := if op = .vsel ∨ op = .vfma then some (o.ra, packedBytes f o.vlen) else none
    d := (o.ra, packedBytes dst count) }

/-- The streams read. -/
def VLay.reads (l : VLay) : List (Nat × Nat) := l.s1 :: (l.s2.toList ++ l.prior.toList)

/-- The scratchpad ranges of some address ranges, where they lie in the window. -/
def State.keysOf (s : State) (g c : Nat) (rs : List (Nat × Nat)) : List (Nat × Nat) :=
  rs.filterMap (fun r => (s.winKey g c r.1 r.2).map (fun k => (k, r.2)))

/-- Every stream of an instruction is an engine operand (R150). -/
def State.streamsOk (s : State) (g c : Nat) (rs : List (Nat × Nat)) : Bool :=
  rs.all (fun r => (s.operandKey g c r.1 r.2).isSome)

/-- A range of addresses in core g's scratchpad as offsets there: the self alias and the core's window are one place (R186). -/
def State.placeOf (s : State) (g : Nat) (r : Nat × Nat) : Nat × Nat := ((s.spadOff g r.1).getD r.1, r.2)

/-- The overlap rule of R152 between the destination and a source, by their places in the scratchpad. -/
def overlapOk (d src : Nat × Nat) (dw sw : Nat) : Bool :=
  !overlap d.1 d.2 src.1 src.2 || (decide (d.1 = src.1) && decide (dw ≤ sw))

/-- The elements of a stream. -/
def State.stream (s : State) (g c : Nat) (snap : Mem) (f n : Nat) (r : Nat × Nat) : List Nat × State :=
  match s.winKey g c r.1 r.2 with
  | none => ([], s)
  | some key =>
    let (bs, s) := s.raced snap key r.2
    (unpackElems (fmt f).width n bs, s)

/-- The rounding of element i (R117 to R119). -/
def VOp.rnd (o : VOp) (dst i : Nat) : Rnd :=
  let mode := o.dec.f32
  ⟨mode, o.nsr, if mode = 4 then srBits o.seed o.tag (i % lanesOf (fmt dst)) i o.nsr else 0⟩

/-- The rows of a list, n of length len. -/
def rowsOf : Nat → Nat → List Nat → List (List Nat)
  | 0, _, _ => []
  | n + 1, len, es => es.take len :: rowsOf n len (es.drop len)

/-- The result elements and flags of an instruction over its streams. -/
def vecResult (o : VOp) (l : VLay) (s1 s2 prior : List Nat) : List Nat × FFlags :=
  let op := o.dec.op
  let es : List Elem :=
    if isRed op then
      ((rowsOf l.count o.rowlen s1).zip (List.range l.count)).map (fun p => vecRow op l.f l.dst o.sat (o.rnd l.dst p.2) p.1)
    else
      let b := vecImm l.f o.dec.vimm
      let s2 := if s2.isEmpty then List.replicate l.count b else s2
      let prior := if prior.isEmpty then List.replicate l.count 0 else prior
      ((s1.zip (s2.zip prior)).zip (List.range l.count)).map (fun p =>
        vecElem op l.f l.dst o.dec.f32 (o.dec.vimm % 2) o.sat (o.rnd l.dst p.2) p.1.1 p.1.2.1 p.1.2.2)
  (es.map (·.1), es.foldl (fun fl e => fl.or e.2) {})

/-! ### Issue -/

/-- A vector instruction enters the queue (R82, R64): 16 wait there at most. Seed and tag are sampled (R116, R117). -/
def State.vecIssue (s : State) (g c k : Nat) (op : Op) : State :=
  s.issue g c k op (fun s d =>
    let t := s.strand g c k
    let u := s.core g
    if 16 ≤ (u.vecq.filter (fun o => !o.started)).length then s else
    let o : VOp := { who := t.who c k, seq := u.seq, cls := s.classOf g c k, dec := d, ra := (t.rd d.rd).toNat,
                     rb := (t.rd d.rs1).toNat, rc := (t.rd d.rs2).toNat, cfg := t.vcfg, seed := s.seedOf c,
                     tag := t.rd 30 }
    let reads := if op = .vupd then [(spadKey g 0, spadSize)] else match vecLay o with
      | none => []
      | some l => s.keysOf g c l.reads
    let s := s.setCore g { u with seq := u.seq + 1, vecq := u.vecq ++ [{ o with snap := (s.engineMem g t.fid).part reads }] }
    s.retire g c k t)

def execVadd (g c k : Nat) (s : State) : Host.Outcome State Fault Refusal := .next (s.vecIssue g c k .vadd)
def execVsub (g c k : Nat) (s : State) : Host.Outcome State Fault Refusal := .next (s.vecIssue g c k .vsub)
def execVmul (g c k : Nat) (s : State) : Host.Outcome State Fault Refusal := .next (s.vecIssue g c k .vmul)
def execVshl (g c k : Nat) (s : State) : Host.Outcome State Fault Refusal := .next (s.vecIssue g c k .vshl)
def execVshr (g c k : Nat) (s : State) : Host.Outcome State Fault Refusal := .next (s.vecIssue g c k .vshr)
def execVand (g c k : Nat) (s : State) : Host.Outcome State Fault Refusal := .next (s.vecIssue g c k .vand)
def execVor (g c k : Nat) (s : State) : Host.Outcome State Fault Refusal := .next (s.vecIssue g c k .vor)
def execVxor (g c k : Nat) (s : State) : Host.Outcome State Fault Refusal := .next (s.vecIssue g c k .vxor)
def execVcmp (g c k : Nat) (s : State) : Host.Outcome State Fault Refusal := .next (s.vecIssue g c k .vcmp)
def execVsel (g c k : Nat) (s : State) : Host.Outcome State Fault Refusal := .next (s.vecIssue g c k .vsel)
def execVfadd (g c k : Nat) (s : State) : Host.Outcome State Fault Refusal := .next (s.vecIssue g c k .vfadd)
def execVfmul (g c k : Nat) (s : State) : Host.Outcome State Fault Refusal := .next (s.vecIssue g c k .vfmul)
def execVfma (g c k : Nat) (s : State) : Host.Outcome State Fault Refusal := .next (s.vecIssue g c k .vfma)
def execVcvt (g c k : Nat) (s : State) : Host.Outcome State Fault Refusal := .next (s.vecIssue g c k .vcvt)
def execVrcp (g c k : Nat) (s : State) : Host.Outcome State Fault Refusal := .next (s.vecIssue g c k .vrcp)
def execVrsq (g c k : Nat) (s : State) : Host.Outcome State Fault Refusal := .next (s.vecIssue g c k .vrsq)
def execVrstep (g c k : Nat) (s : State) : Host.Outcome State Fault Refusal := .next (s.vecIssue g c k .vrstep)
def execVredsum (g c k : Nat) (s : State) : Host.Outcome State Fault Refusal := .next (s.vecIssue g c k .vredsum)
def execVredmax (g c k : Nat) (s : State) : Host.Outcome State Fault Refusal := .next (s.vecIssue g c k .vredmax)
def execVredmin (g c k : Nat) (s : State) : Host.Outcome State Fault Refusal := .next (s.vecIssue g c k .vredmin)
def execVupd (g c k : Nat) (s : State) : Host.Outcome State Fault Refusal := .next (s.vecIssue g c k .vupd)

/-- VCFG (R85): the strand's vector configuration word ← RB. -/
def execVcfg (g c k : Nat) (s : State) : Host.Outcome State Fault Refusal :=
  .next (s.issue g c k .vcfg (fun s d =>
    let t := s.strand g c k
    s.retire g c k { t with vcfg := t.rd d.rs1 }))

end Sys2Proof.Machine
end

