-- ==== Sys2Proof/Machine/Update.lean ====
section
/-! DEFINITION. The parameter update VUPD (R162 to R178) and the start and completion of vector instructions (R151, R153,
R161). -/

namespace Sys2Proof.Machine

/-! ### Binary64 arithmetic with flags (R168) -/

/-- A binary64 value and the flags raised on the way to it. Of an inner operation INV and UNF count; OVF is a state
write's (Table VEC-2). -/
abbrev B64 := FVal × FFlags

/-- A value and invalid flag rounded to binary64. -/
def B64.round (v : FVal × Bool) (fl : FFlags) : B64 :=
  let (w, f) := encodeF (fmt 0) {} v.1
  (decodeF (fmt 0) w, fl.or { unf := f.unf, inv := v.2 || f.inv })

def B64.add (a b : B64) : B64 := B64.round (addV 0 a.1 b.1) (a.2.or b.2)
def B64.sub (a b : B64) : B64 := B64.round (addV 0 a.1 b.1.negate) (a.2.or b.2)
def B64.mul (a b : B64) : B64 := B64.round (mulV a.1 b.1) (a.2.or b.2)

/-- The exact quotient with the special cases of IEEE 754, and whether it is invalid. -/
def quotV (a b : FVal) : FVal × Bool :=
  match a, b with
  | .nan x, y => (.nan false, x || y.isSig)
  | _, .nan x => (.nan false, x)
  | .inf _, .inf _ => (.nan false, true)
  | .inf n, y => (.inf (n != y.isNeg), false)
  | x, .inf n => (.fin (x.isNeg != n) 0 0, false)
  | .fin n m e, .fin n' m' e' =>
    if m' = 0 then (if m = 0 then (.nan false, true) else (.inf (n != n'), false))
    else if m = 0 then (.fin (n != n') 0 0, false)
    else (divV (.fin n m e) (.fin n' m' e'), false)

def B64.div (a b : B64) : B64 := B64.round (quotV a.1 b.1) (a.2.or b.2)

def B64.sqrt (a : B64) : B64 :=
  let bad := match a.1 with
    | .fin n m _ => n && m != 0
    | .inf n => n
    | .nan s => s
  B64.round (if bad then .nan false else sqrtV a.1, bad) a.2

/-- A natural number as binary64. -/
def B64.ofNat (n : Nat) : B64 := B64.round (.fin false n 0, false) {}

/-- A stored FP32 word, widened exactly. -/
def B64.ofFp32 (w : Nat) : B64 := (decodeF (fmt 1) w, {})

/-- A stored binary64 word. -/
def B64.ofWord (w : Nat) : B64 := (decodeF (fmt 0) w, {})

/-- The binary64 encoding of a value. -/
def B64.word (a : B64) : Nat := (encodeF (fmt 0) {} a.1).1

/-- `pow64` (R168), bits n - 1 down to 0 of t. -/
def pow64 (b : B64) (t : Nat) : Nat → B64 → B64
  | 0, p => p
  | n + 1, p =>
    let p := B64.mul p p
    pow64 b t n (if bitN t n then B64.mul p b else p)

/-- `pow64(b, t)`. -/
def B64.pow (b : B64) (t : Nat) : B64 := pow64 b t (if t = 0 then 0 else Nat.log2 t + 1) (.fin false 1 0, {})

/-! ### Descriptors (R163 to R165) -/

/-- Word i of a list of bytes. -/
def wordAt (bs : List Byte) (i : Nat) : Nat := ofLE ((bs.drop (8 * i)).take 8)

/-- A VUPD as read at its start: layer descriptor, segment descriptor, hyper-parameters and late header (R167). -/
structure Upd where
  ld : List Byte
  sd : List Byte
  hp : List Byte
  late : List Byte
  imm : Nat
  count : Nat
  seed : Word
  deriving DecidableEq, Repr

def Upd.lf (u : Upd) (w lo len : Nat) : Nat := bitsN (wordAt u.ld w) lo len
def Upd.sf (u : Upd) (w lo len : Nat) : Nat := bitsN (wordAt u.sd w) lo len
/-- An FP32 hyper-parameter (Table VEC-4). -/
def Upd.hyper (u : Upd) (o : Nat) : B64 := B64.ofFp32 (ofLE ((u.hp.drop o).take 4))
def Upd.layerId (u : Upd) : Nat := u.lf 0 0 16
def Upd.rule (u : Upd) : Nat := u.lf 0 16 2
def Upd.bc (u : Upd) : Bool := u.lf 0 18 1 == 1
def Upd.hasM (u : Upd) : Bool := u.lf 0 19 1 == 1
def Upd.wf (u : Upd) : Nat := u.lf 0 20 4
def Upd.mf (u : Upd) : Nat := u.lf 0 24 4
def Upd.vf (u : Upd) : Nat := u.lf 0 28 4
def Upd.nsr (u : Upd) : Nat := u.lf 0 32 4 + 1
def Upd.rows (u : Upd) : Nat := u.lf 1 0 16 + 1
def Upd.cols (u : Upd) : Nat := u.lf 1 16 16 + 1
def Upd.wScale (u : Upd) : B64 := B64.ofFp32 (u.lf 2 0 32)
def Upd.mScale (u : Upd) : B64 := B64.ofFp32 (u.lf 2 32 32)
def Upd.vScale (u : Upd) : B64 := B64.ofFp32 (u.lf 3 0 32)
def Upd.done (u : Upd) : Nat := u.lf 4 32 32
/-- t = T + 1, 2^32 where T is 0xFFFF_FFFF: the tag takes it modulo 2^32, and `pow64` as it is (log entry 53). -/
def Upd.t (u : Upd) : Nat := u.lf 4 0 32 + 1
def Upd.phase (u : Upd) : Nat := u.lf 5 0 1
def Upd.sumR (u : Upd) : B64 := B64.ofWord (wordAt u.ld 6)
def Upd.trow (u : Upd) : Nat := u.sf 0 0 16
def Upd.tcol (u : Upd) : Nat := u.sf 0 16 16
def Upd.pass (u : Upd) : Nat := u.sf 0 32 1
def Upd.cntSrc (u : Upd) : Nat := u.sf 0 34 5
def Upd.gf (u : Upd) : Nat := u.sf 1 0 4
def Upd.lateAddr (u : Upd) : Nat := wordAt u.sd 4
/-- Tile rows and columns of the matrix. -/
def Upd.tilesR (u : Upd) : Nat := ceilDiv u.rows 128
def Upd.tilesC (u : Upd) : Nat := ceilDiv u.cols 128
/-- N of R177. -/
def Upd.tiles (u : Upd) : Nat := u.tilesR * u.tilesC
def Upd.lateMode (u : Upd) : Nat := ofLE ((u.late.drop 1).take 1)
def Upd.lateContrib (u : Upd) : Nat := ofLE ((u.late.drop 4).take 4)
/-- The late total joins (R168). -/
def Upd.hasLate (u : Upd) : Bool := u.lateAddr != 0 && u.lateMode != 0
/-- The total count n of R168. -/
def Upd.n (u : Upd) : Nat := if u.hasLate then u.count + u.lateContrib else u.count

/-- An array: its name, address, bytes, and the input that it may share as an output. -/
structure UArr where
  name : Nat
  addr : Nat
  len : Nat
  input : Option Nat := none
  deriving DecidableEq, Repr

/-- The arrays of the rule and pass (Table VEC-5). Names: 3 to 10 are segment words, 16 + w layer words. -/
def Upd.arrays (u : Upd) : List UArr :=
  let sd (w f : Nat) (i : Option Nat) : UArr := ⟨w, wordAt u.sd w, tileBytes f, i⟩
  let ld (w n : Nat) (i : Option Nat) : UArr := ⟨16 + w, wordAt u.ld w, n, i⟩
  let g := [sd 3 u.gf none]
  let l : List UArr := if u.lateAddr = 0 then [] else [⟨4, u.lateAddr, 131136, none⟩]
  let w := [sd 5 u.wf none, sd 8 u.wf (some 5)]
  let m := [sd 6 u.mf none, sd 9 u.mf (some 6)]
  let v := [sd 7 u.vf none, sd 10 u.vf (some 7)]
  let rin := [ld 8 (packedBytes u.vf u.rows) none, ld 9 (packedBytes u.vf u.cols) none]
  let rout := [ld 10 (packedBytes u.vf u.rows) (some 24), ld 11 (packedBytes u.vf u.cols) (some 25)]
  let acc := [ld 12 (8 * u.rows) none, ld 13 (8 * u.cols) none]
  match u.rule with
  | 0 => g ++ l ++ w ++ m ++ v
  | 1 => if u.phase = 0 then g ++ rin ++ rout ++ acc else g ++ w ++ (if u.hasM then m else []) ++ rout
  | _ => g ++ l ++ w ++ m

/-- The words of the two descriptors that the rule does not use in any pass and that must be 0 (R166). -/
def Upd.unused (u : Upd) : List Nat :=
  let rule1 := (List.range 6).map (fun i => wordAt u.ld (8 + i))
  let ms := [wordAt u.sd 6, wordAt u.sd 9]
  let vs := [wordAt u.sd 7, wordAt u.sd 10]
  match u.rule with
  | 0 => rule1
  | 1 => vs ++ (if u.hasM then [] else ms)
  | _ => rule1 ++ vs

/-- Two arrays may lie as they do: apart, or an output at the start of its own input (R166). -/
def arrOk (a b : UArr) : Bool :=
  !overlap a.addr a.len b.addr b.len || (decide (a.addr = b.addr) && (a.input == some b.name || b.input == some a.name))

/-- A state format of R166. -/
def stateFmt (f : Nat) : Bool := decide (3 ≤ f ∧ f ≤ 9)

/-- The checks of R166 that need no memory. -/
def Upd.ok (u : Upd) : Bool :=
  decide (u.imm < 4) && decide (u.rule = u.imm) &&
  decide (u.lf 0 36 28 = 0 ∧ u.lf 1 32 32 = 0 ∧ u.lf 3 32 32 = 0 ∧ u.lf 5 1 15 = 0 ∧ u.lf 5 35 29 = 0) &&
  decide (wordAt u.ld 7 = 0 ∧ wordAt u.ld 14 = 0 ∧ wordAt u.ld 15 = 0) &&
  decide (u.sf 0 33 1 = 0 ∧ u.sf 0 39 1 = 0 ∧ u.sf 1 4 28 = 0 ∧ u.sf 2 32 32 = 0) &&
  (List.range 5).all (fun i => wordAt u.sd (11 + i) == 0) &&
  stateFmt u.wf && stateFmt u.mf && stateFmt u.vf &&
  decide (u.gf = 1 ∨ u.gf = 3 ∨ u.gf = 4 ∨ u.gf = 5 ∨ u.gf = 6) &&
  (u.hasM || u.rule == 1) && decide (u.trow < u.tilesR) && decide (u.tcol < u.tilesC) && decide (u.pass = u.phase) &&
  decide (u.cntSrc ≤ 16) && (u.rule != 1 || u.lateAddr == 0) &&
  (u.rule != 1 || u.phase != 0 || u.trow * u.tilesC + u.tcol == u.done) &&
  u.unused.all (· == 0)

/-! ### Rules (R168 to R175) -/

/-- `load`. -/
def uload (f : Nat) (scale : B64) (e : Nat) : B64 := B64.mul (decodeF (fmt f) e, {}) scale

/-- `tag`. -/
def Upd.tag (u : Upd) (code : Nat) : Word := BitVec.ofNat 64 (u.layerId * 2 ^ 48 + u.t % 2 ^ 32 * 2 ^ 16 + code)

/-- `store`: the exact quotient, rounded once stochastically. -/
def Upd.store (u : Upd) (v : B64) (f : Nat) (scale : B64) (code idx : Nat) : Elem :=
  let lam := if (fmt f).width ≤ 8 then 512 else 256
  let (q, i) := quotV v.1 scale.1
  let (w, fl) := encodeF (fmt f) ⟨4, u.nsr, srBits u.seed (u.tag code) (idx % lam) idx u.nsr⟩ q
  (w, (v.2.or fl).or { inv := i })

/-- `grad` of an element: its gradient encoding and its late total. -/
def Upd.grad (u : Upd) (ge lt : Nat) : B64 :=
  let a := uload u.gf (B64.ofFp32 (u.sf 1 32 32)) ge
  let a := if u.hasLate then B64.add a (B64.mul (B64.ofWord lt) (B64.ofFp32 (u.sf 2 0 32))) else a
  B64.div a (B64.ofNat u.n)

/-- What an element's update writes: weight, first and second moment. -/
structure UOut where
  w : Elem
  m : Elem := (0, {})
  v : Elem := (0, {})
  deriving DecidableEq, Repr

/-- 1.0 in binary64. -/
def b1 : B64 := (.fin false 1 0, {})

/-- Rule 0 (R170). -/
def Upd.rule0 (u : Upd) (g w0 m0 v0 : B64) (e : Nat) : UOut :=
  let (lr, b1h, b2h, eps, wd) := (u.hyper 0, u.hyper 4, u.hyper 8, u.hyper 12, u.hyper 16)
  let m := B64.add (B64.mul b1h m0) (B64.mul (B64.sub b1 b1h) g)
  let v := B64.add (B64.mul b2h v0) (B64.mul (B64.sub b1 b2h) (B64.mul g g))
  let bc1 := if u.bc then B64.sub b1 (B64.pow b1h u.t) else b1
  let bc2 := if u.bc then B64.sub b1 (B64.pow b2h u.t) else b1
  let q := B64.div (B64.div m bc1) (B64.add (B64.sqrt (B64.div v bc2)) eps)
  let w := B64.sub w0 (B64.mul lr (B64.add q (B64.mul wd w0)))
  ⟨u.store w u.wf u.wScale 1 e, u.store m u.mf u.mScale 2 e, u.store v u.vf u.vScale 3 e⟩

/-- Rule 1, apply pass (R173): r and c are the loaded statistics. -/
def Upd.rule1 (u : Upd) (g w0 m0 r c : B64) (e : Nat) : UOut :=
  let (lr, b1h, b2h, wd) := (u.hyper 0, u.hyper 4, u.hyper 8, u.hyper 16)
  let vh := B64.div (B64.mul r c) u.sumR
  let vh := if u.bc then B64.div vh (B64.sub b1 (B64.pow b2h u.t)) else vh
  let q := if vh.1.isZero then (FVal.fin false 0 0, vh.2.or g.2) else B64.div g (B64.sqrt vh)
  let m := B64.add (B64.mul b1h m0) (B64.mul (B64.sub b1 b1h) q)
  let p := if u.hasM then (if u.bc then B64.div m (B64.sub b1 (B64.pow b1h u.t)) else m) else q
  let w := B64.sub w0 (B64.mul lr (B64.add p (B64.mul wd w0)))
  ⟨u.store w u.wf u.wScale 1 e, if u.hasM then u.store m u.mf u.mScale 2 e else (0, {}), (0, {})⟩

/-- Rule 2 (R174). -/
def Upd.rule2 (u : Upd) (g w0 m0 : B64) (e : Nat) : UOut :=
  let (lr, b1h, b2h, wd) := (u.hyper 0, u.hyper 4, u.hyper 8, u.hyper 16)
  let c := B64.add (B64.mul b1h m0) (B64.mul (B64.sub b1 b1h) g)
  let sg : FVal := if c.1.isNaN then .nan false else if c.1.isZero then .fin false 0 0 else .fin c.1.isNeg 1 0
  let w := B64.sub w0 (B64.mul lr (B64.add (sg, c.2) (B64.mul wd w0)))
  let m := B64.add (B64.mul b2h m0) (B64.mul (B64.sub b1 b2h) g)
  ⟨u.store w u.wf u.wScale 1 e, u.store m u.mf u.mScale 2 e, (0, {})⟩

/-- Rule 3 (R175). -/
def Upd.rule3 (u : Upd) (g w0 m0 : B64) (e : Nat) : UOut :=
  let (lr, mu, wd) := (u.hyper 0, u.hyper 4, u.hyper 16)
  let m := B64.add (B64.mul mu m0) (B64.add g (B64.mul wd w0))
  let w := B64.sub w0 (B64.mul lr m)
  ⟨u.store w u.wf u.wScale 1 e, u.store m u.mf u.mScale 2 e, (0, {})⟩

/-- One element (i, j) of the matrix: the encodings of gradient, late total, weight, moments and statistics. -/
def Upd.element (u : Upd) (i j ge lt we me ve re ce : Nat) : UOut :=
  let e := (i * u.cols + j) % 2 ^ 32
  let g := u.grad ge lt
  let w0 := uload u.wf u.wScale we
  let m0 := uload u.mf u.mScale me
  match u.rule with
  | 0 => u.rule0 g w0 m0 (uload u.vf u.vScale ve) e
  | 1 => u.rule1 g w0 m0 (uload u.vf u.vScale re) (uload u.vf u.vScale ce) e
  | 2 => u.rule2 g w0 m0 e
  | _ => u.rule3 g w0 m0 e

/-- q of a statistics pass (R172). -/
def Upd.statQ (u : Upd) (ge : Nat) : B64 :=
  let g := u.grad ge 0
  B64.add (B64.mul g g) (u.hyper 12)

/-- The flags of a list of elements. -/
def flagsOf (es : List Elem) : FFlags := es.foldl (fun fl e => fl.or e.2) {}

/-! ### Start (R150 to R153, R166, R167) -/

/-- The bytes of an address range in the window. -/
def State.winBytes (s : State) (g c addr n : Nat) : List Byte :=
  match s.winKey g c addr n with
  | none => []
  | some key => s.read key n

/-- The VUPD of a queue entry, as its descriptors stand now. -/
def State.updOf (s : State) (g : Nat) (o : VOp) : Upd :=
  let c := o.who.c
  let sd := s.winBytes g c o.rc 128
  let u : Upd := { ld := s.winBytes g c o.ra 128, sd := sd, hp := s.winBytes g c o.rb 64, late := [], imm := o.dec.vimm,
                   count := 0, seed := o.seed }
  { u with
    late := if u.lateAddr = 0 then [] else s.winBytes g c u.lateAddr 64
    count := if u.cntSrc < 16 then s.f F.MTX_TRV_STATUS_CONTRIB g c u.cntSrc else u.sf 0 40 24 }

/-- A VUPD that has started, as read then. -/
def VOp.upd (o : VOp) : Upd :=
  { ld := o.cap.take 128, sd := (o.cap.drop 128).take 128, hp := (o.cap.drop 256).take 64, late := o.cap.drop 320,
    imm := o.dec.vimm, count := o.count, seed := o.seed }

/-- A started MWB of core g writes bytes of a range (R153). -/
def State.mwbWrites (s : State) (g : Nat) (r : Nat × Nat) : Bool :=
  (s.core g).mtxq.any (fun o => o.started && decide (o.dec.op = .mwb) &&
    (match s.winKey g o.who.c o.ra.toNat (tileBytes o.dec.f35) with
      | none => false
      | some key => overlap key (tileBytes o.dec.f35) r.1 r.2))

/-- The head of the vector queue leaves it with a fault. -/
def State.vecFault (s : State) (g : Nat) (o : VOp) (code : Nat) : State :=
  let u := s.core g
  (s.setCore g { u with vecq := u.vecq.filter (fun x => decide (x.seq ≠ o.seq)) }).raiseWho g o.who code

/-- The head of the vector queue as given. -/
def State.setVec (s : State) (g : Nat) (o : VOp) : State :=
  let u := s.core g
  s.setCore g { u with vecq := u.vecq.map (fun x => if x.seq = o.seq then o else x) }

/-- The arrays of a VUPD lie apart, or an output at the start of its own input, by their places in core g's scratchpad
(R166). -/
def State.updApart (s : State) (g : Nat) (u : Upd) : Bool :=
  let arrs := u.arrays.map (fun a => { a with addr := (s.placeOf g (a.addr, a.len)).1 })
  arrs.all (fun a => arrs.all (fun b => decide (a.name = b.name) || arrOk a b))

/-- The start of a VUPD. It waits while a started MWB writes its descriptors, and then, where these name arrays that it may
use, while one writes those (R153). -/
def State.updStart (s : State) (g : Nat) (o : VOp) : State :=
  let c := o.who.c
  let descs := [(o.ra, 128), (o.rb, 64), (o.rc, 128)]
  if !s.streamsOk g c descs then s.vecFault g o 0x09 else
  if (s.keysOf g c descs).any (s.mwbWrites g) then s else
  if (s.keysOf g c descs).any (fun r => s.poisoned r.1 r.2) then s.vecFault g o 0x0D else
  let u := s.updOf g o
  let arrs := u.arrays.map (fun a => (a.addr, a.len))
  if !u.ok || !s.streamsOk g c arrs || !s.updApart g u then s.vecFault g o 0x09
  else if (s.keysOf g c arrs).any (s.mwbWrites g) then s
  else if u.lateAddr ≠ 0 ∧ u.lateMode ≠ 0 ∧ u.lateMode ≠ 1 ∧ u.lateMode ≠ 3 then s.vecFault g o 0x09
  else s.setVec g { o with started := true, cap := u.ld ++ u.sd ++ u.hp ++ u.late, count := u.count,
                           snap := o.snap.part (s.keysOf g c arrs) }

/-- The start of any other vector instruction. -/
def State.elemStart (s : State) (g : Nat) (o : VOp) : State :=
  let c := o.who.c
  match vecLay o with
  | none => s.vecFault g o 0x09
  | some l =>
    let w := (fmt l.f).width
    let bad := !s.streamsOk g c (l.d :: l.reads) || !overlapOk (s.placeOf g l.d) (s.placeOf g l.s1) (fmt l.dst).width w ||
      (l.s2.any (fun r => !overlapOk (s.placeOf g l.d) (s.placeOf g r) (fmt l.dst).width w))
    if bad then s.vecFault g o 0x09
    else if (s.keysOf g c (l.d :: l.reads)).any (s.mwbWrites g) then s
    else s.setVec g { o with started := true }

/-- VECTOR_INSTRUCTION_START (R151, R153): the oldest queued instruction starts where none occupies the engine and no
started MWB writes its bytes; its operand checks come first. -/
def execVectorInstructionStart (g : Nat) (s : State) : Host.Outcome State Fault Refusal :=
  match (s.core g).vecq with
  | [] => .next s
  | o :: _ =>
    if o.started then .next s
    else if o.dec.op = .vupd then .next (s.updStart g o)
    else .next (s.elemStart g o)

/-! ### Completion (R161, R177, R178) -/

/-- The instruction leaves the queue and its flags go to VEC_FLAGS and to its bracket (R161, R144). -/
def State.vecDone (s : State) (g : Nat) (o : VOp) (fl : FFlags) : State :=
  let u := s.core g
  let s := s.setCore g { u with vecq := u.vecq.filter (fun x => decide (x.seq ≠ o.seq)) }
  let r : Reg := ⟨.VEC_FLAGS, g, o.who.c, 0⟩
  let s := s.setReg r (s.reg r ||| BitVec.ofNat 64 fl.toNat)
  let s := if fl.ovf then s.bracketOvf g o.who.c o.cls o.seq true else s
  s.progress g o.who.c

/-- The completion of an element operation or reduction. -/
def State.elemComplete (s : State) (g : Nat) (o : VOp) : State :=
  let c := o.who.c
  match vecLay o with
  | none => s
  | some l =>
    if (s.keysOf g c l.reads).any (fun r => s.poisoned r.1 r.2) then s.vecFault g o 0x0D else
    let (s1, s) := s.stream g c o.snap l.f o.vlen l.s1
    let (s2, s) := match l.s2 with
      | none => ([], s)
      | some r => s.stream g c o.snap l.f o.vlen r
    let (pr, s) := match l.prior with
      | none => ([], s)
      | some r => s.stream g c o.snap l.f o.vlen r
    let (es, fl) := vecResult o l s1 s2 pr
    let s := match s.winKey g c l.d.1 l.d.2 with
      | none => s
      | some key => s.vectorWrite g key (packElems (fmt l.dst).width es)
    s.vecDone g o fl

/-- The elements of an array of a VUPD, read through its snapshot. -/
def State.uread (s : State) (g : Nat) (o : VOp) (f n addr len : Nat) : Array Nat × State :=
  let (es, s) := s.stream g o.who.c o.snap f n (addr, len)
  (es.toArray, s)

/-- An array of a VUPD written. -/
def State.uwrite (s : State) (g c f addr : Nat) (es : List Nat) : State :=
  match s.winKey g c addr (packedBytes f es.length) with
  | none => s
  | some key => s.vectorWrite g key (packElems (fmt f).width es)

/-- The element positions of the segment's tile: tile position, matrix row and column, and whether it is padding. -/
def Upd.cells (u : Upd) : List (Nat × Nat × Nat × Bool) :=
  (List.range 16384).map (fun p =>
    let i := 128 * u.trow + p / 128
    let j := 128 * u.tcol + p % 128
    (p, i, j, decide (u.rows ≤ i) || decide (u.cols ≤ j)))

/-- The apply of rules 0, 2, 3 and of rule 1's second pass: the state and the flags of the segment. -/
def State.updApply (s : State) (g : Nat) (o : VOp) : State × FFlags :=
  let u := o.upd
  let c := o.who.c
  let sd := wordAt u.sd
  let (ge, s) := s.uread g o u.gf 16384 (sd 3) (tileBytes u.gf)
  let (lt, s) := if u.hasLate then s.uread g o 0 16384 (u.lateAddr + 64) 131072 else (#[], s)
  let (we, s) := s.uread g o u.wf 16384 (sd 5) (tileBytes u.wf)
  let (me, s) := if u.hasM then s.uread g o u.mf 16384 (sd 6) (tileBytes u.mf) else (#[], s)
  let (ve, s) := if u.rule = 0 then s.uread g o u.vf 16384 (sd 7) (tileBytes u.vf) else (#[], s)
  let (re, s) := if u.rule = 1 then s.uread g o u.vf u.rows (wordAt u.ld 10) (packedBytes u.vf u.rows) else (#[], s)
  let (ce, s) := if u.rule = 1 then s.uread g o u.vf u.cols (wordAt u.ld 11) (packedBytes u.vf u.cols) else (#[], s)
  let outs := u.cells.map (fun (p, i, j, pad) =>
    if pad then ({ w := (0, {}) } : UOut)
    else if u.n = 0 then ⟨(we.getD p 0, {}), (me.getD p 0, {}), (ve.getD p 0, {})⟩
    else u.element i j (ge.getD p 0) (lt.getD p 0) (we.getD p 0) (me.getD p 0) (ve.getD p 0) (re.getD i 0) (ce.getD j 0))
  let skipCopy := u.n = 0
  let col (f : UOut → Elem) (e : Array Nat) : List Nat := if skipCopy then e.toList else outs.map (fun x => (f x).1)
  let s := s.uwrite g c u.wf (sd 8) (col UOut.w we)
  let s := if u.hasM then s.uwrite g c u.mf (sd 9) (col UOut.m me) else s
  let s := if u.rule = 0 then s.uwrite g c u.vf (sd 10) (col UOut.v ve) else s
  (s, if skipCopy then {} else
      (flagsOf (outs.map UOut.w)).or ((flagsOf (outs.map UOut.m)).or (flagsOf (outs.map UOut.v))))

/-- The statistics pass of rule 1 (R172): the state, the flags, and SUM_R where the segment is the last. -/
def State.updStats (s : State) (g : Nat) (o : VOp) : State × FFlags × Option Nat :=
  let u := o.upd
  let c := o.who.c
  let (ge, s) := s.uread g o u.gf 16384 (wordAt u.sd 3) (tileBytes u.gf)
  let (ra, s) := s.uread g o 0 u.rows (wordAt u.ld 12) (8 * u.rows)
  let (ca, s) := s.uread g o 0 u.cols (wordAt u.ld 13) (8 * u.cols)
  let old (a : Array Nat) (i : Nat) : B64 := if u.done = 0 then (.fin false 0 0, {}) else B64.ofWord (a.getD i 0)
  let q (i j : Nat) : B64 := u.statQ (ge.getD (128 * (i % 128) + j % 128) 0)
  let inRow (i : Nat) : Bool := decide (i / 128 = u.trow) && u.n != 0
  let inCol (j : Nat) : Bool := decide (j / 128 = u.tcol) && u.n != 0
  let js := (List.range 128).map (fun j => 128 * u.tcol + j) |>.filter (· < u.cols)
  let is := (List.range 128).map (fun i => 128 * u.trow + i) |>.filter (· < u.rows)
  let rows := (List.range u.rows).map (fun i => if inRow i then js.foldl (fun a j => B64.add a (q i j)) (old ra i) else old ra i)
  let cols := (List.range u.cols).map (fun j => if inCol j then is.foldl (fun a i => B64.add a (q i j)) (old ca j) else old ca j)
  let fl := flagsOf ((rows ++ cols).map (fun b => (0, b.2)))
  let s := s.uwrite g c 0 (wordAt u.ld 12) (rows.map B64.word)
  let s := s.uwrite g c 0 (wordAt u.ld 13) (cols.map B64.word)
  if u.done + 1 ≠ u.tiles then (s, fl, none) else
  let (ri, s) := s.uread g o u.vf u.rows (wordAt u.ld 8) (packedBytes u.vf u.rows)
  let (ci, s) := s.uread g o u.vf u.cols (wordAt u.ld 9) (packedBytes u.vf u.cols)
  let b2h := u.hyper 8
  let stat (e : Nat) (acc : B64) (n code i : Nat) : Elem :=
    u.store (B64.add (B64.mul b2h (uload u.vf u.vScale e)) (B64.mul (B64.sub b1 b2h) (B64.div acc (B64.ofNat n)))) u.vf u.vScale code i
  let ro := (rows.zip (List.range u.rows)).map (fun p => stat (ri.getD p.2 0) (p.1.1, {}) u.cols 4 p.2)
  let co := (cols.zip (List.range u.cols)).map (fun p => stat (ci.getD p.2 0) (p.1.1, {}) u.rows 5 p.2)
  let s := s.uwrite g c u.vf (wordAt u.ld 10) (ro.map (·.1))
  let s := s.uwrite g c u.vf (wordAt u.ld 11) (co.map (·.1))
  let loads := ro.map (fun e => uload u.vf u.vScale e.1)
  let (sum, i) := rowSum 0 (loads.map (·.1))
  let (w, _) := encodeF (fmt 0) {} sum
  (s, (((fl.or (flagsOf ro)).or (flagsOf co)).or (flagsOf (loads.map (fun b => (0, b.2))))).or { inv := i }, some w)

/-- The layer descriptor after a completed VUPD (Table VEC-6): words 4, 5 and 6. -/
def Upd.progress (u : Upd) (fl : FFlags) (sumR : Option Nat) : Nat × Nat × Nat :=
  let last := u.done + 1 = u.tiles
  let stepEnd := last ∧ ¬ (u.rule = 1 ∧ u.phase = 0)
  let t := u.lf 4 0 32
  let skipped := satN 16 (u.lf 5 16 16 + if u.n = 0 then 1 else 0)
  let flag (lo : Nat) (b : Bool) : Nat := if u.lf 5 lo 1 == 1 || b then 1 else 0
  let w4 := if stepEnd then (t + 1) % 2 ^ 32 else t + (if last then 0 else u.done + 1) * 2 ^ 32
  let phase := if stepEnd then 0 else if last then 1 else u.phase
  let w5 := if stepEnd then 0 else
    phase + skipped * 2 ^ 16 + flag 32 fl.ovf * 2 ^ 32 + flag 33 fl.inv * 2 ^ 33 + flag 34 fl.unf * 2 ^ 34
  (w4, w5, sumR.getD (wordAt u.ld 6))

/-- The completion of a VUPD. -/
def State.updComplete (s : State) (g : Nat) (o : VOp) : State :=
  let u := o.upd
  let c := o.who.c
  let stats := u.rule = 1 ∧ u.phase = 0
  let arrs := s.keysOf g c (u.arrays.map (fun a => (a.addr, a.len)))
  let digestBad := u.lateAddr ≠ 0 ∧ (crc64 (s.winBytes g c (u.lateAddr + 64) 131072)).toNat ≠ wordAt u.late 4
  if arrs.any (fun r => s.poisoned r.1 r.2) ∨ digestBad then s.vecFault g o 0x0D else
  let (s, fl, sumR) : State × FFlags × Option Nat :=
    if stats then s.updStats g o else let (s, fl) := s.updApply g o; (s, fl, none)
  let (w4, w5, w6) := u.progress fl sumR
  let s := match s.winKey g c (o.ra + 32) 24 with
    | none => s
    | some key => s.vectorWrite g key (toLE 8 w4 ++ toLE 8 w5 ++ toLE 8 w6)
  let stepDone := u.done + 1 = u.tiles ∧ ¬ stats
  let s := s.addF F.VEC_UPD_COUNT_COUNT 1 g c
  let last := u.layerId + u.rule * 2 ^ 16 + u.pass * 2 ^ 18 + (if u.n = 0 then 2 ^ 19 else 0) +
    (if u.lf 5 32 1 == 1 || fl.ovf then 2 ^ 20 else 0) + (if u.lf 5 33 1 == 1 || fl.inv then 2 ^ 21 else 0) +
    (if stepDone then 2 ^ 22 else 0) + w4 % 2 ^ 32 * 2 ^ 32
  let s := s.setReg ⟨.VEC_UPD_LAST, g, c, 0⟩ (BitVec.ofNat 64 last)
  let s := if u.n = 0 then (s.addF F.VEC_UPD_SKIPS_COUNT 1 g c).event F.VEC_EVENT_UPD_SKIP c else s
  let s := if fl.ovf then s.event F.VEC_EVENT_UPD_OVF c else s
  let s := if fl.inv then s.event F.VEC_EVENT_UPD_INV c else s
  s.vecDone g o fl

/-- VECTOR_INSTRUCTION_COMPLETE (R161): the instruction that occupies the engine completes. -/
def execVectorInstructionComplete (g : Nat) (s : State) : Host.Outcome State Fault Refusal :=
  match (s.core g).vecq with
  | [] => .next s
  | o :: _ =>
    if !o.started then .next s
    else if o.dec.op = .vupd then .next (s.updComplete g o)
    else .next (s.elemComplete g o)

end Sys2Proof.Machine
end

