-- ==== Sys2Proof/Machine/Matrix.lean ====
section
/-! DEFINITION. The matrix engine: issue, start and completion of its instructions, and layer brackets (R121 to R147). -/

namespace Sys2Proof.Machine

/-! ### Fields (Table ISA-8) -/

def MOp.acc (o : MOp) : Nat := if o.dec.op = .mma then o.dec.field 28 1 else o.dec.field 27 1
def MOp.trv (o : MOp) : Nat := o.dec.field 16 4
def MOp.bfmt (o : MOp) : Nat := o.dec.field 31 4
def MOp.clr (o : MOp) : Bool := o.dec.field 27 1 == 1
def MOp.keep (o : MOp) : Bool := o.dec.field 26 1 == 1

/-- The instruction uses an accumulator. -/
def MOp.usesAcc (o : MOp) : Bool := decide (o.dec.op ≠ .mlb ∧ o.dec.op ≠ .mle)

/-- The resource of an instruction: 0 array, 1 write-back path, 2 transfer path, 3 none (R133). -/
def MOp.res (o : MOp) : Nat :=
  match o.dec.op with
  | .mma => 0
  | .mwb => 1
  | .mtin | .mtout => 2
  | _ => 3

/-- The tiles an MMA reads: address and bytes. -/
def MOp.tiles (o : MOp) : List (Nat × Nat) :=
  if o.dec.op = .mma then [(o.ra.toNat, tileBytes o.dec.f35), (o.rb.toNat, tileBytes o.bfmt)] else []

/-! ### Issue (R82, R116, R117) -/

/-- A matrix instruction enters the queue; 16 wait there at most. -/
def State.mtxIssue (s : State) (g c k : Nat) (op : Op) : State :=
  s.issue g c k op (fun s d =>
    let t := s.strand g c k
    let u := s.core g
    if 16 ≤ (u.mtxq.filter (fun o => !o.started)).length then s else
    let o : MOp := { who := t.who c k, seq := u.seq, cls := s.classOf g c k, dec := d, ra := t.rd d.rd, rb := t.rd d.rs1,
                     seed := s.seedOf c, tag := t.rd 30 }
    let s := s.setCore g { u with seq := u.seq + 1, mtxq := u.mtxq ++ [{ o with snap := (s.engineMem g t.fid).part (s.keysOf g c o.tiles) }] }
    s.retire g c k t)

/-- MMA: queues a tile multiply-add. -/
def execMma (g c k : Nat) (s : State) : Host.Outcome State Fault Refusal := .next (s.mtxIssue g c k .mma)

/-- MWB: queues a write-back. -/
def execMwb (g c k : Nat) (s : State) : Host.Outcome State Fault Refusal := .next (s.mtxIssue g c k .mwb)

/-- MTIN: queues the load of a landed total. -/
def execMtin (g c k : Nat) (s : State) : Host.Outcome State Fault Refusal := .next (s.mtxIssue g c k .mtin)

/-- MTOUT: queues the sending of a total. -/
def execMtout (g c k : Nat) (s : State) : Host.Outcome State Fault Refusal := .next (s.mtxIssue g c k .mtout)

/-- MLB: queues the opening of a layer bracket. -/
def execMlb (g c k : Nat) (s : State) : Host.Outcome State Fault Refusal := .next (s.mtxIssue g c k .mlb)

/-- MLE: queues the closing of a layer bracket. -/
def execMle (g c k : Nat) (s : State) : Host.Outcome State Fault Refusal := .next (s.mtxIssue g c k .mle)

/-! ### Start (R133) -/

/-- The instruction as given in the queue. -/
def State.setMtx (s : State) (g : Nat) (o : MOp) : State :=
  let u := s.core g
  s.setCore g { u with mtxq := u.mtxq.map (fun x => if x.seq = o.seq then o else x) }

/-- The instruction leaves the queue. -/
def State.dropMtx (s : State) (g seq : Nat) : State :=
  let u := s.core g
  s.setCore g { u with mtxq := u.mtxq.filter (fun x => decide (x.seq ≠ seq)) }

/-- The instruction leaves the queue with a fault. -/
def State.mtxFault (s : State) (g : Nat) (o : MOp) (code : Nat) (addr : Option Nat := none) : State :=
  (s.dropMtx g o.seq).raiseWho g o.who code addr

/-- The ranges that a started vector instruction of core g writes (R153). -/
def State.vecWrites (s : State) (g : Nat) : List (Nat × Nat) :=
  ((s.core g).vecq.filter (·.started)).flatMap (fun o =>
    let c := o.who.c
    if o.dec.op = .vupd then
      s.keysOf g c ((o.ra, 128) :: ((o.upd.arrays.filter (fun a => decide (a.name = 28 ∨ a.name = 29) || a.input.isSome)).map
        (fun a => (a.addr, a.len))))
    else match vecLay o with
      | none => []
      | some l => s.keysOf g c [l.d])

/-- The conditions of R133 and R153 for the oldest instruction that has not started. -/
def State.mtxReady (s : State) (g : Nat) (o : MOp) : Bool :=
  let run := (s.core g).mtxq.filter (·.started)
  let keys := s.keysOf g o.who.c o.tiles
  (o.res == 3 || !run.any (fun x => decide (x.res = o.res))) &&
  (!o.usesAcc || !run.any (fun x => x.usesAcc && decide (x.who.c = o.who.c ∧ x.acc = o.acc))) &&
  !keys.any (s.mwbWrites g) && !keys.any (fun r => (s.vecWrites g).any (fun w => overlap r.1 r.2 w.1 w.2))

/-- The layer descriptor at an address is well formed (R143). -/
def layerOk (bs : List Byte) : Bool :=
  let w (i : Nat) : Nat := wordAt bs i
  let f (i : Nat) : Nat := bitsN (w 0) (32 + 4 * i) 4
  decide (bitsN (w 0) 20 12 = 0 ∧ bitsN (w 0) 58 6 = 0 ∧ bitsN (w 1) 12 52 = 0) &&
  [3, 4, 5, 6, 7].all (fun i => w i == 0) &&
  [9, 14, 15].contains (f 0) && [5, 6, 7, 8, 12, 13, 15].contains (f 1) && [3, 4, 15].contains (f 2) &&
  [2, 15].contains (f 3) && f (bitsN (w 0) 16 2) != 15 && bitsN (w 0) 48 5 != 28 && bitsN (w 0) 53 5 != 28

/-- The start of an MMA: its format pair, tiles and mode (R121, R123, R125). -/
def State.startMma (s : State) (g : Nat) (o : MOp) : State :=
  let c := o.who.c
  match mmaPair o.dec.f35 o.bfmt with
  | none => s.mtxFault g o 0x09
  | some (_, mode) =>
    let am := s.accMode g c o.acc
    if !s.streamsOk g c o.tiles || (!o.clr && am != 0 && am != mode) then s.mtxFault g o 0x09
    else s.setMtx g { o with started := true }

/-- The layer of the bracket in which an instruction that starts now was issued (R304): every matrix instruction before it has
started. -/
def State.binOf (s : State) (g : Nat) (o : MOp) : Option Nat :=
  match s.bracket g o.who.c o.cls with
  | none => none
  | some b => if b.counts o.seq then some (s.f F.MTX_LAYER_LAYER_ID g o.who.c o.cls % 256) else none

/-- An instruction starts that the gradient-noise statistics may measure. -/
def State.beginMtx (s : State) (g : Nat) (o : MOp) : State := s.setMtx g { o with started := true, bin := s.binOf g o }

/-- The start of an MWB: its destination (R131). -/
def State.startMwb (s : State) (g : Nat) (o : MOp) : State :=
  if o.dec.f35 = 2 ∨ (s.operandKey g o.who.c o.ra.toNat (tileBytes o.dec.f35)).isNone then s.mtxFault g o 0x09
  else s.beginMtx g o

/-- The start of an MLB (R143): it waits while the bracket of its class decides or waits. -/
def State.startMlb (s : State) (g : Nat) (o : MOp) : State :=
  let c := o.who.c
  let st := s.f F.MTX_LAYER_STATE g c o.cls
  if st = 2 ∨ st = 3 then s
  else if st = 1 then s.mtxFault g o 0x09
  else match s.operandKey g c o.ra.toNat 64 with
    | none => s.mtxFault g o 0x09
    | some key =>
      if s.poisoned key 64 then s.mtxFault g o 0x0D else
      let bs := s.read key 64
      if !layerOk bs then s.mtxFault g o 0x09 else
      let vec := bitN (wordAt bs 0) 18
      let s := s.setBracket g c o.cls (some { openSeq := o.seq, who := o.who, vecOvf := vec, addr := o.ra.toNat })
      let s := s.setF F.MTX_LAYER_STATE 1 g c o.cls
      let s := s.setF F.MTX_LAYER_FLAG (if vec && o.early then 1 else 0) g c o.cls
      let s := s.setF F.MTX_LAYER_LAYER_ID (wordAt bs 0) g c o.cls
      s.setMtx g { o with started := true }

/-- The start of an MLE (R145): the bracket starts to decide. -/
def State.startMle (s : State) (g : Nat) (o : MOp) : State :=
  let c := o.who.c
  match s.f F.MTX_LAYER_STATE g c o.cls, s.bracket g c o.cls with
  | 1, some b =>
    let s := s.setBracket g c o.cls (some { b with closeSeq := some o.seq, who := o.who })
    (s.setF F.MTX_LAYER_STATE 2 g c o.cls).setMtx g { o with started := true }
  | 2, _ => s
  | 3, _ => s
  | _, _ => s.mtxFault g o 0x09

/-- MATRIX_INSTRUCTION_START (R133): the oldest instruction that has not started. -/
def execMatrixInstructionStart (g : Nat) (s : State) : Host.Outcome State Fault Refusal :=
  match (s.core g).mtxq.find? (fun o => !o.started) with
  | none => .next s
  | some o =>
    let c := o.who.c
    if !s.mtxReady g o then .next s
    else match o.dec.op with
      | .mma => .next (s.startMma g o)
      | .mwb => .next (s.startMwb g o)
      | .mlb => .next (s.startMlb g o)
      | .mle => .next (s.startMle g o)
      | .mtin =>
        .next (if s.fb F.MTX_TRV_NEXT_FIRST g c o.trv then s.mtxFault g o 0x09 else s.setMtx g { o with started := true })
      | _ =>
        .next (if s.fb F.MTX_TRV_NEXT_LAST g c o.trv then s.mtxFault g o 0x09 else s.beginMtx g o)

/-! ### Completion -/

/-- Flags of a matrix instruction in the context's MTX_FLAGS. -/
def State.mtxRaised (s : State) (g c : Nat) (fl : FFlags) : State :=
  s.setReg ⟨.MTX_FLAGS, g, c, 0⟩ (s.reg ⟨.MTX_FLAGS, g, c, 0⟩ ||| BitVec.ofNat 64 fl.toNat)

/-- Flags of an MMA or MWB: MTX_FLAGS and the bracket that counts it (R129, R132, R144). -/
def State.mtxFlags (s : State) (g : Nat) (o : MOp) (fl : FFlags) : State :=
  let s := s.mtxRaised g o.who.c fl
  if fl.ovf then s.bracketOvf g o.who.c o.cls o.seq false else s

/-- The elements of a tile of an MMA, in stored order. -/
def State.tileElems (s : State) (g : Nat) (o : MOp) (f addr : Nat) : List Nat × State :=
  match s.winKey g o.who.c addr (tileBytes f) with
  | none => ([], s)
  | some key => let (bs, s) := s.raced o.snap key (tileBytes f); (unpackElems (fmt f).width 16384 bs, s)

/-- The completion of an MMA (R127 to R130). -/
def State.mmaComplete (s : State) (g : Nat) (o : MOp) : State :=
  let c := o.who.c
  let s := s.dropMtx g o.seq
  if (s.keysOf g c o.tiles).any (fun r => s.poisoned r.1 r.2) then s.raiseWho g o.who 0x0D else
  if !o.clr && s.accBad g c o.acc then s.raiseWho g o.who 0x0D else
  match mmaPair o.dec.f35 o.bfmt with
  | none => s
  | some (chunk, mode) =>
    let (ta, s) := s.tileElems g o o.dec.f35 o.ra.toNat
    let (tb, s) := s.tileElems g o o.bfmt o.rb.toNat
    let empty := o.clr || s.accMode g c o.acc == 0
    let old := denseTot (s.accTot g c o.acc)
    let acc (p : Nat) : Option Nat := if empty then none else some (old.getD p 0)
    let (es, fl) := mmaTile o.dec.f35 o.bfmt (o.dec.field 30 1 == 1) (o.dec.field 29 1 == 1) (o.dec.field 26 1 == 1) mode
      chunk acc ta tb
    ((s.setAcc g c o.acc mode (sparseTot es)).mtxFlags g o fl).progress g c

/-- The values of an accumulator's totals. -/
def accVals (mode : Nat) (tot : SMap Nat Nat) : List FVal := (denseTot tot).toList.map (accVal mode)

/-- The local contribution of a total over what landed: element by element, one rounding each (R304). -/
def localVals (mode : Nat) (tot : SMap Nat Nat) (lmode : Nat) (land : SMap Nat Nat) : List FVal :=
  if lmode = 0 then accVals mode tot
  else ((denseTot tot).toList.zip (denseTot land).toList).map (fun p => accVal mode (lateElem mode p.1 p.2).1)

/-- What an accumulator was loaded with by an MTIN on a LAST entry. -/
def State.setAccSrc (s : State) (g c a : Nat) (x : Option AccSrc) : State :=
  { s with accSrc := SMap.set (fun k => (4 * k.1 + k.2.1) * 2 + k.2.2) none s.accSrc (g, c, a) x }

/-- The statistics of the first MWB with KEEP = 0 on what the latest MTIN on a LAST entry loaded (R304). -/
def State.gnsLast (s : State) (g : Nat) (o : MOp) : State :=
  let c := o.who.c
  match SMap.get none s.accSrc (g, c, o.acc) with
  | none => s
  | some x =>
    let s := s.setAccSrc g c o.acc none
    if !s.gnsOn c x.t then s else
    let mode := s.accMode g c o.acc
    let tot := s.accTot g c o.acc
    let loc := sumSquares (localVals mode tot x.mode x.tot)
    let all := sumSquares (accVals mode tot)
    s.gnsAdd c o.bin (fun b => (b.addLocal loc (s.f F.MTX_TRV_NEXT_CONTRIB g c x.t)).addTotal all
      (s.f F.MTX_TRV_STATUS_CONTRIB g c x.t))

/-- The completion of an MWB (R126, R131, R132). -/
def State.mwbComplete (s : State) (g : Nat) (o : MOp) : State :=
  let c := o.who.c
  if s.accBad g c o.acc then s.mtxFault g o 0x0D else
  let (scale, f1) := scaleProd (o.rb.toNat % 2 ^ 32) (o.rb.toNat / 2 ^ 32)
  let tot := denseTot (s.accTot g c o.acc)
  let (es, f2) := mwbTile (s.accMode g c o.acc) (fun p => tot.getD p 0) scale o.dec.f35 o.dec.f32 (o.dec.field 28 4 + 1)
    o.seed o.tag
  let s := match s.winKey g c o.ra.toNat (tileBytes o.dec.f35) with
    | none => s
    | some key => s.matrixWrite g key (packElems (fmt o.dec.f35).width es)
  let s := if o.keep then s else (s.gnsLast g o).setAcc g c o.acc 0 []
  ((s.mtxFlags g o (f1.or f2)).dropMtx g o.seq).progress g c

/-- The completion of an MTIN (R138, R141): it waits until a total has landed. -/
def State.mtinComplete (s : State) (g : Nat) (o : MOp) : State :=
  let c := o.who.c
  let t := o.trv
  if (s.hop g c t).up.isNone then s else
  let s := s.dropMtx g o.seq
  match s.landKey g c t with
  | none => s.raiseWho g o.who 0x09
  | some key =>
    let h := TrvHdr.ofArea s.mem key
    let tot := areaTot s.mem key
    let bad := s.poisoned key areaSize || (crc64 (totBytes tot)).toNat != h.digest
    if bad then (s.setAcc g c o.acc 0 []).raiseWho g o.who 0x0D
    else if 3 < h.mode then (s.setAcc g c o.acc 0 []).raiseWho g o.who 0x09
    else
      let s := (s.setAcc g c o.acc h.mode tot).progress g c
      if !s.fb F.MTX_TRV_NEXT_LAST g c t then s else
      let w := h.contrib + s.f F.MTX_TRV_NEXT_CONTRIB g c t
      let s := s.setF F.MTX_TRV_STATUS_CONTRIB w g c t
      let s := s.setF F.MTX_TRV_STATUS_SKIPS h.skips g c t
      let others := s.accSrc.filter (fun e => !(decide (e.1.1 = g ∧ e.1.2.1 = c) && decide (e.2.map AccSrc.t = some t)))
      let s := { s with accSrc := others }.setAccSrc g c o.acc (some ⟨t, h.mode, tot, w⟩)
      (s.setTrvState g c t 0).creditUp g c t

/-- An MTOUT on a skipped entry writes its late total (R140, R296), and raises the flags of its differences. Where the mode of
ACC differs from that of the landed total, the landed words are read in ACC's mode (log entry 52). -/
def State.lateComplete (s : State) (g : Nat) (o : MOp) : State :=
  let c := o.who.c
  let t := o.trv
  let first := s.fb F.MTX_TRV_NEXT_FIRST g c t
  let s := s.dropMtx g o.seq
  match s.lateKey g c t, (if first then some 0 else s.landKey g c t) with
  | some key, some land =>
    let lh := TrvHdr.ofArea s.mem land
    let lmode := if first then 0 else lh.mode
    let am := s.accMode g c o.acc
    let tot := s.accTot g c o.acc
    let mode := if am = 0 then lmode else am
    let diff := if lmode = 0 then [] else
      ((denseTot tot).toList.zip (denseTot (areaTot s.mem land)).toList).map (fun p => lateElem mode p.1 p.2)
    let late := if lmode = 0 then tot else sparseTot (diff.map (·.1))
    let w := s.f F.MTX_TRV_NEXT_CONTRIB g c t
    let keep := s.trnF F.TRN_STEP_CFG_LATE c = 1
    let h : TrvHdr := ⟨t, if keep then mode else 0, 0, w, s.coreWord g, 0, s.clk.frame, (crc64 (totBytes late)).toNat⟩
    let s := if keep then s.addF F.TRN_LATE_KEPT_COUNT w c else s.addF F.TRN_LATE_DROPPED_COUNT w c
    let s := (s.putArea key (areaOf h late)).patchSnaps g key areaSize true
    let s := s.setF F.MTX_TRV_STATUS_LATE 1 g c t
    let s := (s.setAcc g c o.acc 0 []).setHop g c t { s.hop g c t with sent := true }
    let s := s.mtxRaised g c (diff.foldl (fun fl e => fl.or e.2) {})
    ((s.setTrvState g c t 0).creditUp g c t).progress g c
  | _, _ => s.raiseWho g o.who 0x09

/-- An MTOUT that sends (R137): header, totals and credit; the statistics of R304 where the traverse is measured. -/
def State.sendComplete (s : State) (g : Nat) (o : MOp) : State :=
  let c := o.who.c
  let t := o.trv
  let first := s.fb F.MTX_TRV_NEXT_FIRST g c t
  let landed := !first && (s.hop g c t).up.isSome
  let s := s.dropMtx g o.seq
  if landed && (s.landKey g c t).isNone then s.raiseWho g o.who 0x09
  else if !s.nextKnown g c t then s.raiseWho g o.who 0x05
  else
    let land := (s.landKey g c t).getD 0
    let lh := TrvHdr.ofArea s.mem land
    let mode := s.accMode g c o.acc
    let tot := s.accTot g c o.acc
    let w := s.f F.MTX_TRV_NEXT_CONTRIB g c t
    let h : TrvHdr := ⟨t, mode, if landed then lh.skips else 0, if landed then lh.contrib + w else w, s.coreWord g,
      if landed then lh.firstSkip else 0, s.clk.frame, (crc64 (totBytes tot)).toNat⟩
    let s := if !s.gnsOn c t then s else
      let loc := sumSquares (localVals mode tot (if landed then lh.mode else 0) (areaTot s.mem land))
      s.gnsAdd c o.bin (fun b => b.addLocal loc w)
    let s := s.trvSend g c t (areaOf h tot) false
    let s := (s.setAcc g c o.acc 0 []).setHop g c t { s.hop g c t with sent := true }
    let s := s.setTrvState g c t 0
    (if first then s else s.creditUp g c t).progress g c

/-- The completion of an MTOUT (R137, R140, Table MTX-4): it waits for credit, or for the landing that a late entry
forwards. -/
def State.mtoutComplete (s : State) (g : Nat) (o : MOp) : State :=
  let c := o.who.c
  let t := o.trv
  let st := s.trvState g c t
  if s.accBad g c o.acc then s.mtxFault g o 0x0D
  else if st = 3 then s.lateComplete g o
  else if st = 2 ∨ (s.hop g c t).wait ∨ !s.fb F.MTX_TRV_STATUS_CREDIT g c t then s
  else s.sendComplete g o

/-- MATRIX_INSTRUCTION_COMPLETE (R129): instruction n of the queue, started, completes. An MLE completes with its layer
decision. -/
def execMatrixInstructionComplete (g n : Nat) (s : State) : Host.Outcome State Fault Refusal :=
  match (s.core g).mtxq[n]? with
  | none => .next s
  | some o =>
    if !o.started then .next s
    else match o.dec.op with
      | .mma => .next (s.mmaComplete g o)
      | .mwb => .next (s.mwbComplete g o)
      | .mtin => .next (s.mtinComplete g o)
      | .mtout => .next (s.mtoutComplete g o)
      | .mlb => .next ((s.dropMtx g o.seq).progress g o.who.c)
      | _ => .next s

/-! ### The layer decision (R145, R147) -/

/-- A counted instruction of the bracket has not completed. -/
def State.bracketBusy (s : State) (g c cls : Nat) (b : Bracket) : Bool :=
  (s.core g).mtxq.any (fun o => decide (o.who.c = c ∧ o.cls = cls) && b.counts o.seq &&
    (decide (o.dec.op = .mma) || decide (o.dec.op = .mwb))) ||
  (b.vecOvf && (s.core g).vecq.any (fun o => decide (o.who.c = c ∧ o.cls = cls) && b.counts o.seq))

/-- The bracket closes and its MLE completes. -/
def State.closeBracket (s : State) (g c cls : Nat) (b : Bracket) : State :=
  let s := (s.setBracket g c cls none).setReg ⟨.MTX_LAYER, g, c, cls⟩ 0
  match b.closeSeq with
  | none => s
  | some e => s.dropMtx g e

/-- The decision of `layer_end` on a flag, over the descriptor at a key. -/
def State.layerDecide (s : State) (g c cls : Nat) (b : Bracket) (key : Nat) (flag : Bool) : State :=
  let bs := s.read key 64
  let w0 := wordAt bs 0
  let w2 := wordAt bs 2
  let layer := s.f F.MTX_LAYER_LAYER_ID g c cls
  let fm (i : Nat) : Nat := bitsN w0 (32 + 4 * i) 4
  let step := bitsN w0 16 2
  let frame := s.clk.frame % 2 ^ 32
  let s := s.closeBracket g c cls b
  let tokenTo (s : State) (t : Nat) : State := if t = 28 then s else s.token g c t 1
  if !flag then
    let s := s.matrixWrite g (key + 16) (toLE 8 (w2 % 2 ^ 17 + frame * 2 ^ 32))
    (tokenTo s (bitsN w0 48 5)).progress g c
  else
    let nxt := firstFrom (fun i => fm i != 15) (3 - step) (step + 1)
    let replays := min 255 (w2 % 256 + 1)
    let dest := nxt.elim 15 fm
    let exh := nxt.isNone || bitN w2 16
    let w2' := replays + fm step * 2 ^ 8 + dest * 2 ^ 12 + (if exh then 2 ^ 16 else 0) + frame * 2 ^ 32
    let s := s.matrixWrite g (key + 16) (toLE 8 w2')
    let s := match nxt with
      | none => s
      | some i => s.matrixWrite g key (toLE 8 (w0 - step * 2 ^ 16 + i * 2 ^ 16))
    let s := s.addF F.MTX_RPL_COUNT_COUNT 1 g c
    let s := s.setReg ⟨.MTX_RPL_LAST, g, c, 0⟩ (BitVec.ofNat 64
      (layer + fm step * 2 ^ 16 + dest * 2 ^ 20 + (if nxt.isNone then 2 ^ 24 else 0) + cls * 2 ^ 25))
    let s := s.setF F.MTX_RPL_LAST_FRAME_FRAME s.clk.frame g c
    match nxt with
    | none =>
      let s := s.event F.MTX_EVENT_EXHAUST c
      if s.stepOpen c then s.trnCause c g 5 else s.raiseWho g b.who 0x09 (some b.addr)
    | some _ => (tokenTo (s.event F.MTX_EVENT_REPLAY c) (bitsN w0 53 5)).progress g c

/-- The bracket ends with a fault of its MLE. -/
def State.bracketFault (s : State) (g c cls : Nat) (b : Bracket) (code : Nat) : State :=
  (s.closeBracket g c cls b).raiseWho g b.who code

/-- The layer col entered by an MLE (R145, R270): a third entry, or one to a full wait table, stalls beside the queue. -/
def State.layerCol (s : State) (g c cls id : Nat) (b : Bracket) : State :=
  let flag := s.fb F.MTX_LAYER_FLAG g c cls
  if !s.colOk g c id 1 then s.bracketFault g c cls b 0x0C else
  let s := s.setF F.MTX_LAYER_STATE 3 g c cls
  if s.colRoom g c id then s.colSend g c id (.bracket cls) flag
  else s.colStall g { c := c, id := id, waiter := .bracket cls, flag := flag }

/-- LAYER_END_DECISION (R145): a deciding bracket whose counted instructions have completed decides, or enters the layer
col; a waiting one decides on the released flag. A halted context's bracket stays as it is (Table MTX-6). -/
def execLayerEndDecision (g c cls : Nat) (s : State) : Host.Outcome State Fault Refusal :=
  match s.bracket g c cls with
  | none => .next s
  | some b =>
    let st := s.f F.MTX_LAYER_STATE g c cls
    if s.halted c || (st != 2 && st != 3) then .next s
    else match s.operandKey g c b.addr 64 with
      | none => .next (s.bracketFault g c cls b 0x09)
      | some key =>
        if st = 3 then
          match b.released with
          | none => .next s
          | some f => .next (s.layerDecide g c cls b key f)
        else if s.bracketBusy g c cls b then .next s
        else if s.poisoned key 64 then .next (s.bracketFault g c cls b 0x0D)
        else
          let bs := s.read key 64
          if bitN (wordAt bs 0) 19 then .next (s.layerCol g c cls (bitsN (wordAt bs 1) 0 12) b)
          else .next (s.layerDecide g c cls b key (s.fb F.MTX_LAYER_FLAG g c cls))

/-! ### Emptying a context (R149, Table MTX-6, R124) -/

/-- What the engines hold for context c on core g is emptied. -/
def State.enginesReset (s : State) (g c : Nat) : State :=
  let u := s.core g
  let s := s.setCore g { u with mtxq := u.mtxq.filter (fun o => decide (o.who.c ≠ c)), vecq := u.vecq.filter (fun o => decide (o.who.c ≠ c)) }
  let s := (s.setAcc g c 0 0 []).setAcc g c 1 0 []
  let s := { s with accSrc := s.accSrc.filter (fun e => decide ¬(e.1.1 = g ∧ e.1.2.1 = c)) }
  let s := (s.setBracket g c 0 none).setBracket g c 1 none
  ((s.setReg ⟨.MTX_LAYER, g, c, 0⟩ 0).setReg ⟨.MTX_LAYER, g, c, 1⟩ 0).trvReset g c

end Sys2Proof.Machine
end

