-- ==== Sys2Proof/Machine/Lend.lean ====
section
/-! DEFINITION. Power lending between the cores of a die (R277 to R282). -/

namespace Sys2Proof.Machine

/-- Some strand of a context on core g can issue; an interlock of a few cycles does not count as a wait. -/
def State.ctxCanIssue (s : State) (g c : Nat) : Bool :=
  (List.range 8).any (fun k => s.ready g c k && s.ableUnder [] g c k)

/-- An instruction of the matrix queue keeps the array from being idle; an MLE that waits for its layer col beside the queue
does not (R145, R270). -/
def MOp.occupies (o : MOp) : Bool := !(o.started && o.dec.op == .mle)

/-- Core g is idle at a col (R277): an outstanding entry of some context, no strand that can issue, both engines idle. -/
def State.idleAtCol (s : State) (g : Nat) : Bool :=
  (List.range 4).any (fun c => !(s.waitsOf g c).isEmpty) && !(List.range 4).any (s.ctxCanIssue g) &&
    !(s.core g).mtxq.any MOp.occupies && (s.core g).vecq.isEmpty

/-- The cores of a die. -/
def State.dieCores (s : State) (d : Nat) : List Nat := s.coreList.filter (fun g => g / 128 = d)

def State.lending (s : State) (g : Nat) : Bool := s.fb F.COL_CORE_BOOST_LENDING g

def State.boost (s : State) (g : Nat) : Nat := s.f F.COL_CORE_BOOST_STEPS g

/-- The array or the vector engine of core g is occupied. -/
def State.occupiedNow (s : State) (g : Nat) : Bool :=
  (s.core g).mtxq.any (fun o => o.started && o.occupies) || (s.core g).vecq.any (·.started)

/-- Core g is busy (R277): it does not lend, and an engine of it was occupied for at least 90 % of the time since the die's
latest lending period (log entry 27). -/
def State.lendBusy (s : State) (g : Nat) : Bool :=
  let n := SMap.get 0 s.cycles.occupied g
  !s.lending g && decide (0 < n) && decide (9 * (s.clk.now - SMap.get 0 s.lendAt (g / 128)) ≤ 10 * n)

/-! ### Cycle counters (R9, R95, R281) -/

/-- One addition to a counter of an ordered map. -/
def countUp {α : Type} [DecidableEq α] (key : α → Nat) (m : SMap α Nat) (k : α) (n : Nat) : SMap α Nat :=
  if n = 0 then m else SMap.set key 0 m k (SMap.get 0 m k + n)

/-- The core and context pairs whose counters differ from the package clock's: the owners on cores that hold something of a
context, and on boosted ones. -/
def State.counting (s : State) : List (Nat × Nat) :=
  ((SMap.keys s.ctxs).filter (fun e => s.owns e.1 e.2) ++
    ((s.listed .COL_CORE_BOOST).filter (fun r => decide (0 < s.boost r.i))).map (fun r => (r.i, s.ownerOf r.i))).eraseDups

/-- dt units of 10 ns pass over one core and its owner. -/
def State.countOne (s : State) (dt : Nat) (y : Cycles) (e : Nat × Nat) : Cycles :=
  let base := dt * s.f F.PWR_STATUS_CLK
  let own := base + dt * 25 * s.boost e.1
  let issue := s.ctxCanIssue e.1 e.2
  let key (k : Nat × Nat) : Nat := 4 * k.1 + k.2
  let more : Int := if issue || !(s.ctx e.1 e.2).ready.isEmpty then -(base : Int) else ((own - base : Nat) : Int)
  { y with
    idle := SMap.set key 0 y.idle e (SMap.get 0 y.idle e + more)
    wait := if (s.waitsOf e.1 e.2).isEmpty || issue then y.wait else countUp key y.wait e own }

/-- dt units of 10 ns pass: the cycles of boosted cores, of owners, of idle and waiting contexts, and the time that engines
are occupied. The state is the one that the commands before have left. -/
def State.countCycles (s : State) (dt : Nat) : Cycles :=
  let y := s.cycles
  let y := { y with
    boost := (s.listed .COL_CORE_BOOST).foldl (fun m r => countUp id m r.i (dt * 25 * s.boost r.i)) y.boost
    owned := (List.range 32).foldl (fun m r =>
      let c := s.ownerOf (8 * r)
      if c < 4 then countUp (fun k => 4 * k.1 + k.2) m (r, c) (dt * s.f F.PWR_STATUS_CLK) else m) y.owned
    occupied := ((SMap.keys s.cores).filter s.occupiedNow).foldl (fun m g => countUp id m g dt) y.occupied }
  s.counting.foldl (s.countOne dt) y

/-- The timers of Table COL-6 as time goes on: a core that is idle at a col has been so at least since now. -/
def State.idleTimers (s : State) : State :=
  (SMap.keys s.cores).foldl (fun t g =>
    let x := t.core g
    t.setCore g { x with iss := { x.iss with idle := if s.idleAtCol g then some (x.iss.idle.getD s.clk.now) else none } }) s

/-- CORE_CYCLES of core g: the package clock and the steps of its boost. -/
def State.coreCycles (s : State) (g : Nat) : Nat := (s.clk.cyc + SMap.get 0 s.cycles.boost g) / 100

/-- CORE_IDLE_CYCLES of context c on core g. -/
def State.idleCycles (s : State) (g c : Nat) : Nat :=
  (((SMap.get 0 s.cycles.owned (g / 8, c) : Nat) : Int) + SMap.get 0 s.cycles.idle (g, c)).toNat / 100

/-- COL_WAIT_CYCLES of context c on core g. -/
def State.waitCycles (s : State) (g c : Nat) : Nat := SMap.get 0 s.cycles.wait (g, c) / 100

/-! ### Lending -/

/-- LENDERS and BORROWERS follow the cores. -/
def State.lendCount (s : State) (d : Nat) : State :=
  let gs := s.dieCores d
  (s.setF F.COL_LEND_STAT_LENDERS (gs.filter s.lending).length d).setF F.COL_LEND_STAT_BORROWERS
    (gs.filter (fun g => decide (0 < s.boost g))).length d

/-- Every core of the die at its nominal clock, none lending (R280). -/
def State.lendReturn (s : State) (d : Nat) : State :=
  let s := (s.dieCores d).foldl (fun s g => (s.setF F.COL_CORE_BOOST_STEPS 0 g).setF F.COL_CORE_BOOST_LENDING 0 g) s
  ((s.setF F.COL_LEND_STAT_POOL 0 d).setF F.COL_LEND_STAT_BORROWED 0 d).lendCount d

/-- The first part of `lend_period` for a core: a new lender, an idle borrower's steps returned. -/
def State.lendJoin (s : State) (d g : Nat) : State :=
  let since := (s.core g).iss.idle.getD s.clk.now
  let waited := s.idleAtCol g && decide (s.f F.COL_LEND_CFG_WAIT d ≤ s.clk.now - since)
  let s := if !s.lending g && waited then
      (s.setF F.COL_CORE_BOOST_LENDING 1 g).addF F.COL_LEND_STAT_POOL (s.f F.COL_LEND_CFG_GRANT d) d
    else s
  if 0 < s.boost g ∧ !s.lendBusy g then
    (s.setF F.COL_LEND_STAT_BORROWED (s.f F.COL_LEND_STAT_BORROWED d - s.f F.COL_LEND_CFG_COST d * s.boost g) d).setF
      F.COL_CORE_BOOST_STEPS 0 g
  else s

/-- The second part for a core: one clock step while the budget lasts. -/
def State.lendGive (s : State) (d g : Nat) : State :=
  let cost := s.f F.COL_LEND_CFG_COST d
  let budget := s.f F.COL_LEND_STAT_POOL d - s.f F.COL_LEND_STAT_BORROWED d
  if budget < cost then s
  else if s.lendBusy g && decide (s.boost g < s.f F.COL_LEND_CFG_MAX_STEPS d) then
    { (s.addF F.COL_CORE_BOOST_STEPS 1 g).addF F.COL_LEND_STAT_BORROWED cost d with
      lendPtr := SMap.set id 0 s.lendPtr d (g + 1) }
  else s

/-- The next period of a die begins. -/
def State.lendNext (s : State) (d : Nat) : State :=
  { s with
    lendAt := SMap.set id 0 s.lendAt d s.clk.now
    cycles := { s.cycles with occupied := s.cycles.occupied.filter (fun e => decide (e.1 / 128 ≠ d)) } }

/-- `lend_period` (R278), with a configuration written since the last one (R282). -/
def State.lendPeriod (s : State) (d : Nat) : State :=
  let s := match SMap.get none s.lendNew d with
    | some v => { s.setReg ⟨.COL_LEND_CFG, d, 0, 0⟩ v with lendNew := SMap.set id none s.lendNew d none }
    | none => s
  if !s.fb F.COL_LEND_CFG_EN d || decide (s.f F.PWR_STATUS_CLK < 2500) then (s.lendReturn d).lendNext d else
  let gs := s.dieCores d
  let s := gs.foldl (fun s g => s.lendJoin d g) s
  let ptr := SMap.get 0 s.lendPtr d
  let order := gs.filter (fun g => ptr ≤ g) ++ gs.filter (fun g => g < ptr)
  ((order.foldl (fun s g => s.lendGive d g) s).lendCount d).lendNext d

/-- LENDING_PERIOD (R278). -/
def execLendingPeriod (d : Nat) (s : State) : Host.Outcome State Fault Refusal :=
  if d < 2 then .next (s.lendPeriod d) else .next s

/-- The borrower with most steps, the highest number on a tie. -/
def State.topBorrower (s : State) (d : Nat) : Option Nat :=
  (s.dieCores d).foldl (fun b g =>
    if s.boost g = 0 then b else
    match b with
    | none => some g
    | some h => if s.boost h ≤ s.boost g then some g else b) none

/-- Steps reclaimed until no more is borrowed than the pool holds (R279). -/
def State.lendReclaim (d : Nat) : Nat → State → State
  | 0, s => s
  | n + 1, s =>
    if s.f F.COL_LEND_STAT_BORROWED d ≤ s.f F.COL_LEND_STAT_POOL d then s else
    match s.topBorrower d with
    | none => s
    | some h =>
      State.lendReclaim d n ((s.setF F.COL_CORE_BOOST_STEPS (s.boost h - 1) h).setF F.COL_LEND_STAT_BORROWED
        (s.f F.COL_LEND_STAT_BORROWED d - s.f F.COL_LEND_CFG_COST d) d)

/-- LENDER_WAKE (R279): a lending core that is no longer idle at a col. -/
def execLenderWake (g : Nat) (s : State) : Host.Outcome State Fault Refusal :=
  if !s.lending g || s.idleAtCol g then .next s else
  let d := g / 128
  let s := s.setF F.COL_CORE_BOOST_LENDING 0 g
  let s := s.setF F.COL_LEND_STAT_POOL (s.f F.COL_LEND_STAT_POOL d - s.f F.COL_LEND_CFG_GRANT d) d
  .next ((State.lendReclaim d 1537 s).lendCount d)

/-- COL_LEND_CFG_WRITE (R282): from the next period; a GRANT or COST of 0 or a MAX_STEPS above 12 leaves the register. -/
def State.lendCfgWrite (s : State) (d : Nat) (v : Word) : State :=
  if bits v 8 8 = 0 ∨ bits v 16 4 = 0 ∨ 12 < bits v 24 4 then s
  else { s with lendNew := SMap.set id none s.lendNew d (some (v &&& 0xFFFFFFFF0F0FFF01#64)) }

/-- COL_LEND_CFG_WRITE. -/
def execColLendCfgWrite (d : Nat) (v : Word) (s : State) : Host.Outcome State Fault Refusal :=
  if d < 2 then .next (s.lendCfgWrite d v) else .next s

end Sys2Proof.Machine
end

