-- ==== Sys2Proof/Machine/Sha.lean ====
section
/-! DEFINITION. The hash functions that R222, R360 and R363 name: SHA-384 and SHA-512 (FIPS 180-4), and the Keccak sponges SHAKE128
and SHAKE256 (FIPS 202) of ML-DSA. PRESUMED from these standards (log entry 33). -/

namespace Sys2Proof.Machine

/-! ### SHA-2 -/

/-- The largest r below 2^n with r^k at most x. -/
def rootBelow (k x : Nat) : Nat → Nat → Nat
  | 0, r => r
  | n + 1, r => rootBelow k x n (if (r + 2 ^ n) ^ k ≤ x then r + 2 ^ n else r)

/-- The first 80 primes. -/
def shaPrimes : List Nat :=
  [2, 3, 5, 7, 11, 13, 17, 19, 23, 29, 31, 37, 41, 43, 47, 53, 59, 61, 67, 71, 73, 79, 83, 89, 97, 101, 103, 107, 109, 113, 127, 131,
   137, 139, 149, 151, 157, 163, 167, 173] ++
  [179, 181, 191, 193, 197, 199, 211, 223, 227, 229, 233, 239, 241, 251, 257, 263, 269, 271, 277, 281, 283, 293, 307, 311, 313, 317,
   331, 337, 347, 349, 353, 359, 367, 373, 379, 383, 389, 397, 401, 409]

/-- The round constants: the first 64 bits of the fractions of the cube roots of the primes. -/
def sha512K : List Word := shaPrimes.map (fun p => BitVec.ofNat 64 (rootBelow 3 (p * 2 ^ 192) 68 0))

/-- The first 64 bits of the fractions of square roots. -/
def shaInit (ps : List Nat) : List Word := ps.map (fun p => BitVec.ofNat 64 (rootBelow 2 (p * 2 ^ 128) 68 0))

/-- The number that bytes spell, the first the most significant. -/
def ofBE (bs : List Byte) : Nat := bs.foldl (fun a b => 256 * a + b.toNat) 0

/-- n bytes of a number, the most significant first. -/
def toBE (n x : Nat) : List Byte := (List.range n).reverse.map (fun i => BitVec.ofNat 8 (x / 256 ^ i))

/-- The message schedule: t more words of a reversed list. -/
def shaExtend : Nat → List Word → List Word
  | 0, r => r
  | t + 1, r =>
    let w (i : Nat) : Word := r.getD i 0
    let s0 := (w 14).rotateRight 1 ^^^ (w 14).rotateRight 8 ^^^ (w 14 >>> 7)
    let s1 := (w 1).rotateRight 19 ^^^ (w 1).rotateRight 61 ^^^ (w 1 >>> 6)
    shaExtend t ((s1 + w 6 + s0 + w 15) :: r)

/-- One round. -/
def shaRound (h : List Word) (kw : Word × Word) : List Word :=
  match h with
  | [a, b, c, d, e, f, g, i] =>
    let s1 := e.rotateRight 14 ^^^ e.rotateRight 18 ^^^ e.rotateRight 41
    let t1 := i + s1 + ((e &&& f) ^^^ (~~~ e &&& g)) + kw.1 + kw.2
    let s0 := a.rotateRight 28 ^^^ a.rotateRight 34 ^^^ a.rotateRight 39
    let t2 := s0 + ((a &&& b) ^^^ (a &&& c) ^^^ (b &&& c))
    [t1 + t2, a, b, c, d + t1, e, f, g]
  | h => h

/-- One block of 128 B. -/
def shaBlock (k h : List Word) (block : List Byte) : List Word :=
  let ws := (List.range 16).map (fun i => BitVec.ofNat 64 (ofBE ((block.drop (8 * i)).take 8)))
  List.zipWith (· + ·) h ((k.zip (shaExtend 64 ws.reverse).reverse).foldl shaRound h)

/-- The blocks of a padded message. -/
def shaBlocks (k : List Word) : Nat → List Word → List Byte → List Word
  | 0, h, _ => h
  | n + 1, h, bs => shaBlocks k n (shaBlock k h (bs.take 128)) (bs.drop 128)

/-- The hash whose initial value comes from eight primes, as bytes. -/
def sha512From (primes : List Nat) (msg : List Byte) : List Byte :=
  let n := (msg.length + 17 + 127) / 128
  let padded := msg ++ [0x80] ++ List.replicate (128 * n - msg.length - 17) 0 ++ toBE 16 (8 * msg.length)
  (shaBlocks sha512K n (shaInit primes) padded).flatMap (fun w => toBE 8 w.toNat)

/-- SHA-512. -/
def sha512 (msg : List Byte) : List Byte := sha512From (shaPrimes.take 8) msg

/-- SHA-384. -/
def sha384 (msg : List Byte) : List Byte := (sha512From ((shaPrimes.drop 8).take 8) msg).take 48

/-! ### SHAKE -/

/-- The state of Keccak: lane x + 5 y. -/
abbrev Keccak := List Word

/-- n steps of the register that gives the round constants. -/
def keccakLfsr : Nat → Nat → Nat
  | 0, r => r
  | n + 1, r => keccakLfsr n (if 128 ≤ r then (2 * r) % 256 ^^^ 0x71 else 2 * r)

/-- The constant of a round: bit 2^j - 1 is rc(j + 7 round). -/
def keccakRC (round : Nat) : Word :=
  (List.range 7).foldl (fun w j => if keccakLfsr (j + 7 * round) 1 % 2 = 1 then w ^^^ (1#64 <<< (2 ^ j - 1)) else w) 0

/-- The rotations of ρ along the path (x, y) ← (y, 2x + 3y). -/
def keccakRho : List (Nat × Nat) :=
  ((List.range 24).foldl (fun (a : List (Nat × Nat) × Nat × Nat) t =>
    let (l, x, y) := a
    (l ++ [(x + 5 * y, (t + 1) * (t + 2) / 2 % 64)], y, (2 * x + 3 * y) % 5)) ([], 1, 0)).1

/-- One round: θ, ρ, π, χ, ι. -/
def keccakRound (rho : List (Nat × Nat)) (a : Keccak) (round : Nat) : Keccak :=
  let at5 (l : List Word) (i : Nat) : Word := l.getD i 0
  let c := (List.range 5).map (fun x => (List.range 5).foldl (fun w y => w ^^^ at5 a (x + 5 * y)) 0)
  let d := (List.range 5).map (fun x => at5 c ((x + 4) % 5) ^^^ (at5 c ((x + 1) % 5)).rotateLeft 1)
  let a := (List.range 25).map (fun i =>
    (at5 a i ^^^ at5 d (i % 5)).rotateLeft (((rho.find? (fun e => e.1 == i)).map (·.2)).getD 0))
  let b := (List.range 25).map (fun i => at5 a ((i % 5 + 3 * (i / 5)) % 5 + 5 * (i % 5)))
  let a := (List.range 25).map (fun i =>
    at5 b i ^^^ (~~~ at5 b ((i + 1) % 5 + i / 5 * 5) &&& at5 b ((i + 2) % 5 + i / 5 * 5)))
  match a with
  | w :: ws => (w ^^^ keccakRC round) :: ws
  | [] => []

/-- The permutation. -/
def keccakF (a : Keccak) : Keccak := (List.range 24).foldl (keccakRound keccakRho) a

/-- Bytes exclusive-ored into the first lanes. -/
def keccakAbsorb (a : Keccak) (block : List Byte) : Keccak :=
  (List.range 25).map (fun i => a.getD i 0 ^^^ BitVec.ofNat 64 (ofLE ((block.drop (8 * i)).take 8)))

/-- Absorbs n blocks of the rate. -/
def spongeIn (rate : Nat) : Nat → List Byte → Keccak → Keccak
  | 0, _, a => a
  | n + 1, bs, a => spongeIn rate n (bs.drop rate) (keccakF (keccakAbsorb a (bs.take rate)))

/-- Squeezes n blocks of the rate. -/
def spongeOut (rate : Nat) : Nat → Keccak → List Byte
  | 0, _ => []
  | n + 1, a => (a.flatMap (fun w => toLE 8 w.toNat)).take rate ++ spongeOut rate n (keccakF a)

/-- n bytes of SHAKE with a rate. -/
def shake (rate : Nat) (msg : List Byte) (n : Nat) : List Byte :=
  let blocks := msg.length / rate + 1
  let fill := rate * blocks - msg.length
  let pad : List Byte := if fill = 1 then [0x9F] else 0x1F :: (List.replicate (fill - 2) 0 ++ [0x80])
  let a := spongeIn rate blocks (msg ++ pad) (List.replicate 25 0)
  (spongeOut rate ((n + rate - 1) / rate) a).take n

/-- SHAKE128 and SHAKE256, n bytes of output. -/
def shake128 (msg : List Byte) (n : Nat) : List Byte := shake 168 msg n

def shake256 (msg : List Byte) (n : Nat) : List Byte := shake 136 msg n

end Sys2Proof.Machine
end

