-- ==== Sys2Proof/Machine/Ed25519.lean ====
section
/-! DEFINITION. Ed25519 (RFC 8032, pure), which R360, R362 and R363 name. PRESUMED from that standard (log entry 33). -/

namespace Sys2Proof.Machine

/-- b^e modulo m, from the n low bits of e. -/
def powMod (b e m : Nat) : Nat → Nat
  | 0 => 1 % m
  | n + 1 =>
    let h := powMod b (e / 2) m n
    h * h % m * (if e % 2 = 1 then b else 1) % m

/-- The field prime and the group order. -/
def edP : Nat := 2 ^ 255 - 19

def edL : Nat := 2 ^ 252 + 27742317777372353535851937790883648493

def edInv (x : Nat) : Nat := powMod x (edP - 2) edP 256

/-- The curve constant d = -121665 ÷ 121666. -/
def edD : Nat := (edP - 121665) * edInv 121666 % edP

/-- A point in extended coordinates: X, Y, Z, T with x = X ÷ Z, y = Y ÷ Z, x y = T ÷ Z. -/
structure EdPoint where
  x : Nat
  y : Nat
  z : Nat
  t : Nat

def EdPoint.zero : EdPoint := ⟨0, 1, 1, 0⟩

/-- The sum of two points. -/
def EdPoint.add (p q : EdPoint) : EdPoint :=
  let a := (p.y + edP - p.x) * (q.y + edP - q.x) % edP
  let b := (p.y + p.x) * (q.y + q.x) % edP
  let c := 2 * p.t * q.t * edD % edP
  let d := 2 * p.z * q.z % edP
  let (e, f, g, h) := (b + edP - a, d + edP - c, d + c, b + a)
  ⟨e * f % edP, g * h % edP, f * g % edP, e * h % edP⟩

/-- n times a point, from the low bits of n. -/
def EdPoint.mul (p : EdPoint) (n : Nat) : Nat → EdPoint
  | 0 => EdPoint.zero
  | k + 1 =>
    let h := EdPoint.mul p (n / 2) k
    let h := h.add h
    if n % 2 = 1 then h.add p else h

/-- Two points are one. -/
def EdPoint.same (p q : EdPoint) : Bool := p.x * q.z % edP == q.x * p.z % edP && p.y * q.z % edP == q.y * p.z % edP

/-- The x of a y and a sign. -/
def edX (y sign : Nat) : Option Nat :=
  let xx := (y * y + edP - 1) * edInv (edD * y * y % edP + 1) % edP
  let x := powMod xx ((edP + 3) / 8) edP 256
  let x := if x * x % edP = xx then x else x * powMod 2 ((edP - 1) / 4) edP 256 % edP
  if edP ≤ y ∨ x * x % edP ≠ xx ∨ x = 0 ∧ sign = 1 then none
  else some (if x % 2 = sign then x else edP - x)

/-- A point from its 32 B. -/
def edDecode (bs : List Byte) : Option EdPoint :=
  let n := ofLE bs
  let y := n % 2 ^ 255
  if bs.length ≠ 32 then none else (edX y (n / 2 ^ 255)).map (fun x => ⟨x, y, 1, x * y % edP⟩)

/-- The 32 B of a point. -/
def EdPoint.encode (p : EdPoint) : List Byte :=
  let i := edInv p.z
  toLE 32 (p.y * i % edP + p.x * i % edP % 2 * 2 ^ 255)

/-- The base point. -/
def edBase : EdPoint :=
  let y := 4 * edInv 5 % edP
  let x := (edX y 0).getD 0
  ⟨x, y, 1, x * y % edP⟩

/-- A signature of 64 B is valid: 8 S B = 8 R + 8 k A. -/
def edValid (pub msg sig : List Byte) : Bool :=
  match edDecode pub, edDecode (sig.take 32) with
  | some a, some r =>
    let n := ofLE (sig.drop 32)
    let k := ofLE (sha512 (sig.take 32 ++ pub ++ msg)) % edL
    sig.length == 64 && decide (n < edL) &&
      ((edBase.mul n 256).mul 8 4).same ((r.add (a.mul k 256)).mul 8 4)
  | _, _ => false

/-- The secret scalar and the prefix of a 32 B private key. -/
def edSecret (seed : List Byte) : Nat × List Byte :=
  let h := sha512 seed
  let a := ofLE (h.take 32)
  (a % 2 ^ 254 / 8 * 8 + 2 ^ 254, h.drop 32)

/-- The public key of a private key. -/
def edPublic (seed : List Byte) : List Byte := (edBase.mul (edSecret seed).1 256).encode

/-- The signature of a message. -/
def edSign (seed msg : List Byte) : List Byte :=
  let (a, pre) := edSecret seed
  let pub := (edBase.mul a 256).encode
  let r := ofLE (sha512 (pre ++ msg)) % edL
  let rb := (edBase.mul r 256).encode
  let k := ofLE (sha512 (rb ++ pub ++ msg)) % edL
  rb ++ toLE 32 ((r + k * a) % edL)

end Sys2Proof.Machine
end

