-- ==== Sys2Proof/Machine/MlDsa.lean ====
section
/-! DEFINITION. ML-DSA-65 (FIPS 204, pure, empty context), which R360, R362 and R363 name. PRESUMED from that standard (log entry
33). A polynomial is the list of its 256 coefficients modulo q. -/

namespace Sys2Proof.Machine

/-! ### Parameters and ring -/

def mlQ : Nat := 8380417

/-- Rows and columns of the matrix. -/
def mlK : Nat := 6

def mlL : Nat := 5

def mlEta : Nat := 4

def mlBeta : Nat := 196

def mlGamma1 : Nat := 2 ^ 19

def mlGamma2 : Nat := (mlQ - 1) / 32

def mlOmega : Nat := 55

abbrev Poly := List Nat

def Poly.add (a b : Poly) : Poly := List.zipWith (fun x y => (x + y) % mlQ) a b

def Poly.sub (a b : Poly) : Poly := List.zipWith (fun x y => (x + mlQ - y % mlQ) % mlQ) a b

/-- The product of two transforms. -/
def Poly.times (a b : Poly) : Poly := List.zipWith (fun x y => x * y % mlQ) a b

def polyZero : Poly := List.replicate 256 0

/-- The 8 bits of i reversed. -/
def rev8 (i : Nat) : Nat := (List.range 8).foldl (fun a b => a + i / 2 ^ b % 2 * 2 ^ (7 - b)) 0

/-- ζ_i, the i-th point of the transform: ζ = 1753. -/
def mlPoint (i : Nat) : Nat := powMod 1753 (2 * rev8 i + 1) mlQ 10

/-- The value of a polynomial at x. -/
def Poly.eval (f : Poly) (x : Nat) : Nat := f.foldr (fun c a => (c + a * x) % mlQ) 0

/-- The transform: the values at the 256 points. -/
def ntt (f : Poly) : Poly := (List.range 256).map (fun i => f.eval (mlPoint i))

/-- Its inverse: coefficient j is the sum of f_i ζ_i^-j, divided by 256. -/
def nttInv (g : Poly) : Poly :=
  let inv := (List.range 256).map (fun i => powMod (mlPoint i) (mlQ - 2) mlQ 23)
  let step (w : List Nat) : List Nat := List.zipWith (fun a b => a * b % mlQ) w inv
  let n := powMod 256 (mlQ - 2) mlQ 23
  ((List.range 256).foldl (fun (a : List Nat × List Nat) _ =>
    (a.2.foldl (fun x y => (x + y) % mlQ) 0 * n % mlQ :: a.1, step a.2)) ([], g)).1.reverse

/-- The distance of a coefficient from 0. -/
def mlAbs (x : Nat) : Nat := if x ≤ mlQ / 2 then x else mlQ - x

def Poly.norm (f : Poly) : Nat := f.foldl (fun a x => max a (mlAbs x)) 0

def polysNorm (v : List Poly) : Nat := v.foldl (fun a f => max a f.norm) 0

/-! ### Packing -/

/-- Numbers of n bits each, packed, least significant first. -/
def packBits (n : Nat) (xs : List Nat) : List Byte :=
  toLE ((n * xs.length + 7) / 8) ((xs.foldr (fun x a => x + a * 2 ^ n)) 0)

/-- 256 numbers of n bits each. -/
def unpackBits (n : Nat) (bs : List Byte) : List Nat :=
  let v := ofLE bs
  (List.range 256).map (fun i => bitsN v (n * i) n)

/-- x as b - x modulo q: the packing of a signed range, and its inverse. -/
def mlFlip (b x : Nat) : Nat := (b + mlQ - x) % mlQ

/-- n bytes after the first o. -/
def slice (bs : List Byte) (o n : Nat) : List Byte := (bs.drop o).take n

/-! ### Sampling -/

/-- The first 256 numbers below q among the 23-bit numbers of a stream. -/
def rejNtt (bs : List Byte) : Poly :=
  (((List.range (bs.length / 3)).map (fun i => ofLE (slice bs (3 * i) 3) % 2 ^ 23)).filter (fun x => decide (x < mlQ))).take 256

/-- The matrix of a seed, by rows. -/
def expandA (rho : List Byte) : List (List Poly) :=
  (List.range mlK).map (fun r => (List.range mlL).map (fun s =>
    rejNtt (shake128 (rho ++ toLE 1 s ++ toLE 1 r) 2016)))

/-- A secret polynomial: half bytes below 9 give 4 less the half byte. -/
def rejBounded (bs : List Byte) : Poly :=
  ((bs.flatMap (fun b => [b.toNat % 16, b.toNat / 16])).filter (fun z => decide (z < 9))).take 256 |>.map (mlFlip mlEta)

def expandS (rho : List Byte) (first n : Nat) : List Poly :=
  (List.range n).map (fun r => rejBounded (shake256 (rho ++ toLE 2 (first + r)) 1088))

def expandMask (rho : List Byte) (kappa : Nat) : List Poly :=
  (List.range mlL).map (fun r => (unpackBits 20 (shake256 (rho ++ toLE 2 (kappa + r)) 640)).map (mlFlip mlGamma1))

/-- A position at most i from a stream, and the rest of it. -/
def ballPos (i : Nat) : List Byte → Nat × List Byte
  | [] => (0, [])
  | b :: bs => if b.toNat ≤ i then (b.toNat, bs) else ballPos i bs

/-- The challenge: 49 coefficients of ±1. -/
def sampleInBall (seed : List Byte) : Poly :=
  let h := shake256 seed 1088
  let signs := ofLE (h.take 8)
  ((List.range 49).foldl (fun (a : Poly × List Byte) t =>
    let i := 207 + t
    let (j, rest) := ballPos i a.2
    ((a.1.set i (a.1.getD j 0)).set j (if bitN signs t then mlQ - 1 else 1), rest)) (polyZero, h.drop 8)).1

/-! ### Rounding and hints -/

/-- High and low parts: r = r1 2γ2 + r0; the low part modulo q. -/
def decompose (r : Nat) : Nat × Nat :=
  let m := 2 * mlGamma2
  let low := r % m
  let low := if mlGamma2 < low then low + mlQ - m else low
  let rest := (r + mlQ - low % mlQ) % mlQ
  if rest = mlQ - 1 then (0, (low + mlQ - 1) % mlQ) else (rest / m, low % mlQ)

/-- The high part corrected by a hint. -/
def useHint (hint : Bool) (r : Nat) : Nat :=
  let (r1, r0) := decompose r
  if !hint then r1 else if 0 < r0 ∧ r0 ≤ mlQ / 2 then (r1 + 1) % 16 else (r1 + 15) % 16

/-- t = t1 2^13 + t0. -/
def power2Round (t : Nat) : Nat × Nat :=
  let low := t % 8192
  let low := if 4096 < low then low + mlQ - 8192 else low
  ((t + mlQ - low % mlQ) % mlQ / 8192, low % mlQ)

/-- The hint of an encoding: for each row, the positions up to its count, in rising order; the rest is zero. -/
def hintDecode (y : List Byte) : Option (List (List Bool)) :=
  let at' (i : Nat) : Nat := (y.getD i 0).toNat
  let ends := (List.range mlK).map (fun i => at' (mlOmega + i))
  let starts := 0 :: ends
  let row (i : Nat) : List Nat :=
    (List.range (ends.getD i 0 - starts.getD i 0)).map (fun k => at' (starts.getD i 0 + k))
  let rising (l : List Nat) : Bool := (l.zip (l.drop 1)).all (fun e => decide (e.1 < e.2))
  let ok := (List.range mlK).all (fun i =>
    decide (starts.getD i 0 ≤ ends.getD i 0) && decide (ends.getD i 0 ≤ mlOmega) && rising (row i))
  let last := ends.getLastD 0
  if ok && (List.range (mlOmega - last)).all (fun k => at' (last + k) == 0) then
    some ((List.range mlK).map (fun i => (List.range 256).map (fun j => (row i).contains j)))
  else none

/-- The encoding of a hint. -/
def hintEncode (h : List (List Bool)) : List Byte :=
  let rows := h.map (fun r => (List.range 256).filter (fun j => r.getD j false))
  let all := rows.flatten
  let ends := (List.range mlK).map (fun i => ((rows.take (i + 1)).flatten).length)
  (all ++ List.replicate (mlOmega - all.length) 0 ++ ends).map (BitVec.ofNat 8)

/-! ### The scheme -/

/-- A row of transforms times a vector of transforms. -/
def dotNtt (row v : List Poly) : Poly := (List.zipWith Poly.times row v).foldl Poly.add polyZero

/-- The message representative of the pure mode with an empty context. -/
def mlMu (tr msg : List Byte) : List Byte := shake256 (tr ++ [0, 0] ++ msg) 64

/-- A signature of 3,309 B is valid under a public key of 1,952 B. -/
def mldsaValid (pub msg sig : List Byte) : Bool :=
  let t1 := (List.range mlK).map (fun i => unpackBits 10 (slice pub (32 + 320 * i) 320))
  let c' := sig.take 48
  let z := (List.range mlL).map (fun i => (unpackBits 20 (slice sig (48 + 640 * i) 640)).map (mlFlip mlGamma1))
  match hintDecode (sig.drop 3248) with
  | none => false
  | some h =>
    let c := ntt (sampleInBall c')
    let zs := z.map ntt
    let w := ((expandA (pub.take 32)).zip t1).map (fun e =>
      nttInv ((dotNtt e.1 zs).sub (c.times (ntt (e.2.map (fun x => x * 8192 % mlQ))))))
    let w1 := (h.zip w).flatMap (fun e => packBits 4 (List.zipWith useHint e.1 e.2))
    pub.length == 1952 && sig.length == 3309 && decide (polysNorm z < mlGamma1 - mlBeta) &&
      c' == shake256 (mlMu (shake256 pub 64) msg ++ w1) 48

/-- The expanded private key of a 32 B seed: ρ, K, s1, s2 and t. -/
structure MlKey where
  rho : List Byte
  key : List Byte
  s1 : List Poly
  s2 : List Poly
  t : List Poly

def mlKeyOf (seed : List Byte) : MlKey :=
  let h := shake256 (seed ++ [6, 5]) 128
  let s1 := expandS (slice h 32 64) 0 mlL
  let s2 := expandS (slice h 32 64) mlL mlK
  let s1h := s1.map ntt
  { rho := h.take 32, key := h.drop 96, s1 := s1, s2 := s2
    t := List.zipWith (fun row e => (nttInv (dotNtt row s1h)).add e) (expandA (h.take 32)) s2 }

/-- The public key. -/
def MlKey.pub (k : MlKey) : List Byte := k.rho ++ k.t.flatMap (fun f => packBits 10 (f.map (fun x => (power2Round x).1)))

/-- One attempt at a signature, from a mask; none where it is rejected. -/
def MlKey.attempt (k : MlKey) (a : List (List Poly)) (mu : List Byte) (y : List Poly) : Option (List Byte) :=
  let yh := y.map ntt
  let w := a.map (fun row => nttInv (dotNtt row yh))
  let c' := shake256 (mu ++ w.flatMap (fun f => packBits 4 (f.map (fun x => (decompose x).1)))) 48
  let c := ntt (sampleInBall c')
  let times (v : List Poly) : List Poly := v.map (fun f => nttInv (c.times (ntt f)))
  let z := List.zipWith Poly.add y (times k.s1)
  let r := List.zipWith Poly.sub w (times k.s2)
  let ct0 := times (k.t.map (fun f => f.map (fun x => (power2Round x).2)))
  let h := List.zipWith (fun f g => List.zipWith (fun x e => decide ((decompose x).1 ≠ (decompose ((x + e) % mlQ)).1)) f g) r ct0
  if mlGamma1 - mlBeta ≤ polysNorm z ∨ mlGamma2 - mlBeta ≤ polysNorm (r.map (fun f => f.map (fun x => (decompose x).2))) ∨
      mlGamma2 ≤ polysNorm ct0 ∨ mlOmega < (h.map (fun row => row.count true)).foldl (· + ·) 0 then none
  else some (c' ++ z.flatMap (fun f => packBits 20 (f.map (mlFlip mlGamma1))) ++ hintEncode h)

/-- Attempts with rising masks. -/
def MlKey.sign (k : MlKey) (a : List (List Poly)) (mu rho : List Byte) : Nat → Nat → List Byte
  | 0, _ => []
  | n + 1, kappa =>
    match k.attempt a mu (expandMask rho kappa) with
    | some sig => sig
    | none => MlKey.sign k a mu rho n (kappa + mlL)

/-- The signature of a message under a seed, with 32 B of randomness; at most 814 attempts. -/
def mldsaSign (seed rnd msg : List Byte) : List Byte :=
  let k := mlKeyOf seed
  let mu := mlMu (shake256 k.pub 64) msg
  k.sign (expandA k.rho) mu (shake256 (k.key ++ rnd ++ mu) 64) 814 0

end Sys2Proof.Machine
end

