-- ==== Sys2Proof/Machine/DmaPlan.lean ====
section
/-! DEFINITION. DMA descriptors: fields, the check of DLD, and where each run of a transfer reads and writes (R212 to
R214, R224 to R226). A run is the stretch that one value of the loop counters names; of a re-layout it is a row of a
tile. -/

namespace Sys2Proof.Machine

/-- The eight words of a descriptor. -/
abbrev Desc := List Word

/-- Word i of a descriptor. -/
def Desc.w (d : Desc) (i : Nat) : Word := d.getD i 0

def Desc.op (d : Desc) : Nat := bits (d.w 0) 0 4
def Desc.tok (d : Desc) : Nat := bits (d.w 0) 4 2
def Desc.grain (d : Desc) : Bool := bit (d.w 0) 6
def Desc.pace (d : Desc) : Bool := bit (d.w 0) 7
def Desc.resEn (d : Desc) : Bool := bit (d.w 0) 8
def Desc.cmode (d : Desc) : Bool := bit (d.w 0) 9
def Desc.pool (d : Desc) : Nat := bits (d.w 0) 12 4
def Desc.res (d : Desc) : Nat := 64 * bits (d.w 0) 32 16
def Desc.src (d : Desc) : Nat := (d.w 1).toNat
def Desc.dst (d : Desc) : Nat := (d.w 2).toNat
def Desc.aux (d : Desc) : Nat := (d.w 7).toNat

/-- The bytes of a run (RUN_M1). -/
def Desc.run (d : Desc) : Nat := 64 * (bits (d.w 3) 0 16 + 1)

/-- COUNT of loop i, 1 to 3. -/
def Desc.count (d : Desc) (i : Nat) : Nat := bits (d.w 3) (16 * i) 16 + 1

/-- SSTEP of loop i. -/
def Desc.sstep (d : Desc) (i : Nat) : Int := signedN 32 (bits (d.w (3 + i)) 0 32)

/-- DSTEP of loop i. -/
def Desc.dstep (d : Desc) (i : Nat) : Int := signedN 32 (bits (d.w (3 + i)) 32 32)

/-! ### Re-layout (Table DMA-4) -/

def Desc.rows (d : Desc) : Nat := bits (d.w 3) 0 16 + 1
def Desc.cols (d : Desc) : Nat := bits (d.w 3) 16 16 + 1
def Desc.fmt (d : Desc) : Nat := bits (d.w 3) 32 4
def Desc.toRows (d : Desc) : Bool := bit (d.w 3) 36
def Desc.pitch (d : Desc) : Nat := bits (d.w 4) 0 32

/-- The element width of a format code in bits (Table ISA-4). -/
def fmtBits (f : Nat) : Nat :=
  [64, 32, 19, 16, 16, 8, 8, 6, 6, 4, 32, 16, 8, 8, 4, 8].getD f 8

/-- The bytes of a tile row. -/
def Desc.tileRow (d : Desc) : Nat := 16 * fmtBits d.fmt

/-- Tiles per row of tiles. -/
def Desc.tileCols (d : Desc) : Nat := ceilDiv d.cols 128

/-- All tiles. -/
def Desc.tiles (d : Desc) : Nat := ceilDiv d.rows 128 * d.tileCols

/-! ### The check of DLD (R213) -/

/-- The least and greatest offset of loops with the given counts and steps. -/
def extremes : List (Nat × Int) → Int × Int
  | [] => (0, 0)
  | (n, s) :: ls =>
    let (lo, hi) := extremes ls
    let e : Int := ((n : Int) - 1) * s
    (lo + min 0 e, hi + max 0 e)

/-- A pattern keeps the node of its base and does not wrap (R214), to the last byte of its runs. -/
def keeps (base : Nat) (loops : List (Nat × Int)) (n : Nat) : Bool :=
  let (lo, hi) := extremes loops
  decide (((base : Int) + lo) / 2 ^ 44 = (base : Int) / 2 ^ 44) &&
    decide (((base : Int) + hi + n - 1) / 2 ^ 44 = (base : Int) / 2 ^ 44)

/-- The source loops. -/
def Desc.sloops (d : Desc) : List (Nat × Int) := [1, 2, 3].map (fun i => (d.count i, d.sstep i))

/-- The destination loops. -/
def Desc.dloops (d : Desc) : List (Nat × Int) := [1, 2, 3].map (fun i => (d.count i, d.dstep i))

/-- A pattern whose base and steps are multiples of 64 and which keeps its node. -/
def patternOk (base : Nat) (loops : List (Nat × Int)) (n : Nat) : Bool :=
  base % 64 == 0 && loops.all (fun l => l.2 % 64 == 0) && keeps base loops n

/-- Word 0 holds no reserved code or bit, and none that the operation requires to be 0. -/
def Desc.word0Ok (d : Desc) : Bool :=
  decide (d.op ≤ 5) && decide (d.tok ≠ 3) && (!d.grain || decide (d.op ≤ 2)) && (!d.cmode || d.op == 2) &&
    (d.pool == 0 || d.op == 3 || d.op == 4) && bits (d.w 0) 10 2 == 0 && bits (d.w 0) 16 16 == 0 &&
    bits (d.w 0) 48 16 == 0 && !(d.pace && (d.op == 2 || d.op == 4)) && (d.resEn || d.op != 2)

/-- The fields of each operation (Tables DMA-1, DMA-2, DMA-4). -/
def Desc.fieldsOk (d : Desc) : Bool :=
  match d.op with
  | 0 => patternOk d.src d.sloops d.run && patternOk d.dst d.dloops d.run &&
    (d.aux == 0 || patternOk d.aux d.sloops d.run)
  | 1 => d.src == 0 && [1, 2, 3].all (fun i => d.sstep i == 0) && patternOk d.dst d.dloops d.run
  | 2 => d.aux == 0 && patternOk d.src d.sloops d.run &&
    (if d.cmode then d.dst == 0 && [1, 2, 3].all (fun i => d.dstep i == 0) else patternOk d.dst d.dloops d.run)
  | 3 =>
    let loops := [(d.count 1, d.sstep 1), (d.count 2, d.sstep 2)]
    let (lo, hi) := extremes loops
    let off : Int := (d.aux % 2 ^ 14 : Nat)
    decide (d.aux < 2 ^ 14) && d.aux % 64 == 0 && d.src % 4 == 0 && d.sstep 3 != 0 && d.sstep 3 % 4 == 0 &&
      loops.all (fun l => l.2 % 64 == 0) && keeps d.src [(d.count 3, d.sstep 3)] 4 && patternOk d.dst d.dloops d.run &&
      decide (0 ≤ off + lo) && decide (off + hi + d.run ≤ 16384)
  | 4 =>
    let (lo, hi) := extremes [(d.count 1, d.dstep 1), (64, d.dstep 2)]
    d.dst == 0 && d.aux % 32 == 0 && d.dstep 3 != 0 && d.dstep 3 % 32 == 0 && d.dstep 1 % 64 == 0 && d.dstep 2 % 64 == 0 &&
      patternOk d.src d.sloops d.run && keeps d.aux [(d.count 3, d.dstep 3)] 32 && decide (0 ≤ lo) &&
      decide (hi + d.run ≤ 16384)
  | _ =>
    let rowBytes := ceilDiv (d.cols * fmtBits d.fmt) 8
    let rowSide := if d.toRows then d.dst else d.src
    let tileSide := if d.toRows then d.src else d.dst
    d.aux == 0 && bits (d.w 3) 37 27 == 0 && bits (d.w 4) 32 32 == 0 && d.w 5 == 0 && d.w 6 == 0 && d.fmt != 2 &&
      d.fmt != 15 && d.pitch % 64 == 0 && decide (rowBytes ≤ d.pitch) &&
      patternOk rowSide [(d.rows, (d.pitch : Int))] rowBytes && patternOk tileSide [] (d.tiles * 128 * d.tileRow)

/-- A descriptor that DLD accepts for context c (R213). -/
def State.descOk (s : State) (c : Nat) (d : Desc) : Bool :=
  let b := s.f F.PLC_WIN_BASE c * 65536
  d.word0Ok && d.fieldsOk &&
    (!d.resEn || (decide (b ≤ d.res) && decide (d.res + 64 ≤ b + s.f F.PLC_WIN_SIZE c * 65536)))

/-! ### Runs -/

/-- The number of runs. -/
def Desc.nRuns (d : Desc) : Nat := if d.op = 5 then d.tiles * 128 else d.count 1 * d.count 2 * d.count 3

/-- The length of a run. -/
def Desc.runLen (d : Desc) : Nat := if d.op = 5 then d.tileRow else d.run

/-- Loop counters of a run. -/
def Desc.idx (d : Desc) (r : Nat) : Nat × Nat × Nat :=
  (r % d.count 1, r / d.count 1 % d.count 2, r / (d.count 1 * d.count 2))

/-- Runs of one unit (Table DMA-2). -/
def Desc.unitRuns (d : Desc) : Nat :=
  match d.op with
  | 3 => d.count 1 * d.count 2
  | 4 => d.count 1 * d.count 2
  | 5 => 128
  | _ => if d.grain then d.count 1 else 1

/-- The unit of a run. -/
def Desc.unitOf (d : Desc) (r : Nat) : Nat := r / d.unitRuns

/-- All units. -/
def Desc.units (d : Desc) : Nat := d.nRuns / d.unitRuns

/-- The bytes of a unit; a scatter-append unit is complete with its TOKENS write, counted as one byte more. -/
def Desc.unitLen (d : Desc) : Nat := d.unitRuns * d.runLen + (if d.op = 4 then 1 else 0)

/-- base + i1 × s1 + i2 × s2 + i3 × s3. -/
def patternAddr (base : Nat) (i : Nat × Nat × Nat) (s1 s2 s3 : Int) : Nat :=
  ((base : Int) + i.1 * s1 + i.2.1 * s2 + i.2.2 * s3).toNat

/-- The source run r of the source pattern. -/
def Desc.srcRun (d : Desc) (r : Nat) : Nat := patternAddr d.src (d.idx r) (d.sstep 1) (d.sstep 2) (d.sstep 3)

/-- The run r of the destination pattern, or of a compare's second pattern. -/
def Desc.dstRun (d : Desc) (r : Nat) : Nat := patternAddr d.dst (d.idx r) (d.dstep 1) (d.dstep 2) (d.dstep 3)

/-- Offset of a gather's run in its page. -/
def Desc.pageOff (d : Desc) (r : Nat) : Nat := patternAddr (d.aux % 2 ^ 14) (d.idx r) (d.sstep 1) (d.sstep 2) 0

/-- The address of list entry u of a gather. -/
def Desc.entryAddr (d : Desc) (u : Nat) : Nat := patternAddr d.src (0, 0, u) 0 0 (d.sstep 3)

/-- The address of append record u. -/
def Desc.recAddr (d : Desc) (u : Nat) : Nat := patternAddr d.aux (0, 0, u) 0 0 (d.dstep 3)

/-- Row y of tile t: the row-major address of its bytes, how many there are (0 beyond the last row), and the bits of the
last byte in use. -/
def Desc.tileRowAt (d : Desc) (base r : Nat) : Nat × Nat × Nat :=
  let t := r / 128
  let row := t / d.tileCols * 128 + r % 128
  let cols := min 128 (d.cols - t % d.tileCols * 128)
  let nbits := cols * fmtBits d.fmt
  (base + row * d.pitch + t % d.tileCols * d.tileRow, if row < d.rows then ceilDiv nbits 8 else 0, nbits)

/-- The low bits of a row kept: bytes beyond are dropped, bits beyond the last element of a partial byte are 0 (R226). -/
def keepBits (nbits : Nat) (bs : List Byte) : List Byte :=
  let bs := bs.take (ceilDiv nbits 8)
  if nbits % 8 = 0 then bs else modAt bs (nbits / 8) (fun b => b &&& BitVec.ofNat 8 (2 ^ (nbits % 8) - 1))

/-- Why context c may not gather from a pool, or append to it, whatever the entry (R244, R252). -/
def State.poolRefuses (s : State) (c pool : Nat) (append : Bool) : Option Nat :=
  if !s.poolOn pool then some 0x05
  else if c ≠ s.f F.KV_POOL_CFG_OWNER pool && (append || !bitN (s.f F.KV_POOL_CFG_READERS pool) c) then some 0x06
  else none

/-- The page address of page number p of a pool for context c (R243, R244, R252). -/
def State.pageAddr (s : State) (c pool p : Nat) (append : Bool) : Except Nat Nat :=
  let seg := p / 2 ^ 29 % 8
  let i := p % 2 ^ 29
  match s.poolRefuses c pool append with
  | some e => .error e
  | none =>
    if !s.segOk pool seg || decide (s.segPages pool seg ≤ i) then .error 0x05
    else .ok (s.node * 2 ^ 44 + (s.f F.KV_SEG_BASE_BASE pool seg + 16384 * i) % 2 ^ 44)

/-- The null page of R224. -/
def nullPage : Nat := 0xFFFFFFFF

/-! ### Stretches that the write engine makes itself (R221, R224, R226) -/

/-- A run whose bytes no read brings: of a fill, of a null page, of a tile row beyond the matrix. -/
def Desc.ownRun (d : Desc) (w : Walk) (r : Nat) : Bool :=
  match d.op with
  | 1 => true
  | 3 => SMap.get none w.pages (d.unitOf r) == some nullPage
  | 5 => !d.toRows && (d.tileRowAt d.src r).2.1 == 0
  | _ => false

/-- The reads' walk past the stretches that need none. Padding rows end with their tile. -/
def Desc.skip (d : Desc) : Nat → Walk → Walk
  | 0, w => w
  | fuel + 1, w =>
    if d.nRuns ≤ w.run ∨ !d.ownRun w w.run then w
    else d.skip fuel { w with run := if d.op = 1 then d.nRuns else (w.run / d.unitRuns + 1) * d.unitRuns, off := 0 }

/-- The walk where the next read stands. -/
def Desc.ahead (d : Desc) (w : Walk) : Walk := d.skip (w.pages.length + 1) w

/-- The first run from r on, and before run stop, that the write engine makes itself. -/
def Desc.nextOwn (d : Desc) (w : Walk) (r stop : Nat) : Option Nat :=
  if stop ≤ r then none
  else match d.op with
  | 1 => some r
  | 3 => ((w.pages.filter (fun e => e.2 == some nullPage && decide (d.unitOf r ≤ e.1))).head?).bind (fun e =>
      let q := max r (e.1 * d.unitRuns)
      if q < stop then some q else none)
  | 5 =>
    if d.toRows then none else
    let last := (d.rows - 1) / 128 * d.tileCols
    let t := max (r / 128) last
    let y := max (if r / 128 = t then r % 128 else 0) (d.rows - (d.rows - 1) / 128 * 128)
    let q := if y < 128 then t * 128 + y else (t + 1) * 128 + (d.rows - (d.rows - 1) / 128 * 128)
    if q < stop ∧ d.ownRun w q then some q else none
  | _ => none

end Sys2Proof.Machine
end

