-- ==== Sys2Proof/Machine/Ecc.lean ====
section
/-! DEFINITION. Detected errors of stored data, the steward's cairn log, and fatal errors (R367 to R370, R385). -/

namespace Sys2Proof.Machine

/-! ### Lifetime counters (R382) -/

/-- A change of the lifetime counters. -/
def State.life (s : State) (f : Life → Life) : State := { s with stw := { s.stw with life := f s.stw.life } }

/-! ### The cairn log (R385) -/

/-- A cairn record written (Table REL-7): the log is a ring of 1,048,576 records. -/
def State.cairn (s : State) (type : Nat) (data : List Byte) : State :=
  let seq := s.stw.logSeq + 1
  let body := toLE 4 seq ++ toLE 2 type ++ toLE 1 (s.f F.LIFE_STATUS_UTC_VALID) ++ zeroBytes 1 ++
    toLE 8 s.stw.utc ++ toLE 8 s.stw.life.seconds ++
    toLE 8 (if s.clk.running then s.clk.frame else 0) ++ (data ++ zeroBytes 24).take 24
  let s := { s with stw := { s.stw with logSeq := seq, cairn := ((body ++ toLE 8 (crc64 body).toNat) :: s.stw.cairn).take 1048576 } }
  let s := s.setF F.LIFE_STATUS_LOG_SEQ seq
  if 1048576 < seq then s.event F.LIFE_EVENT_LOG_WRAP else s

/-- A register as the bytes of a record. -/
def State.regBytes (s : State) (r : Reg) : List Byte := toLE 8 (s.reg r).toNat

/-! ### Units -/

/-- The physical number of core g: its slot in the ridge, among the active ones in rising order (R5). -/
def State.physCore (s : State) (g : Nat) : Nat :=
  let act := s.f F.BIST_REPAIR_ACTIVE (g / 8)
  g / 8 * 9 + (((List.range 9).filter (bitN act))[g % 8]?).getD 0x1FF

/-- The unit of a memory key (Table REL-1), the core it belongs to, and its address for the records. -/
def State.unitOf (s : State) (key : Nat) : Nat × Nat × Nat :=
  if key < 2 ^ 44 then (5, 0x1FF, key)
  else if key < 2 ^ 45 then (0, s.physCore ((key - 2 ^ 44) / 2 ^ 22), (key - 2 ^ 44) % 2 ^ 22)
  else (1, s.physCore ((key - 2 ^ 45) / 2 ^ 18), (key - 2 ^ 45) % 2 ^ 18 / 8)

/-- The stack of an HBM address (R190). -/
def hbmStack (a : Nat) : Nat := (hbmBank a).1 / 32

/-! ### Errors (R368, R369) -/

/-- An error detected now came in the same cycle as the one recorded at a time: a free choice within the 10 ns that the model
tells apart (log entry 85). -/
def State.sameCycle (s : State) (at_ : Option Nat) : Bool × State :=
  if at_ = some s.clk.now then let (w, s) := s.free; (bit w 0, s) else (false, s)

/-- Of two errors of one cycle, the recorded one stays: it has the lower unit number, then the lower physical core (R369). -/
def lowerError (unit phys unit' phys' : Nat) : Bool := decide (unit < unit' ∨ (unit = unit' ∧ phys < phys'))

/-- An uncorrectable error counted for a unit and recorded; phys 0x1FF where no core applies. -/
def State.ueRecord (s : State) (unit phys addr : Nat) : State :=
  let s := s.addF F.ERR_UE_COUNT_COUNT 1 unit
  let (same, s) := s.sameCycle s.ueAt
  let s : State := { s with ueAt := some s.clk.now }
  let s := if same && lowerError (s.f F.ERR_LAST_UE_UNIT) (s.f F.ERR_LAST_UE_PHYS) unit phys then s else
    (((s.setF F.ERR_LAST_UE_UNIT unit).setF F.ERR_LAST_UE_PHYS phys).setF F.ERR_LAST_UE_FRAME s.clk.frame).setF
      F.ERR_LAST_UE_ADDR_ADDR addr
  let s := s.event F.ERR_EVENT_UE
  s.cairn 8 (s.regBytes ⟨.ERR_LAST_UE, 0, 0, 0⟩ ++ s.regBytes ⟨.ERR_LAST_UE_ADDR, 0, 0, 0⟩)

/-- A corrected error counted for a unit and recorded. -/
def State.ceRecord (s : State) (unit phys addr bit : Nat) : State :=
  let s := s.addF F.ERR_CE_COUNT_COUNT 1 unit
  let (same, s) := s.sameCycle s.ceAt
  let s : State := { s with ceAt := some s.clk.now }
  let s := if same && lowerError (s.f F.ERR_LAST_CE_UNIT) (s.f F.ERR_LAST_CE_PHYS) unit phys then s else
    ((((s.setF F.ERR_LAST_CE_UNIT unit).setF F.ERR_LAST_CE_PHYS phys).setF F.ERR_LAST_CE_BIT bit).setF
      F.ERR_LAST_CE_FRAME s.clk.frame).setF F.ERR_LAST_CE_ADDR_ADDR addr
  s.event F.ERR_EVENT_CE

/-- A counter of the steward raised. -/
def bump (m : SMap Nat Nat) (k n : Nat) : SMap Nat Nat := SMap.set id 0 m k (SMap.get 0 m k + n)

/-- An uncorrectable read at a key: its granule is poisoned; a granule poisoned before is not counted again (R368). -/
def State.memUE (s : State) (key : Nat) : State :=
  if s.poisoned key 1 then s else
  let (unit, phys, addr) := s.unitOf key
  let s := (s.poisonAt key 1).ueRecord unit phys addr
  if unit = 5 then s.life (fun l => { l with ue := bump l.ue (hbmStack addr) 1 }) else s

/-- A word of a unit is corrected (R369): counted, it waits to be written back, and its fourth correction makes it weak. -/
def State.wordCE (s : State) (unit phys addr bit word : Nat) : State :=
  let s := s.ceRecord unit phys addr bit
  let n := SMap.get 0 s.weak (unit, word) + 1
  let s := { s with weak := SMap.set (fun k => k.1 + 16 * k.2) 0 s.weak (unit, word) n, wback := s.wback ++ [(unit, word)] }
  if n = 4 then
    let s := ({ s with repairDue := s.repairDue ++ [⟨if unit = 5 then 6 else unit, phys, addr, bit, 0⟩] } : State).event F.ERR_EVENT_WEAK
    s.cairn 15 (s.regBytes ⟨.ERR_LAST_CE, 0, 0, 0⟩ ++ s.regBytes ⟨.ERR_LAST_CE_ADDR, 0, 0, 0⟩)
  else s

/-- A corrected read at a key: a word of 64 bits, of HBM 32 B. -/
def State.memCE (s : State) (key bit : Nat) : State :=
  let (unit, phys, addr) := s.unitOf key
  let s := if unit = 5 then s.life (fun l => { l with ce := bump l.ce (hbmStack addr) 1 }) else s
  s.wordCE unit phys addr bit (key / (if unit = 5 then 32 else 8))

/-- What a read of n bytes at a key reports, put on record (R368, R369). -/
def State.memErr (s : State) (key : Nat) (err : MemErr) : State :=
  match err with
  | .corrected b => s.memCE key b
  | .uncorrectable => s.memUE key
  | _ => s

/-! ### Fatal errors (R370) -/

/-- Context c halts by no core's fault: its halt is on its way to every core (R88, R370). -/
def State.haltAll (s : State) (c : Nat) : State :=
  if s.fb F.CORE_CTX_HALT_HALTED c then s
  else (s.setF F.CORE_CTX_HALT_HALTED 1 c).setMod c { s.mod c with haltAt := some (s.clk.now, []) }

/-- Every context halts as under R88, and nothing fires again until a reset. -/
def State.fatal (s : State) (code phys : Nat) : State :=
  let s := iter 4 (fun c s => s.haltAll c) s
  let s := (s.setF F.ERR_FATAL_CODE code).setF F.ERR_FATAL_PHYS phys
  let s := s.event F.ERR_EVENT_FATAL
  let s := s.life (fun l => { l with fatal := l.fatal + 1 })
  s.cairn 9 (s.regBytes ⟨.ERR_FATAL, 0, 0, 0⟩)

end Sys2Proof.Machine
end

