-- ==== Sys2Proof/Machine/MemAccess.lean ====
section
/-! DEFINITION. Scalar memory accesses: translation at issue, request slots and the side queue, completion (R74 to R77,
R84, R185), and what every writer and every atomic shares: mirrored ranges (R336 to R338), protected ranges (R247) and
the atomics of the page pools (R246, R248). -/

namespace Sys2Proof.Machine

/-! ### Mirror mode -/

/-- Mirror entry m duplicates writes (R336, R338). -/
def State.mirOn (s : State) (m : Nat) : Bool :=
  s.fb F.NET_MIR_CTL_VALID m && !s.fb F.NET_MIR_CTL_BROKEN m && s.borrowLive (s.f F.NET_MIR_CTL_BORROW m)

/-- The pieces of n bytes from a key that a mirror entry duplicates: entry, lender, remote address, offset, length. -/
def State.mirParts (s : State) (key n : Nat) : List (Nat × Nat × Nat × Nat × Nat) :=
  ((List.range 8).filter s.mirOn).filterMap (fun m =>
    let base := s.f F.NET_MIR_BASE_BASE m
    let a := max key base
    let e := min (key + n) (base + s.f F.NET_MIR_SIZE_SIZE m)
    let b := s.f F.NET_MIR_CTL_BORROW m
    if a < e ∧ key < hbmSize then
      some (m, s.f F.PLC_BOR_CTL_LENDER b, s.f F.PLC_BOR_BASE_REMOTE_BASE b + s.f F.NET_MIR_OFF_OFF m + (a - base), a - key, e - a)
    else none)

/-- A mirror entry breaks (R338). -/
def State.mirrorBreak (s : State) (m : Nat) : State := (s.setF F.NET_MIR_CTL_BROKEN 1 m).event F.NET_EVENT_MIRROR_FAIL

/-- The duplicates of a write sent on the writer's flow to each lender (R336), cut to PAYLOAD (R316): their number, and the
state after. -/
def State.mirrorSend (s : State) (key : Nat) (bs : List Byte) (poison : Bool) (k : Nat → FlowKey) (op : OpKind) :
    Nat × State :=
  let n := s.payloadMax
  let ps := (s.mirParts key bs.length).flatMap (fun (m, node, addr, off, len) =>
    let cut := chunksOf n (len / n + 1) ((bs.drop off).take len)
    ((List.range cut.length).zip cut).map (fun e => (m, node, addr + e.1 * n, e.2)))
  (ps.length, ps.foldl (fun s (m, node, addr, data) =>
    s.flowSend (k node) [{ pkt := { type := tWrite, addr := addr, payload := data, poison := poison, ctx := (k node).sub },
                           refs := [{ op := op, mir := some m }] }]) s)

/-! ### Writes and atomics at a target -/

/-- Bytes stored from a key; poisoned bytes mark their granules (R368). -/
def State.store (s : State) (key : Nat) (bs : List Byte) (poison : Bool) : State :=
  let s := s.write key bs
  if poison then s.poisonAt key bs.length else s

/-- An atomic at a key of memory by core g for context c, none for another node (R84, R246, R248): the old value, and the
state after. -/
def State.atomicAt (s : State) (g : Nat) (c : Option Nat) (key : Nat) (acc : Acc) (data cmp : Word) : Word × State :=
  match acc, s.countWordAt key, s.allocWordAt key with
  | .amoadd, some (p, i, n), _ => s.countAdd g p i n data
  | .amoadd, none, some (p, i) => s.allocWord c p i
  | _, _, _ =>
    let old := BitVec.ofNat 64 (s.readN key 8)
    let new := match acc with
      | .amoadd => old + data
      | .amoswap => data
      | .amocas => if old = cmp then data else old
      | _ => old
    (old, if acc = .amocas ∧ old ≠ cmp then s else s.writeN key 8 new.toNat)

/-! ### Requests to other nodes -/

/-- The destination core of a remote local address: the core of a scratchpad address, 0xFF otherwise (Table NET-4). -/
def dstCoreOf (a : Nat) : Nat := if 0xF0000000000 ≤ a ∧ a < 0xF0040000000 then (a - 0xF0000000000) / 0x400000 else 255

/-- The spur flow of context c on core g to address a of a node (Table NET-4). -/
def spurKey (g c node a : Nat) : FlowKey := { cls := .spur, core := g, sub := c, node := node, dst := dstCoreOf a }

/-- A write, read or atomic on a remote address as one packet of the spur flow. The spec gives no encoding to a remote
AMOSWAP or AMOCAS: the packet names the operation beside its header (DESIGN CHOICE, log entry 24). -/
def remoteReq (acc : Acc) (c a tag : Nat) (data cmp : Word) : Packet :=
  match acc with
  | .load n _ => { type := tReadReq, ctx := c, addr := a, aux := n, tag := tag }
  | .store n => { type := tWrite, ctx := c, addr := a, payload := toLE n data.toNat }
  | .amoadd => { type := tAtomicReq, ctx := c, addr := a, aux := data.toNat, tag := tag }
  | .amoswap => { type := tAtomicReq, ctx := c, addr := a, aux := data.toNat, tag := tag, swap := some none }
  | .amocas => { type := tAtomicReq, ctx := c, addr := a, aux := data.toNat, tag := tag, swap := some (some cmp) }

/-! ### Slots (R74 to R77) -/

/-- A request takes a slot: a request to another node is sent, the mirror copies of a store are sent. -/
def State.slotTake (s : State) (g : Nat) (r : Req) : State :=
  let key (node : Nat) := spurKey g r.who.c node (match r.loc with | .remote _ a => a | _ => 0)
  let ref : OpKind := .scalar g r.seq
  let (dups, s) := match r.loc, r.acc with
    | .mem k, .store n => s.mirrorSend k (toLE n r.data.toNat) false key ref
    | _, _ => (0, s)
  let s := match r.loc with
    | .remote node a =>
      let (tag, s) := s.nextTag
      s.flowSend (key node) [{ pkt := remoteReq r.acc r.who.c a tag r.data r.cmp, refs := [{ op := ref }] }]
    | _ => s
  let x := s.core g
  let s := s.setCore g { x with slots := x.slots ++ [{ r with dups := dups }] }
  let used := x.slots.length + 1
  if s.f F.CORE_SLOT_STAT_PEAK g < used then s.setF F.CORE_SLOT_STAT_PEAK used g else s

/-- A freed slot is offered to the oldest side-queue entry of the same target, otherwise to the oldest whose target is
below its quota (R77). -/
def State.slotOffer (s : State) (g : Nat) (t : Target) : State :=
  let x := s.core g
  let pick := match x.sideq.find? (fun r => decide (r.tgt = t)) with
    | some r => some r
    | none => x.sideq.find? (fun r => decide (x.held r.tgt < quotaOf r.tgt))
  match pick with
  | none => s
  | some r => (s.setCore g { x with sideq := x.sideq.filter (fun q => q.seq ≠ r.seq) }).slotTake g r

/-! ### Issue -/

/-- The value of n bytes as a load returns it. -/
def loadValue (n : Nat) (signed : Bool) (bs : List Byte) : Word :=
  if signed then BitVec.ofInt 64 (signedN (8 * n) (ofLE bs)) else BitVec.ofNat 64 (ofLE bs)

/-- The access returns a value to RD. -/
def Acc.returns : Acc → Bool
  | .store _ => false
  | _ => true

/-- Strand k is about to store over n bytes of its own scratchpad: its core's engines may go on seeing the old ones (R84). -/
def State.storing (s : State) (g c k key n : Nat) : State :=
  { s with unseen := SMap.set id [] s.unseen g ({ c := c, k := k, key := key, old := s.read key n } :: SMap.get [] s.unseen g) }

/-- An access to the own scratchpad (R81, R84): done at issue; a value returned interlocks for 6 cycles, of an atomic 8. -/
def State.ownAccess (s : State) (g c k : Nat) (acc : Acc) (rd key : Nat) (data cmp : Word) (addr : Nat) : State :=
  match acc with
  | .store n => ((s.storing g c k key n).write key (toLE n data.toNat)).retire g c k (s.strand g c k)
  | .load n sg =>
    if s.poisoned key n then s.raise g c k 0x0D addr
    else s.retireB g c k rd (loadValue n sg (s.read key n)) 6
  | _ =>
    if s.poisoned key 8 then s.raise g c k 0x0D addr
    else
      let (old, s) := (s.storing g c k key 8).atomicAt g (some c) key acc data cmp
      s.retireB g c k rd old 8

/-- A request beyond the own scratchpad takes a slot, enters the side queue, or waits with its strand (R64, R76). -/
def State.slotted (s : State) (g c k : Nat) (acc : Acc) (rd addr : Nat) (loc : Loc) (data cmp : Word) : State :=
  let x := s.core g
  let t := s.strand g c k
  let tgt := targetOf loc
  if 48 ≤ x.slots.length then s
  else
    let r : Req := { seq := x.seq, who := t.who c k, acc := acc, rd := rd, addr := addr, loc := loc, tgt := tgt,
                     data := data, cmp := cmp }
    let t' := if acc.returns then { t with pend := t.pend ++ [rd] } else t
    if x.held tgt < quotaOf tgt then
      ((s.setCore g { x with seq := x.seq + 1 }).slotTake g r).retire g c k t'
    else if x.sideq.length < 32 then
      ((s.setCore g { x with seq := x.seq + 1, sideq := x.sideq ++ [r] }).addF F.CORE_SIDEQ_WAITS_COUNT 1 g c).retire g c k t'
    else s

/-- The issue of a scalar access at a 64-bit address (R64, R84, R185): alignment, translation, and the own scratchpad at
once; anything else needs a slot. -/
def State.access (s : State) (g c k : Nat) (acc : Acc) (rd addr : Nat) (data cmp : Word) : State :=
  if !acc.writes && decide (8 ≤ s.loadsPending g c k) then s
  else if addr % acc.size ≠ 0 then s.raise g c k 0x04 addr else
  match s.xlate g c addr acc.writes .scalar with
  | .error e => s.raise g c k e addr
  | .ok loc =>
    match s.writeCheck loc acc.size acc with
    | .error e => s.raise g c k e addr
    | .ok _ =>
      if ownSpad g loc then s.ownAccess g c k acc rd (loc.key.getD 0) data cmp addr
      else s.slotted g c k acc rd addr loc data cmp

/-- A load: RD ← n bytes at RS1 + IMM32. -/
def State.loadOp (s : State) (g c k : Nat) (op : Op) (n : Nat) (signed : Bool) : State :=
  s.issue g c k op (fun s d =>
    s.access g c k (.load n signed) d.rd ((s.strand g c k).rd d.rs1 + d.immS).toNat 0 0)

/-- A store: n bytes at RS1 + IMM32 ← low bits of RD. -/
def State.storeOp (s : State) (g c k : Nat) (op : Op) (n : Nat) : State :=
  s.issue g c k op (fun s d =>
    let t := s.strand g c k
    s.access g c k (.store n) d.rd (t.rd d.rs1 + d.immS).toNat (t.rd d.rd) 0)

/-- An atomic at RS1 with operand RS2 and compare value RD. -/
def State.atomicOp (s : State) (g c k : Nat) (op : Op) (acc : Acc) : State :=
  s.issue g c k op (fun s d =>
    let t := s.strand g c k
    s.access g c k acc d.rd (t.rd d.rs1).toNat (t.rd d.rs2) (t.rd d.rd))

/-! ### Completion -/

/-- Two accesses touch a common byte. -/
def locOverlap (a : Loc) (n : Nat) (b : Loc) (m : Nat) : Bool :=
  match a, b with
  | .remote x p, .remote y q => decide (x = y) && decide (p < q + m) && decide (q < p + n)
  | _, _ => match a.key, b.key with
    | some p, some q => decide (p < q + m) && decide (q < p + n)
    | _, _ => false

/-- The fault code of a refused operation of a scalar access, spur operation or message (Table NET-6, R328, R338). -/
def failCode (status : Nat) : Nat := if status = 6 then 0x06 else if status = 7 then 0x0B else 0x05

/-- The status of a request: what its target or its mirror copies answered; 0 where all went well. -/
def Req.status (r : Req) : Nat :=
  match r.rsp.elim 0 (·.status) with
  | 0 => r.dupFail.getD 0
  | e => e

/-- A register that waited for a value holds it, where its dispatch still runs and has not ended; a strand that only
waited for its last value is freed (R71). -/
def State.arrive (s : State) (g : Nat) (w : Who) (rd : Nat) (v : Option Word) : State :=
  let t := s.strand g w.c w.k
  if !(t.exec && t.fid == w.fid) then s else
  let t := { t with pend := t.pend.erase rd }
  if t.ended then (if t.pend.isEmpty then s.freeStrand g w.c w.k else s.setStrand g w.c w.k t)
  else s.setStrand g w.c w.k (v.elim t (fun v => t.wr rd v))

/-- Operation seq of context c belongs to no load of the context on core g, or to an earlier one than the present: the
context has been discarded or unloaded since (R65). -/
def State.stale (s : State) (g c seq : Nat) : Bool := !s.occupied g c || decide (seq < (s.ctx g c).born)

/-- A fault of the dispatch that issued operation seq; the fault of an operation whose context has been emptied since is
discarded, as its token is (DESIGN CHOICE, log entry 72). -/
def State.raiseOpWho (s : State) (g : Nat) (w : Who) (seq code addr : Nat) : State :=
  if s.stale g w.c seq then s else s.raiseOp g w.c w.k w.fid w.block w.index code (some addr)

/-- The completion of operation seq is progress of its context (R52). -/
def State.progressOf (s : State) (g c seq : Nat) : State := if s.stale g c seq then s else s.progress g c

/-- A host-tier access through a port that may not master the bus: an Unsupported Request (R348). -/
def State.hostShut (s : State) (loc : Loc) : Bool :=
  match loc with
  | .host p _ => !s.bme p
  | _ => false

/-- The effect of a request at its target: the value, a fault code, and the state. A host-tier access that fails raises the
unmapped fault, as a remote one does (DEDUCED, log entry 84). -/
def State.reqEffect (s : State) (g : Nat) (r : Req) : Option Word × Option Nat × State :=
  if s.hostShut r.loc then (none, some 0x05, s)
  else if r.status ≠ 0 then
    (none, some (failCode r.status), match r.loc, r.acc with
      | .mem k, .store n => s.store k (toLE n r.data.toNat) false
      | _, _ => s)
  else
    match r.loc.key, r.acc with
    | some k, .store n => (none, none, s.store k (toLE n r.data.toNat) false)
    | some k, acc =>
      if s.poisoned k acc.size then (none, some 0x0D, s)
      else match acc with
        | .load n sg => (some (loadValue n sg (s.read k n)), none, s)
        | _ => let (old, s) := s.atomicAt g (some r.who.c) k acc r.data r.cmp; (some old, none, s)
    | none, acc =>
      match r.rsp with
      | none => (none, none, s)
      | some x =>
        if !acc.returns then (none, none, s)
        else if x.poison then (none, some 0x0D, s)
        else match acc with
          | .load n sg => (some (loadValue n sg x.data), none, s)
          | _ => (some (BitVec.ofNat 64 (ofLE x.data)), none, s)

/-- Request n of core g can complete: no older access of its strand to one of its bytes is under way (R84), a remote one
has its answer, and the mirror copies of a store are acknowledged (R336). -/
def State.reqReady (s : State) (g : Nat) (r : Req) : Bool :=
  let x := s.core g
  let older (q : Req) : Bool := decide (q.seq < r.seq ∧ q.who.c = r.who.c ∧ q.who.k = r.who.k) &&
    locOverlap q.loc q.acc.size r.loc r.acc.size
  !(x.slots.any older) && !(x.sideq.any older) && r.dups == 0 && (r.loc.key.isSome || r.rsp.isSome)

/-- SCALAR_ACCESS_COMPLETE (R74, R77, R84): the access in slot n of core g takes effect at its target and returns; the
slot is freed and offered on. -/
def execScalarAccessComplete (g n : Nat) (s : State) : Host.Outcome State Fault Refusal :=
  match (s.core g).slots[n]? with
  | none => .next s
  | some r =>
    if !s.reqReady g r then .next s else
    let (v, err, s) := s.reqEffect g r
    let x := s.core g
    let s := s.setCore g { x with slots := x.slots.filter (fun q => q.seq ≠ r.seq) }
    let s := if r.acc.returns then s.arrive g r.who r.rd v else s
    let s := match err with
      | some e => s.raiseOpWho g r.who r.seq e r.addr
      | none => s.progressOf g r.who.c r.seq
    .next (s.slotOffer g r.tgt)

/-! ### Instructions -/

/-- LD8 (Table ISA-7). -/
def execLd8 (g c k : Nat) (s : State) : Host.Outcome State Fault Refusal := .next (s.loadOp g c k .ld8 1 false)

/-- LD16. -/
def execLd16 (g c k : Nat) (s : State) : Host.Outcome State Fault Refusal := .next (s.loadOp g c k .ld16 2 false)

/-- LD32. -/
def execLd32 (g c k : Nat) (s : State) : Host.Outcome State Fault Refusal := .next (s.loadOp g c k .ld32 4 false)

/-- LD64. -/
def execLd64 (g c k : Nat) (s : State) : Host.Outcome State Fault Refusal := .next (s.loadOp g c k .ld64 8 false)

/-- LDS8. -/
def execLds8 (g c k : Nat) (s : State) : Host.Outcome State Fault Refusal := .next (s.loadOp g c k .lds8 1 true)

/-- LDS16. -/
def execLds16 (g c k : Nat) (s : State) : Host.Outcome State Fault Refusal := .next (s.loadOp g c k .lds16 2 true)

/-- LDS32. -/
def execLds32 (g c k : Nat) (s : State) : Host.Outcome State Fault Refusal := .next (s.loadOp g c k .lds32 4 true)

/-- ST8. -/
def execSt8 (g c k : Nat) (s : State) : Host.Outcome State Fault Refusal := .next (s.storeOp g c k .st8 1)

/-- ST16. -/
def execSt16 (g c k : Nat) (s : State) : Host.Outcome State Fault Refusal := .next (s.storeOp g c k .st16 2)

/-- ST32. -/
def execSt32 (g c k : Nat) (s : State) : Host.Outcome State Fault Refusal := .next (s.storeOp g c k .st32 4)

/-- ST64. -/
def execSt64 (g c k : Nat) (s : State) : Host.Outcome State Fault Refusal := .next (s.storeOp g c k .st64 8)

/-- AMOADD: RD ← memory at RS1; memory ← old + RS2. -/
def execAmoadd (g c k : Nat) (s : State) : Host.Outcome State Fault Refusal := .next (s.atomicOp g c k .amoadd .amoadd)

/-- AMOSWAP: RD ← memory at RS1; memory ← RS2. -/
def execAmoswap (g c k : Nat) (s : State) : Host.Outcome State Fault Refusal := .next (s.atomicOp g c k .amoswap .amoswap)

/-- AMOCAS: RD ← memory at RS1; where it equalled RD, memory ← RS2. -/
def execAmocas (g c k : Nat) (s : State) : Host.Outcome State Fault Refusal := .next (s.atomicOp g c k .amocas .amocas)

end Sys2Proof.Machine
end

