-- ==== Sys2Proof/Machine/Dma.lean ====
section
/-! DEFINITION. The DMA engine: channels, read and write bursts, units and tokens, pacing, run-ahead, errors, ends and
shard checks (R208 to R241, R287). -/

namespace Sys2Proof.Machine

/-! ### Channels -/

def State.chan (s : State) (g ch : Nat) : Chan := SMap.get {} s.chans (g, ch)

def State.setChan (s : State) (g ch : Nat) (x : Chan) : State :=
  { s with chans := SMap.set (fun k => 16 * k.1 + k.2) {} s.chans (g, ch) x }

/-- The active transfer changed. -/
def State.modXfer (s : State) (g ch : Nat) (f : Xfer → Xfer) : State :=
  s.setChan g ch { s.chan g ch with act := (s.chan g ch).act.map f }

/-- The registers of the active set. -/
def activeRegs : List RegName :=
  [.DMA_CH_CTL, .DMA_CH_SRC, .DMA_CH_DST, .DMA_CH_COUNTS, .DMA_CH_LOOP1, .DMA_CH_LOOP2, .DMA_CH_LOOP3, .DMA_CH_AUX]

/-- The active set. -/
def State.desc (s : State) (g ch : Nat) : Desc := activeRegs.map (fun n => s.reg ⟨n, g, ch, 0⟩)

/-- The shadow set. -/
def State.shdDesc (s : State) (g ch : Nat) : Desc := (List.range 8).map (fun i => s.reg ⟨.DMA_CH_SHD, g, ch, i⟩)

/-- STATE of a channel: 0 idle, 1 running, 2 held, 3 stopping, 4 error. -/
def State.chState (s : State) (g ch : Nat) : Nat := s.f F.DMA_CH_STATUS_STATE g ch

def State.setChState (s : State) (g ch v : Nat) : State := s.setF F.DMA_CH_STATUS_STATE v g ch

/-- A stop of the whole core is in force (R233). -/
def State.dmaStopped (s : State) (g : Nat) : Bool := s.fb F.DMA_STOPPED_STOPPED g

/-- The shadow set emptied, with its run-ahead. -/
def State.shadowEmpty (s : State) (g ch : Nat) : State :=
  let s := iter 8 (fun i s => s.setReg ⟨.DMA_CH_SHD, g, ch, i⟩ 0) s
  let s := s.setF F.DMA_CH_STATUS_SHADOW 0 g ch
  let s := s.setChan g ch { s.chan g ch with whoQ := none, shd := {} }
  let x := s.core g
  s.setCore g { x with bursts := x.bursts.filter (fun b => !(b.ch == ch && b.next)) }

/-- A read burst holds its buffer entry from its issue until its write is acknowledged (R216), also while it waits to be
issued again after a failure. A suppressed or poisoned read has given its entry back. -/
def Burst.holds (b : Burst) : Bool := b.st != .suppressed && b.st != .reread

/-- Buffer entries held (R216). -/
def Core.bufUsed (x : Core) : Nat := (x.bursts.filter Burst.holds).length

/-- Reads outstanding. -/
def Core.bufReads (x : Core) : Nat := (x.bursts.filter (fun b => b.st = .reading)).length

/-! ### Digests (R223) -/

/-- A stretch delivered at a place: folded into the CRC once every earlier one is. n is the length of a run; the folded
bytes are returned. -/
def Digest.fold (n : Nat) : Nat → Digest → Digest × List Byte
  | 0, x => (x, [])
  | fuel + 1, x =>
    match x.hold.find? (fun h => decide (h.1 = x.run ∧ h.2.1 = x.off)) with
    | none => (x, [])
    | some h =>
      let off := x.off + h.2.2.length
      let y : Digest := { x with crc := h.2.2.foldl crc64Byte x.crc, hold := x.hold.filter (fun e => !decide (e.1 = h.1 ∧ e.2.1 = h.2.1))
                                 run := if n ≤ off then x.run + 1 else x.run, off := if n ≤ off then 0 else off }
      let (z, bs) := Digest.fold n fuel y
      (z, h.2.2 ++ bs)

/-- A stretch added. -/
def Digest.add (x : Digest) (n run off : Nat) (bs : List Byte) : Digest × List Byte :=
  if bs.isEmpty then (x, []) else
  let y : Digest := { x with hold := x.hold ++ [(run, off, bs)] }
  Digest.fold n (y.hold.length + 1) y

/-- The digest of what was delivered; stretches after a gap follow in pattern order. -/
def Digest.value (x : Digest) : Word :=
  let sorted := x.hold.foldl (fun (l : List (Nat × Nat × List Byte)) h =>
    l.filter (fun e => decide (e.1 * 2 ^ 23 + e.2.1 ≤ h.1 * 2 ^ 23 + h.2.1)) ++ [h] ++
    l.filter (fun e => decide (h.1 * 2 ^ 23 + h.2.1 < e.1 * 2 ^ 23 + e.2.1))) []
  ~~~ ((sorted.flatMap (·.2.2)).foldl crc64Byte x.crc)

/-- Bytes delivered at a place of the stream. -/
def Xfer.deliver (x : Xfer) (n run off : Nat) (bs : List Byte) : Xfer :=
  let (d, out) := x.dig.add n run off bs
  { x with dig := d, tag := (x.tag ++ out).take 64 }

/-! ### Pacing (R228) -/

/-- The level of a paced channel. -/
def Xfer.level (x : Xfer) : Nat := x.startedN - (x.seen - x.c0).toNat

/-- A held channel whose level is LOW or below runs again. -/
def State.paceOpen (s : State) (g ch : Nat) : State :=
  match (s.chan g ch).act with
  | none => s
  | some x => if s.chState g ch = 2 && decide (x.level ≤ s.f F.DMA_CH_PACE_LOW g ch) then s.setChState g ch 1 else s

/-- The counter word of a paced channel. -/
def State.paceWord (s : State) (g c ch : Nat) : Word :=
  match s.winKey g c (s.f F.DMA_CH_PACE_ADDR_ADDR g ch) 8 with
  | none => 0
  | some k => BitVec.ofNat 64 (s.readN k 8)

/-! ### The end of a transfer (R219, R287) -/

/-- The result record (Table DMA-5). The digest of a scatter-append is a value the spec does not state: free. A
scatter-append that ends before its last record names the head record and how many of its tokens are written. FAIL_TOKEN
of every other end, and FIRST of every operation but compare, are all ones (DESIGN CHOICE, log entry 76). -/
def State.resultRecord (s : State) (g ch code : Nat) (x : Xfer) : State :=
  let d := s.desc g ch
  if !d.resEn then s else
  let (fw, s) := s.free
  let dig := if d.op = 4 then fw else x.dig.value
  let (fr, ft) := if d.op = 4 ∧ code ≠ 1 ∧ code ≠ 4 then
      (x.head, x.stop.elim (min (d.count 2) (SMap.get 0 x.acked x.head / (d.count 1 * d.run))) (·.1))
    else (0xFFFFFFFF, 0xFFFFFFFF)
  s.write (spadKey g d.res) (toLE 1 code ++ toLE 1 d.op ++ zeroBytes 6 ++ toLE 8 x.bytes ++ toLE 8 dig.toNat ++
    toLE 8 (if d.op = 2 ∧ !d.cmode then x.dig2.value.toNat else 0) ++ toLE 8 x.diff ++
    toLE 8 (x.first.getD (2 ^ 64 - 1)) ++ toLE 4 x.suppressed ++ toLE 4 x.retries ++ toLE 4 fr ++ toLE 4 ft)

/-- `shard_check` of a checked transfer that ended with code 1 (R287). -/
def State.shardCheck (s : State) (g ch : Nat) (x : Xfer) : State :=
  let c := x.who.c
  let d := s.desc g ch
  let n (o len : Nat) : Nat := ofLE ((x.tag.drop o).take len)
  let slots := s.trnF F.TRN_LEDGER_SLOTS_SLOTS c
  if !x.chk || slots == 0 then s else
  let a := s.trnF F.TRN_LEDGER_BASE_ADDR c + 16 * (slots * g + n 4 4)
  let s := s.addF F.TRN_CHECKS_COUNT 1 c
  let key := match s.xlate g c a true .dma with
    | .ok (.mem k) => if a % 2 ^ 44 < hbmSize && !s.poisoned k 16 then some k else none
    | _ => none
  if !d.resEn || (s.spadOff g d.dst).isNone || x.tag.length < 64 || n 0 4 != 0x44524853 || decide (slots ≤ n 4 4) then
    s.trnCause c g 3
  else match key with
  | none => s.trnCause c g 3
  | some k =>
    if n 8 8 ≠ s.f F.TRN_STEP_DONE_STEP c then s.trnCause c g 1
    else if s.readN k 8 ≠ s.f F.TRN_STEP_NUM_STEP c then
      s.write k (toLE 8 (s.f F.TRN_STEP_NUM_STEP c) ++ toLE 8 x.dig.value.toNat)
    else if s.readN (k + 8) 8 ≠ x.dig.value.toNat then s.trnCause c g 2
    else s

/-- The end of a transfer with a code (R219, R236): the result record, the last unit's token, the shard check or cause 4,
LAST, the end token, idle; a queued shadow set survives only codes 1 and 4. -/
def State.chanEnd (s : State) (g ch code : Nat) : State :=
  match (s.chan g ch).act with
  | none => s.setChState g ch 0
  | some x =>
    let d := s.desc g ch
    let c := x.who.c
    let good := code == 1 || code == 4
    let s := s.resultRecord g ch code x
    let s := if d.tok = 2 ∧ good then s.token g c ch 1 else s
    let s := if code = 1 then s.shardCheck g ch x
      else if code = 4 then
        let s := s.event F.DMA_EVENT_POISON c
        if s.stepOpen c then s.trnCause c g 4 else s
      else if code = 5 ∨ code = 6 then s.event F.DMA_EVENT_ALLOC c
      else s
    let s := s.setF F.DMA_CH_STATUS_LAST code g ch
    let s := if d.tok = 1 ∧ code ≠ 7 then s.token g c ch 1 else s
    let u := s.core g
    let s := s.setCore g { u with
      bursts := u.bursts.filter (fun b => b.ch ≠ ch ∨ b.next = true)
      writes := u.writes.filter (fun w => w.ch ≠ ch) }
    let s := (s.setChan g ch { s.chan g ch with act := none }).setChState g ch 0
    if !good && s.shadow g ch == 2 then s.shadowEmpty g ch else s

/-- Complete units from the head on, with their tokens (R218); the last unit of a transfer ends it. A channel in error, or
stopping after an abort, delivers nothing. -/
def State.chanAdvance : Nat → Nat → Nat → State → State
  | 0, _, _, s => s
  | fuel + 1, g, ch, s =>
    match (s.chan g ch).act with
    | none => s
    | some x =>
      let d := s.desc g ch
      let st := s.chState g ch
      if st = 0 ∨ st = 4 ∨ (st = 3 ∧ x.ending ≠ 2) ∨ SMap.get 0 x.acked x.head < d.unitLen ∨ d.units ≤ x.head then s
      else
        let h := x.head + 1
        let s := s.modXfer g ch (fun x => { x with
          head := h
          acked := x.acked.filter (fun e => decide (h ≤ e.1))
          started := x.started.filter (h ≤ ·)
          walk := { x.walk with
            pages := x.walk.pages.filter (fun e => decide (h ≤ e.1))
            recs := x.walk.recs.filter (fun e => decide (h ≤ e.1)) }
          tokPages := []
          tokDone := false })
        let last := decide (d.units ≤ h)
        let s := if d.tok = 2 && (!last || st == 3) then s.token g x.who.c ch 1 else s
        if last && st ≠ 3 then s.chanEnd g ch (if x.bad then 4 else 1)
        else State.chanAdvance fuel g ch s

/-- Bytes of a unit acknowledged; DMA_CH_DONE counts a unit that they complete. -/
def State.credit (s : State) (g ch unit n : Nat) : State :=
  match (s.chan g ch).act with
  | none => s
  | some x =>
    let full := (s.desc g ch).unitLen
    let old := SMap.get 0 x.acked unit
    let s := s.modXfer g ch (fun x => { x with acked := SMap.set id 0 x.acked unit (old + n) })
    let s := if old < full ∧ full ≤ old + n then
        let s := s.addF F.DMA_CH_DONE_UNITS 1 g ch
        s.setF F.DMA_CH_STATUS_UNITS (s.f F.DMA_CH_DONE_UNITS g ch) g ch
      else s
    (State.chanAdvance ((s.desc g ch).units + 1) g ch s).progress g x.who.c

/-! ### Errors (R232 to R235) -/

/-- The failing burst recorded. -/
def State.chErr (s : State) (g ch cause tries addr : Nat) (write : Bool) : State :=
  let s := (s.setF F.DMA_CH_ERR_CAUSE cause g ch).setF F.DMA_CH_ERR_TRIES tries g ch
  (s.setF F.DMA_CH_ERR_WRITE write.toNat g ch).setF F.DMA_CH_ERR_ADDR_ADDR addr g ch

/-- The channel leaves running or held for error; a stopping one ends with code 3 (R236). -/
def State.chFail (s : State) (g ch : Nat) : State :=
  if s.chState g ch = 3 then s.modXfer g ch (fun x => { x with ending := if x.ending = 7 then 7 else 3 })
  else s.setChState g ch 4

/-- A demand translation failed (Table DMA-7): the context faults, the channel enters error with cause 6. -/
def State.chFault (s : State) (g ch code tries addr : Nat) (write : Bool) : State :=
  match (s.chan g ch).act with
  | none => s
  | some x => ((s.raiseWho g x.who code (some addr)).chErr g ch 6 tries addr write).chFail g ch

/-- A bus error that is not retried (R233, R234). The failing channel, if it is stopping, goes on stopping (R236); another
that is stopping enters error with the rest, but one whose context is gone (R211) does not. -/
def State.busError (s : State) (g ch cause tries addr : Nat) (write : Bool) : State :=
  let s := (s.chErr g ch cause tries addr write).event F.DMA_EVENT_BUS_ERR (s.chOwner g ch)
  if s.fb F.DMA_CORE_CFG_ERR_MODE g then s.chFail g ch
  else
    let s := (s.chFail g ch).setF F.DMA_STOPPED_STOPPED 1 g
    let s := s.event F.DMA_EVENT_STOP_ALL (s.chOwner g ch)
    iter 16 (fun k s =>
      let st := s.chState g k
      if k ≠ ch ∧ st ≠ 0 ∧ !(st = 3 ∧ ((s.chan g k).act.map (·.ending)) = some 7) then
        ((s.setF F.DMA_CH_ERR_CAUSE 7 g k).setChState g k 4).event F.DMA_EVENT_STOP_ALL (s.chOwner g k)
      else s) s

/-- A further reissue of a burst that has had `again` reissues is allowed (R234). -/
def State.mayRetry (s : State) (g again : Nat) : Bool :=
  s.fb F.DMA_CORE_CFG_ERR_MODE g && decide (again < s.f F.DMA_CORE_CFG_RETRY g)

/-- A reissue counted. -/
def State.retryCount (s : State) (g ch : Nat) : State :=
  (s.modXfer g ch (fun x => { x with retries := x.retries + 1 })).addF F.DMA_CH_RETRIES_COUNT 1 g ch

/-! ### Reads (R216, R217, R220, R224, R225, R230, R231) -/

/-- What a walk reads next. -/
structure Fetch where
  kind : BurstKind
  unit : Nat
  run : Nat
  off : Nat
  addr : Except Nat Nat
  len : Nat
  walk : Walk

/-- A burst from offset off of a stretch of n bytes at an address ends at a 256 B boundary (R216). -/
def cut (a off n : Nat) : Nat := min (256 - (a + off) % 256) (n - off)

/-- The walk after n bytes of a run of which len are to be read. -/
def Walk.past (w : Walk) (n len : Nat) : Walk :=
  if w.off + n < len then { w with off := w.off + n } else { w with run := w.run + 1, off := 0 }

/-- The next read of a walk for context c; none where it is over or waits for a list entry. -/
def State.fetchOf (s : State) (c : Nat) (d : Desc) (w : Walk) : Option Fetch :=
  let w := d.ahead w
  let r := w.run
  let u := d.unitOf r
  let data (a len : Nat) : Option Fetch :=
    some ⟨.data, u, r, w.off, .ok (a + w.off), cut a w.off len, w.past (cut a w.off len) len⟩
  let second := d.op == 2 && !d.cmode && decide (w.run2 * 2 ^ 23 + w.off2 < r * 2 ^ 23 + w.off)
  if second then
    let a := d.dstRun w.run2
    let n := cut a w.off2 d.run
    some ⟨.second, d.unitOf w.run2, w.run2, w.off2, .ok (a + w.off2), n,
      if w.off2 + n < d.run then { w with off2 := w.off2 + n } else { w with run2 := w.run2 + 1, off2 := 0 }⟩
  else if d.nRuns ≤ r then none
  else match d.op with
  | 3 =>
    if w.asked ≤ u then some ⟨.entry, u, r, 0, .ok (d.entryAddr u), 4, { w with asked := u + 1 }⟩
    else match SMap.get none w.pages u with
    | none => none
    | some p =>
      match s.pageAddr c d.pool p false with
      | .ok a => data (a + d.pageOff r) d.run
      | .error e =>
        let a := d.pageOff r
        some ⟨.data, u, r, w.off, .error e, cut a w.off d.run, w.past (cut a w.off d.run) d.run⟩
  | 4 =>
    if w.asked ≤ u then some ⟨.record, u, r, 0, .ok (d.recAddr u), 16, { w with asked := u + 1 }⟩
    else data (d.srcRun r) d.run
  | 5 =>
    if d.toRows then data (d.src + r * d.tileRow) d.tileRow
    else data (d.tileRowAt d.src r).1 (d.tileRowAt d.src r).2.1
  | _ => data (d.srcRun r) d.run

/-- What the read engine would issue for a channel: demand or run-ahead, of the active or the shadow transfer, a burst
issued again or a new one. -/
structure ReadCand where
  demand : Bool
  next : Bool
  redo : Option Burst
  fetch : Option Fetch

/-- The page of the head record's first token still to be read (R225). -/
def State.tailFetch (s : State) (g ch : Nat) (d : Desc) (x : Xfer) : Option Fetch :=
  if d.op ≠ 4 then none else
  match x.walk.recs.find? (fun e => e.1 = x.head) with
  | none => none
  | some (_, r) =>
    if r.tokens % 64 = 0 || (SMap.get none x.tokPages (r.tokens / 64)).isSome ||
      (s.core g).bursts.any (fun b => b.ch == ch && b.kind == .tail) then none
    else some ⟨.tail, x.head, x.head * d.unitRuns, 0, .ok (r.list + 4 * (r.tokens / 64)), 4, x.walk⟩

/-- The next read of a channel (R217, R230). -/
def State.readCand (s : State) (g ch : Nat) : Option ReadCand :=
  match (s.chan g ch).act with
  | none => none
  | some x =>
    let st := s.chState g ch
    let d := s.desc g ch
    let mine := (s.core g).bursts.filter (fun b => b.ch == ch && !b.next)
    let depth := s.f F.DMA_CH_CFG_DEPTH_M1 g ch + 1
    if (st ≠ 1 ∧ st ≠ 2) || s.dmaStopped g then none
    else match mine.find? (fun b => b.st == .failed || b.st == .reread || (b.st == .suppressed && b.unit == x.head)) with
    | some b => some ⟨true, false, some b, none⟩
    | none =>
      match s.tailFetch g ch d x with
      | some f => some ⟨true, false, none, some f⟩
      | none =>
        match s.fetchOf x.who.c d x.walk with
        | some f => if f.unit ≤ x.head + depth then some ⟨f.unit == x.head, false, none, some f⟩ else none
        | none =>
          match (s.chan g ch).whoQ with
          | none => none
          | some (w, _) =>
            if s.shadow g ch ≠ 2 ∨ (d.ahead x.walk).run < d.nRuns then none
            else match s.fetchOf w.c (s.shdDesc g ch) (s.chan g ch).shd with
            | none => none
            | some f => if f.unit + (d.units - x.head) ≤ depth then some ⟨false, true, none, some f⟩ else none

/-- The first channel after the one last served that satisfies p (R217). -/
def roundRobin (last : Nat) (p : Nat → Bool) : Option Nat := ((List.range 16).map (fun i => (last + 1 + i) % 16)).find? p

/-- A core's bursts with burst id changed. -/
def State.modBurst (s : State) (g id : Nat) (f : Burst → Burst) : State :=
  let x := s.core g
  s.setCore g { x with bursts := x.bursts.map (fun b => if b.id = id then f b else b) }

def State.dropBurst (s : State) (g id : Nat) : State :=
  let x := s.core g
  s.setCore g { x with bursts := x.bursts.filter (fun b => b.id ≠ id) }

/-- A run-ahead read suppressed (R231). -/
def State.suppress (s : State) (g : Nat) (b : Burst) : State :=
  let s := s.modBurst g b.id (fun b => { b with st := .suppressed })
  let s := s.addF F.DMA_CH_SUPPRESS_COUNT 1 g b.ch
  s.modXfer g b.ch (fun x => { x with suppressed := x.suppressed + 1 })

/-- The DMA flow of a channel to address a of a node (Table NET-4). -/
def dmaKey (g ch node a : Nat) : FlowKey := { cls := .dma, core := g, sub := ch, node := node, dst := dstCoreOf a }

/-- A burst in the list is translated and goes out (R185, R216). -/
def State.burstGo (s : State) (g c : Nat) (b : Burst) (addr : Except Nat Nat) : State :=
  let failed (e : Nat) (a : Nat) : State :=
    if b.demand then (s.modBurst g b.id (fun b => { b with st := .failed })).chFault g b.ch e b.tries a false
    else s.suppress g b
  match addr with
  | .error e => failed e b.addr
  | .ok a =>
    match s.xlate g c a false .dma with
    | .error e => failed e a
    | .ok loc =>
      let s := s.modBurst g b.id (fun b => { b with st := .reading, addr := a, loc := loc, rsp := none })
      let s := match loc with
        | .remote node ra =>
          let (tag, s) := s.nextTag
          s.flowSend (dmaKey g b.ch node ra)
            [{ pkt := { type := tReadReq, ctx := c, addr := ra, aux := b.len, tag := tag }, refs := [{ op := .dma g b.ch b.id }] }]
        | _ => s
      let used := (s.core g).bufUsed
      if s.f F.DMA_BUF_STAT_PEAK g < used then s.setF F.DMA_BUF_STAT_PEAK used g else s

/-- The address of a read that is issued again: that of a gather's page is formed anew (R185, R252). -/
def State.againAddr (s : State) (g c : Nat) (b : Burst) : Except Nat Nat :=
  let d := s.desc g b.ch
  if b.kind = .data ∧ d.op = 3 then
    match (s.chan g b.ch).act.bind (fun x => SMap.get none x.walk.pages b.unit) with
    | some p => (s.pageAddr c d.pool p false).map (fun a => a + d.pageOff b.run + b.off)
    | none => .ok b.addr
  else .ok b.addr

/-- A candidate takes a buffer entry that it does not hold yet. -/
def ReadCand.takes (k : ReadCand) : Bool := k.redo.all (fun b => !b.holds)

/-- A candidate issued. -/
def State.readIssue (s : State) (g ch : Nat) (k : ReadCand) : State :=
  let c := if k.next then ((s.chan g ch).whoQ.map (·.1.c)).getD 0 else ((s.chan g ch).act.map (·.who.c)).getD 0
  let u := s.core g
  let s := s.setCore g { u with lastRead := ch }
  match k.redo, k.fetch with
  | some b, _ =>
    let b := { b with demand := true, tries := b.tries + 1 }
    (s.modBurst g b.id (fun _ => b)).burstGo g c b (s.againAddr g c b)
  | none, some f =>
    let b : Burst := { id := u.seq, ch := ch, next := k.next, kind := f.kind, unit := f.unit, run := f.run, off := f.off,
                       addr := f.addr.toOption.getD 0, loc := .mem 0, len := f.len, demand := k.demand }
    let s := s.setCore g { s.core g with seq := u.seq + 1, bursts := u.bursts ++ [b] }
    let s := if k.next then s.setChan g ch { s.chan g ch with shd := f.walk }
      else s.modXfer g ch (fun x => { x with walk := f.walk })
    s.burstGo g c b f.addr
  | none, none => s

/-- DMA_READ_BURST_ISSUE (R216, R217): a demand read before a run-ahead read, round robin among equals; a read needs a
free entry unless it holds one, a run-ahead read 64 of them. -/
def execDmaReadBurstIssue (g : Nat) (s : State) : Host.Outcome State Fault Refusal :=
  let x := s.core g
  if 512 ≤ x.bufReads then .next s else
  let is (demand : Bool) (ch : Nat) : Bool :=
    (s.readCand g ch).any (fun k => k.demand == demand && (!k.takes || decide (x.bufUsed < 1024)))
  let pick := match roundRobin x.lastRead (is true) with
    | some ch => some ch
    | none => if x.bufUsed + 64 ≤ 1024 then roundRobin x.lastRead (is false) else none
  match pick with
  | none => .next s
  | some ch =>
    match s.readCand g ch with
    | none => .next s
    | some k => .next (s.readIssue g ch k)

/-- n bytes that nothing constrains: what a poisoned read carries. -/
def State.freeBytes (s : State) (n : Nat) : List Byte × State :=
  ((List.range n).map (fun i => Config.freeByte (s.freeCtr + i)), s.useFree n)

/-- Bytes of two compared patterns, as far as both have come (R222). -/
def Xfer.compare (x : Xfer) (cmode : Bool) : Xfer × Nat :=
  let n := if cmode then x.pa.length else min x.pa.length x.pb.length
  let bad := if cmode then [] else
    ((List.range n).zip (x.pa.zip x.pb)).filter (fun e => decide (e.2.1 ≠ e.2.2))
  ({ x with pa := x.pa.drop n, pb := x.pb.drop n, done := x.done + n, diff := x.diff + bad.length, bytes := x.bytes + n,
            first := match x.first, bad with
              | none, e :: _ => some (x.done + e.1)
              | f, _ => f }, n)

/-- Compared bytes credited to their units, from byte number `from'` of the pattern. -/
def State.creditBytes (s : State) (g ch unitLen : Nat) : Nat → Nat → Nat → State
  | 0, _, _ => s
  | fuel + 1, at', n =>
    if n = 0 then s else
    let m := min n (unitLen - at' % unitLen)
    (s.credit g ch (at' / unitLen) m).creditBytes g ch unitLen fuel (at' + m) (n - m)

/-- Data of a compare enters its digest and is compared; the burst is done with. -/
def State.compareData (s : State) (g : Nat) (b : Burst) (bs : List Byte) : State :=
  match (s.chan g b.ch).act with
  | none => s.dropBurst g b.id
  | some x =>
    let d := s.desc g b.ch
    let x := if b.kind = .second then
        let (dg, out) := x.dig2.add d.run b.run b.off bs
        { x with dig2 := dg, pb := x.pb ++ out }
      else
        let (dg, out) := x.dig.add d.run b.run b.off bs
        { x with dig := dg, pa := x.pa ++ out }
    let (x, n) := x.compare d.cmode
    let s := (s.dropBurst g b.id).modXfer g b.ch (fun _ => x)
    s.creditBytes g b.ch d.unitLen (n + 1) (x.done - n) n

/-- What is written of the bytes of a read burst: of a tile re-layout the row bytes in use, and the row's padding. -/
def Desc.form (d : Desc) (b : Burst) (bs : List Byte) : List Byte :=
  if d.op = 5 ∧ d.toRows then
    let (_, n, nbits) := d.tileRowAt d.dst b.run
    if n = 0 then [] else (keepBits (nbits - 8 * b.off) bs).take (n - b.off)
  else if d.op = 5 then
    let (_, n, nbits) := d.tileRowAt d.src b.run
    keepBits (nbits - 8 * b.off) bs ++ (if n ≤ b.off + b.len then zeroBytes (d.tileRow - n) else [])
  else bs

/-- A null entry of a pool that refuses the context fails as any other entry does (R252): it is read again as the head's. -/
def State.entryRefused (s : State) (g c : Nat) (d : Desc) (b : Burst) (bs : List Byte) : Option Nat :=
  if b.kind = .entry ∧ ofLE bs = nullPage ∧ !(b.next ∧ (s.chan g b.ch).whoQ.isNone) then s.poolRefuses c d.pool false else none

/-- Data that has arrived: put in the form that is written, or consumed by the walk. -/
def State.burstData (s : State) (g : Nat) (b : Burst) (bs : List Byte) (poison : Bool) : State :=
  let d := if b.next then s.shdDesc g b.ch else s.desc g b.ch
  let modW (f : Walk → Walk) : State :=
    let s := s.dropBurst g b.id
    if b.next then s.setChan g b.ch { s.chan g b.ch with shd := f (s.chan g b.ch).shd }
    else s.modXfer g b.ch (fun x => { x with walk := f x.walk })
  match b.kind with
  | .entry => modW (fun w => { w with pages := SMap.set id none w.pages b.unit (some (ofLE bs)) })
  | .record =>
    modW (fun w => { w with recs := w.recs ++ [(b.unit, ⟨ofLE (bs.take 8), ofLE ((bs.drop 8).take 4), ofLE (bs.drop 12)⟩)] })
  | .tail =>
    match (s.chan g b.ch).act.bind (fun x => x.walk.recs.find? (fun e => e.1 = b.unit)) with
    | none => s.dropBurst g b.id
    | some (_, r) =>
      (s.dropBurst g b.id).modXfer g b.ch (fun x => { x with tokPages := SMap.set id none x.tokPages (r.tokens / 64) (some (ofLE bs)) })
  | .second => s.compareData g b bs
  | .data =>
    if d.op = 2 then s.compareData g b bs
    else
      let row := d.form b bs
      let s := if d.op = 5 ∧ d.toRows then s.modXfer g b.ch (fun x => x.deliver d.tileRow b.run b.off bs) else s
      if row.isEmpty then (s.dropBurst g b.id).credit g b.ch b.unit b.len
      else s.modBurst g b.id (fun b => { b with st := .ready, data := row, poison := poison })

/-- What a read brought back. -/
inductive ReadEnd where
  | data (bs : List Byte)
  | poison
  | bus (cause : Nat)
  | fault (code : Nat)

/-- What a status of a remote node means for a DMA burst (Table NET-6, R328). -/
def dmaStatus (status : Nat) : ReadEnd :=
  match status with
  | 4 => .bus 1
  | 5 => .fault 0x05
  | 6 => .fault 0x06
  | 7 => .bus 1
  | 0x102 => .bus 2
  | _ => .bus 3

/-- What the memory of a burst reports; where the port is shut, an Unsupported Request, cause 4 (R348). -/
def State.errAt (s : State) (loc : Loc) (err : MemErr) : MemErr := if s.hostShut loc then .bus 4 else err

/-- The end of a read burst: as its answer or its memory gives it. -/
def State.readEnd (s : State) (b : Burst) (err : MemErr) : ReadEnd :=
  match b.loc.key with
  | none =>
    match b.rsp with
    | none => .data []
    | some r => if r.status ≠ 0 then dmaStatus r.status else if r.poison then .poison else .data r.data
  | some k =>
    match s.errAt b.loc err with
    | .bus cause => .bus cause
    | .uncorrectable => .poison
    | _ => if s.poisoned k b.len then .poison else .data (s.read k b.len)

/-- The rereads of a poisoned burst from ALT, at the same offset of the pattern: at most two, cut at a 256 B boundary of
ALT (R216, R220). -/
def Burst.rereads (b : Burst) (d : Desc) (seq : Nat) : List Burst :=
  let a : Nat := ((b.addr : Int) - d.src + d.aux).toNat
  let n := cut a 0 b.len
  let piece (id off len : Nat) : Burst :=
    { b with id := id, off := b.off + off, addr := a + off, len := len, st := .reread, alt := true, tries := 0, again := 0 }
  piece b.id 0 n :: (if n < b.len then [piece seq n (b.len - n)] else [])

/-- Poisoned demand data (R220): to be reread from ALT, or carried on as poison. -/
def State.poisonedRead (s : State) (g : Nat) (b : Burst) : State :=
  let d := s.desc g b.ch
  if d.op = 0 ∧ d.aux ≠ 0 ∧ !b.alt then
    let u := s.core g
    s.setCore g { u with seq := u.seq + 1
                         bursts := u.bursts.flatMap (fun v => if v.id = b.id then b.rereads d u.seq else [v]) }
  else
    let (bs, s) := s.freeBytes b.len
    (s.modXfer g b.ch (fun x => { x with bad := true })).burstData g b bs true

/-- A demand read of a stopping channel returns: its data is dropped, its error handled (R232, R236). -/
def State.stoppedRead (s : State) (g : Nat) (b : Burst) (e : ReadEnd) : State :=
  let s := s.dropBurst g b.id
  match e with
  | .fault code => s.chFault g b.ch code b.tries b.addr false
  | .bus cause => if b.alt then s else s.busError g b.ch cause b.tries b.addr false
  | _ => s

/-- The return of a read burst (R220, R231, R232, R234, R252). -/
def State.readReturn (s : State) (g : Nat) (b : Burst) (e : ReadEnd) : State :=
  let d := if b.next then s.shdDesc g b.ch else s.desc g b.ch
  let c := if b.next then ((s.chan g b.ch).whoQ.map (·.1.c)).getD 0 else ((s.chan g b.ch).act.map (·.who.c)).getD 0
  if s.chState g b.ch = 3 && !b.next then (if b.demand then s.stoppedRead g b e else s.dropBurst g b.id)
  else if !b.demand then
    match e with
    | .data bs => if (s.entryRefused g c d b bs).isSome then s.suppress g b else s.burstData g b bs false
    | _ => s.suppress g b
  else match e with
  | .data bs =>
    match s.entryRefused g c d b bs with
    | some code => (s.modBurst g b.id (fun b => { b with st := .failed })).chFault g b.ch code b.tries b.addr false
    | none => s.burstData g b bs false
  | .poison => s.poisonedRead g b
  | .fault code => (s.modBurst g b.id (fun b => { b with st := .failed })).chFault g b.ch code b.tries b.addr false
  | .bus cause =>
    if b.alt then s.poisonedRead g b
    else if s.mayRetry g b.again then s.modBurst g b.id (fun b => { b with st := .retry })
    else (s.modBurst g b.id (fun b => { b with st := .failed })).busError g b.ch cause b.tries b.addr false

/-- DMA_READ_RETURN (R220): burst n of the core returns. -/
def execDmaReadReturn (g n : Nat) (err : MemErr) (s : State) : Host.Outcome State Fault Refusal :=
  match (s.core g).bursts[n]? with
  | none => .next s
  | some b =>
    if b.st ≠ .reading ∨ (b.loc.key.isNone ∧ b.rsp.isNone) then .next s else
    let s := match b.loc with
      | .mem k => s.memErr k err
      | _ => s
    .next (s.readReturn g b (s.readEnd b err))

/-- PCIE_COMPLETION_TIMEOUT (R232): a host read without its completion fails with cause 2. -/
def execPcieCompletionTimeout (g n : Nat) (s : State) : Host.Outcome State Fault Refusal :=
  match (s.core g).bursts[n]? with
  | none => .next s
  | some b =>
    match b.st, b.loc with
    | .reading, .host _ _ => .next (s.readReturn g b (.bus 2))
    | _, _ => .next s

/-! ### Writes (R216 to R218, R221, R225, R226, R228) -/

/-- The destination of a run's stream. -/
def Desc.dstOf (d : Desc) (r : Nat) : Nat :=
  if d.op = 5 then (if d.toRows then (d.tileRowAt d.dst r).1 else d.dst + r * d.tileRow) else d.dstRun r

/-- Bytes of a read burst's data that no write has taken up, at most: a tile row ends with its padding. -/
def Desc.unwritten (d : Desc) (b : Burst) : Nat :=
  let n := if b.st = .ready then b.data.length
    else if d.op = 5 ∧ !d.toRows ∧ (d.tileRowAt d.src b.run).2.1 ≤ b.off + b.len then d.tileRow - b.off
    else b.len
  n - b.sent

/-- An earlier stretch of the transfer that is not yet written covers a byte of this one (R215). -/
def State.writeBlocked (s : State) (g ch : Nat) (d : Desc) (run off a n : Nat) : Bool :=
  let p := run * 2 ^ 23 + off
  ((s.chan g ch).act.any (fun x => (d.op == 3 || d.op == 5) && (List.range (run - x.ownRun)).any (fun i =>
    d.ownRun x.walk (x.ownRun + i) && overlap a n (d.dstOf (x.ownRun + i)) d.runLen))) ||
  (s.core g).bursts.any (fun b => b.ch == ch && !b.next && b.kind == .data && decide (b.run * 2 ^ 23 + b.off + b.sent < p) &&
    overlap a n (d.dstOf b.run + b.off + b.sent) (d.unwritten b)) ||
  (s.core g).writes.any (fun w => w.ch == ch && decide (w.run * 2 ^ 23 + w.off < p) && overlap a n w.addr w.data.length)

/-- A write the engine could issue for a channel: its burst, its place, its address or translation failure, its bytes. -/
structure WriteCand where
  kind : WriteKind
  src : Option Nat
  unit : Nat
  run : Nat
  off : Nat
  addr : Except Nat Nat
  data : List Byte
  poison : Bool := false

/-- The address of offset off of a scatter-append's run, its token being number n of its sequence, in page p. -/
def State.tokenAddr (s : State) (c : Nat) (d : Desc) (run n p off : Nat) : Except Nat Nat :=
  (s.pageAddr c d.pool p true).map (fun a => patternAddr a ((d.idx run).1, n % 64, 0) (d.dstep 1) (d.dstep 2) 0 + off)

/-- The page of the token of a scatter-append's run, and the token's number in its sequence. -/
def Xfer.tokenOf (x : Xfer) (d : Desc) (run : Nat) : Option (Nat × Option Nat) :=
  (x.walk.recs.find? (fun e => e.1 = d.unitOf run)).map (fun e =>
    let n := e.2.tokens + (d.idx run).2.1
    (n, SMap.get none x.tokPages (n / 64)))

/-- The next write of a scatter-append (R225), in pattern order; a token that needs a page has none yet. -/
def State.appendCand (s : State) (g ch : Nat) (d : Desc) (x : Xfer) : Option WriteCand :=
  let rec' := x.walk.recs.find? (fun e => e.1 = x.head)
  let due := (s.core g).writes.any (fun w => w.ch == ch)
  let got := SMap.get 0 x.acked x.head
  match x.listDue, rec' with
  | some (a, p), _ => some ⟨.list, none, x.head, x.head * d.unitRuns, 0, .ok a, toLE 4 p, false⟩
  | none, none => none
  | none, some (_, r) =>
    let tokens := x.stop.elim (d.count 2) (·.1)
    if got = tokens * d.count 1 * d.run ∧ !due ∧ !x.tokDone then
      some ⟨.tokens, none, x.head, x.head * d.unitRuns, 0, .ok (d.recAddr x.head + 8), toLE 4 (r.tokens + tokens), false⟩
    else if x.stop.isSome then none
    else
      match (s.core g).bursts.find? (fun b => b.ch == ch && !b.next && b.kind == .data &&
        (b.st != .ready || decide (b.sent < b.data.length))) with
      | none => none
      | some b =>
        if b.st ≠ .ready ∨ b.unit ≠ x.head then none else
        match x.tokenOf d b.run with
        | none => none
        | some (n, page) =>
          let off := b.off + b.sent
          let a := match page with
            | none => .ok 0
            | some p => s.tokenAddr x.who.c d b.run n p off
          if page.isNone ∧ n % 64 ≠ 0 then none
          else
            let len := cut (patternAddr 0 ((d.idx b.run).1, n % 64, 0) (d.dstep 1) (d.dstep 2) 0 + off) 0 (b.data.length - b.sent)
            some ⟨.data, some b.id, b.unit, b.run, off, a, (b.data.drop b.sent).take len, b.poison⟩

/-- The next stretch that the write engine makes itself, as far as the reads have come: fill data, zeros of a null page,
zeros of a tile row beyond the matrix (R221, R224, R226). -/
def State.ownCand (d : Desc) (x : Xfer) : Option WriteCand :=
  match d.nextOwn x.walk x.ownRun (d.ahead x.walk).run with
  | none => none
  | some r =>
    let off := if r = x.ownRun then x.ownOff else 0
    let a := d.dstOf r + off
    let n := cut a 0 (d.runLen - off)
    some ⟨.data, none, d.unitOf r, r, off, .ok a,
      (List.range n).map (fun i => if d.op = 1 then BitVec.ofNat 8 (bits (d.w 7) (8 * ((off + i) % 8)) 8) else 0#8), false⟩

/-- The next write of a channel: none while it is held, stopping, in error, or paced at HIGH with a new unit (R228). While
held it writes nothing, of units already started neither, as the rule says and its worked example does not. The units of
a paced transfer start in their order, so that a slot in use is never overwritten (R229, R258). DEDUCED, log entry 77. -/
def State.writeCand (s : State) (g ch : Nat) : Option WriteCand :=
  match (s.chan g ch).act with
  | none => none
  | some x =>
    let d := s.desc g ch
    let open' (u : Nat) : Bool := !d.pace || decide (u < x.head) || x.started.contains u ||
      (decide (x.level < s.f F.DMA_CH_PACE_HIGH g ch) && u == x.startedN)
    if s.chState g ch ≠ 1 || s.dmaStopped g then none
    else if d.op = 4 then s.appendCand g ch d x
    else
      let ready := (s.core g).bursts.findSome? (fun b =>
        if b.ch == ch && !b.next && b.st == .ready && decide (b.sent < b.data.length) && open' b.unit then
          let off := b.off + b.sent
          let a := d.dstOf b.run + off
          let n := cut a 0 (b.data.length - b.sent)
          if s.writeBlocked g ch d b.run b.off a n then none
          else some (WriteCand.mk .data (some b.id) b.unit b.run off (.ok a) ((b.data.drop b.sent).take n) b.poison)
        else none)
      match ready with
      | some k => some k
      | none =>
        match State.ownCand d x with
        | none => none
        | some k =>
          if open' k.unit && !s.writeBlocked g ch d k.run k.off (d.dstOf k.run + k.off) k.data.length then some k else none

/-- A unit's first write is issued: S rises, and a channel whose level reaches HIGH is held (R228). -/
def State.unitStart (s : State) (g ch unit : Nat) : State :=
  match (s.chan g ch).act with
  | none => s
  | some x =>
    if x.started.contains unit ∨ unit < x.head then s else
    let x := { x with startedN := x.startedN + 1, started := x.started ++ [unit] }
    let s := s.modXfer g ch (fun _ => x)
    if (s.desc g ch).pace && decide (s.f F.DMA_CH_PACE_HIGH g ch ≤ x.level) then s.setChState g ch 2 else s

/-- A write burst goes out, with its mirror copies (R218, R336). -/
def State.writeGo (s : State) (g c : Nat) (w : DWrite) : State :=
  let d := s.desc g w.ch
  let unitEnd := w.kind != WriteKind.data ||
    (decide ((w.run + 1) % d.unitRuns = 0) && decide (d.runLen ≤ w.off + w.data.length))
  let m : Nat × State := match w.loc with
    | .mem k => s.mirrorSend k w.data w.poison (fun node => dmaKey g w.ch node 0) (.dma g w.ch w.id)
    | .remote node ra => (0, s.flowSend (dmaKey g w.ch node ra)
        [{ pkt := { type := tWrite, ctx := c, addr := ra, payload := w.data, poison := w.poison, last := unitEnd },
           refs := [{ op := .dma g w.ch w.id }], unit := if w.kind = WriteKind.data then some w.unit else none }])
    | .host _ _ => (0, s)
  let x := m.2.core g
  m.2.setCore g { x with
    writes := x.writes.filter (fun v => v.id ≠ w.id) ++
      [{ w with dups := m.1, rsp := none, dupFail := none, failed := none }] }

/-- A token of a scatter-append needs a page (R225, R249): one is taken, or the record stops with code 6 or 5. -/
def State.appendPage (s : State) (g ch : Nat) (d : Desc) (x : Xfer) (run : Nat) : State :=
  let c := x.who.c
  let j := (d.idx run).2.1
  match x.walk.recs.find? (fun e => e.1 = x.head) with
  | none => s
  | some (_, r) =>
    let n := r.tokens + j
    let seg := s.f F.KV_POOL_CFG_APPEND_SEG d.pool
    if r.cap ≤ n / 64 then s.modXfer g ch (fun x => { x with stop := some (j, 6) })
    else if !s.poolOn d.pool then s.chFault g ch 0x05 1 (r.list + 4 * (n / 64)) true
    else if c ≠ s.f F.KV_POOL_CFG_OWNER d.pool then s.chFault g ch 0x06 1 (r.list + 4 * (n / 64)) true
    else
      match s.allocPage d.pool seg (s.f F.KV_POOL_MARKS_RESERVE d.pool) with
      | (none, s) => s.modXfer g ch (fun x => { x with stop := some (j, 5) })
      | (some p, s) => s.modXfer g ch (fun x => { x with
          tokPages := SMap.set id none x.tokPages (n / 64) (some p), listDue := some (r.list + 4 * (n / 64), p) })

/-- The address of a write burst: that of a scatter-append's data is formed anew from its page (R185, R252). -/
def State.writeAddr (s : State) (g c : Nat) (w : DWrite) : Except Nat Nat :=
  let d := s.desc g w.ch
  match (s.chan g w.ch).act.bind (fun x => x.tokenOf d w.run) with
  | some (n, some p) => if d.op = 4 ∧ w.kind = .data then s.tokenAddr c d w.run n p w.off else .ok w.addr
  | _ => .ok w.addr

/-- A write burst is issued: translated and checked now (R185, R247), or the channel's fault. -/
def State.writeTry (s : State) (g c : Nat) (w : DWrite) : State :=
  let fail (e a : Nat) : State :=
    let x := s.core g
    (s.setCore g { x with writes := x.writes.filter (fun v => v.id ≠ w.id) ++ [{ w with addr := a, failed := some false }] }).chFault
      g w.ch e w.tries a true
  match s.writeAddr g c w with
  | .error e => fail e w.addr
  | .ok a =>
    match s.xlate g c a true .dma with
    | .error e => fail e a
    | .ok loc =>
      match s.writeCheck loc w.data.length (.store w.data.length) with
      | .error e => fail e a
      | .ok _ => s.writeGo g c { w with addr := a, loc := loc }

/-! ### A transfer that overlaps itself (R215) -/

/-- n bytes from a key as they were before the transfer wrote over them. -/
def State.readOld (s : State) (x : Xfer) (key n : Nat) : List Byte :=
  ((List.range n).zip (s.read key n)).map (fun e => ((SMap.get [] x.overwritten ((key + e.1) / 64))[(key + e.1) % 64]?).getD e.2)

/-- The granules of n bytes from a key are about to be written by the transfer of a channel. -/
def State.saveOver (s : State) (g ch key n : Nat) : State :=
  s.modXfer g ch (fun x => { x with overwritten := (List.range (ceilDiv (key % 64 + n) 64)).foldl (fun m i =>
    let q := key / 64 + i
    if (SMap.get [] m q).isEmpty then SMap.set id [] m q (s.read (64 * q) 64) else m) x.overwritten })

/-- Parts of n bytes from a key, cut at the 64 B granules. -/
def granuleParts (key n : Nat) : List (Nat × Nat) :=
  (List.range (ceilDiv (key % 64 + n) 64)).map (fun i =>
    let lo := if i = 0 then 0 else 64 * i - key % 64
    (lo, min n (64 * (i + 1) - key % 64) - lo))

/-- The bytes that a write burst carries from read burst b to key dk. Where the transfer writes over its own source, each
64 B granule of the destination takes the bytes as read, the old source bytes or the new ones: a free choice (log entry
2), and so is the order in which a burst's granules meet. -/
def State.overlapped (s : State) (g ch : Nat) (b : Burst) (dk off : Nat) (data : List Byte) : List Byte × State :=
  match (s.chan g ch).act, b.loc.key with
  | some x, some sk =>
    let d := s.desc g ch
    let at' := off - b.off
    let live := (s.core g).writes.filterMap (fun w => if w.ch = ch then w.loc.key.map (fun k => (k, w.data)) else none)
    let touched (p : Nat × Nat) : Bool :=
      let a := sk + at' + p.1
      overlap a p.2 dk data.length || live.any (fun e => overlap a p.2 e.1 e.2.length) ||
        (List.range (ceilDiv (a % 64 + p.2) 64)).any (fun i => !(SMap.get [] x.overwritten (a / 64 + i)).isEmpty)
    let parts := granuleParts dk data.length
    if b.poison || !parts.any touched then (data, s) else
    let up := Config.freeBool s.freeCtr
    let old := (d.form b (s.readOld x sk b.len)).drop at'
    let start : Mem := live.foldl (fun m e => m.write e.1 e.2) s.mem
    let numbered := (List.range parts.length).zip parts
    let out := (if up then numbered else numbered.reverse).foldl (fun (acc : List (List Byte) × Mem) e =>
      let p := e.2
      let take (bs : List Byte) : List Byte := (bs.drop p.1).take p.2
      let bs := if !touched p || Config.freeBool (s.freeCtr + 1 + 2 * e.1) then take data
        else if Config.freeBool (s.freeCtr + 2 + 2 * e.1) then take old
        else take ((d.form b (acc.2.read sk b.len)).drop at')
      (acc.1 ++ [bs], acc.2.write (dk + p.1) bs)) ([], start)
    ((if up then out.1 else out.1.reverse).flatten, s.useFree (1 + 2 * parts.length))
  | _, _ => (data, s)

/-- The data of a candidate, as its destination decides (R215). -/
def State.candData (s : State) (g ch c : Nat) (k : WriteCand) : List Byte × State :=
  match k.addr, k.src.bind (fun id => (s.core g).bursts.find? (fun b => b.id = id)) with
  | .ok a, some b =>
    match s.xlate g c a true .dma with
    | .ok loc => (loc.key.map (fun dk => s.overlapped g ch b dk k.off k.data)).getD (k.data, s)
    | .error _ => (k.data, s)
  | _, _ => (k.data, s)

/-- A candidate issued. -/
def State.writeIssue (s : State) (g ch : Nat) (k : WriteCand) : State :=
  match (s.chan g ch).act with
  | none => s
  | some x =>
    let c := x.who.c
    let d := s.desc g ch
    let u := s.core g
    let s := s.setCore g { u with lastWrite := ch }
    let needs := match k.kind, d.op, x.tokenOf d k.run with
      | .data, 4, some (_, none) => true
      | _, _, _ => false
    if needs then s.appendPage g ch d x k.run else
    let (bs, s) := s.candData g ch c k
    let s := s.setCore g { s.core g with seq := u.seq + 1 }
    let s := match k.src, k.kind with
      | some id, _ => s.modBurst g id (fun b => { b with sent := b.sent + k.data.length })
      | none, .list => s.modXfer g ch (fun x => { x with listDue := none })
      | none, .tokens => s.modXfer g ch (fun x => { x with tokDone := true })
      | none, .data => s.modXfer g ch (fun x =>
          let past := decide (d.runLen ≤ k.off + k.data.length)
          { x with ownRun := if past then k.run + 1 else k.run, ownOff := if past then 0 else k.off + k.data.length })
    let s := if k.kind = .data then s.unitStart g ch k.unit else s
    s.writeTry g c { id := u.seq, ch := ch, kind := k.kind, src := k.src, unit := k.unit, run := k.run, off := k.off,
                     addr := k.addr.toOption.getD 0, loc := .mem 0, data := bs, poison := k.poison }

/-- A failed write that RESTART has released is issued again, first of all (R235). -/
def State.writeRedo (s : State) (g ch : Nat) : Option DWrite :=
  if s.chState g ch ≠ 1 || s.dmaStopped g then none
  else (s.core g).writes.find? (fun w => w.ch == ch && w.failed == some false)

/-- DMA_WRITE_BURST_ISSUE (R216, R217): one write burst, its channel picked by round robin. -/
def execDmaWriteBurstIssue (g : Nat) (s : State) : Host.Outcome State Fault Refusal :=
  match roundRobin (s.core g).lastWrite (fun ch => (s.writeRedo g ch).isSome || (s.writeCand g ch).isSome) with
  | none => .next s
  | some ch =>
    let c := ((s.chan g ch).act.map (·.who.c)).getD 0
    match s.writeRedo g ch, s.writeCand g ch with
    | some w, _ => .next ((s.setCore g { s.core g with lastWrite := ch }).writeTry g c { w with tries := w.tries + 1 })
    | none, some k => .next (s.writeIssue g ch k)
    | none, none => .next s

/-- A write burst has failed (R234). -/
def State.writeFail (s : State) (g : Nat) (w : DWrite) (cause : Nat) : State :=
  let mark (r : Bool) (s : State) : State :=
    let x := s.core g
    s.setCore g { x with writes := x.writes.map (fun v => if v.id = w.id then { v with failed := some r } else v) }
  if s.chState g w.ch = 3 then
    let x := s.core g
    (s.setCore g { x with writes := x.writes.filter (fun v => v.id ≠ w.id) }).busError g w.ch cause w.tries w.addr true
  else if s.mayRetry g w.again then mark true s
  else (mark false s).busError g w.ch cause w.tries w.addr true

/-- A write burst is done (R218): its bytes are delivered, its entry released, its unit credited. -/
def State.writeDone (s : State) (g : Nat) (w : DWrite) : State :=
  let x := s.core g
  let s := s.setCore g { x with writes := x.writes.filter (fun v => v.id ≠ w.id) }
  let d := s.desc g w.ch
  match w.kind with
  | .list => s
  | .tokens =>
    match (s.chan g w.ch).act.bind (·.stop) with
    | some (_, code) => if s.chState g w.ch = 1 ∨ s.chState g w.ch = 2 then s.chanEnd g w.ch code else s
    | none => s.credit g w.ch w.unit 1
  | .data =>
    let n := w.data.length
    let s := s.modXfer g w.ch (fun x =>
      let x := { x with bytes := x.bytes + n, bad := x.bad || w.poison }
      if d.op = 5 ∧ d.toRows then x else x.deliver d.runLen w.run w.off w.data)
    match w.src with
    | none => s.credit g w.ch w.unit n
    | some id =>
      match (s.core g).bursts.find? (fun b => b.id = id) with
      | none => s
      | some b =>
        if b.data.length ≤ b.acked + n then
          (s.dropBurst g id).credit g w.ch w.unit (if d.op = 5 ∧ d.toRows then b.len else b.data.length)
        else s.modBurst g id (fun b => { b with acked := b.acked + n })

/-- How a write burst ends: with its own error, its target's status, or that of a mirror copy. -/
def DWrite.endOf (w : DWrite) (err : MemErr) : ReadEnd :=
  match w.loc.key, err with
  | some _, .bus cause => .bus cause
  | some _, _ => (match w.dupFail with
    | none => .data []
    | some e => dmaStatus e)
  | none, _ => if w.rsp.elim 0 (·.status) = 0 then .data [] else dmaStatus (w.rsp.elim 0 (·.status))

/-- DMA_WRITE_ACK (R218): write burst n of the core is acknowledged, or fails; a local write lands then. -/
def execDmaWriteAck (g n : Nat) (err : MemErr) (s : State) : Host.Outcome State Fault Refusal :=
  match (s.core g).writes[n]? with
  | none => .next s
  | some w =>
    if w.failed.isSome ∨ w.dups ≠ 0 ∨ (w.loc.key.isNone ∧ w.rsp.isNone) then .next s else
    let err := s.errAt w.loc err
    let res := w.endOf err
    let s := match w.loc.key, err with
      | some _, .bus _ => s
      | some k, _ => (if w.src.isSome then s.saveOver g w.ch k w.data.length else s).store k w.data w.poison
      | none, _ => s
    match res with
    | .data _ => .next (s.writeDone g w)
    | .fault code =>
      let x := s.core g
      .next ((s.setCore g { x with writes := x.writes.map (fun v => if v.id = w.id then { v with failed := some false } else v) }).chFault
        g w.ch code w.tries w.addr true)
    | .bus cause => .next (s.writeFail g w cause)
    | .poison => .next s

/-- DMA_BURST_RETRY (R234): a failed burst of the channel is issued again. -/
def execDmaBurstRetry (g ch : Nat) (s : State) : Host.Outcome State Fault Refusal :=
  let st := s.chState g ch
  let c := ((s.chan g ch).act.map (·.who.c)).getD 0
  if (st ≠ 1 ∧ st ≠ 2) || s.dmaStopped g then .next s else
  match (s.core g).bursts.find? (fun b => b.ch == ch && b.st == .retry),
    (s.core g).writes.find? (fun w => w.ch == ch && w.failed == some true) with
  | some b, _ =>
    if 512 ≤ (s.core g).bufReads then .next s else
    let b := { b with tries := b.tries + 1, again := b.again + 1 }
    .next (((s.retryCount g ch).modBurst g b.id (fun _ => b)).burstGo g c b (s.againAddr g c b))
  | none, some w => .next ((s.retryCount g ch).writeTry g c { w with tries := w.tries + 1, again := w.again + 1 })
  | none, none => .next s

/-- DMA_PACE_COUNTER_SEEN (R228): the channel sees the counter word as it stands. -/
def execDmaPaceCounterSeen (g ch : Nat) (s : State) : Host.Outcome State Fault Refusal :=
  match (s.chan g ch).act with
  | none => .next s
  | some x =>
    if (s.desc g ch).pace then
      .next ((s.modXfer g ch (fun x' => { x' with seen := s.paceWord g x.who.c ch })).paceOpen g ch)
    else .next s

/-! ### Instructions (R208, R210, R212, R229, R236, R241) -/

/-- DLD (R210, R213): RA holds the descriptor's address. -/
def execDld (g c k : Nat) (s : State) : Host.Outcome State Fault Refusal :=
  .next (s.issue g c k .dld (fun s d =>
    let t := s.strand g c k
    let ch := d.f35
    let a := (t.rd d.rd).toNat
    if s.chOwner g ch ≠ c then s.raise g c k 0x0A a
    else if s.shadow g ch ≠ 0 then s
    else match s.operandKey g c a 64 with
    | none => s.raise g c k 0x0A a
    | some key =>
      if s.poisoned key 64 then s.raise g c k 0x0D a else
      let ws : Desc := (List.range 8).map (fun i => BitVec.ofNat 64 (s.readN (key + 8 * i) 8))
      if !s.descOk c ws then s.raise g c k 0x0A a
      else
        let s := iter 8 (fun i s => s.setReg ⟨.DMA_CH_SHD, g, ch, i⟩ (ws.w i)) s
        (s.setF F.DMA_CH_STATUS_SHADOW 1 g ch).retire g c k t))

/-- DGO (R210, R229): a loaded shadow set is queued. -/
def execDgo (g c k : Nat) (s : State) : Host.Outcome State Fault Refusal :=
  .next (s.issue g c k .dgo (fun s d =>
    let t := s.strand g c k
    let ch := d.f35
    let ws := s.shdDesc g ch
    let pa := s.f F.DMA_CH_PACE_ADDR_ADDR g ch
    if s.chOwner g ch ≠ c ∨ s.shadow g ch ≠ 1 then s.raise g c k 0x0A
    else if ws.pace && (decide (pa % 8 ≠ 0) || (s.winKey g c pa 8).isNone) then s.raise g c k 0x0A pa
    else
      let chk := ws.op == 0 && s.stepOpen c && bitN (s.trnF F.TRN_STEP_CFG_CHK_CHANNELS c) ch
      let s := s.setChan g ch { s.chan g ch with whoQ := some (t.who c k, chk), shd := {} }
      (s.setF F.DMA_CH_STATUS_SHADOW 2 g ch).retire g c k t))

/-- A transfer starts to stop (Table DMA-8): bursts whose data is not on its way to its destination are dropped. -/
def State.chStop (s : State) (g ch ending : Nat) : State :=
  let x := s.core g
  let s := s.setCore g { x with
    bursts := x.bursts.filter (fun b => decide (b.ch ≠ ch) || b.next || b.st == .reading ||
      (b.st == .ready && decide (b.data.length ≤ b.sent)))
    writes := x.writes.filter (fun w => decide (w.ch ≠ ch) || w.failed.isNone) }
  (s.modXfer g ch (fun x => { x with ending := if x.ending = 7 then 7 else ending })).setChState g ch 3

/-- DSTOP (R236): a running or held channel stops with code 2, one in error with code 3; the shadow set is emptied. -/
def State.dstop (s : State) (g ch : Nat) : State :=
  match s.chState g ch with
  | 1 => (s.shadowEmpty g ch).chStop g ch 2
  | 2 => (s.shadowEmpty g ch).chStop g ch 2
  | 4 => (s.shadowEmpty g ch).chStop g ch 3
  | _ => s

/-- DSTOP: no effect on another context's channel (R208). -/
def execDstop (g c k : Nat) (s : State) : Host.Outcome State Fault Refusal :=
  .next (s.issue g c k .dstop (fun s d =>
    (if s.chOwner g d.f35 = c then s.dstop g d.f35 else s).retire g c k (s.strand g c k)))

/-- DSTAT (R208, R241): the channel status word. -/
def execDstat (g c k : Nat) (s : State) : Host.Outcome State Fault Refusal :=
  .next (s.issue g c k .dstat (fun s d =>
    s.retireB g c k d.rd (if s.chOwner g d.f35 = c then s.reg ⟨.DMA_CH_STATUS, g, d.f35, 0⟩ else 0x80) 4))

/-! ### Other events -/

/-- SHADOW_ACTIVATION (R210, R228, R233): a queued shadow set becomes active on an idle channel. -/
def execShadowActivation (g ch : Nat) (s : State) : Host.Outcome State Fault Refusal :=
  match (s.chan g ch).whoQ with
  | none => .next s
  | some (w, chk) =>
    if s.shadow g ch ≠ 2 ∨ s.chState g ch ≠ 0 ∨ s.dmaStopped g then .next s else
    let x := s.chan g ch
    let s := ((List.range 8).zip activeRegs).foldl (fun s e => s.setReg ⟨e.2, g, ch, 0⟩ (s.reg ⟨.DMA_CH_SHD, g, ch, e.1⟩)) s
    let s := iter 8 (fun i s => s.setReg ⟨.DMA_CH_SHD, g, ch, i⟩ 0) s
    let s := (s.setF F.DMA_CH_STATUS_SHADOW 0 g ch).setChState g ch 1
    let s := (s.setF F.DMA_CH_DONE_UNITS 0 g ch).setF F.DMA_CH_STATUS_UNITS 0 g ch
    let v := s.paceWord g w.c ch
    let s := s.setChan g ch { act := some { who := w, chk := chk, walk := x.shd, c0 := v, seen := v } }
    let u := s.core g
    .next (s.setCore g { u with bursts := u.bursts.map (fun b => if b.ch = ch then { b with next := false } else b) })

/-- CHANNEL_DRAINED (R236): a stopping channel with no burst in flight goes idle. -/
def execChannelDrained (g ch : Nat) (s : State) : Host.Outcome State Fault Refusal :=
  let x := s.core g
  if s.chState g ch ≠ 3 || x.bursts.any (fun b => b.ch == ch && !b.next && b.st == .reading) ||
    x.writes.any (fun w => w.ch == ch) then .next s
  else .next (s.chanEnd g ch (((s.chan g ch).act.map (·.ending)).getD 2))

/-- A channel leaves error by RESTART (R235): a transfer that was stopping goes on stopping, a scatter-append whose last
TOKENS write has landed ends, and the others run on. -/
def State.chRestart (s : State) (g ch : Nat) : State :=
  if s.chState g ch ≠ 4 then s else
  match (s.chan g ch).act with
  | none => s.setChState g ch 0
  | some x =>
    let s := s.setChState g ch (if x.ending = 0 then 1 else 3)
    match x.stop with
    | some (_, code) =>
      if x.ending = 0 ∧ x.tokDone ∧ !(s.core g).writes.any (fun w => w.ch == ch) then s.chanEnd g ch code else s
    | none => State.chanAdvance ((s.desc g ch).units + 1) g ch s

/-- DMA_CH_RESTART (R235): no effect while a stop of the core is in force. -/
def execDmaChRestart (g ch : Nat) (s : State) : Host.Outcome State Fault Refusal :=
  .next (if s.dmaStopped g then s else s.chRestart g ch)

/-- A channel in error is aborted with code 3 (R235). -/
def State.chAbort (s : State) (g ch : Nat) : State := if s.chState g ch = 4 then s.chStop g ch 3 else s

/-- DMA_CH_ABORT (R235). -/
def execDmaChAbort (g ch : Nat) (s : State) : Host.Outcome State Fault Refusal := .next (s.chAbort g ch)

/-- RESTART_ALL (R233, R235). -/
def execRestartAll (g : Nat) (s : State) : Host.Outcome State Fault Refusal :=
  .next (iter 16 (fun ch s => s.chRestart g ch) (s.setF F.DMA_STOPPED_STOPPED 0 g))

/-- ABORT_ALL (R235). -/
def execAbortAll (g : Nat) (s : State) : Host.Outcome State Fault Refusal :=
  .next (iter 16 (fun ch s => s.chAbort g ch) (s.setF F.DMA_STOPPED_STOPPED 0 g))

/-- DMA_CH_PACE_WRITE (R229): no effect where it would break 0 ≤ LOW < HIGH. -/
def execDmaChPaceWrite (g ch : Nat) (v : Word) (s : State) : Host.Outcome State Fault Refusal :=
  .next (if bits v 16 16 < bits v 0 16 then
    ((s.setF F.DMA_CH_PACE_HIGH (bits v 0 16) g ch).setF F.DMA_CH_PACE_LOW (bits v 16 16) g ch).paceOpen g ch else s)

/-- DMA_CH_PACE_ADDR_WRITE (R229): only while the channel is idle and its shadow set is not queued. -/
def execDmaChPaceAddrWrite (g ch : Nat) (v : Word) (s : State) : Host.Outcome State Fault Refusal :=
  .next (if s.chState g ch = 0 ∧ s.shadow g ch ≠ 2 then s.setF F.DMA_CH_PACE_ADDR_ADDR v.toNat g ch else s)

/-- The channels of a discarded or unloaded context on core g (R211): code 7, no token, shadow sets emptied. -/
def State.dmaDiscard (s : State) (g c : Nat) : State :=
  iter 16 (fun ch s =>
    if s.chOwner g ch ≠ c then s else
    let s := s.shadowEmpty g ch
    if s.chState g ch = 0 then s else s.chStop g ch 7) s

end Sys2Proof.Machine
end

