-- ==== Sys2Proof/Machine/Context.lean ====
section
/-! DEFINITION. Contexts: what discarding and unloading empty, program images and loading, the block table, and the
registers of a context that CRD, CWR and the hosts reach (R51, R87, R89 to R96). -/

namespace Sys2Proof.Machine

def State.svc (s : State) (c : Nat) : Svc := SMap.get {} s.svcs c

def State.setSvc (s : State) (c : Nat) (x : Svc) : State := { s with svcs := SMap.set id {} s.svcs c x }

/-! ### Emptying a context -/

/-- Context c is empty on core g: its strands, engine instructions, brackets, accumulators, traverse entries and channels
there are given up (R94, R149, R211). Scalar requests and spur operations that it has issued hold their slots and entries
until they complete (R27, R65, R74), and a load in progress goes on (R92). -/
def State.ctxEmpty (s : State) (g c : Nat) : State :=
  let s := (s.trvReset g c).dmaDiscard g c
  let s := s.setCtx g c { load := (s.ctx g c).load }
  let s := iter 8 (fun k s => s.freeStrand g c k) s
  let x := s.core g
  let s := s.setCore g { x with
    mtxq := x.mtxq.filter (fun o => o.who.c ≠ c)
    vecq := x.vecq.filter (fun o => o.who.c ≠ c) }
  let s := iter 2 (fun k s => ((s.setBracket g c k none).setReg ⟨.MTX_LAYER, g, c, k⟩ 0).setAcc g c k 0 []) s
  { s with accSrc := s.accSrc.filter (fun e => !decide (e.1.1 = g ∧ e.1.2.1 = c))
           watch := s.watch.filter (fun e => e.1 ≠ (g, c))
           stalled := s.stalled.filter (fun e => e ≠ (g, c)) }

/-- The bytes of a host tag in a slot's entry. -/
def entryTag (bs : List Byte) : List Byte := (bs.drop 4).take 4

/-- The key of byte o of service slot i. -/
def State.svcKey (s : State) (c i o : Nat) : Nat := hbmKey (s.f F.HIF_SVC_BASE_ADDR c + 128 * i + o)

/-- The requests of a discarded or unloaded context, queued and in slots, complete with status 6 at the next tick; its
slots turn free (Table HOST-7, R356). -/
def State.svcCancel (s : State) (c : Nat) : State :=
  let x := s.svc c
  let slots := x.slots.map (fun e => ({ port := e.2.1, order := 1, slot := e.1, tag := e.2.2, status := 6, op := 1 } : Cpl))
  let queue := x.queue.map (fun r => ({ port := r.port, order := 1, slot := 4096, tag := entryTag r.bytes, status := 6, op := 1 } : Cpl))
  let s := x.slots.foldl (fun s e => s.writeN (s.svcKey c e.1 0x40) 4 0) s
  let s := s.setSvc c { x with queue := [], slots := [], cpls := x.cpls ++ slots ++ queue }
  (s.setF F.HIF_SVC_STAT_ADMITTED 0 c).setF F.FRM_IN_LEVEL_LEVEL 0 c

/-- DISCARD (R51, R89, R276): the context is empty on every core; it is no longer halted, but after a fatal error (R370). -/
def State.discard (s : State) (c : Nat) : State :=
  let s := (s.ctxs.filter (fun e => e.1.2 = c)).foldl (fun s e => s.ctxEmpty e.1.1 c) s
  let s := ((s.colDiscard c).trnDiscard c).svcCancel c
  let s := s.setMod c {}
  let s := s.setF F.FRM_WDOG_HALT_HALTED 0 c
  if s.f F.ERR_FATAL_CODE = 0 then s.setF F.CORE_CTX_HALT_HALTED 0 c else s

/-- UNLOAD on core g (R94): of a loaded or halted context; with the last core the context itself is unloaded. -/
def State.unload (s : State) (g c : Nat) : State :=
  let x := s.ctx g c
  if !(decide (x.phase = .loaded) || decide (x.phase = .running) && s.halted c) || s.f F.CORE_LOAD_STATUS_STATE g c == 1 then s else
  let s := s.ctxEmpty g c
  if s.ctxs.any (fun e => decide (e.1.2 = c) && decide (e.2.phase ≠ .empty)) then s else s.svcCancel c

/-- UNLOAD. -/
def execUnload (g c : Nat) (s : State) : Host.Outcome State Fault Refusal := .next (s.unload g c)

/-- FRM_CTX_RESUME (R51): due at the next tick. -/
def execFrmCtxResume (c : Nat) (s : State) : Host.Outcome State Fault Refusal :=
  if !s.fb F.FRM_WDOG_HALT_HALTED c then .next s else .next (s.setMod c { s.mod c with resumeW := true })

/-- FRM_CTX_DISCARD (R51). -/
def execFrmCtxDiscard (c : Nat) (s : State) : Host.Outcome State Fault Refusal :=
  if !s.fb F.FRM_WDOG_HALT_HALTED c then .next s else .next (s.discard c)

/-- CORE_CTX_RESUME (R89, R96): due at the next tick; never after a fatal error (R370). -/
def execCoreCtxResume (c : Nat) (s : State) : Host.Outcome State Fault Refusal :=
  if !s.fb F.CORE_CTX_HALT_HALTED c || s.f F.ERR_FATAL_CODE != 0 then .next s
  else .next (s.setMod c { s.mod c with resumeF := true })

/-- CORE_CTX_DISCARD (R89, R96). -/
def execCoreCtxDiscard (c : Nat) (s : State) : Host.Outcome State Fault Refusal :=
  if !s.fb F.CORE_CTX_HALT_HALTED c then .next s else .next (s.discard c)

/-- A context resumes at a tick (R51, R89): its open frames count as closed; after a fault the strand that faulted is
free. -/
def State.resumeCtx (s : State) (c : Nat) : State :=
  let m := s.mod c
  let s := if m.resumeW then s.setF F.FRM_WDOG_HALT_HALTED 0 c else s
  let s := if m.resumeF then s.setF F.CORE_CTX_HALT_HALTED 0 c else s
  let s := s.setMod c {}
  if s.halted c then s else
  let s := (s.ctxs.filter (fun e => e.1.2 = c)).foldl (fun s e => s.setCtx e.1.1 c { e.2 with frames := [] }) s
  (s.strands.filter (fun e => e.1.2.1 = c && e.2.faulted)).foldl (fun s e => s.freeStrand e.1.1 c e.1.2.2) s

/-! ### Program images (R90 to R93) -/

/-- The header of an image (Table ISA-16). -/
structure Image where
  addr : Nat
  magic : Nat
  version : Nat
  blocks : Nat
  codeLen : Nat
  scratchLen : Nat
  digest : Nat
  scratchOff : Nat
  units : Nat
  rest : List Byte
  deriving DecidableEq, Repr

def State.image (s : State) (a : Nat) : Image :=
  let n (o len : Nat) : Nat := s.readN (hbmKey (a + o)) len
  ⟨a, n 0 4, n 4 2, n 6 2, n 8 4, n 0xC 4, n 0x10 8, n 0x18 4, n 0x1C 2, s.read (hbmKey (a + 0x1E)) 34⟩

/-- The bytes of an image. -/
def Image.size (m : Image) : Nat := 0x40 + 32 * m.blocks + 8 * m.codeLen + m.scratchLen

/-- Word w of block table entry b of an image. -/
def State.imageBlk (s : State) (m : Image) (b w : Nat) : Word := BitVec.ofNat 64 (s.readN (hbmKey (m.addr + 0x40 + 32 * b + 8 * w)) 8)

/-- The reserved fields of a block table entry (Table ISA-17) are 0. -/
def blkReservedOk (w0 w1 w3 : Word) : Bool :=
  bits w0 15 1 == 0 && bits w0 31 33 == 0 && (List.range 4).all (fun j => bits w1 (16 * j + 5) 3 == 0) && w3 == 0

/-- An entry of a block table, as loaded or committed. -/
def Block.ofWords (w0 w1 w2 w3 : Word) : Block := { w0 := w0, w1 := w1, w2 := w2, w3 := w3, armed := bit w0 29 }

/-- The blocks of an image. -/
def State.imageBlocks (s : State) (m : Image) : List Block :=
  (List.range m.blocks).map (fun b => Block.ofWords (s.imageBlk m b 0) (s.imageBlk m b 1) (s.imageBlk m b 2) (s.imageBlk m b 3))

/-- CRC-64/XZ over the image with DIGEST taken as zero. -/
def State.imageDigest (s : State) (m : Image) : Nat :=
  (crc64 (s.read (hbmKey m.addr) 0x10 ++ zeroBytes 8 ++ s.read (hbmKey (m.addr + 0x18)) (m.size - 0x18))).toNat

/-- Region of a context: first unit and units. -/
def State.region (s : State) (g c : Nat) : Nat × Nat := (s.f F.CORE_CTX_ISTORE_BASE g c, s.f F.CORE_CTX_ISTORE_SIZE g c)

/-- Table ISA-18: the error of an image for context c on core g; 0 for none. Code 8 goes before all, then the lowest. -/
def State.loadError (s : State) (g c addr : Nat) (err : MemErr) : Nat :=
  let m := s.image addr
  let (base, size) := s.region g c
  let clash (d : Nat) : Bool :=
    let (b, n) := s.region g d
    decide (d ≠ c) && s.occupied g d && decide (base < b + n) && decide (b < base + size)
  let bad := match err with
    | .uncorrectable => true
    | .bus _ => true
    | _ => false
  if bad || decide (hbmSize < addr + m.size) || s.poisoned (hbmKey addr) m.size then 8
  else if m.magic ≠ 0x4D494D4B ∨ m.version ≠ 1 ∨ m.rest.any (· ≠ 0) ∨
      (List.range m.blocks).any (fun b => !blkReservedOk (s.imageBlk m b 0) (s.imageBlk m b 1) (s.imageBlk m b 3)) then 1
  else if s.imageDigest m ≠ m.digest then 2
  else if m.blocks = 0 ∨ 512 < m.blocks ∨ m.codeLen = 0 ∨ 32768 < m.codeLen ∨ size < m.units ∨ 32 < base + size then 3
  else if (s.imageBlocks m).any (fun b => decide (m.codeLen ≤ b.entry + b.lenM1)) then 4
  else if (s.imageBlocks m).any (fun b => (List.range 4).all (fun j => b.thr j == 0)) then 5
  else if m.scratchLen % 64 ≠ 0 ∨ m.scratchOff % 64 ≠ 0 ∨ s.f F.PLC_WIN_SIZE c * 65536 < m.scratchOff + m.scratchLen then 6
  else if s.occupied g c || (List.range 4).any clash then 7
  else 0

/-- LOAD_GO (R92, R94): a load begins, unless one is in progress. -/
def State.loadGo (s : State) (g c : Nat) : State :=
  if s.f F.CORE_LOAD_STATUS_STATE g c = 1 then s else
  let a := s.f F.CORE_LOAD_ADDR_ADDR g c
  let s := (s.setF F.CORE_LOAD_STATUS_STATE 1 g c).setF F.CORE_LOAD_STATUS_ERROR 0 g c
  s.setCtx g c { s.ctx g c with load := some (a / 64 * 64) }

/-- LOAD_GO. -/
def execLoadGo (g c : Nat) (s : State) : Host.Outcome State Fault Refusal := .next (s.loadGo g c)

/-- The load succeeds (R93): code, block table and scratchpad data are written, counters, ticks and marks cleared, the
strands freed, the context loaded. -/
def State.loadWrite (s : State) (g c addr : Nat) : State :=
  let m := s.image addr
  let code := hbmKey (addr + 0x40 + 32 * m.blocks)
  let base := s.f F.CORE_CTX_ISTORE_BASE g c * 8192
  let s := s.write (istoreKey g base) ((s.read code (8 * m.codeLen)).take (262144 - base))
  let s : State := { s with badInstr := s.badInstr.filter (fun k =>
    !(decide (istoreKey g base ≤ k) && decide (k < istoreKey g base + min (8 * m.codeLen) (262144 - base)))) }
  let s := s.write (spadKey g (s.f F.PLC_WIN_BASE c * 65536 + m.scratchOff)) (s.read (code + 8 * m.codeLen) m.scratchLen)
  let s := iter 32 (fun t s => s.setF F.CORE_TOKEN_COUNT 0 g c t) s
  let s := iter 8 (fun k s => s.freeStrand g c k) s
  let s := s.setF F.CORE_FIRES_COUNT 0 g c
  let t := s.trnOf c
  let s := s.setTrn c { t with seen := false }
  let s := iter 8 (fun p s => s.setReg ⟨.TRN_ALT_RUN, c, p, 0⟩ 0) s
  s.setCtx g c { phase := .loaded, blocks := (s.imageBlocks m).map (fun b => { b with since := s.clk.now }), codeLen := m.codeLen, born := (s.core g).seq }

/-- LOAD_DONE (R93): the image is read and checked, then loaded or refused. -/
def execLoadDone (g c : Nat) (err : MemErr) (s : State) : Host.Outcome State Fault Refusal :=
  match (s.ctx g c).load with
  | none => .next s
  | some addr =>
    let s := s.setCtx g c { s.ctx g c with load := none }
    let s := s.memErr (hbmKey addr) err
    let e := s.loadError g c addr err
    if e ≠ 0 then
      .next (((s.setF F.CORE_LOAD_STATUS_STATE 3 g c).setF F.CORE_LOAD_STATUS_ERROR e g c).event F.CORE_EVENT_LOAD_ERR 0 g c)
    else
      .next (((s.loadWrite g c addr).setF F.CORE_LOAD_STATUS_STATE 2 g c).event F.CORE_EVENT_LOAD_DONE 0 g c)

/-! ### The block table and tokens (R94, R96) -/

/-- The context is loaded or halted on the core, so that its block table and tokens may be written. -/
def State.btOpen (s : State) (g c : Nat) : Bool := s.occupied g c && (decide ((s.ctx g c).phase = .loaded) || s.halted c)

/-- The words of an entry that software reads: those in effect, 0 past the image's BLOCKS. -/
def State.btRead (s : State) (g c w : Nat) : Word :=
  let b := (s.ctx g c).blk (s.f F.CORE_BT_INDEX_BLOCK g c)
  match w with
  | 0 => b.w0
  | 1 => b.w1
  | 2 => b.w2
  | _ => b.w3

/-- CORE_BT_INDEX_WRITE: every pending word is discarded. -/
def execCoreBtIndexWrite (g c : Nat) (v : Word) (s : State) : Host.Outcome State Fault Refusal :=
  .next ((s.setF F.CORE_BT_INDEX_BLOCK v.toNat g c).setCtx g c { s.ctx g c with btPend := [] })

/-- CORE_BT_DATA_STAGE: word w, 0 to 2, is pending. -/
def State.btStage (s : State) (g c w : Nat) (v : Word) : State :=
  if !s.btOpen g c then s
  else s.setCtx g c { s.ctx g c with btPend := (s.ctx g c).btPend.filter (fun e => e.1 ≠ w) ++ [(w, v)] }

/-- CORE_BT_DATA_STAGE. -/
def execCoreBtDataStage (g c w : Nat) (v : Word) (s : State) : Host.Outcome State Fault Refusal :=
  if w < 3 then .next (s.btStage g c w v) else .next s

/-- CORE_BT_DATA3_COMMIT: the entry takes its pending words and word 3; firing count, mark and a waiting firing stay. -/
def State.btCommit (s : State) (g c : Nat) (v : Word) : State :=
  if !s.btOpen g c then s else
  let x := s.ctx g c
  let n := s.f F.CORE_BT_INDEX_BLOCK g c
  let word (w : Nat) (old : Word) : Word := ((x.btPend.find? (fun e => e.1 = w)).map (·.2)).getD old
  s.setCtx g c { x with
    btPend := []
    blocks := modAt x.blocks n (fun b =>
      let b' := Block.ofWords (word 0 b.w0) (word 1 b.w1) (word 2 b.w2) v
      { b' with fires := b.fires, mark := b.mark, since := if b.armed then b.since else s.clk.now }) }

/-- CORE_BT_DATA3_COMMIT. -/
def execCoreBtData3Commit (g c : Nat) (v : Word) (s : State) : Host.Outcome State Fault Refusal := .next (s.btCommit g c v)

/-- CORE_TOKEN_WRITE: of a loaded or halted context; T28 is read-only. -/
def State.tokenWrite (s : State) (g c t : Nat) (v : Word) : State :=
  if s.btOpen g c && t != 28 then s.setF F.CORE_TOKEN_COUNT (bits v 0 12) g c t else s

/-- CORE_TOKEN_WRITE. -/
def execCoreTokenWrite (g c t : Nat) (v : Word) (s : State) : Host.Outcome State Fault Refusal := .next (s.tokenWrite g c t v)

/-! ### Registers as they read -/

/-- CORE_CTX_STATE.STATE: 0 empty, 1 loaded, 2 running, 3 halted. -/
def State.ctxState (s : State) (g c : Nat) : Nat :=
  match (s.ctx g c).phase with
  | .empty => 0
  | p => if s.halted c then 3 else if p = .loaded then 1 else 2

/-- FRM_TIME (R33): since the latest tick, while ticks run. -/
def State.frmTime (s : State) : Nat := if s.clk.running then s.clk.now - s.clk.tickTime else 0

/-- A queue's length and FULL bit in CORE_STATUS: the instructions not yet started, of 16. -/
def queueBits (n : Nat) : Nat := min n 15 + (if 16 ≤ n then 16 else 0)

/-- The value a register reads, where the module makes it up from its state; the stored word otherwise. -/
def State.regView (s : State) (r : Reg) : Word :=
  match r.name with
  | .FRM_COUNT => BitVec.ofNat 64 s.clk.frame
  | .FRM_TIME => BitVec.ofNat 64 s.frmTime
  | .FRM_TICK_TIME => BitVec.ofNat 64 s.clk.tickTime
  | .FRM_NOW => BitVec.ofNat 64 s.clk.now
  | .CORE_CYCLES => BitVec.ofNat 64 (s.coreCycles r.i)
  | .CORE_IDLE_CYCLES => BitVec.ofNat 64 (s.idleCycles r.i r.j)
  | .COL_WAIT_CYCLES => BitVec.ofNat 64 (s.waitCycles r.i r.j)
  | .CORE_ID => BitVec.ofNat 64 (s.physCore r.i + r.i * 2 ^ 16)
  | .CORE_STATUS =>
    BitVec.ofNat 64 (s.ownerOf r.i + queueBits ((s.core r.i).mtxq.filter (fun o => !o.started)).length * 2 ^ 8 +
      queueBits ((s.core r.i).vecq.filter (fun o => !o.started)).length * 2 ^ 16)
  | .CORE_SLOT_STAT =>
    setBits (setBits (s.reg r) 0 6 (s.core r.i).slots.length) 8 6 (s.core r.i).sideq.length
  | .CORE_CTX_STATE =>
    BitVec.ofNat 64 (s.ctxState r.i r.j +
      ((List.range 8).filter (fun k => (s.strand r.i r.j k).exec)).foldl (fun a k => a + 2 ^ (8 + k)) 0 +
      (s.ctx r.i r.j).ready.length * 2 ^ 16 + (s.waiting r.i r.j).length * 2 ^ 32)
  | .CORE_BT_DATA0 => s.btRead r.i r.j 0
  | .CORE_BT_DATA1 => s.btRead r.i r.j 1
  | .CORE_BT_DATA2 => s.btRead r.i r.j 2
  | .CORE_BT_DATA3 => s.btRead r.i r.j 3
  | .CORE_TOKEN => if r.k = 28 then BitVec.ofNat 64 ((s.ctx r.i r.j).ticks % 4096) else s.reg r
  | .MTX_ACC_STATE =>
    let busy (a : Nat) : Nat := ((s.core r.i).mtxq.any (fun o => o.started && decide (o.who.c = r.j) && o.usesAcc && o.acc == a)).toNat
    setBits (setBits (s.reg r) 4 1 (busy 0)) 5 1 (busy 1)
  | .COL_CORE_BOOST => setBits (s.reg r) 5 1 (s.idleAtCol r.i).toNat
  | .NET_FLOW_STAT => BitVec.ofNat 64 (s.openFlows.length + s.rflows.length * 2 ^ 16)
  | .LIFE_UTC => BitVec.ofNat 64 s.stw.utc
  | .NET_MTU => setBits (s.reg r) 16 2 (payloadCode (s.f F.NET_MTU_MTU))
  | .DMA_BUF_STAT =>
    setBits (setBits (s.reg r) F.DMA_BUF_STAT_USED.lo F.DMA_BUF_STAT_USED.len (s.core r.i).bufUsed)
      F.DMA_BUF_STAT_READS.lo F.DMA_BUF_STAT_READS.len (s.core r.i).bufReads
  | .DMA_SPUR_STAT => setBits (s.reg r) F.DMA_SPUR_STAT_QUEUED.lo F.DMA_SPUR_STAT_QUEUED.len (s.core r.i).spurq.length
  | _ => s.reg r

/-- A register as it reads: WO fields read 0 (R12). -/
def State.regRead (s : State) (r : Reg) : Word :=
  r.name.info.fields.foldl (fun v x => if x.acc = .wo then setBits v x.lo x.len 0 else v) (s.regView r)

/-! ### CRD and CWR (R87) -/

/-- The register at offset 8 × id of context c's own CORE registers; none where the offset is reserved. -/
def ownReg (g c id : Nat) : Option Reg := regAt (0x1000000 + 0x10000 + 0x4000 * g + 0x1000 + 0x800 * c + 8 * id)

/-- Table ISA-14. -/
def State.crdValue (s : State) (g c k id : Nat) : Word :=
  match id with
  | 0x100 => BitVec.ofNat 64 s.clk.frame
  | 0x101 => BitVec.ofNat 64 s.frmTime
  | 0x102 => BitVec.ofNat 64 g
  | 0x103 => BitVec.ofNat 64 s.node
  | 0x104 => BitVec.ofNat 64 c
  | 0x105 => BitVec.ofNat 64 k
  | _ => BitVec.ofNat 64 (s.coreCycles g)

/-- CRD: RD ← the register or value of ID12; above 0x106 the configuration fault. -/
def execCrd (g c k : Nat) (s : State) : Host.Outcome State Fault Refusal :=
  .next (s.issue g c k .crd (fun s d =>
    if 0x106 < d.id12 then s.raise g c k 0x0E
    else if 0x100 ≤ d.id12 then s.retireB g c k d.rd (s.crdValue g c k d.id12) 4
    else s.retireB g c k d.rd (((ownReg g c d.id12).map s.regRead).getD 0) 4))

/-- The fields of a write that software sets: RW and RWS take the value, W1C bits that are 1 clear; others stay (R12). -/
def State.fieldsWrite (s : State) (r : Reg) (v : Word) : Word :=
  r.name.info.fields.foldl (fun w x =>
    match x.acc with
    | .rw => setBits w x.lo x.len (bits v x.lo x.len)
    | .rws => setBits w x.lo x.len (bits v x.lo x.len)
    | .w1c => setBits w x.lo x.len (bits (w &&& ~~~ v) x.lo x.len)
    | _ => w) (s.reg r)

/-- A write to one of a context's own registers, with what it does besides (R92, R94). -/
def State.ctxRegWrite (s : State) (r : Reg) (v : Word) : State :=
  let g := r.i
  let c := r.j
  match r.name with
  | .CORE_CTX_ISTORE => if s.occupied g c then s else s.setReg r (s.fieldsWrite r v)
  | .CORE_LOAD_CTRL =>
    match bits v 0 2 with
    | 1 => s.loadGo g c
    | 2 => s.unload g c
    | _ => s
  | .CORE_BT_INDEX => (s.setReg r (s.fieldsWrite r v)).setCtx g c { s.ctx g c with btPend := [] }
  | .CORE_BT_DATA0 => s.btStage g c 0 v
  | .CORE_BT_DATA1 => s.btStage g c 1 v
  | .CORE_BT_DATA2 => s.btStage g c 2 v
  | .CORE_BT_DATA3 => s.btCommit g c v
  | .CORE_TOKEN => s.tokenWrite g c r.k v
  | _ => s.setReg r (s.fieldsWrite r v)

/-- A register with no field that software writes. -/
def Reg.readOnly (r : Reg) : Bool := r.name.info.fields.all (fun x => x.acc = .ro)

/-- CWR: the register of ID12 ← RS1; the configuration fault for a read-only value, a read-only register, a reserved offset
or an ID12 above 0x106. -/
def execCwr (g c k : Nat) (s : State) : Host.Outcome State Fault Refusal :=
  .next (s.issue g c k .cwr (fun s d =>
    match if d.id12 < 0x100 then ownReg g c d.id12 else none with
    | none => s.raise g c k 0x0E
    | some r =>
      if r.readOnly then s.raise g c k 0x0E
      else
        let v := (s.strand g c k).rd d.rs1
        (s.retire g c k (s.strand g c k)).ctxRegWrite r v))

end Sys2Proof.Machine
end

