-- ==== Sys2Proof/Machine/Loan.lean ====
section
/-! DEFINITION. Loans of HBM between modules: grants, notices, releases, and the tick at which they take effect (R200,
R201, R207). -/

namespace Sys2Proof.Machine

/-- The payload of LOAN_GRANT and LOAN_RELEASE (Table NET-7): base in [43:0], size in [107:64]. -/
def loanPayload (base size : Nat) : List Byte := toLE 8 base ++ toLE 8 size

/-- Borrow entry i names this lender, base and size. -/
def State.borrowIs (s : State) (i lender base size : Nat) : Bool :=
  s.f F.PLC_BOR_CTL_LENDER i == lender && s.f F.PLC_BOR_BASE_REMOTE_BASE i == base && s.f F.PLC_BOR_SIZE_SIZE i == size

/-- Lend entry i names this borrower, base and size. -/
def State.lendIs (s : State) (i borrower base size : Nat) : Bool :=
  s.f F.PLC_LEND_CTL_BORROWER i == borrower && s.f F.PLC_LEND_BASE_LOCAL_BASE i == base && s.f F.PLC_LEND_SIZE_SIZE i == size

/-- Borrow entry i has been granted and turns active at the next tick. -/
def State.isGranted (s : State) (i : Nat) : Bool := s.granted.any (fun e => e.1 == i)

/-- A grant arrives: the waiting entry that matches exactly is active from the next tick, or LOAN_MISMATCH is set. -/
def State.loanGrant (s : State) (lender base size : Nat) : State :=
  match (List.range 64).find? (fun i => s.f F.PLC_BOR_CTL_STATE i == 1 && !s.isGranted i && s.borrowIs i lender base size) with
  | some i => { s with granted := s.granted ++ [(i, none)] }
  | none => s.event F.PLC_EVENT_LOAN_MISMATCH

/-- An active borrow entry turns revoking, END_FRAME copied. -/
def State.noticed (s : State) (i stop : Nat) : State :=
  ((s.setF F.PLC_BOR_CTL_STATE 3 i).setF F.PLC_BOR_END_END_FRAME stop i).event F.PLC_EVENT_LOAN_NOTICE

/-- A notice arrives for an active entry, or for one that its grant turns active at the next tick: there it waits for that
tick. -/
def State.loanNotice (s : State) (lender base size endFrame : Nat) : State :=
  match (List.range 64).find? (fun i => (s.f F.PLC_BOR_CTL_STATE i == 2 || s.isGranted i) && s.borrowIs i lender base size) with
  | none => s
  | some i =>
    if s.f F.PLC_BOR_CTL_STATE i = 2 then s.noticed i endFrame
    else { s with granted := s.granted.map (fun e => if e.1 = i then (i, some endFrame) else e) }

/-- A release arrives in frame f: the loan ends at tick f + 1, or at an earlier end already set. -/
def State.loanRelease (s : State) (borrower base size : Nat) : State :=
  match (List.range 64).find? (fun i => decide (2 ≤ s.f F.PLC_LEND_CTL_STATE i) && s.lendIs i borrower base size) with
  | none => s
  | some i =>
    let stop := s.clk.frame + 1
    let s := if s.f F.PLC_LEND_CTL_STATE i = 3 ∧ s.f F.PLC_LEND_END_END_FRAME i ≤ stop then s
      else s.setF F.PLC_LEND_END_END_FRAME stop i
    { s with lendRel := s.lendRel ++ [i] }

/-- The end of a revoking loan at tick n. -/
def State.loanEnd (s : State) (lend : Bool) (i n : Nat) : State :=
  if lend then
    if s.f F.PLC_LEND_CTL_STATE i = 3 ∧ s.f F.PLC_LEND_END_END_FRAME i ≤ n then
      (s.setF F.PLC_LEND_CTL_STATE 0 i).event F.PLC_EVENT_LOAN_END
    else s
  else
    if s.f F.PLC_BOR_CTL_STATE i = 3 ∧ s.f F.PLC_BOR_END_END_FRAME i ≤ n then
      (s.setF F.PLC_BOR_CTL_STATE 0 i).event F.PLC_EVENT_LOAN_END
    else s

/-- A granted entry turns active, and revoking at once where a notice has followed its grant. -/
def State.grantTick (s : State) (e : Nat × Option Nat) : State :=
  let s := (s.setF F.PLC_BOR_CTL_STATE 2 e.1).event F.PLC_EVENT_LOAN_GRANT
  match e.2 with
  | none => s
  | some stop => s.noticed e.1 stop

/-- Action 6 of tick n: releases and grants of the frame before, and ends, take effect. -/
def State.loanAction (s : State) (n : Nat) : State :=
  let s := s.lendRel.foldl (fun s i => s.setF F.PLC_LEND_CTL_STATE 0 i) s
  let s := { s.granted.foldl State.grantTick s with lendRel := [], granted := [] }
  iter 64 (fun i s => (s.loanEnd true i n).loanEnd false i n) s

/-- A commit takes effect at tick m on lend entry i: VALID 0 to 1 grants an idle one, and a commit that writes its CTL word
with REVOKE gives notice of an active one; on an idle one REVOKE has no effect (R207). -/
def State.lendCommit (s : State) (i m : Nat) (wasValid ctl : Bool) : State :=
  let st := s.f F.PLC_LEND_CTL_STATE i
  let node := s.f F.PLC_LEND_CTL_BORROWER i
  let body := loanPayload (s.f F.PLC_LEND_BASE_LOCAL_BASE i) (s.f F.PLC_LEND_SIZE_SIZE i)
  if s.fb F.PLC_LEND_CTL_VALID i && !wasValid && st == 0 then (s.setF F.PLC_LEND_CTL_STATE 2 i).ctrlSend node 4 0 body
  else if s.fb F.PLC_LEND_CTL_REVOKE i && ctl && st == 2 then
    let stop := m + s.f F.PLC_LEND_CTL_NOTICE i
    ((s.setF F.PLC_LEND_CTL_STATE 3 i).setF F.PLC_LEND_END_END_FRAME stop i).ctrlSend node 5 0 (body ++ toLE 8 stop)
  else s

/-- A commit takes effect on borrow entry i: VALID 1 waits for a grant, VALID 0 releases the loan, also one whose grant has
come in the frame that ends. An entry that waits without a grant turns idle, and nothing is sent (DESIGN CHOICE, log entry
78). -/
def State.borrowCommit (s : State) (i : Nat) (lender base size : Nat) : State :=
  let st := s.f F.PLC_BOR_CTL_STATE i
  if s.fb F.PLC_BOR_CTL_VALID i then (if st = 0 then s.setF F.PLC_BOR_CTL_STATE 1 i else s)
  else if st = 0 then s
  else
    let held := decide (2 ≤ st) || s.isGranted i
    let s := ({ s with granted := s.granted.filter (fun e => e.1 ≠ i) } : State).setF F.PLC_BOR_CTL_STATE 0 i
    if held then s.ctrlSend lender 6 0 (loanPayload base size) else s

/-- LOAN_END_TICK (R200): the END_FRAME tick of a revoking loan. -/
def execLoanEndTick (lend : Bool) (i : Nat) (s : State) : Host.Outcome State Fault Refusal :=
  .next (if s.atTick then s.loanEnd lend i s.clk.frame else s)

/-- Node n may reach HBM bytes [a, a + len) of this module: an active or revoking lend entry covers them (R201). -/
def State.lentTo (s : State) (n a len : Nat) : Bool :=
  (List.range 64).any (fun i => decide (2 ≤ s.f F.PLC_LEND_CTL_STATE i) && s.f F.PLC_LEND_CTL_BORROWER i == n &&
    decide (s.f F.PLC_LEND_BASE_LOCAL_BASE i ≤ a) &&
    decide (a + len ≤ s.f F.PLC_LEND_BASE_LOCAL_BASE i + s.f F.PLC_LEND_SIZE_SIZE i))

end Sys2Proof.Machine
end

