-- ==== Sys2Proof/Machine/Spur.lean ====
section
/-! DEFINITION. The spur path and messages: SPUT, SGET, SATOM, MSEND, MSENDR, MRECV, MCOUNT, receive queues (R86, R237 to
R239, R261 to R265). -/

namespace Sys2Proof.Machine

/-! ### Operands -/

/-- The local operand of a spur operation (R86, R238): n bytes wholly in the context's window on the issuing core; 0x06
where any lies in another context's window, otherwise 0x05 where any lies outside, in the order of R187. -/
def State.localOperand (s : State) (g c addr n : Nat) : Except Nat Nat :=
  match s.spadOff g addr with
  | none => .error 0x05
  | some o =>
    if (List.range n).any (fun i => (List.range 4).any (fun d => decide (d ≠ c) && s.inWin d (o + i))) then .error 0x06
    else if o + n ≤ spadSize && (List.range n).all (fun i => s.inWin c (o + i)) then .ok (spadKey g o)
    else .error 0x05

/-- The self alias, which no spur operation names as remote operand (R238). -/
def State.selfAlias (s : State) (addr : Nat) : Bool :=
  decide (addr / 2 ^ 44 = s.node) && decide (0xF8000000000 ≤ addr % 2 ^ 44) && decide (addr % 2 ^ 44 < 0xF8000400000)

/-- The parts of a remote operand, and the checks of a write or atomic add on each (R197, R238, R247, R337). -/
def State.spurParts (s : State) (g c addr n : Nat) (acc : Acc) : Except Nat (List SPart) :=
  if s.selfAlias addr then .error 0x05 else
  match s.xlateParts g c acc.writes .spur 3 addr n with
  | .error e => .error e
  | .ok ps =>
    match ps.findSome? (fun p => match s.writeCheck p.loc p.len acc with
      | .error e => some e
      | .ok _ => none) with
    | some e => .error e
    | none => .ok (ps.map (fun p => { loc := p.loc, off := p.addr - addr, len := p.len }))

/-! ### Issue -/

/-- An operation enters the spur queue (R237), which holds 32; the strand waits while it is full. -/
def State.spurIssue (s : State) (g c k : Nat) (mk : Nat → Who → SOp) (t : Strand) : State :=
  let x := s.core g
  if 32 ≤ x.spurq.length then s
  else (s.setCore g { x with seq := x.seq + 1, spurq := x.spurq ++ [mk x.seq (t.who c k)] }).retire g c k t

/-- SPUT and SGET (R238): RA remote address, RB local address, [38:31] LEN − 1, [30] TOK. -/
def State.spurMove (s : State) (g c k : Nat) (op : Op) (put : Bool) : State :=
  s.issue g c k op (fun s d =>
    let t := s.strand g c k
    let addr := (t.rd d.rd).toNat
    let len := d.field 31 8 + 1
    if 32 ≤ (s.core g).spurq.length then s else
    match s.spurParts g c addr len (if put then .store len else .load len false) with
    | .error e => s.raise g c k e addr
    | .ok ps =>
      match s.localOperand g c (t.rd d.rs1).toNat len with
      | .error e => s.raise g c k e (t.rd d.rs1).toNat
      | .ok key =>
        s.spurIssue g c k (fun seq w =>
          { seq := seq, who := w, kind := if put then .put else .get, tok := d.field 30 1 == 1, addr := addr, parts := ps,
            loc := key, len := len, born := s.clk.now }) t)

/-- SPUT: writes 1 to 256 B. -/
def execSput (g c k : Nat) (s : State) : Host.Outcome State Fault Refusal := .next (s.spurMove g c k .sput true)

/-- SGET: reads 1 to 256 B into the local scratchpad. -/
def execSget (g c k : Nat) (s : State) : Host.Outcome State Fault Refusal := .next (s.spurMove g c k .sget false)

/-- SATOM (R238): remote 64-bit add of RB at RA; RC ← old value, pending until then. -/
def execSatom (g c k : Nat) (s : State) : Host.Outcome State Fault Refusal :=
  .next (s.issue g c k .satom (fun s d =>
    let t := s.strand g c k
    let addr := (t.rd d.rd).toNat
    if 32 ≤ (s.core g).spurq.length then s
    else if addr % 8 ≠ 0 then s.raise g c k 0x04 addr
    else match s.spurParts g c addr 8 .amoadd with
    | .error e => s.raise g c k e addr
    | .ok ps =>
      s.spurIssue g c k (fun seq w =>
        { seq := seq, who := w, kind := .atom, tok := d.field 30 1 == 1, addr := addr, parts := ps, len := 8,
          val := t.rd d.rs1, rc := d.rs2, born := s.clk.now }) { t with pend := t.pend ++ [d.rs2] }))

/-- A destination word names a core (R86, Table ISA-15 code 0x0B): its reserved bits are 0, its node is this one and the
core exists, or its node is in the table. A nonzero reserved bit is taken as a core that is absent (DEDUCED). -/
def State.dstOk (s : State) (w : Word) : Bool :=
  bits w 8 36 == 0 && (if bits w 44 20 = s.node then s.coreOk (bits w 0 8) else s.nodeKnown (bits w 44 20))

/-- A message enters the spur queue. -/
def State.msgIssue (s : State) (g c k : Nat) (d : Dec) (key : Nat) (data : List Byte) : State :=
  let t := s.strand g c k
  let w := t.rd d.rd
  if !s.dstOk w then s.raise g c k 0x0B w.toNat
  else
    s.spurIssue g c k (fun seq who =>
      { seq := seq, who := who, kind := .msg (bits w 0 8) (d.field 36 3), tok := d.field 32 1 == 1, addr := w.toNat,
        parts := [], loc := key, len := 8 * (d.field 33 3 + 1), data := data, born := s.clk.now }) t

/-- MSEND (R86, R265): RA destination word, RB payload address, [38:36] QUEUE, [35:33] LEN ÷ 8 − 1, [32] TOK; the payload
is read when the operation leaves the queue. -/
def execMsend (g c k : Nat) (s : State) : Host.Outcome State Fault Refusal :=
  .next (s.issue g c k .msend (fun s d =>
    let t := s.strand g c k
    let a := (t.rd d.rs1).toNat
    if 32 ≤ (s.core g).spurq.length then s else
    match s.localOperand g c a (8 * (d.field 33 3 + 1)) with
    | .error e => s.raise g c k e a
    | .ok key => s.msgIssue g c k d key []))

/-- MSENDR (R86, R265): the payload is LEN ÷ 8 registers from RB, read at issue. -/
def execMsendr (g c k : Nat) (s : State) : Host.Outcome State Fault Refusal :=
  .next (s.issue g c k .msendr (fun s d =>
    let t := s.strand g c k
    if 32 ≤ (s.core g).spurq.length then s else
    s.msgIssue g c k d 0 ((List.range (d.field 33 3 + 1)).flatMap (fun i => toLE 8 (t.rd (d.rs1 + i)).toNat))))

/-! ### The queue -/

/-- The operations of a spur queue with one changed. -/
def State.spurMod (s : State) (g seq : Nat) (f : SOp → SOp) : State :=
  let x := s.core g
  s.setCore g { x with spurq := x.spurq.map (fun o => if o.seq = seq then f o else o) }

/-- The core, or the HBM pseudo-channel, that the order at a location is kept by (R239). -/
def Loc.orderedBy : Loc → Loc
  | .mem k => if k < 2 ^ 44 then .mem (hbmBank k).1 else .mem (k / 2 ^ 22 * 2 ^ 22)
  | .host p _ => .host p 0
  | .remote n a => .remote n (dstCoreOf a)

/-- The targets that an operation's order is kept by (R239, R265): of its first byte and of its last in each part, which
lie in different pseudo-channels where the part crosses a 256 B granule (R190). -/
def SOp.targets (s : State) (o : SOp) : List Loc :=
  match o.kind with
  | .msg core _ => [if o.addr / 2 ^ 44 = s.node then .mem (spadKey core 0) else .remote (o.addr / 2 ^ 44) core]
  | _ => o.parts.flatMap (fun p => [p.loc.orderedBy, (p.loc.plus (p.len - 1)).orderedBy])

/-- An older operation of the same context to one of the same targets has not taken effect. -/
def State.spurOlder (s : State) (g : Nat) (o : SOp) (past : SOp → Bool) : Bool :=
  (s.core g).spurq.any (fun q => decide (q.seq < o.seq ∧ q.who.c = o.who.c) &&
    (SOp.targets s q).any (SOp.targets s o).contains && !past q)

/-- The packet of one part on the spur flow. -/
def State.spurPacket (s : State) (o : SOp) (p : SPart) (a tag : Nat) : Packet :=
  let base : Packet := { ctx := o.who.c, addr := a, tag := tag, tok := o.tok, srcNode := s.node }
  match o.kind with
  | .get => { base with type := tReadReq, aux := p.len }
  | .atom => { base with type := tAtomicReq, aux := o.val.toNat }
  | _ => { base with type := tWrite, payload := (o.data.drop p.off).take p.len, poison := o.poison }

/-- An operation leaves the queue (R237): SPUT and MSEND read their local bytes, with their poison; a remote one is sent on
its flow, a message to this module is on its way, and the mirror copies of a SPUT are sent. -/
def State.spurLeave (s : State) (g : Nat) (o : SOp) : State :=
  let reads := match o.kind with
    | .put => true
    | .msg _ _ => o.data.isEmpty
    | _ => false
  let o := { o with sent := true, data := if reads then s.read o.loc o.len else o.data,
                    poison := reads && s.poisoned o.loc o.len }
  let ref : OpKind := .spur g o.seq
  match o.kind with
  | .msg core q =>
    let s := s.spurMod g o.seq (fun _ => o)
    let node := o.addr / 2 ^ 44
    if node = s.node then
      { s with msgs := s.msgs ++ [{ g := g, seq := o.seq, dst := core, c := o.who.c, q := q, data := o.data, poison := o.poison }] }
    else
      s.flowSend { cls := .spur, core := g, sub := o.who.c, node := node, dst := core }
        [{ pkt := { type := tMsg, ctx := o.who.c, addr := q, payload := o.data, poison := o.poison, tok := o.tok, last := true },
           refs := [{ op := ref }] }]
  | _ =>
    let (dups, s) := o.parts.foldl (fun (n, s) p => match p.loc, o.kind with
      | .mem k, .put =>
        let (m, s) := s.mirrorSend k ((o.data.drop p.off).take p.len) o.poison (fun node => spurKey g o.who.c node 0) ref
        (n + m, s)
      | _, _ => (n, s)) (0, s)
    let s := s.spurMod g o.seq (fun _ => { o with dups := dups })
    ((List.range o.parts.length).zip o.parts).foldl (fun s e => match e.2.loc with
      | .remote node a =>
        let (tag, s) := s.nextTag
        s.flowSend (spurKey g o.who.c node a)
          [{ pkt := s.spurPacket o e.2 a tag, refs := [{ op := .spur g o.seq, part := e.1 }] }]
      | _ => s) s

/-- SPUR_SEND (R237): the oldest operation that has not left the queue goes through the core port. -/
def execSpurSend (g : Nat) (s : State) : Host.Outcome State Fault Refusal :=
  match (s.core g).spurq.find? (fun o => !o.sent) with
  | none => .next s
  | some o => .next (s.spurLeave g o)

/-! ### Receive queues -/

/-- The key of byte o of slot i of a receive queue. -/
def State.slotKey (s : State) (g c q i o : Nat) : Nat := spadKey g (128 * (s.f F.COL_MQ_CFG_BASE g c q + i) + o)

def State.mqSlots (s : State) (g c q : Nat) : Nat := s.f F.COL_MQ_CFG_SLOTS_M1 g c q + 1

/-- The queue would refuse a message: disabled, or its context empty (R264). -/
def State.mqClosed (s : State) (g c q : Nat) : Bool := !s.fb F.COL_MQ_CFG_ENABLE g c q || !s.occupied g c || !s.coreOk g

/-- The ring is full. -/
def State.mqFull (s : State) (g c q : Nat) : Bool := decide (s.mqSlots g c q ≤ s.f F.COL_MQ_STATE_COUNT g c q)

/-- A queue accepts a message (R262): the slot at TAIL is written, TAIL and COUNT advance, T(16 + q) counts it. -/
def State.mqAccept (s : State) (g c q sender : Nat) (data : List Byte) (poison : Bool) : State :=
  let t := s.f F.COL_MQ_STATE_TAIL g c q
  let s := s.store (s.slotKey g c q t 0) data poison
  let s := s.write (s.slotKey g c q t 0x40) (toLE 8 sender ++ toLE 1 data.length ++ zeroBytes 7 ++
    toLE 8 s.clk.frame ++ zeroBytes 40)
  let s := s.setF F.COL_MQ_STATE_TAIL (if t + 1 = s.mqSlots g c q then 0 else t + 1) g c q
  (s.addF F.COL_MQ_STATE_COUNT 1 g c q).token g c (16 + q) 1

/-- A queue refuses a message (R264). -/
def State.mqRefuse (s : State) (g c : Nat) : State := (s.addF F.COL_MQ_REFUSED_COUNT 1 g c).event F.COL_EVENT_MSG_REFUSED c

/-- The answer of a message's target to its sender's operation (R237). -/
def State.msgAnswer (s : State) (m : Msg) (status : Nat) : State :=
  s.spurMod m.g m.seq (fun o => { o with parts := [{ loc := .mem 0, off := 0, len := 0, rsp := some { status := status } }] })

/-- A message of this module is offered to its queue: accepted, refused, or held while the ring is full. Older operations
of its sender to the same core have taken effect first (R265). -/
def State.msgOffer (s : State) (n : Nat) : State :=
  match s.msgs[n]? with
  | none => s
  | some m =>
    let o := (s.core m.g).spurq.find? (fun o => o.seq = m.seq)
    let done (q : SOp) : Bool := match q.kind with
      | .msg _ _ => !q.parts.isEmpty
      | _ => false
    match o with
    | none => { s with msgs := s.msgs.eraseIdx n }
    | some o =>
      if s.spurOlder m.g o done then s
      else if s.mqClosed m.dst m.c m.q then
        (({ s with msgs := s.msgs.eraseIdx n } : State).mqRefuse m.dst m.c).msgAnswer m 7
      else if s.mqFull m.dst m.c m.q then { s with msgs := modAt s.msgs n (fun m => { m with held := true }) }
      else
        (({ s with msgs := s.msgs.eraseIdx n } : State).mqAccept m.dst m.c m.q (s.node * 2 ^ 44 + m.g) m.data m.poison).msgAnswer m 0

/-- MESSAGE_REOFFER (R264): a message held at a full queue is offered again once a slot is free. -/
def execMessageReoffer (g c q : Nat) (s : State) : Host.Outcome State Fault Refusal :=
  if s.mqFull g c q then .next s else
  match firstFrom (fun i => match s.msgs[i]? with
    | some m => m.held && decide (m.dst = g ∧ m.c = c ∧ m.q = q)
    | none => false) s.msgs.length 0 with
  | none => .next s
  | some n => .next (s.msgOffer n)

/-- MRECV (R263): takes the head message to RA and writes RB; waits while the queue is empty. -/
def execMrecv (g c k : Nat) (s : State) : Host.Outcome State Fault Refusal :=
  .next (s.issue g c k .mrecv (fun s d =>
    let t := s.strand g c k
    let q := d.field 36 3
    let a := (t.rd d.rd).toNat
    if s.f F.COL_MQ_STATE_COUNT g c q = 0 then s else
    let h := s.f F.COL_MQ_STATE_HEAD g c q
    let len := s.readN (s.slotKey g c q h 0x48) 1
    match if a % 8 = 0 then s.winKey g c a len else none with
    | none => s.raise g c k 0x05 a
    | some key =>
      let src := s.slotKey g c q h 0
      let sender := BitVec.ofNat 64 (s.readN (s.slotKey g c q h 0x40) 8)
      let s := s.store key (s.read src len) (s.poisoned src len)
      let s := s.setF F.COL_MQ_STATE_HEAD (if h + 1 = s.mqSlots g c q then 0 else h + 1) g c q
      let s := s.setF F.COL_MQ_STATE_COUNT (s.f F.COL_MQ_STATE_COUNT g c q - 1) g c q
      s.retireRd g c k d.rs1 (BitVec.ofNat 64 (len + 256 * bits sender 0 8 + 2 ^ 44 * bits sender 44 20))))

/-- MCOUNT (R263): RA ← messages queued. -/
def execMcount (g c k : Nat) (s : State) : Host.Outcome State Fault Refusal :=
  .next (s.issue g c k .mcount (fun s d =>
    s.retireRd g c k d.rd (BitVec.ofNat 64 (s.f F.COL_MQ_STATE_COUNT g c (d.field 36 3)))))

/-- COL_MQ_CFG_WRITE (R261): BASE and SLOTS_M1 change only while ENABLE is 0 and the queue is empty; ENABLE 1 holds only
where the whole ring lies in the context's window. -/
def execColMqCfgWrite (g c q : Nat) (v : Word) (s : State) : Host.Outcome State Fault Refusal :=
  let free := !s.fb F.COL_MQ_CFG_ENABLE g c q && s.f F.COL_MQ_STATE_COUNT g c q == 0
  let s := if free then
      ((s.setF F.COL_MQ_CFG_SLOTS_M1 (bits v 8 8) g c q).setF F.COL_MQ_CFG_BASE (bits v 16 16) g c q).setReg
        ⟨.COL_MQ_STATE, g, c, q⟩ 0
    else s
  let lo := 128 * s.f F.COL_MQ_CFG_BASE g c q
  let b := s.f F.PLC_WIN_BASE c * 65536
  let inside := decide (b ≤ lo) && decide (lo + 128 * s.mqSlots g c q ≤ b + s.f F.PLC_WIN_SIZE c * 65536)
  .next (s.setF F.COL_MQ_CFG_ENABLE (if bits v 0 1 = 1 ∧ inside then 1 else 0) g c q)

/-! ### Completion -/

/-- The status of an operation: the first part that was refused, or a mirror copy. -/
def SOp.status (o : SOp) : Nat :=
  match o.parts.find? (fun p => decide (p.rsp.elim 0 (·.status) ≠ 0)) with
  | some p => p.rsp.elim 0 (·.status)
  | none => o.dupFail.getD 0

/-- An operation can complete: it has left the queue, its parts on other nodes and its message have their answers, its
mirror copies are acknowledged, and, where it acts on this module, no older operation to the same target is under way
(R239, R265). -/
def State.spurReady (s : State) (g : Nat) (o : SOp) : Bool :=
  let answered := match o.kind with
    | .msg _ _ => o.parts.any (fun p => p.rsp.isSome)
    | _ => o.parts.all (fun p => p.loc.key.isSome || p.rsp.isSome)
  let here := o.parts.any (fun p => p.loc.key.isSome)
  o.sent && answered && o.dups == 0 && !(here && s.spurOlder g o (fun _ => false))

/-- The bytes and poison of an SGET: its local parts read now, its remote parts as answered. -/
def State.spurGather (s : State) (o : SOp) : List Byte × Bool :=
  o.parts.foldl (fun (bs, p) x => match x.loc.key with
    | some k => (bs ++ s.read k x.len, p || s.poisoned k x.len)
    | none => (bs ++ (x.rsp.elim [] (·.data)), p || x.rsp.elim false (·.poison))) ([], false)

/-- The effect of an operation at its target and on the local scratchpad: a fault code, the value for RC, the state. -/
def State.spurEffect (s : State) (g : Nat) (o : SOp) : Option Nat × Option Word × State :=
  if o.parts.any (fun p => s.hostShut p.loc) then (some 0x05, none, s) else
  let failed := if o.status = 0 then none else some (failCode o.status)
  match o.kind with
  | .msg _ _ => (failed, none, s)
  | .put =>
    (failed, none, o.parts.foldl (fun s p => match p.loc.key with
      | some k => s.store k ((o.data.drop p.off).take p.len) o.poison
      | none => s) s)
  | .get =>
    if failed.isSome then (failed, none, s) else
    let (bs, bad) := s.spurGather o
    if bad then (some 0x0D, none, s) else (none, none, s.store o.loc bs false)
  | .atom =>
    if failed.isSome then (failed, none, s) else
    match o.parts.head? with
    | none => (none, none, s)
    | some p =>
      match p.loc.key, p.rsp with
      | some k, _ =>
        if s.poisoned k 8 then (some 0x0D, none, s)
        else let (old, s) := s.atomicAt g (some o.who.c) k .amoadd o.val 0; (none, some old, s)
      | none, some r => if r.poison then (some 0x0D, none, s) else (none, some (BitVec.ofNat 64 (ofLE r.data)), s)
      | none, none => (none, none, s)

/-- An operation leaves the queue for good: RC filled or its mark cleared, then its fault, or T29 where TOK asks. -/
def State.spurEnd (s : State) (g : Nat) (o : SOp) (err : Option Nat) (v : Option Word) : State :=
  let x := s.core g
  let s := s.setCore g { x with spurq := x.spurq.filter (fun q => q.seq ≠ o.seq) }
  let s := { s with msgs := s.msgs.filter (fun m => !decide (m.g = g ∧ m.seq = o.seq)) }
  let s := if o.kind = .atom then s.arrive g o.who o.rc v else s
  match err with
  | some e => s.raiseOpWho g o.who o.seq e o.addr
  | none => (if o.tok && !s.stale g o.who.c o.seq then s.token g o.who.c 29 1 else s).progressOf g o.who.c o.seq

/-- SPUR_COMPLETE (R237): operation n of the queue completes. -/
def execSpurComplete (g n : Nat) (s : State) : Host.Outcome State Fault Refusal :=
  match (s.core g).spurq[n]? with
  | none => .next s
  | some o =>
    if !s.spurReady g o then .next s else
    let (err, v, s) := s.spurEffect g o
    .next (s.spurEnd g o err v)

/-- SPUR_TIMEOUT (R238, R264): an operation not complete after DMA_SPUR_TIMEOUT raises 0x05. -/
def execSpurTimeout (g n : Nat) (s : State) : Host.Outcome State Fault Refusal :=
  match (s.core g).spurq[n]? with
  | none => .next s
  | some o =>
    if s.clk.now < o.born + s.f F.DMA_SPUR_TIMEOUT_TIMEOUT then .next s else .next (s.spurEnd g o (some 0x05) none)

end Sys2Proof.Machine
end

