-- ==== Sys2Proof/Machine/NetFlow.lean ====
section
/-! DEFINITION. Noine flows at the sender and what a receiver answers: acknowledgements, refusals, resends, timeouts and
failures (R323, R327 to R330, R338, R339). Index f below 8,192 names a send flow; 8,192 + n names receive flow n, or, in
the FLOW of an ACK, the responses of send flow f - 8,192 (DESIGN CHOICE, log entry 25). -/

namespace Sys2Proof.Machine

/-! ### Sequence numbers -/

/-- How far PSN a lies ahead of b, modulo 2^32. -/
def psnAhead (a b : Nat) : Nat := (a + 2 ^ 32 - b) % 2 ^ 32

/-- PSN a is ahead of b. -/
def psnAfter (a b : Nat) : Bool := decide (0 < psnAhead a b) && decide (psnAhead a b < 2 ^ 31)

/-- The SACK bitmap: bit i where next + 1 + i is held (R327). -/
def sackOf (next : Nat) (held : List Packet) : Nat :=
  ((List.range 64).filter (fun i => held.any (fun p => decide (psnAhead p.psn next = 1 + i)))).foldl (fun a i => a + 2 ^ i) 0

/-! ### What a receiver answers (R327, R330) -/

/-- The cumulative PSN: an applied write whose mirror copy is outstanding is not acknowledged (R336). -/
def Rx.cum (x : Rx) : Nat := x.mirrored.headD x.next

/-- One more packet applied and not yet acknowledged. -/
def Rx.count (x : Rx) (now : Nat) : Rx := { x with due := x.due + 1, dueAt := if x.due = 0 then now else x.dueAt }

/-- The credit limit a receiver returns: held back while the buffer is more than 3 MiB full or a message waits. -/
def State.creditLimit (s : State) (x : Rx) : Nat :=
  if x.waits || decide (3 * 2 ^ 20 < s.reorder (x.link / 32)) then x.limit
  else (x.cum + s.f F.NET_WINDOW_CREDIT_INIT) % 2 ^ 32

/-- An ACK, or a NAK with its reason and PSN, of one direction of a flow. -/
def State.ackOf (s : State) (x : Rx) (type addr node flow epoch : Nat) : Packet :=
  s.outPacket { type := type, dstNode := node, flow := flow, epoch := epoch, psn := x.cum, limit := s.creditLimit x,
                addr := addr, aux := sackOf x.cum x.held, ceEcho := x.ce }

/-- A direction whose receiver has answered. -/
def State.answered (s : State) (x : Rx) : Rx := { x with due := 0, ce := false, limit := s.creditLimit x }

/-- An answer to requests leaves. -/
def State.answer (s : State) (r : RFlow) (type addr : Nat) : State :=
  (s.setRFlow { r with rx := s.answered r.rx }).emit (s.ackOf r.rx type addr r.node r.flow r.epoch)

def State.sendAck (s : State) (node flow : Nat) : State :=
  match s.rflow node flow with
  | none => s
  | some r => s.answer r tAck 0

def State.sendNak (s : State) (node flow reason psn : Nat) : State :=
  match s.rflow node flow with
  | none => s
  | some r => s.answer r tNak (reason + psn * 2 ^ 32)

/-- The acknowledgement of the responses on send flow f (R323). -/
def State.ackResponses (s : State) (f : Nat) : State :=
  match s.sflow f with
  | none => s
  | some x => (s.setSFlow f (some { x with rx := s.answered x.rx })).emit (s.ackOf x.rx tAck 0 x.key.node (f + 8192) x.epoch)

/-- ACK_TIMER (R327): 2 µs after the oldest packet not yet acknowledged. -/
def execAckTimer (f : Nat) (s : State) : Host.Outcome State Fault Refusal :=
  let due (x : Rx) : Bool := decide (0 < x.due) && decide (x.dueAt + 200 ≤ s.clk.now)
  if f < 8192 then
    match s.sflow f with
    | none => .next s
    | some x => if due x.rx then .next (s.ackResponses f) else .next s
  else
    match s.rflows[f - 8192]? with
    | none => .next s
    | some r => if due r.rx then .next (s.sendAck r.node r.flow) else .next s

/-! ### What an operation is told -/

/-- The answer of the target, or of a mirror copy, to the operation a packet serves (R323, R338). -/
def State.opTell (s : State) (r : OpRef) (a : Rsp) : State :=
  let bad := if a.status = 0 then none else some a.status
  match r.op with
  | .none => s
  | .scalar g seq =>
    let x := s.core g
    s.setCore g { x with slots := x.slots.map (fun q => if q.seq ≠ seq then q
      else if r.mir.isSome then { q with dups := q.dups - 1, dupFail := q.dupFail <|> bad } else { q with rsp := some a }) }
  | .spur g seq =>
    s.spurMod g seq (fun o =>
      if r.mir.isSome then { o with dups := o.dups - 1, dupFail := o.dupFail <|> bad }
      else match o.kind with
        | .msg _ _ => { o with parts := [{ loc := .mem 0, off := 0, len := 0, rsp := some a }] }
        | _ => { o with parts := modAt o.parts r.part (fun p => { p with rsp := some a }) })
  | .dma g _ id =>
    let x := s.core g
    s.setCore g { x with
      bursts := x.bursts.map (fun b => if b.id = id then { b with rsp := some a } else b)
      writes := x.writes.map (fun w => if w.id ≠ id then w
        else if r.mir.isSome then { w with dups := w.dups - 1, dupFail := w.dupFail <|> bad } else { w with rsp := some a }) }
  | .rx node flow epoch psn =>
    { s with rflows := s.rflows.map (fun q =>
        if q.node = node ∧ q.flow = flow ∧ q.epoch = epoch then
          { q with rx := { q.rx with mirrored := q.rx.mirrored.erase psn }.count s.clk.now }
        else q) }

/-- The end of a packet's operation; the failure of a mirror copy breaks its entry (R338), and is the status of an
arriving write by a NAK (R336). -/
def State.opDone (s : State) (r : OpRef) (a : Rsp) : State :=
  let s := match r.mir with
    | some m => if a.status = 0 then s else s.mirrorBreak m
    | none => s
  let s := match r.op with
    | .rx node flow epoch psn =>
      if a.status = 0 ∨ (s.rflow node flow).map (fun r : RFlow => r.epoch) ≠ some epoch then s
      else s.sendNak node flow (if a.status < 8 then a.status else 4) psn
    | _ => s
  s.opTell r a

/-- Every operation of a packet ends with a status. -/
def State.pktDone (s : State) (t : TxPkt) (status : Nat) : State :=
  t.refs.foldl (fun s r => s.opDone r { status := status }) s

/-! ### Failure and reopening (R328, R339) -/

/-- A receive flow is freed. -/
def State.dropRFlow (s : State) (node flow : Nat) : State :=
  ({ s with rflows := s.rflows.filter (fun r => !decide (r.node = node ∧ r.flow = flow)) } : State).pfcAll

/-- A send flow ends: every outstanding operation takes the status, and the next use opens a new epoch. -/
def State.flowEnd (s : State) (f status : Nat) : State :=
  match s.sflow f with
  | none => s
  | some x =>
    let s := s.flowDrop f
    let s := (x.tx.unacked ++ x.tx.queue).foldl (fun s t => s.pktDone t status) s
    x.reads.foldl (fun s r => s.opDone r.2.2 { status := status }) s

/-- The number of a class in NET_FLOW_FAIL_LAST. -/
def FlowClass.code : FlowClass → Nat
  | .spur => 0
  | .dma => 1
  | .traverse => 2
  | .control => 3

/-- NET_FLOW_FAILS, NET_FLOW_FAIL_LAST and NET_EVENT.FLOW_FAIL. -/
def State.failNote (s : State) (node core cls src : Nat) : State :=
  let s := s.addF F.NET_FLOW_FAILS_COUNT 1
  let s := (s.setF F.NET_FLOW_FAIL_LAST_NODE node).setF F.NET_FLOW_FAIL_LAST_CORE core
  ((s.setF F.NET_FLOW_FAIL_LAST_CLASS cls).setF F.NET_FLOW_FAIL_LAST_SRC_CORE src).event F.NET_EVENT_FLOW_FAIL

/-- A flow fails. Of one that sends responses the receive flow goes, so that its sender opens it anew; a packet does not
tell whether a spur or a DMA flow asked, so that the class of a failed READ_RESP is a free value (log entry 82). -/
def State.flowFail (s : State) (f : Nat) : State :=
  if f < 8192 then
    match s.sflow f with
    | none => s
    | some x => (s.failNote x.key.node x.key.dst x.key.cls.code x.key.core).flowEnd f 0x103
  else
    match s.rflows[f - 8192]? with
    | none => s
    | some r =>
      let p := (r.tx.unacked.head?.map (·.pkt)).getD {}
      let (w, s) := s.free
      (s.failNote r.node p.dstCore (if p.type = tAtomicResp then 0 else w.toNat % 2) p.srcCore).dropRFlow r.node r.flow

/-- A flow reopens with EPOCH + 1, FIRST and PSN 0: what was not acknowledged is sent again. -/
def State.flowReopen (s : State) (f : Nat) (keep : TxPkt → Bool) : State :=
  match s.sflow f with
  | none => s
  | some x =>
    let back := (x.tx.unacked.filter keep).map (fun t => { t with tries := 0, rnr := false })
    (s.setSFlow f (some { x with epoch := (x.epoch + 1) % 65536, tx := { s.newTx with queue := back ++ x.tx.queue },
                                 rx := s.newRx })).pfcAll

/-- The flows to and from a node are reset (R339), and what waits for one to it fails. -/
def State.nodeReset (s : State) (node : Nat) : State :=
  let wait := s.flowWait.filter (fun e => e.1.node = node)
  let s := { s with flowWait := s.flowWait.filter (fun e => e.1.node ≠ node), rflows := s.rflows.filter (fun r => r.node ≠ node) }
  let s := ((s.openFlows.filter (fun e => e.2.key.node = node)).map (·.1)).foldl (fun s f => s.flowEnd f 0x103) s
  ((wait.flatMap (·.2)).foldl (fun s t => s.pktDone t 0x103) s).pfcAll

/-! ### The sending end of either direction: index f of a send flow, 8,192 + n of receive flow n -/

def State.tx (s : State) (f : Nat) : Option Tx :=
  if f < 8192 then (s.sflow f).map (·.tx) else (s.rflows[f - 8192]?).map (·.tx)

def State.setTx (s : State) (f : Nat) (x : Tx) : State :=
  if f < 8192 then
    match s.sflow f with
    | none => s
    | some y => s.setSFlow f (some { y with tx := x })
  else { s with rflows := modAt s.rflows (f - 8192) (fun r => { r with tx := x }) }

/-- The node at the other end, and the epoch. -/
def State.peer (s : State) (f : Nat) : Option (Nat × Nat) :=
  if f < 8192 then (s.sflow f).map (fun x => (x.key.node, x.epoch)) else (s.rflows[f - 8192]?).map (fun r => (r.node, r.epoch))

/-- The index of the direction that sends a receive flow's responses. -/
def State.respIndex (s : State) (node flow : Nat) : Option Nat :=
  (firstFrom (fun i => (s.rflows[i]?).any (fun q => decide (q.node = node ∧ q.flow = flow))) s.rflows.length 0).map (8192 + ·)

/-! ### Resends -/

/-- A packet goes out again, or waits for a link or a port (R317, R324). -/
def State.resendOn (s : State) (p : Packet) : State :=
  let s := match s.linkOf p with
    | none => s
    | some l => s.addF F.NET_LINK_RETX_COUNT 1 l
  s.emit { p with retx := true }

/-- A sent packet is resent, counted against RETRY unless it waits under a refusal; beyond RETRY the flow fails (R328). -/
def State.resend (s : State) (f psn : Nat) (count : Bool) : State :=
  match s.tx f with
  | none => s
  | some x =>
    match x.unacked.find? (fun t => t.pkt.psn = psn) with
    | none => s
    | some t =>
      if count ∧ s.f F.NET_TIMERS_RETRY ≤ t.tries then s.flowFail f
      else
        let again := x.unacked.map (fun t =>
          if t.pkt.psn = psn then { t with sent := s.clk.now, tries := if count then t.tries + 1 else t.tries, rnr := false }
          else t)
        (s.setTx f { x with unacked := again }).resendOn t.pkt

/-- The sent packets of direction f that are not acknowledged. -/
def State.unacked (s : State) (f : Nat) : List TxPkt := (s.tx f).elim [] (·.unacked)

/-- RETRANSMIT_TIMEOUT (R328): RTO has passed since a packet was last sent. -/
def execRetransmitTimeout (f : Nat) (s : State) : Host.Outcome State Fault Refusal :=
  match (s.unacked f).find? (fun t => !t.rnr && decide (t.sent + s.f F.NET_TIMERS_RTO ≤ s.clk.now)) with
  | none => .next s
  | some t => .next (s.resend f t.pkt.psn true)

/-- RNR_RESEND (R327): a packet refused with code 1 or 2 goes out again after RNR; a message older than
DMA_SPUR_TIMEOUT is given up, and its flow goes on in a new epoch (DESIGN CHOICE, log entry 26). -/
def execRnrResend (f : Nat) (s : State) : Host.Outcome State Fault Refusal :=
  match (s.unacked f).find? (fun t => t.rnr && decide (t.sent + s.f F.NET_TIMERS_RNR ≤ s.clk.now)) with
  | none => .next s
  | some t =>
    if t.pkt.type = tMsg ∧ t.born + s.f F.DMA_SPUR_TIMEOUT_TIMEOUT ≤ s.clk.now then
      .next ((s.flowReopen f (fun q => q.pkt.psn ≠ t.pkt.psn)).pktDone t 5)
    else .next (s.resend f t.pkt.psn false)

/-- COMPLETION_TIMEOUT (R328): a request without its response fails with cause 2. -/
def execCompletionTimeout (f : Nat) (s : State) : Host.Outcome State Fault Refusal :=
  match s.sflow f with
  | none => .next s
  | some x =>
    match x.reads.find? (fun r => decide (r.2.1 + s.f F.NET_CPL_TIMEOUT_TIME ≤ s.clk.now)) with
    | none => .next s
    | some r =>
      .next ((s.setSFlow f (some { x with reads := x.reads.filter (fun q => q.1 ≠ r.1) })).opDone r.2.2 { status := 0x102 })

/-! ### Acknowledgements -/

/-- Packets that a SACK bitmap shows below three or more held PSNs (R328). -/
def gapOf (cum sack : Nat) (ts : List TxPkt) : List Nat :=
  (ts.filter (fun t =>
    let d := psnAhead t.pkt.psn cum
    decide (d < 64) && !(decide (0 < d) && bitN sack (d - 1)) && decide (3 ≤ popCount 64 (sack / 2 ^ d % 2 ^ 64)))).map (·.pkt.psn)

/-- W after an ACK that advances the cumulative PSN by k (R330). -/
def State.window (s : State) (x : Tx) (k : Nat) (ce : Bool) : Tx :=
  if ce then
    if x.lastCut.all (fun t => decide (t + s.f F.NET_TIMERS_RTO ≤ s.clk.now)) then
      { x with w := max 1 ((x.w / 2).floor : Rat), lastCut := some s.clk.now }
    else x
  else { x with w := min (s.f F.NET_WINDOW_WIN_MAX : Nat) (x.w + (k : Rat) / x.w) }

/-- A control flow whose own FLOW_CLOSE is acknowledged is freed (R329); a send flow that hears its receiver is in use. -/
def State.flowHeard (s : State) (f : Nat) : State :=
  match s.sflow f with
  | none => s
  | some x => if x.closing && x.quiet then s.flowDrop f else s.setSFlow f (some { x with used := s.clk.frame })

/-- A cumulative PSN, credit and SACK for direction f: what they cover is done, and a gap is resent. The credit limit never
falls back to that of an answer overtaken on its way. -/
def State.flowAck (s : State) (f : Nat) (p : Packet) : State :=
  match s.tx f with
  | none => s
  | some x =>
    if s.peer f ≠ some (p.srcNode, p.epoch) then s else
    let done := x.unacked.filter (fun t => psnAfter p.psn t.pkt.psn)
    let rest := x.unacked.filter (fun t => !psnAfter p.psn t.pkt.psn)
    let limit := if psnAfter p.limit x.limit then p.limit else x.limit
    let s := s.setTx f (s.window { x with unacked := rest, limit := limit } done.length p.ceEcho)
    let s := done.foldl (fun s t => if t.pkt.type = tReadReq ∨ t.pkt.type = tAtomicReq then s else s.pktDone t 0) s
    let s := (gapOf p.psn p.aux rest).foldl (fun s psn => s.resend f psn true) s
    s.flowHeard f

/-- An ACK: of a send flow, or of the responses of a receive flow. -/
def State.rxAck (s : State) (p : Packet) : State :=
  if p.flow < 8192 then s.flowAck p.flow p
  else match s.respIndex p.srcNode (p.flow - 8192) with
    | none => s
    | some f => s.flowAck f p

/-- A NAK (Table NET-6): the refused packet takes its reason, then the cumulative PSN covers the others. A control flow that
closes has no receive flow to reopen. -/
def State.flowNak (s : State) (p : Packet) : State :=
  let reason := p.addr % 256
  let psn := p.addr / 2 ^ 32 % 2 ^ 32
  let f := p.flow
  let mark (x : SFlow) (g : TxPkt → TxPkt) : Tx :=
    { x.tx with unacked := x.tx.unacked.map (fun t => if t.pkt.psn = psn then g t else t) }
  match s.sflow f with
  | none => s
  | some x =>
    if x.key.node ≠ p.srcNode ∨ x.epoch ≠ p.epoch then s
    else if reason = 3 then if x.closing then s.flowDrop f else s.flowReopen f (fun _ => true)
    else if reason = 1 ∨ reason = 2 then
      let s := s.setSFlow f (some { x with tx := mark x (fun t => { t with rnr := true, sent := s.clk.now }) })
      if reason = 2 then s else s.flowAck f p
    else
      match x.tx.unacked.find? (fun t => t.pkt.psn = psn) with
      | none => s.flowAck f p
      | some t =>
        ((s.setSFlow f (some { x with
          tx := mark x (fun t => { t with refs := [] })
          reads := x.reads.filter (fun r => !t.refs.contains r.2.2) })).pktDone t reason).flowAck f p

/-! ### Sending (R325, R330) -/

/-- The packets of a queue that share one frame with its head: contiguous write bursts of one unit, up to PAYLOAD. -/
def packRun (max : Nat) : TxPkt → List TxPkt → TxPkt × List TxPkt
  | t, [] => (t, [])
  | t, q :: qs =>
    if t.unit.isSome ∧ q.unit = t.unit ∧ t.pkt.type = tWrite ∧ q.pkt.type = tWrite ∧ q.pkt.poison = t.pkt.poison ∧
        t.pkt.last = false ∧ q.pkt.addr = t.pkt.addr + t.pkt.payload.length ∧
        t.pkt.payload.length + q.pkt.payload.length ≤ max then
      packRun max { t with pkt := { t.pkt with payload := t.pkt.payload ++ q.pkt.payload, last := q.pkt.last },
                           refs := t.refs ++ q.refs } qs
    else (t, q :: qs)

/-- The next packet may go: below the credit limit, and within W unless the flow is a control flow. -/
def Tx.maySend (x : Tx) (control : Bool) : Bool :=
  psnAfter x.limit x.next &&
    (control ||
      (match x.unacked with
        | [] => true
        | t :: _ => decide ((psnAhead x.next t.pkt.psn : Rat) < x.w)))

/-- A request that awaits a response is sent (R328). -/
def State.asked (s : State) (f : Nat) (p : Packet) (r : OpRef) : State :=
  match s.sflow f with
  | none => s
  | some x => s.setSFlow f (some { x with reads := x.reads ++ [(p.tag, s.clk.now, r)] })

/-- The next packet of direction f leaves, if it may. With no link up it is sent as far as its timeouts go, and waits for one
(R324); while its port is paused it stays queued (R317). -/
def State.flowGo (s : State) (f : Nat) : State :=
  match s.tx f with
  | none => s
  | some x =>
    match x.queue with
    | [] => s
    | t :: ts =>
      if !x.maySend ((s.sflow f).any (fun y => y.key.cls = .control)) then s else
      let (t, rest) := packRun s.payloadMax t ts
      let request := decide (f < 8192)
      let p := { t.pkt with flow := if request then f else t.pkt.flow, epoch := ((s.peer f).map (·.2)).getD 0, psn := x.next,
                            first := request && x.fresh }
      if (s.linkOf p).any s.portHeld then s else
      let s := s.setTx f { x with queue := rest, fresh := false, unacked := x.unacked ++ [{ t with pkt := p, sent := s.clk.now }],
                                  next := (x.next + 1) % 2 ^ 32 }
      let s := if p.type = tReadReq ∨ p.type = tAtomicReq then s.asked f p (t.refs.headD {}) else s
      s.emit p

/-- NOINE_PACKET_SEND (R330): the next packet of direction f leaves. -/
def execNoinePacketSend (f : Nat) (s : State) : Host.Outcome State Fault Refusal := .next (s.flowGo f)

/-! ### Idle flows (R329) -/

/-- FLOW_IDLE_CLOSE: a send flow with nothing outstanding, idle for NET_FLOW_IDLE frames, is closed; while packets wait for an
index, the longest-idle flow at once. -/
def execFlowIdleClose (f : Nat) (s : State) : Host.Outcome State Fault Refusal :=
  match s.sflow f with
  | none => .next s
  | some x =>
    if x.quiet && (decide (x.used + s.f F.NET_REL_POLL_FLOW_IDLE ≤ s.clk.frame) ||
        (!s.flowWait.isEmpty && s.idlest == some f)) then .next (s.closeFlow f)
    else .next s

/-- RECEIVE_FLOW_IDLE_FREE: receive flow f, idle for twice that period, is freed. -/
def execReceiveFlowIdleFree (f : Nat) (s : State) : Host.Outcome State Fault Refusal :=
  match s.rflows[f]? with
  | none => .next s
  | some r =>
    if r.used + 2 * s.f F.NET_REL_POLL_FLOW_IDLE ≤ s.clk.frame then .next (s.dropRFlow r.node r.flow) else .next s

end Sys2Proof.Machine
end

