-- ==== Sys2Proof/Machine/NetRx.lean ====
section
/-! DEFINITION. Noine at the receiver: the checks of a frame, PSN order, what each packet type does, control packets,
multicast and relays (R201, R274, R275, R315, R320, R321, R326, R327, R331 to R333). -/

namespace Sys2Proof.Machine

/-! ### What a packet does (R326) -/

/-- The bytes at a local address that a packet names: HBM lent to its node (R201), or the window of its context on its
destination core (R184, R187); the key, or a refusal code. -/
def State.rxTarget (s : State) (p : Packet) (n : Nat) : Except Nat Nat × State :=
  let a := p.addr
  if a < hbmSize then
    if s.lentTo p.srcNode a n then (.ok (hbmKey a), s) else (.error 4, s.addF F.PLC_LEND_REFUSED_COUNT 1)
  else if 0xF0000000000 ≤ a ∧ a < 0xF0040000000 then
    let h := (a - 0xF0000000000) / 0x400000
    let o := (a - 0xF0000000000) % 0x400000
    if spadSize < o + n ∨ s.coreOk h = false ∨ h ≠ p.dstCore then (.error 5, s)
    else match s.winCheck p.ctx o, s.winCheck p.ctx (o + n - 1) with
      | .error e, _ => (.error e, s)
      | _, .error e => (.error e, s)
      | .ok _, .ok _ => (.ok (spadKey h o), s)
  else (.error 5, s)

/-- WRITE: the bytes are stored and mirrored; a protected range is a violation (R247). Poison comes with its flag. -/
def State.rxWrite (s : State) (r : RFlow) (p : Packet) : Nat × State :=
  match s.rxTarget p p.payload.length with
  | (.error e, s) => (e, s)
  | (.ok key, s) =>
    match s.writeCheck (.mem key) p.payload.length (.store p.payload.length) with
    | .error _ => (6, s)
    | .ok _ =>
      let s := s.store key p.payload p.poison
      let (dups, s) := s.mirrorSend key p.payload p.poison (fun node => { cls := .spur, sub := 4, node := node })
        (.rx r.node r.flow r.epoch p.psn)
      match s.rflow r.node r.flow with
      | none => (0, s)
      | some r => (0, s.setRFlow { r with rx := { r.rx with mirrored := r.rx.mirrored ++ List.replicate dups p.psn } })

/-- A response queued on the reverse direction of the flow, where credit, window and acknowledgement hold for it as for
requests (R323); it leaves at once if it may. -/
def State.respond (s : State) (r : RFlow) (p : Packet) (type status aux : Nat) (data : List Byte) (poison : Bool) : State :=
  match s.rflow r.node r.flow, s.respIndex r.node r.flow with
  | some r, some f =>
    let q := s.outPacket { type := type, poison := poison, ctx := p.ctx, srcCore := p.dstCore, dstNode := p.srcNode,
                           dstCore := p.srcCore, flow := r.flow, addr := status, aux := aux, tag := p.tag, payload := data }
    (s.setTx f { r.tx with queue := r.tx.queue ++ [{ pkt := q, born := s.clk.now }] }).flowGo f
  | _, _ => s

/-- READ_REQ: the read is performed and answered with its data or status. -/
def State.rxRead (s : State) (r : RFlow) (p : Packet) : State :=
  let n := p.aux % 65536
  if n = 0 ∨ s.payloadMax < n then s.respond r p tReadResp 5 0 [] false else
  match s.rxTarget p n with
  | (.error e, s) => s.respond r p tReadResp e 0 [] false
  | (.ok key, s) => s.respond r p tReadResp 0 0 (s.read key n) (s.poisoned key n)

/-- The atomic that an ATOMIC_REQ asks for: an add, or an exchange or compare (log entry 24). -/
def atomicOf (p : Packet) : Acc × Word :=
  match p.swap with
  | none => (.amoadd, 0)
  | some none => (.amoswap, 0)
  | some (some cmp) => (.amocas, cmp)

/-- ATOMIC_REQ: the atomic acts, and the old value or a status returns. -/
def State.rxAtomic (s : State) (r : RFlow) (p : Packet) : State :=
  match s.rxTarget p 8 with
  | (.error e, s) => s.respond r p tAtomicResp e 0 [] false
  | (.ok key, s) =>
    let (acc, cmp) := atomicOf p
    match s.writeCheck (.mem key) 8 acc with
    | .error _ => s.respond r p tAtomicResp 6 0 [] false
    | .ok _ =>
      if s.poisoned key 8 then s.respond r p tAtomicResp 0 0 [] true
      else
        let (old, s) := s.atomicAt p.srcCore none key acc (BitVec.ofNat 64 p.aux) cmp
        s.respond r p tAtomicResp 0 old.toNat [] false

/-- MSG: accepted under R262, refused under R264, or not applied while the queue is full (code 1). -/
def State.rxMsg (s : State) (p : Packet) : Nat × State :=
  let q := p.addr % 8
  if s.mqClosed p.dstCore p.ctx q then (7, s.mqRefuse p.dstCore p.ctx)
  else if s.mqFull p.dstCore p.ctx q then (1, s)
  else (0, s.mqAccept p.dstCore p.ctx q (p.srcNode * 2 ^ 44 + p.srcCore) p.payload p.poison)

/-- TRV: its bytes go to the entry's own landing area; with LAST the entry is landed (R137, R325). -/
def State.rxTrv (s : State) (r : RFlow) (p : Packet) : Nat × State :=
  let t := p.addr % 16
  if !s.coreOk p.dstCore || !s.occupied p.dstCore p.ctx then (5, s) else
  let s := match s.landKey p.dstCore p.ctx t with
    | some key => if p.aux + p.payload.length ≤ areaSize then s.store (key + p.aux) p.payload p.poison else s
    | none => s
  let hdr := if p.aux = 0 then p.payload.take 64 else r.hdr
  let s := match s.rflow r.node r.flow with
    | none => s
    | some r => s.setRFlow { r with hdr := hdr }
  if p.last then
    let h := TrvHdr.ofArea (Mem.write [] 0 hdr) 0
    (0, s.trvLand p.dstCore p.ctx t p.srcNode p.srcCore none h.contrib h.skips)
  else (0, s)

/-! ### Control packets (Table NET-7) -/

/-- Counter, round and flag of a col packet. -/
def colBody (p : Packet) : Nat × Nat × Bool :=
  let v := ofLE (p.payload.take 8)
  (bitsN v 0 10, bitsN v 16 16, bitsN v 32 1 == 1)

/-- COL_ARRIVAL: counted at a home counter; elsewhere it is a protocol error (R274). -/
def State.rxArrival (s : State) (p : Packet) : State :=
  let (k, r, flag) := colBody p
  if s.fb F.COL_CTR_CFG_HOME k then s.homeArrival k r flag else s.colProto k 1

/-- The counters that a release from a home reaches (R331). -/
def State.releaseCtrs (s : State) (node phys : Nat) : List Nat :=
  ((s.listed .COL_CTR_HOME).filter (fun r => s.fb F.COL_CTR_CFG_XMOD r.i &&
    s.f F.COL_CTR_HOME_HOME_NODE r.i == node && s.f F.COL_CTR_HOME_HOME_PHYS r.i == phys)).map (·.i)

/-- COL_RELEASE: releases the cores of every counter with that home, whose round it must be (R275). -/
def State.rxRelease (s : State) (p : Packet) : State :=
  let (phys, r, flag) := colBody p
  (s.releaseCtrs p.srcNode phys).foldl (fun s k =>
    if s.f F.COL_CTR_STATE_ROUND k = r then State.colCheck 3 k (s.colRelease k r flag) else s.colProto k 2) s

/-- COL_QUERY: a home that has released the round answers (R332). -/
def State.rxQuery (s : State) (p : Packet) : State :=
  let (k, r, _) := colBody p
  let past := (s.f F.COL_CTR_STATE_ROUND k + 2 ^ 16 - r % 2 ^ 16) % 2 ^ 16
  match (SMap.get [] s.colHist k).find? (fun e => decide (e.1 = r ∧ 1 ≤ past ∧ past < 2 ^ 15)) with
  | none => s
  | some (_, flag) => s.ctrlSend p.srcNode 2 0 (toLE 8 (k + r * 2 ^ 16 + flag.toNat * 2 ^ 32))

/-- Base, size and END_FRAME of a loan packet. -/
def loanBody (p : Packet) : Nat × Nat × Nat :=
  (ofLE (p.payload.take 8) % 2 ^ 44, ofLE ((p.payload.drop 8).take 8) % 2 ^ 44, ofLE ((p.payload.drop 16).take 8))

/-- FLOW_CLOSE: the receive flow it names is freed (R329); one that names its own flow is acknowledged first. -/
def State.rxClose (s : State) (p : Packet) : State :=
  let f := ofLE (p.payload.take 8) % 8192
  let s := match s.rflow p.srcNode f with
    | some r => if f = p.flow then s.answer { r with rx := { r.rx with next := (p.psn + 1) % 2 ^ 32 } } tAck 0 else s
    | none => s
  s.dropRFlow p.srcNode f

/-- CTRL, by its subtype. -/
def State.rxCtrl (s : State) (p : Packet) : State :=
  let (base, size, stop) := loanBody p
  match p.addr % 256 with
  | 1 => s.rxArrival p
  | 2 => s.rxRelease p
  | 3 => s.rxQuery p
  | 4 => s.loanGrant p.srcNode base size
  | 5 => s.loanNotice p.srcNode base size stop
  | 6 => s.loanRelease p.srcNode base size
  | 7 => s.rxClose p
  | 8 => s.trvCredit p.dstCore p.ctx (ofLE (p.payload.take 8) % 16)
  | _ => s

/-! ### Order (R326, R327) -/

/-- The effect of the next packet of a receive flow: 0, or the code that refuses it. -/
def State.rxApply (s : State) (r : RFlow) (p : Packet) : Nat × State :=
  if p.type = tWrite then s.rxWrite r p
  else if p.type = tReadReq then (0, s.rxRead r p)
  else if p.type = tAtomicReq then (0, s.rxAtomic r p)
  else if p.type = tMsg then s.rxMsg p
  else if p.type = tTrv then s.rxTrv r p
  else (0, s.rxCtrl p)

/-- Packets of a receive flow applied in PSN order from its list, as far as it goes. A refused PSN counts as applied but
for code 1. -/
def State.rxRun : Nat → Nat → Nat → State → State
  | 0, _, _, s => s
  | n + 1, node, flow, s =>
    match s.rflow node flow with
    | none => s
    | some r =>
      match r.rx.held.find? (fun p => p.psn = r.rx.next) with
      | none => s
      | some p =>
        let s := s.setRFlow { r with rx := { r.rx with held := r.rx.held.filter (fun q => q.psn ≠ p.psn) } }
        let (code, s) := s.rxApply r p
        match s.rflow node flow with
        | none => s
        | some r =>
          if code = 1 then (s.setRFlow { r with rx := { r.rx with waits := true } }).sendNak node flow 1 p.psn
          else
            let s := s.setRFlow { r with rx := { r.rx with next := (r.rx.next + 1) % 2 ^ 32, waits := false }.count s.clk.now }
            let s := if code ≠ 0 then s.sendNak node flow code p.psn
              else if 16 ≤ r.rx.due + 1 then s.sendAck node flow else s
            State.rxRun n node flow s

/-- A receiver that has seen a packet: its link, and its CE mark (R317). -/
def Rx.seen (x : Rx) (p : Packet) : Rx := { x with link := p.link, ce := x.ce || p.ce }

/-- Where a packet stands to a receiver: it is the next one, is held beyond it and leaves a gap, or neither. -/
inductive RxCase where
  | next (x : Rx)
  | held (x : Rx)
  | other (x : Rx)

/-- A packet at a receiver: the next PSN, or held within 64 PSNs where the die's buffer has room, acknowledged again where it
is old, otherwise dropped. -/
def State.rxSort (s : State) (x : Rx) (p : Packet) : RxCase :=
  let d := psnAhead p.psn x.next
  let more := { x with held := x.held ++ [p] }
  if d = 0 then .next more
  else if d ≤ 64 then
    if x.held.any (fun q => q.psn = p.psn) || decide (4 * 2 ^ 20 < s.reorder (p.link / 32) + 48 + p.payload.length) then .other x
    else .held more
  else if 2 ^ 31 ≤ d then .other (x.count s.clk.now)
  else .other x

/-- What the receiver of a flow does with a packet: packets in order are applied, a held packet leaves a gap, which is told at
once. -/
def State.rxTake (s : State) (r : RFlow) : RxCase → State
  | .next x => State.rxRun 66 r.node r.flow (s.setRFlow { r with rx := x })
  | .held x => (s.setRFlow { r with rx := x }).sendAck r.node r.flow
  | .other x => s.setRFlow { r with rx := x }

/-- A packet of a known flow, taken in order. -/
def State.rxInOrder (s : State) (r : RFlow) (p : Packet) : State :=
  let r := { r with used := s.clk.frame, rx := r.rx.seen p }
  s.rxTake r (s.rxSort r.rx p)

/-- A refusal of a packet of no flow: reason 2 or 3. -/
def State.nakNoFlow (s : State) (p : Packet) (reason : Nat) : State :=
  s.emit (s.outPacket { type := tNak, dstNode := p.srcNode, flow := p.flow, epoch := p.epoch,
                        addr := reason + p.psn * 2 ^ 32 })

/-- A request arrives (R322, R327, R328): FIRST opens the flow, or opens it anew with a new epoch. -/
def State.rxRequest (s : State) (p : Packet) : State :=
  let new : RFlow := { node := p.srcNode, flow := p.flow, epoch := p.epoch, rx := s.newRx, tx := s.newTx }
  match s.rflow p.srcNode p.flow with
  | some r =>
    if r.epoch = p.epoch then s.rxInOrder r p
    else if p.first then s.rxInOrder new p
    else s.nakNoFlow p 3
  | none =>
    if !p.first then s.nakNoFlow p 3
    else if 8192 ≤ s.rflows.length then s.nakNoFlow p 2
    else s.rxInOrder new p

/-- Responses of send flow f taken in PSN order: each ends the operation of its tag. -/
def State.rspRun : Nat → Nat → State → State
  | 0, _, s => s
  | n + 1, f, s =>
    match s.sflow f with
    | none => s
    | some x =>
      match x.rx.held.find? (fun p => p.psn = x.rx.next) with
      | none => s
      | some p =>
        let s := s.setSFlow f (some { x with
          rx := { x.rx with held := x.rx.held.filter (fun q => q.psn ≠ p.psn), next := (x.rx.next + 1) % 2 ^ 32 }.count s.clk.now
          reads := x.reads.filter (fun r => r.1 ≠ p.tag)
          used := s.clk.frame })
        let s := match x.reads.find? (fun r => r.1 = p.tag) with
          | none => s
          | some r => s.opDone r.2.2 { status := p.addr % 256, poison := p.poison,
                                       data := if p.type = tAtomicResp then toLE 8 p.aux else p.payload }
        let s := if 16 ≤ x.rx.due + 1 then s.ackResponses f else s
        State.rspRun n f s

/-- A response arrives (R323). -/
def State.rxResponse (s : State) (p : Packet) : State :=
  match s.sflow p.flow with
  | none => s
  | some x =>
    if x.key.node ≠ p.srcNode ∨ x.epoch ≠ p.epoch then s else
    match s.rxSort (x.rx.seen p) p with
    | .next y => State.rspRun 66 p.flow (s.setSFlow p.flow (some { x with rx := y }))
    | .held y => (s.setSFlow p.flow (some { x with rx := y })).ackResponses p.flow
    | .other y => s.setSFlow p.flow (some { x with rx := y })

/-! ### Frames (R315, R320, R321, R333) -/

/-- A type or subtype that no table gives; a version other than 1 is taken for one (DEDUCED). -/
def badType (p : Packet) : Bool :=
  p.version != 1 || decide (10 ≤ p.type) || (p.type == tCtrl && (p.addr % 256 == 0 || decide (9 ≤ p.addr % 256)))

/-- The frame's source is the node its header names (R320). -/
def State.freshSrc (s : State) (p : Packet) : Bool := s.nodeKnown p.srcNode && s.nodeAddr p.srcNode == p.srcIp

def State.staleDrop (s : State) : State := (s.addSatF F.NET_DROPS_STALE 1).event F.NET_EVENT_STALE_SRC

/-- A packet for this module, by its type. -/
def State.rxDeliver (s : State) (p : Packet) : State :=
  if badType p then s.addSatF F.NET_DROPS_TYPE 1
  else if !s.freshSrc p then s.staleDrop
  else if p.type = tAck then s.rxAck p
  else if p.type = tNak then s.flowNak p
  else if p.type = tReadResp ∨ p.type = tAtomicResp then s.rxResponse p
  else s.rxRequest p

/-- A copy or relay leaves with the hop limit lowered; at 0 it is dropped. -/
def State.relayOn (s : State) (p : Packet) (send : Packet → State → State) : State :=
  if p.hop ≤ 1 then s.addSatF F.NET_DROPS_RELAY 1 else send { p with hop := p.hop - 1 } s

/-- The group of a destination address, where it has the prefix of the module. -/
def State.groupOf (s : State) (ip : Nat) : Option Nat :=
  if ip % 2 ^ 112 = s.f F.NET_MCAST_HI_PREFIX + 2 ^ 64 * s.f F.NET_MCAST_LO_PREFIX then
    some (ip / 2 ^ 112 % 256 * 256 + ip / 2 ^ 120 % 256)
  else none

/-- A frame for a group (R333): delivered by its entry, or to a counter that names it; copied on the links of FWD. A
packet that no rule multicasts has no effect here. -/
def State.rxGroup (s : State) (p : Packet) (m : Nat) : State :=
  let deliver (s : State) : State :=
    if p.type = tCtrl ∧ p.addr % 256 = 2 ∧ p.version = 1 then (if s.freshSrc p then s.rxRelease p else s.staleDrop)
    else if badType p then s.addSatF F.NET_DROPS_TYPE 1 else s
  match (List.range 64).find? (fun g => s.fb F.NET_MG_CTL_VALID g && s.f F.NET_MG_CTL_GROUP g == m) with
  | none =>
    if (s.listed .COL_CTR_HOME).any (fun r => s.fb F.COL_CTR_CFG_XMOD r.i && s.f F.COL_CTR_HOME_MGROUP r.i == m) then deliver s
    else s
  | some g =>
    let s := if s.fb F.NET_MG_CTL_SUB g then deliver s else s
    if bitN (s.f F.NET_MG_UP_LINKS g) p.link then
      (s.upLinks (s.f F.NET_MG_FWD_LINKS g)).foldl (fun s l => s.relayOn p (fun p s => s.send (some l) p)) s
    else s

/-- A frame for another address (R321): on the link of its node, or waiting for one; dropped where no entry is valid. -/
def State.relay (s : State) (p : Packet) : State :=
  if !s.nodeKnown p.dstNode then s.addSatF F.NET_DROPS_RELAY 1 else s.relayOn p (fun p s => s.send none p)

/-- The checks of the outer layers and PCRC fail (R315). -/
def crcBad (p : Packet) : Bool := !p.good || p.pcrc != packetCrc p

/-- A frame arrives on a link that is up. -/
def State.netRx (s : State) (p : Packet) : State :=
  if !s.linkUp p.link then s else
  let s := s.addF F.NET_LINK_RX_BYTES (96 + p.payload.length) p.link
  let s := if p.ce then s.addF F.NET_LINK_CE_COUNT 1 p.link else s
  let s :=
    if crcBad p then s.addSatF F.NET_DROPS_CRC 1
    else if p.dstIp = s.netAddr then s.rxDeliver p
    else match s.groupOf p.dstIp with
      | some m => s.rxGroup p m
      | none => s.relay p
  s.pfcAll

/-! ### Commands: the arrival of a packet of each type -/

/-- The arrival of a packet of a type; of another type, nothing. -/
def State.rxType (s : State) (p : Packet) (t : Nat) : State := if p.type = t then s.netRx p else s

/-- The arrival of a control packet of a subtype. -/
def State.rxSub (s : State) (p : Packet) (t : Nat) : State := if p.type = tCtrl ∧ p.addr % 256 = t then s.netRx p else s

/-- WRITE. -/
def execWrite (p : Packet) (s : State) : Host.Outcome State Fault Refusal := .next (s.rxType p tWrite)

/-- READ_REQ. -/
def execReadReq (p : Packet) (s : State) : Host.Outcome State Fault Refusal := .next (s.rxType p tReadReq)

/-- READ_RESP. -/
def execReadResp (p : Packet) (s : State) : Host.Outcome State Fault Refusal := .next (s.rxType p tReadResp)

/-- ATOMIC_REQ. -/
def execAtomicReq (p : Packet) (s : State) : Host.Outcome State Fault Refusal := .next (s.rxType p tAtomicReq)

/-- ATOMIC_RESP. -/
def execAtomicResp (p : Packet) (s : State) : Host.Outcome State Fault Refusal := .next (s.rxType p tAtomicResp)

/-- ACK. -/
def execAck (p : Packet) (s : State) : Host.Outcome State Fault Refusal := .next (s.rxType p tAck)

/-- NAK. -/
def execNak (p : Packet) (s : State) : Host.Outcome State Fault Refusal := .next (s.rxType p tNak)

/-- COL_ARRIVAL. -/
def execColArrival (p : Packet) (s : State) : Host.Outcome State Fault Refusal := .next (s.rxSub p 1)

/-- COL_RELEASE. -/
def execColRelease (p : Packet) (s : State) : Host.Outcome State Fault Refusal := .next (s.rxSub p 2)

/-- COL_QUERY. -/
def execColQuery (p : Packet) (s : State) : Host.Outcome State Fault Refusal := .next (s.rxSub p 3)

/-- LOAN_GRANT. -/
def execLoanGrant (p : Packet) (s : State) : Host.Outcome State Fault Refusal := .next (s.rxSub p 4)

/-- LOAN_NOTICE. -/
def execLoanNotice (p : Packet) (s : State) : Host.Outcome State Fault Refusal := .next (s.rxSub p 5)

/-- LOAN_RELEASE. -/
def execLoanRelease (p : Packet) (s : State) : Host.Outcome State Fault Refusal := .next (s.rxSub p 6)

/-- FLOW_CLOSE. -/
def execFlowClose (p : Packet) (s : State) : Host.Outcome State Fault Refusal := .next (s.rxSub p 7)

/-- TRV_CREDIT. -/
def execTrvCredit (p : Packet) (s : State) : Host.Outcome State Fault Refusal := .next (s.rxSub p 8)

/-- MESSAGE_ARRIVAL (R262): a message of this module reaches its queue, or a MSG packet arrives. -/
def execMessageArrival (src : Src) (s : State) : Host.Outcome State Fault Refusal :=
  match src with
  | .own n => .next (s.msgOffer n)
  | .net p => .next (s.rxType p tMsg)

/-- TRAVERSE_TOTAL_LANDING (R137): a total of this module lands, or a TRV packet arrives. -/
def execTraverseTotalLanding (src : Src) (s : State) : Host.Outcome State Fault Refusal :=
  match src with
  | .own n => .next (s.landOwn n)
  | .net p => .next (s.rxType p tTrv)

/-- FRAME_RELAY (R321, R333): a frame for another address arrives. -/
def execFrameRelay (p : Packet) (s : State) : Host.Outcome State Fault Refusal :=
  if p.dstIp = s.netAddr then .next s else .next (s.netRx p)

/-- RECEIVED_FRAME_DROP (R315): a frame that fails a check, or of a reserved type or subtype, arrives. -/
def execReceivedFrameDrop (p : Packet) (s : State) : Host.Outcome State Fault Refusal :=
  if crcBad p || badType p then .next (s.netRx p) else .next s

/-- COL_QUERY_POLL (R332): NET_REL_POLL after its latest arrival or query, a counter that still waits asks its home. -/
def execColQueryPoll (k : Nat) (s : State) : Host.Outcome State Fault Refusal :=
  let home := s.f F.COL_CTR_HOME_HOME_NODE k
  let due := decide (SMap.get 0 s.colPoll k + s.f F.NET_REL_POLL_TIME ≤ s.clk.now)
  let waits := s.fb F.COL_CTR_STATE_DONE0 k
  if !(s.fb F.COL_CTR_CFG_XMOD k && due && waits) || home == s.node then .next s else
  let ask (s : State) (r : Nat) : State :=
    s.ctrlSend home 3 0 (toLE 8 (s.f F.COL_CTR_HOME_HOME_PHYS k + r % 2 ^ 16 * 2 ^ 16))
  let round := s.f F.COL_CTR_STATE_ROUND k
  let s := { ask s round with colPoll := SMap.set id 0 s.colPoll k s.clk.now }
  .next (if s.fb F.COL_CTR_STATE_DONE1 k then ask s (round + 1) else s)

/-! ### Links (R312 to R314, R317) -/

/-- The lanes of link l, as a mask. -/
def State.linkLanes (s : State) (l : Nat) : Nat :=
  match s.f F.NET_PORT_CFG_MODE (l / 4) with
  | 0 => 0xFF
  | 1 => 0xF * 16 ^ (l % 4)
  | _ => 3 * 4 ^ (l % 4)

/-- Link l is configured: its port is enabled and its mode has the link (Table NET-1); without a link image the ports stay down
(Table HOST-10), and a link whose lane a loop-back failed stays down until repair (Table REL-3). -/
def State.linkThere (s : State) (l : Nat) : Bool :=
  l < 64 && s.fb F.NET_PORT_CFG_ENABLE (l / 4) && s.f F.HIF_BOOT_FAIL != 2 &&
  !s.stw.record.any (fun f => f.kind == 5 && f.phys / 8 == l / 4 && bitN (s.linkLanes l) (f.phys % 8)) &&
  (match s.f F.NET_PORT_CFG_MODE (l / 4) with
    | 0 => l % 4 == 0
    | 1 => decide (l % 4 < 2)
    | 2 => true
    | _ => false)

/-- A link changes state (R314): NET_EVENT.LINK, the time it left the up state, and the packets that waited for a link. -/
def State.linkState (s : State) (l st : Nat) : State :=
  let was := s.f F.NET_LINK_STATUS_STATE l
  if was = st then s else
  let s := (s.setF F.NET_LINK_STATUS_STATE st l).event F.NET_EVENT_LINK
  let s := if was = 2 then { s with linkDown := SMap.set id none s.linkDown l (some s.clk.now) } else s
  if st = 2 then
    let s := { s with linkDown := SMap.set id none s.linkDown l none }
    s.netFlush
  else s

/-- LINK_STATE_CHANGE (R313, R314). -/
def execLinkStateChange (l : Nat) (ev : LinkEvent) (s : State) : Host.Outcome State Fault Refusal :=
  if !s.linkThere l then .next s else
  let p := l / 4
  let mine := BitVec.ofNat 8 (s.linkLanes l)
  let los := BitVec.ofNat 8 (s.f F.NET_PORT_LANES_LOS p)
  match ev with
  | .signal =>
    let s := s.setF F.NET_PORT_LANES_LOS (los &&& ~~~ mine).toNat p
    if s.f F.NET_LINK_STATUS_STATE l = 0 then .next (s.linkState l 1) else .next s
  | .aligned map inv =>
    if (los &&& mine) ≠ 0 then .next s else
    let lanes := (List.range 8).filter (fun i => mine.getLsbD i)
    let s := lanes.foldl (fun s i =>
      let s := s.setF ⟨.NET_PORT_LANES, 3 * i, 3⟩ (bitsN map (3 * i) 3) p
      s.setF ⟨.NET_PORT_LANES, 24 + i, 1⟩ (bitsN inv i 1) p) s
    .next (s.linkState l 2)
  | .unlock => if s.f F.NET_LINK_STATUS_STATE l = 2 then .next (s.linkState l 1) else .next s
  | .loss lanes =>
    let hit := BitVec.ofNat 8 lanes &&& mine
    if hit = 0 then .next s else .next ((s.setF F.NET_PORT_LANES_LOS (los ||| hit).toNat p).linkState l 0)
  | .fec good bad => .next ((s.addSatF F.NET_LINK_FEC_CORR good l).addSatF F.NET_LINK_FEC_UNCORR bad l)

/-- LINK_FAULT (R314): more than 100 ms outside the up state, of a link that is enabled. -/
def execLinkFault (l : Nat) (s : State) : Host.Outcome State Fault Refusal :=
  match SMap.get none s.linkDown l with
  | none => .next s
  | some t => if s.linkThere l && decide (t + 10000000 < s.clk.now) then .next (s.linkState l 3) else .next s

/-- A commit changes a port's MODE or ENABLE: its links go down (R312). -/
def State.portDown (s : State) (p : Nat) : State := iter 4 (fun i s => s.linkState (4 * p + i) 0) s

/-- PFC_FRAME (R317): honoured for priority PCP where PFC_EN is set; at its end what waited leaves. -/
def execPfcFrame (port prio : Nat) (pause : Bool) (s : State) : Host.Outcome State Fault Refusal :=
  let rest := s.paused.filter (· ≠ port)
  if !s.fb F.NET_PORT_CFG_PFC_EN port || prio != s.f F.NET_QOS_PCP then .next s
  else if pause then .next { s with paused := rest ++ [port] }
  else .next ({ s with paused := rest } : State).netFlush

end Sys2Proof.Machine
end

