-- ==== Sys2Proof/Machine/Txn.lean ====
section
/-! DEFINITION. Configuration transactions: control, staging, the checks of each block, and what applying a set does
besides (R32, R187, R196, R209, R244, R268, R319, R341, R380, R388 to R394). -/

namespace Sys2Proof.Machine

def State.txn (s : State) (o : Nat) : Txn := SMap.get {} s.txns o

def State.setTxn (s : State) (o : Nat) (x : Txn) : State := { s with txns := SMap.set id {} s.txns o x }

def State.txnState (s : State) (o : Nat) : Nat := s.f F.TXN_STATUS_STATE o

/-! ### RT fields (R394) -/

/-- The bits of a register that are RT. -/
def rtMask (n : RegName) : Word :=
  n.info.fields.foldl (fun m x => if x.acc = .rt then setBits m x.lo x.len (2 ^ x.len - 1) else m) 0

/-- The register holds an RT field. -/
def RegName.hasRt (n : RegName) : Bool := n.info.fields.any (fun x => x.acc = .rt)

/-- RT fields of a register replaced by those of v. -/
def State.putRt (s : State) (r : Reg) (v : Word) : State :=
  let m := rtMask r.name
  s.setReg r ((s.reg r &&& ~~~ m) ||| (v &&& m))

/-! ### Control (R389) -/

/-- BAD_CTRL, OUTSIDE, CONFLICT or OVERFLOW of owner o, with the event. -/
def State.txnError (s : State) (o : Nat) (x : Fld) : State := (s.setF x 1 o).event F.TXN_EVENT_ERROR o

/-- The transaction of owner o ends. -/
def State.txnEnd (s : State) (o result block : Nat) : State :=
  let s := s.setTxn o { s.txn o with staged := [] }
  let s := ((s.setF F.TXN_STATUS_STATE 0 o).setF F.TXN_STATUS_RESULT result o).setF F.TXN_STATUS_BLOCK block o
  s.addF F.TXN_COUNT_ENDED 1 o

/-- BEGIN. -/
def State.txnBegin (s : State) (o : Nat) : State :=
  if s.txnState o ≠ 0 then s.txnError o F.TXN_STATUS_BAD_CTRL else
  let s := s.setTxn o { s.txn o with staged := [], timeout := s.f F.TXN_TIMEOUT_FRAMES o }
  let s := ((s.setF F.TXN_STATUS_CONFLICT 0 o).setF F.TXN_STATUS_OVERFLOW 0 o).setF F.TXN_STATUS_STAGED 0 o
  let s := (s.setF F.TXN_CONFLICT_ADDR_OFFSET 0 o).setF F.TXN_OPEN_FRAME_FRAME s.clk.frame o
  s.setF F.TXN_STATUS_STATE 1 o

/-- COMMIT: staging closes. -/
def State.txnCommit (s : State) (o : Nat) : State :=
  if s.txnState o ≠ 1 then s.txnError o F.TXN_STATUS_BAD_CTRL else
  let s : State := { s.setTxn o { s.txn o with order := s.txnOrder } with txnOrder := s.txnOrder + 1 }
  s.setF F.TXN_STATUS_STATE 2 o

/-- ROLLBACK: the staged values are discarded. -/
def State.txnRollback (s : State) (o : Nat) : State :=
  if s.txnState o ≠ 1 then s.txnError o F.TXN_STATUS_BAD_CTRL else s.txnEnd o 2 0

/-- A write of v to TXN_CTRL[o]: one bit acts, more than one sets BAD_CTRL. -/
def State.txnCtrl (s : State) (o : Nat) (v : Word) : State :=
  match bits v 0 3 with
  | 0 => s
  | 1 => s.txnBegin o
  | 2 => s.txnCommit o
  | 4 => s.txnRollback o
  | _ => s.txnError o F.TXN_STATUS_BAD_CTRL

/-- TXN_BEGIN (R389). -/
def execTxnBegin (o : Nat) (s : State) : Host.Outcome State Fault Refusal :=
  if o < 3 then .next (s.txnBegin o) else .next s

/-- TXN_COMMIT (R389). -/
def execTxnCommit (o : Nat) (s : State) : Host.Outcome State Fault Refusal :=
  if o < 3 then .next (s.txnCommit o) else .next s

/-- TXN_ROLLBACK (R389). -/
def execTxnRollback (o : Nat) (s : State) : Host.Outcome State Fault Refusal :=
  if o < 3 then .next (s.txnRollback o) else .next s

/-! ### Staging (R390) -/

/-- CONFLICT or OVERFLOW: the offset of the first such write is kept. -/
def State.txnNote (s : State) (o : Nat) (x : Fld) (r : Reg) : State :=
  let s := if s.fb F.TXN_STATUS_CONFLICT o || s.fb F.TXN_STATUS_OVERFLOW o then s
    else s.setF F.TXN_CONFLICT_ADDR_OFFSET r.offset o
  s.txnError o x

/-- Owner d has an open or committed transaction that has staged register r. -/
def State.stagedBy (s : State) (d : Nat) (r : Reg) : Bool :=
  s.txnState d != 0 && (s.txn d).staged.any (fun e => e.1 = r)

/-- The RT fields that owner o's transaction has staged for a register, or those in effect (R396). -/
def State.stagedValue (s : State) (o : Nat) (r : Reg) : Word :=
  if s.txnState o = 1 then (((s.txn o).staged.find? (fun e => e.1 = r)).map (·.2)).getD (s.reg r) else s.reg r

/-- A write of owner o to the RT fields of a register. -/
def State.stage (s : State) (o : Nat) (r : Reg) (v : Word) : State :=
  let x := s.txn o
  let v := v &&& rtMask r.name
  if s.txnState o ≠ 1 then s.txnError o F.TXN_STATUS_OUTSIDE
  else if (List.range 3).any (fun d => decide (d ≠ o) && s.stagedBy d r) then s.txnNote o F.TXN_STATUS_CONFLICT r
  else if x.staged.any (fun e => e.1 = r) then
    s.setTxn o { x with staged := x.staged.map (fun e => if e.1 = r then (r, v) else e) }
  else if 16384 ≤ x.staged.length then s.txnNote o F.TXN_STATUS_OVERFLOW r
  else
    (s.setTxn o { x with staged := x.staged ++ [(r, v)] }).setF F.TXN_STATUS_STAGED (x.staged.length + 1) o

/-! ### Checks (R392): s is the state of the tick, t the candidate, st the staged registers -/

/-- A refusal: block, code, and the words of the refusal register that name the entry. -/
structure Refused where
  block : Nat
  code : Nat := 0
  a : Nat := 0
  b : Nat := 0
  c : Nat := 0
  deriving DecidableEq, Repr

/-- A list in rising order of a rank. -/
def sortBy {α : Type} (rank : α → Nat) (l : List α) : List α :=
  l.foldr (fun x ys => ys.takeWhile (fun y => decide (rank y < rank x)) ++ x :: ys.dropWhile (fun y => decide (rank y < rank x))) []

/-- Of the offenders, in rising order, the first whose registers are staged, or the first (DEDUCED, log entry 30). -/
def firstStaged {α : Type} (staged : α → Bool) (l : List α) : Option α := (l.find? staged).orElse (fun _ => l.head?)

/-- Block 1: the period range (R32). -/
def checkFrm (t : State) : Option Refused :=
  let p := t.f F.FRM_PERIOD_PERIOD
  if 2000 ≤ p ∧ p ≤ 100000000 then none else some ⟨1, 0, 0, 0, 0⟩

/-- Valid placement entries of every context: context and entry. -/
def State.allEntries (s : State) : List (Nat × Nat) :=
  (List.range 4).flatMap (fun c => (s.entries c).map (fun e => (c, e)))

def State.ent (s : State) (e : Nat × Nat) : Nat × Nat × Nat × Nat :=
  (s.f F.PLC_ENT_BASE_OBJ_BASE e.1 e.2, s.f F.PLC_ENT_SIZE_SIZE e.1 e.2, s.f F.PLC_ENT_TARGET_TARGET e.1 e.2,
    s.f F.PLC_ENT_CTL_TIER e.1 e.2)

/-- An entry of HBM with RO = 0. -/
def State.entOwnsHbm (s : State) (e : Nat × Nat) : Bool := (s.ent e).2.2.2 == 0 && !s.fb F.PLC_ENT_CTL_RO e.1 e.2

/-- The HBM ranges of two entries overlap. -/
def State.entHbmOverlap (s : State) (e d : Nat × Nat) : Bool :=
  overlap (s.ent e).2.2.1 (s.ent e).2.1 (s.ent d).2.2.1 (s.ent d).2.1

/-- Code 4 of R196 for a placement entry. -/
def State.entMisplaced (s : State) (e : Nat × Nat) : Bool :=
  let (base, size, target, tier) := s.ent e
  let last := (target + size) / 65536 - 1
  decide (size = 0) || base % 65536 != 0 || size % 65536 != 0 || target % 65536 != 0 ||
  decide (base < 0xC0000000000) || decide (0xE0000000000 < base + size) ||
  (match tier with
    | 0 => decide (hbmSize < target + size)
    | 2 => if s.fb F.PLC_ENT_CTL_SPREAD e.1 e.2 then decide (2 ^ 40 < (last / 2 + 1) * 65536) else decide (2 ^ 40 < target + size)
    | _ => false)

/-- Code 4 of R196 for a range of a borrow or lend entry. -/
def rangeBad (base size : Nat) : Bool :=
  decide (size = 0) || base % 65536 != 0 || size % 65536 != 0 || decide (hbmSize < base + size)

def State.winPair (s : State) (c : Nat) : Nat × Nat := (s.f F.PLC_WIN_BASE c, s.f F.PLC_WIN_SIZE c)

/-- Code 3 of R196 for the window of context c. -/
def winBad (s t : State) (c : Nat) : Bool :=
  let (b, n) := t.winPair c
  decide (48 < b + n) ||
  (List.range 4).any (fun d => decide (d ≠ c) && overlap b n (t.winPair d).1 (t.winPair d).2) ||
  (decide (s.winPair c ≠ t.winPair c) && s.ctxs.any (fun e => decide (e.1.2 = c ∧ e.2.phase ≠ .empty)))

/-- Valid borrow or lend entries. -/
def State.borrows (s : State) : List Nat := (List.range 64).filter (fun i => s.fb F.PLC_BOR_CTL_VALID i)

def State.lends (s : State) : List Nat := (List.range 64).filter (fun i => s.fb F.PLC_LEND_CTL_VALID i)

/-- Lend entries whose range is lent, or is to be: valid, active or revoking (R201). -/
def State.lent (s : State) : List Nat :=
  (List.range 64).filter (fun i => s.fb F.PLC_LEND_CTL_VALID i || decide (2 ≤ s.f F.PLC_LEND_CTL_STATE i))

def State.lendRange (s : State) (i : Nat) : Nat × Nat := (s.f F.PLC_LEND_BASE_LOCAL_BASE i, s.f F.PLC_LEND_SIZE_SIZE i)

/-- An entry's number with what kind it is, for naming the offender: placement, borrow, lend. -/
def plcStaged (st : List Reg) (kind : RegName → Bool) (i j : Nat) : Bool := st.any (fun r => kind r.name && r.i == i && r.j == j)

def isEntReg : RegName → Bool
  | .PLC_ENT_CTL | .PLC_ENT_BASE | .PLC_ENT_SIZE | .PLC_ENT_TARGET => true
  | _ => false

def isBorReg : RegName → Bool
  | .PLC_BOR_CTL | .PLC_BOR_BASE | .PLC_BOR_SIZE => true
  | _ => false

def isLendReg : RegName → Bool
  | .PLC_LEND_CTL | .PLC_LEND_BASE | .PLC_LEND_SIZE => true
  | _ => false

/-- Block 2: R187 and R196, code by code; codes 6 and 7 of entries that are not valid too. -/
def checkPlc (s t : State) (st : List Reg) : Option Refused :=
  let es := t.allEntries
  let all := (t.listed .PLC_ENT_CTL).map (fun r => (r.i, r.j))
  let stagedE (e : Nat × Nat) : Bool := plcStaged st isEntReg e.1 e.2
  let stagedL (i : Nat) : Bool := plcStaged st isLendReg i 0
  let ofEnt (code : Nat) (l : List (Nat × Nat)) : Option Refused := (firstStaged stagedE l).map (fun e => ⟨2, code, e.1, e.2, 0⟩)
  let ofLend (code : Nat) (l : List Nat) : Option Refused := (firstStaged stagedL l).map (fun i => ⟨2, code, 0, i, 0⟩)
  let first (l : List (Option Refused)) : Option Refused := l.findSome? id
  first [
    ofEnt 1 (es.filter (fun e => es.any (fun d => decide (d ≠ e) && d.1 == e.1 && overlap (t.ent e).1 (t.ent e).2.1 (t.ent d).1 (t.ent d).2.1))),
    ofEnt 2 (es.filter (fun e => t.entOwnsHbm e && es.any (fun d => d.1 != e.1 && t.entOwnsHbm d && t.entHbmOverlap e d))),
    (firstStaged (fun c => st.any (fun r => r.name = .PLC_WIN && r.i == c)) ((List.range 4).filter (winBad s t))).map (fun c => ⟨2, 3, c, 0, 0⟩),
    ofEnt 4 (es.filter t.entMisplaced),
    (firstStaged (fun i => plcStaged st isBorReg i 0) (t.borrows.filter (fun i =>
      rangeBad (t.f F.PLC_BOR_BASE_REMOTE_BASE i) (t.f F.PLC_BOR_SIZE_SIZE i)))).map (fun i => ⟨2, 4, 0, i, 0⟩),
    ofLend 4 (t.lends.filter (fun i => rangeBad (t.lendRange i).1 (t.lendRange i).2)),
    ofLend 5 (t.lent.filter (fun i =>
      t.lent.any (fun j => decide (j ≠ i) && overlap (t.lendRange i).1 (t.lendRange i).2 (t.lendRange j).1 (t.lendRange j).2) ||
      es.any (fun e => (t.ent e).2.2.2 == 0 && overlap (t.lendRange i).1 (t.lendRange i).2 (t.ent e).2.2.1 (t.ent e).2.1))),
    ofEnt 6 (all.filter (fun e => decide (63 < t.f F.PLC_ENT_CTL_B_FIRST e.1 e.2 + t.f F.PLC_ENT_CTL_B_COUNT_M1 e.1 e.2))),
    ofEnt 7 (all.filter (fun e => (t.ent e).2.2.2 == 3)),
    ofLend 7 ((List.range 64).filter (fun i => t.f F.PLC_LEND_CTL_NOTICE i == 0))]

/-- Block 3: an owner changes only while its channel is idle with an empty shadow set (R209). -/
def checkDma (s t : State) (st : List Reg) : Option Refused :=
  if st.any (fun r => r.name = .DMA_OWNER && (List.range 16).any (fun ch =>
    s.chOwner r.i ch != t.chOwner r.i ch && (s.chState r.i ch != 0 || s.shadow r.i ch != 0)))
  then some ⟨3, 0, 0, 0, 0⟩ else none

/-- A segment's addresses, valid or not (R244, code 1). -/
def State.segMisplaced (s : State) (e : Nat × Nat) : Bool :=
  let n := s.segPages e.1 e.2
  let base := s.f F.KV_SEG_BASE_BASE e.1 e.2
  let cnt := s.f F.KV_SEG_CNT_ADDR e.1 e.2
  let ring := s.f F.KV_SEG_RING_ADDR e.1 e.2
  let stop := base + 16384 * n
  base % 16384 != 0 || cnt % 64 != 0 || ring % 64 != 0 ||
  !(decide (stop ≤ hbmSize) || (decide (0xC0000000000 ≤ base) && decide (stop ≤ 0xE0000000000))) ||
  decide (hbmSize < cnt + 8 * n) || decide (hbmSize < ring + 4 * n)

/-- The protected ranges of a pool with their segment: the control block first. -/
def State.poolRanges (s : State) (p : Nat) : List (Nat × Nat × Nat) :=
  (if s.poolOn p then [(0, s.allocKey p 0, 64)] else []) ++
  ((List.range 8).filter (s.segOk p)).flatMap (fun i =>
    [(i, s.countKey p i 0, 8 * s.segPages p i), (i, s.ringKey p i 0, 4 * s.segPages p i)])

/-- Code 3 of R244 for a segment that is valid now. -/
def segMoved (s t : State) (e : Nat × Nat) : Bool :=
  s.segOk e.1 e.2 &&
  (if t.segOk e.1 e.2 then
    s.f F.KV_SEG_BASE_BASE e.1 e.2 != t.f F.KV_SEG_BASE_BASE e.1 e.2 || s.segPages e.1 e.2 != t.segPages e.1 e.2 ||
    s.f F.KV_SEG_CNT_ADDR e.1 e.2 != t.f F.KV_SEG_CNT_ADDR e.1 e.2 || s.f F.KV_SEG_RING_ADDR e.1 e.2 != t.f F.KV_SEG_RING_ADDR e.1 e.2
   else s.f F.KV_SEG_STATUS_FREE e.1 e.2 != s.segPages e.1 e.2)

/-- Code 3 of R244 for a pool with a segment that is valid and stays so. -/
def poolMoved (s t : State) (p : Nat) : Bool :=
  (List.range 8).any (fun i => s.segOk p i && t.segOk p i) &&
  ((s.poolOn p && !t.poolOn p) || s.f F.KV_POOL_CFG_OWNER p != t.f F.KV_POOL_CFG_OWNER p)

/-- Block 4: R244, code by code, the lowest pool and segment first. -/
def checkKv (s t : State) : Option Refused :=
  let pools := List.range 16
  let pairs := pools.flatMap (fun p => (List.range 8).map (fun i => (p, i)))
  let all := pools.flatMap (fun p => (t.poolRanges p).map (fun r => (p, r)))
  let numbered := (List.range all.length).zip all
  let lent (r : Nat × Nat × Nat) : Bool := t.lent.any (fun i => overlap r.2.1 r.2.2 (hbmKey (t.lendRange i).1) (t.lendRange i).2)
  let clash (e : Nat × Nat × Nat × Nat × Nat) : Bool :=
    lent e.2.2 || numbered.any (fun d => d.1 != e.1 && overlap e.2.2.2.1 e.2.2.2.2 d.2.2.2.1 d.2.2.2.2)
  let cb (p : Nat) : Bool := t.f F.KV_POOL_CB_ADDR p % 64 != 0 || decide (hbmSize < t.f F.KV_POOL_CB_ADDR p + 64)
  let name (code : Nat) (e : Option (Nat × Nat)) : Option Refused := e.map (fun e => ⟨4, code, e.1, e.2, 0⟩)
  let first (l : List (Option Refused)) : Option Refused := l.findSome? id
  first [
    name 1 (pools.findSome? (fun p => if cb p then some (p, 0)
      else ((List.range 8).find? (fun i => t.segMisplaced (p, i))).map (fun i => (p, i)))),
    name 2 ((numbered.find? clash).map (fun e => (e.2.1, e.2.2.1))),
    name 3 (pools.findSome? (fun p => if poolMoved s t p then some (p, 0) else pairs.find? (fun e => e.1 == p && segMoved s t e))),
    name 4 (pools.findSome? (fun p =>
      if t.poolOn p && !t.segOk p (t.f F.KV_POOL_CFG_APPEND_SEG p) then some (p, 0)
      else ((List.range 8).find? (fun i => t.segOk p i && t.segPages p i == 0)).map (fun i => (p, i))))]

/-- Valid translation entries: context, identifier, counter. -/
def State.xlates (s : State) : List (Nat × Nat × Nat) :=
  ((s.listed .COL_XLATE).filter (fun r => s.fb F.COL_XLATE_VALID r.i r.j)).map (fun r => (r.i, r.j, s.f F.COL_XLATE_PHYS r.i r.j))

/-- A counter holds entries, DONE bits or arrivals. -/
def State.ctrBusy (s : State) (k : Nat) : Bool :=
  [F.COL_CTR_STATE_C0, F.COL_CTR_STATE_C1, F.COL_CTR_STATE_DONE0, F.COL_CTR_STATE_DONE1, F.COL_CTR_ARR_A0, F.COL_CTR_ARR_A1].any
    (fun x => s.f x k != 0)

/-- Some core holds an outstanding entry on the identifier. -/
def State.idBusy (s : State) (c id : Nat) : Bool := s.waits.any (fun e => e.1.2 == c && e.2.any (fun w => w.id == id))

/-- The most cores that counter k may count. -/
def State.scopeSize (s : State) (k : Nat) : Nat := (s.scopeCores k).length

/-- Block 5: Table COL-3, code by code. -/
def checkCol (s t : State) (st : List Reg) : Option Refused :=
  let xs := t.xlates
  let xl := st.filter (fun r => r.name = .COL_XLATE && s.reg r != t.reg r)
  let ks := (st.filter (fun r => (r.name = .COL_CTR_CFG || r.name = .COL_CTR_HOME) && s.reg r != t.reg r)).map (·.i)
  let stagedX (x : Nat × Nat × Nat) : Bool := st.contains ⟨.COL_XLATE, x.1, x.2.1, 0⟩
  let phys (u : State) (r : Reg) : List Nat := if u.fb F.COL_XLATE_VALID r.i r.j then [u.f F.COL_XLATE_PHYS r.i r.j] else []
  let busyX (r : Reg) : Bool := s.idBusy r.i r.j || (phys s r ++ phys t r).any s.ctrBusy
  let busyK (k : Nat) : Bool := s.ctrBusy k || ((s.colName k).map (fun e => s.idBusy e.1 e.2)).getD false
  let name (code : Nat) (x : Option (Nat × Nat × Nat)) : Option Refused := x.map (fun x => ⟨5, code, x.1, x.2.1, x.2.2⟩)
  let ctrs := (t.listed .COL_CTR_CFG).filter (fun r => t.fb F.COL_CTR_CFG_VALID r.i)
  let badCtr (r : Reg) : Bool :=
    let k := r.i
    let n := t.f F.COL_CTR_CFG_COUNT k
    decide (n = 0) || decide (t.scopeSize k < n) || (t.fb F.COL_CTR_CFG_XMOD k && decide (k < 768)) ||
      (t.fb F.COL_CTR_CFG_HOME k && t.f F.COL_CTR_CFG_MODULES k == 0)
  let first (l : List (Option Refused)) : Option Refused := l.findSome? id
  first [
    name 1 (firstStaged stagedX (xs.filter (fun x => xs.any (fun y => decide (y ≠ x) && y.2.2 == x.2.2)))),
    name 2 (firstStaged stagedX (xs.filter (fun x => !t.fb F.COL_CTR_CFG_VALID x.2.2))),
    name 3 (((sortBy Reg.offset (xl.filter busyX)).head?).map (fun r => (r.i, r.j, t.f F.COL_XLATE_PHYS r.i r.j))),
    name 3 ((sortNats (ks.filter busyK)).head?.map (fun k => (((s.colName k).map (·.1)).getD 0, ((s.colName k).map (·.2)).getD 0, k))),
    name 4 ((firstStaged (fun r => st.contains r) (ctrs.filter badCtr)).map (fun r => (0, 0, r.i)))]

/-- A valid multicast entry is malformed (R333). -/
def State.mgBad (s : State) (g : Nat) : Bool :=
  s.fb F.NET_MG_CTL_VALID g && (s.reg ⟨.NET_MG_UP, g, 0, 0⟩ &&& s.reg ⟨.NET_MG_FWD, g, 0, 0⟩) != 0

/-- A valid mirror entry is malformed (R341). -/
def State.mirBad (s : State) (m : Nat) : Bool :=
  s.fb F.NET_MIR_CTL_VALID m &&
  (s.f F.NET_MIR_BASE_BASE m % 65536 != 0 || s.f F.NET_MIR_SIZE_SIZE m % 65536 != 0 ||
   decide (hbmSize < s.f F.NET_MIR_BASE_BASE m + s.f F.NET_MIR_SIZE_SIZE m) ||
   decide (s.f F.PLC_BOR_SIZE_SIZE (s.f F.NET_MIR_CTL_BORROW m) < s.f F.NET_MIR_OFF_OFF m + s.f F.NET_MIR_SIZE_SIZE m))

/-- Block 7: R319, of every candidate that touches the block (R392). -/
def checkNet (t : State) : Option Refused :=
  let base := t.f F.NET_NODE_TBL_BASE
  let n := t.f F.NET_NODE_CNT_COUNT
  let code :=
    if base % 64 ≠ 0 ∨ hbmSize < base + 32 * n then 1
    else if t.allEntries.any (fun e => t.entOwnsHbm e && overlap base (32 * n) (t.ent e).2.2.1 (t.ent e).2.1) then 2
    else if 1048576 < n ∨ n ≤ t.node then 3
    else if !t.nodeKnown t.node || t.nodeAddr t.node != t.netAddr then 4
    else if t.f F.NET_MAC_BASE_MAC % 64 ≠ 0 || (List.range 64).any t.mgBad || (List.range 8).any t.mirBad then 5
    else 0
  if code = 0 then none else some ⟨7, code, 0, 0, 0⟩

/-- Bits and bound of a CAL_USER field (Table REL-5): first bits and width of each tap or value, and the bound. -/
def calFields (i : Nat) : List Nat × Nat × Nat :=
  if i < 128 then ([0], 16, 32) else if i < 176 then ([0], 16, 50) else if i < 320 then ([0, 8, 16], 8, 4)
  else if i = 320 then ([0], 32, 2000) else ([0], 16, 10000)

/-- An offset outside its bound (R380). -/
def calOutside (i : Nat) (v : Word) : Bool :=
  let (los, len, bound) := calFields i
  los.any (fun lo => decide (bound < (signedN len (bits v lo len)).natAbs))

/-- A reserved bit of an offset is set. -/
def calReserved (i : Nat) (v : Word) : Bool :=
  let (los, len, _) := calFields i
  los.foldl (fun v lo => setBits v lo len 0) v != 0

/-- Block 8: R380. -/
def checkCal (t : State) (st : List Reg) : Option Refused :=
  let is := sortNats ((st.filter (fun r => r.name = .CAL_USER)).map (·.i))
  let user (i : Nat) : Word := t.reg ⟨.CAL_USER, i, 0, 0⟩
  let name (code : Nat) (i : Option Nat) : Option Refused := i.map (fun i => ⟨8, code, i, 0, 0⟩)
  (name 1 (is.find? (fun i => calOutside i (user i)))).orElse (fun _ => name 2 (is.find? (fun i => calReserved i (user i))))

/-- The block whose check covers a staged register (Table TXN-2); 6, VEC, has none. -/
def rtBlock : RegName → Nat
  | .FRM_PERIOD | .FRM_SCHED_LEN | .FRM_SCHED_A | .FRM_SCHED_B => 1
  | .DMA_OWNER => 3
  | .KV_POOL_CFG | .KV_POOL_CB | .KV_SEG_CTL | .KV_SEG_BASE | .KV_SEG_CNT | .KV_SEG_RING => 4
  | .COL_XLATE | .COL_CTR_CFG | .COL_CTR_HOME => 5
  | .VEC_SEED => 6
  | .CAL_USER => 8
  | .PLC_HOST_BASE | .PLC_WIN => 2
  | n => if isEntReg n || isBorReg n || isLendReg n then 2 else 7

/-- The candidate state of a staged set. -/
def State.candidate (s : State) (st : List (Reg × Word)) : State := st.foldl (fun s e => s.putRt e.1 e.2) s

/-- The checks of the blocks that a staged set touches, in the order of Table TXN-2; a lend entry concerns the page pools
too (R244, code 2). -/
def State.txnCheck (s : State) (o : Nat) : Option Refused :=
  if s.fb F.TXN_STATUS_CONFLICT o || s.fb F.TXN_STATUS_OVERFLOW o then some ⟨9, 0, 0, 0, 0⟩ else
  let staged := (s.txn o).staged
  let t := s.candidate staged
  let st := staged.map (·.1)
  let touched (b : Nat) : Bool := st.any (fun r => rtBlock r.name == b)
  let lend := st.any (fun r => isLendReg r.name)
  let run (b : Nat) (check : Unit → Option Refused) : Option Refused :=
    if touched b || (b == 4 && lend) then check () else none
  [run 1 (fun _ => checkFrm t), run 2 (fun _ => checkPlc s t st), run 3 (fun _ => checkDma s t st), run 4 (fun _ => checkKv s t),
   run 5 (fun _ => checkCol s t st), run 7 (fun _ => checkNet t), run 8 (fun _ => checkCal t st)].findSome? id

/-- The refusal register and event of the failing block (R392, step 3). -/
def State.refusal (s : State) (x : Refused) : State :=
  match x.block with
  | 2 => (((s.setF F.PLC_REFUSE_CODE x.code).setF F.PLC_REFUSE_CTX x.a).setF F.PLC_REFUSE_ENTRY x.b).event F.PLC_EVENT_REFUSED
  | 4 => (((s.setF F.KV_REFUSE_CODE x.code).setF F.KV_REFUSE_POOL x.a).setF F.KV_REFUSE_SEG x.b).event F.KV_EVENT_REFUSED
  | 5 => ((((s.setF F.COL_REFUSE_CODE x.code).setF F.COL_REFUSE_CTX x.a).setF F.COL_REFUSE_ID x.b).setF F.COL_REFUSE_PHYS x.c).event F.COL_EVENT_REFUSED
  | 7 => (s.setF F.NET_REFUSE_CODE x.code).event F.NET_EVENT_REFUSED
  | 8 => ((s.setF F.CAL_REFUSE_CODE x.code).setF F.CAL_REFUSE_INDEX x.a).event F.CAL_EVENT_REFUSED
  | _ => s

/-! ### What follows from applied values -/

/-- Nodes with a flow whose entry changed ADDR or LINKS between s and t (R339). -/
def movedNodes (s t : State) : List Nat :=
  let nodes := (s.openFlows.map (fun e => e.2.key.node) ++ s.flowWait.map (fun e => e.1.node) ++ s.rflows.map (·.node)).eraseDups
  nodes.filter (fun n => s.nodeKnown n != t.nodeKnown n || s.read (s.nodeKey n 0) 24 != t.read (t.nodeKey n 0) 24)

/-- A translation entry became valid or changed: the counter it names, the one it named before, and the round tags of the
identifier restart (R268). An entry that is invalid names no counter. -/
def State.colReset (s0 s : State) (c i : Nat) : State :=
  let s := if s0.fb F.COL_XLATE_VALID c i then s.ctrClear (s0.f F.COL_XLATE_PHYS c i) else s
  let s := if s.fb F.COL_XLATE_VALID c i then s.ctrClear (s.f F.COL_XLATE_PHYS c i) else s
  (s.tags.filter (fun e => decide (e.1.2.1 = c ∧ e.1.2.2 = i))).foldl (fun s e =>
    s.setColTag e.1.1 c i { e.2 with tag := 0 }) s

/-- The cairn record of a calibration change: index, old and new offset (Table REL-7). -/
def State.calRecord (s : State) (i : Nat) (old new : Word) : State :=
  let s : State := { s with stw := { s.stw with cal := SMap.set id 0 s.stw.cal i new } }
  s.cairn 12 (toLE 8 i ++ toLE 8 old.toNat ++ toLE 8 new.toNat)

/-- A committed change of the IEEE 1588 settings restarts the protocol (R334): a receiver that was locked is so no longer, and
the time base is held over (R45). -/
def State.ptpRestart (s : State) : State :=
  if s.f F.FRM_SYNC_STATUS_STATE ≠ 2 then s else (s.setF F.FRM_SYNC_STATUS_STATE 3).event F.FRM_EVENT_HOLDOVER

/-- What follows from applying register r at tick n; s is the state before the transaction. -/
def State.applied (s0 : State) (n : Nat) (s : State) (r : Reg) : State :=
  match r.name with
  | .FRM_SCHED_LEN | .FRM_SCHED_A | .FRM_SCHED_B => s.setF F.FRM_SCHED_EPOCH_EPOCH n
  | .KV_SEG_CTL => if s.segOk r.i r.j && !s0.segOk r.i r.j then s.segStart r.i r.j else s
  | .KV_POOL_CFG | .KV_POOL_CB =>
    s.freeWords r.i
  | .COL_XLATE => if s.reg r = s0.reg r then s else State.colReset s0 s r.i r.j
  | .NET_PORT_CFG =>
    if s.f F.NET_PORT_CFG_ENABLE r.i ≠ s0.f F.NET_PORT_CFG_ENABLE r.i ∨ s.f F.NET_PORT_CFG_MODE r.i ≠ s0.f F.NET_PORT_CFG_MODE r.i
    then s.portDown r.i else s
  | .NET_PTP_CFG | .NET_PTP_TX => if s.reg r = s0.reg r then s else s.ptpRestart
  | .NET_MIR_CTL => if s.fb F.NET_MIR_CTL_VALID r.i then s else s.setF F.NET_MIR_CTL_BROKEN 0 r.i
  | .CAL_USER => if s.reg r = s0.reg r then s else s.calRecord r.i (s0.reg r) (s.reg r)
  | _ => s

/-- Loan entries of an applied set, once each (R200). A commit that changes the node, base or size of a loan in force leaves
its STATE: traffic and matching go by the new fields (DESIGN CHOICE, log entry 78). -/
def State.loansApplied (s0 : State) (n : Nat) (st : List Reg) (s : State) : State :=
  let lends := ((st.filter (fun r => isLendReg r.name)).map (·.i)).eraseDups
  let bors := ((st.filter (fun r => isBorReg r.name)).map (·.i)).eraseDups
  let s := lends.foldl (fun s i => s.lendCommit i n (s0.fb F.PLC_LEND_CTL_VALID i) (st.contains ⟨.PLC_LEND_CTL, i, 0, 0⟩)) s
  bors.foldl (fun s i => s.borrowCommit i (s0.f F.PLC_BOR_CTL_LENDER i) (s0.f F.PLC_BOR_BASE_REMOTE_BASE i) (s0.f F.PLC_BOR_SIZE_SIZE i)) s

/-- A transaction taken at tick n (R392): refused, or applied whole. -/
def State.txnTake (s : State) (o n : Nat) : State :=
  match s.txnCheck o with
  | some x => ((s.refusal x).txnEnd o 3 x.block).event F.TXN_EVENT_ROLLBACK o
  | none =>
    let staged := (s.txn o).staged
    let st := staged.map (·.1)
    let t := s.candidate staged
    let t := st.foldl (fun t r => State.applied s n t r) t
    let t := State.loansApplied s n st t
    let t := (movedNodes s t).foldl State.nodeReset t
    let t := if st.any (fun r => rtBlock r.name == 7) then t.netFlush.pfcAll else t
    let t := (t.txnEnd o 1 0).setF F.TXN_APPLY_FRAME_FRAME n o
    (t.addF F.TXN_COUNT_APPLIED 1 o).event F.TXN_EVENT_DONE o

/-- The timeout of R393 at tick n. -/
def State.txnTimeout (s : State) (o n : Nat) : State :=
  if s.txnState o = 1 ∧ s.f F.TXN_OPEN_FRAME_FRAME o + (s.txn o).timeout ≤ n then
    (s.txnEnd o 4 0).event F.TXN_EVENT_ROLLBACK o
  else s

/-- TXN_TIMEOUT (R37, R393): at a tick that has reached the frame. -/
def execTxnTimeout (o : Nat) (s : State) : Host.Outcome State Fault Refusal :=
  if s.atTick && decide (o < 3) then .next (s.txnTimeout o s.clk.frame) else .next s

/-- Owners of committed transactions, in the order of their COMMITs (R391). -/
def State.txnOrderList (s : State) : List Nat :=
  sortBy (fun o => (s.txn o).order) ((List.range 3).filter (fun o => s.txnState o == 2))

/-- Timeouts, then commits, of action 4 of tick n (R391 to R393). -/
def State.txnAction (s : State) (n : Nat) : State :=
  let s := iter 3 (fun o s => s.txnTimeout o n) s
  s.txnOrderList.foldl (fun s o => s.txnTake o n) s

/-- The transaction of an owner ends by a reset (R389). -/
def State.txnReset (s : State) (o : Nat) : State := if s.txnState o = 0 then s else s.txnEnd o 5 0

/-- The period that the transactions committed so far put into effect (R40). -/
def State.periodToCome (s : State) : Nat :=
  (s.txnOrderList.foldl (fun s o =>
    match s.txnCheck o with
    | some _ => s
    | none => s.candidate (s.txn o).staged) s).f F.FRM_PERIOD_PERIOD

end Sys2Proof.Machine
end

