-- ==== Sys2Proof/Machine/Boot.lean ====
section
/-! DEFINITION. Start-up and reset: firmware images, the repair record, the cold start, warm reset, port reset (R347,
R357 to R361, R374, R377, R379, R382). -/

namespace Sys2Proof.Machine

/-! ### Lifetime counters (R382) -/

/-- A wear in sixteenths of an equivalent hour. -/
def wearSixteenths (w : Nat) : Nat := w / 2 ^ 64 / 225

/-- The LIFE registers take the steward's counters. -/
def State.lifeMirror (s : State) : State :=
  let x := s.stw.life
  let s := s.setF F.LIFE_POH_HOURS (x.seconds / 3600)
  let s := (s.setF F.LIFE_CYCLES_POWER x.power).setF F.LIFE_CYCLES_THERMAL x.thermal
  let s := iter 2 (fun d s => s.setF F.LIFE_WEAR_WEAR (wearSixteenths (SMap.get 0 x.wear d)) d) s
  let s := iter 12 (fun i s => (s.setF F.LIFE_HBM_CE_COUNT (SMap.get 0 x.ce i) i).setF F.LIFE_HBM_UE_COUNT (SMap.get 0 x.ue i) i) s
  let s := (s.setF F.LIFE_REPAIRS_SPARES x.spares).setF F.LIFE_REPAIRS_RETIRED x.retired
  let s := (s.setF F.LIFE_REPAIRS_ROWS x.rows).setF F.LIFE_REPAIRS_HBM_PPR x.ppr
  (s.setF F.LIFE_STATUS_LOG_SEQ s.stw.logSeq).setF F.LIFE_STATUS_UTC_VALID s.stw.utcOk.toNat

/-- The steward commits the counters to its store. -/
def State.lifeCommit (s : State) : State := { s with stw := { s.stw with stored := s.stw.life } }

/-! ### Firmware images (R360, R361) -/

/-- The number of slot ab, 0 A or 1 B, of image type 1 to 3. -/
def fwSlot (type ab : Nat) : Nat := 2 * (type - 1) + ab

/-- n bytes of a slot from offset o. -/
def State.fwRead (s : State) (slot o n : Nat) : List Byte :=
  (List.range n).map (fun i =>
    let k := slot * 2 ^ 26 + o + i
    (SMap.get none s.stw.fw k).getD (Config.storeByte k))

/-- Bytes written to a slot from offset o: the image it now holds has not run. -/
def State.fwStore (s : State) (slot o : Nat) (bs : List Byte) : State :=
  let fw := ((List.range bs.length).zip bs).foldl (fun m e => SMap.set id none m (slot * 2 ^ 26 + o + e.1) (some e.2)) s.stw.fw
  { s with stw := { s.stw with fw := fw, ran := s.stw.ran.filter (· ≠ slot) } }

/-- A field of an image's header (Table HOST-11). -/
def State.fwN (s : State) (slot o n : Nat) : Nat := ofLE (s.fwRead slot o n)

/-- The header that the signatures cover. -/
def State.fwHeader (s : State) (slot : Nat) : List Byte := s.fwRead slot 0 256

def State.fwSvn (s : State) (slot : Nat) : Nat := s.fwN slot 8 4

/-- The first check of R360 that an image fails; 0 where it passes all. A payload above 32 MiB fails its hash check. -/
def State.fwVerify (s : State) (type ab : Nat) : Nat :=
  let n := fwSlot type ab
  let keys := s.fwN n 7 1
  let ed := s.fwRead n 0x100 32
  let mldsa := s.fwRead n 0x120 1952
  let len := s.fwN n 0x10 8
  if s.fwN n 0 4 ≠ 0x4B4D4657 ∨ s.fwN n 4 2 ≠ 1 ∨ s.fwN n 6 1 ≠ type ∨ !bitN (s.fwN n 0x18 8) 0 then 1
  else if sha384 ed ≠ Config.edKeyHash (bitsN keys 0 2) ∨ s.stw.edRevoked.contains (bitsN keys 0 2) then 2
  else if sha384 mldsa ≠ Config.mldsaKeyHash (bitsN keys 2 2) ∨ s.stw.mldsaRevoked.contains (bitsN keys 2 2) then 3
  else if !edValid ed (s.fwHeader n) (s.fwRead n 0x8C0 64) then 4
  else if !mldsaValid mldsa (s.fwHeader n) (s.fwRead n 0x900 3309) then 5
  else if 2 ^ 25 < len ∨ sha512 (s.fwRead n 0x2000 len) ≠ s.fwRead n 0x20 64 then 6
  else if s.fwSvn n < SMap.get 0 s.stw.svn type then 7
  else 0

/-- The slot marked active of an image type. -/
def State.fwActive (s : State) (type : Nat) : Nat := SMap.get 0 s.stw.active type

/-- The verified copy of an image type: its slot and header; none where none verified. -/
def State.fwCopy (s : State) (type : Nat) : Option (Nat × List Byte) := SMap.get none s.stw.running type

/-- An image type starts: the active slot, else the other; none where neither verifies (R360). -/
def State.fwStart (s : State) (type : Nat) : Bool × State :=
  let ab := s.fwActive type
  let fails (s : State) : State := s.event F.HIF_EVENT_FW_FAIL
  let runs (s : State) (copy : Option (Nat × List Byte)) : State :=
    { s with stw := { s.stw with running := SMap.set id none s.stw.running type copy, marked := s.stw.marked.filter (· ≠ type) } }
  let copy (ab : Nat) : Option (Nat × List Byte) := some (ab, s.fwHeader (fwSlot type ab))
  if s.fwVerify type ab = 0 then (true, runs s (copy ab))
  else if s.fwVerify type (1 - ab) = 0 then (true, runs (fails s) (copy (1 - ab)))
  else (false, runs (fails s) none)

/-- A slot holds the image that runs. -/
def State.fwHolds (s : State) (type ab : Nat) : Bool := s.fwCopy type == some (ab, s.fwHeader (fwSlot type ab))

/-- The images that run have run once without a FAIL code, where their slots still hold them (R361). -/
def State.fwRan (s : State) : State :=
  let slots := [1, 2, 3].flatMap (fun t => ([0, 1].filter (s.fwHolds t)).map (fwSlot t))
  if s.f F.HIF_BOOT_FAIL ≠ 0 then s else { s with stw := { s.stw with ran := (s.stw.ran ++ slots).eraseDups } }

/-! ### Failures found by self-test -/

/-- BIST_FAIL_LAST and BIST_FAIL_ADDR. -/
def State.failLast (s : State) (source : Nat) (f : Fail) : State :=
  let s := ((s.setF F.BIST_FAIL_LAST_SOURCE source).setF F.BIST_FAIL_LAST_KIND f.kind).setF F.BIST_FAIL_LAST_PHYS f.phys
  ((s.setF F.BIST_FAIL_LAST_BIT f.bit).setF F.BIST_FAIL_LAST_STEP f.step).setF F.BIST_FAIL_ADDR_ADDR f.addr

/-- A failure counted and recorded, with its cairn record of type 4. -/
def State.failFound (s : State) (source : Nat) (f : Fail) : State :=
  let s := (s.failLast source f).addF F.BIST_FAIL_COUNT_COUNT 1
  s.cairn 4 (s.regBytes ⟨.BIST_FAIL_LAST, 0, 0, 0⟩ ++ s.regBytes ⟨.BIST_FAIL_ADDR, 0, 0, 0⟩)

/-! ### Repair (R377) -/

/-- The macro, bank and row of a failing SRAM cell: a bank is chosen by bits [10:6] of the byte offset (DESIGN CHOICE for
the arrays whose banks the spec does not describe, log entry 34). -/
def failRow (f : Fail) : Nat × Nat × Nat :=
  let o := if f.kind = 1 then 8 * f.addr else f.addr
  (f.kind, o / 64 % 32, o / 2048)

/-- The failure lies in an SRAM array, which has spare rows. -/
def inSram (f : Fail) : Bool := f.kind = 0 || f.kind = 1 || f.kind = 4

/-- The failing rows of a physical core. -/
def failRows (fs : List Fail) (phys : Nat) : List (Nat × Nat × Nat) :=
  ((fs.filter (fun f => inSram f && f.phys == phys)).map failRow).eraseDups

/-- The failing rows in the bank of a row. -/
def rowsOfBank (rows : List (Nat × Nat × Nat)) (r : Nat × Nat × Nat) : Nat :=
  (rows.filter (fun x => x.1 == r.1 && x.2.1 == r.2.1)).length

/-- A core fails: a MAC block, accumulator or control array, or more rows of a bank than its 4 spares. -/
def coreFailed (fs : List Fail) (phys : Nat) : Bool :=
  fs.any (fun f => f.phys == phys && (f.kind == 2 || f.kind == 3)) ||
    (failRows fs phys).any (fun r => decide (4 < rowsOfBank (failRows fs phys) r))

/-- Spare rows in use on a core: at most 4 a bank. -/
def rowsUsed (fs : List Fail) (phys : Nat) : Nat :=
  let rows := failRows fs phys
  ((rows.map (fun r => (r.1, r.2.1))).eraseDups.map (fun b => min 4 (rowsOfBank rows (b.1, b.2, 0)))).foldl (· + ·) 0

/-- Active, failed and spare-row fields of a ridge: the sound slots, at most 8, the lowest (R5). -/
def ridgeRepair (fs : List Fail) (r : Nat) : Nat × Nat × Nat :=
  let failed := (List.range 9).filter (fun i => coreFailed fs (9 * r + i))
  let sound := ((List.range 9).filter (fun i => !failed.contains i)).take 8
  let mask (l : List Nat) : Nat := l.foldl (fun a i => a + 2 ^ i) 0
  (mask sound, mask failed, ((List.range 9).map (fun i => rowsUsed fs (9 * r + i))).foldl (· + ·) 0)

/-- The ridge's spare is in use. -/
def spareUsed (fs : List Fail) (r : Nat) : Bool := bitN (ridgeRepair fs r).1 8

/-- Cores of a ridge that no spare replaces. -/
def coresRetired (fs : List Fail) (r : Nat) : Nat := 8 - popCount 9 (ridgeRepair fs r).1

/-- A failing HBM row: bank group, bank and row (R190). -/
def failHbmRow (f : Fail) : (Nat × Nat) × (Nat × Nat) := (hbmBank f.addr, ((hbmRow f.addr).1, (hbmRow f.addr).2.1))

/-- The HBM rows repaired: of each bank group, the first that its resources reach. -/
def hbmRepaired (fs : List Fail) : List ((Nat × Nat) × (Nat × Nat)) :=
  let rows := ((fs.filter (fun f => f.kind == 6)).map failHbmRow).eraseDups
  (rows.foldl (fun acc r =>
    if (acc.filter (fun x => x.1 == r.1)).length < Config.pprRows then acc ++ [r] else acc) [])

/-- The repair record is applied: rows and failures scheduled join it; BIST_REPAIR, HIF_BOOT.ACTIVE and the lifetime
counters follow, with a cairn record for each spare used, core retired and HBM row repaired. -/
def State.applyRepair (s : State) : State :=
  let old := s.stw.record
  let new := (old ++ s.repairDue).eraseDups
  let ridges := List.range 32
  let s : State := { s with repairDue := [], stw := { s.stw with record := new } }
  let s := ridges.foldl (fun s r =>
    let (a, f, n) := ridgeRepair new r
    ((s.setF F.BIST_REPAIR_ACTIVE a r).setF F.BIST_REPAIR_FAILED f r).setF F.BIST_REPAIR_ROWS (satN 8 n) r) s
  let sum (f : Nat → Nat) : Nat := (ridges.map f).foldl (· + ·) 0
  let s := s.setF F.HIF_BOOT_ACTIVE (sum (fun r => popCount 9 (ridgeRepair new r).1))
  let word (s : State) (r : Nat) : List Byte := s.regBytes ⟨.BIST_REPAIR, r, 0, 0⟩
  let s := ridges.foldl (fun s r => if spareUsed new r && !spareUsed old r then s.cairn 5 (word s r) else s) s
  let s := ridges.foldl (fun s r => iter (coresRetired new r - coresRetired old r) (fun _ s => s.cairn 6 (word s r)) s) s
  let s := ((hbmRepaired new).filter (fun x => !(hbmRepaired old).contains x)).foldl (fun s x =>
    s.cairn 7 (toLE 8 (x.1.1 + x.1.2 * 2 ^ 16) ++ toLE 8 (x.2.1 + x.2.2 * 2 ^ 16))) s
  s.life (fun l => { l with
    spares := sum (fun r => (spareUsed new r).toNat)
    retired := sum (coresRetired new)
    rows := sum (fun r => (ridgeRepair new r).2.2)
    ppr := (hbmRepaired new).length })

/-! ### Cold start (R357, Table HOST-9) -/

/-- What survives the package losing power: the host memories, the steward's store, the failures scheduled for repair, the
pins, the queue of commands, and the model's own record. -/
def State.coldBase (s : State) : State :=
  { State.reset with
    pending := s.pending
    out := s.out
    freeCtr := s.freeCtr
    mem := s.mem.filter (fun c => decide (2 ^ 70 ≤ c.1))
    stw := s.stw
    perst := s.perst
    straps := s.straps
    repairDue := s.repairDue
    pwr := { en := s.pwr.en, input := s.pwr.input, standby := s.pwr.standby } }

/-- The package rails are down: off until PWR_EN or the input is cycled (R406). -/
def State.railsOff (s : State) : State :=
  let s := s.coldBase
  { s with pwr := { s.pwr with off := true } }

/-- The package does not run: its rails are down, or a failed step has halted its start (Table HOST-10). -/
def State.dark (s : State) : Bool := s.pwr.off || s.f F.HIF_BOOT_STATE == 3

/-- The start stops or goes on with a FAIL code and a state (Table HOST-10). -/
def State.bootFail (s : State) (code st : Nat) : State := (s.setF F.HIF_BOOT_FAIL code).setF F.HIF_BOOT_STATE st

/-- Calibration at a start (R379, R380): factory values where the record verifies, else the nominal 0; stored user
offsets. -/
def State.calLoad (s : State) (cal : Option (Nat × List Nat)) : State :=
  let s : State := match cal with
    | some (version, vs) =>
      let s := (s.setF F.CAL_STATUS_FACTORY_OK 1).setF F.CAL_STATUS_VERSION version
      ((List.range 337).zip vs).foldl (fun (s : State) e => s.setF F.CAL_FACTORY_VALUE e.2 e.1) s
    | none => s.event F.CAL_EVENT_FACTORY_BAD
  let s := s.stw.cal.foldl (fun (s : State) e => s.setReg ⟨.CAL_USER, e.1, 0, 0⟩ e.2) s
  s.setF F.CAL_STATUS_USER_LOADED 1

/-- The real-time clock at a start (R386). -/
def State.utcLoad (s : State) (utc : Option Nat) : State :=
  match utc with
  | some t => ({ s with stw := { s.stw with utc := t, utcOk := true } } : State).setF F.LIFE_STATUS_SOURCE 1
  | none => ({ s with stw := { s.stw with utcOk := false } } : State).event F.LIFE_EVENT_CLOCK_INVALID

/-- The link and host-interface images start, and the module is ready, or what Table HOST-10 gives. -/
def State.imagesStart (s : State) : State :=
  let (linkOk, s) := s.fwStart 2
  let s := s.bootFail (if linkOk then 0 else 2) 1
  let (hostOk, s) := s.fwStart 3
  (if hostOk then s else s.bootFail 3 2).fwRan

/-- The package starts, from the step that sequences its rails, while PWR_EN is asserted (R408). -/
def State.packageStart (s : State) (info : ColdInfo) : State :=
  if !s.pwr.en then { s with pwr := { s.pwr with off := true } } else
  if info.rail then s.railsOff.bootFail 4 3 else
  let s := s.applyRepair
  let s := match s.stw.sdFail with
    | some f => (s.failLast 2 f).event F.BIST_EVENT_SD_FAIL
    | none => s
  if info.hbm then s.bootFail 5 3 else s.imagesStart.lifeMirror

/-- A cold start. Where the steward too has lost power, its counters are those of the store, and it verifies its own image
and the calibration record; without a steward image the package rails stay down. -/
def State.coldStart (s : State) (info : ColdInfo) (steward : Bool) : State :=
  let s := s.coldBase
  let s := s.setF F.HIF_BOOT_PRIMARY info.primary
  if steward then
    let s : State := { s with stw := { s.stw with life := s.stw.stored, jobs := [] } }
    let (ok, s) := s.fwStart 1
    if !ok then ({ s with pwr := { s.pwr with off := true } } : State).bootFail 1 2 else
    let s := ((s.life (fun l => { l with power := l.power + 1 })).utcLoad info.utc).lifeMirror
    ((s.cairn 1 []).calLoad info.cal).packageStart info
  else
    let s := (s.life (fun l => { l with power := l.power + 1 })).setF F.LIFE_STATUS_SOURCE (if s.stw.utcOk then 1 else 0)
    ((s.lifeMirror.cairn 1 []).calLoad info.cal).packageStart info

/-- COLD_START (R357): the input enters its range. -/
def execColdStart (info : ColdInfo) (s : State) : Host.Outcome State Fault Refusal :=
  .next (({ s with pwr := { s.pwr with input := true, standby := true } } : State).coldStart info true)

/-! ### Warm reset (R359) -/

/-- The package clock: the lowest of the power target, the thermal target and the flow cap, at least PWR_CLK_MIN; below
2.5 GHz lending ends (R280). While a PLL's frequency is out of its limit the clock is held (Table REL-3). -/
def State.clockUpdate (s : State) : State :=
  if !s.pwr.pllOut.isEmpty then s else
  let floor := s.f F.PWR_CLK_MIN_MHZ
  let cap := if s.pwr.flowLow then floor else 2500
  let clk := max floor (min (min s.pwr.target s.pwr.thermal) cap)
  let cause := if 2500 ≤ clk then 0 else if s.pwr.flowLow then 3 else if s.pwr.thermal ≤ clk then 2 else 1
  let s := (s.setF F.PWR_STATUS_CLK clk).setF F.PWR_STATUS_CAUSE cause
  if clk < 2500 then (s.lendReturn 0).lendReturn 1 else s

/-- The bits of a register that a warm reset keeps: RWS fields, and the counts since cold reset. -/
def warmMask (n : RegName) : Word :=
  match n with
  | .FRM_NOW | .CORE_CYCLES | .DMA_CH_SUPPRESS | .DMA_CH_RETRIES | .BIST_FAIL_COUNT | .PWR_THR_TIME | .PWR_ENERGY
  | .HIF_BOOT | .CAL_STATUS | .CAL_FACTORY | .CAL_USER => BitVec.allOnes 64
  | n => n.info.fields.foldl (fun m x => if x.acc = .rws then setBits m x.lo x.len (2 ^ x.len - 1) else m) 0

/-- The registers that a warm reset keeps, on top of State t. -/
def State.warmRegs (s t : State) : State :=
  s.regs.foldl (fun t e =>
    let m := warmMask e.1.name
    if m = 0 then t else t.setReg e.1 ((t.reg e.1 &&& ~~~ m) ||| (s.reg e.1 &&& m))) t

/-- What a warm reset leaves before the firmware is loaded: HBM with its poison marks, the time base, the steward. -/
def State.warmBase (s : State) : State :=
  let t : State := { State.reset with
    pending := s.pending
    out := s.out
    freeCtr := s.freeCtr
    clk := { now := s.clk.now, cyc := s.clk.cyc }
    cycles := { boost := s.cycles.boost }
    mem := s.mem.filter (fun c => decide (c.1 < 2 ^ 44) || decide (2 ^ 70 ≤ c.1))
    poison := s.poison.filter (fun q => decide (q < 2 ^ 38))
    stw := { s.stw with jobs := [] }
    perst := s.perst
    straps := s.straps
    repairDue := s.repairDue
    pwr := { s.pwr with samples := [], target := 2500, thermal := 2500, sd := none } }
  s.warmRegs t

/-- A warm reset. -/
def State.warmReset (s : State) : State :=
  let t := s.warmBase
  let t := iter 3 (fun o t => if s.txnState o = 0 then t else t.setF F.TXN_STATUS_RESULT 5 o) t
  let t := (t.addF F.HIF_BOOT_WARM_COUNT 1).setF F.HIF_BOOT_WARM 1
  let t := (t.life (fun l => { l with warm := l.warm + 1 })).cairn 3 []
  let t := t.applyRepair
  -- link and host-interface firmware: the verified copy, or, where an image is pending activation or none verified, R360
  let load (t : State) (type : Nat) : Bool × State :=
    if t.stw.marked.contains type || (t.fwCopy type).isNone then t.fwStart type else (true, t)
  let (linkOk, t) := load t 2
  let t := t.bootFail (if linkOk then 0 else 2) 1
  let (hostOk, t) := load t 3
  let t := if hostOk then t else t.bootFail 3 2
  t.fwRan.lifeMirror.clockUpdate

/-- A source, 0 and 1 the ports, 2 the steward, may reset and update (R344). -/
def State.authorised (s : State) (src : Nat) : Bool :=
  decide (2 ≤ src) || src == s.f F.HIF_BOOT_PRIMARY || s.fb F.HIF_ADMIN_SEC_ADMIN

/-- A warm reset asked for: not while a shutdown is pending (R407), nor while the package does not run. -/
def State.warmRequest (s : State) : State := if s.dark || s.pwr.sd.isSome then s else s.warmReset

/-- WARM_RESET (R359). -/
def execWarmReset (src : Nat) (s : State) : Host.Outcome State Fault Refusal :=
  .next (if s.authorised src then s.warmRequest else s)

/-! ### Port reset (R347, R358) -/

/-- Ring registers of a context and port. -/
def ringNames : List RegName := [.HIF_CR_BASE, .HIF_CR_CFG, .HIF_CC_BASE, .HIF_CC_CFG, .HIF_RING_HDR, .HIF_RING_STAT, .HIF_RING_OUT]

/-- A register at its Reset column. -/
def State.clearReg (s : State) (r : Reg) : State := s.setReg r r.resetVal

/-- The configuration space, the MSI-X table, the pending vectors and the mailbox request of a port are dropped. -/
def State.portForget (s : State) (p : Nat) : State :=
  { s with
    msix := s.msix.filter (fun e => e.1.1 ≠ p)
    msixPend := s.msixPend.filter (fun e => e.1 ≠ p)
    fns := SMap.set id {} s.fns p {}
    stw := { s.stw with jobs := s.stw.jobs.filter (· ≠ .mailbox p) } }

/-- The reset of one port: its configuration space, aperture, mailbox and ring registers, and its owner's transaction. -/
def State.portReset (s : State) (p : Nat) (flr : Bool) : State :=
  let s := (s.clearReg ⟨.HIF_APT, p, 0, 0⟩).clearReg ⟨.HIF_MBX, p, 0, 0⟩
  let s := iter 4 (fun c s => ringNames.foldl (fun s n => s.clearReg ⟨n, c, p, 0⟩) s) s
  let s := if flr then s.setF F.HIF_LINK_BME 0 p else s.clearReg ⟨.HIF_LINK, p, 0, 0⟩
  let s := s.portForget p
  let s := iter 4 (fun c s => s.setSvc c { s.svc c with fetched := (s.svc c).fetched.filter (fun e => e.1 ≠ p) }) s
  let s := s.txnReset p
  if flr then s.event F.HIF_EVENT_PORT_RESET p else s

/-- PCIE_PORT_RESET (R347): a conventional reset holds PERST# until it is deasserted (R358). -/
def execPciePortReset (p : Nat) (kind : PortReset) (s : State) : Host.Outcome State Fault Refusal :=
  if 2 ≤ p then .next s else
  let s := if kind = .perst then { s with perst := s.perst.filter (· ≠ p) } else s
  if s.dark then .next s else .next (s.portReset p (kind == .flr))

/-- PERST_DEASSERT (R358): from then on the port trains once the module is ready. -/
def execPerstDeassert (p : Nat) (s : State) : Host.Outcome State Fault Refusal :=
  if p < 2 ∧ !s.perst.contains p then .next { s with perst := sortNats (p :: s.perst) } else .next s

/-- PCIE_LINK_UP (R343, R347, R358): the highest rate and the widest width that both ends support, in FLIT mode at 64 GT/s
and where both have it, with what the receiver found; a link that is up has only trained anew. -/
def execPcieLinkUp (p : Nat) (far : PcieEnd) (s : State) : Host.Outcome State Fault Refusal :=
  if 2 ≤ p || s.f F.HIF_BOOT_STATE != 1 || !s.perst.contains p || !far.ok then .next s else
  let was := s.fb F.HIF_LINK_UP p
  let speed := min 6 far.speed
  let s := (s.setF F.HIF_LINK_SPEED speed p).setF F.HIF_LINK_WIDTH (min 8 far.width) p
  let s := s.setF F.HIF_LINK_FLIT (speed == 6 || far.flit).toNat p
  let s := ((s.setF F.HIF_LINK_REVERSED far.reversed.toNat p).setF F.HIF_LINK_RX_INV far.inv p).setF F.HIF_LINK_UP 1 p
  .next (if was then s else s.event F.HIF_EVENT_PORT_RESET p)

end Sys2Proof.Machine
end

