-- ==== Sys2Proof/Machine/Power.lean ====
section
/-! DEFINITION. The input, the package power manager, temperature and flow, and the orderly shutdown (R398 to R408). -/

namespace Sys2Proof.Machine

/-! ### The package clock (R401, R402) -/

/-- The power manager lowers the clock by n steps of 25 MHz. -/
def State.powerDown (s : State) (n : Nat) : State :=
  let clk := s.f F.PWR_STATUS_CLK
  let down := max (s.f F.PWR_CLK_MIN_MHZ) (clk - 25 * n)
  let s : State := { s with pwr := { s.pwr with target := down } }
  let s := s.clockUpdate
  if down < clk then s.event F.PWR_EVENT_LIMIT else s

/-- The power limit in 0.1 mW: PWR_LIMIT, or input voltage × 37.5 A in the under-voltage band while that is lower. -/
def State.powerLimit (s : State) : Nat :=
  let limit := s.f F.PWR_LIMIT_LIMIT * 10000
  if s.fb F.PWR_STATUS_UV_BAND then min limit (s.f F.PWR_INPUT_VOLT * 3750) else limit

/-- The mean of the latest n samples. -/
def State.powerMean (s : State) (n : Nat) : Nat :=
  let l := s.pwr.samples.take n
  if l.isEmpty then 0 else l.foldl (· + ·) 0 / l.length

/-- A condition of Table ELT-6 holds a lower clock. -/
def State.clockHeld (s : State) : Bool := s.pwr.throttle || s.pwr.flowLow

/-- POWER_SAMPLE (R401): volt in 10 mV, amp in 10 mA; every 1 µs. -/
def execPowerSample (volt amp : Nat) (s : State) : Host.Outcome State Fault Refusal :=
  if s.pwr.off then .next s else
  let w := volt * amp
  let e := s.pwr.energy + w
  let s : State := { s with pwr := { s.pwr with samples := (w :: s.pwr.samples).take 1000, energy := e % 10 ^ 10 } }
  let s := (s.setF F.PWR_INPUT_VOLT (satN 16 volt)).setF F.PWR_INPUT_AMP (satN 16 amp)
  let s := (s.setF F.PWR_INPUT_P1MS (satN 16 (s.powerMean 1000 / 1000))).addF F.PWR_ENERGY_JOULES (e / 10 ^ 10)
  let s := if s.f F.PWR_STATUS_CLK < 2500 then s.addF F.PWR_THR_TIME_TIME 1 else s
  .next (if 21000000 < w then (s.event F.PWR_EVENT_EXCURSION).powerDown 10 else s)

/-- POWER_INTERVAL_DOWN (R401): the end of a 10 µs interval. -/
def execPowerIntervalDown (s : State) : Host.Outcome State Fault Refusal :=
  if s.pwr.off then .next s else
  let mean := s.powerMean 10
  let s := s.setF F.PWR_PEAK_P10US (max (s.f F.PWR_PEAK_P10US) (satN 16 (mean / 1000)))
  .next (if s.powerLimit < mean then s.powerDown 1 else s)

/-- POWER_CLOCK_STEP_UP (R401): every 100 µs. -/
def execPowerClockStepUp (s : State) : Host.Outcome State Fault Refusal :=
  let clk := s.f F.PWR_STATUS_CLK
  if s.pwr.off || decide (2500 ≤ clk) || s.clockHeld ||
      decide (s.powerLimit ≤ s.powerMean 1000 + s.f F.PWR_LIMIT_HYST * 10000) then .next s
  else .next (({ s with pwr := { s.pwr with target := clk + 25 } } : State).clockUpdate)

/-! ### The input (R398) -/

/-- INPUT_UNDER_VOLTAGE_BAND. -/
def execInputUnderVoltageBand (mv : Nat) (s : State) : Host.Outcome State Fault Refusal :=
  if s.pwr.off || !(decide (44000 ≤ mv) && decide (mv < 48000)) then .next s
  else .next (((s.setF F.PWR_INPUT_VOLT (mv / 10)).setF F.PWR_STATUS_UV_BAND 1).event F.PWR_EVENT_UV)

/-- UNDER_VOLTAGE_BAND_EXIT. -/
def execUnderVoltageBandExit (mv : Nat) (s : State) : Host.Outcome State Fault Refusal :=
  if s.pwr.off || decide (mv ≤ 48000) then .next s
  else .next ((s.setF F.PWR_INPUT_VOLT (satN 16 (mv / 10))).setF F.PWR_STATUS_UV_BAND 0)

/-- INPUT_OVER_VOLTAGE_BAND. -/
def execInputOverVoltageBand (mv : Nat) (s : State) : Host.Outcome State Fault Refusal :=
  if s.pwr.off || !(decide (59000 < mv) && decide (mv ≤ 62000)) then .next s
  else .next ((s.setF F.PWR_INPUT_VOLT (mv / 10)).event F.PWR_EVENT_OV)

/-- UNDER_VOLTAGE_CUTOFF: the rails go down at once; a cairn record of type 10. -/
def execUnderVoltageCutoff (s : State) : Host.Outcome State Fault Refusal :=
  if s.pwr.off then .next s else .next (s.cairn 10 (s.regBytes ⟨.PWR_INPUT, 0, 0, 0⟩)).railsOff

/-- OVER_VOLTAGE_CUTOFF: the input is disconnected, from the steward too. -/
def execOverVoltageCutoff (s : State) : Host.Outcome State Fault Refusal :=
  let s := s.railsOff
  .next { s with pwr := { s.pwr with input := false, standby := false } }

/-- INPUT_RECONNECT: the module starts cold. -/
def execInputReconnect (info : ColdInfo) (s : State) : Host.Outcome State Fault Refusal :=
  if s.pwr.input then .next s
  else .next (({ s with pwr := { s.pwr with input := true, standby := true } } : State).coldStart info true)

/-- STANDBY_POWER_LOSS: the steward, store and sensors stop. -/
def execStandbyPowerLoss (s : State) : Host.Outcome State Fault Refusal :=
  let s := s.railsOff
  .next { s with pwr := { s.pwr with standby := false } }

/-! ### The orderly shutdown (R406, R407) -/

/-- A shutdown is requested: pending with its notice, or, while one is pending, a thermal cause shortens the rest. -/
def State.shutdownStart (s : State) (thermal restart noNotice : Bool) : State :=
  if s.pwr.off then s else
  let limit := if noNotice then 0 else 10000000
  match s.pwr.sd with
  | some x =>
    if thermal then { s with pwr := { s.pwr with sd := some { x with due := min x.due (s.clk.now + limit) } } } else s
  | none =>
    let notice := s.f F.PWR_SD_NOTICE * 100000
    let wait := if thermal then min notice limit else notice
    let s : State := { s with pwr := { s.pwr with sd := some { thermal := thermal, restart := restart, due := s.clk.now + wait } } }
    (s.setF F.PWR_STATUS_PENDING 1).event F.PWR_EVENT_SHUTDOWN

/-- The macro test (R374): its failures join the record, and lanes that failed before are tested anew. -/
def State.macroTest (s : State) (fails : List Fail) : State :=
  let s := fails.foldl (fun s f => s.failFound 2 f) s
  { s with stw := { s.stw with
      record := (s.stw.record.filter (fun f => f.kind ≠ 5) ++ fails).eraseDups
      sdFail := fails.getLast? } }

/-- Step 3 of R406: every context halts and the ticks have stopped. -/
def State.shutdownHalt (s : State) : State :=
  let s := iter 4 (fun c s => s.haltAll c) s
  { s with clk := { s.clk with running := false } }

/-- SHUTDOWN_NOTICE_EXPIRY (R406): contexts halt and ticks stop, the macro test runs with what it finds, the counters are
committed, the rails go down; after a cold reset the module starts again at once. -/
def execShutdownNoticeExpiry (fails : List Fail) (info : ColdInfo) (s : State) : Host.Outcome State Fault Refusal :=
  match s.pwr.sd with
  | none => .next s
  | some x =>
    if s.clk.now < x.due then .next s else
    let s := s.shutdownHalt
    let s := if s.fb F.BIST_SD_CFG_EN && !x.thermal then s.macroTest fails else s
    let s := (s.lifeCommit.cairn (if x.thermal then 13 else 2) []).railsOff
    .next (if x.restart then s.coldStart info true else s)

/-- COLD_RESET (R359, R406). -/
def execColdReset (src : Nat) (s : State) : Host.Outcome State Fault Refusal :=
  .next (if s.authorised src then s.shutdownStart false true false else s)

/-- PWR_SD_REQ. -/
def execPwrSdReq (src : Nat) (s : State) : Host.Outcome State Fault Refusal :=
  .next (if s.authorised src then s.shutdownStart false false false else s)

/-- SHDN_REQ: the pin has been held for 1 ms. -/
def execShdnReq (s : State) : Host.Outcome State Fault Refusal := .next (s.shutdownStart false false false)

/-- PWR_EN_DEASSERT. -/
def execPwrEnDeassert (s : State) : Host.Outcome State Fault Refusal :=
  if !s.pwr.en then .next s
  else .next (({ s with pwr := { s.pwr with en := false } } : State).shutdownStart false false false)

/-- PWR_EN_ASSERT (R406, R408): a package that is off starts, unless the steward runs no image; the steward has run on. -/
def execPwrEnAssert (info : ColdInfo) (s : State) : Host.Outcome State Fault Refusal :=
  if s.pwr.en then .next s else
  let s : State := { s with pwr := { s.pwr with en := true } }
  .next (if s.pwr.off && s.pwr.standby && s.f F.HIF_BOOT_FAIL != 1 then s.coldStart info false else s)

/-- RAIL_FAULT (R408): every rail goes down; FAIL code 4. -/
def execRailFault (rail : Nat) (s : State) : Host.Outcome State Fault Refusal :=
  if s.pwr.off || rail == 0 || decide (7 < rail) then .next s else .next (s.railsOff.bootFail 4 3)

/-! ### Temperature, flow, leaks (R405) -/

/-- The hotter junction. -/
def State.junction (s : State) : Nat := max (s.f F.PWR_TEMP_TJ_EAST) (s.f F.PWR_TEMP_TJ_WEST)

/-- A thermal throttle's condition holds. -/
def State.hotNow (s : State) : Bool := decide (s.f F.PWR_THERM_CFG_THROTTLE ≤ s.junction) || decide (95 ≤ s.f F.PWR_TEMP_HBM)

/-- Every reading is 3 °C below its throttle level. -/
def State.coolNow (s : State) : Bool :=
  decide (s.junction + 3 ≤ s.f F.PWR_THERM_CFG_THROTTLE) && decide (s.f F.PWR_TEMP_HBM + 3 ≤ 95)

/-- A reading of die d (R384): a cycle is counted at a fall of 30 °C from a peak reached by a rise of 30 °C. -/
def State.thermalCycle (s : State) (d v : Nat) : State :=
  let low := (SMap.get none s.stw.trough d).getD v
  let (low, high, n) := match SMap.get none s.stw.peak d with
    | some p => if v + 30 ≤ p then (v, none, 1) else (low, some (max p v), 0)
    | none => if low + 30 ≤ v then (low, some v, 0) else (min low v, none, 0)
  let s : State := { s with stw := { s.stw with
    trough := SMap.set id none s.stw.trough d (some low)
    peak := SMap.set id none s.stw.peak d high } }
  s.life (fun l => { l with thermal := l.thermal + n })

/-- The throttle begins or ends. -/
def State.throttleUpdate (s : State) : State :=
  if s.hotNow && !s.pwr.throttle then
    ({ s with pwr := { s.pwr with throttle := true } } : State).event F.PWR_EVENT_THERMAL
  else if s.pwr.throttle && s.coolNow then
    ({ s with pwr := { s.pwr with throttle := false, thermal := 2500, target := s.f F.PWR_STATUS_CLK } } : State).clockUpdate
  else s

/-- THERMAL_CONDITION (R405): a reading in °C: 0 and 1 the dies, 2 the hottest stack, 3 inlet, 4 outlet. -/
def execThermalCondition (i v : Nat) (s : State) : Host.Outcome State Fault Refusal :=
  if s.pwr.off || decide (4 < i) || decide (255 < v) then .next s else
  let s := s.setF ⟨.PWR_TEMP, 8 * i, 8⟩ v
  let s := if i < 2 then s.thermalCycle i v else s
  let s := if i < 2 ∧ s.f F.PWR_THERM_CFG_WARN ≤ v then s.event F.PWR_EVENT_WARN else s
  let refresh := if i = 2 then (if 85 ≤ v then true else if v ≤ 83 then false else s.pwr.refresh) else s.pwr.refresh
  .next (({ s with pwr := { s.pwr with refresh := refresh } } : State).throttleUpdate)

/-- THERMAL_THROTTLE_STEP: once per 100 µs while the condition holds. -/
def execThermalThrottleStep (s : State) : Host.Outcome State Fault Refusal :=
  if s.pwr.off || !s.pwr.throttle || !s.hotNow then .next s
  else .next (({ s with pwr := { s.pwr with thermal := max (s.f F.PWR_CLK_MIN_MHZ) (s.f F.PWR_STATUS_CLK - 25) } } : State).clockUpdate)

/-- JUNCTION_OVERHEAT_SHUTDOWN: 105 °C for 1 s, or throttling at PWR_CLK_MIN for 10 s. -/
def execJunctionOverheatShutdown (s : State) : Host.Outcome State Fault Refusal :=
  if decide (105 ≤ s.junction) || (s.pwr.throttle && s.f F.PWR_STATUS_CLK == s.f F.PWR_CLK_MIN_MHZ) then
    .next (s.shutdownStart true false false)
  else .next s

/-- HARDWARE_TRIP: the rails go down without a shutdown; a cairn record of type 13. -/
def execHardwareTrip (s : State) : Host.Outcome State Fault Refusal :=
  if !s.pwr.off && (decide (115 ≤ s.junction) || decide (105 ≤ s.f F.PWR_TEMP_HBM)) then
    .next (s.cairn 13 (s.regBytes ⟨.PWR_TEMP, 0, 0, 0⟩)).railsOff
  else .next s

/-- FLOW_LOW: below 1.5 L/min for 1 s; v in mL/min. -/
def execFlowLow (v : Nat) (s : State) : Host.Outcome State Fault Refusal :=
  if s.pwr.off || decide (1500 ≤ v) then .next s else
  let was := s.pwr.flowLow
  let s := ({ s with pwr := { s.pwr with flowLow := true } } : State).setF F.PWR_FLOW_FLOW v
  let s := ((s.setF F.ERR_ENV_FLOW_LOW 1).event F.PWR_EVENT_FLOW).clockUpdate
  .next (if was then s else (s.event F.ERR_EVENT_ENV).cairn 10 (s.regBytes ⟨.ERR_ENV, 0, 0, 0⟩))

/-- FLOW_RESTORED: 2.0 L/min or more for 1 s; the clock then steps up under R401. -/
def execFlowRestored (v : Nat) (s : State) : Host.Outcome State Fault Refusal :=
  if s.pwr.off || decide (v < 2000) then .next s else
  let s := s.setF F.PWR_FLOW_FLOW (satN 16 v)
  if !s.pwr.flowLow then .next s
  else .next ((({ s with pwr := { s.pwr with flowLow := false, target := s.f F.PWR_STATUS_CLK } } : State).setF F.ERR_ENV_FLOW_LOW 0).clockUpdate)

/-- FLOW_LOSS_SHUTDOWN: low for 10 s, or below 0.5 L/min for 1 s, then without notice. -/
def execFlowLossShutdown (s : State) : Host.Outcome State Fault Refusal :=
  if s.pwr.flowLow then .next (s.shutdownStart true false (decide (s.f F.PWR_FLOW_FLOW < 500))) else .next s

/-- LEAK_DETECT: LEAK# has been asserted for 100 ms. -/
def execLeakDetect (s : State) : Host.Outcome State Fault Refusal :=
  if s.pwr.off then .next s else .next ((s.event F.PWR_EVENT_LEAK).shutdownStart true false false)

/-! ### Pins that follow the state (R405, R406, R409) -/

/-- THERM_ALERT# is asserted. -/
def State.thermAlert (s : State) : Bool := s.pwr.throttle || s.pwr.sd.isSome

/-- PWR_GOOD is high. -/
def State.pwrGood (s : State) : Bool := !s.pwr.off

end Sys2Proof.Machine
end

