-- ==== Sys2Proof/Machine/Host.lean ====
section
/-! DEFINITION. The host command and completion rings, the service slots, and intake pacing (R54 to R56, R348, R350 to
R356, R366). -/

namespace Sys2Proof.Machine

/-! ### Rings -/

/-- The ring of context c on port p is enabled. -/
def State.ringOn (s : State) (p c : Nat) : Bool := s.fb F.HIF_CR_CFG_ENABLE c p

/-- The key of byte o of the ring header. -/
def State.hdrKey (s : State) (p c o : Nat) : Nat := hostKey p (64 * s.f F.HIF_RING_HDR_ADDR c p + o)

/-- A 32-bit index of the ring header. -/
def State.hdr (s : State) (p c o : Nat) : Nat := s.readN (s.hdrKey p c o) 4

def State.crSize (s : State) (p c : Nat) : Nat := 2 ^ s.f F.HIF_CR_CFG_LOG2 c p

def State.ccSize (s : State) (p c : Nat) : Nat := 2 ^ s.f F.HIF_CC_CFG_LOG2 c p

/-- Command entry i of a ring. -/
def State.cmdEntry (s : State) (p c i : Nat) : List Byte :=
  s.read (hostKey p (4096 * s.f F.HIF_CR_BASE_BASE c p + 64 * (i % s.crSize p c))) 64

/-- The difference of two free-running 32-bit indices. -/
def idxDiff (a b : Nat) : Nat := (a + 2 ^ 32 - b % 2 ^ 32) % 2 ^ 32

/-- The entries that a fetch may read (R350, R351). -/
def State.fetchBound (s : State) (p c : Nat) : Nat :=
  let waiting := min (idxDiff (s.hdr p c 0) (s.f F.HIF_RING_STAT_CMD_CI c p)) (s.crSize p c)
  let room := s.ccSize p c - idxDiff (s.f F.HIF_RING_STAT_CPL_PI c p) (s.hdr p c 4) - s.f F.HIF_RING_OUT_OUTSTANDING c p
  min waiting (min (s.f F.HIF_CR_CFG_FETCH_MAX_M1 c p + 1) room)

/-- Ring (p, c) has been fetched for the next tick. -/
def State.ringFetched (s : State) (p c : Nat) : Bool := (s.svc c).fetched.any (fun e => e.1 = p)

/-- The fetch of a ring of which n entries return by the tick; the rest are late (R350). -/
def State.ringFetch (s : State) (p c n : Nat) : State :=
  if !s.ringOn p c || !s.bme p || s.ringFetched p c then s else
  let bound := s.fetchBound p c
  let ci := s.f F.HIF_RING_STAT_CMD_CI c p
  let es := (List.range (min n bound)).map (fun i => s.cmdEntry p c (ci + i))
  let x := s.svc c
  s.setSvc c { x with
    fetched := x.fetched ++ [(p, s.clk.frame, es)]
    late := if n < bound then x.late ++ [p] else x.late }

/-- HOST_RING_FETCH: from the time of the next tick less the lead. -/
def execHostRingFetch (p c n : Nat) (s : State) : Host.Outcome State Fault Refusal :=
  let period := s.f F.FRM_PERIOD_PERIOD
  let lead := min (s.f F.HIF_FETCH_LEAD_LEAD) (period / 2)
  let due := match s.clk.start with
    | some (t, _, _) => decide (t ≤ s.clk.now + lead)
    | none => s.clk.running && decide (s.clk.tickTime + period ≤ s.clk.now + lead)
  if p < 2 && decide (c < 4) && due then .next (s.ringFetch p c n) else .next s

/-- A write of v to HIF_CR_CFG (R366): LOG2 only while disabled; enabling sets CMD_CI and CPL_PI to 0. -/
def State.crCfgWrite (s : State) (p c : Nat) (v : Word) : State :=
  let was := s.ringOn p c
  let log2 := s.f F.HIF_CR_CFG_LOG2 c p
  let s := s.setReg ⟨.HIF_CR_CFG, c, p, 0⟩ (s.fieldsWrite ⟨.HIF_CR_CFG, c, p, 0⟩ v)
  if was then s.setF F.HIF_CR_CFG_LOG2 log2 c p
  else if s.ringOn p c then s.setReg ⟨.HIF_RING_STAT, c, p, 0⟩ 0
  else s

/-- HIF_CR_CFG_ENABLE. -/
def execHifCrCfgEnable (p c : Nat) (v : Word) (s : State) : Host.Outcome State Fault Refusal :=
  if p < 2 ∧ c < 4 then .next (s.crCfgWrite p c v) else .next s

/-! ### Completions (R355) -/

/-- A completion queued for the end of the tick. -/
def State.complete (s : State) (c : Nat) (x : Cpl) : State :=
  let v := s.svc c
  s.setSvc c { v with cpls := v.cpls ++ [x] }

/-- A completion written to its ring. -/
def State.cplWrite (s : State) (c : Nat) (x : Cpl) : State :=
  let p := x.port
  let pi := s.f F.HIF_RING_STAT_CPL_PI c p
  let bytes := (x.tag ++ zeroBytes 4).take 4 ++ toLE 1 x.status ++ toLE 1 x.op ++ toLE 2 0 ++ toLE 8 s.clk.frame ++
    (x.result ++ zeroBytes 16).take 16
  let s := s.write (hostKey p (4096 * s.f F.HIF_CC_BASE_BASE c p + 32 * (pi % s.ccSize p c))) bytes
  (s.addF F.HIF_RING_STAT_CPL_PI 1 c p).setF F.HIF_RING_OUT_OUTSTANDING (s.f F.HIF_RING_OUT_OUTSTANDING c p - 1) c p

/-- Some core runs context c, and it is not halted (FLAGS bit 1). -/
def State.ctxRuns (s : State) (c : Nat) : Bool :=
  !s.halted c && s.ctxs.any (fun e => decide (e.1.2 = c) && decide (e.2.phase = .running))

/-- The module's half of a ring header (Table HOST-4). -/
def State.headerWrite (s : State) (p c : Nat) : State :=
  let x := s.svc c
  let flags := s.f F.FRM_IN_LEVEL_CLOSED c + 2 * (s.ctxRuns c).toNat
  s.write (s.hdrKey p c 0x20) (toLE 4 (s.f F.HIF_RING_STAT_CMD_CI c p) ++ toLE 4 (s.f F.HIF_RING_STAT_CPL_PI c p) ++
    toLE 4 (if p = 0 then x.credit0 else x.credit1) ++ toLE 4 flags ++ toLE 8 s.clk.frame ++ zeroBytes 8)

/-- The completions of port p: dropped while its ring is disabled (R347), held while the port masters nothing (R348), else
written in the order of R355, and the ring header after them. -/
def State.ringServe (s : State) (c p : Nat) : State :=
  let x := s.svc c
  let mine := x.cpls.filter (fun e => e.port = p)
  let rest := x.cpls.filter (fun e => e.port ≠ p)
  if !s.ringOn p c then
    ((s.setSvc c { x with cpls := rest }).addF F.HIF_CPL_DROPPED_COUNT mine.length).setF F.HIF_RING_OUT_OUTSTANDING
      (s.f F.HIF_RING_OUT_OUTSTANDING c p - mine.length) c p
  else if !s.bme p then s
  else
    let s := (sortBy (fun e => 65536 * e.order + e.slot) mine).foldl (fun s e => s.cplWrite c e) (s.setSvc c { x with cpls := rest })
    let s := s.headerWrite p c
    if s.fb F.HIF_CR_CFG_VEC_EN c p && !mine.isEmpty then s.msixSend p (16 + c) else s

/-! ### Entries (R352) -/

/-- A field of an entry. -/
def entryN (e : List Byte) (o n : Nat) : Nat := ofLE ((e.drop o).take n)

/-- An entry is well formed (Table HOST-5). -/
def State.entryOk (s : State) (e : List Byte) : Bool :=
  let op := entryN e 0 1
  let len := entryN e 2 2
  let arg := entryN e 8 8
  entryN e 1 1 == 0 &&
  (match op with
    | 0 => len == 0 && arg == 0
    | 1 => decide (len ≤ 48) && arg == 0
    | 2 => decide (8 ≤ len) && decide (len ≤ 48) && len % 8 == 0 && decide (arg < 2 ^ 11) && s.coreOk (arg % 256)
    | 3 => len == 0 && decide (arg < 2 ^ 24) && bitsN arg 9 7 == 0 && decide (1 ≤ bitsN arg 16 8) && s.coreOk (arg % 256)
    | _ => false)

/-- A NOTE delivered (R262): its completion status. -/
def State.note (s : State) (c : Nat) (e : List Byte) : Nat × State :=
  let arg := entryN e 8 8
  let g := arg % 256
  let q := bitsN arg 8 3
  if s.mqClosed g c q || s.mqFull g c q then (5, s)
  else (0, s.mqAccept g c q (s.node * 2 ^ 44 + 255) ((e.drop 16).take (entryN e 2 2)) false)

/-- A TOKEN added: its completion status. -/
def State.hostToken (s : State) (c : Nat) (e : List Byte) : Nat × State :=
  let arg := entryN e 8 8
  let g := arg % 256
  let t := 30 + bitsN arg 8 1
  let n := bitsN arg 16 8
  if 4095 < s.f F.CORE_TOKEN_COUNT g c t + n then (4, s) else (0, s.token g c t n)

/-- One credit of a port used; none where it has none. -/
def State.useCredit (s : State) (p c : Nat) : Option State :=
  let x := s.svc c
  if p = 0 then (if x.credit0 = 0 then none else some (s.setSvc c { x with credit0 := x.credit0 - 1 }))
  else (if x.credit1 = 0 then none else some (s.setSvc c { x with credit1 := x.credit1 - 1 }))

/-- An entry of ring (p, c) fetched in the given frame is taken. -/
def State.takeEntry (s : State) (p c frame : Nat) (e : List Byte) : State :=
  let s := (s.addF F.HIF_RING_STAT_CMD_CI 1 c p).addF F.HIF_RING_OUT_OUTSTANDING 1 c p
  let op := entryN e 0 1
  let done (s : State) (order status : Nat) : State := s.complete c { port := p, order := order, tag := entryTag e, status := status, op := op }
  if !s.entryOk e then (done s 2 4).event F.HIF_EVENT_BAD_CMD c
  else if op = 0 then done s 2 0
  else if op = 1 then
    match s.useCredit p c with
    | none => (done s 3 1).addF F.FRM_IN_REFUSED_COUNT 1 c
    | some s =>
      let x := s.svc c
      (s.setSvc c { x with queue := x.queue ++ [{ port := p, frame := frame, bytes := e }] }).setF F.FRM_IN_LEVEL_LEVEL (x.queue.length + 1) c
  else if op = 2 then
    let (st, s) := s.note c e
    done s 2 st
  else
    let (st, s) := s.hostToken c e
    done s 2 st

/-- An entry with this OP taken from an enabled ring, at a tick (R37, R356). -/
def State.takeOp (s : State) (op p c : Nat) (e : Entry) : State :=
  if s.atTick && p < 2 && decide (c < 4) && s.ringOn p c && s.bme p && entryN e.bytes 0 1 == op then s.takeEntry p c s.clk.frame e.bytes else s

/-- COMMAND_NOP. -/
def execCommandNop (p c : Nat) (e : Entry) (s : State) : Host.Outcome State Fault Refusal := .next (s.takeOp 0 p c e)

/-- REQUEST. -/
def execRequest (p c : Nat) (e : Entry) (s : State) : Host.Outcome State Fault Refusal := .next (s.takeOp 1 p c e)

/-- NOTE. -/
def execNote (p c : Nat) (e : Entry) (s : State) : Host.Outcome State Fault Refusal := .next (s.takeOp 2 p c e)

/-- TOKEN. -/
def execToken (p c : Nat) (e : Entry) (s : State) : Host.Outcome State Fault Refusal := .next (s.takeOp 3 p c e)

/-! ### Action 10 -/

/-- STATUS as posted (R353). -/
def postedStatus (n : Nat) : Nat := if n = 0 ∨ n = 3 ∨ 16 ≤ n then n else 15

/-- Slots whose STATE the program has set to 2 turn free, with their completions. -/
def State.slotsFreed (s : State) (c : Nat) : State :=
  let x := s.svc c
  let done := (sortBy (·.1) x.slots).filter (fun e => s.readN (s.svcKey c e.1 0x40) 4 = 2)
  let s := done.foldl (fun (s : State) e =>
    let s := s.complete c { port := e.2.1, order := 1, slot := e.1, tag := e.2.2, status := postedStatus (s.readN (s.svcKey c e.1 0x45) 1),
                            op := 1, result := s.read (s.svcKey c e.1 0x58) 16 }
    s.writeN (s.svcKey c e.1 0x40) 4 0) s
  let rest := x.slots.filter (fun e => !(done.map (·.1)).contains e.1)
  (s.setSvc c { s.svc c with slots := rest }).setF F.HIF_SVC_STAT_ADMITTED rest.length c

/-- The entries fetched from ring (p, c) are taken. A ring not fetched before the tick is fetched at it (DESIGN CHOICE, log
entry 38). -/
def State.ringTake (s : State) (p c : Nat) : State :=
  let s := s.ringFetch p c (2 ^ 16)
  let x := s.svc c
  let s := s.setSvc c { x with fetched := x.fetched.filter (fun e => e.1 ≠ p), late := x.late.filter (· ≠ p) }
  let s := if x.late.contains p then s.event F.HIF_EVENT_FETCH_LATE c else s
  (x.fetched.filter (fun e => e.1 = p)).foldl (fun s e => e.2.2.foldl (fun s b => s.takeEntry p c e.2.1 b) s) s

/-- Action 10 for context c. -/
def State.ringAction (s : State) (c : Nat) : State :=
  let first := s.f F.HIF_BOOT_PRIMARY
  ((s.slotsFreed c).ringTake first c).ringTake (1 - first) c

/-! ### Action 11 (R54 to R56, R353, R354) -/

/-- A request admitted to slot i at tick n. -/
def State.admitTo (s : State) (c n i : Nat) (r : HReq) : State :=
  let s := s.write (s.svcKey c i 0) ((r.bytes ++ zeroBytes 64).take 64 ++ toLE 4 1 ++ toLE 1 r.port)
  let s := s.write (s.svcKey c i 0x48) (toLE 8 r.frame ++ toLE 8 n)
  let x := s.svc c
  (s.setSvc c { x with slots := x.slots ++ [(i, r.port, entryTag r.bytes)] }).addF F.FRM_IN_ADMITTED_COUNT 1 c

/-- The oldest requests go to the free slots, and the program is told how many. -/
def State.admitQueued (s : State) (c n : Nat) : State :=
  let x := s.svc c
  let free := (List.range (s.f F.HIF_SVC_CFG_SLOTS c)).filter (fun i => !x.slots.any (fun e => e.1 = i))
  let pairs := free.zip x.queue
  let s := s.setSvc c { x with queue := x.queue.drop pairs.length }
  let s := pairs.foldl (fun s e => s.admitTo c n e.1 e.2) s
  let s := s.setF F.HIF_SVC_STAT_ADMITTED (s.svc c).slots.length c
  let g := s.f F.HIF_SVC_CFG_CORE c
  let t := 30 + s.f F.HIF_SVC_CFG_CTR c
  if pairs.isEmpty || !s.occupied g c then s
  else if 4095 < s.f F.CORE_TOKEN_COUNT g c t + pairs.length then
    (s.setF F.CORE_TOKEN_COUNT 4095 g c t).event F.HIF_EVENT_NOTIFY_SAT c
  else s.token g c t pairs.length

/-- Requests past their deadline are returned, oldest first. -/
def State.defer (s : State) (c n : Nat) : State :=
  let d := s.f F.FRM_IN_DEADLINE_FRAMES c
  let x := s.svc c
  let old (r : HReq) : Bool := decide (d ≠ 0) && decide (d < n - r.frame)
  let late := x.queue.filter old
  let rest := x.queue.filter (fun r => !old r)
  if late.isEmpty then s else
  let s := s.setSvc c { x with queue := rest, cpls := x.cpls ++ late.map (fun r =>
    ({ port := r.port, order := 4, tag := entryTag r.bytes, status := 2, op := 1 } : Cpl)) }
  ((s.addF F.FRM_IN_DEFERRED_COUNT late.length c).setF F.FRM_IN_LEVEL_LEVEL rest.length c).event F.FRM_EVENT_DEFERRED c

/-- The marks are in order (R54). -/
def State.marksOk (s : State) (c : Nat) : Bool :=
  decide (1 ≤ s.f F.FRM_IN_LOW_LOW c) && decide (s.f F.FRM_IN_LOW_LOW c < s.f F.FRM_IN_HIGH_HIGH c) &&
    decide (s.f F.FRM_IN_HIGH_HIGH c ≤ 65536)

/-- Open or closed, and the credit, divided between the ports. -/
def State.pace (s : State) (c : Nat) : State :=
  let level := (s.svc c).queue.length
  let s := s.setF F.FRM_IN_LEVEL_LEVEL level c
  let was := s.fb F.FRM_IN_LEVEL_CLOSED c
  let closed := if !s.marksOk c then was else if s.f F.FRM_IN_HIGH_HIGH c ≤ level then true else if level ≤ s.f F.FRM_IN_LOW_LOW c then false else was
  let s := s.setF F.FRM_IN_LEVEL_CLOSED closed.toNat c
  let s := if closed && !was then s.event F.FRM_EVENT_INTAKE_CLOSED c else s
  let credit := if !s.marksOk c || closed then 0 else s.f F.FRM_IN_HIGH_HIGH c - level
  let s := s.setF F.FRM_IN_LEVEL_CREDIT credit c
  let share := min credit (ceilDiv (credit * s.f F.HIF_SVC_CFG_Q c) 16)
  s.setSvc c { s.svc c with credit0 := share, credit1 := credit - share }

/-- Action 11 of tick n for context c. A halted context keeps its requests (R356). -/
def State.intakeAction (s : State) (n c : Nat) : State :=
  let s := if s.halted c then s else (s.admitQueued c n).defer c n
  let s := s.pace c
  (s.ringServe c 0).ringServe c 1

/-- INTAKE_DEADLINE_EXPIRY (R37, R56): at a tick. -/
def execIntakeDeadlineExpiry (c : Nat) (s : State) : Host.Outcome State Fault Refusal :=
  if s.atTick && decide (c < 4) && !s.halted c then .next (s.defer c s.clk.frame) else .next s

end Sys2Proof.Machine
end

