-- ==== Sys2Proof/Machine/Reliability.lean ====
section
/-! DEFINITION. Self-test, scrubbing, analogue and environment checks, lifetime counters and the clock (R367 to R386). -/

namespace Sys2Proof.Machine

/-! ### Errors -/

/-- The n-th replay of a flit: a corrected error of unit 6 (DEDUCED, log entry 36); the eighth is fatal (R370). -/
def State.flitReplay (s : State) (n : Nat) : State :=
  if 8 ≤ n then s.fatal 2 0x1FF
  else
    let (w, s) := s.free
    let (a, s) := s.free
    s.ceRecord 6 0x1FF a.toNat (bits w 0 7)

/-- A corrected error of a word of units 1 to 4 of core g (R369). -/
def State.unitCE (s : State) (unit g addr bit : Nat) : State :=
  if unit = 0 ∨ 4 < unit then s else s.wordCE unit (s.physCore g) addr (bit % 128) (g * 2 ^ 40 + addr)

/-- What an error that a unit's protection detects does (Table REL-1): an instruction or an accumulator is marked, data is
carried on poisoned, control state is fatal, the steward's other copy is used, and PCI Express errors go to AER. An error in a
place that holds nothing is none. -/
def State.unitError (s : State) : UnitErr → State
  | .flit n => s.flitReplay n
  | .corrected unit g addr bit => s.unitCE unit g addr bit
  | .instr g n =>
    let key := istoreKey g (8 * (n % 32768))
    if s.instrBad key then s else ({ s with badInstr := key :: s.badInstr } : State).ueRecord 1 (s.physCore g) (n % 32768)
  | .acc g c a =>
    if s.accMode g c (a % 2) = 0 || s.accBad g c (a % 2) then s
    else ({ s with badAcc := (g, c, a % 2) :: s.badAcc } : State).ueRecord 2 (s.physCore g) (a % 2)
  | .transit n =>
    match s.transit[n]? with
    | none => s
    | some m => ({ s with transit := modAt s.transit n (fun m => { m with poison := true }) } : State).ueRecord 2 (s.physCore m.g) 0
  | .buffer g id =>
    let x := s.core g
    if !x.bursts.any (fun b => b.id = id) then s
    else (s.setCore g { x with bursts := x.bursts.map (fun b => if b.id = id then { b with poison := true } else b) }).ueRecord 3
      (s.physCore g) 0
  | .spur g seq =>
    let x := s.core g
    if !x.spurq.any (fun o => o.seq = seq) then s
    else (s.setCore g { x with spurq := x.spurq.map (fun o => if o.seq = seq then { o with poison := true } else o) }).ueRecord 3
      (s.physCore g) 0
  | .reorder flow n =>
    match s.rflows[flow]? with
    | none => s
    | some r =>
      if r.rx.held.length ≤ n then s
      else (s.setRFlow { r with rx := { r.rx with held := modAt r.rx.held n (fun p => { p with poison := true }) } }).ueRecord 3 0x1FF 0
  | .control g =>
    let phys := g.elim 0x1FF s.physCore
    (s.ueRecord 4 phys 0).fatal 1 phys
  | .store => ((s.ueRecord 9 0x1FF 0).setF F.ERR_ENV_NVS_COPY 1).event F.ERR_EVENT_ENV
  | .pcie p ce ue =>
    let x := s.fn p
    s.setFn p { x with aerCe := (BitVec.ofNat 32 x.aerCe ||| BitVec.ofNat 32 ce).toNat,
                       aerUe := (BitVec.ofNat 32 x.aerUe ||| BitVec.ofNat 32 ue).toNat }

/-- MESH_FLIT_ERROR (R367, R370): an error that the protection of a path or array detects. -/
def execMeshFlitError (e : UnitErr) (s : State) : Host.Outcome State Fault Refusal :=
  .next (if s.pwr.off then s else s.unitError e)

/-- CORRECTED_WRITEBACK (R369): the n-th corrected word is written back. -/
def execCorrectedWriteback (n : Nat) (s : State) : Host.Outcome State Fault Refusal :=
  .next { s with wback := s.wback.eraseIdx n }

/-- HBM_SCRUB_READ (R371): the next granule of the pass. -/
def execHbmScrubRead (err : MemErr) (s : State) : Host.Outcome State Fault Refusal :=
  if s.pwr.off || s.f F.ERR_SCRUB_PERIOD == 0 then .next s else
  let key := hbmKey (64 * s.scrubAt)
  let found := err == .uncorrectable && !s.poisoned key 1
  let s := s.memErr key err
  let s := if found then s.addF F.ERR_SCRUB_STAT_FOUND 1 else s
  if s.scrubAt + 1 < hbmSize / 64 then .next { s with scrubAt := s.scrubAt + 1 }
  else .next (({ s with scrubAt := 0 } : State).addF F.ERR_SCRUB_STAT_PASSES 1)

/-! ### Run-time slices (R372, R373) -/

/-- Slices of a pass: 1,536 of scratchpad, 128 of instruction store. -/
def slicesPerPass : Nat := 1664

/-- Slices that core g has begun in this frame. -/
def State.slicesNow (s : State) (g : Nat) : Nat :=
  let x := SMap.get (0, 0) s.sliceFrame g
  if x.1 = s.clk.frame then x.2 else 0

/-- Core g may begin a slice (R372). -/
def State.sliceOk (s : State) (g : Nat) : Bool :=
  let gs := s.f F.BIST_RT_CFG_GROUPS_M1 + 1
  let c := s.ownerOf g
  s.fb F.BIST_RT_CFG_EN && s.coreOk g &&
    (decide (3 < c) || !(s.ctx g c).frames.any (fun x => x.frame = s.clk.frame)) &&
    (List.range 4).all (fun c => (s.ctx g c).ready.isEmpty) &&
    (s.core g).mtxq.isEmpty && (s.core g).vecq.isEmpty && (List.range 16).all (fun ch => s.chState g ch == 0) &&
    s.clk.frame % gs == g / 8 % gs && decide (s.slicesNow g < s.f F.BIST_RT_CFG_MAX_PER_FRAME)

/-- BIST_RT_STAT: passes that every core has completed, slices left for the core furthest behind. -/
def State.sliceStat (s : State) : State :=
  let least := s.coreList.foldl (fun m g => min m (SMap.get 0 s.slices g)) (SMap.get 0 s.slices (s.coreList.headD 0))
  (s.setF F.BIST_RT_STAT_PASSES (least / slicesPerPass)).setF F.BIST_RT_STAT_LAG (slicesPerPass - least % slicesPerPass)

/-- The failure of slice n of a pass: its place within the slice is that of fail. -/
def sliceFail (n phys : Nat) (fail : Fail) : Fail :=
  if n < 1536 then { fail with kind := 0, phys := phys, addr := 2048 * n + fail.addr % 2048 }
  else { fail with kind := 1, phys := phys, addr := 256 * (n - 1536) + fail.addr % 256 }

/-- A failing bit is corrected on every read; a second one in its word makes the word uncorrectable (R373). -/
def State.secondBit (s : State) (g : Nat) (f : Fail) : State :=
  let word (x : Fail) : Nat := if x.kind = 0 then x.addr / 8 else x.addr
  if !s.repairDue.any (fun x => x.kind = f.kind && x.phys = f.phys && word x = word f && x.bit ≠ f.bit) then s
  else if f.kind = 0 then s.memUE (spadKey g f.addr)
  else s.unitError (.instr g f.addr)

/-- BIST_SLICE (R373): the march leaves the contents as they were; a failure is recorded and scheduled for repair. -/
def execBistSlice (g : Nat) (fail : Option Fail) (s : State) : Host.Outcome State Fault Refusal :=
  if !s.sliceOk g then .next s else
  let n := SMap.get 0 s.slices g
  let s : State := { s with
    slices := SMap.set id 0 s.slices g (n + 1)
    sliceFrame := SMap.set id (0, 0) s.sliceFrame g (s.clk.frame, s.slicesNow g + 1) }
  let s := s.sliceStat
  match fail with
  | none => .next s
  | some x =>
    let f := sliceFail (n % slicesPerPass) (s.physCore g) x
    .next ((({ s.secondBit g f with repairDue := s.repairDue ++ [f] } : State).failFound 1 f).event F.BIST_EVENT_RT_FAIL)

/-! ### Analogue checks (R375, R376) -/

/-- A failed analogue check. -/
def State.analogFail (s : State) (kind phys addr : Nat) : State :=
  ((s.failLast 3 { kind := kind, phys := phys, addr := addr }).event F.BIST_EVENT_ANALOG_FAIL).event F.ERR_EVENT_ANALOG

/-- PLL_LOCK_LOSS: fatal, code 3. -/
def execPllLockLoss (die : Nat) (s : State) : Host.Outcome State Fault Refusal :=
  if s.pwr.off || decide (1 < die) then .next s
  else .next (((s.setF ⟨.BIST_ANA_STAT, die, 1⟩ 0).analogFail 7 0x1FF die).fatal 3 0x1FF)

/-- PLL_FREQUENCY_CHECK: err in 0.1 ppm; within ±100 ppm. While it is out of the limit on a die, the clock is held. -/
def execPllFrequencyCheck (die : Nat) (err : BitVec 16) (s : State) : Host.Outcome State Fault Refusal :=
  if s.pwr.off || decide (1 < die) then .next s else
  let old := signedN 16 (s.f F.BIST_ANA_STAT_FREQ_ERR)
  let s := if old.natAbs < err.toInt.natAbs then s.setF F.BIST_ANA_STAT_FREQ_ERR err.toNat else s
  let ok := decide (err.toInt.natAbs ≤ 1000)
  let others := s.pwr.pllOut.filter (· ≠ die)
  let s : State := { s with pwr := { s.pwr with pllOut := if ok then others else die :: others } }
  let s := s.setF F.BIST_ANA_STAT_FREQ_OK s.pwr.pllOut.isEmpty.toNat
  if ok then .next (s.setF ⟨.BIST_ANA_STAT, die, 1⟩ 1).clockUpdate else .next (s.analogFail 7 0x1FF die)

/-- Readings of sensors in a range of indices. -/
def State.sensorsRead (s : State) (lo hi : Nat) (readings : List (Nat × Nat)) : State :=
  (readings.filter (fun e => decide (lo ≤ e.1 ∧ e.1 < hi))).foldl (fun s e =>
    { s with stw := { s.stw with sensors := SMap.set id none s.stw.sensors e.1 (some (e.2 % 65536)) } }) s

/-- THERMAL_SENSOR_CROSS_CHECK: the readings, and the sensor that disagrees with its neighbours. -/
def execThermalSensorCrossCheck (readings : List (Nat × Nat)) (bad : Option Nat) (s : State) : Host.Outcome State Fault Refusal :=
  if s.pwr.off then .next s else
  let s := s.sensorsRead 0 128 readings
  match bad with
  | some i =>
    if 128 ≤ i ∨ s.stw.tsOut.contains i then .next s
    else .next ((({ s with stw := { s.stw with tsOut := s.stw.tsOut ++ [i] } } : State).setF F.ERR_ENV_TS_EXCLUDED 1).analogFail 8 0x1FF i)
  | none => .next s

/-- VOLTAGE_MONITOR_CHECK: the readings, and a monitor more than 1.5 % away from the steward's ADC. -/
def execVoltageMonitorCheck (readings : List (Nat × Nat)) (bad : Option Nat) (s : State) : Host.Outcome State Fault Refusal :=
  if s.pwr.off then .next s else
  let s := s.sensorsRead 128 176 readings
  match bad with
  | some i =>
    if i < 128 ∨ 176 ≤ i ∨ s.stw.vmOut.contains i then .next s
    else .next ((({ s with stw := { s.stw with vmOut := s.stw.vmOut ++ [i] } } : State).setF F.ERR_ENV_VM_EXCLUDED 1).analogFail 8 0x1FF i)
  | none => .next s

/-- A write of v to BIST_LOOP_CTRL (R376): PORT and MODE, and with GO a loop-back of 10 s. -/
def State.loopGo (s : State) (v : Word) : State :=
  let s := s.setReg ⟨.BIST_LOOP_CTRL, 0, 0, 0⟩ (s.fieldsWrite ⟨.BIST_LOOP_CTRL, 0, 0, 0⟩ v)
  let mode := s.f F.BIST_LOOP_CTRL_MODE
  if !bit v 6 || !(mode == 1 || mode == 2) || s.fb F.BIST_LOOP_STAT_BUSY || s.fb F.NET_PORT_CFG_ENABLE (s.f F.BIST_LOOP_CTRL_PORT)
  then s
  else { s.setReg ⟨.BIST_LOOP_STAT, 0, 0, 0⟩ 0x100 with
    loopback := some ⟨s.f F.BIST_LOOP_CTRL_PORT, mode, s.clk.now + 1000000000⟩ }

/-- BIST_LOOP_GO. -/
def execBistLoopGo (v : Word) (s : State) : Host.Outcome State Fault Refusal := .next (s.loopGo v)

/-- A lane that failed its loop-back: reported and put in the repair record. -/
def State.loopLaneFail (s : State) (lane : Nat) : State :=
  let s := s.analogFail 5 lane 0
  { s with stw := { s.stw with record := (s.stw.record ++ [(⟨5, lane, 0, 0, 0⟩ : Fail)]).eraseDups } }

/-- LOOP_DONE: the lanes with errors and their number; a failing lane of a near-end loop-back is recorded (Table REL-3). -/
def execLoopDone (lanes errors : Nat) (s : State) : Host.Outcome State Fault Refusal :=
  match s.loopback with
  | none => .next s
  | some x =>
    if s.clk.now < x.due then .next s else
    let s := ((s.setF F.BIST_LOOP_STAT_BUSY 0).setF F.BIST_LOOP_STAT_LANE_FAIL lanes).setF F.BIST_LOOP_STAT_ERRORS (satN 32 errors)
    let s := ({ s with loopback := none } : State).event F.BIST_EVENT_LOOP_DONE
    if x.mode ≠ 1 then .next s else
    let bad := (List.range 8).filter (bitN lanes)
    .next (bad.foldl (fun s i => s.loopLaneFail (8 * x.port + i)) s)

/-- SIDEBAND_SHORT (R378): a pin of group g, SB0 to SB7. -/
def execSidebandShort (pin : Nat) (s : State) : Host.Outcome State Fault Refusal :=
  if s.pwr.off || decide (7 < pin) then .next s else
  let s := (s.setF ⟨.ERR_ENV, pin, 1⟩ 1).event F.ERR_EVENT_ENV
  .next (s.cairn 10 (s.regBytes ⟨.ERR_ENV, 0, 0, 0⟩))

/-! ### Life records (R382, R383, R386) -/

/-- LIFE_COUNTER_COMMIT. -/
def execLifeCounterCommit (s : State) : Host.Outcome State Fault Refusal := .next (if s.pwr.standby then s.lifeCommit else s)

/-- exp(y) for a small y, both in units of 2^-128: the power series to n terms. -/
def expSeries (y : Int) : Nat → Nat → Int → Int → Int
  | 0, _, _, acc => acc
  | n + 1, k, t, acc => expSeries y n (k + 1) (t * y / (2 ^ 128 * ((k : Int) + 1))) (acc + t)

/-- The equivalent seconds of one second at T °C, exp(8,123.5 × (1 ÷ 358.15 − 1 ÷ (T + 273.15))), in units of 2^-64,
rounded down from a computation to about 2^-110 (DESIGN CHOICE, log entry 37). -/
def wearFactor (t : Nat) : Nat :=
  let y : Int := 812350 * (100 * (t : Int) - 8500) * 2 ^ 122 / (35815 * (100 * (t : Int) + 27315))
  let e := expSeries y 40 0 (2 ^ 128) 0
  let e := iter 6 (fun _ e => e * e / 2 ^ 128) e
  (e / 2 ^ 64).toNat

/-- WEAR_ACCUMULATE: one second at the highest reading of each die. -/
def execWearAccumulate (s : State) : Host.Outcome State Fault Refusal :=
  if s.pwr.off then .next s else
  let temp (d : Nat) : Nat := s.f ⟨.PWR_TEMP, 8 * d, 8⟩
  .next (s.life (fun l => { l with wear := bump (bump l.wear 0 (wearFactor (temp 0))) 1 (wearFactor (temp 1)) }))

/-- The real-time clock set (R386): a step of more than 1 s is put on record. -/
def State.utcSet (s : State) (t source : Nat) : State :=
  let old := s.stw.utc
  let s : State := { s with stw := { s.stw with utc := t, utcOk := true } }
  let s := (s.setF F.LIFE_STATUS_UTC_VALID 1).setF F.LIFE_STATUS_SOURCE source
  if old + 1 < t ∨ t + 1 < old then s.cairn 14 (toLE 8 old ++ toLE 8 t) else s

/-- LIFE_UTC_SET: while the time receiver is not locked. -/
def execLifeUtcSet (v : Word) (s : State) : Host.Outcome State Fault Refusal :=
  if s.f F.FRM_SYNC_STATUS_STATE = 2 then .next s else .next (s.utcSet v.toNat 3)

end Sys2Proof.Machine
end

