-- ==== Sys2Proof/Machine/Frames.lean ====
section
/-! DEFINITION. The frame time base, the tick and its actions, starting and stopping the ticks, time alignment, the stall
watch, and the altimeter (R33 to R53, R60, R275, R306, R418). -/

namespace Sys2Proof.Machine

/-! ### Time (R42, R386) -/

/-- The steward's clock runs on by dt units of 10 ns. -/
def State.utcRun (s : State) (dt : Nat) : State :=
  let sub := s.stw.sub + dt
  { s with stw := { s.stw with sub := sub % 100000000, utc := s.stw.utc + sub / 100000000 } }

/-- The queue classes that hold work of context c on core g, in the order of FRM_STALL_SNAP0.QUEUES. -/
def State.queuesBusy (s : State) (g c : Nat) : List Bool :=
  let x := s.core g
  [(List.range 8).any (fun k => (s.strand g c k).exec),
   x.slots.any (fun r => r.who.c = c) || x.sideq.any (fun r => r.who.c = c),
   (List.range 16).any (fun ch => s.chOwner g ch == c && s.chState g ch != 0),
   x.spurq.any (fun o => o.who.c = c),
   (List.range 8).any (fun q => s.f F.COL_MQ_STATE_COUNT g c q != 0),
   !(s.waitsOf g c).isEmpty || x.stalls.any (fun e => e.c = c),
   !(s.waiting g c).isEmpty]

/-- The stall watches run on by dt units of 10 ns (R52, R418): a context's on a core while every class holds work, the
context is not halted, and it owns the ridge. Without work in every class the watch does not run, and starts from 0 (log
entry 81). -/
def State.watchRun (s : State) (dt : Nat) : SMap (Nat × Nat) Nat :=
  (SMap.keys s.ctxs).foldl (fun m e =>
    if !(s.queuesBusy e.1 e.2).all id then SMap.set (fun k => 4 * k.1 + k.2) 0 m e 0
    else if s.owns e.1 e.2 && s.running e.1 e.2 then countUp (fun k => 4 * k.1 + k.2) m e dt
    else m) s.watch

/-- Time passes until t, 10 ns units of the frame time base: core cycles, the stall watches, the timers of idle cores, the steward's clock,
powered seconds. -/
def State.advance (s : State) (t : Nat) : State :=
  let dt := t - s.clk.now
  let s := if dt = 0 then s else { s.idleTimers with cycles := s.countCycles dt, watch := s.watchRun dt }
  let s := { s with clk := { s.clk with now := s.clk.now + dt, cyc := s.clk.cyc + dt * s.f F.PWR_STATUS_CLK } }
  let secs := (s.stw.sub + dt) / 100000000
  (s.utcRun dt).life (fun l => { l with seconds := l.seconds + secs })

/-! ### Actions 2 and 3: overruns and the watchdog (R46 to R50, R418) -/

/-- An open frame at a tick, on a core that its context owned in the frame that ends or not: one overrun, its timer runs from
its first, and an owned frame adds to its age. -/
def OpenFrame.atTick (owned : Bool) (now : Nat) (x : OpenFrame) : OpenFrame :=
  { x with age := x.age + owned.toNat, timer := some (x.timer.getD now) }

/-- Action 2 for context c on core g. -/
def State.overrunCheck (s : State) (g c : Nat) : State :=
  let x := s.ctx g c
  if s.halted c || x.frames.isEmpty then s else
  (s.setCtx g c { x with frames := x.frames.map (OpenFrame.atTick (s.owns g c) s.clk.now) }).addF
    F.FRM_OVR_COUNT_COUNT x.frames.length c

/-- The cores whose oldest open frame of context c is W owned frames old or older: the frame and the core. -/
def State.watchdogCores (s : State) (c : Nat) : List (Nat × Nat) :=
  let w := s.f F.FRM_WDOG_W c
  if w = 0 ∨ s.halted c then [] else
  s.coreList.filterMap (fun g =>
    match (s.ctx g c).frames with
    | [] => none
    | x :: _ => if w ≤ x.age then some (x.frame, g) else none)

/-- Action 3 for context c: the watchdog halts it (R49, R50); the oldest frame is named, on the lowest core. -/
def State.watchdog (s : State) (c : Nat) : State :=
  match s.watchdogCores c with
  | [] => s
  | e :: es =>
    let (fr, g) := es.foldl (fun b e => if e.1 < b.1 then e else b) e
    let s := (s.setF F.FRM_WDOG_HALT_HALTED 1 c).setF F.FRM_WDOG_HALT_CORE g c
    (s.setF F.FRM_WDOG_FRAME_FRAME fr c).event F.FRM_EVENT_WDOG c

/-! ### Action 5: ownership (R24, R29, R93) -/

/-- The code of ridge r at the tick that begins frame m; a reserved code is idle (R24). -/
def State.schedCode (s : State) (m r : Nat) : Nat :=
  let i := (((m : Int) - s.f F.FRM_SCHED_EPOCH_EPOCH) % (s.f F.FRM_SCHED_LEN_LEN_M1 + 1 : Nat)).toNat
  let w := if r < 16 then s.reg ⟨.FRM_SCHED_A, i, 0, 0⟩ else s.reg ⟨.FRM_SCHED_B, i, 0, 0⟩
  let code := bits w (4 * (r % 16)) 3
  if code < 4 then code else 7

/-- Ownership of frame m on core g has been taken: the owner's loaded context runs, and a frame opens for it unless it is
halted (R73, R93, R418). -/
def State.frameOpen (s : State) (m g : Nat) : State :=
  let c := s.ownerOf g
  if 4 ≤ c || !s.occupied g c then s else
  let x := s.ctx g c
  let opened : List OpenFrame := if s.halted c then [] else [{ frame := m }]
  s.setCtx g c { x with phase := .running, frames := x.frames ++ opened }

/-- Action 5. -/
def State.ownerAction (s : State) (m : Nat) : State :=
  let s := iter 32 (fun r (s : State) => { s with owner := SMap.set id 0 s.owner r (s.schedCode m r) }) s
  s.coreList.foldl (fun s g => s.frameOpen m g) s

/-! ### Action 7: cross-module cols (R275, R332) -/

/-- A COL_RELEASE to the group of counter k: on every up link of the group's FWD mask where the multicast table holds the
group, otherwise on one up link, which the spec leaves open (DESIGN CHOICE, log entry 39). -/
def State.multicast (s : State) (k : Nat) (body : List Byte) : State :=
  let m := s.f F.COL_CTR_HOME_MGROUP k
  let p : Packet := s.seal { ctrlPacket 0 2 0 body with srcIp := s.netAddr, dstIp := s.groupAddr m, srcNode := s.node, hop := s.f F.NET_QOS_HOP }
  match (List.range 64).find? (fun g => s.fb F.NET_MG_CTL_VALID g && s.f F.NET_MG_CTL_GROUP g == m) with
  | some g => (s.upLinks (s.f F.NET_MG_FWD_LINKS g)).foldl (fun s l => s.send (some l) p) s
  | none =>
    let up := s.upLinks (2 ^ 64 - 1)
    let (w, s) := s.free
    match up[w.toNat % up.length]? with
    | some l => s.send (some l) p
    | none => s

/-- The home counter k releases its round: the multicast, its own cores, and the shift of its arrivals. -/
def State.homeRelease (s : State) (k : Nat) : State :=
  let r := s.f F.COL_CTR_STATE_ROUND k
  let flag := s.fb F.COL_CTR_ARR_AF0 k
  let hist := (SMap.get [] s.colHist k).filter (fun e => e.1 ≠ r)
  let s := { s with colHist := SMap.set id [] s.colHist k ((r, flag) :: hist) }
  let s := s.multicast k (toLE 8 (k + r * 2 ^ 16 + flag.toNat * 2 ^ 32))
  let s := s.colRelease k r flag
  let s := (s.setF F.COL_CTR_ARR_A0 (s.f F.COL_CTR_ARR_A1 k) k).setF F.COL_CTR_ARR_AF0 (s.f F.COL_CTR_ARR_AF1 k) k
  (s.setF F.COL_CTR_ARR_A1 0 k).setF F.COL_CTR_ARR_AF1 0 k

/-- Action 7 for counter k. -/
def State.homeTick (s : State) (k : Nat) : State :=
  let n := s.f F.COL_CTR_CFG_MODULES k
  if !(s.fb F.COL_CTR_CFG_VALID k && s.fb F.COL_CTR_CFG_XMOD k && s.fb F.COL_CTR_CFG_HOME k) || n == 0 then s
  else if s.f F.COL_CTR_ARR_A0 k < n then s
  else
    let both := decide (n ≤ s.f F.COL_CTR_ARR_A1 k)
    let s := s.homeRelease k
    State.colCheck 3 k (if both then s.homeRelease k else s)

/-- Action 7: the home counters in ascending order. -/
def State.colAction (s : State) : State := ((s.listed .COL_CTR_CFG).map (·.i)).foldl (fun s k => s.homeTick k) s

/-! ### The tick (Table FRM-1) -/

/-- The tick token (action 12): the tick count of every context, halted or not, that owns its core's ridge. -/
def State.tickToken (s : State) (g : Nat) : State :=
  let c := s.ownerOf g
  if 4 ≤ c || !s.occupied g c then s else s.setCtx g c { s.ctx g c with ticks := (s.ctx g c).ticks + 1 }

/-- Actions 2 and 3, unless this is the first tick after a start (R41). -/
def State.checkActions (s : State) : State :=
  if s.clk.skip then s else
  let s := s.ctxs.foldl (fun (s : State) e => s.overrunCheck e.1.1 e.1.2) s
  iter 4 (fun c s => s.watchdog c) s

/-- Contexts whose RESUME is due go on (R51, R89). -/
def State.resumeAction (s : State) : State :=
  iter 4 (fun c s => if (s.mod c).resumeW || (s.mod c).resumeF then s.resumeCtx c else s) s

/-- Tick m at time t: the actions of Table FRM-1 in order, then the stop where RUN was cleared. -/
def State.tick (s : State) (m t : Nat) : State :=
  let s := s.advance t
  let s : State := { s with clk := { s.clk with frame := m, tickTime := t, running := true, start := none } }
  let s := s.checkActions.resumeAction
  let s := iter 4 (fun c s => s.trnAction c m) s
  let s := ((s.txnAction m).ownerAction m).loanAction m
  let s := (s.colAction.kvAction).skipAction m
  let s := iter 4 (fun c s => s.ringAction c) s
  let s := iter 4 (fun c s => s.intakeAction m c) s
  let s := s.coreList.foldl (fun s g => s.tickToken g) s
  { s with clk := { s.clk with running := !s.clk.stopping, stopping := false, skip := false } }

/-- Tick m, unless the frame counter would wrap (R33). -/
def State.tickAt (s : State) (m t : Nat) : Host.Outcome State Fault Refusal :=
  if 2 ^ 64 ≤ m then .fault .frameCounterWrap else .next (s.tick m t)

/-- The time of the next tick of running ticks (R35). -/
def State.nextTick (s : State) : Nat := s.clk.tickTime + s.f F.FRM_PERIOD_PERIOD

/-- FRM_TICK (R36): while ticks run, time passes to the next tick. -/
def execFrmTick (s : State) : Host.Outcome State Fault Refusal :=
  if s.pwr.off || !s.clk.running then .next s else s.tickAt (s.clk.frame + 1) s.nextTick

/-- The scheduled first tick, at time t, of frame m (R40). -/
def State.firstTick (s : State) (t m : Nat) (missed : Bool) : Host.Outcome State Fault Refusal :=
  (if missed then s.event F.FRM_EVENT_START_MISSED else s).tickAt m t

/-- FIRST_TICK (R40): where a start is scheduled, time passes to it. -/
def execFirstTick (s : State) : Host.Outcome State Fault Refusal :=
  match s.clk.start with
  | none => .next s
  | some (t, m, missed) => if s.pwr.off then .next s else s.firstTick t m missed

/-- FRAME_WATCHDOG_FIRE (R49, R50): at a tick. -/
def execFrameWatchdogFire (c : Nat) (s : State) : Host.Outcome State Fault Refusal :=
  if !s.atTick || s.clk.skip || decide (4 ≤ c) then .next s else .next (s.watchdog c)

/-- 10 ns of idling: a tick that is due occurs, otherwise time passes. While the package is off the steward's clock alone runs,
on standby power (DESIGN CHOICE, log entry 1). -/
def State.idle (s : State) : Host.Outcome State Fault Refusal :=
  if s.pwr.off then .next (if s.pwr.standby then s.utcRun 1 else s)
  else match s.clk.start with
    | some (t, m, missed) => if t ≤ s.clk.now + 1 then s.firstTick t m missed else .next (s.advance (s.clk.now + 1))
    | none =>
      if s.clk.running && decide (s.nextTick ≤ s.clk.now + 1) then s.tickAt (s.clk.frame + 1) s.nextTick
      else .next (s.advance (s.clk.now + 1))

/-! ### Starting and stopping (R39 to R41) -/

/-- The first tick of a start at the present time: its time, its frame, and whether the start time had passed (R40). -/
def State.startTick (s : State) : Nat × Nat × Bool :=
  let t0 := s.f F.FRM_START_TIME_TIME
  let m := s.f F.FRM_START_FRAME_FRAME
  let p := s.periodToCome
  if s.clk.now ≤ t0 then (t0, m, false)
  else
    let k := ceilDiv (s.clk.now - t0) p
    (t0 + k * p, m + k, true)

/-- RUN set: a stop is cancelled; otherwise a start is scheduled, and a first tick that is due now occurs at once. -/
def State.runSet (s : State) : Host.Outcome State Fault Refusal :=
  if s.pwr.off || s.fb F.FRM_CTRL_RUN then .next s else
  let s := s.setF F.FRM_CTRL_RUN 1
  if s.clk.running then .next { s with clk := { s.clk with stopping := false } }
  else
    let (t, m, missed) := s.startTick
    let s : State := { s with clk := { s.clk with start := some (t, m, missed), skip := true } }
    if t = s.clk.now then s.firstTick t m missed else .next s

/-- RUN cleared: a start is withdrawn, or the ticks stop after the next one. -/
def State.runClear (s : State) : State :=
  if !s.fb F.FRM_CTRL_RUN then s else
  let s := s.setF F.FRM_CTRL_RUN 0
  { s with clk := { s.clk with start := none, stopping := s.clk.running } }

/-- FRM_CTRL_RUN_SET (R40, R41). -/
def execFrmCtrlRunSet (s : State) : Host.Outcome State Fault Refusal := s.runSet

/-- FRM_CTRL_RUN_CLEAR (R41). -/
def execFrmCtrlRunClear (s : State) : Host.Outcome State Fault Refusal := .next s.runClear

/-! ### Time alignment (R42 to R45) -/

def State.syncState (s : State) : Nat := s.f F.FRM_SYNC_STATUS_STATE

/-- SYNC_EN written: set, the receiver acquires; cleared, the time base runs free. -/
def State.syncSet (s : State) (on : Bool) : State :=
  if s.fb F.FRM_CTRL_SYNC_EN == on then s
  else (s.setF F.FRM_CTRL_SYNC_EN on.toNat).setF F.FRM_SYNC_STATUS_STATE on.toNat

/-- SYNC_EN (R43). -/
def execSyncEn (on : Bool) (s : State) : Host.Outcome State Fault Refusal := .next (s.syncSet on)

/-- No tick runs or is scheduled and RUN is 0, so that the time base may be loaded (R42, R45). -/
def State.mayLoad (s : State) : Bool := !s.fb F.FRM_CTRL_RUN && !s.clk.running

/-- The port of the time receiver. -/
def State.ptpPort (s : State) : Nat := s.f F.NET_PTP_CFG_RX_LINK / 4

/-- PTP_LOCK (R42): the receiver locks, unless it is locked or in fault while RUN is 1; with RUN 0 the time base is loaded
once. The steward takes the time of day (R386). -/
def execPtpLock (port : Nat) (time : Word) (utcOffset : Nat) (s : State) : Host.Outcome State Fault Refusal :=
  let st := s.syncState
  if !s.fb F.FRM_CTRL_SYNC_EN || port != s.ptpPort || st == 2 || (st == 4 && !s.mayLoad) then .next s else
  let s := (s.setF F.FRM_SYNC_STATUS_STATE 2).setF F.FRM_SYNC_STATUS_PORT port
  let s := if s.mayLoad then
      let s := s.setF F.FRM_SYNC_STATUS_OFFSET 0
      { s with clk := { s.clk with now := time.toNat } }
    else s
  .next (s.utcSet (time.toNat / 100000000 - utcOffset) 2)

/-- An offset of so many ns from the grandmaster (R45). -/
def State.offsetLimits (s : State) (ns : Nat) : State :=
  let s := if s.f F.FRM_SYNC_LIMIT_LIMIT < ns then s.event F.FRM_EVENT_SYNC_TOL else s
  if 10000 < ns then (s.setF F.FRM_SYNC_STATUS_STATE 4).event F.FRM_EVENT_SYNC_FAULT else s

/-- PTP_EVENT_MESSAGE (R43 to R45): the measured offset is reported and held to the limits, but while the receiver acquires
a time that is still to be loaded (R42). The frequency correction itself is timing (log entry 40). -/
def execPtpEventMessage (port : Nat) (offset : BitVec 32) (s : State) : Host.Outcome State Fault Refusal :=
  let st := s.syncState
  if !s.fb F.FRM_CTRL_SYNC_EN || port != s.ptpPort then .next s else
  let s := (s.setF F.FRM_SYNC_STATUS_PORT port).setF F.FRM_SYNC_STATUS_OFFSET offset.toNat
  if st == 1 && s.mayLoad then .next s else .next (s.offsetLimits offset.toInt.natAbs)

/-- HOLDOVER (R45): a locked receiver loses lock. -/
def execHoldover (s : State) : Host.Outcome State Fault Refusal :=
  if s.syncState ≠ 2 then .next s else .next ((s.setF F.FRM_SYNC_STATUS_STATE 3).event F.FRM_EVENT_HOLDOVER)

/-- HOLDOVER_OFFSET_LIMIT (R45): the offset estimated in holdover, in ns. -/
def execHoldoverOffsetLimit (offset : Nat) (s : State) : Host.Outcome State Fault Refusal :=
  if s.syncState ≠ 3 then .next s else .next (s.offsetLimits offset)

/-- FRM_OVR_MAX_CLEAR (R60): a 1 clears TIME; an overrun that closes in the same cycle is the next command. -/
def execFrmOvrMaxClear (c : Nat) (clear : Bool) (s : State) : Host.Outcome State Fault Refusal :=
  if clear then .next (s.setF F.FRM_OVR_MAX_TIME 0 c) else .next s

/-! ### The stall watch (R52, R53) -/

/-- The watch time of a context on a core. -/
def State.watchTime (s : State) (g c : Nat) : Nat := satN 32 (SMap.get 0 s.watch (g, c))

/-- The waiting block that has waited longest, the lowest of equals. -/
def State.oldestWaiting (s : State) (g c : Nat) : Nat :=
  let x := s.ctx g c
  match s.waiting g c with
  | [] => 0
  | n :: ns => ns.foldl (fun b m => if (x.blk m).since < (x.blk b).since then m else b) n

/-- The counters whose requirements block n lacks. -/
def State.lacks (s : State) (g c n : Nat) : List Nat :=
  let b := (s.ctx g c).blk n
  ((List.range 4).filter (fun j => !s.reqMet g c b j)).map b.ctr

/-- The snapshot registers of a stall. -/
def State.stallRecord (s : State) (g c : Nat) : State :=
  let n := s.oldestWaiting g c
  let miss := s.lacks g c n
  let some' (p : Nat → Bool) : Nat := (miss.any p).toNat
  let mask (l : List Bool) : Nat := l.foldr (fun b m => b.toNat + 2 * m) 0
  let s := (s.setF F.FRM_STALL_SNAP0_CORE g c).setF F.FRM_STALL_SNAP0_QUEUES (mask (s.queuesBusy g c)) c
  let s := s.setF F.FRM_STALL_SNAP0_STRANDS (mask ((List.range 8).map (fun k => (s.strand g c k).exec))) c
  let s := s.setF F.FRM_STALL_SNAP0_DURATION (s.watchTime g c) c
  let s := s.setF F.FRM_STALL_SNAP1_FRAME s.clk.frame c
  let s := (s.setF F.FRM_STALL_SNAP2_WAITING (s.waiting g c).length c).setF F.FRM_STALL_SNAP2_OLDEST n c
  let s := s.setF F.FRM_STALL_SNAP2_DMA_MISSING (mask ((List.range 16).map (fun t => miss.contains t))) c
  let s := s.setF F.FRM_STALL_SNAP2_MSG_MISSING (some' (fun t => decide (16 ≤ t) && decide (t < 24))) c
  let s := s.setF F.FRM_STALL_SNAP2_COL_MISSING (some' (fun t => decide (24 ≤ t) && decide (t < 28))) c
  let s := s.setF F.FRM_STALL_SNAP2_TICK_MISSING (some' (· == 28)) c
  let s := s.setF F.FRM_STALL_SNAP2_SPUR_MISSING (some' (· == 29)) c
  s.event F.FRM_EVENT_STALL c

/-- STALL_SNAPSHOT (R52, R53): every queue class holds work, and the watch time exceeds the threshold; each stall once. -/
def execStallSnapshot (g c : Nat) (s : State) : Host.Outcome State Fault Refusal :=
  let th := s.f F.FRM_STALL_THRESH_THRESH c
  if th = 0 || !s.running g c || !s.owns g c || s.stalled.contains (g, c) || !(s.queuesBusy g c).all id ||
      decide (s.watchTime g c ≤ th) then .next s
  else
    let s : State := { s with stalled := (g, c) :: s.stalled }
    .next (if bitN (s.f F.FRM_EVENT_STALL) c then s.addF F.FRM_STALL_MISSED_COUNT 1 c else s.stallRecord g c)

/-! ### The altimeter (R306) -/

/-- An MTIN or MTOUT of the context executes, or waits at its place. -/
def State.exchanging (s : State) (g c : Nat) : Bool :=
  let q := (s.core g).mtxq
  (List.range q.length).any (fun i =>
    match q[i]? with
    | none => false
    | some o =>
      decide (o.who.c = c) && (decide (o.dec.op = .mtin) || decide (o.dec.op = .mtout)) &&
        (o.started || (q.take i).all (·.started)))

/-- A strand executes a DEFER = 1 block of the context, or the array an MMA issued by one. -/
def State.weighting (s : State) (g c : Nat) : Bool :=
  let x := s.ctx g c
  (List.range 8).any (fun k => (s.strand g c k).exec && (x.blk (s.strand g c k).block).defer) ||
  (s.core g).mtxq.any (fun o => decide (o.who.c = c) && o.started && decide (o.dec.op = .mma) && (x.blk o.who.block).defer)

/-- The frame phase: the valid mark with the largest OFFSET not above the frames since the open tick. Of two such marks the spec
names none: a free choice (log entry 2). -/
def State.framePhase (s : State) (c : Nat) : Nat × State :=
  let d := s.clk.frame - (s.trnOf c).openFrame
  let off (m : Nat) : Nat := s.f F.TRN_ALT_MARK_OFFSET c m
  let ms := if s.stepOpen c then (List.range 8).filter (fun m => s.fb F.TRN_ALT_MARK_VALID c m && decide (off m ≤ d)) else []
  let top := ms.foldl (fun a m => max a (off m)) 0
  match ms.filter (fun m => off m = top) with
  | [] => (s.f F.TRN_ALT_CFG_BASE_PHASE c, s)
  | [m] => (s.f F.TRN_ALT_MARK_PHASE c m, s)
  | m :: ms' =>
    let (w, s) := s.free
    (s.f F.TRN_ALT_MARK_PHASE c ((m :: ms')[w.toNat % (ms'.length + 1)]?.getD m), s)

/-- The phase of core g, owned by context c. -/
def State.corePhase (s : State) (g c : Nat) : Nat × State :=
  if s.idleAtCol g && !(s.waitsOf g c).isEmpty then (7, s)
  else if (s.core g).vecq.any (fun o => decide (o.who.c = c) && o.started && decide (o.dec.op = .vupd)) then (4, s)
  else if s.exchanging g c then (3, s)
  else if s.weighting g c then (2, s)
  else s.framePhase c

/-- One core counted for 10 ns. -/
def State.phaseCount (s : State) (g : Nat) : State :=
  let c := s.ownerOf g
  if 4 ≤ c then s else
  let (p, s) := s.corePhase g c
  let x := s.trnOf c
  (s.setTrn c { x with phases := SMap.set id 0 x.phases p (SMap.get 0 x.phases p + 1) }).addF F.TRN_ALT_RUN_TIME 1 c p

/-- ALTIMETER_PHASE_COUNT (R306): one unit of 10 ns, on every core. -/
def execAltimeterPhaseCount (s : State) : Host.Outcome State Fault Refusal :=
  .next (s.coreList.foldl (fun s g => s.phaseCount g) s)

end Sys2Proof.Machine
end

