-- ==== Sys2Proof/Machine/Steward.lean ====
section
/-! DEFINITION. The steward's commands over MCTP and the mailboxes (R361 to R365, R380, R381, R385, R393). The encodings
of requests and responses that the spec does not give are DESIGN CHOICE (log entry 35). -/

namespace Sys2Proof.Machine

/-! ### Answering -/

/-- The request of port p's mailbox: its first byte is the command code. -/
def State.mbxBody (s : State) (p : Nat) : List Byte := s.read (mbxKey p 0) (s.f F.HIF_MBX_LEN p)

/-- The command code in port p's mailbox; none where it holds none of Table HOST-13. -/
def State.mbxCode (s : State) (p : Nat) : Option Nat :=
  let code := ((s.mbxBody p).headD 0).toNat
  if s.f F.HIF_MBX_LEN p = 0 ∨ code = 0 ∨ 10 < code then none else some code

/-- A response sent where the command came from. -/
def State.reply (s : State) (via : Via) (code : Nat) (data : List Byte) : State :=
  match via with
  | .smbus _ => { s with out := .smbus code data :: s.out }
  | .port p => { s with out := .vdm p code data :: s.out }
  | .mailbox p =>
    let s := s.write (mbxKey p 0x8000) (data.take 4096)
    let s := ((s.setF F.HIF_MBX_CODE code p).setF F.HIF_MBX_LEN (data.take 4096).length p).setF F.HIF_MBX_BUSY 0 p
    (s.event F.HIF_EVENT_MBX_DONE p).blockVector 15

/-- The port a command came through; 2 for SMBus. -/
def viaPort : Via → Nat
  | .smbus _ => 2
  | .port p => p
  | .mailbox p => p

/-- The steward's SMBus address (R409). -/
def State.smbusAddr (s : State) : Nat := 0x30 + s.straps % 8

/-- The steward hears this interface: SMBus at its address; a port while the package runs and not in recovery (Table HOST-10). -/
def State.hears (s : State) (via : Via) : Bool :=
  s.pwr.standby &&
  (match via with
    | .smbus a => a == s.smbusAddr
    | via => !s.dark && s.f F.HIF_BOOT_STATE != 2 && decide (viaPort via < 2))

/-! ### What a command does (Table HOST-13): its CODE, its data and the state after it -/

/-- A sensor's reading of 16 B (R381). A sensor that has not been read since the start gives a free value. -/
def State.sensorReading (s : State) (i : Nat) : List Byte × State :=
  let (w, s) := s.free
  let raw := (SMap.get none s.stw.sensors i).getD (bits w 0 16)
  let factory := bits (s.reg ⟨.CAL_FACTORY, i, 0, 0⟩) 0 16
  let user := bits (s.reg ⟨.CAL_USER, i, 0, 0⟩) 0 16
  let out := s.stw.tsOut.contains i || s.stw.vmOut.contains i
  (toLE 2 i ++ toLE 2 0 ++ toLE 2 (raw + factory + user) ++ toLE 2 factory ++ toLE 2 user ++ toLE 1 out.toNat ++ zeroBytes 5, s)

/-- Records of the event ring from number a on. -/
def State.cairnRead (s : State) (a n : Nat) : List Byte :=
  (List.range n).flatMap (fun i => if a + i ≤ s.stw.logSeq then (s.stw.cairn[s.stw.logSeq - (a + i)]?).getD [] else [])

/-- n bytes of a list, filled with zeros. -/
def fitBytes (n : Nat) (bs : List Byte) : List Byte := (bs ++ zeroBytes n).take n

/-- Bytes 0x000 to 0x11F of the attestation report (Table HOST-12): of an image type of which none runs, zeros. -/
def State.report (s : State) (nonce : List Byte) : List Byte :=
  let header (t : Nat) : Option (List Byte) := (s.fwCopy t).map (·.2)
  toLE 4 0x4B4D4154 ++ toLE 2 1 ++ toLE 2 (if s.f F.HIF_BOOT_STATE = 2 then 1 else 0) ++ toLE 8 Config.serial.toNat ++ toLE 4 0xA1 ++
  toLE 2 (s.f F.HIF_BOOT_ACTIVE) ++ toLE 2 0 ++ nonce ++ toLE 8 s.stw.utc ++ toLE 8 (if s.clk.running then s.clk.frame else 0) ++
  [1, 2, 3].flatMap (fun t => (header t).elim (zeroBytes 48) sha384) ++
  [1, 2, 3].flatMap (fun t => (header t).elim (zeroBytes 4) (fun h => fitBytes 4 ((h.drop 8).take 4))) ++
  toLE 4 (s.stw.edRevoked.foldl setBitN 0 + 16 * s.stw.mldsaRevoked.foldl setBitN 0) ++
  (if s.fb F.CAL_STATUS_FACTORY_OK then sha384 Config.calRecord else zeroBytes 48) ++ zeroBytes 8

/-- Image type and slot, the first two bytes of a firmware request. -/
def fwTarget (b : List Byte) : Option (Nat × Nat) :=
  let type := (b.headD 0).toNat
  let ab := ((b.drop 1).headD 0).toNat
  if 2 ≤ b.length ∧ 1 ≤ type ∧ type ≤ 3 ∧ ab < 2 then some (type, ab) else none

/-- A slot marked active (R361): the minimum SVN rises where COMMIT_SVN is set and the image has run without a FAIL code. -/
def State.fwActivate (s : State) (type ab : Nat) (commit : Bool) : State :=
  let n := fwSlot type ab
  let svn := if commit && s.stw.ran.contains n then max (SMap.get 0 s.stw.svn type) (s.fwSvn n) else SMap.get 0 s.stw.svn type
  let s : State := { s with stw := { s.stw with
    active := SMap.set id 0 s.stw.active type ab
    marked := (s.stw.marked ++ [type]).eraseDups
    svn := SMap.set id 0 s.stw.svn type svn } }
  (s.life (fun l => { l with firmware := l.firmware + 1 })).cairn 11 (toLE 8 type ++ toLE 8 ab ++ toLE 8 (s.fwN n 0xC 4))

/-- READ_SENSORS: the mask holds bit i for sensor or monitor i. -/
def State.runSensors (s : State) (b : List Byte) : Nat × List Byte × State :=
  let mask := ofLE b
  if 22 < b.length then (3, [], s) else
  let (out, s) := ((List.range 176).filter (bitN mask)).foldl (fun (a : List Byte × State) i =>
    let (r, s) := a.2.sensorReading i
    (a.1 ++ r, s)) ([], s)
  (0, out, s)

/-- ATTEST: the report with both signatures; the randomness of ML-DSA is free. -/
def State.runAttest (s : State) (b : List Byte) : Nat × List Byte × State :=
  if b.length ≠ 32 then (3, [], s) else
  let r := s.report b
  let rnd := (List.range 32).map (fun i => Config.freeByte (s.freeCtr + i))
  (0, r ++ edSign Config.edSeed r ++ mldsaSign Config.mldsaSeed rnd r, s.useFree 32)

/-- FW_WRITE: type, slot, offset of 4 B, data. -/
def State.runFwWrite (s : State) (b : List Byte) : Nat × List Byte × State :=
  match fwTarget b with
  | none => (3, [], s)
  | some (type, ab) =>
    let o := ofLE ((b.drop 2).take 4)
    let data := b.drop 6
    if b.length < 6 ∨ 0x2000 + 2 ^ 25 < o + data.length then (3, [], s) else (0, [], s.fwStore (fwSlot type ab) o data)

/-- FW_VERIFY: the step that failed, 0 for none. -/
def State.runFwVerify (s : State) (b : List Byte) : Nat × List Byte × State :=
  match fwTarget b with
  | none => (3, [], s)
  | some (type, ab) =>
    let e := s.fwVerify type ab
    if e = 0 then (0, toLE 1 0, s) else (4, toLE 1 e, s.event F.HIF_EVENT_FW_FAIL)

/-- FW_ACTIVATE: type, slot, COMMIT_SVN. -/
def State.runFwActivate (s : State) (b : List Byte) : Nat × List Byte × State :=
  match fwTarget b with
  | none => (3, [], s)
  | some (type, ab) =>
    let commit := ofLE (b.drop 2)
    if b.length ≠ 3 ∨ 1 < commit then (3, [], s) else (0, [], s.fwActivate type ab (commit == 1))

/-- CAL_USER: item of 2 B, offset of 8 B; a whole transaction of owner 2. -/
def State.runCalUser (s : State) (b : List Byte) : Nat × List Byte × State :=
  let i := ofLE (b.take 2)
  if b.length ≠ 10 ∨ 336 < i then (3, [], s)
  else (0, [], ((s.txnBegin 2).stage 2 ⟨.CAL_USER, i, 0, 0⟩ (BitVec.ofNat 64 (ofLE (b.drop 2)))).txnCommit 2)

/-- A key slot revoked (R361), 0 Ed25519 and 1 ML-DSA-65: for good, and never the last of its type. No command of Table
HOST-13 asks for it. -/
def State.keyRevoke (s : State) (type slot : Nat) : State :=
  let old := if type = 0 then s.stw.edRevoked else s.stw.mldsaRevoked
  let new := if slot < 4 ∧ !old.contains slot ∧ old.length < 3 then slot :: old else old
  { s with stw := if type = 0 then { s.stw with edRevoked := new } else { s.stw with mldsaRevoked := new } }

/-- A command by its code and the request after it. RESET acts once it is answered. -/
def State.stewardRun (s : State) (code : Nat) (b : List Byte) : Nat × List Byte × State :=
  match code with
  | 1 => (0, s.regBytes ⟨.HIF_BOOT, 0, 0, 0⟩ ++ toLE 1 (s.f F.HIF_BOOT_STATE) ++ toLE 1 (s.f F.HIF_BOOT_FAIL), s)
  | 2 => s.runSensors b
  | 3 => if b.length ≠ 12 ∨ 64 < ofLE (b.drop 8) then (3, [], s) else (0, s.cairnRead (ofLE (b.take 8)) (ofLE (b.drop 8)), s)
  | 4 => s.runAttest b
  | 5 => if b.length ≠ 1 ∨ 1 < ofLE b then (3, [], s) else (0, Config.certChain (ofLE b), s)
  | 6 => s.runFwWrite b
  | 7 => s.runFwVerify b
  | 8 => s.runFwActivate b
  | 9 => if b.length ≠ 1 ∨ 1 < ofLE b then (3, [], s) else (0, [], s)
  | 10 => s.runCalUser b
  | _ => (1, [], s)

/-! ### Serving, one command at a time in arrival order (R364, R365) -/

/-- Codes that R344 reserves to the primary port: firmware update and reset. -/
def reservedCode (code : Nat) : Bool := decide (6 ≤ code) && decide (code ≤ 9)

/-- A command served: not authorised, too long with its code, or its answer and what it does. -/
def State.command (s : State) (via : Via) (code : Nat) (b : List Byte) : State :=
  if reservedCode code && !s.authorised (viaPort via) then s.reply via 2 []
  else if 4096 < b.length + 1 then s.reply via 3 []
  else
    let (c, data, s) := s.stewardRun code b
    let s := s.reply via c data
    if code = 9 ∧ c = 0 then (if ofLE b = 0 then s.warmRequest else s.shutdownStart false true false) else s

/-- The interface of an MCTP endpoint number: 0 SMBus, 1 + p port p. -/
def viaIface : Via → Nat
  | .port p => 1 + p
  | _ => 0

/-- A job served. An MCTP message is a control message, type 0, whose endpoint number and answer are MCTP's; or vendor-defined
PCI, type 0x7E, with the vendor ID, then the code and the request; another is not answered. -/
def State.jobRun (s : State) (j : Job) : State :=
  match j with
  | .mailbox p => s.command (.mailbox p) ((s.mbxCode p).getD 0) ((s.mbxBody p).drop 1)
  | .mctp via type body =>
    if type = 0 then
      let old := SMap.get 0 s.stw.eids (viaIface via)
      let s : State := { s with stw := { s.stw with eids := SMap.set id 0 s.stw.eids (viaIface via) (Config.mctpEid old body) } }
      s.reply via 0 (Config.mctpAnswer old body)
    else
      match body with
      | 0x1D#8 :: 0x7E#8 :: code :: b => if type = 0x7E then s.command via code.toNat b else s
      | _ => s

/-- The command code of a job. -/
def State.jobCode (s : State) (j : Job) : Option Nat :=
  match j with
  | .mailbox p => s.mbxCode p
  | .mctp _ type body => if type = 0x7E then (body[2]?).map (·.toNat) else none

/-- A job may be served: CAL_USER waits while a transaction of owner 2 is under way. -/
def State.jobReady (s : State) (j : Job) : Bool := s.jobCode j != some 10 || s.txnState 2 == 0

/-- A job that no row of the table serves: an MCTP message, or a mailbox without a command. -/
def State.jobAuto (s : State) (j : Job) : Bool :=
  match j with
  | .mailbox p => (s.mbxCode p).isNone
  | .mctp _ _ _ => true

/-- The oldest job served. -/
def State.jobPop (s : State) : State :=
  match s.stw.jobs with
  | [] => s
  | j :: js => ({ s with stw := { s.stw with jobs := js } } : State).jobRun j

/-- Jobs served from the oldest on, up to n, until one waits. -/
def State.jobsServe : Nat → State → State
  | 0, s => s
  | n + 1, s =>
    match s.stw.jobs with
    | [] => s
    | j :: _ => if s.jobAuto j && s.jobReady j then State.jobsServe n s.jobPop else s

/-- A job joins the queue, and what can be served is. -/
def State.jobArrive (s : State) (j : Job) : State :=
  let s : State := { s with stw := { s.stw with jobs := s.stw.jobs ++ [j] } }
  State.jobsServe s.stw.jobs.length s

/-- A mailbox's command is due: it is the oldest job, and holds that code. -/
def State.due (s : State) (p code : Nat) : Bool :=
  s.hears (.mailbox p) && s.stw.jobs.head? == some (.mailbox p) && s.mbxCode p == some code && s.jobReady (.mailbox p)

/-- A command of Table HOST-13: of a mailbox, served when it is due; over MCTP, a message that arrives. -/
def State.serve (s : State) (via : Via) (code : Nat) (body : List Byte) : State :=
  match via with
  | .mailbox p => if s.due p code then State.jobsServe s.stw.jobs.length s.jobPop else s
  | via => if s.hears via then s.jobArrive (.mctp via 0x7E (0x1D#8 :: 0x7E#8 :: BitVec.ofNat 8 code :: body)) else s

/-- GO on a mailbox that is not busy (R365). -/
def State.mbxGo (s : State) (p : Nat) : State :=
  if s.fb F.HIF_MBX_BUSY p then s else
  let s := s.setF F.HIF_MBX_BUSY 1 p
  if s.hears (.mailbox p) then s.jobArrive (.mailbox p)
  else { s with stw := { s.stw with jobs := s.stw.jobs ++ [.mailbox p] } }

/-! ### The commands -/

/-- MCTP_CONTROL_MESSAGE (R364): a message arrives over MCTP, its first byte the message type. -/
def execMctpControlMessage (via : Via) (body : List Byte) (s : State) : Host.Outcome State Fault Refusal :=
  match via, body with
  | .mailbox _, _ => .next s
  | _, [] => .next s
  | via, type :: body => if s.hears via then .next (s.jobArrive (.mctp via type.toNat body)) else .next s

/-- GET_STATUS: HIF_BOOT, the steward's state, the FAIL code. -/
def execGetStatus (via : Via) (s : State) : Host.Outcome State Fault Refusal := .next (s.serve via 1 [])

/-- READ_SENSORS (R381). -/
def execReadSensors (via : Via) (body : List Byte) (s : State) : Host.Outcome State Fault Refusal := .next (s.serve via 2 body)

/-- READ_CAIRN (R385). -/
def execReadCairn (via : Via) (body : List Byte) (s : State) : Host.Outcome State Fault Refusal := .next (s.serve via 3 body)

/-- ATTEST (R363). -/
def execAttest (via : Via) (body : List Byte) (s : State) : Host.Outcome State Fault Refusal := .next (s.serve via 4 body)

/-- GET_CERTS (R362): key type 0 Ed25519, 1 ML-DSA-65. -/
def execGetCerts (via : Via) (body : List Byte) (s : State) : Host.Outcome State Fault Refusal := .next (s.serve via 5 body)

/-- FW_WRITE (R361). -/
def execFwWrite (via : Via) (body : List Byte) (s : State) : Host.Outcome State Fault Refusal := .next (s.serve via 6 body)

/-- FW_VERIFY (R360). -/
def execFwVerify (via : Via) (body : List Byte) (s : State) : Host.Outcome State Fault Refusal := .next (s.serve via 7 body)

/-- FW_ACTIVATE (R361). -/
def execFwActivate (via : Via) (body : List Byte) (s : State) : Host.Outcome State Fault Refusal := .next (s.serve via 8 body)

/-- RESET (R359): 0 warm, 1 cold. -/
def execReset (via : Via) (body : List Byte) (s : State) : Host.Outcome State Fault Refusal := .next (s.serve via 9 body)

/-- CAL_USER (R380, R393). -/
def execCalUser (via : Via) (body : List Byte) (s : State) : Host.Outcome State Fault Refusal := .next (s.serve via 10 body)

/-- LIFE_COUNTER_MIRROR (R382): the steward's round, in which a job that waited is served too. -/
def execLifeCounterMirror (s : State) : Host.Outcome State Fault Refusal :=
  let s := s.lifeMirror
  .next (State.jobsServe s.stw.jobs.length s)

end Sys2Proof.Machine
end

