-- ==== Sys2Proof/Machine/Pcie.lean ====
section
/-! DEFINITION. The PCI Express functions: their configuration space, their BARs, and the requests into which a host-tier access
is divided (R204, R342, R345, R347, R348, R358). The offsets of the capabilities are DESIGN CHOICE (log entry 83); what the words
hold besides Table HOST-1 is PRESUMED from the PCI Express Base Specification. -/

namespace Sys2Proof.Machine

/-! ### Constants (Tables HOST-1 and HOST-2) -/

def pcieVendor : Nat := 0x1D7E

def pcieDevice : Nat := 0x0A11

def pcieRevision : Nat := 0xA1

def pcieClass : Nat := 0x120000

/-- Max_Payload_Size supported, as its code: 512 B. -/
def pcieMaxPayload : Nat := 2

/-- Non-posted requests that a port may have outstanding. -/
def pcieNonPosted : Nat := 512

/-- Size of a BAR pair in bytes, and whether it is prefetchable, by the number of its first BAR. -/
def barInfo : Nat → Nat × Bool
  | 0 => (2 ^ 26, false)
  | 2 => (2 ^ 36, true)
  | _ => (2 ^ 20, false)

/-! ### Host-tier requests (R204) -/

/-- The bytes of one request: 512 of a read and 256 of a write, or what the host has programmed where that is less. -/
def State.requestMax (s : State) (p : Nat) (write : Bool) : Nat :=
  if write then min 256 (128 * 2 ^ (s.fn p).mps) else min 512 (128 * 2 ^ (s.fn p).mrrs)

/-- The requests of an access of n bytes from bus address a: address and length. -/
def requestCuts (max : Nat) : Nat → Nat → Nat → List (Nat × Nat)
  | 0, _, _ => []
  | fuel + 1, a, n => if n = 0 then [] else
    let m := min n (max - a % max)
    (a, m) :: requestCuts max fuel (a + m) (n - m)

def State.hostRequests (s : State) (p : Nat) (write : Bool) (a n : Nat) : List (Nat × Nat) :=
  let m := s.requestMax p write
  requestCuts m (n / m + 2) a n

/-! ### The configuration space -/

/-- The two words of a BAR pair: the address with the attributes of a 64-bit memory BAR. -/
def barWord (pair addr half : Nat) : Nat :=
  if half = 0 then addr % 2 ^ 32 + 4 + (if (barInfo pair).2 then 8 else 0) else addr / 2 ^ 32

/-- A write of half a BAR pair keeps the bits above its size. -/
def barWrite (pair addr half v : Nat) : Nat :=
  let size := (barInfo pair).1
  let w := if half = 0 then addr / 2 ^ 32 * 2 ^ 32 + v % 2 ^ 32 else addr % 2 ^ 32 + v % 2 ^ 32 * 2 ^ 32
  w / size * size

/-- The header of an extended capability. -/
def extCap (id next : Nat) : Nat := id + 2 ^ 16 + next * 2 ^ 20

/-- The function of port p is ready: it answers configuration requests otherwise than with Request Retry Status (R358). -/
def State.fnReady (s : State) (p : Nat) : Bool := !s.dark && s.f F.HIF_BOOT_STATE == 1 && s.perst.contains p

/-- The 4 B at an offset of the configuration space. -/
def State.cfgWord (s : State) (p off : Nat) : Nat :=
  let x := s.fn p
  match off with
  | 0x00 => pcieVendor + pcieDevice * 2 ^ 16
  | 0x04 => x.cmd + 4 * s.f F.HIF_LINK_BME p + 0x10 * 2 ^ 16
  | 0x08 => pcieRevision + pcieClass * 2 ^ 8
  | 0x10 => barWord 0 x.bar0 0
  | 0x14 => barWord 0 x.bar0 1
  | 0x18 => barWord 2 x.bar2 0
  | 0x1C => barWord 2 x.bar2 1
  | 0x20 => barWord 4 x.bar4 0
  | 0x24 => barWord 4 x.bar4 1
  | 0x2C => Config.subsystem
  | 0x34 => 0x40
  | 0x40 => 0x01 + 0x50 * 2 ^ 8 + 3 * 2 ^ 16
  | 0x44 => if x.d3 then 3 else 0
  | 0x50 => 0x11 + 0x70 * 2 ^ 8 + (63 + x.msixMask.toNat * 2 ^ 14 + x.msixOn.toNat * 2 ^ 15) * 2 ^ 16
  | 0x54 => 0x3FF0000
  | 0x58 => 0x3FF8000
  | 0x70 => 0x10 + 2 * 2 ^ 16
  | 0x74 => pcieMaxPayload + 2 ^ 28
  | 0x78 => x.mps * 2 ^ 5 + x.mrrs * 2 ^ 12
  | 0x100 => extCap 0x0001 0x150
  | 0x104 => x.aerUe
  | 0x110 => x.aerCe
  | 0x150 => extCap 0x0003 0x160
  | 0x154 => bits Config.serial 0 32
  | 0x158 => bits Config.serial 32 32
  | 0x160 => extCap 0x0025 0x170
  | 0x170 => extCap 0x0026 0x180
  | 0x180 => extCap 0x002A 0x190
  | 0x190 => extCap 0x0031 0x1A0
  | 0x1A0 => extCap 0x0027 0
  | _ => 0

/-- A configuration read: Request Retry Status, as none, or the word. -/
def State.cfgRead (s : State) (p off : Nat) : Option Nat := if s.fnReady p then some (s.cfgWord p off) else none

/-- Vectors that a masked function held are sent once it is not. -/
def State.msixRelease (s : State) (p : Nat) : State :=
  let due := s.msixPend.filter (fun e => e.1 = p)
  due.foldl (fun s e => s.msixSend p e.2) { s with msixPend := s.msixPend.filter (fun e => e.1 ≠ p) }

/-- A write of 4 B to the configuration space. -/
def State.cfgWrite (s : State) (p off v : Nat) : State :=
  let x := s.fn p
  match off with
  | 0x04 => (s.setFn p { x with cmd := v % 2 ^ 11 / 8 * 8 + v % 4 }).setF F.HIF_LINK_BME (bitsN v 2 1) p
  | 0x10 => s.setFn p { x with bar0 := barWrite 0 x.bar0 0 v }
  | 0x14 => s.setFn p { x with bar0 := barWrite 0 x.bar0 1 v }
  | 0x18 => s.setFn p { x with bar2 := barWrite 2 x.bar2 0 v }
  | 0x1C => s.setFn p { x with bar2 := barWrite 2 x.bar2 1 v }
  | 0x20 => s.setFn p { x with bar4 := barWrite 4 x.bar4 0 v }
  | 0x24 => s.setFn p { x with bar4 := barWrite 4 x.bar4 1 v }
  | 0x44 => if v % 4 = 0 ∨ v % 4 = 3 then s.setFn p { x with d3 := v % 4 == 3 } else s
  | 0x50 => (s.setFn p { x with msixMask := bitN v 30, msixOn := bitN v 31 }).msixRelease p
  | 0x78 =>
    if bitN v 15 then s.portReset p true
    else s.setFn p { x with mps := min pcieMaxPayload (bitsN v 5 3), mrrs := min 5 (bitsN v 12 3) }
  | 0x104 => s.setFn p { x with aerUe := (BitVec.ofNat 32 x.aerUe &&& ~~~ BitVec.ofNat 32 v).toNat }
  | 0x110 => s.setFn p { x with aerCe := (BitVec.ofNat 32 x.aerCe &&& ~~~ BitVec.ofNat 32 v).toNat }
  | _ => s

end Sys2Proof.Machine
end

