-- ==== Sys2Proof/Machine/Bus.lean ====
section
/-! DEFINITION. Register writes of the hosts and the steward through BAR 0, the command window and the MSI-X table, and the HBM
aperture (R12 to R17, R344 to R349, R388, R390, R395, R396, and what the register tables say of each field). -/

namespace Sys2Proof.Machine

/-! ### Halves (R396) -/

/-- The word that a write to part of a register acts as: RW fields at the value in effect, RT fields as staged, others 0. -/
def State.restWord (s : State) (o : Nat) (r : Reg) : Word :=
  r.name.info.fields.foldl (fun w x =>
    match x.acc with
    | .rw | .rws => setBits w x.lo x.len (bits (s.reg r) x.lo x.len)
    | .rt => setBits w x.lo x.len (bits (s.stagedValue o r) x.lo x.len)
    | _ => w) 0

/-- The 8 B write that a naturally aligned write of 8 or 4 B at offset off acts as: its register offset and word. -/
def State.busWord (s : State) (o off size : Nat) (v : Word) : Option (Nat × (Reg → Word)) :=
  if size = 8 ∧ off % 8 = 0 then some (off, fun _ => v)
  else if size = 4 ∧ off % 8 = 0 then some (off, fun r => setBits (s.restWord o r) 0 32 (bits v 0 32))
  else if size = 4 ∧ off % 8 = 4 then some (off - 4, fun r => setBits (s.restWord o r) 32 32 (bits v 0 32))
  else none

/-! ### Event registers (R13, R349) -/

/-- The event registers that have a vector. -/
def eventNames : List RegName :=
  [.FRM_EVENT, .CORE_FAULT_EVENT, .MTX_EVENT, .VEC_EVENT, .PLC_EVENT, .DMA_EVENT, .KV_EVENT, .COL_EVENT, .TRN_EVENT, .NET_EVENT,
   .HIF_EVENT, .ERR_EVENT, .BIST_EVENT, .CAL_EVENT, .LIFE_EVENT, .TXN_EVENT, .PWR_EVENT]

/-- The event register of an enable register. -/
def eventOf (n : RegName) : Option RegName := eventNames.find? (fun e => (eventInfo e).map (·.1) = some n)

/-- The fields that software sets take effect. -/
def State.plainWrite (s : State) (r : Reg) (v : Word) : State := s.setReg r (s.fieldsWrite r v)

/-- A write to a block's event register: its vector is sent again where the OR stays 1. -/
def State.eventWrite (s : State) (r : Reg) (vec : Nat) (v : Word) : State :=
  let s := s.plainWrite r v
  if s.eventOr r.name then s.blockVector vec else s

/-- A write to an enable register of events e: the vector is sent where the OR rises. -/
def State.enableWrite (s : State) (r : Reg) (e : RegName) (v : Word) : State :=
  (s.plainWrite r v).vectorIfRisen (s.eventOr e) e

/-! ### Registers with conditions -/

/-- A field of v taken where it lies in a range, otherwise the field as it is. -/
def State.rangeWrite (s : State) (r : Reg) (x : Fld) (lo hi : Nat) (v : Word) : State :=
  let n := bits v x.lo x.len
  if lo ≤ n ∧ n ≤ hi then s.setF x n r.i r.j r.k else s

/-- A write to FRM_CTRL: SYNC_EN, then RUN (R39, R40, R41). -/
def State.frmCtrlWrite (s : State) (v : Word) : Host.Outcome State Fault Refusal :=
  let s := s.syncSet (bit v 1)
  if bit v 0 then s.runSet else .next s.runClear

/-- HIF_RESET (R344, R359): the key, and a source that may reset; COLD goes before WARM. -/
def State.resetWrite (s : State) (src : Nat) (v : Word) : State :=
  if bits v 32 16 ≠ 0x5A3C || !s.authorised src then s
  else if bit v 1 then s.shutdownStart false true false
  else if bit v 0 then s.warmRequest
  else s

/-- HIF_ADMIN: SEC_ADMIN, by the primary port only (R344). -/
def State.adminWrite (s : State) (src : Nat) (v : Word) : State :=
  if src = s.f F.HIF_BOOT_PRIMARY then s.plainWrite ⟨.HIF_ADMIN, 0, 0, 0⟩ v else s

/-- HIF_MBX[p]: LEN, and GO (R365). -/
def State.mbxWrite (s : State) (r : Reg) (v : Word) : State :=
  let s := s.plainWrite r v
  if bit v 0 then s.mbxGo r.i else s

/-- HIF_SVC_BASE and HIF_SVC_CFG: the table stays while a slot is occupied (R353). -/
def State.svcWrite (s : State) (r : Reg) (v : Word) : State :=
  if (s.svc r.i).slots.isEmpty then s.plainWrite r v
  else if r.name = .HIF_SVC_BASE then s
  else
    let n := s.f F.HIF_SVC_CFG_SLOTS r.i
    (s.plainWrite r v).setF F.HIF_SVC_CFG_SLOTS n r.i

/-- PWR_LIMIT: the fields that lie in their ranges. -/
def State.limitWrite (s : State) (r : Reg) (v : Word) : State :=
  (s.rangeWrite r F.PWR_LIMIT_LIMIT 600 1800 v).rangeWrite r F.PWR_LIMIT_HYST 10 255 v

/-- PWR_CLK_MIN: 1,000 to 2,500, a multiple of 25. -/
def State.clkMinWrite (s : State) (r : Reg) (v : Word) : State :=
  if bits v 0 12 % 25 = 0 then (s.rangeWrite r F.PWR_CLK_MIN_MHZ 1000 2500 v).clockUpdate else s

/-- PWR_THERM_CFG. -/
def State.thermWrite (s : State) (r : Reg) (v : Word) : State :=
  (s.rangeWrite r F.PWR_THERM_CFG_WARN 60 95 v).rangeWrite r F.PWR_THERM_CFG_THROTTLE 70 100 v

/-- PWR_SD: NOTICE, and REQ (R406). -/
def State.sdWrite (s : State) (src : Nat) (r : Reg) (v : Word) : State :=
  let s := s.rangeWrite r F.PWR_SD_NOTICE 0 1000 v
  if bit v 0 && s.authorised src then s.shutdownStart false false false else s

/-- TRN_STEP_STATE and TRN_STEP_DONE are writable only while the step is idle, TRN_STEP_NEXT not while it is decided. -/
def State.stepWrite (s : State) (r : Reg) (v : Word) : State :=
  let st := s.stepState r.i
  if r.name = .TRN_STEP_NEXT then (if st = 2 then s else s.plainWrite r v)
  else if st = 0 then s.plainWrite r v
  else s

/-- One command after another. -/
def andThen (o : Host.Outcome State Fault Refusal) (f : State → Host.Outcome State Fault Refusal) : Host.Outcome State Fault Refusal :=
  match o with
  | .next s => f s
  | x => x

/-- Bit i of v set: the command; otherwise nothing. -/
def onBit (v : Word) (i : Nat) (f : State → Host.Outcome State Fault Refusal) (s : State) : Host.Outcome State Fault Refusal :=
  if bit v i then f s else .next s

/-- TRN_STEP_CTRL: its bits in ascending order. -/
def stepCtrlWrite (c : Nat) (v : Word) (s : State) : Host.Outcome State Fault Refusal :=
  andThen (andThen (andThen (onBit v 0 (execTrnStepOpen c) s) (onBit v 1 (execTrnStepAbort c))) (onBit v 2 (execForceCommit c)))
    (onBit v 3 (execForceAbort c))

/-! ### One register written -/

/-- A write of a register with a peak: 0 restarts it at the level of now (R95, R240). -/
def State.peakWrite (s : State) (r : Reg) (x : Fld) (now : Nat) (v : Word) : State :=
  (s.plainWrite r v).setF x (max (bits v x.lo x.len) now) r.i

/-- A write of v to a register by source src. While ticks run, FRM_START_TIME and FRM_START_FRAME are not written: R41 accepts
their writes while stopped (DESIGN CHOICE, log entry 79). What it does besides setting RW fields and clearing W1C bits, and its RT fields,
which are staged for the source (R390). -/
def State.regWrite (s : State) (src : Nat) (r : Reg) (v : Word) : Host.Outcome State Fault Refusal :=
  match r.name with
  | .FRM_CTRL => s.frmCtrlWrite v
  | .FRM_START_TIME | .FRM_START_FRAME => .next (if s.clk.running then s else s.plainWrite r v)
  | .FRM_OVR_MAX => execFrmOvrMaxClear r.i (bit v 32) s
  | .FRM_CTX_CTRL =>
    if bit v 1 then execFrmCtxDiscard r.i s else onBit v 0 (execFrmCtxResume r.i) s
  | .CORE_CTX_HALT =>
    if bit v 17 then execCoreCtxDiscard r.i s else onBit v 16 (execCoreCtxResume r.i) s
  | .CORE_CTX_ISTORE | .CORE_LOAD_CTRL | .CORE_BT_INDEX | .CORE_BT_DATA0 | .CORE_BT_DATA1 | .CORE_BT_DATA2 | .CORE_BT_DATA3
  | .CORE_TOKEN => .next (s.ctxRegWrite r v)
  | .MTX_TRV_NEXT => .next (s.trvWrite r.i r.j r.k .next v)
  | .MTX_TRV_LAND => .next (s.trvWrite r.i r.j r.k .land v)
  | .MTX_TRV_LATE => .next (s.trvWrite r.i r.j r.k .late v)
  | .MTX_TRV_DUE => .next (s.trvDueWrite r.i r.j r.k v)
  | .CORE_SLOT_STAT => .next (s.peakWrite r F.CORE_SLOT_STAT_PEAK (s.core r.i).slots.length v)
  | .DMA_BUF_STAT => .next (s.peakWrite r F.DMA_BUF_STAT_PEAK (s.core r.i).bufUsed v)
  | .DMA_CORE_CTRL => if bit v 1 then execAbortAll r.i s else onBit v 0 (execRestartAll r.i) s
  | .DMA_CH_CTRL => if bit v 1 then execDmaChAbort r.i r.j s else onBit v 0 (execDmaChRestart r.i r.j) s
  | .DMA_CH_PACE => execDmaChPaceWrite r.i r.j v s
  | .DMA_CH_PACE_ADDR => execDmaChPaceAddrWrite r.i r.j v s
  | .COL_LEND_CFG => .next (s.lendCfgWrite r.i v)
  | .COL_MQ_CFG => execColMqCfgWrite r.i r.j r.k v s
  | .TRN_STEP_CTRL => stepCtrlWrite r.i v s
  | .TRN_STEP_STATE | .TRN_STEP_DONE | .TRN_STEP_NEXT => .next (s.stepWrite r v)
  | .TRN_GNS_CFG => execTrnGnsCfgWrite r.i v s
  | .HIF_RESET => .next (s.resetWrite src v)
  | .HIF_ADMIN => .next (s.adminWrite src v)
  | .HIF_APT => .next (s.rangeWrite r F.HIF_APT_INDEX 0 17 v)
  | .HIF_MBX => .next (s.mbxWrite r v)
  | .HIF_CR_CFG => .next (s.crCfgWrite r.j r.i v)
  | .HIF_CR_BASE | .HIF_CC_BASE | .HIF_CC_CFG | .HIF_RING_HDR => .next (if s.ringOn r.j r.i then s else s.plainWrite r v)
  | .HIF_SVC_BASE | .HIF_SVC_CFG => .next (s.svcWrite r v)
  | .BIST_LOOP_CTRL => .next (s.loopGo v)
  | .LIFE_UTC_SET => execLifeUtcSet v s
  | .TXN_CTRL => .next (if src = r.i then s.txnCtrl r.i v else s)
  | .TXN_TIMEOUT => .next (s.rangeWrite r F.TXN_TIMEOUT_FRAMES 1 65535 v)
  | .PWR_LIMIT => .next (s.limitWrite r v)
  | .PWR_CLK_MIN => .next (s.clkMinWrite r v)
  | .PWR_THERM_CFG => .next (s.thermWrite r v)
  | .PWR_SD => .next (s.sdWrite src r v)
  | n =>
    match eventInfo n, eventOf n with
    | some (_, vec), _ => .next (s.eventWrite r vec v)
    | none, some e => .next (s.enableWrite r e v)
    | none, none => .next (if n.hasRt then (s.plainWrite r v).stage src r v else s.plainWrite r v)

/-- The register exists: one of a core that exists, or of no core (R15, R95). -/
def State.regThere (s : State) (r : Reg) : Bool := r.name.info.count 0 != 256 || s.coreOk r.i

/-- A write to the register at a BAR 0 offset; at a reserved offset it has no effect (R15). -/
def State.offsetWrite (s : State) (src off : Nat) (v : Reg → Word) : Host.Outcome State Fault Refusal :=
  match regAt off with
  | none => .next s
  | some r => if s.regThere r then s.regWrite src r (v r) else .next s

/-! ### The MSI-X table (R345, R349) -/

/-- A 32-bit word of port p's table: the mask bit alone of a vector control word; unmasking sends a pending vector. -/
def State.msixWrite (s : State) (p i v : Nat) : State :=
  let v := if i % 4 = 3 then v % 2 else v
  let s : State := { s with msix := SMap.set (fun k => 256 * k.1 + k.2) (if i % 4 = 3 then 1 else 0) s.msix (p, i) v }
  let vec := i / 4
  if i % 4 = 3 && v == 0 && s.msixPend.contains (p, vec) then
    ({ s with msixPend := s.msixPend.erase (p, vec) } : State).msixSend p vec
  else s

/-- A write to the table at byte offset o. -/
def State.msixTable (s : State) (p o size : Nat) (v : Word) : State :=
  if 1024 ≤ o then s
  else if size = 8 ∧ o % 8 = 0 then (s.msixWrite p (o / 4) (bits v 0 32)).msixWrite p (o / 4 + 1) (bits v 32 32)
  else if size = 4 ∧ o % 4 = 0 then s.msixWrite p (o / 4) (bits v 0 32)
  else s

/-! ### The windows (R345, R396) -/

/-- A write through BAR 0, or of the steward over its bus: aligned, of 4 or 8 B. -/
def State.bar0Write (s : State) (src off size : Nat) (v : Word) : Host.Outcome State Fault Refusal :=
  if 0x3FF0000 ≤ off then .next (if src < 2 ∧ off < 0x3FF8000 then s.msixTable src (off - 0x3FF0000) size v else s)
  else
    match s.busWord src off size v with
    | none => .next s
    | some (o, w) => s.offsetWrite src o w

/-- A write through the command window of port p: the ring registers of a context, and the mailbox request. -/
def State.bar4Write (s : State) (p off size : Nat) (v : Word) : Host.Outcome State Fault Refusal :=
  if 0xF0000 ≤ off ∧ off + size ≤ 0xF8000 ∧ size ≤ 8 then .next (s.writeN (mbxKey p (off - 0xF0000)) size v.toNat)
  else
    let c := off / 0x10000
    let base : Nat := Reg.offset ⟨.HIF_CR_BASE, c, p, 0⟩
    if 4 ≤ c ∨ 0x800 ≤ off % 0x10000 then .next s
    else
      match s.busWord p (off % 0x10000) size v with
      | none => .next s
      | some (o, w) =>
        match regAt (base + o) with
        | none => .next s
        | some r => if ringNames.contains r.name && r.i == c && r.j == p then s.regWrite p r (w r) else .next s

/-- A write of one of the three sources: 0 and 1 the ports, 2 the steward (R18, R388). -/
def State.busWrite (s : State) (src bar off size : Nat) (v : Word) : Host.Outcome State Fault Refusal :=
  if s.dark || decide (2 < src) then .next s
  else if bar = 0 then s.bar0Write src off size v
  else if bar = 4 ∧ src < 2 then s.bar4Write src off size v
  else if bar = 6 ∧ src < 2 ∧ size = 4 ∧ off % 4 = 0 ∧ s.fnReady src = true then .next (s.cfgWrite src off (bits v 0 32))
  else .next s

/-! ### What a read returns (R12, R345) -/

/-- The 8 B at an offset of BAR 0, for port p: a register, the MSI-X table, the pending bits; all else reads 0. -/
def State.bar0Word (s : State) (p off : Nat) : Word :=
  if 0x3FF8000 ≤ off then
    if off = 0x3FF8000 then (List.range 64).foldl (fun w v => if (p, v) ∈ s.msixPend then setBits w v 1 1 else w) 0 else 0
  else if 0x3FF0000 ≤ off then
    let i := (off - 0x3FF0000) / 4
    if 256 ≤ i then 0 else BitVec.ofNat 64 (s.msixWord p i % 2 ^ 32 + s.msixWord p (i + 1) % 2 ^ 32 * 2 ^ 32)
  else match regAt off with
    | none => 0
    | some r => if s.regThere r then s.regView r else 0

/-- The 8 B at an offset of the command window of port p: the ring registers of a context, the mailbox request and its
response; all else reads 0. -/
def State.bar4Word (s : State) (p off : Nat) : Word :=
  if 0xF0000 ≤ off then if off < 0x100000 then BitVec.ofNat 64 (s.readN (mbxKey p (off - 0xF0000)) 8) else 0
  else
    let c := off / 0x10000
    let base : Nat := Reg.offset ⟨.HIF_CR_BASE, c, p, 0⟩
    if 4 ≤ c ∨ 0x800 ≤ off % 0x10000 then 0
    else match regAt (base + off % 0x10000) with
      | none => 0
      | some r => if ringNames.contains r.name && r.i == c && r.j == p then s.regView r else 0

/-- What a read of 4 or 8 B, naturally aligned, returns to port p. -/
def State.busRead (s : State) (p bar off size : Nat) : Nat :=
  let w := if bar = 0 then s.bar0Word p (off / 8 * 8) else if bar = 4 then s.bar4Word p (off / 8 * 8) else 0
  if s.dark then 0 else bits w (8 * (off % 8)) (8 * size)

/-! ### Commands -/

/-- REGISTER_WRITE (R12, R17): takes effect in its place in the queue; bar 0 and 4, and as 6 the configuration space. -/
def execRegisterWrite (src bar off size : Nat) (v : Word) (s : State) : Host.Outcome State Fault Refusal :=
  s.busWrite src bar off size v

/-- RT_FIELD_WRITE (R390): a write of owner o to a register with an RT field. -/
def execRtFieldWrite (o off size : Nat) (v : Word) (s : State) : Host.Outcome State Fault Refusal :=
  match regAt (off / 8 * 8) with
  | none => .next s
  | some r => if r.name.hasRt then s.busWrite o 0 off size v else .next s

/-! ### The aperture (R346) -/

/-- The HBM address of an offset in port p's aperture. -/
def State.aptAddr (s : State) (p off : Nat) : Nat := 2 ^ 36 * s.f F.HIF_APT_INDEX p + off

/-- The node table in force, or a range of an active or revoking lend entry, overlaps n bytes at HBM address a. -/
def State.aptShut (s : State) (a n : Nat) : Bool :=
  overlap a n (s.f F.NET_NODE_TBL_BASE) (32 * s.f F.NET_NODE_CNT_COUNT) ||
  (List.range 64).any (fun i => decide (2 ≤ s.f F.PLC_LEND_CTL_STATE i) && overlap a n (s.lendRange i).1 (s.lendRange i).2)

/-- APERTURE_WRITE: lands, or is discarded and counted; it is not mirrored. -/
def execApertureWrite (p off : Nat) (data : List Byte) (s : State) : Host.Outcome State Fault Refusal :=
  if s.dark || decide (2 ≤ p) || decide (2 ^ 36 < off + data.length) then .next s else
  let a := s.aptAddr p off
  if s.kvProtected (hbmKey a) data.length || s.aptShut a data.length then .next (s.addF F.HIF_APT_BLOCKED_COUNT 1)
  else .next (s.write (hbmKey a) data)

/-- APERTURE_READ: the data go to the host, with EP where some granule is poisoned; err is what the memory reports. The bytes of
poisoned data are free (log entry 2). -/
def execApertureRead (p off len : Nat) (err : MemErr) (s : State) : Host.Outcome State Fault Refusal :=
  if s.dark || decide (2 ≤ p) || decide (2 ^ 36 < off + len) then .next s else
  let k := hbmKey (s.aptAddr p off)
  let s := s.memErr k err
  let ep := s.poisoned k len
  let data := if ep then (List.range len).map (fun i => Config.freeByte (s.freeCtr + i)) else s.read k len
  let s := s.useFree (if ep then len else 0)
  .next { s with out := .aperture p data ep :: s.out }

end Sys2Proof.Machine
end

