-- ==== Sys2Proof/Machine/Flags.lean ====
section
/-! DEFINITION. Scalar arithmetic and comparisons (Table ISA-7, Table ISA-6). The module has no scalar flags: a comparison
writes a register or decides a branch. -/

namespace Sys2Proof.Machine

/-- The least k, of n, such that bit 63 - k is set. -/
def clzFrom : Nat → Nat → Word → Nat
  | 0, k, _ => k
  | n + 1, k, w => if bit w (63 - k) then k else clzFrom n (k + 1) w

/-- Leading zeros, 0 to 64. -/
def clz (w : Word) : Nat := clzFrom 64 0 w

/-- Signed less-than. -/
def ltS (a b : Word) : Bool := decide (a.toInt < b.toInt)

/-- Unsigned less-than. -/
def ltU (a b : Word) : Bool := decide (a.toNat < b.toNat)

/-- 1 or 0. -/
def oneIf (p : Bool) : Word := if p then 1 else 0

/-- Unsigned quotient; all ones on division by zero. -/
def divU (a b : Word) : Word := if b = 0 then BitVec.allOnes 64 else BitVec.ofNat 64 (a.toNat / b.toNat)

/-- Unsigned remainder; the dividend on division by zero. -/
def remU (a b : Word) : Word := if b = 0 then a else BitVec.ofNat 64 (a.toNat % b.toNat)

/-- High 64 bits of the unsigned product. -/
def mulHU (a b : Word) : Word := BitVec.ofNat 64 (a.toNat * b.toNat / 2 ^ 64)

/-- IMM32 into bits [63:32], bits [31:0] kept. -/
def lui (a : Word) (imm : Nat) : Word := BitVec.ofNat 64 (imm % 2 ^ 32 * 2 ^ 32 + a.toNat % 2 ^ 32)

end Sys2Proof.Machine
end

