-- ==== Sys2Proof/Machine/Control.lean ====
section
/-! DEFINITION. The control and firing instructions but FCLOSE (R65, R71, R72, R78, R83, R88; Table ISA-6). -/

namespace Sys2Proof.Machine

/-- NOP: none. -/
def execNop (g c k : Nat) (s : State) : Host.Outcome State Fault Refusal :=
  .next (s.issue g c k .nop (fun s _ => s.retire g c k (s.strand g c k)))

/-- END (R71): the strand is freed, or waits for its pending loads, whose values are then discarded. -/
def execEndBlock (g c k : Nat) (s : State) : Host.Outcome State Fault Refusal :=
  .next (s.issue g c k .endBlock (fun s _ =>
    let t := s.strand g c k
    let s := s.issued g c k
    if t.pend.isEmpty then s.freeStrand g c k else s.setStrand g c k { t with ended := true }))

/-- YIELD: gives up the issue slot for one cycle (R63). -/
def execYield (g c k : Nat) (s : State) : Host.Outcome State Fault Refusal :=
  .next (s.issue g c k .yield (fun s _ => (s.retire g c k (s.strand g c k)).yieldSlot g))

/-- Strand k gives a token: firings dispatched from now on see its stores (R84). -/
def State.tokenGiven (s : State) (g c k : Nat) : State :=
  { s with unseen := SMap.set id [] s.unseen g ((SMap.get [] s.unseen g).map (fun e =>
      if e.c = c ∧ e.k = k ∧ e.tok = none then { e with tok := some (s.core g).seq } else e)) }

/-- The engines see every store of strand k to the own scratchpad (R84). -/
def State.storesSeen (s : State) (g c k : Nat) : State :=
  { s with unseen := SMap.set id [] s.unseen g ((SMap.get [] s.unseen g).filter (fun e => !decide (e.c = c ∧ e.k = k))) }

/-- TOKADD (R65): adds IMM32[7:0] to counter RD; past 4,095 the counter stays there and 0x07 is raised. -/
def execTokadd (g c k : Nat) (s : State) : Host.Outcome State Fault Refusal :=
  .next (s.issue g c k .tokadd (fun s d =>
    let v := s.f F.CORE_TOKEN_COUNT g c d.rd + d.field 12 8
    if 4095 < v then (s.setF F.CORE_TOKEN_COUNT 4095 g c d.rd).raise g c k 0x07
    else ((s.setF F.CORE_TOKEN_COUNT v g c d.rd).tokenGiven g c k).retire g c k (s.strand g c k)))

/-- The armed bit of block IMM32[8:0] changed; a block number not loaded raises 0x08 (R72, Table ISA-15). -/
def State.setArmed (s : State) (g c k n : Nat) (v : Bool) : State :=
  let x := s.ctx g c
  if x.blocks.length ≤ n then s.raise g c k 0x08
  else (s.setCtx g c { x with blocks := modAt x.blocks n (fun b => { b with armed := v, since := if b.armed then b.since else s.clk.now }) }).retire g c k (s.strand g c k)

/-- ARM (R72). -/
def execArm (g c k : Nat) (s : State) : Host.Outcome State Fault Refusal :=
  .next (s.issue g c k .arm (fun s d => s.setArmed g c k (d.field 12 9) true))

/-- DISARM (R72). -/
def execDisarm (g c k : Nat) (s : State) : Host.Outcome State Fault Refusal :=
  .next (s.issue g c k .disarm (fun s d => s.setArmed g c k (d.field 12 9) false))

/-- ESYNC: waits until the strand's engine instructions complete, IMM32 bit 0 matrix, bit 1 vector. -/
def execEsync (g c k : Nat) (s : State) : Host.Outcome State Fault Refusal :=
  .next (s.issue g c k .esync (fun s d =>
    if s.engineBusy g c k (d.field 12 1 == 1) (d.field 13 1 == 1) then s
    else (s.storesSeen g c k).retire g c k (s.strand g c k)))

/-- FENCE (R84): waits until the strand's loads, stores, atomics and spur operations complete. -/
def execFence (g c k : Nat) (s : State) : Host.Outcome State Fault Refusal :=
  .next (s.issue g c k .fence (fun s _ => if s.memBusy g c k then s else s.retire g c k (s.strand g c k)))

/-- A branch: to the branch's index plus OFF16 where the comparison of RS1 and RS2 holds (R78). -/
def State.branch (s : State) (g c k : Nat) (op : Op) (p : Word → Word → Bool) : State :=
  s.issue g c k op (fun s d =>
    let t := s.strand g c k
    if p (t.rd d.rs1) (t.rd d.rs2) then s.jump g c k (t.pc + d.off) t else s.retire g c k t)

/-- BEQ: branches where RS1 = RS2. -/
def execBeq (g c k : Nat) (s : State) : Host.Outcome State Fault Refusal :=
  .next (s.branch g c k .beq (fun a b => a == b))

/-- BNE: branches where RS1 ≠ RS2. -/
def execBne (g c k : Nat) (s : State) : Host.Outcome State Fault Refusal :=
  .next (s.branch g c k .bne (fun a b => a != b))

/-- BLT: branches where RS1 < RS2, signed. -/
def execBlt (g c k : Nat) (s : State) : Host.Outcome State Fault Refusal :=
  .next (s.branch g c k .blt ltS)

/-- BGE: branches where RS1 ≥ RS2, signed. -/
def execBge (g c k : Nat) (s : State) : Host.Outcome State Fault Refusal :=
  .next (s.branch g c k .bge (fun a b => !ltS a b))

/-- BLTU: branches where RS1 < RS2, unsigned. -/
def execBltu (g c k : Nat) (s : State) : Host.Outcome State Fault Refusal :=
  .next (s.branch g c k .bltu ltU)

/-- BGEU: branches where RS1 ≥ RS2, unsigned. -/
def execBgeu (g c k : Nat) (s : State) : Host.Outcome State Fault Refusal :=
  .next (s.branch g c k .bgeu (fun a b => !ltU a b))

/-- JAL (R78): RD ← the next index; to the JAL's index plus IMM32. -/
def execJal (g c k : Nat) (s : State) : Host.Outcome State Fault Refusal :=
  .next (s.issue g c k .jal (fun s d =>
    let t := s.strand g c k
    s.jump g c k (t.pc + signedN 32 d.imm) (t.wr d.rd (BitVec.ofNat 64 (t.pc + 1)))))

/-- JALR (R78): RD ← the next index; to RS1 + IMM32 within the block. -/
def execJalr (g c k : Nat) (s : State) : Host.Outcome State Fault Refusal :=
  .next (s.issue g c k .jalr (fun s d =>
    let t := s.strand g c k
    s.jump g c k (t.rd d.rs1 + d.immS).toNat (t.wr d.rd (BitVec.ofNat 64 (t.pc + 1)))))

/-- TRAP (R88): the trap fault 0x0F, with IMM32, sign-extended, in CORE_FAULT_ADDR. -/
def execTrap (g c k : Nat) (s : State) : Host.Outcome State Fault Refusal :=
  .next (s.issue g c k .trap (fun s d => s.raise g c k 0x0F (some d.immS.toNat)))

end Sys2Proof.Machine
end

