-- ==== Sys2Proof/Machine/Scalar.lean ====
section
/-! DEFINITION. The scalar register instructions (R83, Table ISA-7). Each names its operation; issue, the pending check and
the write of RD are shared. -/

namespace Sys2Proof.Machine

/-- A register-register operation: RD ← op RS1 RS2. -/
def State.aluR (s : State) (g c k : Nat) (op : Op) (f : Word → Word → Word) : State :=
  s.issue g c k op (fun s d => s.retireRd g c k d.rd (f ((s.strand g c k).rd d.rs1) ((s.strand g c k).rd d.rs2)))

/-- A register-register operation of latency class B, n cycles. -/
def State.aluB (s : State) (g c k : Nat) (op : Op) (n : Nat) (f : Word → Word → Word) : State :=
  s.issue g c k op (fun s d => s.retireB g c k d.rd (f ((s.strand g c k).rd d.rs1) ((s.strand g c k).rd d.rs2)) n)

/-- A register-immediate operation: RD ← op RS1 IMM32, sign-extended. -/
def State.aluI (s : State) (g c k : Nat) (op : Op) (f : Word → Word → Word) : State :=
  s.issue g c k op (fun s d => s.retireRd g c k d.rd (f ((s.strand g c k).rd d.rs1) d.immS))

/-- ADD: 64-bit wrapping add. -/
def execAdd (g c k : Nat) (s : State) : Host.Outcome State Fault Refusal :=
  .next (s.aluR g c k .add (fun a b => a + b))

/-- SUB: 64-bit wrapping subtract. -/
def execSub (g c k : Nat) (s : State) : Host.Outcome State Fault Refusal :=
  .next (s.aluR g c k .sub (fun a b => a - b))

/-- AND: bitwise and. -/
def execAnd (g c k : Nat) (s : State) : Host.Outcome State Fault Refusal :=
  .next (s.aluR g c k .and (fun a b => a &&& b))

/-- OR: bitwise or. -/
def execOr (g c k : Nat) (s : State) : Host.Outcome State Fault Refusal :=
  .next (s.aluR g c k .or (fun a b => a ||| b))

/-- XOR: bitwise exclusive or. -/
def execXor (g c k : Nat) (s : State) : Host.Outcome State Fault Refusal :=
  .next (s.aluR g c k .xor (fun a b => a ^^^ b))

/-- SLL: shift left by RS2[5:0]. -/
def execSll (g c k : Nat) (s : State) : Host.Outcome State Fault Refusal :=
  .next (s.aluR g c k .sll (fun a b => a <<< bits b 0 6))

/-- SRL: logical shift right by RS2[5:0]. -/
def execSrl (g c k : Nat) (s : State) : Host.Outcome State Fault Refusal :=
  .next (s.aluR g c k .srl (fun a b => a >>> bits b 0 6))

/-- SRA: arithmetic shift right by RS2[5:0]. -/
def execSra (g c k : Nat) (s : State) : Host.Outcome State Fault Refusal :=
  .next (s.aluR g c k .sra (fun a b => a.sshiftRight (bits b 0 6)))

/-- SLT: 1 where RS1 < RS2 signed. -/
def execSlt (g c k : Nat) (s : State) : Host.Outcome State Fault Refusal :=
  .next (s.aluR g c k .slt (fun a b => oneIf (ltS a b)))

/-- SLTU: 1 where RS1 < RS2 unsigned. -/
def execSltu (g c k : Nat) (s : State) : Host.Outcome State Fault Refusal :=
  .next (s.aluR g c k .sltu (fun a b => oneIf (ltU a b)))

/-- MUL: low 64 bits of the product. -/
def execMul (g c k : Nat) (s : State) : Host.Outcome State Fault Refusal :=
  .next (s.aluB g c k .mul 4 (fun a b => a * b))

/-- MULHU: high 64 bits of the unsigned product. -/
def execMulhu (g c k : Nat) (s : State) : Host.Outcome State Fault Refusal :=
  .next (s.aluB g c k .mulhu 4 (fun a b => mulHU a b))

/-- DIVU: unsigned quotient, all ones where RS2 = 0. -/
def execDivu (g c k : Nat) (s : State) : Host.Outcome State Fault Refusal :=
  .next (s.aluB g c k .divu 24 (fun a b => divU a b))

/-- REMU: unsigned remainder, RS1 where RS2 = 0. -/
def execRemu (g c k : Nat) (s : State) : Host.Outcome State Fault Refusal :=
  .next (s.aluB g c k .remu 24 (fun a b => remU a b))

/-- MIN: signed minimum. -/
def execMin (g c k : Nat) (s : State) : Host.Outcome State Fault Refusal :=
  .next (s.aluR g c k .min (fun a b => if ltS b a then b else a))

/-- MAX: signed maximum. -/
def execMax (g c k : Nat) (s : State) : Host.Outcome State Fault Refusal :=
  .next (s.aluR g c k .max (fun a b => if ltS a b then b else a))

/-- POPC: set bits of RS1. -/
def execPopc (g c k : Nat) (s : State) : Host.Outcome State Fault Refusal :=
  .next (s.aluR g c k .popc (fun a _ => BitVec.ofNat 64 (popCount 64 a.toNat)))

/-- CLZ: leading zeros of RS1. -/
def execClz (g c k : Nat) (s : State) : Host.Outcome State Fault Refusal :=
  .next (s.aluR g c k .clz (fun a _ => BitVec.ofNat 64 (clz a)))

/-- ADDI: adds IMM32. -/
def execAddi (g c k : Nat) (s : State) : Host.Outcome State Fault Refusal :=
  .next (s.aluI g c k .addi (fun a b => a + b))

/-- ANDI: and with IMM32. -/
def execAndi (g c k : Nat) (s : State) : Host.Outcome State Fault Refusal :=
  .next (s.aluI g c k .andi (fun a b => a &&& b))

/-- ORI: or with IMM32. -/
def execOri (g c k : Nat) (s : State) : Host.Outcome State Fault Refusal :=
  .next (s.aluI g c k .ori (fun a b => a ||| b))

/-- XORI: exclusive or with IMM32. -/
def execXori (g c k : Nat) (s : State) : Host.Outcome State Fault Refusal :=
  .next (s.aluI g c k .xori (fun a b => a ^^^ b))

/-- SLLI: shift left by IMM32[5:0]. -/
def execSlli (g c k : Nat) (s : State) : Host.Outcome State Fault Refusal :=
  .next (s.aluI g c k .slli (fun a b => a <<< bits b 0 6))

/-- SRLI: logical shift right by IMM32[5:0]. -/
def execSrli (g c k : Nat) (s : State) : Host.Outcome State Fault Refusal :=
  .next (s.aluI g c k .srli (fun a b => a >>> bits b 0 6))

/-- SRAI: arithmetic shift right by IMM32[5:0]. -/
def execSrai (g c k : Nat) (s : State) : Host.Outcome State Fault Refusal :=
  .next (s.aluI g c k .srai (fun a b => a.sshiftRight (bits b 0 6)))

/-- SLTI: 1 where RS1 < IMM32 signed. -/
def execSlti (g c k : Nat) (s : State) : Host.Outcome State Fault Refusal :=
  .next (s.aluI g c k .slti (fun a b => oneIf (ltS a b)))

/-- LI: RD ← IMM32. -/
def execLi (g c k : Nat) (s : State) : Host.Outcome State Fault Refusal :=
  .next (s.aluI g c k .li (fun _ b => b))

/-- LUI: RD[63:32] ← IMM32, RD[31:0] kept. -/
def execLui (g c k : Nat) (s : State) : Host.Outcome State Fault Refusal :=
  .next (s.issue g c k .lui (fun s d => s.retireRd g c k d.rd (lui ((s.strand g c k).rd d.rd) d.imm)))

end Sys2Proof.Machine
end

