-- ==== Sys2Proof/Machine/Dispatch.lean ====
section
/-! DEFINITION. Dispatch: one arm per command, each one direct call of its meaning. -/

namespace Sys2Proof.Machine

/-- The effect of a command on everything but the queue. -/
def exec (i : Instr) (s : State) : Host.Outcome State Fault Refusal :=
  match i with
  | .frmTick => Sys2Proof.Machine.execFrmTick s
  | .frameWatchdogFire c => Sys2Proof.Machine.execFrameWatchdogFire c s
  | .loanEndTick lend n => Sys2Proof.Machine.execLoanEndTick lend n s
  | .intakeDeadlineExpiry c => Sys2Proof.Machine.execIntakeDeadlineExpiry c s
  | .stepUndecided c => Sys2Proof.Machine.execStepUndecided c s
  | .frmCtrlRunSet => Sys2Proof.Machine.execFrmCtrlRunSet s
  | .frmCtrlRunClear => Sys2Proof.Machine.execFrmCtrlRunClear s
  | .syncEn on => Sys2Proof.Machine.execSyncEn on s
  | .firstTick => Sys2Proof.Machine.execFirstTick s
  | .ptpLock port time utcOffset => Sys2Proof.Machine.execPtpLock port time utcOffset s
  | .ptpEventMessage port offset => Sys2Proof.Machine.execPtpEventMessage port offset s
  | .holdover => Sys2Proof.Machine.execHoldover s
  | .frmOvrMaxClear c clear => Sys2Proof.Machine.execFrmOvrMaxClear c clear s
  | .frmCtxResume c => Sys2Proof.Machine.execFrmCtxResume c s
  | .frmCtxDiscard c => Sys2Proof.Machine.execFrmCtxDiscard c s
  | .stallSnapshot g c => Sys2Proof.Machine.execStallSnapshot g c s
  | .blockFire g c => Sys2Proof.Machine.execBlockFire g c s
  | .blockDispatch g c => Sys2Proof.Machine.execBlockDispatch g c s
  | .nop g c k => Sys2Proof.Machine.execNop g c k s
  | .endBlock g c k => Sys2Proof.Machine.execEndBlock g c k s
  | .fclose g c k => Sys2Proof.Machine.execFclose g c k s
  | .yield g c k => Sys2Proof.Machine.execYield g c k s
  | .tokadd g c k => Sys2Proof.Machine.execTokadd g c k s
  | .arm g c k => Sys2Proof.Machine.execArm g c k s
  | .disarm g c k => Sys2Proof.Machine.execDisarm g c k s
  | .esync g c k => Sys2Proof.Machine.execEsync g c k s
  | .fence g c k => Sys2Proof.Machine.execFence g c k s
  | .beq g c k => Sys2Proof.Machine.execBeq g c k s
  | .bne g c k => Sys2Proof.Machine.execBne g c k s
  | .blt g c k => Sys2Proof.Machine.execBlt g c k s
  | .bge g c k => Sys2Proof.Machine.execBge g c k s
  | .bltu g c k => Sys2Proof.Machine.execBltu g c k s
  | .bgeu g c k => Sys2Proof.Machine.execBgeu g c k s
  | .jal g c k => Sys2Proof.Machine.execJal g c k s
  | .jalr g c k => Sys2Proof.Machine.execJalr g c k s
  | .trap g c k => Sys2Proof.Machine.execTrap g c k s
  | .add g c k => Sys2Proof.Machine.execAdd g c k s
  | .sub g c k => Sys2Proof.Machine.execSub g c k s
  | .and g c k => Sys2Proof.Machine.execAnd g c k s
  | .or g c k => Sys2Proof.Machine.execOr g c k s
  | .xor g c k => Sys2Proof.Machine.execXor g c k s
  | .sll g c k => Sys2Proof.Machine.execSll g c k s
  | .srl g c k => Sys2Proof.Machine.execSrl g c k s
  | .sra g c k => Sys2Proof.Machine.execSra g c k s
  | .slt g c k => Sys2Proof.Machine.execSlt g c k s
  | .sltu g c k => Sys2Proof.Machine.execSltu g c k s
  | .mul g c k => Sys2Proof.Machine.execMul g c k s
  | .mulhu g c k => Sys2Proof.Machine.execMulhu g c k s
  | .divu g c k => Sys2Proof.Machine.execDivu g c k s
  | .remu g c k => Sys2Proof.Machine.execRemu g c k s
  | .min g c k => Sys2Proof.Machine.execMin g c k s
  | .max g c k => Sys2Proof.Machine.execMax g c k s
  | .popc g c k => Sys2Proof.Machine.execPopc g c k s
  | .clz g c k => Sys2Proof.Machine.execClz g c k s
  | .addi g c k => Sys2Proof.Machine.execAddi g c k s
  | .andi g c k => Sys2Proof.Machine.execAndi g c k s
  | .ori g c k => Sys2Proof.Machine.execOri g c k s
  | .xori g c k => Sys2Proof.Machine.execXori g c k s
  | .slli g c k => Sys2Proof.Machine.execSlli g c k s
  | .srli g c k => Sys2Proof.Machine.execSrli g c k s
  | .srai g c k => Sys2Proof.Machine.execSrai g c k s
  | .slti g c k => Sys2Proof.Machine.execSlti g c k s
  | .li g c k => Sys2Proof.Machine.execLi g c k s
  | .lui g c k => Sys2Proof.Machine.execLui g c k s
  | .ld8 g c k => Sys2Proof.Machine.execLd8 g c k s
  | .ld16 g c k => Sys2Proof.Machine.execLd16 g c k s
  | .ld32 g c k => Sys2Proof.Machine.execLd32 g c k s
  | .ld64 g c k => Sys2Proof.Machine.execLd64 g c k s
  | .lds8 g c k => Sys2Proof.Machine.execLds8 g c k s
  | .lds16 g c k => Sys2Proof.Machine.execLds16 g c k s
  | .lds32 g c k => Sys2Proof.Machine.execLds32 g c k s
  | .st8 g c k => Sys2Proof.Machine.execSt8 g c k s
  | .st16 g c k => Sys2Proof.Machine.execSt16 g c k s
  | .st32 g c k => Sys2Proof.Machine.execSt32 g c k s
  | .st64 g c k => Sys2Proof.Machine.execSt64 g c k s
  | .amoadd g c k => Sys2Proof.Machine.execAmoadd g c k s
  | .amoswap g c k => Sys2Proof.Machine.execAmoswap g c k s
  | .amocas g c k => Sys2Proof.Machine.execAmocas g c k s
  | .scalarAccessComplete g n => Sys2Proof.Machine.execScalarAccessComplete g n s
  | .mma g c k => Sys2Proof.Machine.execMma g c k s
  | .mwb g c k => Sys2Proof.Machine.execMwb g c k s
  | .mtin g c k => Sys2Proof.Machine.execMtin g c k s
  | .mtout g c k => Sys2Proof.Machine.execMtout g c k s
  | .mlb g c k => Sys2Proof.Machine.execMlb g c k s
  | .mle g c k => Sys2Proof.Machine.execMle g c k s
  | .matrixInstructionStart g => Sys2Proof.Machine.execMatrixInstructionStart g s
  | .matrixInstructionComplete g n => Sys2Proof.Machine.execMatrixInstructionComplete g n s
  | .traverseTotalLanding src => Sys2Proof.Machine.execTraverseTotalLanding src s
  | .traverseSkip g c t => Sys2Proof.Machine.execTraverseSkip g c t s
  | .layerEndDecision g c cls => Sys2Proof.Machine.execLayerEndDecision g c cls s
  | .mtxTrvNextWrite g c t w v => Sys2Proof.Machine.execMtxTrvNextWrite g c t w v s
  | .vadd g c k => Sys2Proof.Machine.execVadd g c k s
  | .vsub g c k => Sys2Proof.Machine.execVsub g c k s
  | .vmul g c k => Sys2Proof.Machine.execVmul g c k s
  | .vshl g c k => Sys2Proof.Machine.execVshl g c k s
  | .vshr g c k => Sys2Proof.Machine.execVshr g c k s
  | .vand g c k => Sys2Proof.Machine.execVand g c k s
  | .vor g c k => Sys2Proof.Machine.execVor g c k s
  | .vxor g c k => Sys2Proof.Machine.execVxor g c k s
  | .vcmp g c k => Sys2Proof.Machine.execVcmp g c k s
  | .vsel g c k => Sys2Proof.Machine.execVsel g c k s
  | .vfadd g c k => Sys2Proof.Machine.execVfadd g c k s
  | .vfmul g c k => Sys2Proof.Machine.execVfmul g c k s
  | .vfma g c k => Sys2Proof.Machine.execVfma g c k s
  | .vcvt g c k => Sys2Proof.Machine.execVcvt g c k s
  | .vrcp g c k => Sys2Proof.Machine.execVrcp g c k s
  | .vrsq g c k => Sys2Proof.Machine.execVrsq g c k s
  | .vrstep g c k => Sys2Proof.Machine.execVrstep g c k s
  | .vredsum g c k => Sys2Proof.Machine.execVredsum g c k s
  | .vredmax g c k => Sys2Proof.Machine.execVredmax g c k s
  | .vredmin g c k => Sys2Proof.Machine.execVredmin g c k s
  | .vupd g c k => Sys2Proof.Machine.execVupd g c k s
  | .vcfg g c k => Sys2Proof.Machine.execVcfg g c k s
  | .vectorInstructionStart g => Sys2Proof.Machine.execVectorInstructionStart g s
  | .vectorInstructionComplete g => Sys2Proof.Machine.execVectorInstructionComplete g s
  | .dld g c k => Sys2Proof.Machine.execDld g c k s
  | .dgo g c k => Sys2Proof.Machine.execDgo g c k s
  | .dstop g c k => Sys2Proof.Machine.execDstop g c k s
  | .dstat g c k => Sys2Proof.Machine.execDstat g c k s
  | .shadowActivation g ch => Sys2Proof.Machine.execShadowActivation g ch s
  | .dmaReadBurstIssue g => Sys2Proof.Machine.execDmaReadBurstIssue g s
  | .dmaReadReturn g n err => Sys2Proof.Machine.execDmaReadReturn g n err s
  | .dmaWriteBurstIssue g => Sys2Proof.Machine.execDmaWriteBurstIssue g s
  | .dmaWriteAck g n err => Sys2Proof.Machine.execDmaWriteAck g n err s
  | .dmaPaceCounterSeen g ch => Sys2Proof.Machine.execDmaPaceCounterSeen g ch s
  | .dmaBurstRetry g ch => Sys2Proof.Machine.execDmaBurstRetry g ch s
  | .channelDrained g ch => Sys2Proof.Machine.execChannelDrained g ch s
  | .dmaChRestart g ch => Sys2Proof.Machine.execDmaChRestart g ch s
  | .dmaChAbort g ch => Sys2Proof.Machine.execDmaChAbort g ch s
  | .restartAll g => Sys2Proof.Machine.execRestartAll g s
  | .abortAll g => Sys2Proof.Machine.execAbortAll g s
  | .dmaChPaceWrite g ch v => Sys2Proof.Machine.execDmaChPaceWrite g ch v s
  | .dmaChPaceAddrWrite g ch v => Sys2Proof.Machine.execDmaChPaceAddrWrite g ch v s
  | .sput g c k => Sys2Proof.Machine.execSput g c k s
  | .sget g c k => Sys2Proof.Machine.execSget g c k s
  | .satom g c k => Sys2Proof.Machine.execSatom g c k s
  | .spurSend g => Sys2Proof.Machine.execSpurSend g s
  | .spurComplete g n => Sys2Proof.Machine.execSpurComplete g n s
  | .spurTimeout g n => Sys2Proof.Machine.execSpurTimeout g n s
  | .msend g c k => Sys2Proof.Machine.execMsend g c k s
  | .msendr g c k => Sys2Proof.Machine.execMsendr g c k s
  | .mrecv g c k => Sys2Proof.Machine.execMrecv g c k s
  | .mcount g c k => Sys2Proof.Machine.execMcount g c k s
  | .messageArrival src => Sys2Proof.Machine.execMessageArrival src s
  | .messageReoffer g c q => Sys2Proof.Machine.execMessageReoffer g c q s
  | .colMqCfgWrite g c q v => Sys2Proof.Machine.execColMqCfgWrite g c q v s
  | .cole g c k => Sys2Proof.Machine.execCole g c k s
  | .colw g c k => Sys2Proof.Machine.execColw g c k s
  | .colr g c k => Sys2Proof.Machine.execColr g c k s
  | .colStalledEntrySend g n => Sys2Proof.Machine.execColStalledEntrySend g n s
  | .colEntryArrival n => Sys2Proof.Machine.execColEntryArrival n s
  | .colReleaseArrival n => Sys2Proof.Machine.execColReleaseArrival n s
  | .crd g c k => Sys2Proof.Machine.execCrd g c k s
  | .cwr g c k => Sys2Proof.Machine.execCwr g c k s
  | .coreCtxResume c => Sys2Proof.Machine.execCoreCtxResume c s
  | .coreCtxDiscard c => Sys2Proof.Machine.execCoreCtxDiscard c s
  | .loadGo g c => Sys2Proof.Machine.execLoadGo g c s
  | .loadDone g c err => Sys2Proof.Machine.execLoadDone g c err s
  | .unload g c => Sys2Proof.Machine.execUnload g c s
  | .coreBtIndexWrite g c v => Sys2Proof.Machine.execCoreBtIndexWrite g c v s
  | .coreBtDataStage g c w v => Sys2Proof.Machine.execCoreBtDataStage g c w v s
  | .coreBtData3Commit g c v => Sys2Proof.Machine.execCoreBtData3Commit g c v s
  | .coreTokenWrite g c t v => Sys2Proof.Machine.execCoreTokenWrite g c t v s
  | .loanGrant p => Sys2Proof.Machine.execLoanGrant p s
  | .loanNotice p => Sys2Proof.Machine.execLoanNotice p s
  | .loanRelease p => Sys2Proof.Machine.execLoanRelease p s
  | .countWordAtomic g pool seg page delta => Sys2Proof.Machine.execCountWordAtomic g pool seg page delta s
  | .allocationWordAtomic pool seg => Sys2Proof.Machine.execAllocationWordAtomic pool seg s
  | .segmentReady pool seg => Sys2Proof.Machine.execSegmentReady pool seg s
  | .lendingPeriod die => Sys2Proof.Machine.execLendingPeriod die s
  | .lenderWake g => Sys2Proof.Machine.execLenderWake g s
  | .colLendCfgWrite die v => Sys2Proof.Machine.execColLendCfgWrite die v s
  | .trnStepOpen c => Sys2Proof.Machine.execTrnStepOpen c s
  | .trnStepAbort c => Sys2Proof.Machine.execTrnStepAbort c s
  | .forceCommit c => Sys2Proof.Machine.execForceCommit c s
  | .forceAbort c => Sys2Proof.Machine.execForceAbort c s
  | .trnGnsCfgWrite c v => Sys2Proof.Machine.execTrnGnsCfgWrite c v s
  | .linkStateChange link ev => Sys2Proof.Machine.execLinkStateChange link ev s
  | .linkFault link => Sys2Proof.Machine.execLinkFault link s
  | .noinePacketSend f => Sys2Proof.Machine.execNoinePacketSend f s
  | .write p => Sys2Proof.Machine.execWrite p s
  | .readReq p => Sys2Proof.Machine.execReadReq p s
  | .readResp p => Sys2Proof.Machine.execReadResp p s
  | .atomicReq p => Sys2Proof.Machine.execAtomicReq p s
  | .atomicResp p => Sys2Proof.Machine.execAtomicResp p s
  | .ack p => Sys2Proof.Machine.execAck p s
  | .nak p => Sys2Proof.Machine.execNak p s
  | .ackTimer f => Sys2Proof.Machine.execAckTimer f s
  | .retransmitTimeout f => Sys2Proof.Machine.execRetransmitTimeout f s
  | .rnrResend f => Sys2Proof.Machine.execRnrResend f s
  | .completionTimeout f => Sys2Proof.Machine.execCompletionTimeout f s
  | .flowIdleClose f => Sys2Proof.Machine.execFlowIdleClose f s
  | .flowClose p => Sys2Proof.Machine.execFlowClose p s
  | .trvCredit p => Sys2Proof.Machine.execTrvCredit p s
  | .colArrival p => Sys2Proof.Machine.execColArrival p s
  | .colRelease p => Sys2Proof.Machine.execColRelease p s
  | .colQueryPoll ctr => Sys2Proof.Machine.execColQueryPoll ctr s
  | .colQuery p => Sys2Proof.Machine.execColQuery p s
  | .frameRelay p => Sys2Proof.Machine.execFrameRelay p s
  | .pfcFrame port prio pause => Sys2Proof.Machine.execPfcFrame port prio pause s
  | .txnBegin o => Sys2Proof.Machine.execTxnBegin o s
  | .txnCommit o => Sys2Proof.Machine.execTxnCommit o s
  | .txnRollback o => Sys2Proof.Machine.execTxnRollback o s
  | .rtFieldWrite o off size v => Sys2Proof.Machine.execRtFieldWrite o off size v s
  | .txnTimeout o => Sys2Proof.Machine.execTxnTimeout o s
  | .registerWrite src bar off size v => Sys2Proof.Machine.execRegisterWrite src bar off size v s
  | .apertureWrite p off data => Sys2Proof.Machine.execApertureWrite p off data s
  | .apertureRead p off len err => Sys2Proof.Machine.execApertureRead p off len err s
  | .pciePortReset p kind => Sys2Proof.Machine.execPciePortReset p kind s
  | .perstDeassert p => Sys2Proof.Machine.execPerstDeassert p s
  | .hostRingFetch p c n => Sys2Proof.Machine.execHostRingFetch p c n s
  | .commandNop p c e => Sys2Proof.Machine.execCommandNop p c e s
  | .request p c e => Sys2Proof.Machine.execRequest p c e s
  | .note p c e => Sys2Proof.Machine.execNote p c e s
  | .token p c e => Sys2Proof.Machine.execToken p c e s
  | .hifCrCfgEnable p c v => Sys2Proof.Machine.execHifCrCfgEnable p c v s
  | .coldStart info => Sys2Proof.Machine.execColdStart info s
  | .warmReset src => Sys2Proof.Machine.execWarmReset src s
  | .coldReset src => Sys2Proof.Machine.execColdReset src s
  | .mctpControlMessage via body => Sys2Proof.Machine.execMctpControlMessage via body s
  | .getStatus via => Sys2Proof.Machine.execGetStatus via s
  | .readSensors via body => Sys2Proof.Machine.execReadSensors via body s
  | .readCairn via body => Sys2Proof.Machine.execReadCairn via body s
  | .attest via body => Sys2Proof.Machine.execAttest via body s
  | .getCerts via body => Sys2Proof.Machine.execGetCerts via body s
  | .fwWrite via body => Sys2Proof.Machine.execFwWrite via body s
  | .fwVerify via body => Sys2Proof.Machine.execFwVerify via body s
  | .fwActivate via body => Sys2Proof.Machine.execFwActivate via body s
  | .reset via body => Sys2Proof.Machine.execReset via body s
  | .calUser via body => Sys2Proof.Machine.execCalUser via body s
  | .meshFlitError e => Sys2Proof.Machine.execMeshFlitError e s
  | .correctedWriteback n => Sys2Proof.Machine.execCorrectedWriteback n s
  | .hbmScrubRead err => Sys2Proof.Machine.execHbmScrubRead err s
  | .bistSlice g fail => Sys2Proof.Machine.execBistSlice g fail s
  | .pllLockLoss die => Sys2Proof.Machine.execPllLockLoss die s
  | .pllFrequencyCheck die err => Sys2Proof.Machine.execPllFrequencyCheck die err s
  | .thermalSensorCrossCheck readings bad => Sys2Proof.Machine.execThermalSensorCrossCheck readings bad s
  | .voltageMonitorCheck readings bad => Sys2Proof.Machine.execVoltageMonitorCheck readings bad s
  | .bistLoopGo v => Sys2Proof.Machine.execBistLoopGo v s
  | .loopDone lanes errors => Sys2Proof.Machine.execLoopDone lanes errors s
  | .sidebandShort pin => Sys2Proof.Machine.execSidebandShort pin s
  | .lifeCounterMirror => Sys2Proof.Machine.execLifeCounterMirror s
  | .lifeCounterCommit => Sys2Proof.Machine.execLifeCounterCommit s
  | .wearAccumulate => Sys2Proof.Machine.execWearAccumulate s
  | .lifeUtcSet v => Sys2Proof.Machine.execLifeUtcSet v s
  | .inputUnderVoltageBand mv => Sys2Proof.Machine.execInputUnderVoltageBand mv s
  | .underVoltageCutoff => Sys2Proof.Machine.execUnderVoltageCutoff s
  | .inputOverVoltageBand mv => Sys2Proof.Machine.execInputOverVoltageBand mv s
  | .overVoltageCutoff => Sys2Proof.Machine.execOverVoltageCutoff s
  | .inputReconnect info => Sys2Proof.Machine.execInputReconnect info s
  | .powerSample volt amp => Sys2Proof.Machine.execPowerSample volt amp s
  | .powerIntervalDown => Sys2Proof.Machine.execPowerIntervalDown s
  | .powerClockStepUp => Sys2Proof.Machine.execPowerClockStepUp s
  | .thermalCondition n v => Sys2Proof.Machine.execThermalCondition n v s
  | .thermalThrottleStep => Sys2Proof.Machine.execThermalThrottleStep s
  | .junctionOverheatShutdown => Sys2Proof.Machine.execJunctionOverheatShutdown s
  | .hardwareTrip => Sys2Proof.Machine.execHardwareTrip s
  | .flowLow v => Sys2Proof.Machine.execFlowLow v s
  | .flowRestored v => Sys2Proof.Machine.execFlowRestored v s
  | .flowLossShutdown => Sys2Proof.Machine.execFlowLossShutdown s
  | .leakDetect => Sys2Proof.Machine.execLeakDetect s
  | .shdnReq => Sys2Proof.Machine.execShdnReq s
  | .pwrEnDeassert => Sys2Proof.Machine.execPwrEnDeassert s
  | .pwrSdReq src => Sys2Proof.Machine.execPwrSdReq src s
  | .shutdownNoticeExpiry fails info => Sys2Proof.Machine.execShutdownNoticeExpiry fails info s
  | .railFault rail => Sys2Proof.Machine.execRailFault rail s
  | .altimeterPhaseCount => Sys2Proof.Machine.execAltimeterPhaseCount s
  | .holdoverOffsetLimit offset => Sys2Proof.Machine.execHoldoverOffsetLimit offset s
  | .receiveFlowIdleFree f => Sys2Proof.Machine.execReceiveFlowIdleFree f s
  | .pcieLinkUp p far => Sys2Proof.Machine.execPcieLinkUp p far s
  | .pcieCompletionTimeout g n => Sys2Proof.Machine.execPcieCompletionTimeout g n s
  | .pwrEnAssert info => Sys2Proof.Machine.execPwrEnAssert info s
  | .underVoltageBandExit mv => Sys2Proof.Machine.execUnderVoltageBandExit mv s
  | .standbyPowerLoss => Sys2Proof.Machine.execStandbyPowerLoss s
  | .receivedFrameDrop p => Sys2Proof.Machine.execReceivedFrameDrop p s

end Sys2Proof.Machine
end

