-- ==== Sys2Proof/Safety.lean ====
section
/-! DEFINITION. What the claims speak of, in terms of State alone: a sound state, the instruction at a strand's pc, and
what a group of commands may change. -/

namespace Sys2Proof.Machine

/-- Memory in its one canonical form, poisoned granules in rising order and each at most once, and a frame counter of 64
bits (R33). -/
structure State.Sound (s : State) : Prop where
  mem : Memory.wf s.mem = true
  poison : s.poison.Pairwise (· < ·)
  frame : s.clk.frame < 2 ^ 64

/-! ### The instruction a strand stands at -/

/-- The instruction that strand k of context c on core g can issue now: nothing holds the strand, the issue slot is its own
(R63), its index lies in the block and in the code, the word holds no error and spells an instruction, and no register it names
is pending (R64, R71, R78). -/
def State.instrAt (s : State) (g c k : Nat) : Option Dec :=
  let t := s.strand g c k
  let b := (s.ctx g c).blk t.block
  let key := s.codeKey g c (b.entry + t.pc)
  if s.canIssue g c k && decide (t.pc ≤ b.lenM1) && decide (b.entry + t.pc < (s.ctx g c).codeLen) && !s.instrBad key then
    match decodeWord (BitVec.ofNat 64 (s.readN key 8)) with
    | some d => if d.uses.any (fun r => t.pend.contains r) then none else some d
    | none => none
  else none

/-- Strand k can issue instruction d, of opcode op. -/
abbrev State.At (s : State) (g c k : Nat) (op : Op) (d : Dec) : Prop := s.instrAt g c k = some d ∧ d.op = op

/-! ### What an instruction leaves alone -/

/-- t is s but for strand k of context c on core g and the bookkeeping of issue: the issue slot of the core, which strand k holds
now, the count of switches, and the stall watch of the context (R63, R52). -/
structure State.OnlyStrand (s t : State) (g c k : Nat) : Prop where
  rest : t = { s with strands := t.strands, cores := t.cores, regs := t.regs, watch := t.watch, stalled := t.stalled }
  strands : ∀ g' c' k', (g', c', k') ≠ (g, c, k) → t.strand g' c' k' = s.strand g' c' k'
  cores : ∀ g', g' ≠ g → t.core g' = s.core g'
  core : t.core g = { s.core g with iss := (t.core g).iss }
  slot : (t.core g).iss.last = some (c, k)
  regs : ∀ r, r ≠ ⟨.CORE_SWITCHES, g, c, 0⟩ → t.reg r = s.reg r

/-- The instruction at strand k has retired and written v to register r: s0 keeps reading 0, every other register and all
else of the strand stands, the pc is one on. -/
structure State.Retires (s t : State) (g c k r : Nat) (v : Word) : Prop where
  value : ∀ q, (t.strand g c k).rd q = if q = r ∧ q ≠ 0 then v else (s.strand g c k).rd q
  strand : t.strand g c k = { s.strand g c k with pc := (s.strand g c k).pc + 1, regs := (t.strand g c k).regs }
  frame : s.OnlyStrand t g c k

/-- The instruction at strand k has retired and written no register. -/
structure State.Passes (s t : State) (g c k : Nat) : Prop where
  strand : t.strand g c k = { s.strand g c k with pc := (s.strand g c k).pc + 1 }
  frame : s.OnlyStrand t g c k

/-- The strand has gone on at index n of its block. -/
structure State.GoesTo (s t : State) (g c k n : Nat) : Prop where
  strand : t.strand g c k = { s.strand g c k with pc := n }
  frame : s.OnlyStrand t g c k

/-- The instruction at strand k has raised a fault of a code (R88, R89): the records name it, the context is halted on
every core within 2 µs, the events are set, and nothing else of the module changes but the interrupt vectors that the events
send. -/
structure State.Faults (s t : State) (g c k code : Nat) : Prop where
  code : t.f F.CORE_FAULT_CODE g c = code % 256
  strand : t.f F.CORE_FAULT_STRAND g c = k % 8
  block : t.f F.CORE_FAULT_BLOCK g c = (s.strand g c k).block % 512
  index : t.f F.CORE_FAULT_INDEX g c = (s.strand g c k).pc % 4096
  halted : t.fb F.CORE_CTX_HALT_HALTED c = true
  event : t.fb F.CORE_EVENT_FAULT g c = true
  shared : c < 4 → bitN (t.f F.CORE_FAULT_EVENT_FAULT) c = true
  kept : t.strand g c k = { s.strand g c k with faulted := true }
  strands : ∀ g' c' k', (g', c', k') ≠ (g, c, k) → t.strand g' c' k' = s.strand g' c' k'
  rest : t = { s with regs := t.regs, strands := t.strands, mctx := t.mctx, msixPend := t.msixPend, out := t.out,
                      freeCtr := t.freeCtr }
  mods : ∀ c', c' ≠ c → t.mod c' = s.mod c'
  reached : t.haltedOn g c = true
  regs : ∀ r, r ∉ [⟨.CORE_FAULT, g, c, 0⟩, ⟨.CORE_FAULT_ADDR, g, c, 0⟩, ⟨.CORE_EVENT, g, c, 0⟩, ⟨.CORE_CTX_HALT, c, 0, 0⟩,
    ⟨.CORE_FAULT_EVENT, 0, 0, 0⟩] → t.reg r = s.reg r

end Sys2Proof.Machine
end

