-- ==== Sys2Proof/Certificates/Slice0/Obligations.lean ====
section
/-! DEFINITION. The statements about the model, one proposition each, in the order of the specification. A clause about a
command concludes that exec answers a next state and says what that state is. -/

open Sys2Proof Sys2Proof.Machine

/-! ### Scalar instructions -/

namespace Sys2Proof.Claims

/-- The register-register operations (Table ISA-7), by opcode and command, each computed over the integers. -/
def registerOps : List (Op × (Nat → Nat → Nat → Instr) × (Word → Word → Word)) :=
  [(.add, .add, fun a b => BitVec.ofNat 64 (a.toNat + b.toNat)),
   (.sub, .sub, fun a b => BitVec.ofInt 64 (a.toInt - b.toInt)),
   (.and, .and, fun a b => BitVec.ofNat 64 (a.toNat &&& b.toNat)),
   (.or, .or, fun a b => BitVec.ofNat 64 (a.toNat ||| b.toNat)),
   (.xor, .xor, fun a b => BitVec.ofNat 64 (a.toNat ^^^ b.toNat)),
   (.sll, .sll, fun a b => BitVec.ofNat 64 (a.toNat * 2 ^ (b.toNat % 64))),
   (.srl, .srl, fun a b => BitVec.ofNat 64 (a.toNat / 2 ^ (b.toNat % 64))),
   (.sra, .sra, fun a b => BitVec.ofInt 64 (a.toInt / 2 ^ (b.toNat % 64))),
   (.slt, .slt, fun a b => if a.toInt < b.toInt then 1 else 0),
   (.sltu, .sltu, fun a b => if a.toNat < b.toNat then 1 else 0),
   (.mul, .mul, fun a b => BitVec.ofNat 64 (a.toNat * b.toNat)),
   (.mulhu, .mulhu, fun a b => BitVec.ofNat 64 (a.toNat * b.toNat / 2 ^ 64)),
   (.divu, .divu, fun a b => if b.toNat = 0 then BitVec.allOnes 64 else BitVec.ofNat 64 (a.toNat / b.toNat)),
   (.remu, .remu, fun a b => if b.toNat = 0 then a else BitVec.ofNat 64 (a.toNat % b.toNat)),
   (.min, .min, fun a b => BitVec.ofInt 64 (Min.min a.toInt b.toInt)),
   (.max, .max, fun a b => BitVec.ofInt 64 (Max.max a.toInt b.toInt)),
   (.popc, .popc, fun a _ => BitVec.ofNat 64 ((List.range 64).countP (fun i => a.getLsbD i))),
   (.clz, .clz, fun a _ => BitVec.ofNat 64 (if a.toNat = 0 then 64 else 63 - a.toNat.log2))]

/-- IMM32 as a signed number. -/
def simm (d : Dec) : Int := signedN 32 (d.field 12 32)

/-- The register-immediate operations (Table ISA-7): old RD, RS1 and the instruction give the new RD. -/
def immediateOps : List (Op × (Nat → Nat → Nat → Instr) × (Word → Word → Dec → Word)) :=
  [(.addi, .addi, fun _ a d => BitVec.ofInt 64 (a.toInt + simm d)),
   (.andi, .andi, fun _ a d => a &&& BitVec.ofInt 64 (simm d)),
   (.ori, .ori, fun _ a d => a ||| BitVec.ofInt 64 (simm d)),
   (.xori, .xori, fun _ a d => a ^^^ BitVec.ofInt 64 (simm d)),
   (.slli, .slli, fun _ a d => BitVec.ofNat 64 (a.toNat * 2 ^ d.field 12 6)),
   (.srli, .srli, fun _ a d => BitVec.ofNat 64 (a.toNat / 2 ^ d.field 12 6)),
   (.srai, .srai, fun _ a d => BitVec.ofInt 64 (a.toInt / 2 ^ d.field 12 6)),
   (.slti, .slti, fun _ a d => if a.toInt < simm d then 1 else 0),
   (.li, .li, fun _ _ d => BitVec.ofInt 64 (simm d)),
   (.lui, .lui, fun r _ d => BitVec.ofNat 64 (d.field 12 32 * 2 ^ 32 + r.toNat % 2 ^ 32))]

/-- The branches (Table ISA-6) and their comparisons of RS1 and RS2. -/
def branchOps : List (Op × (Nat → Nat → Nat → Instr) × (Word → Word → Bool)) :=
  [(.beq, .beq, fun a b => decide (a = b)),
   (.bne, .bne, fun a b => decide (a ≠ b)),
   (.blt, .blt, fun a b => decide (a.toInt < b.toInt)),
   (.bge, .bge, fun a b => decide (b.toInt ≤ a.toInt)),
   (.bltu, .bltu, fun a b => decide (a.toNat < b.toNat)),
   (.bgeu, .bgeu, fun a b => decide (b.toNat ≤ a.toNat))]

/-- The number of instructions of the block that strand k executes, less one. -/
def lastIndex (s : State) (g c k : Nat) : Nat := ((s.ctx g c).blk (s.strand g c k).block).lenM1

end Sys2Proof.Claims

open Sys2Proof.Claims

/-- R83, Table ISA-7: the 18 register-register and the 10 register-immediate operations write their result to RD, and nothing
else but the pc. -/
def Obligations.RegisterAndImmediateOperations : Prop :=
  (∀ (s : State) (g c k : Nat) (d : Dec), ∀ x ∈ registerOps, s.At g c k x.1 d →
     ∃ t, exec (x.2.1 g c k) s = .next t ∧
       s.Retires t g c k d.rd (x.2.2 ((s.strand g c k).rd d.rs1) ((s.strand g c k).rd d.rs2))) ∧
  (∀ (s : State) (g c k : Nat) (d : Dec), ∀ x ∈ immediateOps, s.At g c k x.1 d →
     ∃ t, exec (x.2.1 g c k) s = .next t ∧
       s.Retires t g c k d.rd (x.2.2 ((s.strand g c k).rd d.rd) ((s.strand g c k).rd d.rs1) d))

/-- R78, Table ISA-6: a taken branch goes to its own index plus OFF16, a branch not taken to the next instruction. JAL and
JALR write the index of the next instruction to RD and go to the JAL's index plus IMM32, or to RS1 + IMM32. Out of the block
each raises 0x03 and writes nothing. -/
def Obligations.BranchesAndJumps : Prop :=
  (∀ (s : State) (g c k : Nat) (d : Dec), ∀ x ∈ branchOps, s.At g c k x.1 d →
     ∃ t, exec (x.2.1 g c k) s = .next t ∧
       let u := s.strand g c k
       let target := (u.pc : Int) + signedN 16 (d.field 23 16)
       if x.2.2 (u.rd d.rs1) (u.rd d.rs2) = true then
         if 0 ≤ target ∧ target ≤ lastIndex s g c k then s.GoesTo t g c k target.toNat else s.Faults t g c k 0x03
       else s.GoesTo t g c k (u.pc + 1)) ∧
  (∀ (s : State) (g c k : Nat) (d : Dec),
     let u := s.strand g c k
     let lands (t : State) (target : Int) : Prop :=
       if 0 ≤ target ∧ target ≤ lastIndex s g c k then
         (∀ q, (t.strand g c k).rd q = if q = d.rd ∧ q ≠ 0 then BitVec.ofNat 64 (u.pc + 1) else u.rd q) ∧
         t.strand g c k = { u with pc := target.toNat, regs := (t.strand g c k).regs } ∧ s.OnlyStrand t g c k
       else s.Faults t g c k 0x03
     (s.At g c k .jal d → ∃ t, exec (.jal g c k) s = .next t ∧ lands t (u.pc + simm d)) ∧
     (s.At g c k .jalr d → ∃ t, exec (.jalr g c k) s = .next t ∧
       lands t ((u.rd d.rs1 + BitVec.ofInt 64 (simm d)).toNat)))

/-- R63, R83, Table ISA-6: NOP and YIELD only go on; ESYNC and FENCE go on once the strand's engine instructions, or its
memory and spur operations, of whichever firing, have completed, and leave the state as it is until then. After ESYNC no store
of the strand is unseen by the engines (R84). The issue slot: the current strand keeps it for 256 instructions while it can go on;
then, and after YIELD, it passes where another can go on; between two others the first in ascending order with wrap-around has
it. What it rests on beside the rules: log entries 74 and 75. -/
def Obligations.WaitsNopsAndTheIssueSlot : Prop :=
  ∀ (s : State) (g c k : Nat) (d : Dec),
    (s.At g c k .nop d → ∃ t, exec (.nop g c k) s = .next t ∧ s.Passes t g c k ∧
      let x := (s.core g).iss
      (t.core g).iss.run = if x.last = some (c, k) ∧ x.run < 256 then x.run + 1 else 1) ∧
    (s.At g c k .yield d → ∃ t, exec (.yield g c k) s = .next t ∧ s.Passes t g c k ∧ (t.core g).iss.run = 256) ∧
    (s.At g c k .esync d → ∃ t, exec (.esync g c k) s = .next t ∧
      let mine (w : Who) : Bool := decide (w.c = c ∧ w.k = k)
      let matrix := d.field 12 1 = 1 ∧ ∃ o ∈ (s.core g).mtxq, mine o.who = true
      let vector := d.field 13 1 = 1 ∧ ∃ o ∈ (s.core g).vecq, mine o.who = true
      (¬matrix → ¬vector → ({ s with unseen := t.unseen } : State).Passes t g c k ∧
        ∀ h, SMap.get [] t.unseen h = if h = g then (SMap.get [] s.unseen g).filter (fun e => !decide (e.c = c ∧ e.k = k))
          else SMap.get [] s.unseen h) ∧
      (matrix ∨ vector → t = s)) ∧
    (let x := (s.core g).iss
     let after (c' k' c0 k0 : Nat) : Nat := (8 * c' + k' + 63 - (8 * c0 + k0)) % 32
     (s.ready g c k = true → s.able g c k = true → x.last = some (c, k) → x.run < 256 →
       ∀ c' k', (c', k') ≠ (c, k) → s.canIssue g c' k' = false) ∧
     (∀ c' k', (c', k') ≠ (c, k) → s.ready g c' k' = true → s.able g c' k' = true → x.last = some (c, k) → 256 ≤ x.run →
       s.canIssue g c k = false) ∧
     (∀ c' k' c0 k0, x.last = some (c0, k0) → (c, k) ≠ (c0, k0) → (c', k') ≠ (c0, k0) →
       s.ready g c' k' = true → s.able g c' k' = true → after c' k' c0 k0 < after c k c0 k0 → s.canIssue g c k = false)) ∧
    (s.At g c k .fence d → ∃ t, exec (.fence g c k) s = .next t ∧
      let mine (w : Who) : Bool := decide (w.c = c ∧ w.k = k)
      let busy := (∃ r ∈ (s.core g).slots, mine r.who = true) ∨ (∃ r ∈ (s.core g).sideq, mine r.who = true) ∨
        (∃ o ∈ (s.core g).spurq, mine o.who = true)
      (¬busy → s.Passes t g c k) ∧ (busy → t = s))

/-- R71, R73: END frees the strand; where a load of the block is still pending the strand stays, executes nothing more, and
keeps its pending marks. FCLOSE waits for every engine instruction the strand issued, then closes the oldest open frame of the context
on the core; with none open it sets CORE_EVENT.FCLOSE_EMPTY. Here outside an open step, where no vote goes with it. What it
rests on beside the rules: log entry 8. -/
def Obligations.EndAndFclose : Prop :=
  (∀ (s : State) (g c k : Nat) (d : Dec), s.At g c k .endBlock d →
     ∃ t, exec (.endBlock g c k) s = .next t ∧ s.OnlyStrand t g c k ∧ t.canIssue g c k = false ∧
       if (s.strand g c k).pend = [] then t.strand g c k = {}
       else t.strand g c k = { s.strand g c k with ended := true }) ∧
  (∀ (s : State) (g c k : Nat) (d : Dec), s.At g c k .fclose d → s.f F.TRN_STEP_STATE_STATE c ≠ 1 →
     ∃ t, exec (.fclose g c k) s = .next t ∧
       let mine (w : Who) : Bool := decide (w.c = c ∧ w.k = k)
       let busy := (∃ o ∈ (s.core g).mtxq, mine o.who = true) ∨ ∃ o ∈ (s.core g).vecq, mine o.who = true
       (busy → t = s) ∧
       (¬busy →
         t.strand g c k = { s.strand g c k with pc := (s.strand g c k).pc + 1 } ∧
         (t.ctx g c).frames = (s.ctx g c).frames.tail ∧
         ((s.ctx g c).frames = [] → t.fb F.CORE_EVENT_FCLOSE_EMPTY g c = true) ∧
         (∀ g' c', (g', c') ≠ (g, c) → t.ctx g' c' = s.ctx g' c') ∧ t.mem = s.mem))

/-- R65, R72, Table ISA-15: TOKADD adds IMM32[7:0] to counter RD, and firings dispatched after it see the strand's earlier
stores (R84; log entry 75); past 4,095 the counter stays there and 0x07 is raised. ARM
and DISARM set and clear the armed bit of a loaded block, and of no other; a block number not loaded raises 0x08. -/
def Obligations.TokensAndArmedBits : Prop :=
  (∀ (s : State) (g c k : Nat) (d : Dec), s.At g c k .tokadd d →
     ∃ t, exec (.tokadd g c k) s = .next t ∧
       let v := s.f F.CORE_TOKEN_COUNT g c d.rd + d.field 12 8
       t.f F.CORE_TOKEN_COUNT g c d.rd = Min.min v 4095 ∧
       (v ≤ 4095 → ({ s.setF F.CORE_TOKEN_COUNT v g c d.rd with unseen := t.unseen } : State).Passes t g c k ∧
         ∀ h, SMap.get [] t.unseen h = if h = g then (SMap.get [] s.unseen g).map (fun e =>
             if e.c = c ∧ e.k = k ∧ e.tok = none then { e with tok := some (s.core g).seq } else e)
           else SMap.get [] s.unseen h) ∧
       (4095 < v → (s.setF F.CORE_TOKEN_COUNT 4095 g c d.rd).Faults t g c k 0x07)) ∧
  (∀ (s : State) (g c k : Nat) (d : Dec),
     let n := d.field 12 9
     let x := s.ctx g c
     let armed (t : State) (v : Bool) : Prop :=
       (n < x.blocks.length → (s.setCtx g c (t.ctx g c)).Passes t g c k ∧
         t.ctx g c = { x with blocks := (t.ctx g c).blocks } ∧
         ∀ m, (t.ctx g c).blk m = if m = n then { x.blk n with
           armed := v, since := if (x.blk n).armed then (x.blk n).since else s.clk.now } else x.blk m) ∧
       (x.blocks.length ≤ n → s.Faults t g c k 0x08)
     (s.At g c k .arm d → ∃ t, exec (.arm g c k) s = .next t ∧ armed t true) ∧
     (s.At g c k .disarm d → ∃ t, exec (.disarm g c k) s = .next t ∧ armed t false))

/-- R88, R78, R71, Table REL-1: TRAP raises 0x0F with its immediate in CORE_FAULT_ADDR; its context stops on the core at once
and on every core within 2 µs. Where strand k can issue and its
index lies outside its block or past CODE_LEN, 0x03 is raised; where the word holds an uncorrectable error, 0x0D; where it spells no
instruction, 0x01, whatever instruction was due. -/
def Obligations.InstructionsThatFault : Prop :=
  (∀ (s : State) (g c k : Nat) (d : Dec), s.At g c k .trap d →
     ∃ t, exec (.trap g c k) s = .next t ∧ s.Faults t g c k 0x0F ∧
       t.reg ⟨.CORE_FAULT_ADDR, g, c, 0⟩ = BitVec.ofInt 64 (simm d) ∧
       (s.fb F.CORE_CTX_HALT_HALTED c = false → t.f F.CORE_CTX_HALT_CORE c = g % 256) ∧
       t.running g c = false ∧
       (s.fb F.CORE_CTX_HALT_HALTED c = false →
         ∀ h n, s.clk.now + 200 ≤ n → ({ t with clk := { t.clk with now := n } } : State).running h c = false)) ∧
  (∀ (s : State) (g c k : Nat), s.canIssue g c k = true →
     let u := s.strand g c k
     let at_ := ((s.ctx g c).blk u.block).entry + u.pc
     let key := s.codeKey g c at_
     let inside := u.pc ≤ lastIndex s g c k ∧ at_ < (s.ctx g c).codeLen
     let bad := s.poisoned key 8 = true ∨ key ∈ s.badInstr
     ∃ t, exec (.nop g c k) s = .next t ∧
       (¬inside → s.Faults t g c k 0x03) ∧
       (inside → bad → s.Faults t g c k 0x0D) ∧
       (inside → ¬bad → decodeWord (BitVec.ofNat 64 (s.readN key 8)) = none → s.Faults t g c k 0x01))

/-! ### Scalar memory accesses -/

namespace Sys2Proof.Claims

/-- Offset o of core g's scratchpad, reached by context c at an address of the module's own node: through the alias or the
core's window of Table TIER-2, in the context's window and in no other context's (R187). -/
def OwnWindow (s : State) (g c addr o : Nat) : Prop :=
  (addr = s.f F.NET_NODE_ID_ID * 2 ^ 44 + 0xF8000000000 + o ∨
    s.coreOk g = true ∧ addr = s.f F.NET_NODE_ID_ID * 2 ^ 44 + 0xF0000000000 + g * 0x400000 + o) ∧
  o < 0x300000 ∧ s.inWin c o = true ∧ ∀ d, d < 4 → d ≠ c → s.inWin d o = false

/-- n bytes of memory from a key as a number, least significant byte first (R11). -/
def leNat (s : State) (key n : Nat) : Nat := (List.range n).foldr (fun i a => (s.mem.get (key + i)).toNat + 256 * a) 0

/-- The loads (Table ISA-7): opcode, command, bytes, sign-extended. -/
def loadOps : List (Op × (Nat → Nat → Nat → Instr) × Nat × Bool) :=
  [(.ld8, .ld8, 1, false), (.ld16, .ld16, 2, false), (.ld32, .ld32, 4, false), (.ld64, .ld64, 8, false),
   (.lds8, .lds8, 1, true), (.lds16, .lds16, 2, true), (.lds32, .lds32, 4, true)]

/-- The stores: opcode, command, bytes. -/
def storeOps : List (Op × (Nat → Nat → Nat → Instr) × Nat) :=
  [(.st8, .st8, 1), (.st16, .st16, 2), (.st32, .st32, 4), (.st64, .st64, 8)]

/-- The atomics: opcode, command, access, and what is stored, from the old value, RS2 and RD. -/
def atomicOps : List (Op × (Nat → Nat → Nat → Instr) × Acc × (Word → Word → Word → Option Word)) :=
  [(.amoadd, .amoadd, .amoadd, fun old b _ => some (BitVec.ofNat 64 (old.toNat + b.toNat))),
   (.amoswap, .amoswap, .amoswap, fun _ b _ => some b),
   (.amocas, .amocas, .amocas, fun old b r => if old = r then some b else none)]

/-- The accesses with the address each forms: RS1 plus IMM32 for loads and stores, RS1 for atomics. -/
def accessOps : List (Op × (Nat → Nat → Nat → Instr) × Acc × Bool) :=
  loadOps.map (fun x => (x.1, x.2.1, .load x.2.2.1 x.2.2.2, true)) ++
  storeOps.map (fun x => (x.1, x.2.1, .store x.2.2, true)) ++
  atomicOps.map (fun x => (x.1, x.2.1, x.2.2.1, false))

/-- The address of an access. -/
def accessAddr (s : State) (g c k : Nat) (d : Dec) (imm : Bool) : Nat :=
  if imm then ((s.strand g c k).rd d.rs1 + BitVec.ofInt 64 (simm d)).toNat else ((s.strand g c k).rd d.rs1).toNat

/-- The bytes that a load returns, extended. -/
def loaded (v n : Nat) (signed : Bool) : Word :=
  if signed && decide (2 ^ (8 * n - 1) ≤ v) then BitVec.ofInt 64 ((v : Int) - 2 ^ (8 * n)) else BitVec.ofNat 64 v

/-- What a completing access returns to RD: from memory of this module, or from the answer of another node. -/
def returned (s : State) (r : Req) : Option Word :=
  match r.acc, r.loc.key, r.rsp with
  | .store _, _, _ => none
  | .load n sg, some key, _ => some (loaded (leNat s key n) n sg)
  | _, some key, _ => some (BitVec.ofNat 64 (leNat s key 8))
  | .load n sg, none, some x => some (loadValue n sg x.data)
  | _, none, some x => some (BitVec.ofNat 64 (ofLE x.data))
  | _, none, none => none

/-- What a completing store or atomic leaves at its target, of bytes given: n bytes of a number. -/
def stored (s : State) (r : Req) (key : Nat) : Option (Nat × Word) :=
  match r.acc with
  | .load _ _ => none
  | .store n => some (n, r.data)
  | .amoadd => some (8, BitVec.ofNat 64 (leNat s key 8 + r.data.toNat))
  | .amoswap => some (8, r.data)
  | .amocas => if BitVec.ofNat 64 (leNat s key 8) = r.cmp then some (8, r.data) else none

/-- Operation seq of context c on core g belongs to no load of the context: it has been emptied since (R65). -/
def CtxGone (s : State) (g c seq : Nat) : Prop := (s.ctx g c).phase = .empty ∨ seq < (s.ctx g c).born

/-- The record of bytes that the engines of core g may go on seeing (R84): what it held, with the old n bytes at a key put
before it. -/
def OldBytesKept (s t : State) (g c k key n : Nat) : Prop :=
  ∀ h, SMap.get [] t.unseen h =
    if h = g then { c := c, k := k, key := key, old := s.read key n } :: SMap.get [] s.unseen g else SMap.get [] s.unseen h

end Sys2Proof.Claims

/-- R83, R84, R187: an aligned load in the own window, of bytes not poisoned, writes them to RD, zero- or sign-extended; an
aligned store writes the low bytes of RD there and changes no other byte; an atomic returns the old value to RD and stores
the new one. The engines of the core may go on seeing the bytes stored over (log entry 75). -/
def Obligations.NearAccesses : Prop :=
  (∀ (s : State) (g c k o : Nat) (d : Dec), ∀ x ∈ loadOps, s.At g c k x.1 d → s.loadsPending g c k < 8 →
     let addr := accessAddr s g c k d true
     let key := spadKey g o
     OwnWindow s g c addr o → addr % x.2.2.1 = 0 → s.poisoned key x.2.2.1 = false →
     ∃ t, exec (x.2.1 g c k) s = .next t ∧
       s.Retires t g c k d.rd (loaded (leNat s key x.2.2.1) x.2.2.1 x.2.2.2)) ∧
  (∀ (s : State) (g c k o : Nat) (d : Dec), ∀ x ∈ storeOps, s.At g c k x.1 d →
     let addr := accessAddr s g c k d true
     let key := spadKey g o
     OwnWindow s g c addr o → addr % x.2.2 = 0 → s.writeCheck (.mem key) x.2.2 (.store x.2.2) = .ok () →
     ∃ t, exec (x.2.1 g c k) s = .next t ∧
       (∀ i, i < x.2.2 → t.mem.get (key + i) = BitVec.ofNat 8 (((s.strand g c k).rd d.rd).toNat / 256 ^ i)) ∧
       (∀ a, a < key ∨ key + x.2.2 ≤ a → t.mem.get a = s.mem.get a) ∧
       OldBytesKept s t g c k key x.2.2 ∧ ({ s with mem := t.mem, unseen := t.unseen } : State).Passes t g c k) ∧
  (∀ (s : State) (g c k o : Nat) (d : Dec), ∀ x ∈ atomicOps, s.At g c k x.1 d →
     let addr := accessAddr s g c k d false
     let key := spadKey g o
     OwnWindow s g c addr o → addr % 8 = 0 → s.poisoned key 8 = false → s.writeCheck (.mem key) 8 x.2.2.1 = .ok () →
     s.countWordAt key = none → s.allocWordAt key = none →
     ∃ t, exec (x.2.1 g c k) s = .next t ∧
       let u := s.strand g c k
       let old := BitVec.ofNat 64 (leNat s key 8)
       let new := (x.2.2.2 old (u.rd d.rs2) (u.rd d.rd)).getD old
       (∀ i, i < 8 → t.mem.get (key + i) = BitVec.ofNat 8 (new.toNat / 256 ^ i)) ∧
       (∀ a, a < key ∨ key + 8 ≤ a → t.mem.get a = s.mem.get a) ∧
       OldBytesKept s t g c k key 8 ∧ ({ s with mem := t.mem, unseen := t.unseen } : State).Retires t g c k d.rd old)

/-- R84, R187, Table ISA-15: a misaligned access raises 0x04, an aligned one at another context's window 0x06, at no window
0x05, and a load or atomic of poisoned bytes 0x0D; CORE_FAULT_ADDR holds the address. -/
def Obligations.BadScratchpadAccessesFault : Prop :=
  ∀ (s : State) (g c k o : Nat) (d : Dec), ∀ x ∈ accessOps, s.At g c k x.1 d →
    (x.2.2.1.writes = false → s.loadsPending g c k < 8) →
    let addr := accessAddr s g c k d x.2.2.2
    let acc := x.2.2.1
    let here := addr = s.f F.NET_NODE_ID_ID * 2 ^ 44 + 0xF8000000000 + o ∧ o < 0x300000
    let code (e : Nat) : Prop := ∃ t, exec (x.2.1 g c k) s = .next t ∧ s.Faults t g c k e ∧
      t.f F.CORE_FAULT_ADDR_ADDR g c = addr
    (addr % acc.size ≠ 0 → code 0x04) ∧
    (addr % acc.size = 0 → here → (∃ e, e < 4 ∧ e ≠ c ∧ s.inWin e o = true) → code 0x06) ∧
    (addr % acc.size = 0 → here → (∀ e, e < 4 → e ≠ c → s.inWin e o = false) → s.inWin c o = false → code 0x05) ∧
    (addr % acc.size = 0 → OwnWindow s g c addr o → s.writeCheck (.mem (spadKey g o)) acc.size acc = .ok () →
      s.poisoned (spadKey g o) acc.size = true → (∀ n, acc ≠ .store n) → code 0x0D)

/-- R74, R76, R64: an access that leaves the own scratchpad takes a slot while its target is below its quota, otherwise
enters the side queue; its destination register is marked pending and the strand goes on. Where no slot is free, or its
target is at its quota and the side queue is full, it waits; so does a load while eight are pending. What it rests on beside
the rules: log entries 8 and 57. -/
def Obligations.FarAccessesTakeSlots : Prop :=
  ∀ (s : State) (g c k : Nat) (d : Dec) (loc : Loc), ∀ x ∈ accessOps, s.At g c k x.1 d →
    let addr := accessAddr s g c k d x.2.2.2
    let acc := x.2.2.1
    let u := s.strand g c k
    let y := s.core g
    (acc.writes = false → 8 ≤ s.loadsPending g c k → exec (x.2.1 g c k) s = .next s) ∧
    ((acc.writes = false → s.loadsPending g c k < 8) → addr % acc.size = 0 → s.xlate g c addr acc.writes .scalar = .ok loc → ownSpad g loc = false →
    s.writeCheck loc acc.size acc = .ok () →
    ∃ t, exec (x.2.1 g c k) s = .next t ∧ t.mem = s.mem ∧ t.poison = s.poison ∧
      let gone := t.strand g c k = { u with pc := u.pc + 1, pend := if acc.returns then u.pend ++ [d.rd] else u.pend }
      let mine (r : Req) : Prop := r.seq = y.seq ∧ r.who = u.who c k ∧ r.acc = acc ∧ r.rd = d.rd ∧ r.addr = addr ∧
        r.loc = loc ∧ r.rsp = none
      (y.slots.length < 48 → y.held (targetOf loc) < quotaOf (targetOf loc) →
        gone ∧ ∃ r, mine r ∧ (t.core g).slots = y.slots ++ [r] ∧ (t.core g).sideq = y.sideq) ∧
      (y.slots.length < 48 → quotaOf (targetOf loc) ≤ y.held (targetOf loc) → y.sideq.length < 32 →
        gone ∧ ∃ r, mine r ∧ (t.core g).sideq = y.sideq ++ [r] ∧ (t.core g).slots = y.slots) ∧
      (48 ≤ y.slots.length ∨ quotaOf (targetOf loc) ≤ y.held (targetOf loc) ∧ 32 ≤ y.sideq.length → t = s))

/-- R74, R77, R84: the access in a slot of core g completes. What it returns reaches its register, whose pending mark goes;
what it stores reaches memory; the slot is freed, and the oldest side-queue entry of the same target takes it. A host-tier
access through a port that may not master the bus raises 0x05 and touches no memory (R348; log entry 84), unless its context has
been emptied since (R65; log entry 72). -/
def Obligations.SlotsCompleteAndPassOn : Prop :=
  (∀ (s : State) (g n : Nat) (r : Req), (s.core g).slots[n]? = some r → s.reqReady g r = true → s.hostShut r.loc = true →
    ∃ t, exec (.scalarAccessComplete g n) s = .next t ∧ t.mem = s.mem ∧
      let c := r.who.c
      let gone := CtxGone s g c r.seq
      (¬gone → t.f F.CORE_FAULT_CODE g c = 0x05 ∧ t.f F.CORE_FAULT_ADDR_ADDR g c = r.addr % 2 ^ 64 ∧
        t.fb F.CORE_CTX_HALT_HALTED c = true) ∧
      (gone → t.reg ⟨.CORE_FAULT, g, c, 0⟩ = s.reg ⟨.CORE_FAULT, g, c, 0⟩ ∧
        t.fb F.CORE_CTX_HALT_HALTED c = s.fb F.CORE_CTX_HALT_HALTED c)) ∧
  ∀ (s : State) (g n : Nat) (r : Req), (s.core g).slots[n]? = some r → s.reqReady g r = true → s.hostShut r.loc = false →
    r.status = 0 →
    (∀ key, r.loc.key = some key →
      s.poisoned key r.acc.size = false ∧ s.countWordAt key = none ∧ s.allocWordAt key = none) →
    (∀ x, r.rsp = some x → x.poison = false) →
    ∃ t, exec (.scalarAccessComplete g n) s = .next t ∧
      let u := s.strand g r.who.c r.who.k
      (∀ v, returned s r = some v → u.exec = true → u.ended = false → u.fid = r.who.fid →
        (t.strand g r.who.c r.who.k).pend = u.pend.erase r.rd ∧ (t.strand g r.who.c r.who.k).pc = u.pc ∧
        ∀ q, (t.strand g r.who.c r.who.k).rd q = if q = r.rd ∧ q ≠ 0 then v else u.rd q) ∧
      (∀ key m v, r.loc.key = some key → stored s r key = some (m, v) →
        (∀ i, i < m → t.mem.get (key + i) = BitVec.ofNat 8 (v.toNat / 256 ^ i)) ∧
        (∀ a, a < key ∨ key + m ≤ a → t.mem.get a = s.mem.get a)) ∧
      ((∀ key, r.loc.key = some key → stored s r key = none) → t.mem = s.mem) ∧
      let rest := (s.core g).slots.filter (fun q => q.seq ≠ r.seq)
      ((s.core g).sideq = [] → (t.core g).slots = rest ∧ (t.core g).sideq = []) ∧
      (∀ q, (s.core g).sideq.find? (fun q => q.tgt = r.tgt) = some q →
        ∃ q', (t.core g).slots = rest ++ [q'] ∧ q'.seq = q.seq ∧ q'.loc = q.loc ∧ q'.acc = q.acc ∧ q'.who = q.who ∧
          (t.core g).sideq = (s.core g).sideq.filter (fun x => x.seq ≠ q.seq))

/-! ### Instructions for the engines -/

namespace Sys2Proof.Claims

/-- The matrix instructions (Table ISA-9). -/
def matrixOps : List (Op × (Nat → Nat → Nat → Instr)) :=
  [(.mma, .mma), (.mwb, .mwb), (.mtin, .mtin), (.mtout, .mtout), (.mlb, .mlb), (.mle, .mle)]

/-- The vector instructions (Table ISA-11) but VCFG. -/
def vectorOps : List (Op × (Nat → Nat → Nat → Instr)) :=
  [(.vadd, .vadd), (.vsub, .vsub), (.vmul, .vmul), (.vshl, .vshl), (.vshr, .vshr), (.vand, .vand), (.vor, .vor),
   (.vxor, .vxor), (.vcmp, .vcmp), (.vsel, .vsel), (.vfadd, .vfadd), (.vfmul, .vfmul), (.vfma, .vfma), (.vcvt, .vcvt),
   (.vrcp, .vrcp), (.vrsq, .vrsq), (.vrstep, .vrstep), (.vredsum, .vredsum), (.vredmax, .vredmax), (.vredmin, .vredmin),
   (.vupd, .vupd)]

/-- The whole change of an issue to a queue of core g: the unit as given, and the strand gone on. -/
def Queued (s t : State) (g c k : Nat) (y : Core) : Prop := (s.setCore g y).Passes t g c k

end Sys2Proof.Claims

/-- R82, R64, R116, R117: a matrix instruction enters the queue at its end with the operands, seed and stream tag it has at
issue, and the strand goes on; while 16 instructions wait there to start, the strand waits. What it rests on beside the
rules: log entries 8 and 50. -/
def Obligations.MatrixInstructionsQueue : Prop :=
  ∀ (s : State) (g c k : Nat) (d : Dec), ∀ x ∈ matrixOps, s.At g c k x.1 d →
    ∃ t, exec (x.2 g c k) s = .next t ∧
      let u := s.strand g c k
      let y := s.core g
      (16 ≤ y.mtxq.countP (fun o => !o.started) → t = s) ∧
      (y.mtxq.countP (fun o => !o.started) < 16 → ∃ o : MOp,
        o.who = u.who c k ∧ o.seq = y.seq ∧ o.cls = (if (((s.ctx g c).blk u.block).defer) then 1 else 0) ∧ o.dec = d ∧
        o.ra = u.rd d.rd ∧ o.rb = u.rd d.rs1 ∧ o.seed = s.reg ⟨.VEC_SEED, c, 0, 0⟩ ∧ o.tag = u.rd 30 ∧ o.started = false ∧
        Queued s t g c k { y with seq := y.seq + 1, mtxq := y.mtxq ++ [o] })

/-- R82, R64, R85, R116, R117: a vector instruction enters the queue at its end with the operands, configuration word, seed
and stream tag it has at issue; while 16 wait there to start, the strand waits. VCFG sets the strand's vector configuration
word from RB. What it rests on beside the rules: log entries 8 and 50. -/
def Obligations.VectorInstructionsQueue : Prop :=
  (∀ (s : State) (g c k : Nat) (d : Dec), ∀ x ∈ vectorOps, s.At g c k x.1 d →
     ∃ t, exec (x.2 g c k) s = .next t ∧
       let u := s.strand g c k
       let y := s.core g
       (16 ≤ y.vecq.countP (fun o => !o.started) → t = s) ∧
       (y.vecq.countP (fun o => !o.started) < 16 → ∃ o : VOp,
         o.who = u.who c k ∧ o.seq = y.seq ∧ o.dec = d ∧ o.ra = (u.rd d.rd).toNat ∧ o.rb = (u.rd d.rs1).toNat ∧
         o.rc = (u.rd d.rs2).toNat ∧ o.cfg = u.vcfg ∧ o.seed = s.reg ⟨.VEC_SEED, c, 0, 0⟩ ∧ o.tag = u.rd 30 ∧
         o.started = false ∧ Queued s t g c k { y with seq := y.seq + 1, vecq := y.vecq ++ [o] })) ∧
  (∀ (s : State) (g c k : Nat) (d : Dec), s.At g c k .vcfg d →
     ∃ t, exec (.vcfg g c k) s = .next t ∧ s.OnlyStrand t g c k ∧
       t.strand g c k = { s.strand g c k with pc := (s.strand g c k).pc + 1, vcfg := (s.strand g c k).rd d.rs1 })

/-- R238, Table ISA-13: SPUT, SGET and SATOM enter the spur queue with the parts of their remote operand and the key of the
local one; SATOM marks RC pending. A full queue of 32 holds the strand; a bad operand faults with its address recorded. What
it rests on beside the rules: log entry 8. -/
def Obligations.SpurInstructionsQueue : Prop :=
  ∀ (s : State) (g c k : Nat) (d : Dec),
    let u := s.strand g c k
    let y := s.core g
    let a := (u.rd d.rd).toNat
    let b := (u.rd d.rs1).toNat
    let len := d.field 31 8 + 1
    let tok := decide (d.field 30 1 = 1)
    let fault (t : State) (e addr : Nat) : Prop := s.Faults t g c k e ∧ t.f F.CORE_FAULT_ADDR_ADDR g c = addr
    let move (i : Instr) (kind : SpurKind) (acc : Acc) : Prop := ∃ t, exec i s = .next t ∧
      (32 ≤ y.spurq.length → t = s) ∧
      (y.spurq.length < 32 →
        (∀ e, s.spurParts g c a len acc = .error e → fault t e a) ∧
        (∀ ps e, s.spurParts g c a len acc = .ok ps → s.localOperand g c b len = .error e → fault t e b) ∧
        (∀ ps key, s.spurParts g c a len acc = .ok ps → s.localOperand g c b len = .ok key →
          Queued s t g c k { y with seq := y.seq + 1, spurq := y.spurq ++
            [{ seq := y.seq, who := u.who c k, kind := kind, tok := tok, addr := a, parts := ps, loc := key, len := len,
               born := s.clk.now }] }))
    (s.At g c k .sput d → move (.sput g c k) .put (.store len)) ∧
    (s.At g c k .sget d → move (.sget g c k) .get (.load len false)) ∧
    (s.At g c k .satom d → ∃ t, exec (.satom g c k) s = .next t ∧
      (32 ≤ y.spurq.length → t = s) ∧
      (y.spurq.length < 32 → a % 8 ≠ 0 → fault t 0x04 a) ∧
      (y.spurq.length < 32 → a % 8 = 0 → (∀ e, s.spurParts g c a 8 .amoadd = .error e → fault t e a) ∧
        (∀ ps, s.spurParts g c a 8 .amoadd = .ok ps →
          t.strand g c k = { u with pc := u.pc + 1, pend := u.pend ++ [d.rs2] } ∧
          t.mem = s.mem ∧ (t.core g).spurq = y.spurq ++
            [{ seq := y.seq, who := u.who c k, kind := .atom, tok := tok, addr := a, parts := ps, len := 8, val := u.rd d.rs1,
               rc := d.rs2, born := s.clk.now }])))

/-- R86, R265: MSEND and MSENDR enter the spur queue, MSENDR with its registers as payload; a destination word that names no
core raises 0x0B. What it rests on beside the rules: log entry 56. -/
def Obligations.MessagesQueue : Prop :=
  ∀ (s : State) (g c k : Nat) (d : Dec),
    let u := s.strand g c k
    let y := s.core g
    let w := u.rd d.rd
    let n := d.field 33 3 + 1
    let ok := bits w 8 36 = 0 ∧ (bits w 44 20 = s.node ∧ s.coreOk (bits w 0 8) = true ∨
      bits w 44 20 ≠ s.node ∧ s.nodeKnown (bits w 44 20) = true)
    let op (key : Nat) (data : List Byte) : SOp :=
      { seq := y.seq, who := u.who c k, kind := .msg (bits w 0 8) (d.field 36 3), tok := decide (d.field 32 1 = 1),
        addr := w.toNat, parts := [], loc := key, len := 8 * n, data := data, born := s.clk.now }
    y.spurq.length < 32 →
    (s.At g c k .msend d → ∃ t, exec (.msend g c k) s = .next t ∧
      (∀ e, s.localOperand g c (u.rd d.rs1).toNat (8 * n) = .error e → s.Faults t g c k e) ∧
      (∀ key, s.localOperand g c (u.rd d.rs1).toNat (8 * n) = .ok key →
        (¬ok → s.Faults t g c k 0x0B) ∧
        (ok → Queued s t g c k { y with seq := y.seq + 1, spurq := y.spurq ++ [op key []] }))) ∧
    (s.At g c k .msendr d → ∃ t, exec (.msendr g c k) s = .next t ∧
      (¬ok → s.Faults t g c k 0x0B) ∧
      (ok → Queued s t g c k { y with seq := y.seq + 1, spurq := y.spurq ++
        [op 0 ((List.range n).flatMap (fun i => (List.range 8).map (fun j =>
          BitVec.ofNat 8 ((u.rd (d.rs1 + i)).toNat / 256 ^ j))))] }))

/-- R263: MRECV copies the head message of the queue to RA, writes RB with its length and sender, and frees the slot; on an
empty queue the strand waits. MCOUNT returns the number of messages queued. -/
def Obligations.ReceiveTakesTheHeadMessage : Prop :=
  ∀ (s : State) (g c k : Nat) (d : Dec),
    let u := s.strand g c k
    let q := d.field 36 3
    let h := s.f F.COL_MQ_STATE_HEAD g c q
    let n := s.f F.COL_MQ_STATE_COUNT g c q
    let slot := spadKey g (128 * (s.f F.COL_MQ_CFG_BASE g c q + h))
    let len := (s.mem.get (slot + 0x48)).toNat
    let sender := leNat s (slot + 0x40) 8
    let a := (u.rd d.rd).toNat
    (s.At g c k .mrecv d → ∃ t, exec (.mrecv g c k) s = .next t ∧
      (n = 0 → t = s) ∧
      (n ≠ 0 → a % 8 ≠ 0 ∨ s.winKey g c a len = none → s.Faults t g c k 0x05) ∧
      (∀ key, n ≠ 0 → a % 8 = 0 → s.winKey g c a len = some key →
        (∀ i, i < len → t.mem.get (key + i) = s.mem.get (slot + i)) ∧
        (∀ x, x < key ∨ key + len ≤ x → t.mem.get x = s.mem.get x) ∧
        t.f F.COL_MQ_STATE_COUNT g c q = n - 1 ∧
        t.f F.COL_MQ_STATE_HEAD g c q = (if h = s.f F.COL_MQ_CFG_SLOTS_M1 g c q then 0 else (h + 1) % 256) ∧
        (t.strand g c k).pc = u.pc + 1 ∧
        (∀ r, (t.strand g c k).rd r = if r = d.rs1 ∧ r ≠ 0 then
            BitVec.ofNat 64 (len + 256 * (sender % 256) + 2 ^ 44 * (sender / 2 ^ 44)) else u.rd r) ∧
        (∀ i, t.f F.CORE_TOKEN_COUNT g c i = s.f F.CORE_TOKEN_COUNT g c i) ∧
        ∀ r, r ≠ ⟨.COL_MQ_STATE, g, c, q⟩ → r ≠ ⟨.CORE_SWITCHES, g, c, 0⟩ → t.reg r = s.reg r)) ∧
    (s.At g c k .mcount d → ∃ t, exec (.mcount g c k) s = .next t ∧ s.Retires t g c k d.rd (BitVec.ofNat 64 n))

/-! ### The matrix and vector engines -/

namespace Sys2Proof.Claims

/-- The records of a fault that an operation of the instruction who has raised on core g (R88). -/
def Blamed (t : State) (g : Nat) (w : Who) (code : Nat) : Prop :=
  t.f F.CORE_FAULT_CODE g w.c = code ∧ t.f F.CORE_FAULT_STRAND g w.c = w.k % 8 ∧
  t.f F.CORE_FAULT_BLOCK g w.c = w.block % 512 ∧ t.f F.CORE_FAULT_INDEX g w.c = w.index % 4096 ∧
  t.fb F.CORE_CTX_HALT_HALTED w.c = true ∧ t.fb F.CORE_EVENT_FAULT g w.c = true

/-- t is s but for core g's units. -/
def OnlyCore (s t : State) (g : Nat) : Prop := t = { s with cores := t.cores } ∧ ∀ h, h ≠ g → t.core h = s.core h

/-- An instruction of the matrix queue has become o; nothing else of its core has changed. -/
def MtxBecomes (s t : State) (g : Nat) (o : MOp) : Prop :=
  t.core g = { s.core g with mtxq := (s.core g).mtxq.map (fun x => if x.seq = o.seq then o else x) }

/-- An instruction of the matrix queue has started. -/
def MtxStarted (s t : State) (g : Nat) (o : MOp) : Prop := MtxBecomes s t g { o with started := true }

/-- The gradient-noise bucket of an instruction: the layer of the bracket that was open when it was issued (R304). -/
def BinOf (s : State) (g : Nat) (o : MOp) (bin : Option Nat) : Prop :=
  (s.bracket g o.who.c o.cls = none → bin = none) ∧
  ∀ b, s.bracket g o.who.c o.cls = some b →
    (b.openSeq < o.seq → (∀ e, b.closeSeq = some e → o.seq < e) → bin = some (s.f F.MTX_LAYER_LAYER_ID g o.who.c o.cls % 256)) ∧
    (o.seq ≤ b.openSeq → bin = none) ∧ ∀ e, b.closeSeq = some e → e ≤ o.seq → bin = none

/-- An instruction has left the matrix queue. -/
def MtxGone (s t : State) (g : Nat) (o : MOp) : Prop :=
  (t.core g).mtxq.map MOp.seq = ((s.core g).mtxq.map MOp.seq).filter (fun x => decide (x ≠ o.seq))

/-- An instruction has left the vector queue. -/
def VecGone (s t : State) (g : Nat) (o : VOp) : Prop :=
  (t.core g).vecq.map VOp.seq = ((s.core g).vecq.map VOp.seq).filter (fun x => decide (x ≠ o.seq))

/-- The formats of Table MTX-1, by code of Table ISA-4: FP64 0, FP32 1, BF16 3, FP16 4, E5M2 5 to E2M1 9, INT8 12, UINT8 13,
INT4 14. -/
def pairAccepted (a b : Nat) : Bool :=
  (decide (5 ≤ a ∧ a ≤ 9) && decide (5 ≤ b ∧ b ≤ 9)) || (decide (12 ≤ a ∧ a ≤ 14) && decide (12 ≤ b ∧ b ≤ 14)) ||
  (decide (a = 3 ∨ a = 4) && decide (b = 3 ∨ b = 4)) || (decide (a = 1) && decide (b = 1)) || (decide (a = 0) && decide (b = 0))

/-- The accumulation mode of an accepted pair: 1 float, 2 integer, 3 FP64. -/
def pairMode (a : Nat) : Nat := if a = 0 then 3 else if 12 ≤ a then 2 else 1

/-- A tile's address is an operand of the engine: 64 B aligned and wholly in the window (R123). -/
def TileOk (s : State) (g c f addr : Nat) : Prop := (s.operandKey g c addr (tileBytes f)).isSome = true

/-- No byte that an instruction reads has changed since its issue, so that every read of it is the same (R134). -/
def Unraced (s : State) (snap : Mem) (key n : Nat) : Prop := ∀ i, i < n → snap.get (key + i) = s.mem.get (key + i)

/-- The elements of a tile of format f at a key. -/
def tileAt (s : State) (f key : Nat) : List Nat := unpackElems (fmt f).width 16384 (s.mem.read key (tileBytes f))

end Sys2Proof.Claims

/-- R133, R121, R123, R125, R131, R137, R138: the oldest instruction that has not started starts once its resource,
accumulator and tiles are free. An MMA of an accepted pair on tiles of the window starts, any other raises 0x09 and leaves
the queue; so does an MWB to K19 or to no tile, an MTIN on a FIRST entry and an MTOUT on a LAST one. An MWB and an MTOUT keep the
gradient-noise bucket of the bracket in which they were issued (R304). What it rests on beside the rules: log entry 50. -/
def Obligations.MatrixInstructionsStart : Prop :=
  ∀ (s : State) (g : Nat) (o : MOp), (s.core g).mtxq.find? (fun x => !x.started) = some o → s.mtxReady g o = true →
    ∃ t, exec (.matrixInstructionStart g) s = .next t ∧
      let c := o.who.c
      let started := OnlyCore s t g ∧ MtxStarted s t g o
      let measured := OnlyCore s t g ∧ ∃ bin, BinOf s g o bin ∧ MtxBecomes s t g { o with started := true, bin := bin }
      let fault := MtxGone s t g o ∧ Blamed t g o.who 0x09 ∧ t.mem = s.mem
      (o.dec.op = .mma →
        let am := s.accMode g c o.acc
        let ok := pairAccepted o.dec.f35 o.bfmt = true ∧ TileOk s g c o.dec.f35 o.ra.toNat ∧ TileOk s g c o.bfmt o.rb.toNat ∧
          (o.clr = true ∨ am = 0 ∨ am = pairMode o.dec.f35)
        (ok → started) ∧ (¬ok → fault)) ∧
      (o.dec.op = .mwb →
        let ok := o.dec.f35 ≠ 2 ∧ TileOk s g c o.dec.f35 o.ra.toNat
        (ok → measured) ∧ (¬ok → fault)) ∧
      (o.dec.op = .mtin → (s.fb F.MTX_TRV_NEXT_FIRST g c o.trv = false → started) ∧
        (s.fb F.MTX_TRV_NEXT_FIRST g c o.trv = true → fault)) ∧
      (o.dec.op = .mtout → (s.fb F.MTX_TRV_NEXT_LAST g c o.trv = false → measured) ∧
        (s.fb F.MTX_TRV_NEXT_LAST g c o.trv = true → fault)) ∧
      (o.dec.op = .mlb → s.f F.MTX_LAYER_STATE g c o.cls = 0 →
        (∀ key, s.operandKey g c o.ra.toNat 64 = some key → s.poisoned key 64 = false →
          layerOk (s.read key 64) = true → MtxStarted s t g o ∧ t.f F.MTX_LAYER_STATE g c o.cls = 1 ∧
            t.f F.MTX_LAYER_LAYER_ID g c o.cls = leNat s key 2 ∧ t.mem = s.mem) ∧
        (s.operandKey g c o.ra.toNat 64 = none → fault)) ∧
      (o.dec.op = .mle →
        (s.f F.MTX_LAYER_STATE g c o.cls = 1 → s.bracket g c o.cls ≠ none →
          MtxStarted s t g o ∧ t.f F.MTX_LAYER_STATE g c o.cls = 2 ∧ t.mem = s.mem) ∧
        (s.f F.MTX_LAYER_STATE g c o.cls = 0 → fault))

/-- R127, R125, R129, Table REL-1: an MMA whose tiles have not changed since its issue, and are not poisoned, adds the
product of its tiles to its accumulator; it leaves the queue, its flags are ORed into MTX_FLAGS, no memory changes. A
poisoned tile, and, without CLR, an accumulator with an uncorrectable error, raises 0x0D instead. What it rests on beside the rules: log entry 50. -/
def Obligations.MmaCompletes : Prop :=
  ∀ (s : State) (g n ka kb chunk mode : Nat) (o : MOp), (s.core g).mtxq[n]? = some o → o.started = true → o.dec.op = .mma →
    mmaPair o.dec.f35 o.bfmt = some (chunk, mode) →
    s.winKey g o.who.c o.ra.toNat (tileBytes o.dec.f35) = some ka → s.winKey g o.who.c o.rb.toNat (tileBytes o.bfmt) = some kb →
    Unraced s o.snap ka (tileBytes o.dec.f35) → Unraced s o.snap kb (tileBytes o.bfmt) →
    ∃ t, exec (.matrixInstructionComplete g n) s = .next t ∧
      let c := o.who.c
      let a := o.acc
      (s.poisoned ka (tileBytes o.dec.f35) = true ∨ s.poisoned kb (tileBytes o.bfmt) = true ∨
        (o.clr = false ∧ (g, c, a) ∈ s.badAcc) → MtxGone s t g o ∧ Blamed t g o.who 0x0D) ∧
      (s.poisoned ka (tileBytes o.dec.f35) = false → s.poisoned kb (tileBytes o.bfmt) = false →
        (o.clr = true ∨ (g, c, a) ∉ s.badAcc) →
        let old (p : Nat) : Option Nat :=
          if o.clr = true ∨ s.accMode g c a = 0 then none else some ((denseTot (s.accTot g c a)).getD p 0)
        let r := mmaTile o.dec.f35 o.bfmt (decide (o.dec.field 30 1 = 1)) (decide (o.dec.field 29 1 = 1))
          (decide (o.dec.field 26 1 = 1)) mode chunk old (tileAt s o.dec.f35 ka) (tileAt s o.bfmt kb)
        MtxGone s t g o ∧ t.mem = s.mem ∧ t.poison = s.poison ∧
        t.accTot g c a = sparseTot r.1 ∧ t.accMode g c a = mode ∧ (g, c, a) ∉ t.badAcc ∧
        t.reg ⟨.MTX_FLAGS, g, c, 0⟩ = s.reg ⟨.MTX_FLAGS, g, c, 0⟩ ||| BitVec.ofNat 64 r.2.toNat)

/-- R131, R132: an MWB writes its destination tile once, every element the total times the combined scale, rounded once to
DFMT; no other byte changes; KEEP = 0 leaves the accumulator empty. An accumulator with an uncorrectable error raises 0x0D
and writes nothing (Table REL-1). Here outside gradient-noise measurement. What it rests on
beside the rules: log entry 50. -/
def Obligations.MwbWritesItsTile : Prop :=
  ∀ (s : State) (g n key : Nat) (o : MOp), (s.core g).mtxq[n]? = some o → o.started = true → o.dec.op = .mwb →
    s.winKey g o.who.c o.ra.toNat (tileBytes o.dec.f35) = some key → SMap.get none s.accSrc (g, o.who.c, o.acc) = none →
    ∃ t, exec (.matrixInstructionComplete g n) s = .next t ∧
      let c := o.who.c
      let a := o.acc
      let tot := denseTot (s.accTot g c a)
      let scale := (scaleProd (o.rb.toNat % 2 ^ 32) (o.rb.toNat / 2 ^ 32)).1
      let es := (mwbTile (s.accMode g c a) (fun p => tot.getD p 0) scale o.dec.f35 o.dec.f32 (o.dec.field 28 4 + 1) o.seed o.tag).1
      let bs := packElems (fmt o.dec.f35).width es
      MtxGone s t g o ∧
      ((g, c, a) ∈ s.badAcc → Blamed t g o.who 0x0D ∧ t.mem = s.mem) ∧
      ((g, c, a) ∉ s.badAcc →
        (∀ i, i < bs.length → t.mem.get (key + i) = bs.getD i 0) ∧
        (∀ x, x < key ∨ key + bs.length ≤ x → t.mem.get x = s.mem.get x) ∧
        (o.keep = true → t.accTot g c a = s.accTot g c a ∧ t.accMode g c a = s.accMode g c a) ∧
        (o.keep = false → t.accTot g c a = [] ∧ t.accMode g c a = 0))

/-- R137, R138: an MTIN waits until its entry is landed; then, of an entry that is not LAST, it loads the landed totals and
mode, of a header whose digest and mode are right, and leaves the area as it is; a wrong digest raises 0x0D, a mode above 3
0x09. An MTOUT of an idle FIRST entry waits for credit, then sends its total with its header to the next hop, here a core of
this module, and leaves the accumulator empty; an accumulator with an uncorrectable error raises 0x0D instead. A total that arrives lands: the area is written at LAND, the entry turns
landed and T(16 + RQ) counts it. Here outside gradient-noise measurement. What it rests on beside the rules: log entries 8
and 52. -/
def Obligations.TraverseTotalsMove : Prop :=
  (∀ (s : State) (g n : Nat) (o : MOp), (s.core g).mtxq[n]? = some o → o.started = true → o.dec.op = .mtin →
     s.fb F.MTX_TRV_NEXT_LAST g o.who.c o.trv = false →
     ∃ t, exec (.matrixInstructionComplete g n) s = .next t ∧ t.mem = s.mem ∧
       let c := o.who.c
       let a := o.acc
       ((s.hop g c o.trv).up = none → t = s) ∧
       (∀ key, (s.hop g c o.trv).up ≠ none → s.landKey g c o.trv = some key → s.poisoned key areaSize = false →
         let h := TrvHdr.ofArea s.mem key
         let tot := areaTot s.mem key
         let good := (crc64 (totBytes tot)).toNat = h.digest
         MtxGone s t g o ∧
         (good → h.mode ≤ 3 → t.accMode g c a = h.mode ∧ t.accTot g c a = (if h.mode = 0 then [] else tot)) ∧
         (good → 3 < h.mode → t.accMode g c a = 0 ∧ Blamed t g o.who 0x09) ∧
         (¬good → t.accMode g c a = 0 ∧ Blamed t g o.who 0x0D))) ∧
  (∀ (s : State) (g n : Nat) (o : MOp), (s.core g).mtxq[n]? = some o → o.started = true → o.dec.op = .mtout →
     let c := o.who.c
     let v := o.trv
     s.trvState g c v = 0 → s.fb F.MTX_TRV_NEXT_FIRST g c v = true → (s.hop g c v).wait = false → s.gnsOn c v = false →
     s.f F.MTX_TRV_NEXT_NEXT_NODE g c v = s.node → s.coreOk (s.f F.MTX_TRV_NEXT_NEXT_CORE g c v) = true →
     ∃ t, exec (.matrixInstructionComplete g n) s = .next t ∧ t.mem = s.mem ∧
       ((g, c, o.acc) ∈ s.badAcc → MtxGone s t g o ∧ Blamed t g o.who 0x0D ∧ t.transit = s.transit) ∧
       ((g, c, o.acc) ∉ s.badAcc → s.fb F.MTX_TRV_STATUS_CREDIT g c v = false → t = s) ∧
       ((g, c, o.acc) ∉ s.badAcc → s.fb F.MTX_TRV_STATUS_CREDIT g c v = true →
         let tot := s.accTot g c o.acc
         let h : TrvHdr := ⟨v, s.accMode g c o.acc, 0, s.f F.MTX_TRV_NEXT_CONTRIB g c v, s.node * 2 ^ 44 + g, 0, s.clk.frame,
           (crc64 (totBytes tot)).toNat⟩
         MtxGone s t g o ∧
         t.transit = s.transit ++
           [{ g := s.f F.MTX_TRV_NEXT_NEXT_CORE g c v, c := c, t := v, node := s.node, core := g, area := areaOf h tot }] ∧
         t.accMode g c o.acc = 0 ∧ t.accTot g c o.acc = [] ∧ t.fb F.MTX_TRV_STATUS_CREDIT g c v = false ∧
         t.trvState g c v = 0)) ∧
  (∀ (s : State) (n key : Nat) (m : TrvMsg), s.transit[n]? = some m → s.landKey m.g m.c m.t = some key →
     s.trvState m.g m.c m.t = 0 → m.poison = false → s.occupied m.g m.c = true →
     let k := 16 + s.f F.MTX_TRV_NEXT_RQ m.g m.c m.t
     s.f F.CORE_TOKEN_COUNT m.g m.c k < 4095 →
     ∃ t, exec (.traverseTotalLanding (.own n)) s = .next t ∧ t.transit = s.transit.eraseIdx n ∧
       (∀ i, i < areaSize → t.mem.get (key + i) = m.area.get i) ∧
       (∀ x, x < key ∨ key + areaSize ≤ x → t.mem.get x = s.mem.get x) ∧
       t.trvState m.g m.c m.t = 1 ∧ (t.hop m.g m.c m.t).up = some (m.node, m.core) ∧
       t.f F.CORE_TOKEN_COUNT m.g m.c k = s.f F.CORE_TOKEN_COUNT m.g m.c k + 1)

/-- R37, R139, R148, R149: at tick DUE + 1, and at no other time, an unsent SKIP_EN entry that is not LAST is late: idle and
not FIRST it waits for its total; idle, FIRST and with credit it forwards an empty total and turns skipped. A write to NEXT,
LAND or LATE of a core that exists takes effect while the entry is idle and no MTIN or MTOUT on it is queued, otherwise not; a
NEXT write sets CREDIT. What it rests on beside the
rules: log entries 8 and 52. -/
def Obligations.TraverseEntriesSkipAndChange : Prop :=
  ∀ (s : State) (g c v : Nat),
    (s.atTick = false → exec (.traverseSkip g c v) s = .next s) ∧
    (s.atTick = true → s.fb F.MTX_TRV_NEXT_SKIP_EN g c v = true → s.fb F.MTX_TRV_NEXT_LAST g c v = false →
      s.f F.MTX_TRV_DUE_FRAME g c v + 1 = s.clk.frame → (s.hop g c v).sent = false → (s.hop g c v).wait = false →
      s.trvState g c v = 0 →
      ∃ t, exec (.traverseSkip g c v) s = .next t ∧ t.mem = s.mem ∧
        (s.fb F.MTX_TRV_NEXT_FIRST g c v = false → t.trvState g c v = 2) ∧
        (s.fb F.MTX_TRV_NEXT_FIRST g c v = true → s.fb F.MTX_TRV_STATUS_CREDIT g c v = true →
          s.f F.MTX_TRV_NEXT_NEXT_NODE g c v = s.node → s.coreOk (s.f F.MTX_TRV_NEXT_NEXT_CORE g c v) = true →
          t.trvState g c v = 3 ∧ t.fb F.MTX_TRV_STATUS_CREDIT g c v = false ∧
          (c < 4 → bitN (t.f F.MTX_EVENT_SKIP) c = true) ∧
          let me := s.node * 2 ^ 44 + g
          let h : TrvHdr := ⟨v, 0, 1, 0, me, me, s.clk.frame, (crc64 (zeroBytes 131072)).toNat⟩
          t.transit = s.transit ++
            [{ g := s.f F.MTX_TRV_NEXT_NEXT_CORE g c v, c := c, t := v, node := s.node, core := g, area := areaOf h [] }])) ∧
    (∀ (w : TrvReg) (x : Word), ∃ t, exec (.mtxTrvNextWrite g c v w x) s = .next t ∧
      let open_ := s.coreOk g = true ∧ s.trvState g c v = 0 ∧ ∀ o ∈ (s.core g).mtxq,
        ¬(o.who.c = c ∧ (o.dec.op = .mtin ∨ o.dec.op = .mtout) ∧ o.dec.field 16 4 = v)
      (¬open_ → t = s) ∧
      (open_ → (w = .next → t.reg ⟨.MTX_TRV_NEXT, g, c, v⟩ = x &&& 0xFFFFF000FFFF3FFF#64 ∧
          t.fb F.MTX_TRV_STATUS_CREDIT g c v = true) ∧
        (w = .land → t.reg ⟨.MTX_TRV_LAND, g, c, v⟩ = x) ∧ (w = .late → t.reg ⟨.MTX_TRV_LATE, g, c, v⟩ = x)))

/-- R151, R153, R152, R154: the oldest vector instruction, other than VUPD, starts where none has; a format or operand that
its opcode does not take, or a destination that overlaps a source wrongly, in the scratchpad, by whichever window either is
named, raises 0x09. What it rests on beside the rules:
log entry 50. -/
def Obligations.VectorInstructionsStart : Prop :=
  ∀ (s : State) (g : Nat) (o : VOp) (rest : List VOp), (s.core g).vecq = o :: rest → o.started = false → o.dec.op ≠ .vupd →
    ∃ t, exec (.vectorInstructionStart g) s = .next t ∧ t.mem = s.mem ∧
      (vecLay o = none → VecGone s t g o ∧ Blamed t g o.who 0x09) ∧
      (∀ l, vecLay o = some l →
        let w := (fmt l.f).width
        let place := s.placeOf g
        let ok := s.streamsOk g o.who.c (l.d :: l.reads) = true ∧
          overlapOk (place l.d) (place l.s1) (fmt l.dst).width w = true ∧
          ∀ r, l.s2 = some r → overlapOk (place l.d) (place r) (fmt l.dst).width w = true
        (¬ok → VecGone s t g o ∧ Blamed t g o.who 0x09) ∧
        (ok → (∀ r ∈ s.keysOf g o.who.c (l.d :: l.reads), s.mwbWrites g r = false) →
          OnlyCore s t g ∧ (t.core g).vecq =
            (s.core g).vecq.map (fun x => if x.seq = o.seq then { o with started := true } else x)))

/-- R155 to R161: a vector instruction other than VUPD, whose sources have not changed since its issue and are not poisoned,
writes the elements of its operation to its destination and no other byte, leaves the queue, and ORs its flags into
VEC_FLAGS; a poisoned source raises 0x0D. What it rests on beside the rules: log entries 49 and 50. -/
def Obligations.VectorInstructionsComplete : Prop :=
  ∀ (s : State) (g kd k1 : Nat) (o : VOp) (rest : List VOp) (l : VLay), (s.core g).vecq = o :: rest → o.started = true →
    o.dec.op ≠ .vupd → vecLay o = some l → s.winKey g o.who.c l.d.1 l.d.2 = some kd →
    s.winKey g o.who.c l.s1.1 l.s1.2 = some k1 → Unraced s o.snap k1 l.s1.2 →
    (∀ r k, l.s2 = some r → s.winKey g o.who.c r.1 r.2 = some k → Unraced s o.snap k r.2) →
    (∀ r k, l.prior = some r → s.winKey g o.who.c r.1 r.2 = some k → Unraced s o.snap k r.2) →
    ∃ t, exec (.vectorInstructionComplete g) s = .next t ∧ VecGone s t g o ∧
      let elems (r : Nat × Nat) : List Nat :=
        ((s.winKey g o.who.c r.1 r.2).map (fun k => unpackElems (fmt l.f).width o.vlen (s.mem.read k r.2))).getD []
      let bad := (s.keysOf g o.who.c l.reads).any (fun r => s.poisoned r.1 r.2)
      (bad = true → Blamed t g o.who 0x0D ∧ t.mem = s.mem) ∧
      (bad = false →
        let r := vecResult o l (elems l.s1) ((l.s2.map elems).getD []) ((l.prior.map elems).getD [])
        let bs := packElems (fmt l.dst).width r.1
        (∀ i, i < bs.length → t.mem.get (kd + i) = bs.getD i 0) ∧
        (∀ x, x < kd ∨ kd + bs.length ≤ x → t.mem.get x = s.mem.get x) ∧
        t.reg ⟨.VEC_FLAGS, g, o.who.c, 0⟩ = s.reg ⟨.VEC_FLAGS, g, o.who.c, 0⟩ ||| BitVec.ofNat 64 r.2.toNat)

/-- R153, R166, R167, R177, R178: a VUPD whose descriptors are no operands raises 0x09 when it would start; it waits while
a started MWB writes them; one with a poisoned descriptor raises 0x0D. One that completes, on arrays not poisoned and without a late total, leaves the queue, counts in
VEC_UPD_COUNT, counts a skip of a segment without contributors, and advances the T of its layer descriptor at the last
segment of a step. What it rests on beside the rules: log entries 50 and 53. -/
def Obligations.UpdatesStartAndComplete : Prop :=
  ∀ (s : State) (g : Nat) (o : VOp) (rest : List VOp), (s.core g).vecq = o :: rest → o.dec.op = .vupd →
    let c := o.who.c
    let descs := [(o.ra, 128), (o.rb, 64), (o.rc, 128)]
    let u := o.upd
    (o.started = false → ∃ t, exec (.vectorInstructionStart g) s = .next t ∧ t.mem = s.mem ∧
      (s.streamsOk g c descs = false → VecGone s t g o ∧ Blamed t g o.who 0x09) ∧
      (s.streamsOk g c descs = true → (∃ r ∈ s.keysOf g c descs, s.mwbWrites g r = true) → t = s) ∧
      (s.streamsOk g c descs = true → (∀ r ∈ s.keysOf g c descs, s.mwbWrites g r = false) →
        (∃ r ∈ s.keysOf g c descs, s.poisoned r.1 r.2 = true) →
        VecGone s t g o ∧ Blamed t g o.who 0x0D)) ∧
    (o.started = true → u.lateAddr = 0 → (∀ a ∈ u.arrays, ∀ k, s.winKey g c a.addr a.len = some k → s.poisoned k a.len = false) →
      ∃ t, exec (.vectorInstructionComplete g) s = .next t ∧ VecGone s t g o ∧
        t.f F.VEC_UPD_COUNT_COUNT g c = (s.f F.VEC_UPD_COUNT_COUNT g c + 1) % 2 ^ F.VEC_UPD_COUNT_COUNT.len ∧
        t.f F.VEC_UPD_SKIPS_COUNT g c = (s.f F.VEC_UPD_SKIPS_COUNT g c + if u.n = 0 then 1 else 0) % 2 ^ F.VEC_UPD_SKIPS_COUNT.len ∧
        ∀ key, s.winKey g c (o.ra + 32) 24 = some key →
          let steps := u.lf 4 0 32
          leNat t key 4 = if u.done + 1 = u.tiles ∧ ¬(u.rule = 1 ∧ u.phase = 0) then (steps + 1) % 2 ^ 32 else steps)

/-- R145: a deciding bracket whose counted instructions have completed, without a layer col, decides on its flag. Clear, it
closes, its descriptor keeps its step, and DONE_CTR counts one; set, with a wider format left, the descriptor takes the next
step that has one, MTX_RPL_COUNT counts, and REPLAY_CTR counts one. What it rests on beside the rules: log entries 51 and 54.
-/
def Obligations.LayersDecide : Prop :=
  ∀ (s : State) (g c cls key : Nat) (b : Bracket), s.bracket g c cls = some b → s.f F.MTX_LAYER_STATE g c cls = 2 →
    s.halted c = false → s.operandKey g c b.addr 64 = some key → s.bracketBusy g c cls b = false → s.poisoned key 64 = false →
    let w0 := leNat s key 8
    let step := w0 / 2 ^ 16 % 4
    let fm (i : Nat) : Nat := w0 / 2 ^ (32 + 4 * i) % 16
    let done := w0 / 2 ^ 48 % 32
    let again := w0 / 2 ^ 53 % 32
    w0 / 2 ^ 19 % 2 = 0 → s.occupied g c = true →
    (s.fb F.MTX_LAYER_FLAG g c cls = false ∨ ∃ i, step < i ∧ i < 4 ∧ fm i ≠ 15) →
    ∃ t, exec (.layerEndDecision g c cls) s = .next t ∧
      (∀ x, x < key ∨ key + 24 ≤ x → t.mem.get x = s.mem.get x) ∧
      t.bracket g c cls = none ∧ t.f F.MTX_LAYER_STATE g c cls = 0 ∧
      (s.fb F.MTX_LAYER_FLAG g c cls = false → done ≠ 28 → s.f F.CORE_TOKEN_COUNT g c done < 4095 →
        t.f F.CORE_TOKEN_COUNT g c done = s.f F.CORE_TOKEN_COUNT g c done + 1 ∧ leNat t key 8 = w0 ∧
        leNat t (key + 20) 4 = s.clk.frame % 2 ^ 32) ∧
      (∀ i, s.fb F.MTX_LAYER_FLAG g c cls = true → step < i → i < 4 → fm i ≠ 15 → (∀ j, step < j → j < i → fm j = 15) →
        again ≠ 28 → s.f F.CORE_TOKEN_COUNT g c again < 4095 →
        t.f F.CORE_TOKEN_COUNT g c again = s.f F.CORE_TOKEN_COUNT g c again + 1 ∧
        t.f F.MTX_RPL_COUNT_COUNT g c = (s.f F.MTX_RPL_COUNT_COUNT g c + 1) % 2 ^ F.MTX_RPL_COUNT_COUNT.len ∧
        leNat t key 8 / 2 ^ 16 % 4 = i ∧ (c < 4 → bitN (t.f F.MTX_EVENT_REPLAY) c = true))

/-! ### The DMA engine -/

namespace Sys2Proof.Claims

/-- Channel ch runs transfer x alone: no other channel of core g has an active transfer, and no stop is in force. -/
def RunsAlone (s : State) (g ch : Nat) (x : Xfer) : Prop :=
  ch < 16 ∧ (s.chan g ch).act = some x ∧ s.chState g ch = 1 ∧ s.dmaStopped g = false ∧
  ∀ h, h < 16 → h ≠ ch → (s.chan g h).act = none ∧ s.chState g h = 0

/-- The channel has a transfer, whose head unit is not complete and which no append has ended. -/
def HeadOpen (s : State) (g ch : Nat) : Prop :=
  ∃ x, (s.chan g ch).act = some x ∧ SMap.get 0 x.acked x.head < (s.desc g ch).unitLen ∧ x.stop = none

/-- The state to which a channel in error returns: a transfer that was stopping goes on stopping, another runs. -/
def Resumed (s : State) (g ch : Nat) : Nat := if (s.chan g ch).act.any (fun x => decide (x.ending ≠ 0)) then 3 else 1

/-- The end code of a transfer that stops: one whose context is gone keeps its own (R211). -/
def Ends (x : Xfer) (code : Nat) : Xfer := { x with ending := if x.ending = 7 then 7 else code }

/-- n bytes from a on, cut at the next 256 B boundary (R216). -/
def to256 (a n : Nat) : Nat := Min.min (256 - a % 256) n

end Sys2Proof.Claims

/-- R208, R210, R213, R229, R236, R241: DLD loads the shadow set of an owned channel from a descriptor that passes the
checks; DGO queues a loaded one; DSTOP stops an active transfer and empties the shadow set; DSTAT returns the status word, of
a channel owned by another context 0x80. What it rests on beside the rules: log entries 8 and 59. -/
def Obligations.DmaInstructionsDriveChannels : Prop :=
  ∀ (s : State) (g c k : Nat) (d : Dec),
    let u := s.strand g c k
    let ch := d.f35
    let own := s.chOwner g ch = c
    (s.At g c k .dld d → ∃ t, exec (.dld g c k) s = .next t ∧
      let a := (u.rd d.rd).toNat
      (¬own → s.Faults t g c k 0x0A) ∧
      (own → s.shadow g ch ≠ 0 → t = s) ∧
      (own → s.shadow g ch = 0 → s.operandKey g c a 64 = none → s.Faults t g c k 0x0A) ∧
      (∀ key, own → s.shadow g ch = 0 → s.operandKey g c a 64 = some key →
        let words : Desc := (List.range 8).map (fun i => BitVec.ofNat 64 (leNat s (key + 8 * i) 8))
        (s.poisoned key 64 = true → s.Faults t g c k 0x0D) ∧
        (s.poisoned key 64 = false → s.descOk c words = false → s.Faults t g c k 0x0A) ∧
        (s.poisoned key 64 = false → s.descOk c words = true →
          (∃ v : State, v = { s with regs := v.regs } ∧ v.Passes t g c k) ∧
          (∀ i, i < 8 → t.reg ⟨.DMA_CH_SHD, g, ch, i⟩ = BitVec.ofNat 64 (leNat s (key + 8 * i) 8)) ∧
          t.shadow g ch = 1 ∧ t.chState g ch = s.chState g ch))) ∧
    (s.At g c k .dgo d → ∃ t, exec (.dgo g c k) s = .next t ∧
      let pa := s.f F.DMA_CH_PACE_ADDR_ADDR g ch
      let ok := own ∧ s.shadow g ch = 1 ∧ ((s.shdDesc g ch).pace = true → pa % 8 = 0 ∧ (s.winKey g c pa 8).isSome = true)
      (¬ok → s.Faults t g c k 0x0A) ∧
      (ok →
        (∃ v : State, v = { s with regs := v.regs, chans := v.chans } ∧ v.Passes t g c k) ∧
        t.shadow g ch = 2 ∧ (t.chan g ch).act = (s.chan g ch).act ∧
        (t.chan g ch).whoQ.map (·.1) = some (u.who c k) ∧ t.chState g ch = s.chState g ch)) ∧
    (s.At g c k .dstop d → ∃ t, exec (.dstop g c k) s = .next t ∧
      let st := s.chState g ch
      (¬own ∨ st = 0 ∨ st = 3 → s.Passes t g c k) ∧
      (own → st = 1 ∨ st = 2 ∨ st = 4 →
        (∃ v : State, v = { s with regs := v.regs, chans := v.chans, cores := v.cores } ∧ v.Passes t g c k) ∧
        t.chState g ch = 3 ∧ t.shadow g ch = 0 ∧
        (t.chan g ch).act = (s.chan g ch).act.map (fun x => Ends x (if st = 4 then 3 else 2)))) ∧
    (s.At g c k .dstat d → ∃ t, exec (.dstat g c k) s = .next t ∧
      s.Retires t g c k d.rd (if own then s.reg ⟨.DMA_CH_STATUS, g, ch, 0⟩ else 0x80))

/-- R210, R216, R217, R231: a queued shadow set becomes the active transfer of an idle channel. The read engine then reads
the next bytes of a copy, up to a 256 B boundary, and the write engine writes the bytes that have come; which bytes they are is
stated where the write does not overlap its source (R215). What it rests on
beside the rules: log entry 59. -/
def Obligations.TransfersStartAndMove : Prop :=
  (∀ (s : State) (g ch : Nat) (w : Who) (chk : Bool),
    (s.chan g ch).whoQ = some (w, chk) → s.shadow g ch = 2 → s.chState g ch = 0 → s.dmaStopped g = false →
    ∃ t, exec (.shadowActivation g ch) s = .next t ∧ t.mem = s.mem ∧ t.chState g ch = 1 ∧ t.shadow g ch = 0 ∧
      t.f F.DMA_CH_DONE_UNITS g ch = 0 ∧ t.desc g ch = s.shdDesc g ch ∧
      (∀ i, i < 8 → t.reg ⟨.DMA_CH_SHD, g, ch, i⟩ = 0) ∧ (t.chan g ch).whoQ = none ∧
      ∃ x, (t.chan g ch).act = some x ∧ x.who = w ∧ x.chk = chk ∧ x.head = 0 ∧ x.walk = (s.chan g ch).shd ∧ x.acked = []) ∧
  (∀ (s : State) (g ch key : Nat) (x : Xfer), RunsAlone s g ch x → (s.desc g ch).op = 0 → (s.core g).bursts = [] →
    let d := s.desc g ch
    let r := x.walk.run
    let a := d.srcRun r + x.walk.off
    let n := to256 a (d.run - x.walk.off)
    r < d.nRuns → d.unitOf r ≤ x.head + (s.f F.DMA_CH_CFG_DEPTH_M1 g ch + 1) →
    s.xlate g x.who.c a false .dma = .ok (.mem key) →
    ∃ t, exec (.dmaReadBurstIssue g) s = .next t ∧ t.mem = s.mem ∧ (t.core g).lastRead = ch ∧
      (∃ b, (t.core g).bursts = [b] ∧ b.ch = ch ∧ b.next = false ∧ b.kind = .data ∧ b.unit = d.unitOf r ∧ b.run = r ∧
        b.off = x.walk.off ∧ b.addr = a ∧ b.loc = .mem key ∧ b.len = n ∧ b.st = .reading ∧
        b.demand = decide (d.unitOf r = x.head)) ∧
      (t.chan g ch).act = some { x with walk :=
        if x.walk.off + n < d.run then { x.walk with off := x.walk.off + n } else { x.walk with run := r + 1, off := 0 } }) ∧
  (∀ (s : State) (g ch key : Nat) (x : Xfer) (b : Burst), RunsAlone s g ch x → (s.desc g ch).op = 0 →
    (s.desc g ch).pace = false → (s.core g).bursts = [b] → (s.core g).writes = [] → b.ch = ch → b.next = false →
    b.st = .ready → b.sent < b.data.length →
    let a := (s.desc g ch).dstRun b.run + (b.off + b.sent)
    let n := to256 a (b.data.length - b.sent)
    s.xlate g x.who.c a true .dma = .ok (.mem key) → s.writeCheck (.mem key) n (.store n) = .ok () →
    ∃ t, exec (.dmaWriteBurstIssue g) s = .next t ∧ t.mem = s.mem ∧ (t.core g).lastWrite = ch ∧
      (t.core g).bursts = [{ b with sent := b.sent + n }] ∧
      ∃ w, (t.core g).writes = [w] ∧ w.ch = ch ∧ w.src = some b.id ∧ w.unit = b.unit ∧ w.run = b.run ∧
        w.off = b.off + b.sent ∧ w.addr = a ∧ w.loc = .mem key ∧ w.poison = b.poison ∧ w.failed = none ∧ w.tries = 1 ∧
        (b.poison = true ∨ (∀ sk, b.loc.key = some sk →
            (sk + b.data.length ≤ key ∨ key + n ≤ sk) ∧ x.overwritten = []) →
          w.data = (b.data.drop b.sent).take n))

/-- R220, R232, R233, R234, R236: a read burst returns its bytes to the buffer; poisoned demand data is read again at the same
offset of the other source where the transfer has one, and without one goes on as poison; a bus error, or a host read
without its completion, that is not retried puts the channel in error, and with ERR_MODE 0 stops the core. On a stopping channel
the error is recorded, the burst is dropped, and the end code is 3. A burst that may be retried waits, and its reissue counts.
What it rests on beside the rules: log entries 2 and 59. -/
def Obligations.ReadBurstsReturn : Prop :=
  (∀ (s : State) (g n : Nat) (b : Burst), (s.core g).bursts[n]? = some b → b.st = .reading → b.next = false →
    b.kind = .data → (s.desc g b.ch).op = 0 → s.chState g b.ch ≠ 3 → 0 < b.len →
    let stops (t : State) (cause : Nat) : Prop :=
      t.f F.DMA_CH_ERR_CAUSE g b.ch = cause % 16 ∧ t.f F.DMA_CH_ERR_ADDR_ADDR g b.ch = b.addr % 2 ^ 64 ∧
      t.fb F.DMA_CH_ERR_WRITE g b.ch = false ∧ t.chState g b.ch = 4 ∧ t.mem = s.mem ∧
      (s.fb F.DMA_CORE_CFG_ERR_MODE g = false → t.dmaStopped g = true ∧
        ∀ h, h < 16 → h ≠ b.ch → s.chState g h ≠ 0 →
          ¬(s.chState g h = 3 ∧ ∃ x, (s.chan g h).act = some x ∧ x.ending = 7) →
          t.chState g h = 4 ∧ t.f F.DMA_CH_ERR_CAUSE g h = 7)
    (∀ key, b.loc = .mem key → s.poisoned key b.len = false → ∃ t, exec (.dmaReadReturn g n .ok) s = .next t ∧
      t.mem = s.mem ∧ (t.core g).bursts[n]? =
        some { b with st := .ready, data := (List.range b.len).map (fun i => s.mem.get (key + i)), poison := false }) ∧
    (∀ key, b.loc = .mem key → s.poisoned key b.len = true → b.demand = true → (s.desc g b.ch).aux = 0 →
      ∃ t, exec (.dmaReadReturn g n .ok) s = .next t ∧ t.mem = s.mem ∧
        (∃ bs, bs.length = b.len ∧ (t.core g).bursts[n]? = some { b with st := .ready, data := bs, poison := true }) ∧
        ∀ x, (s.chan g b.ch).act = some x → (t.chan g b.ch).act = some { x with bad := true }) ∧
    (∀ key, b.loc = .mem key → s.poisoned key b.len = true → b.demand = true → (s.desc g b.ch).aux ≠ 0 → b.alt = false →
      ∃ t, exec (.dmaReadReturn g n .ok) s = .next t ∧ t.mem = s.mem ∧ ∃ r ∈ (t.core g).bursts,
        let a := ((b.addr : Int) - (s.desc g b.ch).src + (s.desc g b.ch).aux).toNat
        r.id = b.id ∧ r.st = .reread ∧ r.alt = true ∧ r.addr = a ∧ r.off = b.off ∧ r.len = to256 a b.len) ∧
    (∀ key cause, b.loc = .mem key → b.demand = true → b.alt = false → s.mayRetry g b.again = false →
      ∃ t, exec (.dmaReadReturn g n (.bus cause)) s = .next t ∧ stops t cause) ∧
    (∀ p a, b.loc = .host p a → b.demand = true → b.alt = false → ∃ t, exec (.pcieCompletionTimeout g n) s = .next t ∧
      (s.mayRetry g b.again = false → stops t 2) ∧
      (s.mayRetry g b.again = true → (t.core g).bursts[n]? = some { b with st := .retry }))) ∧
  (∀ (s : State) (g n key cause : Nat) (b : Burst) (x : Xfer), (s.core g).bursts[n]? = some b → b.st = .reading →
    b.next = false → s.chState g b.ch = 3 → (s.chan g b.ch).act = some x → b.loc = .mem key → b.demand = true → b.alt = false →
    ∃ t, exec (.dmaReadReturn g n (.bus cause)) s = .next t ∧ t.mem = s.mem ∧ t.f F.DMA_CH_ERR_CAUSE g b.ch = cause % 16 ∧
      t.chState g b.ch = 3 ∧ (t.chan g b.ch).act = some (Ends x 3) ∧ ∀ q ∈ (t.core g).bursts, q.id ≠ b.id) ∧
  (∀ (s : State) (g ch key c : Nat) (q : Burst), (s.core g).bursts.find? (fun b => b.ch == ch && b.st == .retry) = some q →
    s.chState g ch = 1 → s.dmaStopped g = false → (s.chan g ch).act.map (·.who.c) = some c → (s.core g).bufReads < 512 →
    (s.desc g ch).op ≠ 3 ∨ q.kind ≠ .data →
    s.xlate g c q.addr false .dma = .ok (.mem key) →
    ∃ t, exec (.dmaBurstRetry g ch) s = .next t ∧ t.mem = s.mem ∧
      (∃ r ∈ (t.core g).bursts, r.id = q.id ∧ r.st = .reading ∧ r.loc = .mem key ∧ r.tries = q.tries + 1 ∧ r.again = q.again + 1) ∧
      t.f F.DMA_CH_RETRIES_COUNT g ch = (s.f F.DMA_CH_RETRIES_COUNT g ch + 1) % 2 ^ F.DMA_CH_RETRIES_COUNT.len)

/-- R218, R219, R236: an acknowledged write lands its bytes, leaves the list and is credited to its unit. The last unit ends
the transfer with code 1, the end token where it asks for one, and an idle channel; a stopping channel with nothing in flight
ends with its own code, 7 without a token. Here without a result record. What it rests on beside the rules: log entry 59. -/
def Obligations.WritesLandAndTransfersEnd : Prop :=
  (∀ (s : State) (g n ch key : Nat) (w : DWrite) (b : Burst) (x : Xfer),
    (s.core g).writes[n]? = some w → w.failed = none → w.dups = 0 → w.dupFail = none → w.kind = .data → w.ch = ch →
    w.loc = .mem key → w.poison = false → w.src = some b.id → (s.core g).bursts.find? (fun q => q.id = b.id) = some b →
    b.data.length = b.acked + w.data.length → (s.chan g ch).act = some x → (s.desc g ch).op = 0 →
    (s.desc g ch).resEn = false → s.chState g ch = 1 → w.unit = x.head → x.chk = false →
    let d := s.desc g ch
    let old := SMap.get 0 x.acked x.head
    ∃ t, exec (.dmaWriteAck g n .ok) s = .next t ∧
      (∀ i, i < w.data.length → t.mem.get (key + i) = w.data.getD i 0) ∧
      (∀ a, a < key ∨ key + w.data.length ≤ a → t.mem.get a = s.mem.get a) ∧
      (∀ v ∈ (t.core g).writes, v.id ≠ w.id) ∧ (∀ v ∈ (t.core g).bursts, v.id ≠ b.id) ∧
      (old + b.data.length < d.unitLen →
        t.chState g ch = 1 ∧ ∃ y, (t.chan g ch).act = some y ∧ y.head = x.head ∧ y.bytes = x.bytes + w.data.length ∧
          SMap.get 0 y.acked x.head = old + b.data.length) ∧
      (old < d.unitLen → d.unitLen ≤ old + b.data.length → d.units = x.head + 1 → x.bad = false →
        t.chState g ch = 0 ∧ (t.chan g ch).act = none ∧ t.f F.DMA_CH_STATUS_LAST g ch = 1 ∧
        t.f F.DMA_CH_DONE_UNITS g ch = (s.f F.DMA_CH_DONE_UNITS g ch + 1) % 2 ^ F.DMA_CH_DONE_UNITS.len ∧
        (d.tok = 1 → s.occupied g x.who.c = true → s.f F.CORE_TOKEN_COUNT g x.who.c ch < 4095 →
          t.f F.CORE_TOKEN_COUNT g x.who.c ch = s.f F.CORE_TOKEN_COUNT g x.who.c ch + 1))) ∧
  (∀ (s : State) (g ch : Nat) (x : Xfer), s.chState g ch = 3 → (s.chan g ch).act = some x →
    x.ending = 2 ∨ x.ending = 3 ∨ x.ending = 7 → (s.desc g ch).resEn = false → (s.core g).writes = [] →
    (∀ b ∈ (s.core g).bursts, b.ch ≠ ch) →
    ∃ t, exec (.channelDrained g ch) s = .next t ∧ t.mem = s.mem ∧ t.chState g ch = 0 ∧ (t.chan g ch).act = none ∧
      t.f F.DMA_CH_STATUS_LAST g ch = x.ending ∧
      (x.ending = 7 ∨ (s.desc g ch).tok ≠ 1 → t.f F.CORE_TOKEN_COUNT g x.who.c ch = s.f F.CORE_TOKEN_COUNT g x.who.c ch) ∧
      (x.ending ≠ 7 → (s.desc g ch).tok = 1 → s.occupied g x.who.c = true → s.f F.CORE_TOKEN_COUNT g x.who.c ch < 4095 →
        t.f F.CORE_TOKEN_COUNT g x.who.c ch = s.f F.CORE_TOKEN_COUNT g x.who.c ch + 1))

/-- R211, R228, R229, R233, R235: RESTART returns a channel in error to running, or to stopping where its transfer was, and
ABORT stops it with code 3; while a stop is in
force a single RESTART has no effect, and RESTART_ALL and ABORT_ALL lift the stop and act on all. The pace registers take
only values in range, and a held channel runs again at LOW. What it rests on beside the rules: log entries 8, 22 and 59. -/
def Obligations.ChannelsResumeAbortAndPace : Prop :=
  ∀ (s : State) (g ch : Nat),
    (∃ t, exec (.dmaChRestart g ch) s = .next t ∧
      (s.dmaStopped g = true ∨ s.chState g ch ≠ 4 → t = s) ∧
      (s.dmaStopped g = false → s.chState g ch = 4 → HeadOpen s g ch →
        t = s.setF F.DMA_CH_STATUS_STATE (Resumed s g ch) g ch)) ∧
    (∃ t, exec (.dmaChAbort g ch) s = .next t ∧ t.mem = s.mem ∧ (s.chState g ch ≠ 4 → t = s) ∧
      (s.chState g ch = 4 → t.chState g ch = 3 ∧
        (t.chan g ch).act = (s.chan g ch).act.map (fun x => Ends x 3))) ∧
    ((∀ h, h < 16 → s.chState g h = 4 → HeadOpen s g h) → ∃ t, exec (.restartAll g) s = .next t ∧ t.mem = s.mem ∧
      t.dmaStopped g = false ∧ ∀ h, h < 16 → t.chState g h = if s.chState g h = 4 then Resumed s g h else s.chState g h) ∧
    (∃ t, exec (.abortAll g) s = .next t ∧ t.mem = s.mem ∧ t.dmaStopped g = false ∧
      ∀ h, h < 16 → t.chState g h = (if s.chState g h = 4 then 3 else s.chState g h) ∧
        (s.chState g h = 4 → (t.chan g h).act = (s.chan g h).act.map (fun x => Ends x 3))) ∧
    (∀ v : Word, ∃ t, exec (.dmaChPaceWrite g ch v) s = .next t ∧
      let high := v.toNat % 65536
      let low := v.toNat / 65536 % 65536
      (high ≤ low → t = s) ∧
      (low < high → t.f F.DMA_CH_PACE_HIGH g ch = high ∧ t.f F.DMA_CH_PACE_LOW g ch = low ∧ t.mem = s.mem ∧
        ∀ x, (s.chan g ch).act = some x → s.chState g ch = 2 → t.chState g ch = if x.level ≤ low then 1 else 2)) ∧
    (∀ v : Word, ∃ t, exec (.dmaChPaceAddrWrite g ch v) s = .next t ∧
      (s.chState g ch = 0 ∧ s.shadow g ch ≠ 2 → t = s.setF F.DMA_CH_PACE_ADDR_ADDR v.toNat g ch) ∧
      (s.chState g ch ≠ 0 ∨ s.shadow g ch = 2 → t = s)) ∧
    (∀ x key, (s.chan g ch).act = some x → (s.desc g ch).pace = true →
      s.winKey g x.who.c (s.f F.DMA_CH_PACE_ADDR_ADDR g ch) 8 = some key →
      ∃ t, exec (.dmaPaceCounterSeen g ch) s = .next t ∧ t.mem = s.mem ∧
        let v := BitVec.ofNat 64 (leNat s key 8)
        (t.chan g ch).act = some { x with seen := v } ∧
        (s.chState g ch = 2 → t.chState g ch =
          if (x.startedN : Int) - ((v.toNat : Int) - x.c0.toNat) % 2 ^ 64 ≤ s.f F.DMA_CH_PACE_LOW g ch then 1 else 2))
/-! ### The spur path, messages and cols -/

namespace Sys2Proof.Claims

/-- An operation has left core g's spur queue for good. -/
def SpurGone (s t : State) (g : Nat) (o : SOp) : Prop :=
  (t.core g).spurq = (s.core g).spurq.filter (fun q => decide (q.seq ≠ o.seq))

/-- Counter T29 counts an operation that asked for its token, where there is room, and whose context has not been emptied. -/
def SpurToken (s t : State) (g : Nat) (o : SOp) : Prop :=
  (o.tok = true → ¬CtxGone s g o.who.c o.seq → s.f F.CORE_TOKEN_COUNT g o.who.c 29 < 4095 →
    t.f F.CORE_TOKEN_COUNT g o.who.c 29 = s.f F.CORE_TOKEN_COUNT g o.who.c 29 + 1) ∧
  (o.tok = false ∨ CtxGone s g o.who.c o.seq → t.f F.CORE_TOKEN_COUNT g o.who.c 29 = s.f F.CORE_TOKEN_COUNT g o.who.c 29)

/-- The operation has raised a code, unless its context has been emptied since (log entry 72). -/
def SpurFault (s t : State) (g : Nat) (o : SOp) (code : Nat) : Prop :=
  (¬CtxGone s g o.who.c o.seq → Blamed t g o.who code) ∧
  (CtxGone s g o.who.c o.seq → t.reg ⟨.CORE_FAULT, g, o.who.c, 0⟩ = s.reg ⟨.CORE_FAULT, g, o.who.c, 0⟩)

/-- Memory holds a list of bytes from a key on, and elsewhere what it held before. -/
def Stores (s t : State) (key : Nat) (bs : List Byte) : Prop :=
  (∀ i, i < bs.length → t.mem.get (key + i) = bs.getD i 0) ∧
  ∀ a, a < key ∨ key + bs.length ≤ a → t.mem.get a = s.mem.get a

/-- The bytes of memory from a key on. -/
def bytesAt (s : State) (key n : Nat) : List Byte := (List.range n).map (fun i => s.mem.get (key + i))

/-- A queue has taken a message (R262): payload, sender, length and frame in the slot at TAIL, and no other byte; TAIL goes on
round the ring, COUNT and T(16 + q) count it. -/
def Accepted (s t : State) (g c q sender : Nat) (data : List Byte) : Prop :=
  let tail := s.f F.COL_MQ_STATE_TAIL g c q
  let slot := spadKey g (128 * (s.f F.COL_MQ_CFG_BASE g c q + tail))
  (∀ i, i < data.length → t.mem.get (slot + i) = data.getD i 0) ∧
  leNat t (slot + 0x40) 8 = sender % 2 ^ 64 ∧ leNat t (slot + 0x48) 8 = data.length ∧
  leNat t (slot + 0x50) 8 = s.clk.frame % 2 ^ 64 ∧
  (∀ a, a < slot ∨ slot + 128 ≤ a → t.mem.get a = s.mem.get a) ∧
  t.f F.COL_MQ_STATE_TAIL g c q = (if tail = s.f F.COL_MQ_CFG_SLOTS_M1 g c q then 0 else (tail + 1) % 256) ∧
  t.f F.COL_MQ_STATE_COUNT g c q = s.f F.COL_MQ_STATE_COUNT g c q + 1 ∧
  t.f F.COL_MQ_STATE_HEAD g c q = s.f F.COL_MQ_STATE_HEAD g c q ∧
  (s.f F.CORE_TOKEN_COUNT g c (16 + q) < 4095 →
    t.f F.CORE_TOKEN_COUNT g c (16 + q) = s.f F.CORE_TOKEN_COUNT g c (16 + q) + 1)

/-- The queue takes messages: enabled, of a context that is not empty on a core that exists (R264). -/
def QueueOpen (s : State) (g c q : Nat) : Prop :=
  s.fb F.COL_MQ_CFG_ENABLE g c q = true ∧ s.occupied g c = true ∧ s.coreOk g = true

/-- The queue has a free slot. -/
def QueueRoom (s : State) (g c q : Nat) : Prop := s.f F.COL_MQ_STATE_COUNT g c q ≤ s.f F.COL_MQ_CFG_SLOTS_M1 g c q

/-- Identifier id of context c names a col of a kind whose scope holds core g (R267, Table COL-2). -/
def ColKnown (s : State) (g c id kind : Nat) : Prop :=
  let phys := s.f F.COL_XLATE_PHYS c id
  s.fb F.COL_XLATE_VALID c id = true ∧ s.f F.COL_XLATE_KIND c id = kind ∧
  (phys < 512 → g / 8 = phys / 16) ∧ (512 ≤ phys → phys < 768 → g / 128 = (phys - 512) / 128)

/-- There is room for an entry: fewer than two of the identifier and 32 in all outstanding, and none stalled before it. -/
def ColRoom (s : State) (g c id : Nat) : Prop :=
  (s.waitsOf g c).countP (fun e => decide (e.id = id)) < 2 ∧ (s.waitsOf g c).length < 32 ∧
  ∀ e ∈ (s.core g).stalls, ¬(e.c = c ∧ e.id = id)

/-- An entry has been made: its waiter in the wait table, the round tag advanced, the entry on its way (R270). -/
def Entered (s t : State) (g c id : Nat) (w : Waiter) (flag : Bool) : Prop :=
  let tag := (s.colTag g c id).tag
  t.waitsOf g c = s.waitsOf g c ++ [⟨id, tag, w⟩] ∧ t.colTag g c id = { s.colTag g c id with tag := (tag + 1) % 4 } ∧
  t.colEnts = s.colEnts ++ [⟨g, s.f F.COL_XLATE_PHYS c id, tag, flag⟩]

end Sys2Proof.Claims

/-- R65, R237, R238, R239, R348: the oldest operation of the spur queue leaves with the bytes it carries, a message of this module on
its way to its core. An operation that is ready and not refused takes effect, fills RC, gives up its place and counts on T29;
a refused one raises its code, and one not complete in time, or that names host memory of a port which may not master the bus,
0x05. Of a context emptied since, an operation completes without token and fault. Effects of operations of one part, in this
module's memory. What it rests on beside the rules: log entries 8, 58, 72 and 84. -/
def Obligations.SpurOperationsLeaveAndComplete : Prop :=
  (∀ (s : State) (g : Nat) (o : SOp), (s.core g).spurq.find? (fun x => !x.sent) = some o →
    ∃ t, exec (.spurSend g) s = .next t ∧ t.mem = s.mem ∧ t.strands = s.strands ∧
      let message := ∃ core q, o.kind = .msg core q
      (o.kind = .put ∨ message ∧ o.data = [] →
        ∃ m, (t.core g).spurq = (s.core g).spurq.map (fun x => if x.seq = o.seq then { o with
          sent := true, data := bytesAt s o.loc o.len, poison := s.poisoned o.loc o.len, dups := m } else x)) ∧
      (o.kind = .get ∨ o.kind = .atom ∨ message ∧ o.data ≠ [] →
        ∃ m, (t.core g).spurq = (s.core g).spurq.map (fun x => if x.seq = o.seq then { o with
          sent := true, poison := false, dups := m } else x)) ∧
      ∀ core q, o.kind = .msg core q → o.addr / 2 ^ 44 = s.node → o.data ≠ [] → t.msgs = s.msgs ++
        [{ g := g, seq := o.seq, dst := core, c := o.who.c, q := q, data := o.data, poison := false }]) ∧
  (∀ (s : State) (g n : Nat) (o : SOp), (s.core g).spurq[n]? = some o → s.spurReady g o = true →
    ∃ t, exec (.spurComplete g n) s = .next t ∧ SpurGone s t g o ∧
      let shut := ∃ p ∈ o.parts, s.hostShut p.loc = true
      (shut → SpurFault s t g o 0x05 ∧ t.mem = s.mem) ∧
      (¬shut → o.status ≠ 0 → SpurFault s t g o (failCode o.status)) ∧
      (¬shut → o.status = 0 → (∃ core q, o.kind = .msg core q) → SpurToken s t g o ∧ t.mem = s.mem) ∧
      ∀ p key, o.status = 0 → o.parts = [p] → p.loc = .mem key →
        (o.kind = .put → SpurToken s t g o ∧ Stores s t key ((o.data.drop p.off).take p.len)) ∧
        (o.kind = .get → s.poisoned key p.len = false → SpurToken s t g o ∧ Stores s t o.loc (bytesAt s key p.len)) ∧
        (o.kind = .get → s.poisoned key p.len = true → SpurFault s t g o 0x0D ∧ t.mem = s.mem) ∧
        (o.kind = .atom → s.poisoned key 8 = true → SpurFault s t g o 0x0D ∧ t.mem = s.mem) ∧
        (o.kind = .atom → s.poisoned key 8 = false → s.countWordAt key = none → s.allocWordAt key = none →
          let old := leNat s key 8
          let u := s.strand g o.who.c o.who.k
          SpurToken s t g o ∧
          Stores s t key ((List.range 8).map (fun i => BitVec.ofNat 8 ((old + o.val.toNat) / 256 ^ i))) ∧
          (u.exec = true → u.ended = false → u.fid = o.who.fid → o.rc ≠ 0 →
            (t.strand g o.who.c o.who.k).rd o.rc = BitVec.ofNat 64 old ∧
            (t.strand g o.who.c o.who.k).pend = u.pend.erase o.rc))) ∧
  (∀ (s : State) (g n : Nat) (o : SOp), (s.core g).spurq[n]? = some o →
    ∃ t, exec (.spurTimeout g n) s = .next t ∧ t.mem = s.mem ∧
      (s.clk.now < o.born + s.f F.DMA_SPUR_TIMEOUT_TIMEOUT → t = s) ∧
      (o.born + s.f F.DMA_SPUR_TIMEOUT_TIMEOUT ≤ s.clk.now → SpurGone s t g o ∧ SpurFault s t g o 0x05))

/-- R261, R262, R264, R265: a message of this module is taken by an open queue with room, refused with status 7 by one that
is not open, and held by a full one until a slot is free. BASE and SLOTS_M1 change only while the queue is disabled and
empty; ENABLE holds only where the ring lies in the context's window. What it rests on beside the rules: log entries 8 and
56. -/
def Obligations.MessagesFillReceiveQueues : Prop :=
  (∀ (s : State) (n : Nat) (m : Msg) (o : SOp), s.msgs[n]? = some m →
    (s.core m.g).spurq.find? (fun o => o.seq = m.seq) = some o →
    (∀ q ∈ (s.core m.g).spurq, q.seq < o.seq → q.who.c ≠ o.who.c) → m.data.length ≤ 64 →
    ∃ t, exec (.messageArrival (.own n)) s = .next t ∧
      let answered (status : Nat) : Prop := t.msgs = s.msgs.eraseIdx n ∧
        ∃ x, (t.core m.g).spurq.find? (fun o => o.seq = m.seq) = some x ∧
          x.parts.map (fun p => p.rsp) = [some { status := status }]
      (QueueOpen s m.dst m.c m.q → QueueRoom s m.dst m.c m.q →
        Accepted s t m.dst m.c m.q (s.node * 2 ^ 44 + m.g) m.data ∧ answered 0) ∧
      (QueueOpen s m.dst m.c m.q → ¬QueueRoom s m.dst m.c m.q →
        t = { s with msgs := t.msgs } ∧ t.msgs[n]? = some { m with held := true }) ∧
      (¬QueueOpen s m.dst m.c m.q → answered 7 ∧ t.mem = s.mem ∧
        t.f F.COL_MQ_REFUSED_COUNT m.dst m.c = (s.f F.COL_MQ_REFUSED_COUNT m.dst m.c + 1) % 2 ^ F.COL_MQ_REFUSED_COUNT.len ∧
        (m.c < 4 → bitN (t.f F.COL_EVENT_MSG_REFUSED) m.c = true))) ∧
  (∀ (s : State) (g c q : Nat) (m : Msg) (o : SOp), s.msgs = [m] → m.held = true → m.dst = g → m.c = c → m.q = q →
    (s.core m.g).spurq = [o] → o.seq = m.seq → m.data.length ≤ 64 →
    ∃ t, exec (.messageReoffer g c q) s = .next t ∧
      (¬QueueRoom s g c q → t = s) ∧
      (QueueOpen s g c q → QueueRoom s g c q → Accepted s t g c q (s.node * 2 ^ 44 + m.g) m.data ∧ t.msgs = [])) ∧
  (∀ (s : State) (g c q : Nat) (v : Word), ∃ t, exec (.colMqCfgWrite g c q v) s = .next t ∧ t = { s with regs := t.regs } ∧
    let free := s.fb F.COL_MQ_CFG_ENABLE g c q = false ∧ s.f F.COL_MQ_STATE_COUNT g c q = 0
    let lo := 128 * t.f F.COL_MQ_CFG_BASE g c q
    let win := 65536 * s.f F.PLC_WIN_BASE c
    (free → t.f F.COL_MQ_CFG_SLOTS_M1 g c q = v.toNat / 2 ^ 8 % 256 ∧ t.f F.COL_MQ_CFG_BASE g c q = v.toNat / 2 ^ 16 % 65536 ∧
      t.reg ⟨.COL_MQ_STATE, g, c, q⟩ = 0) ∧
    (¬free → t.f F.COL_MQ_CFG_SLOTS_M1 g c q = s.f F.COL_MQ_CFG_SLOTS_M1 g c q ∧
      t.f F.COL_MQ_CFG_BASE g c q = s.f F.COL_MQ_CFG_BASE g c q ∧
      t.reg ⟨.COL_MQ_STATE, g, c, q⟩ = s.reg ⟨.COL_MQ_STATE, g, c, q⟩) ∧
    (t.fb F.COL_MQ_CFG_ENABLE g c q = true ↔ v.toNat % 2 = 1 ∧ win ≤ lo ∧
      lo + 128 * (t.f F.COL_MQ_CFG_SLOTS_M1 g c q + 1) ≤ win + 65536 * s.f F.PLC_WIN_SIZE c) ∧
    ∀ r, r ≠ ⟨.COL_MQ_CFG, g, c, q⟩ → r ≠ ⟨.COL_MQ_STATE, g, c, q⟩ → t.reg r = s.reg r)

/-- R267, R270, R273: COLE and COLW enter a col of kind 0 in scope; COLE goes on, COLW holds its strand. Without room the
entry stalls with its strand, and is sent once there is room. COLR returns the col state word. Any other identifier raises
0x0C. -/
def Obligations.ColsEnterAndRead : Prop :=
  (∀ (s : State) (g c k : Nat) (d : Dec),
    let u := s.strand g c k
    let id := d.id12
    let x := s.core g
    let stalled (t : State) (w : Waiter) : Prop :=
      (t.core g).stalls = x.stalls ++ [{ c := c, id := id, waiter := w, flag := false, k := k, fid := u.fid }] ∧
      t.strand g c k = { u with held := true } ∧ t.colEnts = s.colEnts ∧ t.waitsOf g c = s.waitsOf g c ∧ t.mem = s.mem
    (s.At g c k .cole d → ∃ t, exec (.cole g c k) s = .next t ∧
      (¬ColKnown s g c id 0 → s.Faults t g c k 0x0C) ∧
      (ColKnown s g c id 0 → ColRoom s g c id → Entered s t g c id (.token (d.field 25 2)) false ∧
        ∃ v : State, v = { s with waits := v.waits, tags := v.tags, colEnts := v.colEnts } ∧ v.Passes t g c k) ∧
      (ColKnown s g c id 0 → ¬ColRoom s g c id → stalled t (.token (d.field 25 2)))) ∧
    (s.At g c k .colw d → ∃ t, exec (.colw g c k) s = .next t ∧
      (¬ColKnown s g c id 0 → s.Faults t g c k 0x0C) ∧
      (ColKnown s g c id 0 → ColRoom s g c id → Entered s t g c id (.strand k u.fid) false ∧
        t.strand g c k = { u with held := true } ∧
        ∃ v : State, v = { s with waits := v.waits, tags := v.tags, colEnts := v.colEnts } ∧ v.OnlyStrand t g c k) ∧
      (ColKnown s g c id 0 → ¬ColRoom s g c id → stalled t (.strand k u.fid))) ∧
    (s.At g c k .colr d → ∃ t, exec (.colr g c k) s = .next t ∧
      let kind := s.f F.COL_XLATE_KIND c id
      let y := s.colTag g c id
      (¬ColKnown s g c id kind → s.Faults t g c k 0x0C) ∧
      (ColKnown s g c id kind → s.Retires t g c k d.rd (BitVec.ofNat 64
        (y.tag + 4 * (s.waitsOf g c).countP (fun e => decide (e.id = id)) + 16 * y.lastTag +
          (if y.lastFlag = true then 64 else 0) + 128 * kind))))) ∧
  (∀ (s : State) (g : Nat) (e : Stall) (rest : List Stall), (s.core g).stalls = e :: rest → s.halted e.c = false →
    (s.waitsOf g e.c).countP (fun w => decide (w.id = e.id)) < 2 → (s.waitsOf g e.c).length < 32 →
    ∃ t, exec (.colStalledEntrySend g 0) s = .next t ∧ t.mem = s.mem ∧ (t.core g).stalls = rest ∧
      Entered s t g e.c e.id e.waiter e.flag ∧
      let u := s.strand g e.c e.k
      (∀ slot, e.waiter = .token slot → u.exec = true → u.held = true → u.fid = e.fid →
        t.strand g e.c e.k = { u with held := false, pc := u.pc + 1 }) ∧
      (∀ k f, e.waiter = .strand k f → t.strand g e.c e.k = u))

/-- R271, R272: an entry counts for the round of its tag; the last one of the present round releases the cores of the scope,
with the round's flag, and the next round begins with what has come for it. A tag of neither round is a protocol error of
kind 1. A release serves the entry of its tag: COLE's token, or the strand that COLW holds. Counters of one module. What it
rests on beside the rules: log entry 70. -/
def Obligations.ColsCountAndRelease : Prop :=
  (∀ (s : State) (e : ColEnt) (rest : List ColEnt), s.colEnts = e :: rest → s.fb F.COL_CTR_CFG_XMOD e.phys = false →
    ∃ t, exec (.colEntryArrival 0) s = .next t ∧ t.colEnts = rest ∧ t.mem = s.mem ∧
      let k := e.phys
      let count := s.f F.COL_CTR_CFG_COUNT k
      let round := s.f F.COL_CTR_STATE_ROUND k
      let c0 := s.f F.COL_CTR_STATE_C0 k
      let c1 := s.f F.COL_CTR_STATE_C1 k
      let f0 := s.fb F.COL_CTR_STATE_F0 k || e.flag
      (e.tag = round % 4 → c0 + 1 < count →
        t.f F.COL_CTR_STATE_C0 k = c0 + 1 ∧ t.fb F.COL_CTR_STATE_F0 k = f0 ∧ t.f F.COL_CTR_STATE_C1 k = c1 ∧
        t.f F.COL_CTR_STATE_ROUND k = round ∧ t.colRels = s.colRels) ∧
      (∀ c id, e.tag = round % 4 → c0 + 1 = count → c1 ≠ count → s.fb F.COL_CTR_STATE_DONE0 k = false →
        s.fb F.COL_CTR_STATE_DONE1 k = false → s.colName k = some (c, id) →
        t.colRels = s.colRels ++ (s.coreList.filter (colScope k)).map (fun g =>
          { g := g, phys := k, c := c, id := id, tag := round % 4, flag := f0 }) ∧
        t.f F.COL_CTR_STATE_ROUND k = (round + 1) % 65536 ∧ t.f F.COL_CTR_STATE_C0 k = c1 ∧
        t.fb F.COL_CTR_STATE_F0 k = s.fb F.COL_CTR_STATE_F1 k ∧ t.f F.COL_CTR_STATE_C1 k = 0 ∧
        t.fb F.COL_CTR_STATE_F1 k = false) ∧
      (e.tag = (round + 1) % 4 → c0 ≠ count → c1 + 1 < 512 →
        t.f F.COL_CTR_STATE_C1 k = c1 + 1 ∧ t.f F.COL_CTR_STATE_C0 k = c0 ∧
        t.fb F.COL_CTR_STATE_F1 k = (s.fb F.COL_CTR_STATE_F1 k || e.flag) ∧ t.colRels = s.colRels) ∧
      (e.tag ≠ round % 4 → e.tag ≠ (round + 1) % 4 →
        t.f F.COL_PROTO_PHYS = k % 1024 ∧ t.f F.COL_PROTO_KIND = 1 ∧ t.fb F.COL_EVENT_PROTO = true ∧
        t.f F.COL_CTR_STATE_C0 k = c0 ∧ t.f F.COL_CTR_STATE_C1 k = c1 ∧ t.colRels = s.colRels)) ∧
  (∀ (s : State) (r : ColRel) (rest : List ColRel), s.colRels = r :: rest →
    ∃ t, exec (.colReleaseArrival 0) s = .next t ∧ t.mem = s.mem ∧
      let mine (e : WaitEnt) : Bool := decide (e.id = r.id ∧ e.tag = r.tag)
      let ws := s.waitsOf r.g r.c
      (ws.filter mine = [] → t = { s with colRels := rest }) ∧
      (∀ e, ws.filter mine = [e] → t.colRels = rest ∧ t.waitsOf r.g r.c = ws.filter (fun w => !mine w) ∧
        t.colTag r.g r.c r.id = { s.colTag r.g r.c r.id with lastTag := r.tag, lastFlag := r.flag } ∧
        (∀ slot, e.waiter = .token slot → s.occupied r.g r.c = true → s.f F.CORE_TOKEN_COUNT r.g r.c (24 + slot) < 4095 →
          t.f F.CORE_TOKEN_COUNT r.g r.c (24 + slot) = s.f F.CORE_TOKEN_COUNT r.g r.c (24 + slot) + 1) ∧
        (∀ k fid, e.waiter = .strand k fid → (s.strand r.g r.c k).exec = true → (s.strand r.g r.c k).held = true →
          (s.strand r.g r.c k).fid = fid →
          t.strand r.g r.c k = { s.strand r.g r.c k with held := false, pc := (s.strand r.g r.c k).pc + 1 })))

/-- R87, Table ISA-14: CRD returns a register of the context's own block, 0 at a reserved offset, or a value of Table ISA-14, core
cycles with those of the core's boost (R280);
CWR writes the fields that software sets. An ID12 above 0x106, and a CWR to what is read-only or reserved, raises 0x0E. -/
def Obligations.ContextRegistersReadAndWrite : Prop :=
  ∀ (s : State) (g c k : Nat) (d : Dec),
    let id := d.id12
    (s.At g c k .crd d → ∃ t, exec (.crd g c k) s = .next t ∧
      (0x106 < id → s.Faults t g c k 0x0E) ∧
      (∀ r, id < 0x100 → ownReg g c id = some r → s.Retires t g c k d.rd (s.regRead r)) ∧
      (id < 0x100 → ownReg g c id = none → s.Retires t g c k d.rd 0) ∧
      ∀ e ∈ [(0x100, s.clk.frame), (0x101, if s.clk.running = true then s.clk.now - s.clk.tickTime else 0), (0x102, g),
          (0x103, s.f F.NET_NODE_ID_ID), (0x104, c), (0x105, k), (0x106, (s.clk.cyc + SMap.get 0 s.cycles.boost g) / 100)],
        id = e.1 → s.Retires t g c k d.rd (BitVec.ofNat 64 e.2)) ∧
    (s.At g c k .cwr d → ∃ t, exec (.cwr g c k) s = .next t ∧
      let v := (s.strand g c k).rd d.rs1
      (0x100 ≤ id ∨ ownReg g c id = none → s.Faults t g c k 0x0E) ∧
      ∀ r, id < 0x100 → ownReg g c id = some r →
        (r.readOnly = true → s.Faults t g c k 0x0E) ∧
        (r.readOnly = false → r.i = g → r.j = c →
          (r.name ∈ [.CORE_CTX_ISTORE, .CORE_BT_DATA0, .CORE_BT_DATA1, .CORE_BT_DATA2, .CORE_BT_DATA3, .CORE_TOKEN] →
            s.halted c = false → s.Passes t g c k) ∧
          (r = ⟨.CORE_BT_INDEX, g, c, 0⟩ → t.f F.CORE_BT_INDEX_BLOCK g c = v.toNat % 512 ∧ (t.ctx g c).btPend = [] ∧
            (t.strand g c k).pc = (s.strand g c k).pc + 1) ∧
          (r.name = .CORE_LOAD_CTRL → v.toNat % 4 ≠ 1 → (v.toNat % 4 = 2 → s.halted c = false) → s.Passes t g c k) ∧
          (r.name ∉ [.CORE_CTX_ISTORE, .CORE_LOAD_CTRL, .CORE_BT_INDEX, .CORE_BT_DATA0, .CORE_BT_DATA1, .CORE_BT_DATA2,
              .CORE_BT_DATA3, .CORE_TOKEN] →
            ({ s with regs := t.regs } : State).Passes t g c k ∧ t.reg r = s.fieldsWrite r v ∧
            ∀ q, q ≠ r → q ≠ ⟨.CORE_SWITCHES, g, c, 0⟩ → t.reg q = s.reg q)))
/-! ### Frames, contexts and blocks -/

namespace Sys2Proof.Claims

/-- The tick of frame m at time t has occurred (R33, R35, R41). -/
def Ticked (s u : State) (m t : Nat) : Prop :=
  u.clk.frame = m ∧ u.clk.tickTime = t ∧ u.clk.now = Max.max s.clk.now t ∧ u.clk.start = none ∧
  u.clk.running = !s.clk.stopping ∧ u.clk.stopping = false ∧ u.clk.skip = false

/-- The owner code of a ridge in frame m by the schedule tables (R24): 0 to 3 a context, any other code idle, 7. -/
def scheduled (s : State) (m r : Nat) : Nat :=
  let i := (((m : Int) - s.f F.FRM_SCHED_EPOCH_EPOCH) % (s.f F.FRM_SCHED_LEN_LEN_M1 + 1 : Nat)).toNat
  let w := s.reg ⟨if r < 16 then .FRM_SCHED_A else .FRM_SCHED_B, i, 0, 0⟩
  let code := w.toNat / 2 ^ (4 * (r % 16)) % 8
  if code < 4 then code else 7

/-- Block n of context c on core g can fire (R67): it is armed, no firing of it waits or executes, some requirement is used, and
every used one is met, of T28 by the ticks since its mark. -/
def CanFire (s : State) (g c n : Nat) : Prop :=
  let x := s.ctx g c
  let b := x.blk n
  n < x.blocks.length ∧ b.armed = true ∧ n ∉ x.ready ∧
  (∀ k, k < 8 → (s.strand g c k).exec = true → (s.strand g c k).block ≠ n) ∧ (∃ j, j < 4 ∧ b.thr j ≠ 0) ∧
  ∀ j, j < 4 → b.thr j ≠ 0 → if b.ctr j = 28 then b.thr j ≤ x.ticks - b.mark else b.thr j ≤ s.f F.CORE_TOKEN_COUNT g c (b.ctr j)

/-- The block that goes next (R70): the oldest ready DEFER = 0 block, otherwise the oldest ready block while fewer than MAX
strands execute DEFER = 1 blocks. -/
def NextBlock (s : State) (g c n : Nat) : Prop :=
  let x := s.ctx g c
  x.ready.find? (fun m => !(x.blk m).defer) = some n ∨
  (x.ready.find? (fun m => !(x.blk m).defer) = none ∧ x.ready.head? = some n ∧
    (List.range 8).countP (fun k => (s.strand g c k).exec && (x.blk (s.strand g c k).block).defer) <
      s.f F.CORE_DEFER_MAX_MAX g c)

/-- Context c is empty on every core, but for a load in progress, and no other context has changed its phase, blocks or
frames. -/
def Emptied (s t : State) (c : Nat) : Prop :=
  (∀ g, t.ctx g c = { load := (s.ctx g c).load }) ∧ (∀ g d, d ≠ c → t.ctx g d = s.ctx g d) ∧
  ∀ g k, s.occupied g c = true → k < 8 → t.strand g c k = {}

end Sys2Proof.Claims

/-- R33, R35, R36, R39, R40, R41, R24: a tick begins the next frame one period on, or the first frame at its scheduled time;
the ridges take their owners from the schedule, here where no transaction commits. Past 2^64 - 1 the model stops. RUN
schedules the first tick at the start time or the next multiple of the period after it, or cancels a stop; clearing RUN
withdraws a start, or stops the ticks after the next. What it rests on beside the rules: log entries 13, 15 and 16. -/
def Obligations.TicksStartRunAndStop : Prop :=
  ∀ s : State, s.pwr.off = false →
    (s.clk.running = true → 2 ^ 64 - 1 ≤ s.clk.frame → exec .frmTick s = .fault .frameCounterWrap) ∧
    (s.clk.running = true → s.clk.frame + 1 < 2 ^ 64 → ∃ t, exec .frmTick s = .next t ∧
      Ticked s t (s.clk.frame + 1) (s.clk.tickTime + s.f F.FRM_PERIOD_PERIOD) ∧
      ((∀ o, o < 3 → s.f F.TXN_STATUS_STATE o ≠ 2) → ∀ g, g < 256 → t.ownerOf g = scheduled s (s.clk.frame + 1) (g / 8))) ∧
    (∀ at' m missed, s.clk.start = some (at', m, missed) → m < 2 ^ 64 → ∃ t, exec .firstTick s = .next t ∧
      Ticked s t m at' ∧ (missed = true → t.fb F.FRM_EVENT_START_MISSED = true)) ∧
    (s.fb F.FRM_CTRL_RUN = false → s.clk.running = true →
      exec .frmCtrlRunSet s = .next { s.setF F.FRM_CTRL_RUN 1 with clk := { s.clk with stopping := false } }) ∧
    (s.fb F.FRM_CTRL_RUN = false → s.clk.running = false → (∀ o, o < 3 → s.f F.TXN_STATUS_STATE o ≠ 2) →
      let t0 := s.f F.FRM_START_TIME_TIME
      let m := s.f F.FRM_START_FRAME_FRAME
      let p := s.f F.FRM_PERIOD_PERIOD
      let n := (s.clk.now - t0 + p - 1) / p
      (s.clk.now = t0 → m < 2 ^ 64 → ∃ t, exec .frmCtrlRunSet s = .next t ∧ Ticked s t m t0) ∧
      (s.clk.now < t0 → exec .frmCtrlRunSet s =
        .next { s.setF F.FRM_CTRL_RUN 1 with clk := { s.clk with start := some (t0, m, false), skip := true } }) ∧
      (t0 < s.clk.now → t0 + n * p ≠ s.clk.now → exec .frmCtrlRunSet s = .next
        { s.setF F.FRM_CTRL_RUN 1 with clk := { s.clk with start := some (t0 + n * p, m + n, true), skip := true } })) ∧
    (s.fb F.FRM_CTRL_RUN = true → exec .frmCtrlRunClear s =
      .next { s.setF F.FRM_CTRL_RUN 0 with clk := { s.clk with start := none, stopping := s.clk.running } })

/-- R42 to R45: the receiver acquires where SYNC_EN is set; a lock with RUN 0 loads the time base once; a message reports its
offset, which is held to the limits but while the receiver acquires a time that it has still to load; the loss of lock is
holdover, whose offset is held to them too.
What it rests on beside the rules: log entries 8 and 14. -/
def Obligations.TheTimeBaseFollowsTheGrandmaster : Prop :=
  ∀ s : State,
    let st := s.f F.FRM_SYNC_STATUS_STATE
    let en := s.fb F.FRM_CTRL_SYNC_EN
    let limits (t : State) (ns : Nat) : Prop :=
      (s.f F.FRM_SYNC_LIMIT_LIMIT < ns → t.fb F.FRM_EVENT_SYNC_TOL = true) ∧
      (10000 < ns → t.fb F.FRM_EVENT_SYNC_FAULT = true ∧ t.f F.FRM_SYNC_STATUS_STATE = 4) ∧
      (ns ≤ 10000 → t.f F.FRM_SYNC_STATUS_STATE = st)
    (∀ on, ∃ t, exec (.syncEn on) s = .next t ∧ t = { s with regs := t.regs } ∧ t.fb F.FRM_CTRL_SYNC_EN = on ∧
      t.fb F.FRM_CTRL_RUN = s.fb F.FRM_CTRL_RUN ∧ (en = on → t = s) ∧
      (en ≠ on → t.f F.FRM_SYNC_STATUS_STATE = if on = true then 1 else 0)) ∧
    (∀ port (time : Word) utc, en = true → port = s.f F.NET_PTP_CFG_RX_LINK / 4 → st = 1 →
      ∃ t, exec (.ptpLock port time utc) s = .next t ∧ t.f F.FRM_SYNC_STATUS_STATE = 2 ∧
        t.f F.FRM_SYNC_STATUS_PORT = port % 16 ∧ t.mem = s.mem ∧
        (s.fb F.FRM_CTRL_RUN = false → s.clk.running = false →
          t.clk = { s.clk with now := time.toNat } ∧ t.f F.FRM_SYNC_STATUS_OFFSET = 0) ∧
        (s.fb F.FRM_CTRL_RUN = true ∨ s.clk.running = true → t.clk = s.clk)) ∧
    (∀ port (offset : BitVec 32), en = true → port = s.f F.NET_PTP_CFG_RX_LINK / 4 →
      ∃ t, exec (.ptpEventMessage port offset) s = .next t ∧ t.clk = s.clk ∧ t.mem = s.mem ∧
        t.f F.FRM_SYNC_STATUS_OFFSET = offset.toNat ∧ t.f F.FRM_SYNC_STATUS_PORT = port % 16 ∧
        (st ≠ 1 ∨ s.fb F.FRM_CTRL_RUN = true ∨ s.clk.running = true → limits t offset.toInt.natAbs) ∧
        (st = 1 → s.fb F.FRM_CTRL_RUN = false → s.clk.running = false → t.f F.FRM_SYNC_STATUS_STATE = 1)) ∧
    (∃ t, exec .holdover s = .next t ∧ (st ≠ 2 → t = s) ∧
      (st = 2 → t.f F.FRM_SYNC_STATUS_STATE = 3 ∧ t.fb F.FRM_EVENT_HOLDOVER = true ∧ t.clk = s.clk ∧ t.mem = s.mem)) ∧
    (∀ ns, ∃ t, exec (.holdoverOffsetLimit ns) s = .next t ∧ t.clk = s.clk ∧ t.mem = s.mem ∧ (st ≠ 3 → t = s) ∧
      (st = 3 → limits t ns))

/-- R37, R49 to R53, R60, R418: at a tick, and then alone, the watchdog halts a context whose oldest open frame has reached its
limit and names core and frame; FRM_OVR_MAX_CLEAR clears the maximum; a stall is recorded while its event bit is 0 and counted
as missed otherwise. As time passes with no command waiting, the stall watch of a context without work in every class stands at
0, and that of one which is halted or does not own the core does not run. RESUME is
due at the next tick, DISCARD empties the context at once; both act on a halted context alone. What it rests on beside the
rules: log entries 8, 9, 11, 20 and 81. -/
def Obligations.WatchdogStallAndHaltControl : Prop :=
  ∀ (s : State) (c : Nat), c < 4 →
    (s.atTick = false → exec (.frameWatchdogFire c) s = .next s) ∧
    (∀ g x rest, s.atTick = true → s.clk.skip = false → s.halted c = false → s.f F.FRM_WDOG_W c ≠ 0 →
      s.coreOk g = true → (s.ctx g c).frames = x :: rest → s.f F.FRM_WDOG_W c ≤ x.age →
      (∀ h, h ≠ g → (s.ctx h c).frames = []) →
      ∃ t, exec (.frameWatchdogFire c) s = .next t ∧ t.fb F.FRM_WDOG_HALT_HALTED c = true ∧
        t.f F.FRM_WDOG_HALT_CORE c = g ∧ t.f F.FRM_WDOG_FRAME_FRAME c = x.frame % 2 ^ 64 ∧
        bitN (t.f F.FRM_EVENT_WDOG) c = true ∧ t.mem = s.mem ∧ t.ctxs = s.ctxs ∧ ∀ h, t.running h c = false) ∧
    ((∀ g x rest, (s.ctx g c).frames = x :: rest → x.age < s.f F.FRM_WDOG_W c) →
      exec (.frameWatchdogFire c) s = .next s) ∧
    (∃ t, exec (.frmOvrMaxClear c true) s = .next t ∧ t = s.setF F.FRM_OVR_MAX_TIME 0 c) ∧
    (∀ g, s.pending = [] → s.pwr.off = false → s.clk.start = none → (s.clk.running = true → s.clk.now + 1 < s.nextTick) →
      (g, c) ∈ SMap.keys s.ctxs → ∃ t, step s = .next t ∧ t.clk.now = s.clk.now + 1 ∧
        let watch (u : State) : Nat := SMap.get 0 u.watch (g, c)
        ((s.queuesBusy g c).all id = false → watch t = 0) ∧
        ((s.queuesBusy g c).all id = true → s.running g c = false ∨ s.owns g c = false → watch t = watch s)) ∧
    (∀ g, ∃ t, exec (.stallSnapshot g c) s = .next t ∧ t.mem = s.mem ∧
      let stall := s.f F.FRM_STALL_THRESH_THRESH c ≠ 0 ∧ s.running g c = true ∧ s.owns g c = true ∧ (g, c) ∉ s.stalled ∧
        (s.queuesBusy g c).all id = true ∧ s.f F.FRM_STALL_THRESH_THRESH c < s.watchTime g c
      (¬stall → t = s) ∧
      (stall → (g, c) ∈ t.stalled ∧
        (bitN (s.f F.FRM_EVENT_STALL) c = true →
          t.f F.FRM_STALL_MISSED_COUNT c = (s.f F.FRM_STALL_MISSED_COUNT c + 1) % 2 ^ F.FRM_STALL_MISSED_COUNT.len ∧
          t.reg ⟨.FRM_STALL_SNAP0, c, 0, 0⟩ = s.reg ⟨.FRM_STALL_SNAP0, c, 0, 0⟩) ∧
        (bitN (s.f F.FRM_EVENT_STALL) c = false → bitN (t.f F.FRM_EVENT_STALL) c = true ∧
          t.f F.FRM_STALL_SNAP0_CORE c = g % 256 ∧ t.f F.FRM_STALL_SNAP0_QUEUES c = 127 ∧
          t.f F.FRM_STALL_SNAP0_DURATION c = s.watchTime g c % 2 ^ 32 ∧
          t.f F.FRM_STALL_SNAP1_FRAME c = s.clk.frame % 2 ^ 64))) ∧
    (∃ t, exec (.frmCtxResume c) s = .next t ∧ (s.fb F.FRM_WDOG_HALT_HALTED c = false → t = s) ∧
      (s.fb F.FRM_WDOG_HALT_HALTED c = true → t = s.setMod c { s.mod c with resumeW := true })) ∧
    (∃ t, exec (.coreCtxResume c) s = .next t ∧
      (s.fb F.CORE_CTX_HALT_HALTED c = false ∨ s.f F.ERR_FATAL_CODE ≠ 0 → t = s) ∧
      (s.fb F.CORE_CTX_HALT_HALTED c = true → s.f F.ERR_FATAL_CODE = 0 →
        t = s.setMod c { s.mod c with resumeF := true })) ∧
    (∃ t, exec (.frmCtxDiscard c) s = .next t ∧ (s.fb F.FRM_WDOG_HALT_HALTED c = false → t = s) ∧
      (s.fb F.FRM_WDOG_HALT_HALTED c = true → Emptied s t c ∧ t.fb F.FRM_WDOG_HALT_HALTED c = false)) ∧
    (∃ t, exec (.coreCtxDiscard c) s = .next t ∧ (s.fb F.CORE_CTX_HALT_HALTED c = false → t = s) ∧
      (s.fb F.CORE_CTX_HALT_HALTED c = true → Emptied s t c ∧
        (s.f F.ERR_FATAL_CODE = 0 → t.fb F.CORE_CTX_HALT_HALTED c = false) ∧
        (s.f F.ERR_FATAL_CODE ≠ 0 → t.fb F.CORE_CTX_HALT_HALTED c = true)))

/-- R67, R68, R69, R62, R70, R26, R28, R88: the firing unit fires the lowest-numbered block that can fire: its thresholds leave
their counters, here of distinct counters, its mark is the tick count, ONESHOT disarms it, and it joins the ready queue. On a
core that its context owns and no other context, but one whose halt has reached the core, still uses, the next ready block starts on the lowest free strand, with its
argument, the frame, its number and its earlier firings in s1 to s4 and 0 in the registers above. What it rests on beside the
rules: log entries 8, 18 and 71. -/
def Obligations.BlocksFireAndAreDispatched : Prop :=
  (∀ (s : State) (g c : Nat), ∃ t, exec (.blockFire g c) s = .next t ∧ t.mem = s.mem ∧
     (s.running g c = false ∨ (∀ n, ¬CanFire s g c n) → t = s) ∧
     ∀ n, s.running g c = true → CanFire s g c n → (∀ m, m < n → ¬CanFire s g c m) →
       let x := s.ctx g c
       let b := x.blk n
       (∀ i j, i < 4 → j < 4 → i ≠ j → b.thr i ≠ 0 → b.thr j ≠ 0 → b.ctr i ≠ b.ctr j) →
       t.ctx g c = { x with blocks := (t.ctx g c).blocks, ready := x.ready ++ [n] } ∧
       (∀ m, (t.ctx g c).blk m = if m = n then { b with
         mark := x.ticks, armed := b.armed && !b.oneshot, fires := (b.fires + 1) % 2 ^ 64, since := s.clk.now } else x.blk m) ∧
       (∀ j, j < 4 → b.thr j ≠ 0 → b.ctr j ≠ 28 →
         t.f F.CORE_TOKEN_COUNT g c (b.ctr j) + b.thr j = s.f F.CORE_TOKEN_COUNT g c (b.ctr j)) ∧
       (∀ k, (∀ j, j < 4 → b.thr j = 0 ∨ b.ctr j ≠ k ∨ k = 28) →
         t.f F.CORE_TOKEN_COUNT g c k = s.f F.CORE_TOKEN_COUNT g c k) ∧
       t.f F.CORE_FIRES_COUNT g c = (s.f F.CORE_FIRES_COUNT g c + 1) % 2 ^ 64) ∧
  (∀ (s : State) (g c n k : Nat), s.running g c = true → s.owns g c = true →
     (∀ d j, d < 4 → d ≠ c → j < 8 → s.haltedOn g d = false → (s.strand g d j).exec = false) →
     NextBlock s g c n → k < 8 → (s.strand g c k).exec = false → (∀ j, j < k → (s.strand g c j).exec = true) →
     ∃ t, exec (.blockDispatch g c) s = .next t ∧ t.mem = s.mem ∧ t.regs = s.regs ∧
       let x := s.ctx g c
       let u := t.strand g c k
       t.ctx g c = { x with ready := x.ready.erase n } ∧
       u.exec = true ∧ u.block = n ∧ u.pc = 0 ∧ u.pend = [] ∧ u.ended = false ∧ u.held = false ∧ u.vcfg = 0x0000000703000100#64 ∧
       u.rd 1 = (x.blk n).w2 ∧ u.rd 2 = BitVec.ofNat 64 s.clk.frame ∧ u.rd 3 = BitVec.ofNat 64 n ∧
       u.rd 4 = BitVec.ofInt 64 ((x.blk n).fires - 1) ∧ (∀ r, 4 < r → u.rd r = 0) ∧
       ∀ g' c' k', (g', c', k') ≠ (g, c, k) → t.strand g' c' k' = s.strand g' c' k')

/-- R92, R93, R94, Table ISA-18: GO begins a load, unless one is in progress; a bad image ends it with its error and leaves
the context as it was, a good one with the code in the instruction store, the blocks, cleared counters and free strands.
UNLOAD empties a context that is loaded or halted, while no load of it is in progress. What it rests on beside the rules: log entries 8 and 19. -/
def Obligations.ImagesLoadAndUnload : Prop :=
  (∀ (s : State) (g c : Nat), ∃ t, exec (.loadGo g c) s = .next t ∧ t.mem = s.mem ∧
    (s.f F.CORE_LOAD_STATUS_STATE g c = 1 → t = s) ∧
    (s.f F.CORE_LOAD_STATUS_STATE g c ≠ 1 → t.f F.CORE_LOAD_STATUS_STATE g c = 1 ∧
      t.ctx g c = { s.ctx g c with load := some (s.f F.CORE_LOAD_ADDR_ADDR g c / 64 * 64) })) ∧
  (∀ (s : State) (g c addr : Nat), g < 256 → (s.ctx g c).load = some addr →
    ∃ t, exec (.loadDone g c .ok) s = .next t ∧
      let m := s.image addr
      let refused (e : Nat) : Prop := t.f F.CORE_LOAD_STATUS_STATE g c = 3 ∧ t.f F.CORE_LOAD_STATUS_ERROR g c = e ∧
        t.fb F.CORE_EVENT_LOAD_ERR g c = true ∧ t.ctx g c = { s.ctx g c with load := none } ∧ t.mem = s.mem
      (s.poisoned addr m.size = true ∨ 0x12000000000 < addr + m.size → refused 8) ∧
      (s.poisoned addr m.size = false → addr + m.size ≤ 0x12000000000 →
        m.magic ≠ 0x4D494D4B ∨ m.version ≠ 1 → refused 1) ∧
      (s.loadError g c addr .ok = 0 →
        let base := 8192 * s.f F.CORE_CTX_ISTORE_BASE g c
        t.f F.CORE_LOAD_STATUS_STATE g c = 2 ∧ t.fb F.CORE_EVENT_LOAD_DONE g c = true ∧
        (t.ctx g c).phase = .loaded ∧ (t.ctx g c).codeLen = m.codeLen ∧ (t.ctx g c).blocks.length = m.blocks ∧
        (t.ctx g c).ticks = 0 ∧ (t.ctx g c).ready = [] ∧ (t.ctx g c).frames = [] ∧
        (∀ k, k < 32 → t.f F.CORE_TOKEN_COUNT g c k = 0) ∧ (∀ k, k < 8 → t.strand g c k = {}) ∧
        ∀ i, i < 8 * m.codeLen → base + i < 262144 →
          t.mem.get (istoreKey g (base + i)) = s.mem.get (addr + 0x40 + 32 * m.blocks + i))) ∧
  (∀ (s : State) (g c : Nat), ∃ t, exec (.unload g c) s = .next t ∧
    let may := ((s.ctx g c).phase = .loaded ∨ (s.ctx g c).phase = .running ∧ s.halted c = true) ∧ s.f F.CORE_LOAD_STATUS_STATE g c ≠ 1
    (¬may → t = s) ∧
    (may → t.ctx g c = { load := (s.ctx g c).load } ∧ (∀ k, k < 8 → t.strand g c k = {}) ∧
      ∀ g' c', (g', c') ≠ (g, c) → t.ctx g' c' = s.ctx g' c'))

/-- R94, R96: CORE_BT_INDEX selects an entry and drops the pending words; of a context that is loaded or halted, DATA0 to
DATA2 are pending until DATA3 commits the entry, which keeps its firing count and mark, and a counter but T28 may be set. On
any other context these have no effect. What it rests on beside the rules: log entries 8 and 66. -/
def Obligations.BlockTableAndTokensAreWritten : Prop :=
  ∀ (s : State) (g c : Nat) (v : Word),
    let x := s.ctx g c
    let open_ := s.occupied g c = true ∧ ((s.ctx g c).phase = .loaded ∨ s.halted c = true)
    let word (w : Nat) (old : Word) : Word := ((x.btPend.find? (fun e => decide (e.1 = w))).map (·.2)).getD old
    let n := s.f F.CORE_BT_INDEX_BLOCK g c
    (∃ t, exec (.coreBtIndexWrite g c v) s = .next t ∧ t.f F.CORE_BT_INDEX_BLOCK g c = v.toNat % 512 ∧
      t.ctx g c = { x with btPend := [] } ∧ t.mem = s.mem) ∧
    (∀ w, w < 3 → ∃ t, exec (.coreBtDataStage g c w v) s = .next t ∧ (¬open_ → t = s) ∧
      (open_ → t = s.setCtx g c (t.ctx g c) ∧
        t.ctx g c = { x with btPend := x.btPend.filter (fun e => decide (e.1 ≠ w)) ++ [(w, v)] })) ∧
    (∃ t, exec (.coreBtData3Commit g c v) s = .next t ∧ (¬open_ → t = s) ∧
      (open_ → n < x.blocks.length → t = s.setCtx g c (t.ctx g c) ∧
        t.ctx g c = { x with btPend := [], blocks := (t.ctx g c).blocks } ∧
        (∀ m, m ≠ n → (t.ctx g c).blk m = x.blk m) ∧
        let b := x.blk n
        let b' := (t.ctx g c).blk n
        b'.w0 = word 0 b.w0 ∧ b'.w1 = word 1 b.w1 ∧ b'.w2 = word 2 b.w2 ∧ b'.w3 = v ∧
        b'.armed = decide (b'.w0.toNat / 2 ^ 29 % 2 = 1) ∧ b'.fires = b.fires ∧ b'.mark = b.mark)) ∧
    (∀ k, ∃ t, exec (.coreTokenWrite g c k v) s = .next t ∧ (¬open_ ∨ k = 28 → t = s) ∧
      (open_ → k ≠ 28 → t = s.setF F.CORE_TOKEN_COUNT (v.toNat % 4096) g c k))
/-! ### Page pools, loans and the network -/

namespace Sys2Proof.Claims

/-- The low n bytes of a number, least significant first. -/
def le (n v : Nat) : List Byte := (List.range n).map (fun i => BitVec.ofNat 8 (v / 256 ^ i))

/-- A good packet for this module arrives on a link that is up, from the node its header names (R315, R320). -/
def Arrives (s : State) (p : Packet) : Prop :=
  s.linkUp p.link = true ∧ crcBad p = false ∧ p.dstIp = s.netAddr ∧ badType p = false ∧ s.freshSrc p = true

/-- The next packet of receive flow r arrives: in order, with nothing held (R326). -/
def InOrder (s : State) (p : Packet) (r : RFlow) : Prop :=
  Arrives s p ∧ s.rflow p.srcNode p.flow = some r ∧ r.epoch = p.epoch ∧ r.rx.next = p.psn ∧ p.psn < 2 ^ 32 ∧ r.rx.held = []

/-- A packet of this module has left on a link, or waits for one (R324). -/
def Gone (t : State) (P : Packet → Prop) : Prop := ∃ q, P q ∧ ((∃ l, Out.packet l q ∈ t.out) ∨ (none, q) ∈ t.netWait)

/-- The receive flow has taken one packet, and has acknowledged where that is the sixteenth since it last did (R327). -/
def AppliedOne (t : State) (p : Packet) (r : RFlow) : Prop :=
  ∃ q, t.rflow p.srcNode p.flow = some q ∧ q.rx.next = (p.psn + 1) % 2 ^ 32 ∧ q.rx.held = [] ∧
    q.rx.due = (if 15 ≤ r.rx.due then 0 else r.rx.due + 1) ∧
    (15 ≤ r.rx.due → Gone t (fun a => a.type = 8 ∧ a.dstNode = p.srcNode ∧ a.flow = p.flow ∧
      a.psn = q.rx.mirrored.headD q.rx.next))

/-- A packet is refused with a reason: its PSN counts as applied but for reason 1, and the NAK names it (R327). -/
def Refused (t : State) (p : Packet) (r : RFlow) (reason : Nat) : Prop :=
  let next := if reason = 1 then p.psn else (p.psn + 1) % 2 ^ 32
  (∃ q, t.rflow p.srcNode p.flow = some q ∧ q.rx.next = next ∧ q.rx.held = [] ∧ q.rx.due = 0) ∧
  Gone t (fun a => a.type = 9 ∧ a.dstNode = p.srcNode ∧ a.flow = p.flow ∧ a.epoch = r.epoch ∧
    a.psn = r.rx.mirrored.headD next ∧ a.addr = reason + p.psn * 2 ^ 32)

/-- A control packet of a subtype and its first payload number arrives in order (Table NET-7). -/
def ControlArrives (s : State) (p : Packet) (r : RFlow) (sub : Nat) : Prop :=
  InOrder s p r ∧ p.type = 7 ∧ p.addr % 256 = sub

/-- The first 8 B of a payload as a number. -/
def body (p : Packet) : Nat := ofLE (p.payload.take 8)

/-- A control packet of a subtype and payload has been queued on the control flow to a node: on the open one, or on a new one
of the lowest free index (R322, R331). -/
def QueuedControl (s t : State) (node sub : Nat) (payload : List Byte) : Prop :=
  let key : FlowKey := { cls := .control, node := node }
  let this (k : TxPkt) : Prop := k.pkt.type = 7 ∧ k.pkt.addr = sub ∧ k.pkt.dstNode = node ∧ k.pkt.payload = payload
  (∀ f x, s.flowOf key = some f → s.sflow f = some x → x.key = key →
    ∃ y k, t.sflow f = some y ∧ y.tx.queue = x.tx.queue ++ [k] ∧ this k) ∧
  ∀ f, s.flowOf key = none → f < 8192 → s.sflow f = none → (∀ j, j < f → s.sflow j ≠ none) →
    ∃ y k, t.sflow f = some y ∧ y.key = key ∧ y.tx.queue = [k] ∧ this k

/-- The frame in which packet q of this module leaves on link l (R315, R317). -/
def Framed (s : State) (l : Nat) (q : Packet) : Packet :=
  let h := packetHash q
  { q with
    link := l
    pcrc := packetCrc q
    wire :=
      { dstMac := s.f F.NET_LINK_PEER_MAC l, srcMac := s.f F.NET_MAC_BASE_MAC + l,
        vlan := if s.fb F.NET_QOS_VLAN_EN = true then some (s.f F.NET_QOS_VLAN, s.f F.NET_QOS_PCP) else none,
        tclass := 4 * (if q.type = 7 then s.f F.NET_QOS_CTRL_DSCP else s.f F.NET_QOS_DSCP) + 2,
        label := h % 2 ^ 20, srcPort := 0xC000 + h % 2 ^ 14, dstPort := s.f F.NET_UDP_PORT } }

end Sys2Proof.Claims

/-- R245, R246, R248: an add on a count word changes it, counts the page as pending where it falls to 0, and leaves it with
an error of kind 1, 2 or 3 where it would be wrong; an allocation takes the page at the ring's head and counts it once, or
answers that there is none; a segment that becomes valid has every count 0, its ring filled in ascending order and all pages
free, and READY once that is done. What it rests on beside the rules: log entries 8 and 67. -/
def Obligations.PagesAreCountedAndAllocated : Prop :=
  (∀ (s : State) (g p i n : Nat) (delta : Word), s.segOk p i = true → n < s.segPages p i →
    ∃ t, exec (.countWordAtomic g p i n delta) s = .next t ∧
      let key := s.f F.KV_SEG_CNT_ADDR p i + 8 * n
      let c := leNat s key 8
      let z : Int := (c : Int) + delta.toInt
      let kind := if c = 0 ∧ delta ≠ 0 then 1 else if z < 0 then 2 else if 2 ^ 32 - 1 < z then 3 else 0
      (kind ≠ 0 → t.mem = s.mem ∧ t.segs = s.segs ∧ t.fb F.KV_EVENT_CNT_ERR = true ∧
        t.f F.KV_CNT_ERRS_COUNT = (s.f F.KV_CNT_ERRS_COUNT + 1) % 2 ^ 64 ∧
        t.reg ⟨.KV_CNT_ERR, 0, 0, 0⟩ = BitVec.ofNat 64 (i * 2 ^ 29 + n + p * 2 ^ 32 + g * 2 ^ 40 + kind * 2 ^ 48)) ∧
      (kind = 0 → Stores s t key (le 8 z.toNat) ∧
        (z ≠ 0 ∨ c = 0 → t.segs = s.segs ∧ t.regs = s.regs) ∧
        (z = 0 → c ≠ 0 → t.seg p i = { s.seg p i with pend := (s.seg p i).pend ++ [n] } ∧
          t.f F.KV_SEG_STATUS_PENDING p i = (s.f F.KV_SEG_STATUS_PENDING p i + 1) % 2 ^ 29))) ∧
  (∀ (s : State) (p i : Nat), s.poolOn p = true → ∃ t, exec (.allocationWordAtomic p i) s = .next t ∧
    let free := s.f F.KV_SEG_STATUS_FREE p i
    let can := s.segOk p i = true ∧ s.fb F.KV_SEG_STATUS_READY p i = true ∧ free ≠ 0
    let page := leNat s (s.f F.KV_SEG_RING_ADDR p i + 4 * (s.seg p i).head) 4
    let count := s.f F.KV_SEG_CNT_ADDR p i + 8 * (page % 2 ^ 29)
    let word := s.f F.KV_POOL_CB_ADDR p + 8 * i
    (¬can → t.mem = s.mem ∧ t.segs = s.segs ∧ t.f F.KV_SEG_STATUS_FREE p i = free ∧
      t.f F.KV_POOL_FAILS_COUNT p = (s.f F.KV_POOL_FAILS_COUNT p + 1) % 2 ^ 64) ∧
    (can → t.f F.KV_SEG_STATUS_FREE p i = free - 1 ∧ (t.seg p i).head = ((s.seg p i).head + 1) % s.segPages p i ∧
      t.f F.KV_POOL_ALLOCS_COUNT p = (s.f F.KV_POOL_ALLOCS_COUNT p + 1) % 2 ^ 64 ∧ leNat t word 8 = free - 1 ∧
      (count + 8 ≤ word ∨ word + 8 ≤ count → leNat t count 8 = 1) ∧
      ∀ a, (a < count ∨ count + 8 ≤ a) → (a < word ∨ word + 8 ≤ a) → t.mem.get a = s.mem.get a)) ∧
  (∀ (s : State) (p i : Nat), ∃ t, exec (.segmentReady p i) s = .next t ∧
    (s.segOk p i = false ∨ (s.seg p i).init = false → t = s) ∧
    (s.segOk p i = true → (s.seg p i).init = true → t.fb F.KV_SEG_STATUS_READY p i = true ∧ (t.seg p i).init = false ∧
      t.mem = s.mem ∧ t.f F.KV_SEG_STATUS_FREE p i = s.f F.KV_SEG_STATUS_FREE p i)) ∧
  ∀ (s : State) (p i : Nat),
    let t := s.segStart p i
    let n := s.segPages p i
    let cnt := s.f F.KV_SEG_CNT_ADDR p i
    let ring := s.f F.KV_SEG_RING_ADDR p i
    let word := s.f F.KV_POOL_CB_ADDR p + 8 * i
    t.f F.KV_SEG_STATUS_FREE p i = n ∧ t.f F.KV_SEG_STATUS_PENDING p i = 0 ∧ t.fb F.KV_SEG_STATUS_READY p i = false ∧
    (t.seg p i).init = true ∧ (s.poolOn p = true → leNat t word 8 = n) ∧
    (s.poolOn p = false ∨ ring + 4 * n ≤ word ∨ word + 8 ≤ ring →
      ∀ j, j < n → leNat t (ring + 4 * j) 4 = (i * 2 ^ 29 + j) % 2 ^ 32) ∧
    ((s.poolOn p = false ∨ cnt + 8 * n ≤ word ∨ word + 8 ≤ cnt) → (cnt + 8 * n ≤ ring ∨ ring + 4 * n ≤ cnt) →
      ∀ j, j < n → leNat t (cnt + 8 * j) 8 = 0) ∧
    ∀ a, (a < cnt ∨ cnt + 8 * n ≤ a) → (a < ring ∨ ring + 4 * n ≤ a) →
      (s.poolOn p = false ∨ a < word ∨ word + 8 ≤ a) → t.mem.get a = s.mem.get a

/-- R326, R201, R323, R327, R262: the next packet of a flow takes effect: WRITE stores its payload in HBM lent to its node,
and is refused where it is not lent or protected; READ_REQ and an adding ATOMIC_REQ answer with the bytes, the old value or
a status; MSG enters its receive queue, or is refused while that is full; a packet beyond the next one is held and tells the
gap. What it rests on beside the rules: log entry 62. -/
def Obligations.RequestsTakeEffect : Prop :=
  ∀ (s : State) (p : Packet) (r : RFlow),
    let n := p.payload.length
    let len := p.aux % 65536
    let hbm := p.addr < 0x12000000000
    let answers (t : State) (type status aux : Nat) (data : List Byte) (poison : Bool) : Prop :=
      AppliedOne t p r ∧ ∃ q k, t.rflow p.srcNode p.flow = some q ∧ (q.tx.unacked ++ q.tx.queue).getLast? = some k ∧
        (r.tx.queue = [] → r.tx.maySend false = true → s.paused = [] → q.tx.queue = [] ∧ k.pkt.psn = r.tx.next) ∧
        k.pkt.type = type ∧ k.pkt.tag = p.tag ∧ k.pkt.dstNode = p.srcNode ∧ k.pkt.addr = status ∧ k.pkt.aux = aux ∧
        k.pkt.payload = data ∧ k.pkt.poison = poison
    (InOrder s p r →
      (p.type = 0 → hbm → ∃ t, exec (.write p) s = .next t ∧
        (s.lentTo p.srcNode p.addr n = true → s.kvProtected p.addr n = false → Stores s t p.addr p.payload ∧ AppliedOne t p r) ∧
        (s.lentTo p.srcNode p.addr n = true → s.kvProtected p.addr n = true → t.mem = s.mem ∧ Refused t p r 6) ∧
        (s.lentTo p.srcNode p.addr n = false → t.mem = s.mem ∧ Refused t p r 4 ∧
          t.f F.PLC_LEND_REFUSED_COUNT = (s.f F.PLC_LEND_REFUSED_COUNT + 1) % 2 ^ 64)) ∧
      (p.type = 1 → ∃ t, exec (.readReq p) s = .next t ∧ t.mem = s.mem ∧
        (len = 0 ∨ s.payloadMax < len → answers t 2 5 0 [] false) ∧
        (hbm → 0 < len → len ≤ s.payloadMax → s.lentTo p.srcNode p.addr len = false → answers t 2 4 0 [] false) ∧
        (hbm → 0 < len → len ≤ s.payloadMax → s.lentTo p.srcNode p.addr len = true →
          answers t 2 0 0 (bytesAt s p.addr len) (s.poisoned p.addr len))) ∧
      (p.type = 3 → hbm → ∃ t, exec (.atomicReq p) s = .next t ∧
        (s.lentTo p.srcNode p.addr 8 = false → t.mem = s.mem ∧ answers t 4 4 0 [] false) ∧
        (p.swap = none → s.lentTo p.srcNode p.addr 8 = true → s.mirrored p.addr 8 = true →
          t.mem = s.mem ∧ answers t 4 6 0 [] false) ∧
        (p.swap = none → s.lentTo p.srcNode p.addr 8 = true → s.mirrored p.addr 8 = false → s.poisoned p.addr 8 = false →
          s.countWordAt p.addr = none → s.allocWordAt p.addr = none →
            Stores s t p.addr (le 8 (leNat s p.addr 8 + p.aux)) ∧ answers t 4 0 (leNat s p.addr 8) [] false)) ∧
      (p.type = 5 → n ≤ 64 → QueueOpen s p.dstCore p.ctx (p.addr % 8) →
        ∃ t, exec (.messageArrival (.net p)) s = .next t ∧
          (QueueRoom s p.dstCore p.ctx (p.addr % 8) → AppliedOne t p r ∧
            Accepted s t p.dstCore p.ctx (p.addr % 8) (p.srcNode * 2 ^ 44 + p.srcCore) p.payload) ∧
          (¬QueueRoom s p.dstCore p.ctx (p.addr % 8) → t.mem = s.mem ∧ Refused t p r 1))) ∧
    (∀ d, Arrives s p → s.rflow p.srcNode p.flow = some r → r.epoch = p.epoch → r.rx.held = [] → 1 ≤ d → d ≤ 64 →
      r.rx.next < 2 ^ 32 → p.psn = (r.rx.next + d) % 2 ^ 32 → s.reorder (p.link / 32) + 48 + n ≤ 4 * 2 ^ 20 → p.type = 0 →
      ∃ t, exec (.write p) s = .next t ∧ t.mem = s.mem ∧
        (∃ q, t.rflow p.srcNode p.flow = some q ∧ q.rx.next = r.rx.next ∧ q.rx.held = [p]) ∧
        Gone t (fun a => a.type = 8 ∧ a.dstNode = p.srcNode ∧ a.flow = p.flow ∧ a.psn = r.rx.mirrored.headD r.rx.next ∧
          (r.rx.mirrored = [] → a.aux = 2 ^ (d - 1) % 2 ^ 64)))

/-- R200, R274, R275, R329, R331, R332: what each control packet does. An arrival counts at the home for its round; a release
releases the cores of a counter of that home whose round it is; a query of a released round is answered; a grant, a notice
and a release change their loan; FLOW_CLOSE ends the flow that it names; TRV_CREDIT returns credit. What it rests on beside
the rules: log entries 56, 61 and 62. -/
def Obligations.ControlPacketsTakeEffect : Prop :=
  ∀ (s : State) (p : Packet) (r : RFlow),
    let k := body p % 1024
    let round := body p / 2 ^ 16 % 65536
    let flag := decide (body p / 2 ^ 32 % 2 = 1)
    let base := body p % 2 ^ 44
    let size := ofLE ((p.payload.drop 8).take 8) % 2 ^ 44
    let stop := ofLE ((p.payload.drop 16).take 8)
    let granted (i : Nat) : Prop := ∃ e, e ∈ s.granted ∧ e.1 = i
    (ControlArrives s p r 1 → ∃ t, exec (.colArrival p) s = .next t ∧ t.mem = s.mem ∧ AppliedOne t p r ∧
      (s.fb F.COL_CTR_CFG_HOME k = true → round = s.f F.COL_CTR_STATE_ROUND k →
        t.f F.COL_CTR_ARR_A0 k = (s.f F.COL_CTR_ARR_A0 k + 1) % 2 ^ 20 ∧
        t.fb F.COL_CTR_ARR_AF0 k = (s.fb F.COL_CTR_ARR_AF0 k || flag) ∧ t.f F.COL_CTR_ARR_A1 k = s.f F.COL_CTR_ARR_A1 k) ∧
      (s.fb F.COL_CTR_CFG_HOME k = true → round = (s.f F.COL_CTR_STATE_ROUND k + 1) % 65536 →
        t.f F.COL_CTR_ARR_A1 k = (s.f F.COL_CTR_ARR_A1 k + 1) % 2 ^ 20 ∧ t.f F.COL_CTR_ARR_A0 k = s.f F.COL_CTR_ARR_A0 k) ∧
      (s.fb F.COL_CTR_CFG_HOME k = false → t.fb F.COL_EVENT_PROTO = true ∧ t.f F.COL_PROTO_KIND = 1 ∧
        t.f F.COL_PROTO_PHYS = k ∧ t.f F.COL_CTR_ARR_A0 k = s.f F.COL_CTR_ARR_A0 k)) ∧
    (∀ m, ControlArrives s p r 2 → s.releaseCtrs p.srcNode k = [m] → s.fb F.COL_CTR_CFG_XMOD m = true →
      ∃ t, exec (.colRelease p) s = .next t ∧ t.mem = s.mem ∧ AppliedOne t p r ∧
      (∀ c id, round = s.f F.COL_CTR_STATE_ROUND m → s.f F.COL_CTR_STATE_C1 m < s.f F.COL_CTR_CFG_COUNT m →
        s.colName m = some (c, id) → t.f F.COL_CTR_STATE_ROUND m = (round + 1) % 65536 ∧
        t.colRels = s.colRels ++ (s.coreList.filter (colScope m)).map (fun g =>
          { g := g, phys := m, c := c, id := id, tag := round % 4, flag := flag })) ∧
      (round ≠ s.f F.COL_CTR_STATE_ROUND m → t.fb F.COL_EVENT_PROTO = true ∧ t.f F.COL_PROTO_KIND = 2 ∧ t.colRels = s.colRels)) ∧
    (ControlArrives s p r 3 → ∃ t, exec (.colQuery p) s = .next t ∧ t.mem = s.mem ∧ AppliedOne t p r ∧
      let past := (s.f F.COL_CTR_STATE_ROUND k + 65536 - round) % 65536
      let hist := (SMap.get [] s.colHist k).find? (fun e => e.1 = round)
      (past = 0 ∨ 2 ^ 15 ≤ past ∨ hist = none → t.sflows = s.sflows) ∧
      ∀ f, 0 < past → past < 2 ^ 15 → hist = some (round, f) →
        QueuedControl s t p.srcNode 2 (le 8 (k + round * 2 ^ 16 + (if f = true then 2 ^ 32 else 0)))) ∧
    (ControlArrives s p r 4 → ∃ t, exec (.loanGrant p) s = .next t ∧ t.mem = s.mem ∧ AppliedOne t p r ∧
      let waits (i : Nat) : Prop := s.f F.PLC_BOR_CTL_STATE i = 1 ∧ ¬granted i ∧ s.f F.PLC_BOR_CTL_LENDER i = p.srcNode ∧
        s.f F.PLC_BOR_BASE_REMOTE_BASE i = base ∧ s.f F.PLC_BOR_SIZE_SIZE i = size
      (∀ i, i < 64 → waits i → (∀ j, j < i → ¬waits j) → t.granted = s.granted ++ [(i, none)]) ∧
      ((∀ i, i < 64 → ¬waits i) → t.granted = s.granted ∧ t.fb F.PLC_EVENT_LOAN_MISMATCH = true)) ∧
    (∀ i, ControlArrives s p r 5 → i < 64 →
      let holds (i : Nat) : Prop := (s.f F.PLC_BOR_CTL_STATE i = 2 ∨ granted i) ∧ s.f F.PLC_BOR_CTL_LENDER i = p.srcNode ∧
        s.f F.PLC_BOR_BASE_REMOTE_BASE i = base ∧ s.f F.PLC_BOR_SIZE_SIZE i = size
      holds i → (∀ j, j < i → ¬holds j) → ∃ t, exec (.loanNotice p) s = .next t ∧ t.mem = s.mem ∧ AppliedOne t p r ∧
        (s.f F.PLC_BOR_CTL_STATE i = 2 → t.f F.PLC_BOR_CTL_STATE i = 3 ∧ t.f F.PLC_BOR_END_END_FRAME i = stop % 2 ^ 64 ∧
          t.fb F.PLC_EVENT_LOAN_NOTICE = true ∧ t.granted = s.granted) ∧
        (s.f F.PLC_BOR_CTL_STATE i ≠ 2 → t.f F.PLC_BOR_CTL_STATE i = s.f F.PLC_BOR_CTL_STATE i ∧
          t.granted = s.granted.map (fun e => if e.1 = i then (i, some stop) else e))) ∧
    (∀ i, ControlArrives s p r 6 → i < 64 →
      let lent (i : Nat) : Prop := 2 ≤ s.f F.PLC_LEND_CTL_STATE i ∧ s.f F.PLC_LEND_CTL_BORROWER i = p.srcNode ∧
        s.f F.PLC_LEND_BASE_LOCAL_BASE i = base ∧ s.f F.PLC_LEND_SIZE_SIZE i = size
      let next := (s.clk.frame + 1) % 2 ^ 64
      lent i → (∀ j, j < i → ¬lent j) → s.clk.frame + 1 < 2 ^ 64 →
        ∃ t, exec (.loanRelease p) s = .next t ∧ t.mem = s.mem ∧ AppliedOne t p r ∧ t.lendRel = s.lendRel ++ [i] ∧
          t.f F.PLC_LEND_END_END_FRAME i =
            if s.f F.PLC_LEND_CTL_STATE i = 3 then Min.min next (s.f F.PLC_LEND_END_END_FRAME i) else next) ∧
    (ControlArrives s p r 7 → ∃ t, exec (.flowClose p) s = .next t ∧ t.mem = s.mem ∧
      t.rflow p.srcNode (body p % 8192) = none ∧ (body p % 8192 ≠ p.flow → AppliedOne t p r) ∧
      (body p % 8192 = p.flow → Gone t (fun a => a.type = 8 ∧ a.dstNode = p.srcNode ∧ a.flow = p.flow ∧
        a.psn = r.rx.mirrored.headD ((p.psn + 1) % 2 ^ 32)))) ∧
    (ControlArrives s p r 8 → (s.hop p.dstCore p.ctx (body p % 16)).wait = false →
      ∃ t, exec (.trvCredit p) s = .next t ∧ t.mem = s.mem ∧ AppliedOne t p r ∧
        t.fb F.MTX_TRV_STATUS_CREDIT p.dstCore p.ctx (body p % 16) = true)

/-- R315, R321, R323, R327, R330, R200: a response in order ends the request of its tag with its data or status; an ACK ends
what it covers and raises the credit limit, a NAK of code 3 sends the flow's packets anew from PSN 0, one of code 4 to 7 ends
the refused operation with its code; a frame for another node leaves with its hop limit lowered, waits for a link, or is
dropped; a frame that fails a check or a type is dropped and counted. A loan ends at its END_FRAME. What it rests on beside
the rules: log entries 8, 9, 62 and 82. -/
def Obligations.AnswersAndOtherFrames : Prop :=
  (∀ (s : State) (p : Packet) (x : SFlow) (g seq tm : Nat) (q : Req), Arrives s p → s.sflow p.flow = some x →
    x.key.node = p.srcNode → x.epoch = p.epoch → x.rx.next = p.psn → p.psn < 2 ^ 32 → x.rx.held = [] →
    x.reads = [(p.tag, tm, { op := .scalar g seq })] → q ∈ (s.core g).slots → q.seq = seq →
    let ends (t : State) (data : List Byte) : Prop := t.mem = s.mem ∧
      { q with rsp := some { status := p.addr % 256, data := data, poison := p.poison } } ∈ (t.core g).slots ∧
      ∃ y, t.sflow p.flow = some y ∧ y.reads = [] ∧ y.rx.next = (p.psn + 1) % 2 ^ 32 ∧ y.rx.held = [] ∧
        y.rx.due = (if 15 ≤ x.rx.due then 0 else x.rx.due + 1) ∧ y.tx = x.tx
    (p.type = 2 → ∃ t, exec (.readResp p) s = .next t ∧ ends t p.payload) ∧
    (p.type = 4 → ∃ t, exec (.atomicResp p) s = .next t ∧ ends t (le 8 p.aux))) ∧
  (∀ (s : State) (p : Packet) (x : SFlow) (k : TxPkt), Arrives s p → p.flow < 8192 → s.sflow p.flow = some x →
    x.key.node = p.srcNode → x.epoch = p.epoch → x.tx.unacked = [k] → x.closing = false →
    let reason := p.addr % 256
    let limit := if psnAfter p.limit x.tx.limit = true then p.limit else x.tx.limit
    (p.type = 8 → p.aux = 0 → k.refs = [] → ∃ t, exec (.ack p) s = .next t ∧ t.mem = s.mem ∧
      ∃ y, t.sflow p.flow = some y ∧ y.tx.limit = limit ∧ y.tx.queue = x.tx.queue ∧ y.tx.next = x.tx.next ∧
        y.tx.unacked = if psnAfter p.psn k.pkt.psn = true then [] else [k]) ∧
    (p.type = 9 → reason = 3 → ∃ t, exec (.nak p) s = .next t ∧ t.mem = s.mem ∧ ∃ y, t.sflow p.flow = some y ∧
      y.epoch = (x.epoch + 1) % 65536 ∧ y.tx.next = 0 ∧ y.tx.fresh = true ∧ y.tx.unacked = [] ∧
      y.tx.queue.map TxPkt.pkt = k.pkt :: x.tx.queue.map TxPkt.pkt) ∧
    (p.type = 9 → reason = 2 → p.addr / 2 ^ 32 % 2 ^ 32 = k.pkt.psn → ∃ t, exec (.nak p) s = .next t ∧ t.mem = s.mem ∧
      ∃ y, t.sflow p.flow = some y ∧ y.tx.unacked = [{ k with rnr := true, sent := s.clk.now }]) ∧
    (∀ g seq q, p.type = 9 → 4 ≤ reason → reason ≤ 7 → p.addr / 2 ^ 32 % 2 ^ 32 = k.pkt.psn → p.aux = 0 →
      psnAfter p.psn k.pkt.psn = true → k.refs = [{ op := .scalar g seq }] → q ∈ (s.core g).slots → q.seq = seq →
      ∃ t, exec (.nak p) s = .next t ∧ t.mem = s.mem ∧ { q with rsp := some { status := reason } } ∈ (t.core g).slots ∧
        ∃ y, t.sflow p.flow = some y ∧ y.tx.unacked = [] ∧ y.tx.queue = x.tx.queue ∧ y.tx.limit = limit)) ∧
  (∀ (s : State) (p : Packet), s.linkUp p.link = true →
    let low : Packet := { p with hop := p.hop - 1 }
    (crcBad p = false → p.dstIp ≠ s.netAddr → s.groupOf p.dstIp = none → ∃ t, exec (.frameRelay p) s = .next t ∧
      t.mem = s.mem ∧ t.sflows = s.sflows ∧ t.rflows = s.rflows ∧
      (s.nodeKnown p.dstNode = false ∨ p.hop ≤ 1 →
        t.f F.NET_DROPS_RELAY = Min.min (s.f F.NET_DROPS_RELAY + 1) 65535 ∧ t.netWait = s.netWait) ∧
      (s.nodeKnown p.dstNode = true → 1 < p.hop →
        (∀ l, s.linkOf low = some l → s.portHeld l = false →
          let wire : Wire := { p.wire with dstMac := s.f F.NET_LINK_PEER_MAC l, srcMac := s.f F.NET_MAC_BASE_MAC + l }
          Out.packet l { low with link := l, wire := wire } ∈ t.out) ∧
        ((∀ l, s.linkOf low = some l → s.portHeld l = true) →
          ∃ w, (none, w) ∈ t.netWait ∧ { w with retx := p.retx } = low))) ∧
    (crcBad p = true → ∃ t, exec (.receivedFrameDrop p) s = .next t ∧ t.mem = s.mem ∧ t.sflows = s.sflows ∧
      t.rflows = s.rflows ∧ t.f F.NET_DROPS_CRC = Min.min (s.f F.NET_DROPS_CRC + 1) 65535) ∧
    (crcBad p = false → badType p = true → p.dstIp = s.netAddr → ∃ t, exec (.receivedFrameDrop p) s = .next t ∧
      t.mem = s.mem ∧ t.sflows = s.sflows ∧ t.rflows = s.rflows ∧
      t.f F.NET_DROPS_TYPE = Min.min (s.f F.NET_DROPS_TYPE + 1) 65535)) ∧
  (∀ (s : State) (lend : Bool) (i : Nat), ∃ t, exec (.loanEndTick lend i) s = .next t ∧ t.mem = s.mem ∧
    let state : Fld := if lend = true then F.PLC_LEND_CTL_STATE else F.PLC_BOR_CTL_STATE
    let stop : Fld := if lend = true then F.PLC_LEND_END_END_FRAME else F.PLC_BOR_END_END_FRAME
    let ends := s.atTick = true ∧ s.f state i = 3 ∧ s.f stop i ≤ s.clk.frame
    (¬ends → t = s) ∧ (ends → t.f state i = 0 ∧ t.fb F.PLC_EVENT_LOAN_END = true))

/-- R315, R317, R322, R324, R327 to R330, R332: the next packet of a flow leaves on the link of its node in its frame,
numbered and kept, waits for a link, or stays queued while its port is paused; an ACK goes when its timer ends; a packet
whose timer ends is sent again until it has been sent often enough, when the flow fails; a refused one after RNR; a request
without its response ends with status 0x102; an idle flow closes; a counter that waits asks its home again. What it rests on
beside the rules: log entries 8, 25, 26, 56 and 82. -/
def Obligations.FlowsSendResendAndClose : Prop :=
  ∀ (s : State) (f : Nat),
    let retry := s.f F.NET_TIMERS_RETRY
    let due (x : Rx) : Prop := 0 < x.due ∧ x.dueAt + 200 ≤ s.clk.now
    let again (t : State) (k : TxPkt) : Prop := Gone t (fun q => q.type = k.pkt.type ∧ q.flow = k.pkt.flow ∧
      q.psn = k.pkt.psn ∧ q.payload = k.pkt.payload ∧ q.dstNode = k.pkt.dstNode)
    let fails (t : State) : Prop := t.fb F.NET_EVENT_FLOW_FAIL = true ∧
      t.f F.NET_FLOW_FAILS_COUNT = (s.f F.NET_FLOW_FAILS_COUNT + 1) % 2 ^ F.NET_FLOW_FAILS_COUNT.len
    (∀ x k ks, f < 8192 → s.sflow f = some x → x.tx.queue = k :: ks → k.unit = none → x.tx.unacked = [] →
      psnAfter x.tx.limit x.tx.next = true →
      let q : Packet := { k.pkt with flow := f, epoch := x.epoch, psn := x.tx.next, first := x.tx.fresh }
      ∃ t, exec (.noinePacketSend f) s = .next t ∧ t.mem = s.mem ∧
        (∀ l, s.linkOf q = some l → s.portHeld l = true → t = s) ∧
        ((∀ l, s.linkOf q = some l → s.portHeld l = false) →
          (∃ y, t.sflow f = some y ∧ y.tx.queue = ks ∧ y.tx.unacked.map TxPkt.pkt = [q] ∧
            y.tx.next = (x.tx.next + 1) % 2 ^ 32 ∧ y.tx.fresh = false) ∧
          (s.linkOf q = none → Gone t (fun a => a.psn = q.psn ∧ a.flow = f ∧ a.dstNode = q.dstNode) ∧ t.out = s.out) ∧
          ∀ l, s.linkOf q = some l → t.out = .packet l (Framed s l q) :: s.out ∧
            t.f F.NET_LINK_TX_BYTES l = (s.f F.NET_LINK_TX_BYTES l + 96 + q.payload.length) % 2 ^ 64)) ∧
    (∀ x, f < 8192 → s.sflow f = some x → ∃ t, exec (.ackTimer f) s = .next t ∧ t.mem = s.mem ∧ (¬due x.rx → t = s) ∧
      (due x.rx → (∃ y, t.sflow f = some y ∧ y.rx.due = 0 ∧ y.rx.next = x.rx.next ∧ y.tx = x.tx) ∧
        Gone t (fun a => a.type = 8 ∧ a.flow = f + 8192 ∧ a.dstNode = x.key.node ∧
          a.psn = x.rx.mirrored.headD x.rx.next))) ∧
    (∀ r, 8192 ≤ f → s.rflows[f - 8192]? = some r → s.rflow r.node r.flow = some r →
      ∃ t, exec (.ackTimer f) s = .next t ∧ t.mem = s.mem ∧ (¬due r.rx → t = s) ∧
        (due r.rx → (∃ q, t.rflow r.node r.flow = some q ∧ q.rx.due = 0 ∧ q.rx.next = r.rx.next ∧ q.tx = r.tx) ∧
          Gone t (fun a => a.type = 8 ∧ a.flow = r.flow ∧ a.dstNode = r.node ∧
            a.psn = r.rx.mirrored.headD r.rx.next))) ∧
    (∀ x k, f < 8192 → s.sflow f = some x → x.tx.unacked = [k] →
      (k.rnr = false → k.sent + s.f F.NET_TIMERS_RTO ≤ s.clk.now → ∃ t, exec (.retransmitTimeout f) s = .next t ∧
        t.mem = s.mem ∧
        (k.tries < retry → again t k ∧ t.sflow f = some { x with tx := { x.tx with
          unacked := [{ k with sent := s.clk.now, tries := k.tries + 1, rnr := false }] } }) ∧
        (retry ≤ k.tries → fails t ∧ t.epochOf f = (x.epoch + 1) % 65536 ∧ (s.flowWait = [] → t.sflow f = none) ∧
          t.f F.NET_FLOW_FAIL_LAST_NODE = x.key.node % 2 ^ F.NET_FLOW_FAIL_LAST_NODE.len)) ∧
      (k.rnr = true → k.pkt.type ≠ 5 → k.sent + s.f F.NET_TIMERS_RNR ≤ s.clk.now → ∃ t, exec (.rnrResend f) s = .next t ∧
        t.mem = s.mem ∧ again t k ∧ t.sflow f = some { x with tx := { x.tx with
          unacked := [{ k with sent := s.clk.now, rnr := false }] } })) ∧
    (∀ r k, 8192 ≤ f → s.rflows[f - 8192]? = some r → s.rflow r.node r.flow = some r → r.tx.unacked = [k] → k.rnr = false →
      k.sent + s.f F.NET_TIMERS_RTO ≤ s.clk.now → ∃ t, exec (.retransmitTimeout f) s = .next t ∧ t.mem = s.mem ∧
        (k.tries < retry → again t k) ∧ (retry ≤ k.tries → fails t ∧ t.rflow r.node r.flow = none)) ∧
    (∀ x tag tm g seq q, s.sflow f = some x → x.reads = [(tag, tm, { op := .scalar g seq })] →
      tm + s.f F.NET_CPL_TIMEOUT_TIME ≤ s.clk.now → q ∈ (s.core g).slots → q.seq = seq →
      ∃ t, exec (.completionTimeout f) s = .next t ∧ t.mem = s.mem ∧ t.sflow f = some { x with reads := [] } ∧
        { q with rsp := some { status := 0x102 } } ∈ (t.core g).slots) ∧
    (∀ x, s.sflow f = some x → s.flowWait = [] → ∃ t, exec (.flowIdleClose f) s = .next t ∧ t.mem = s.mem ∧
      let ctl : FlowKey := { cls := .control, node := x.key.node }
      let idle := x.tx.queue = [] ∧ x.tx.unacked = [] ∧ x.reads = [] ∧ x.used + s.f F.NET_REL_POLL_FLOW_IDLE ≤ s.clk.frame
      let full := s.flowOf ctl = none ∧ ∀ j, j < 8192 → s.sflow j ≠ none
      let ends := ∃ y k, t.sflow f = some y ∧ y.key = ctl ∧ y.closing = true ∧ y.tx.queue = [k] ∧ k.pkt.type = 7 ∧
        k.pkt.addr = 7 ∧ k.pkt.payload = le 8 f
      (¬idle → t = s) ∧
      (idle → x.key = ctl → x.closing = false → ends) ∧
      (idle → x.key ≠ ctl → full → ends) ∧
      (idle → x.key ≠ ctl → ¬full → t.sflow f = none ∧ t.epochOf f = (x.epoch + 1) % 65536 ∧
        QueuedControl s t x.key.node 7 (le 8 f))) ∧
    (∀ r, s.rflows[f]? = some r → ∃ t, exec (.receiveFlowIdleFree f) s = .next t ∧ t.mem = s.mem ∧
      (s.clk.frame < r.used + 2 * s.f F.NET_REL_POLL_FLOW_IDLE → t = s) ∧
      (r.used + 2 * s.f F.NET_REL_POLL_FLOW_IDLE ≤ s.clk.frame → t.sflows = s.sflows ∧
        t.rflows = s.rflows.filter (fun q => !decide (q.node = r.node ∧ q.flow = r.flow)))) ∧
    (∃ t, exec (.colQueryPoll f) s = .next t ∧ t.mem = s.mem ∧
      let home := s.f F.COL_CTR_HOME_HOME_NODE f
      let asks := s.fb F.COL_CTR_CFG_XMOD f = true ∧ s.fb F.COL_CTR_STATE_DONE0 f = true ∧ home ≠ s.f F.NET_NODE_ID_ID ∧
        SMap.get 0 s.colPoll f + s.f F.NET_REL_POLL_TIME ≤ s.clk.now
      (¬asks → t = s) ∧
      (asks → SMap.get 0 t.colPoll f = s.clk.now ∧ (s.fb F.COL_CTR_STATE_DONE1 f = false → QueuedControl s t home 3
        (le 8 (s.f F.COL_CTR_HOME_HOME_PHYS f + s.f F.COL_CTR_STATE_ROUND f * 2 ^ 16)))))

/-- R313, R314, R317, R324: a configured link leaves the down state with a signal, comes up once aligned, when the packets
that waited for it leave, falls back to training when it unlocks, goes down with a lane lost, and counts its codewords; out of
the up state for more than 100 ms it is faulty. Pause frames of the priority in use hold their port where PFC is enabled, and
release it. What it rests on beside the rules: log entries 8, 63 and 65. -/
def Obligations.LinksChangeState : Prop :=
  ∀ (s : State) (l : Nat),
    let st := s.f F.NET_LINK_STATUS_STATE l
    let los := BitVec.ofNat 8 (s.f F.NET_PORT_LANES_LOS (l / 4))
    let mine := BitVec.ofNat 8 (s.linkLanes l)
    (s.linkThere l = false → ∀ ev, exec (.linkStateChange l ev) s = .next s) ∧
    (s.linkThere l = true →
      (st = 0 → ∃ t, exec (.linkStateChange l .signal) s = .next t ∧ t.f F.NET_LINK_STATUS_STATE l = 1 ∧
        t.fb F.NET_EVENT_LINK = true ∧ t.mem = s.mem) ∧
      (∀ map inv, los &&& mine = 0#8 → st ≠ 2 → ∃ t, exec (.linkStateChange l (.aligned map inv)) s = .next t ∧
        t.f F.NET_LINK_STATUS_STATE l = 2 ∧ t.fb F.NET_EVENT_LINK = true ∧ SMap.get none t.linkDown l = none ∧
        t.mem = s.mem ∧ (s.portHeld l = false → ∀ p, (some l, p) ∉ t.netWait)) ∧
      (st = 2 → ∃ t, exec (.linkStateChange l .unlock) s = .next t ∧ t.f F.NET_LINK_STATUS_STATE l = 1 ∧
        SMap.get none t.linkDown l = some s.clk.now ∧ t.mem = s.mem) ∧
      (∀ lanes, BitVec.ofNat 8 lanes &&& mine ≠ 0#8 → st ≠ 0 →
        ∃ t, exec (.linkStateChange l (.loss lanes)) s = .next t ∧ t.f F.NET_LINK_STATUS_STATE l = 0 ∧
          t.f F.NET_PORT_LANES_LOS (l / 4) = (los ||| (BitVec.ofNat 8 lanes &&& mine)).toNat ∧
          (st = 2 → SMap.get none t.linkDown l = some s.clk.now) ∧ t.mem = s.mem) ∧
      (∀ good bad, ∃ t, exec (.linkStateChange l (.fec good bad)) s = .next t ∧ t.mem = s.mem ∧
        t.f F.NET_LINK_STATUS_STATE l = st ∧
        t.f F.NET_LINK_FEC_CORR l = Min.min (s.f F.NET_LINK_FEC_CORR l + good) (2 ^ 32 - 1) ∧
        t.f F.NET_LINK_FEC_UNCORR l = Min.min (s.f F.NET_LINK_FEC_UNCORR l + bad) (2 ^ 32 - 1))) ∧
    (∀ at', SMap.get none s.linkDown l = some at' → ∃ t, exec (.linkFault l) s = .next t ∧ t.mem = s.mem ∧
      (s.clk.now ≤ at' + 10000000 ∨ s.linkThere l = false → t = s) ∧
      (at' + 10000000 < s.clk.now → s.linkThere l = true → t.f F.NET_LINK_STATUS_STATE l = 3)) ∧
    (∀ port prio pause, ∃ t, exec (.pfcFrame port prio pause) s = .next t ∧ t.mem = s.mem ∧ t.sflows = s.sflows ∧
      t.rflows = s.rflows ∧ (s.fb F.NET_PORT_CFG_PFC_EN port = false ∨ prio ≠ s.f F.NET_QOS_PCP → t = s) ∧
      (s.fb F.NET_PORT_CFG_PFC_EN port = true → prio = s.f F.NET_QOS_PCP →
        (port ∈ t.paused ↔ pause = true) ∧ (∀ q, q ≠ port → (q ∈ t.paused ↔ q ∈ s.paused)) ∧
        (pause = true → t.netWait = s.netWait ∧ t.out = s.out) ∧
        (pause = false → ∀ k p, k / 4 = port → s.linkUp k = true → (some k, p) ∉ t.netWait)))
/-! ### Power lending and the step transaction -/

namespace Sys2Proof.Claims

/-- A step control is refused with a code, and the step stays as it is (Table TRN-5). -/
def StepRefused (s t : State) (c code : Nat) : Prop :=
  t.f F.TRN_STEP_STATE_REFUSE c = code ∧ (c < 4 → bitN (t.f F.TRN_EVENT_REFUSED) c = true) ∧
  t.f F.TRN_STEP_STATE_STATE c = s.f F.TRN_STEP_STATE_STATE c ∧ t.trn = s.trn ∧ t.mem = s.mem

/-- A step is decided: committed or aborted at the next tick. -/
def Decided (t : State) (c : Nat) (commit : Bool) : Prop :=
  t.f F.TRN_STEP_STATE_STATE c = 2 ∧ (t.trnOf c).commit = commit

end Sys2Proof.Claims

/-- R278 to R280, R282: at a lending period a configuration written before it takes effect. With lending on and the clock at
2.5 GHz a core that has been idle at a col for WAIT lends GRANT to its die's pool, a core that is not busy returns its steps,
and one whose array or vector engine was occupied for nine tenths of the period that ends gains at most one while the pool covers COST and its steps are below MAX_STEPS; otherwise every core returns
to its nominal clock. A lender that wakes takes its GRANT back, and steps are reclaimed, the core with most steps first. What
it rests on beside the rules: log entries 8, 27 and 28. -/
def Obligations.ClockStepsAreLentAndReturned : Prop :=
  ∀ s : State,
    (∀ d, ∃ t, exec (.lendingPeriod d) s = .next t ∧ (2 ≤ d → t = s) ∧ t.mem = s.mem ∧
      (d < 2 → SMap.get 0 t.lendAt d = s.clk.now ∧ (∀ g, g / 128 = d → SMap.get 0 t.cycles.occupied g = 0) ∧
        let gs := s.dieCores d
        t.reg ⟨.COL_LEND_CFG, d, 0, 0⟩ = (SMap.get none s.lendNew d).getD (s.reg ⟨.COL_LEND_CFG, d, 0, 0⟩) ∧
        SMap.get none t.lendNew d = none ∧
        (t.fb F.COL_LEND_CFG_EN d = false ∨ s.f F.PWR_STATUS_CLK < 2500 →
          (∀ g ∈ gs, t.boost g = 0 ∧ t.lending g = false) ∧ t.f F.COL_LEND_STAT_POOL d = 0 ∧ t.f F.COL_LEND_STAT_BORROWED d = 0) ∧
        (t.fb F.COL_LEND_CFG_EN d = true → 2500 ≤ s.f F.PWR_STATUS_CLK →
          let busy (g : Nat) : Prop := let n := SMap.get 0 s.cycles.occupied g
            t.lending g = false ∧ 0 < n ∧ 9 * (s.clk.now - SMap.get 0 s.lendAt d) ≤ 10 * n
          (∀ g ∈ gs,
            let waited := s.idleAtCol g && decide (t.f F.COL_LEND_CFG_WAIT d ≤ s.clk.now - (s.core g).iss.idle.getD s.clk.now)
            t.lending g = (s.lending g || waited) ∧
            (¬busy g → t.boost g = 0) ∧
            (busy g → t.boost g = s.boost g ∨ t.boost g = s.boost g + 1 ∧ s.boost g < t.f F.COL_LEND_CFG_MAX_STEPS d) ∧
            (busy g → (∀ h ∈ gs, h ≠ g → s.boost h = 0 ∧ ¬busy h) →
              t.boost g = s.boost g + if t.f F.COL_LEND_CFG_COST d ≤ t.f F.COL_LEND_STAT_POOL d - s.f F.COL_LEND_STAT_BORROWED d ∧
                s.boost g < t.f F.COL_LEND_CFG_MAX_STEPS d then 1 else 0)) ∧
          t.f F.COL_LEND_STAT_POOL d = (s.f F.COL_LEND_STAT_POOL d +
            t.f F.COL_LEND_CFG_GRANT d * gs.countP (fun g => t.lending g && !s.lending g)) % 65536))) ∧
    (∀ g, ∃ t, exec (.lenderWake g) s = .next t ∧ t = { s with regs := t.regs } ∧
      let d := g / 128
      (s.lending g = false ∨ s.idleAtCol g = true → t = s) ∧
      (s.lending g = true → s.idleAtCol g = false →
        t.lending g = false ∧ t.f F.COL_LEND_STAT_POOL d = s.f F.COL_LEND_STAT_POOL d - s.f F.COL_LEND_CFG_GRANT d ∧
        (s.f F.COL_LEND_STAT_BORROWED d ≤ t.f F.COL_LEND_STAT_POOL d →
          t.f F.COL_LEND_STAT_BORROWED d = s.f F.COL_LEND_STAT_BORROWED d ∧ ∀ h, t.boost h = s.boost h) ∧
        ∀ h ∈ s.dieCores d, t.f F.COL_LEND_STAT_POOL d < s.f F.COL_LEND_STAT_BORROWED d → 0 < s.boost h →
          (∀ j ∈ s.dieCores d, s.boost j < s.boost h ∨ s.boost j = s.boost h ∧ j ≤ h) →
          s.f F.COL_LEND_STAT_BORROWED d - s.f F.COL_LEND_CFG_COST d ≤ t.f F.COL_LEND_STAT_POOL d →
          t.f F.COL_LEND_STAT_BORROWED d = s.f F.COL_LEND_STAT_BORROWED d - s.f F.COL_LEND_CFG_COST d ∧
          t.boost h = s.boost h - 1 ∧ ∀ j, j ≠ h → t.boost j = s.boost j)) ∧
    (∀ d v, ∃ t, exec (.colLendCfgWrite d v) s = .next t ∧ t = { s with lendNew := t.lendNew } ∧
      let bad := v.toNat / 2 ^ 8 % 256 = 0 ∨ v.toNat / 2 ^ 16 % 16 = 0 ∨ 12 < v.toNat / 2 ^ 24 % 16
      (2 ≤ d ∨ bad → t = s) ∧ (d < 2 → ¬bad → SMap.get none t.lendNew d = some (v &&& 0xFFFFFFFF0F0FFF01#64)))

/-- R289 to R292, R294, R295, R305, R306: OPEN is due at the next tick; ABORT of an open step makes every voter vote with
flag 1; a cause of a halted context sets its core's flag, and is late on a core that has voted or after the votes; the entry
that completes the local round sets VOTED; the first release of its round decides a step; a forced decision needs an
undecided step, a forced commit a complete local round with flag 0 too; at VOTE_FRAME + LIMIT an open step is undecided. A write of TRN_GNS_CFG restarts the samples,
and each core counts 10 ns for its context's phase, here where no two marks tie. What it rests on beside the rules: log
entries 2, 8, 9 and 55. -/
def Obligations.StepsVoteAndDecide : Prop :=
  ∀ (s : State) (c : Nat),
    let st := s.f F.TRN_STEP_STATE_STATE c
    let cause := s.f F.TRN_STEP_STATE_CAUSE c
    let left := ∃ v, v < 256 ∧ s.isVoter c v = true ∧ v ∉ (s.trnOf c).voted
    let caused (t : State) (g code : Nat) : Prop := if cause = 0
      then t.f F.TRN_STEP_STATE_CAUSE c = code ∧ t.f F.TRN_STEP_STATE_CORE c = g % 256 else t.f F.TRN_STEP_STATE_CAUSE c = cause
    (∃ t, exec (.trnStepOpen c) s = .next t ∧ t = { s with trn := t.trn } ∧ t.trnOf c = { s.trnOf c with openReq := true } ∧
      ∀ d, d ≠ c → t.trnOf d = s.trnOf d) ∧
    (∃ t, exec (.trnStepAbort c) s = .next t ∧ t.mem = s.mem ∧ (st ≠ 1 → StepRefused s t c 1) ∧
      (st = 1 → s.halted c = false → (∀ v, s.isVoter c v = true → ColKnown s v c (s.trnF F.TRN_STEP_CFG_COMMIT_COL c) 1) →
        (left → t.f F.TRN_STEP_STATE_STATE c = 1 ∧ t.fb F.TRN_STEP_STATE_FLAG c = true ∧ caused t 0xFF 6 ∧
          t.fb F.TRN_STEP_STATE_VOTED c = s.fb F.TRN_STEP_STATE_VOTED c ∧
          ∀ v, v < 256 → s.isVoter c v = true → v ∈ (t.trnOf c).voted) ∧
        (¬left →
          t.f F.TRN_STEP_STATE_LATE_CAUSE c = 6 ∧ t.f F.TRN_STEP_STATE_CAUSE c = cause ∧ t.trn = s.trn))) ∧
    (∀ g code, code < 6 → code ≠ 0 →
      let t := s.trnCause c g code
      (st = 1 → s.halted c = true → left → t.trnOf c = { s.trnOf c with flags := (s.trnOf c).flags ++ [g] } ∧ caused t g code) ∧
      (st = 1 ∧ (¬left ∨ s.halted c = true ∧ g ∈ (s.trnOf c).voted) ∨ st = 2 ∨ st = 3 →
        t.f F.TRN_STEP_STATE_LATE_CAUSE c = code ∧ (c < 4 → bitN (t.f F.TRN_EVENT_LATE_CAUSE) c = true)) ∧
      (st = 0 ∨ 3 < st → t = s)) ∧
    (∀ k g id e rest, s.colEnts = e :: rest → e.g = g → e.phys = k → s.colName k = some (c, id) →
      id = s.trnF F.TRN_STEP_CFG_COMMIT_COL c → st = 1 ∨ st = 3 → e.tag = s.f F.COL_CTR_STATE_ROUND k % 4 →
      ∃ t, exec (.colEntryArrival 0) s = .next t ∧
        t.fb F.TRN_STEP_STATE_VOTED c =
          (s.fb F.TRN_STEP_STATE_VOTED c || decide (s.f F.COL_CTR_STATE_C0 k + 1 = s.f F.COL_CTR_CFG_COUNT k))) ∧
    (∀ n r, s.colRels[n]? = some r → (∀ x ∈ s.colRels.take n, ¬(x.g = r.g ∧ x.phys = r.phys)) → r.c = c →
      (s.waitsOf r.g c).filter (fun e => decide (e.id = r.id ∧ e.tag = r.tag)) = [⟨r.id, r.tag, .vote⟩] →
      ∃ t, exec (.colReleaseArrival n) s = .next t ∧ t.mem = s.mem ∧
        (st = 1 ∨ st = 3 → Decided t c (!r.flag) ∧
          t.f F.TRN_STEP_STATE_CAUSE c = if r.flag = true ∧ cause = 0 then 8 else cause) ∧
        (st ≠ 1 → st ≠ 3 → t.f F.TRN_STEP_STATE_STATE c = st ∧ t.trn = s.trn)) ∧
    (∃ t, exec (.forceCommit c) s = .next t ∧ (st ≠ 3 → StepRefused s t c 1) ∧
      let ready := s.fb F.TRN_STEP_STATE_VOTED c = true ∧ s.fb F.TRN_STEP_STATE_FLAG c = false
      (st = 3 → ¬ready → StepRefused s t c 5) ∧ (st = 3 → ready → Decided t c true ∧ t.mem = s.mem)) ∧
    (∃ t, exec (.forceAbort c) s = .next t ∧ (st ≠ 3 → StepRefused s t c 1) ∧
      (st = 3 → Decided t c false ∧ t.f F.TRN_STEP_STATE_CAUSE c = (if cause = 0 then 7 else cause) ∧ t.mem = s.mem)) ∧
    (∃ t, exec (.stepUndecided c) s = .next t ∧
      let late := s.atTick = true ∧ s.clk.frame = s.trnF F.TRN_VOTE_FRAME_FRAME c + s.trnF F.TRN_STEP_LIMIT_LIMIT c
      (st ≠ 1 ∨ ¬late → t = s) ∧
      (st = 1 → late → t.f F.TRN_STEP_STATE_STATE c = 3 ∧ (c < 4 → bitN (t.f F.TRN_EVENT_UNDECIDED) c = true) ∧
        t.trn = s.trn ∧ t.mem = s.mem)) ∧
    (∀ v : Word, ∃ t, exec (.trnGnsCfgWrite c v) s = .next t ∧ t = { s with regs := t.regs } ∧
      t.f F.TRN_GNS_CFG_TRV_MASK c = v.toNat % 2 ^ F.TRN_GNS_CFG_TRV_MASK.len ∧ t.f F.TRN_GNS_STATUS_SAMPLES c = 0 ∧
      t.fb F.TRN_GNS_STATUS_READY c = false) ∧
    (∃ t, exec .altimeterPhaseCount s = .next t ∧ t.mem = s.mem ∧
      ((∀ d, (s.framePhase d).2 = s) → c < 4 → ∀ p, t.f F.TRN_ALT_RUN_TIME c p =
        (s.f F.TRN_ALT_RUN_TIME c p + s.coreList.countP (fun g => decide (s.ownerOf g = c ∧ (s.corePhase g c).1 = p))) %
          2 ^ F.TRN_ALT_RUN_TIME.len))
/-! ### Transactions, registers, host windows and rings -/

namespace Sys2Proof.Claims

/-- Registers that a write changes by their access codes alone. -/
def plainRegs : List RegName :=
  [.FRM_SYNC_LIMIT, .FRM_WDOG, .FRM_STALL_THRESH, .FRM_IN_HIGH, .FRM_IN_LOW, .FRM_IN_DEADLINE, .CORE_LOAD_ADDR, .CORE_DEFER_MAX,
   .CORE_EVENT, .MTX_FLAGS, .MTX_TRV_STATUS, .VEC_FLAGS, .DMA_SPUR_TIMEOUT, .DMA_CH_CFG, .KV_POOL_MARKS,
   .TRN_STEP_CFG, .TRN_VOTE_FRAME, .TRN_STEP_LIMIT, .TRN_STEP_REC, .TRN_LEDGER_BASE, .TRN_LEDGER_SLOTS, .TRN_VOTERS,
   .TRN_ALT_CFG, .TRN_ALT_MARK, .NET_TIMERS, .NET_CPL_TIMEOUT, .NET_WINDOW, .NET_REL_POLL, .HIF_FETCH_LEAD, .HIF_IRQ_ROUTE,
   .ERR_SCRUB, .BIST_RT_CFG, .BIST_SD_CFG, .TXN_STATUS, .PWR_PEAK]

/-- A field of a register after a write of v (Table SC-4): RW and RWS take the value, a 1 clears a W1C bit, the rest stays. -/
def FieldWritten (old new v : Word) (x : FieldInfo) : Prop :=
  match x.acc with
  | .rw | .rws => bits new x.lo x.len = bits v x.lo x.len
  | .w1c => bits new x.lo x.len = bits (old &&& ~~~v) x.lo x.len
  | _ => bits new x.lo x.len = bits old x.lo x.len

/-- Owner o's control is refused: BAD_CTRL and the event, and its transaction stays. -/
def BadControl (s t : State) (o : Nat) : Prop :=
  t.fb F.TXN_STATUS_BAD_CTRL o = true ∧ bitN (t.f F.TXN_EVENT_ERROR) o = true ∧
  t.f F.TXN_STATUS_STATE o = s.f F.TXN_STATUS_STATE o ∧ t.txns = s.txns

/-- Owner o's transaction has ended with a result: idle, nothing staged, counted. -/
def TxnEnded (s t : State) (o result : Nat) : Prop :=
  t.f F.TXN_STATUS_STATE o = 0 ∧ t.f F.TXN_STATUS_RESULT o = result ∧ (t.txn o).staged = [] ∧
  t.f F.TXN_COUNT_ENDED o = (s.f F.TXN_COUNT_ENDED o + 1) % 2 ^ F.TXN_COUNT_ENDED.len

/-- An entry of ring (p, c) has been taken: CMD_CI and OUTSTANDING count it. -/
def Taken (s t : State) (p c : Nat) : Prop :=
  t.f F.HIF_RING_STAT_CMD_CI c p = (s.f F.HIF_RING_STAT_CMD_CI c p + 1) % 2 ^ F.HIF_RING_STAT_CMD_CI.len ∧
  t.f F.HIF_RING_OUT_OUTSTANDING c p = (s.f F.HIF_RING_OUT_OUTSTANDING c p + 1) % 2 ^ F.HIF_RING_OUT_OUTSTANDING.len

/-- An entry of ring (p, c) has been taken and completes with a status; nothing else of the context's host side changes. -/
def Completes (s t : State) (p c order status : Nat) (e : Entry) : Prop :=
  Taken s t p c ∧ t.svc c = { s.svc c with cpls := (s.svc c).cpls ++
    [{ port := p, order := order, tag := entryTag e.bytes, status := status, op := entryN e.bytes 0 1 }] }

end Sys2Proof.Claims

/-- R389, R390, R393, R12, R15, R17, R396: BEGIN, COMMIT and ROLLBACK of an owner in its proper state, and BAD_CTRL
otherwise; the timeout. An RT field write is staged, or flagged OUTSIDE or CONFLICT, and leaves the value in effect; a write
to another register acts by its fields' access codes, and restarts a peak at the level of now; a write that is misaligned, to a reserved offset, or to a package that
is off has no effect. What it rests on beside the rules: log entries 8, 9, 22 and 69. -/
def Obligations.TransactionsAndRegisterWrites : Prop :=
  (∀ (s : State) (o : Nat), o < 3 →
    let st := s.f F.TXN_STATUS_STATE o
    (∃ t, exec (.txnBegin o) s = .next t ∧ t.mem = s.mem ∧ (st ≠ 0 → BadControl s t o) ∧
      (st = 0 → t.f F.TXN_STATUS_STATE o = 1 ∧ t.fb F.TXN_STATUS_CONFLICT o = false ∧ t.fb F.TXN_STATUS_OVERFLOW o = false ∧
        t.f F.TXN_STATUS_STAGED o = 0 ∧ t.f F.TXN_OPEN_FRAME_FRAME o = s.clk.frame % 2 ^ 64 ∧
        t.txn o = { s.txn o with staged := [], timeout := s.f F.TXN_TIMEOUT_FRAMES o } ∧
        ∀ d, d ≠ o → t.txn d = s.txn d)) ∧
    (∃ t, exec (.txnCommit o) s = .next t ∧ t.mem = s.mem ∧ (st ≠ 1 → BadControl s t o) ∧
      (st = 1 → t.f F.TXN_STATUS_STATE o = 2 ∧ t.txn o = { s.txn o with order := s.txnOrder } ∧
        t.txnOrder = s.txnOrder + 1)) ∧
    (∃ t, exec (.txnRollback o) s = .next t ∧ t.mem = s.mem ∧ (st ≠ 1 → BadControl s t o) ∧
      (st = 1 → TxnEnded s t o 2)) ∧
    (∃ t, exec (.txnTimeout o) s = .next t ∧ t.mem = s.mem ∧
      let past := s.atTick = true ∧ st = 1 ∧ s.f F.TXN_OPEN_FRAME_FRAME o + (s.txn o).timeout ≤ s.clk.frame
      (¬past → t = s) ∧ (past → TxnEnded s t o 4 ∧ bitN (t.f F.TXN_EVENT_ROLLBACK) o = true))) ∧
  (∀ (s : State) (o off : Nat) (v : Word) (r : Reg), s.dark = false → o < 3 → off % 8 = 0 → off < 0x3FF0000 →
    regAt off = some r → r.name.hasRt = true → s.regThere r = true →
    ∃ t, exec (.rtFieldWrite o off 8 v) s = .next t ∧ t.mem = s.mem ∧
      t.reg r &&& rtMask r.name = s.reg r &&& rtMask r.name ∧
      let x := s.txn o
      let st := s.f F.TXN_STATUS_STATE o
      let other := ∃ d, d < 3 ∧ d ≠ o ∧ s.f F.TXN_STATUS_STATE d ≠ 0 ∧ ∃ w, (r, w) ∈ (s.txn d).staged
      (st ≠ 1 → t.fb F.TXN_STATUS_OUTSIDE o = true ∧ t.txns = s.txns) ∧
      (st = 1 → other → t.fb F.TXN_STATUS_CONFLICT o = true ∧ t.txns = s.txns) ∧
      (st = 1 → ¬other → (∀ w, (r, w) ∉ x.staged) → x.staged.length < 16384 →
        t.txn o = { x with staged := x.staged ++ [(r, v &&& rtMask r.name)] } ∧
        t.f F.TXN_STATUS_STAGED o = x.staged.length + 1) ∧
      (st = 1 → ¬other → (∃ w, (r, w) ∈ x.staged) →
        t.txn o = { x with staged := x.staged.map (fun e => if e.1 = r then (r, v &&& rtMask r.name) else e) })) ∧
  (∀ (s : State) (src off : Nat) (v : Word), src < 3 →
    (∀ bar size, s.dark = true → exec (.registerWrite src bar off size v) s = .next s) ∧
    (∀ size, off < 0x3FF0000 → (size ≠ 8 ∧ size ≠ 4) ∨ off % 4 ≠ 0 ∨ size = 8 ∧ off % 8 ≠ 0 →
      exec (.registerWrite src 0 off size v) s = .next s) ∧
    (off < 0x3FF0000 → off % 8 = 0 → regAt off = none → exec (.registerWrite src 0 off 8 v) s = .next s) ∧
    (∀ g, s.dark = false → off < 0x3FF0000 → off % 8 = 0 → regAt off = some ⟨.CORE_SLOT_STAT, g, 0, 0⟩ → s.coreOk g = true →
      (s.core g).slots.length < 64 → ∃ t, exec (.registerWrite src 0 off 8 v) s = .next t ∧ t = { s with regs := t.regs } ∧
        t.f F.CORE_SLOT_STAT_PEAK g =
          Max.max (bits v F.CORE_SLOT_STAT_PEAK.lo F.CORE_SLOT_STAT_PEAK.len) (s.core g).slots.length) ∧
    (∀ r, s.dark = false → off < 0x3FF0000 → off % 8 = 0 → regAt off = some r → s.regThere r = true →
      (r.name ∈ plainRegs ∨ eventInfo r.name ≠ none) →
      (∃ t, exec (.registerWrite src 0 off 8 v) s = .next t ∧
        t = { s with regs := t.regs, msixPend := t.msixPend, out := t.out } ∧ (∀ q, q ≠ r → t.reg q = s.reg q) ∧
        ∀ x ∈ r.name.info.fields, FieldWritten (s.reg r) (t.reg r) v x) ∧
      (∃ t, exec (.registerWrite src 0 off 4 v) s = .next t ∧
        t = { s with regs := t.regs, msixPend := t.msixPend, out := t.out } ∧ (∀ q, q ≠ r → t.reg q = s.reg q) ∧
        ∀ x ∈ r.name.info.fields, (x.lo + x.len ≤ 32 → FieldWritten (s.reg r) (t.reg r) v x) ∧
          (32 ≤ x.lo → bits (t.reg r) x.lo x.len = bits (s.reg r) x.lo x.len))))

/-- R346, R342, R345, R358, R366, R350, R352, R262, R56: the aperture reaches HBM but for protected ranges, the node table and
lent ranges. A function that is ready names itself, and its command and power words set Bus Master Enable and D3hot; one that is
not asks for a retry.
Enabling a ring zeroes its indices, and LOG2 changes only while it is disabled. A fetch due before a tick reads the entries
that its bound allows. At a tick each entry of an enabled ring is taken: a NOP completes, a REQUEST is queued or refused beyond the
port's credit, a NOTE is delivered or refused, a TOKEN adds to T30 or T31; a malformed entry completes with status 4.
Requests past their deadline come back with status 2. What it rests on beside the rules: log entries 8, 9, 21, 23, 38, 41 and 83. -/
def Obligations.HostWindowsAndRings : Prop :=
  (∀ (s : State) (p off : Nat), s.dark = false → p < 2 →
    let a := 2 ^ 36 * s.f F.HIF_APT_INDEX p + off
    (∀ data : List Byte, off + data.length ≤ 2 ^ 36 → ∃ t, exec (.apertureWrite p off data) s = .next t ∧
      let shut := s.kvProtected a data.length = true ∨ s.aptShut a data.length = true
      (shut → t.mem = s.mem ∧ t.f F.HIF_APT_BLOCKED_COUNT = (s.f F.HIF_APT_BLOCKED_COUNT + 1) % 2 ^ F.HIF_APT_BLOCKED_COUNT.len) ∧
      (¬shut → Stores s t a data ∧ t.regs = s.regs)) ∧
    (∀ len, off + len ≤ 2 ^ 36 → ∃ t, exec (.apertureRead p off len .ok) s = .next t ∧ t.mem = s.mem ∧
      (s.poisoned a len = false → t.out = .aperture p (bytesAt s a len) false :: s.out) ∧
      (s.poisoned a len = true → ∃ data, t.out = .aperture p data true :: s.out ∧ data.length = len))) ∧
  (∀ (s : State) (p : Nat) (v : Word), p < 2 →
    (s.fnReady p = false → (∀ off, s.cfgRead p off = none) ∧ ∀ off, exec (.registerWrite p 6 off 4 v) s = .next s) ∧
    (s.fnReady p = true → s.cfgRead p 0 = some 0x0A111D7E ∧
      (∃ t, exec (.registerWrite p 6 0x04 4 v) s = .next t ∧ t = { s with regs := t.regs, fns := t.fns } ∧
        t.fb F.HIF_LINK_BME p = bit v 2 ∧ t.fb F.HIF_LINK_BME (1 - p) = s.fb F.HIF_LINK_BME (1 - p)) ∧
      (v.toNat % 4 = 0 ∨ v.toNat % 4 = 3 → ∃ t, exec (.registerWrite p 6 0x44 4 v) s = .next t ∧
        t = { s with fns := t.fns } ∧ (t.fn p).d3 = decide (v.toNat % 4 = 3)))) ∧
  (∀ (s : State) (p c : Nat), p < 2 → c < 4 →
    let x := s.svc c
    (∀ v : Word, ∃ t, exec (.hifCrCfgEnable p c v) s = .next t ∧ t = { s with regs := t.regs } ∧
      t.fb F.HIF_CR_CFG_ENABLE c p = decide (bits v F.HIF_CR_CFG_ENABLE.lo 1 = 1) ∧
      (s.ringOn p c = false → t.f F.HIF_CR_CFG_LOG2 c p = bits v F.HIF_CR_CFG_LOG2.lo F.HIF_CR_CFG_LOG2.len ∧
        (t.ringOn p c = true → t.reg ⟨.HIF_RING_STAT, c, p, 0⟩ = 0)) ∧
      (s.ringOn p c = true → t.f F.HIF_CR_CFG_LOG2 c p = s.f F.HIF_CR_CFG_LOG2 c p ∧
        t.reg ⟨.HIF_RING_STAT, c, p, 0⟩ = s.reg ⟨.HIF_RING_STAT, c, p, 0⟩)) ∧
    (∀ n, ∃ t, exec (.hostRingFetch p c n) s = .next t ∧ t = { s with svcs := t.svcs } ∧
      let period := s.f F.FRM_PERIOD_PERIOD
      let until_ := s.clk.now + Min.min (s.f F.HIF_FETCH_LEAD_LEAD) (period / 2)
      let due := (∃ at' m miss, s.clk.start = some (at', m, miss) ∧ at' ≤ until_) ∨
        (s.clk.start = none ∧ s.clk.running = true ∧ s.clk.tickTime + period ≤ until_)
      let may := due ∧ s.ringOn p c = true ∧ s.bme p = true ∧ ∀ e ∈ x.fetched, e.1 ≠ p
      (¬may → t = s) ∧
      (may → t.svc c = { x with
        fetched := x.fetched ++ [(p, s.clk.frame, (List.range (Min.min n (s.fetchBound p c))).map (fun i =>
          bytesAt s (hostKey p (4096 * s.f F.HIF_CR_BASE_BASE c p +
            64 * ((s.f F.HIF_RING_STAT_CMD_CI c p + i) % 2 ^ s.f F.HIF_CR_CFG_LOG2 c p))) 64))]
        late := if n < s.fetchBound p c then x.late ++ [p] else x.late })) ∧
    (∀ e : Entry, s.atTick = false → exec (.commandNop p c e) s = .next s ∧ exec (.request p c e) s = .next s ∧
      exec (.note p c e) s = .next s ∧ exec (.token p c e) s = .next s) ∧
    (∀ e : Entry, s.atTick = true → s.ringOn p c = true → s.bme p = true →
      let arg := entryN e.bytes 8 8
      let bad (t : State) : Prop := Completes s t p c 2 4 e ∧ bitN (t.f F.HIF_EVENT_BAD_CMD) c = true ∧ t.mem = s.mem
      let credit := if p = 0 then x.credit0 else x.credit1
      (entryN e.bytes 0 1 = 0 → ∃ t, exec (.commandNop p c e) s = .next t ∧
        (s.entryOk e.bytes = false → bad t) ∧ (s.entryOk e.bytes = true → Completes s t p c 2 0 e ∧ t.mem = s.mem)) ∧
      (entryN e.bytes 0 1 = 1 → ∃ t, exec (.request p c e) s = .next t ∧ (s.entryOk e.bytes = false → bad t) ∧
        (s.entryOk e.bytes = true → credit = 0 → Completes s t p c 3 1 e ∧
          t.f F.FRM_IN_REFUSED_COUNT c = (s.f F.FRM_IN_REFUSED_COUNT c + 1) % 2 ^ F.FRM_IN_REFUSED_COUNT.len) ∧
        (s.entryOk e.bytes = true → credit ≠ 0 → Taken s t p c ∧ t.svc c = { x with
          credit0 := if p = 0 then x.credit0 - 1 else x.credit0, credit1 := if p = 0 then x.credit1 else x.credit1 - 1,
          queue := x.queue ++ [{ port := p, frame := s.clk.frame, bytes := e.bytes }] })) ∧
      (entryN e.bytes 0 1 = 2 → ∃ t, exec (.note p c e) s = .next t ∧ (s.entryOk e.bytes = false → bad t) ∧
        (s.entryOk e.bytes = true →
          let g := arg % 256
          let q := arg / 256 % 8
          (QueueOpen s g c q → QueueRoom s g c q → Completes s t p c 2 0 e ∧
            Accepted s t g c q (s.node * 2 ^ 44 + 255) ((e.bytes.drop 16).take (entryN e.bytes 2 2))) ∧
          (¬QueueOpen s g c q ∨ ¬QueueRoom s g c q → Completes s t p c 2 5 e ∧ t.mem = s.mem))) ∧
      (entryN e.bytes 0 1 = 3 → ∃ t, exec (.token p c e) s = .next t ∧ t.mem = s.mem ∧ (s.entryOk e.bytes = false → bad t) ∧
        (s.entryOk e.bytes = true →
          let g := arg % 256
          let k := 30 + arg / 256 % 2
          let sum := s.f F.CORE_TOKEN_COUNT g c k + arg / 65536 % 256
          (4095 < sum → Completes s t p c 2 4 e ∧ t.f F.CORE_TOKEN_COUNT g c k = s.f F.CORE_TOKEN_COUNT g c k) ∧
          (sum ≤ 4095 → s.occupied g c = true → Completes s t p c 2 0 e ∧ t.f F.CORE_TOKEN_COUNT g c k = sum)))) ∧
    (∃ t, exec (.intakeDeadlineExpiry c) s = .next t ∧ t.mem = s.mem ∧
      let limit := s.f F.FRM_IN_DEADLINE_FRAMES c
      let late := x.queue.filter (fun r => decide (limit ≠ 0 ∧ limit < s.clk.frame - r.frame))
      let acts := s.atTick = true ∧ s.halted c = false ∧ late ≠ []
      (¬acts → t = s) ∧
      (acts → t.svc c = { x with
          queue := x.queue.filter (fun r => !decide (limit ≠ 0 ∧ limit < s.clk.frame - r.frame))
          cpls := x.cpls ++ late.map (fun r => { port := r.port, order := 4, tag := entryTag r.bytes, status := 2, op := 1 }) } ∧
        t.f F.FRM_IN_DEFERRED_COUNT c = (s.f F.FRM_IN_DEFERRED_COUNT c + late.length) % 2 ^ F.FRM_IN_DEFERRED_COUNT.len ∧
        bitN (t.f F.FRM_EVENT_DEFERRED) c = true)))
/-! ### Start-up, reset and the steward -/

namespace Sys2Proof.Claims

/-- An image of a type starts: the slot marked active verifies, or the other does (R360). -/
def Starts (s : State) (type : Nat) : Prop :=
  s.fwVerify type (s.fwActive type) = 0 ∨ s.fwVerify type (1 - s.fwActive type) = 0

/-- HIF_BOOT reports a FAIL code and a state (Table HOST-10). -/
def Booted (t : State) (fail st : Nat) : Prop := t.f F.HIF_BOOT_FAIL = fail ∧ t.f F.HIF_BOOT_STATE = st

/-- The package has lost power: nothing runs, HBM, scratchpads and instruction stores read 0, the host memories stay. -/
def FromCold (s t : State) : Prop :=
  t.clk = {} ∧ t.ctxs = [] ∧ t.strands = [] ∧ t.cores = [] ∧ t.poison = [] ∧
  (∀ a, a < 2 ^ 70 → t.mem.get a = 0) ∧ ∀ a, 2 ^ 70 ≤ a → t.mem.get a = s.mem.get a

/-- What a start of the package ends with (Table HOST-10): a rail or a stack that fails, an image that does not verify. -/
def PackageStarts (s t : State) (info : ColdInfo) : Prop :=
  (info.rail = true → Booted t 4 3 ∧ t.pwr.off = true) ∧
  (info.rail = false → t.pwr.off = false ∧
    (info.hbm = true → Booted t 5 3) ∧
    (info.hbm = false → (¬Starts s 3 → Booted t 3 2) ∧ (Starts s 3 → ¬Starts s 2 → Booted t 2 1) ∧
      (Starts s 3 → Starts s 2 → Booted t 0 1)))

/-- The steward has answered a command where it came from (R364, R365): a code and data. -/
def Answered (t : State) (via : Via) (code : Nat) (data : List Byte) : Prop :=
  match via with
  | .smbus _ => Out.smbus code data ∈ t.out
  | .port p => Out.vdm p code data ∈ t.out
  | .mailbox p => t.f F.HIF_MBX_CODE p = code ∧ t.f F.HIF_MBX_LEN p = (data.take 4096).length ∧ t.fb F.HIF_MBX_BUSY p = false ∧
      t.stw.jobs = [] ∧ ∀ i, i < (data.take 4096).length → t.mem.get (mbxKey p (0x8000 + i)) = data.getD i 0

/-- The commands of Table HOST-13 that take a request. -/
def stewardOps : List (Nat × (Via → List Byte → Instr)) :=
  [(1, fun v _ => .getStatus v), (2, .readSensors), (3, .readCairn), (4, .attest), (5, .getCerts), (6, .fwWrite), (7, .fwVerify),
   (8, .fwActivate), (9, .reset), (10, .calUser)]

/-- The request of a command: its message's, or that of the mailbox after the command code. -/
def request (s : State) (via : Via) (body : List Byte) : List Byte :=
  match via with
  | .mailbox p => (s.mbxBody p).drop 1
  | _ => body

/-- A command of a mailbox is the oldest that the steward has, or one over MCTP arrives with none before it. -/
def Due (s : State) (via : Via) (code : Nat) : Prop :=
  s.hears via = true ∧ (code = 10 → s.f F.TXN_STATUS_STATE 2 = 0) ∧
  match via with
  | .mailbox p => s.stw.jobs = [.mailbox p] ∧ s.mbxCode p = some code
  | _ => s.stw.jobs = []

/-- A command is due, by a source that may give it, and of at most 4,096 B with its code. -/
def Served (s : State) (via : Via) (code : Nat) (body : List Byte) : Prop :=
  Due s via code ∧ (6 ≤ code → code ≤ 9 → s.authorised (viaPort via) = true) ∧ (request s via body).length < 4096

/-- The message that a command over MCTP is (R364). -/
def message (via : Via) (code : Nat) (body : List Byte) : Job := .mctp via 0x7E ([0x1D, 0x7E, BitVec.ofNat 8 code] ++ body)

end Sys2Proof.Claims

/-- R347, R357 to R359, R398, R408, Table HOST-10: a cold start finds every on-package memory 0 and ends with the FAIL code
and state of the first check that failed; without PWR_EN the package stays off. A warm reset keeps HBM and the host memories,
empties every context, counts itself and ends as the images that it loads do. A port reset returns the port's own registers to their reset values and ends its
owner's transaction. A port trains once PERST# is deasserted and the module is ready, at the highest rate and width of both
ends. What it rests on beside the rules: log
entries 8, 42, 43 and 44. -/
def Obligations.StartsAndResets : Prop :=
  (∀ (s : State) (info : ColdInfo), ∃ t, exec (.coldStart info) s = .next t ∧ FromCold s t ∧
    (¬Starts s 1 → Booted t 1 2) ∧
    (Starts s 1 → s.pwr.en = false → t.pwr.off = true) ∧
    (Starts s 1 → s.pwr.en = true → PackageStarts s t info)) ∧
  (∀ (s : State) (info : ColdInfo), ∃ t, exec (.inputReconnect info) s = .next t ∧ (s.pwr.input = true → t = s) ∧
    (s.pwr.input = false → FromCold s t ∧ (¬Starts s 1 → Booted t 1 2) ∧
      (Starts s 1 → s.pwr.en = true → PackageStarts s t info))) ∧
  (∀ (s : State) (info : ColdInfo), ∃ t, exec (.pwrEnAssert info) s = .next t ∧ t.pwr.en = true ∧
    (s.pwr.en = true → t = s) ∧
    let starts := s.pwr.off = true ∧ s.pwr.standby = true ∧ s.f F.HIF_BOOT_FAIL ≠ 1
    (s.pwr.en = false → ¬starts → t = { s with pwr := t.pwr }) ∧
    (s.pwr.en = false → starts → FromCold s t ∧ PackageStarts s t info)) ∧
  (∀ (s : State) (src : Nat), ∃ t, exec (.warmReset src) s = .next t ∧
    let may := s.authorised src = true ∧ s.dark = false ∧ s.pwr.sd = none
    let loads (type : Nat) : Prop := type ∉ s.stw.marked ∧ (s.fwCopy type).isSome = true ∨ Starts s type
    (¬may → t = s) ∧
    (may → t.ctxs = [] ∧ t.strands = [] ∧ t.cores = [] ∧ t.clk = { now := s.clk.now, cyc := s.clk.cyc } ∧
      (∀ a, a < 2 ^ 44 ∨ 2 ^ 70 ≤ a → t.mem.get a = s.mem.get a) ∧ (∀ a, 2 ^ 44 ≤ a → a < 2 ^ 70 → t.mem.get a = 0) ∧
      t.fb F.HIF_BOOT_WARM = true ∧
      t.f F.HIF_BOOT_WARM_COUNT = (s.f F.HIF_BOOT_WARM_COUNT + 1) % 2 ^ F.HIF_BOOT_WARM_COUNT.len ∧
      (∀ o, o < 3 → s.f F.TXN_STATUS_STATE o ≠ 0 → t.f F.TXN_STATUS_STATE o = 0 ∧ t.f F.TXN_STATUS_RESULT o = 5) ∧
      (¬loads 3 → Booted t 3 2) ∧ (loads 3 → ¬loads 2 → Booted t 2 1) ∧ (loads 3 → loads 2 → Booted t 0 1))) ∧
  (∀ (s : State) (p : Nat) (kind : PortReset), ∃ t, exec (.pciePortReset p kind) s = .next t ∧ t.mem = s.mem ∧
    (2 ≤ p → t = s) ∧ (s.dark = true → t = { s with perst := t.perst }) ∧
    (kind ≠ .perst → t.perst = s.perst) ∧ (p < 2 → kind = .perst → t.perst = s.perst.filter (· ≠ p)) ∧
    (p < 2 → s.dark = false → t.fn p = {} ∧ (∀ v, (p, v) ∉ t.msixPend) ∧
      (∀ n ∈ ringNames, ∀ c, c < 4 → t.reg ⟨n, c, p, 0⟩ = (⟨n, c, p, 0⟩ : Reg).resetVal ∧
        t.reg ⟨n, c, 1 - p, 0⟩ = s.reg ⟨n, c, 1 - p, 0⟩) ∧
      t.reg ⟨.HIF_APT, p, 0, 0⟩ = (⟨.HIF_APT, p, 0, 0⟩ : Reg).resetVal ∧
      t.reg ⟨.HIF_MBX, p, 0, 0⟩ = (⟨.HIF_MBX, p, 0, 0⟩ : Reg).resetVal ∧ t.bme p = false ∧
      (s.f F.TXN_STATUS_STATE p ≠ 0 → t.f F.TXN_STATUS_STATE p = 0 ∧ t.f F.TXN_STATUS_RESULT p = 5) ∧
      (kind = .flr → bitN (t.f F.HIF_EVENT_PORT_RESET) p = true))) ∧
  (∀ (s : State) (p : Nat), ∃ t, exec (.perstDeassert p) s = .next t ∧ t = { s with perst := t.perst } ∧
    ∀ q, q ∈ t.perst ↔ q ∈ s.perst ∨ (q = p ∧ p < 2)) ∧
  (∀ (s : State) (p : Nat) (far : PcieEnd), ∃ t, exec (.pcieLinkUp p far) s = .next t ∧
    let may := p < 2 ∧ s.f F.HIF_BOOT_STATE = 1 ∧ p ∈ s.perst ∧ far.ok = true
    let speed := Min.min 6 far.speed
    (¬may → t = s) ∧
    (may → t.fb F.HIF_LINK_UP p = true ∧ t.f F.HIF_LINK_SPEED p = speed ∧ t.f F.HIF_LINK_WIDTH p = Min.min 8 far.width ∧
      (t.fb F.HIF_LINK_FLIT p = true ↔ speed = 6 ∨ far.flit = true) ∧
      (s.fb F.HIF_LINK_UP p = false → bitN (t.f F.HIF_EVENT_PORT_RESET) p = true) ∧ t.mem = s.mem))

/-- R344, R359 to R365, R380, R381, R385, R393: the steward serves one command at a time in arrival order: one over MCTP waits
behind a mailbox's, a mailbox's that is not due has no effect. One of a source that may not give it is answered with 2, a
malformed one with 3, an unknown one with 1. GET_STATUS, READ_SENSORS, READ_CAIRN, ATTEST and GET_CERTS answer with their data;
FW_WRITE stores its bytes in the slot, whose image has then not run, FW_VERIFY answers with the step that failed, FW_ACTIVATE
marks the slot and raises the fused minimum SVN where it may; RESET resets; CAL_USER stages and commits one offset. What it
rests on beside the rules: log entries 8, 33 and 35. -/
def Obligations.TheStewardServes : Prop :=
  ∀ (s : State) (via : Via) (body : List Byte),
    let b := request s via body
    let type := (b.headD 0).toNat
    let ab := ((b.drop 1).headD 0).toNat
    let slot := 2 * (type - 1) + ab
    let target := 2 ≤ b.length ∧ 1 ≤ type ∧ type ≤ 3 ∧ ab < 2
    let mctp := ∀ p, via ≠ .mailbox p
    (∀ x ∈ stewardOps, (mctp → s.hears via = false) → (∀ p, via = .mailbox p → s.due p x.1 = false) →
      exec (x.2 via body) s = .next s) ∧
    (∀ x ∈ stewardOps, ∀ p js, mctp → s.hears via = true → s.stw.jobs = .mailbox p :: js → s.mbxCode p ≠ none →
      exec (x.2 via (if x.1 = 1 then [] else body)) s = .next { s with stw := { s.stw with
        jobs := s.stw.jobs ++ [message via x.1 (if x.1 = 1 then [] else body)] } }) ∧
    (∀ x ∈ stewardOps, Due s via x.1 → 6 ≤ x.1 → x.1 ≤ 9 → s.authorised (viaPort via) = false →
      ∃ t, exec (x.2 via body) s = .next t ∧ Answered t via 2 [] ∧ t.stw.fw = s.stw.fw ∧ t.pwr = s.pwr ∧ t.clk = s.clk) ∧
    (∀ x ∈ stewardOps, Due s via x.1 → x.1 ≠ 1 → (6 ≤ x.1 → x.1 ≤ 9 → s.authorised (viaPort via) = true) → 4096 ≤ b.length →
      ∃ t, exec (x.2 via body) s = .next t ∧ Answered t via 3 [] ∧ t.stw.fw = s.stw.fw ∧ t.txns = s.txns) ∧
    (mctp → s.stw.jobs = [] → ∀ kind : Byte, ∃ t, exec (.mctpControlMessage via (kind :: body)) s = .next t ∧
      let i := match via with
        | .port p => 1 + p
        | _ => 0
      (s.hears via = false → t = s) ∧
      (s.hears via = true → kind = 0 → Answered t via 0 (Config.mctpAnswer (SMap.get 0 s.stw.eids i) body) ∧
        SMap.get 0 t.stw.eids i = Config.mctpEid (SMap.get 0 s.stw.eids i) body ∧ t.regs = s.regs ∧ t.mem = s.mem) ∧
      (kind ≠ 0 → kind ≠ 0x7E → t = s) ∧
      ∀ code rest, s.hears via = true → kind = 0x7E → body = [0x1D, 0x7E, code] ++ rest → code = 0 ∨ 10 < code.toNat →
        rest.length < 4096 → Answered t via 1 [] ∧ t.regs = s.regs ∧ t.mem = s.mem) ∧
    (Served s via 1 [] → ∃ t, exec (.getStatus via) s = .next t ∧ Answered t via 0
      (le 8 (s.reg ⟨.HIF_BOOT, 0, 0, 0⟩).toNat ++ le 1 (s.f F.HIF_BOOT_STATE) ++ le 1 (s.f F.HIF_BOOT_FAIL))) ∧
    (Served s via 2 body → ∃ t, exec (.readSensors via body) s = .next t ∧
      (22 < b.length → Answered t via 3 []) ∧
      ∀ i raw, b.length ≤ 22 → i < 176 → ofLE b = 2 ^ i → SMap.get none s.stw.sensors i = some raw →
        let factory := bits (s.reg ⟨.CAL_FACTORY, i, 0, 0⟩) 0 16
        let user := bits (s.reg ⟨.CAL_USER, i, 0, 0⟩) 0 16
        Answered t via 0 (le 2 i ++ le 2 0 ++ le 2 (raw + factory + user) ++ le 2 factory ++ le 2 user ++
          le 1 (if i ∈ s.stw.tsOut ∨ i ∈ s.stw.vmOut then 1 else 0) ++ List.replicate 5 0)) ∧
    (Served s via 3 body → ∃ t, exec (.readCairn via body) s = .next t ∧
      (b.length ≠ 12 ∨ 64 < ofLE (b.drop 8) → Answered t via 3 []) ∧
      ∀ n rec, b.length = 12 → ofLE (b.drop 8) = 1 → ofLE (b.take 8) = n → n ≤ s.stw.logSeq →
        s.stw.cairn[s.stw.logSeq - n]? = some rec → Answered t via 0 rec) ∧
    (Served s via 4 body → ∃ t, exec (.attest via body) s = .next t ∧
      let r := s.report b
      (b.length ≠ 32 → Answered t via 3 []) ∧
      (b.length = 32 → r.take 4 = le 4 0x4B4D4154 ∧ (r.drop 0x18).take 32 = b ∧ ∃ rnd, rnd.length = 32 ∧
        Answered t via 0 (r ++ edSign Config.edSeed r ++ mldsaSign Config.mldsaSeed rnd r))) ∧
    (Served s via 5 body → ∃ t, exec (.getCerts via body) s = .next t ∧
      (b.length ≠ 1 ∨ 1 < ofLE b → Answered t via 3 []) ∧
      (b.length = 1 → ofLE b ≤ 1 → Answered t via 0 (Config.certChain (ofLE b)))) ∧
    (Served s via 6 body → ∃ t, exec (.fwWrite via body) s = .next t ∧
      let o := ofLE ((b.drop 2).take 4)
      let data := b.drop 6
      let bad := ¬target ∨ b.length < 6 ∨ 0x2000 + 2 ^ 25 < o + data.length
      (bad → Answered t via 3 [] ∧ t.stw.fw = s.stw.fw) ∧
      (¬bad → Answered t via 0 [] ∧ slot ∉ t.stw.ran ∧
        (∀ i, i < data.length → SMap.get none t.stw.fw (slot * 2 ^ 26 + o + i) = some (data.getD i 0)) ∧
        ∀ a, a < slot * 2 ^ 26 + o ∨ slot * 2 ^ 26 + o + data.length ≤ a →
          SMap.get none t.stw.fw a = SMap.get none s.stw.fw a)) ∧
    (Served s via 7 body → ∃ t, exec (.fwVerify via body) s = .next t ∧ (¬target → Answered t via 3 []) ∧
      (target → s.fwVerify type ab = 0 → Answered t via 0 [0]) ∧
      (target → s.fwVerify type ab ≠ 0 → Answered t via 4 (le 1 (s.fwVerify type ab)) ∧ t.fb F.HIF_EVENT_FW_FAIL = true)) ∧
    (Served s via 8 body → ∃ t, exec (.fwActivate via body) s = .next t ∧
      let bad := ¬target ∨ b.length ≠ 3 ∨ 1 < ofLE (b.drop 2)
      let old := SMap.get 0 s.stw.svn type
      (bad → Answered t via 3 [] ∧ t.stw.active = s.stw.active ∧ t.stw.svn = s.stw.svn) ∧
      (¬bad → Answered t via 0 [] ∧ SMap.get 0 t.stw.active type = ab ∧ type ∈ t.stw.marked ∧
        (∀ y, y ≠ type → SMap.get 0 t.stw.svn y = SMap.get 0 s.stw.svn y) ∧
        SMap.get 0 t.stw.svn type =
          if ofLE (b.drop 2) = 1 ∧ slot ∈ s.stw.ran then Max.max old (s.fwSvn slot) else old)) ∧
    (Served s via 9 body → ∃ t, exec (.reset via body) s = .next t ∧
      let may := b.length = 1 ∧ s.dark = false ∧ s.pwr.sd = none
      (b.length ≠ 1 ∨ 1 < ofLE b → Answered t via 3 []) ∧
      (may → ofLE b = 0 → t.fb F.HIF_BOOT_WARM = true ∧ t.ctxs = [] ∧ (mctp → Answered t via 0 [])) ∧
      (may → ofLE b = 1 → Answered t via 0 [] ∧ t.fb F.PWR_STATUS_PENDING = true ∧
        t.pwr.sd = some { thermal := false, restart := true, due := s.clk.now + 100000 * s.f F.PWR_SD_NOTICE })) ∧
    (Served s via 10 body → ∃ t, exec (.calUser via body) s = .next t ∧
      let i := ofLE (b.take 2)
      let r : Reg := ⟨.CAL_USER, i, 0, 0⟩
      (b.length ≠ 10 ∨ 336 < i → Answered t via 3 [] ∧ t.txns = s.txns) ∧
      (b.length = 10 → i ≤ 336 → (∀ d, d < 2 → s.f F.TXN_STATUS_STATE d ≠ 0 → ∀ w, (r, w) ∉ (s.txn d).staged) →
        Answered t via 0 [] ∧ t.f F.TXN_STATUS_STATE 2 = 2 ∧
        (t.txn 2).staged = [(r, BitVec.ofNat 64 (ofLE (b.drop 2)) &&& rtMask .CAL_USER)])) ∧
    (mctp → s.hears via = true → s.stw.jobs = [] → s.f F.TXN_STATUS_STATE 2 ≠ 0 →
      exec (.calUser via body) s = .next { s with stw := { s.stw with jobs := [message via 10 body] } })

/-! ### Self-test, errors and life records -/

namespace Sys2Proof.Claims

/-- t is s but for the registers of some names, what the steward keeps, and the interrupt vectors sent. -/
def Reports (s t : State) (names : List RegName) : Prop :=
  t = { s with regs := t.regs, stw := t.stw, msixPend := t.msixPend, out := t.out, freeCtr := t.freeCtr, ceAt := t.ceAt, ueAt := t.ueAt } ∧
  ∀ r : Reg, r.name ∉ names → t.reg r = s.reg r

/-- One more cairn record, of a type (R385). -/
def Logged (s t : State) (type : Nat) : Prop :=
  t.stw.logSeq = s.stw.logSeq + 1 ∧ ((t.stw.cairn.headD []).drop 4).take 2 = le 2 type

/-- A fatal error of a code: every context is halted (R370). -/
def FatalError (s t : State) (code phys : Nat) : Prop :=
  t.f F.ERR_FATAL_CODE = code ∧ t.f F.ERR_FATAL_PHYS = phys ∧ t.fb F.ERR_EVENT_FATAL = true ∧
  ((t.stw.cairn.headD []).drop 4).take 2 = le 2 9 ∧
  t.stw.life.fatal = s.stw.life.fatal + 1 ∧ ∀ c, c < 4 → t.fb F.CORE_CTX_HALT_HALTED c = true

/-- One more uncorrectable error of a unit (R367, R369). -/
def CountedUE (s t : State) (unit : Nat) : Prop :=
  t.f F.ERR_UE_COUNT_COUNT unit = (s.f F.ERR_UE_COUNT_COUNT unit + 1) % 2 ^ 64 ∧ t.fb F.ERR_EVENT_UE = true

/-- A failed analogue check (R375). -/
def AnalogFailed (t : State) (kind phys addr : Nat) : Prop :=
  t.f F.BIST_FAIL_LAST_SOURCE = 3 ∧ t.f F.BIST_FAIL_LAST_KIND = kind ∧ t.f F.BIST_FAIL_LAST_PHYS = phys ∧
  t.f F.BIST_FAIL_ADDR_ADDR = addr ∧ t.fb F.BIST_EVENT_ANALOG_FAIL = true ∧ t.fb F.ERR_EVENT_ANALOG = true

/-- Core g may begin a slice of its self-test now (R372). -/
def SliceMay (s : State) (g : Nat) : Prop :=
  s.fb F.BIST_RT_CFG_EN = true ∧ s.coreOk g = true ∧
  (3 < s.ownerOf g ∨ ∀ x ∈ (s.ctx g (s.ownerOf g)).frames, x.frame ≠ s.clk.frame) ∧
  (∀ c, c < 4 → (s.ctx g c).ready = []) ∧ (s.core g).mtxq = [] ∧ (s.core g).vecq = [] ∧ (∀ ch, ch < 16 → s.chState g ch = 0) ∧
  s.clk.frame % (s.f F.BIST_RT_CFG_GROUPS_M1 + 1) = g / 8 % (s.f F.BIST_RT_CFG_GROUPS_M1 + 1) ∧
  s.slicesNow g < s.f F.BIST_RT_CFG_MAX_PER_FRAME

/-- The readings of distinct sensors in a range are kept, those of all others stand. -/
def SensorsKept (s t : State) (lo hi : Nat) (readings : List (Nat × Nat)) : Prop :=
  (readings.map Prod.fst).Nodup →
    (∀ x ∈ readings, lo ≤ x.1 → x.1 < hi → SMap.get none t.stw.sensors x.1 = some (x.2 % 65536)) ∧
    ∀ i, i < lo ∨ hi ≤ i ∨ i ∉ readings.map Prod.fst → SMap.get none t.stw.sensors i = SMap.get none s.stw.sensors i

end Sys2Proof.Claims

/-- R367 to R373, R375, R376, R378, R382, R383, R386: errors of each unit, scrub reads, slices, analogue checks, loop-backs and
shorts are counted, recorded and reported as their rules give; an error marks what holds it, and one of control state, the
eighth replay and a loss of lock are fatal. The counters are mirrored, when the steward takes a job that waited, and committed, wear grows by the Arrhenius factor (DESIGN CHOICE, log entry 37, of its rounding; 1.852 at 95 °C and
0.2615 at 65 °C), and the clock is set while nothing better sets it. What it rests on beside the rules: log entries 8, 34, 36,
47 and 85. -/
def Obligations.SelfTestsErrorsAndLifeRecords : Prop :=
  (∀ (s : State) (e : UnitErr), ∃ t, exec (.meshFlitError e) s = .next t ∧ t.mem = s.mem ∧ (s.pwr.off = true → t = s) ∧
    (s.pwr.off = false →
      (∀ n, e = .flit n → 8 ≤ n → FatalError s t 2 0x1FF) ∧
      (∀ n, e = .flit n → n < 8 → Reports s t [.ERR_CE_COUNT, .ERR_LAST_CE, .ERR_LAST_CE_ADDR, .ERR_EVENT] ∧
        t.f F.ERR_CE_COUNT_COUNT 6 = (s.f F.ERR_CE_COUNT_COUNT 6 + 1) % 2 ^ 64 ∧
        (t.f F.ERR_LAST_CE_UNIT = 6 ∨ s.ceAt = some s.clk.now) ∧ t.fb F.ERR_EVENT_CE = true ∧ t.stw = s.stw) ∧
      (∀ unit g a bit, e = .corrected unit g a bit → 1 ≤ unit → unit ≤ 4 → t.fb F.ERR_EVENT_CE = true ∧
        t.f F.ERR_CE_COUNT_COUNT unit = (s.f F.ERR_CE_COUNT_COUNT unit + 1) % 2 ^ 64 ∧
        (SMap.get 0 s.weak (unit, g * 2 ^ 40 + a) = 3 → t.fb F.ERR_EVENT_WEAK = true ∧ Logged s t 15)) ∧
      (∀ g n, e = .instr g n → n < 32768 → s.instrBad (istoreKey g (8 * n)) = false →
        t.instrBad (istoreKey g (8 * n)) = true ∧ CountedUE s t 1) ∧
      (∀ g c a, e = .acc g c a → a < 2 → s.accMode g c a ≠ 0 → s.accBad g c a = false →
        t.accBad g c a = true ∧ CountedUE s t 2) ∧
      (∀ n m, e = .transit n → s.transit[n]? = some m →
        t.transit[n]? = some { m with poison := true } ∧ CountedUE s t 2) ∧
      (∀ g id x, e = .buffer g id → x ∈ (s.core g).bursts → x.id = id →
        { x with poison := true } ∈ (t.core g).bursts ∧ CountedUE s t 3) ∧
      (∀ g seq o, e = .spur g seq → o ∈ (s.core g).spurq → o.seq = seq →
        { o with poison := true } ∈ (t.core g).spurq ∧ CountedUE s t 3) ∧
      (∀ g, e = .control g → FatalError s t 1 (g.elim 0x1FF s.physCore) ∧ CountedUE s t 4) ∧
      (e = .store → t.fb F.ERR_ENV_NVS_COPY = true ∧ t.fb F.ERR_EVENT_ENV = true ∧ CountedUE s t 9) ∧
      (∀ p ce ue, e = .pcie p ce ue → t = { s with fns := t.fns } ∧
        (t.fn p).aerCe = (BitVec.ofNat 32 (s.fn p).aerCe ||| BitVec.ofNat 32 ce).toNat ∧
        (t.fn p).aerUe = (BitVec.ofNat 32 (s.fn p).aerUe ||| BitVec.ofNat 32 ue).toNat))) ∧
  (∀ (s : State) (n : Nat), exec (.correctedWriteback n) s = .next { s with wback := s.wback.eraseIdx n }) ∧
  (∀ (s : State) (err : MemErr), ∃ t, exec (.hbmScrubRead err) s = .next t ∧ t.mem = s.mem ∧
    let may := s.pwr.off = false ∧ s.f F.ERR_SCRUB_PERIOD ≠ 0
    (¬may → t = s) ∧
    (may → s.scrubAt < hbmSize / 64 →
      t.scrubAt = (s.scrubAt + 1) % (hbmSize / 64) ∧
      (s.scrubAt + 1 = hbmSize / 64 → t.f F.ERR_SCRUB_STAT_PASSES = (s.f F.ERR_SCRUB_STAT_PASSES + 1) % 2 ^ 32) ∧
      (∀ b, err = .corrected b → t.f F.ERR_CE_COUNT_COUNT 5 = (s.f F.ERR_CE_COUNT_COUNT 5 + 1) % 2 ^ 64 ∧
        (t.f F.ERR_LAST_CE_ADDR_ADDR = 64 * s.scrubAt ∨ s.ceAt = some s.clk.now) ∧ t.poison = s.poison) ∧
      (err = .uncorrectable → s.poisoned (hbmKey (64 * s.scrubAt)) 1 = false →
        t.poisoned (hbmKey (64 * s.scrubAt)) 1 = true ∧ t.fb F.ERR_EVENT_UE = true ∧
        t.f F.ERR_UE_COUNT_COUNT 5 = (s.f F.ERR_UE_COUNT_COUNT 5 + 1) % 2 ^ 64 ∧
        t.f F.ERR_SCRUB_STAT_FOUND = (s.f F.ERR_SCRUB_STAT_FOUND + 1) % 2 ^ 32))) ∧
  (∀ (s : State) (g : Nat) (fail : Option Fail), ∃ t, exec (.bistSlice g fail) s = .next t ∧ t.mem = s.mem ∧
    (¬SliceMay s g → t = s) ∧ (fail = none → t.poison = s.poison ∧ t.repairDue = s.repairDue) ∧
    (SliceMay s g → SMap.get 0 t.slices g = SMap.get 0 s.slices g + 1 ∧ t.slicesNow g = s.slicesNow g + 1 ∧
      ∀ x, fail = some x →
        let n := SMap.get 0 s.slices g % 1664
        let row : Fail := if n < 1536 then { x with kind := 0, phys := s.physCore g, addr := 2048 * n + x.addr % 2048 }
          else { x with kind := 1, phys := s.physCore g, addr := 256 * (n - 1536) + x.addr % 256 }
        t.repairDue = s.repairDue ++ [row] ∧ t.f F.BIST_FAIL_LAST_SOURCE = 1 ∧ t.f F.BIST_FAIL_LAST_KIND = row.kind ∧
        t.f F.BIST_FAIL_ADDR_ADDR = row.addr ∧ t.f F.BIST_FAIL_COUNT_COUNT = (s.f F.BIST_FAIL_COUNT_COUNT + 1) % 2 ^ 64 ∧
        t.fb F.BIST_EVENT_RT_FAIL = true ∧
        let word (y : Fail) : Nat := if y.kind = 0 then y.addr / 8 else y.addr
        let second := ∃ y ∈ s.repairDue, y.kind = row.kind ∧ y.phys = row.phys ∧ word y = word row ∧ y.bit ≠ row.bit
        (¬second → Logged s t 4 ∧ t.poison = s.poison) ∧
        (second → row.kind = 0 → t.poisoned (spadKey g row.addr) 1 = true) ∧
        (second → row.kind = 1 → t.instrBad (istoreKey g (8 * row.addr)) = true))) ∧
  (∀ (s : State) (die : Nat), ∃ t, exec (.pllLockLoss die) s = .next t ∧ (s.pwr.off = true ∨ 1 < die → t = s) ∧
    (s.pwr.off = false → die < 2 → bitN (t.f F.BIST_ANA_STAT_PLL_LOCK) die = false ∧
      bitN (t.f F.BIST_ANA_STAT_PLL_LOCK) (1 - die) = bitN (s.f F.BIST_ANA_STAT_PLL_LOCK) (1 - die) ∧
      AnalogFailed t 7 0x1FF die ∧ FatalError s t 3 0x1FF)) ∧
  (∀ (s : State) (die : Nat) (err : BitVec 16), ∃ t, exec (.pllFrequencyCheck die err) s = .next t ∧ t.mem = s.mem ∧
    (s.pwr.off = true ∨ 1 < die → t = s) ∧
    (s.pwr.off = false → die < 2 →
      let bad := 1000 < err.toInt.natAbs
      (signedN 16 (t.f F.BIST_ANA_STAT_FREQ_ERR)).natAbs =
        Max.max (signedN 16 (s.f F.BIST_ANA_STAT_FREQ_ERR)).natAbs err.toInt.natAbs ∧
      (t.fb F.BIST_ANA_STAT_FREQ_OK = true ↔ ¬bad ∧ ∀ d ∈ s.pwr.pllOut, d = die) ∧
      (bad → AnalogFailed t 7 0x1FF die ∧ die ∈ t.pwr.pllOut ∧ t.f F.PWR_STATUS_CLK = s.f F.PWR_STATUS_CLK) ∧
      (¬bad → bitN (t.f F.BIST_ANA_STAT_PLL_LOCK) die = true ∧ die ∉ t.pwr.pllOut ∧
        (t.pwr.pllOut ≠ [] → t.f F.PWR_STATUS_CLK = s.f F.PWR_STATUS_CLK)))) ∧
  (∀ (s : State) (readings : List (Nat × Nat)) (bad : Option Nat), ∃ t, exec (.thermalSensorCrossCheck readings bad) s = .next t ∧
    Reports s t [.ERR_ENV, .BIST_FAIL_LAST, .BIST_FAIL_ADDR, .BIST_EVENT, .ERR_EVENT] ∧ (s.pwr.off = true → t = s) ∧
    (s.pwr.off = false → SensorsKept s t 0 128 readings ∧ (bad = none → t.regs = s.regs) ∧
      ∀ i, bad = some i → i < 128 → i ∉ s.stw.tsOut →
        t.stw.tsOut = s.stw.tsOut ++ [i] ∧ t.fb F.ERR_ENV_TS_EXCLUDED = true ∧ AnalogFailed t 8 0x1FF i)) ∧
  (∀ (s : State) (readings : List (Nat × Nat)) (bad : Option Nat), ∃ t, exec (.voltageMonitorCheck readings bad) s = .next t ∧
    Reports s t [.ERR_ENV, .BIST_FAIL_LAST, .BIST_FAIL_ADDR, .BIST_EVENT, .ERR_EVENT] ∧ (s.pwr.off = true → t = s) ∧
    (s.pwr.off = false → SensorsKept s t 128 176 readings ∧ (bad = none → t.regs = s.regs) ∧
      ∀ i, bad = some i → 128 ≤ i → i < 176 → i ∉ s.stw.vmOut →
        t.stw.vmOut = s.stw.vmOut ++ [i] ∧ t.fb F.ERR_ENV_VM_EXCLUDED = true ∧ AnalogFailed t 8 0x1FF i)) ∧
  (∀ (s : State) (v : Word), ∃ t, exec (.bistLoopGo v) s = .next t ∧
    t = { s with regs := t.regs, loopback := t.loopback } ∧
    (∀ r : Reg, r.name ∉ [.BIST_LOOP_CTRL, .BIST_LOOP_STAT] → t.reg r = s.reg r) ∧
    t.f F.BIST_LOOP_CTRL_PORT = bits v 0 4 ∧ t.f F.BIST_LOOP_CTRL_MODE = bits v 4 2 ∧
    let go := bit v 6 = true ∧ (bits v 4 2 = 1 ∨ bits v 4 2 = 2) ∧ s.fb F.BIST_LOOP_STAT_BUSY = false ∧
      s.fb F.NET_PORT_CFG_ENABLE (bits v 0 4) = false
    (go → t.loopback = some ⟨bits v 0 4, bits v 4 2, s.clk.now + 1000000000⟩ ∧ t.fb F.BIST_LOOP_STAT_BUSY = true ∧ t.f F.BIST_LOOP_STAT_LANE_FAIL = 0 ∧
      t.f F.BIST_LOOP_STAT_ERRORS = 0) ∧
    (¬go → t.loopback = s.loopback ∧ t.reg ⟨.BIST_LOOP_STAT, 0, 0, 0⟩ = s.reg ⟨.BIST_LOOP_STAT, 0, 0, 0⟩)) ∧
  (∀ (s : State) (lanes errors : Nat), ∃ t, exec (.loopDone lanes errors) s = .next t ∧
    ((∀ x, s.loopback = some x → s.clk.now < x.due) → t = s) ∧
    (∀ x, s.loopback = some x → x.due ≤ s.clk.now → t.loopback = none ∧ t.fb F.BIST_LOOP_STAT_BUSY = false ∧ t.f F.BIST_LOOP_STAT_LANE_FAIL = lanes % 256 ∧
      t.f F.BIST_LOOP_STAT_ERRORS = Min.min errors (2 ^ 32 - 1) ∧ t.fb F.BIST_EVENT_LOOP_DONE = true ∧ t.mem = s.mem ∧
      (x.mode ≠ 1 → t.stw = s.stw) ∧
      (x.mode = 1 → ∀ i, i < 8 → bitN lanes i = true →
        (⟨5, 8 * x.port + i, 0, 0, 0⟩ : Fail) ∈ t.stw.record ∧ t.fb F.BIST_EVENT_ANALOG_FAIL = true))) ∧
  (∀ (s : State) (pin : Nat), ∃ t, exec (.sidebandShort pin) s = .next t ∧
    Reports s t [.ERR_ENV, .ERR_EVENT, .LIFE_STATUS, .LIFE_EVENT] ∧ (s.pwr.off = true ∨ 7 < pin → t = s) ∧
    (s.pwr.off = false → pin < 8 → bitN (t.f F.ERR_ENV_SB_SHORT) pin = true ∧ t.fb F.ERR_EVENT_ENV = true ∧ Logged s t 10)) ∧
  (∀ (s : State) (via : Via) (b : List Byte), (∀ p, via ≠ .mailbox p) → s.stw.jobs = [message via 10 b] →
    s.f F.TXN_STATUS_STATE 2 = 0 → b.length = 10 → ofLE (b.take 2) ≤ 336 →
    ∃ t, exec .lifeCounterMirror s = .next t ∧ t.stw.jobs = [] ∧ t.f F.TXN_STATUS_STATE 2 = 2) ∧
  (∀ s : State, s.stw.jobs = [] → ∃ t, exec .lifeCounterMirror s = .next t ∧ t = { s with regs := t.regs } ∧
    (let x := s.stw.life
     t.f F.LIFE_POH_HOURS = x.seconds / 3600 % 2 ^ 64 ∧ t.f F.LIFE_CYCLES_POWER = x.power % 2 ^ 32 ∧
     t.f F.LIFE_CYCLES_THERMAL = x.thermal % 2 ^ 32 ∧
     (∀ i, i < 12 → t.f F.LIFE_HBM_CE_COUNT i = SMap.get 0 x.ce i % 2 ^ 64 ∧
       t.f F.LIFE_HBM_UE_COUNT i = SMap.get 0 x.ue i % 2 ^ 64) ∧
     t.f F.LIFE_REPAIRS_SPARES = x.spares % 2 ^ 16 ∧ t.f F.LIFE_REPAIRS_RETIRED = x.retired % 2 ^ 16 ∧
     t.f F.LIFE_REPAIRS_ROWS = x.rows % 2 ^ 16 ∧ t.f F.LIFE_REPAIRS_HBM_PPR = x.ppr % 2 ^ 16 ∧
     t.f F.LIFE_STATUS_LOG_SEQ = s.stw.logSeq % 2 ^ 32)) ∧
  (∀ s : State, exec .lifeCounterCommit s =
    .next (if s.pwr.standby then { s with stw := { s.stw with stored := s.stw.life } } else s)) ∧
  (∀ s : State, ∃ t, exec .wearAccumulate s = .next t ∧ t.regs = s.regs ∧ (s.pwr.off = true → t = s) ∧
    (s.pwr.off = false → ∀ d, d < 2 → ∃ w, SMap.get 0 t.stw.life.wear d = SMap.get 0 s.stw.life.wear d + w ∧
      let temp := s.f (if d = 0 then F.PWR_TEMP_TJ_EAST else F.PWR_TEMP_TJ_WEST)
      (temp = 85 → w = 2 ^ 64) ∧ (temp = 95 → 1851 * 2 ^ 64 < 1000 * w ∧ 1000 * w < 1853 * 2 ^ 64) ∧
      (temp = 65 → 2614 * 2 ^ 64 < 10000 * w ∧ 10000 * w < 2616 * 2 ^ 64))) ∧
  (∀ (s : State) (v : Word), ∃ t, exec (.lifeUtcSet v) s = .next t ∧ Reports s t [.LIFE_STATUS, .LIFE_EVENT] ∧
    (s.f F.FRM_SYNC_STATUS_STATE = 2 → t = s) ∧
    (s.f F.FRM_SYNC_STATUS_STATE ≠ 2 → t.stw.utc = v.toNat ∧ t.stw.utcOk = true ∧ t.fb F.LIFE_STATUS_UTC_VALID = true ∧
      t.f F.LIFE_STATUS_SOURCE = 3 ∧
      (s.stw.utc + 1 < v.toNat ∨ v.toNat + 1 < s.stw.utc → Logged s t 14) ∧
      (s.stw.utc ≤ v.toNat + 1 → v.toNat ≤ s.stw.utc + 1 → t.stw.cairn = s.stw.cairn)))

/-! ### Power, temperature and the orderly shutdown -/

namespace Sys2Proof.Claims

/-- t is s but for registers of some names, what the steward and the power stage keep, and the interrupt vectors sent: no
core, frame, transfer or byte of memory has changed. -/
def PowerOnly (s t : State) (names : List RegName) : Prop :=
  t = { s with regs := t.regs, stw := t.stw, pwr := t.pwr, msixPend := t.msixPend, out := t.out } ∧
  ∀ r : Reg, r.name ∉ names → t.reg r = s.reg r

/-- The package clock is the lowest of its targets and the flow cap, at least PWR_CLK_MIN; the cause is the first that sets it of
flow, thermal and power; below 2.5 GHz every borrowed step is back (R402). While a PLL's frequency is out of its limit the clock
is held (Table REL-3). -/
def ClockSet (s t : State) : Prop :=
  let min := t.f F.PWR_CLK_MIN_MHZ
  let clk := t.f F.PWR_STATUS_CLK
  (t.pwr.pllOut ≠ [] → clk = s.f F.PWR_STATUS_CLK ∧ t.f F.PWR_STATUS_CAUSE = s.f F.PWR_STATUS_CAUSE) ∧
  (t.pwr.pllOut = [] →
    clk = Max.max min (Min.min (Min.min t.pwr.target t.pwr.thermal) (if t.pwr.flowLow then min else 2500)) ∧
    t.f F.PWR_STATUS_CAUSE = (if 2500 ≤ clk then 0 else if t.pwr.flowLow then 3 else if t.pwr.thermal ≤ clk then 2 else 1) ∧
    (clk < 2500 → (∀ g, t.coreOk g = true → t.f F.COL_CORE_BOOST_STEPS g = 0 ∧ t.fb F.COL_CORE_BOOST_LENDING g = false) ∧
      ∀ d, d < 2 → t.f F.COL_LEND_STAT_POOL d = 0 ∧ t.f F.COL_LEND_STAT_BORROWED d = 0))

/-- The clock and its targets stand. -/
def ClockKept (s t : State) : Prop :=
  t.f F.PWR_STATUS_CLK = s.f F.PWR_STATUS_CLK ∧ t.pwr.target = s.pwr.target ∧ t.pwr.thermal = s.pwr.thermal

/-- The registers that a change of the clock writes. -/
def clockNames : List RegName := [.PWR_STATUS, .COL_CORE_BOOST, .COL_LEND_STAT]

/-- The mean of the latest n samples, in 0.1 mW. -/
def meanPower (s : State) (n : Nat) : Nat := (s.pwr.samples.take n).sum / (s.pwr.samples.take n).length

/-- The power limit in 0.1 mW (R398): in the under-voltage band at most the input voltage × 37.5 A. -/
def limitNow (s : State) : Nat :=
  if s.fb F.PWR_STATUS_UV_BAND then Min.min (s.f F.PWR_LIMIT_LIMIT * 10000) (s.f F.PWR_INPUT_VOLT * 3750)
  else s.f F.PWR_LIMIT_LIMIT * 10000

/-- The package rails are down. -/
def PackageDown (s t : State) : Prop := FromCold s t ∧ t.pwr.off = true ∧ t.pwr.sd = none ∧ t.pwr.en = s.pwr.en

/-- An orderly shutdown has been asked for (R406, R407): it waits its notice, a thermal cause at most limit; one that was
pending stands, but a thermal cause cuts the rest of its notice to limit. -/
def ShutdownAsked (s t : State) (thermal restart : Bool) (limit : Nat) : Prop :=
  let notice := s.f F.PWR_SD_NOTICE * 100000
  (s.pwr.sd = none → t.pwr.sd = some ⟨thermal, restart, s.clk.now + if thermal then Min.min notice limit else notice⟩ ∧
    t.fb F.PWR_STATUS_PENDING = true ∧ t.fb F.PWR_EVENT_SHUTDOWN = true) ∧
  ∀ x, s.pwr.sd = some x → t.pwr.sd = some (if thermal then { x with due := Min.min x.due (s.clk.now + limit) } else x)

/-- The hotter junction. -/
def hotter (s : State) : Nat := Max.max (s.f F.PWR_TEMP_TJ_EAST) (s.f F.PWR_TEMP_TJ_WEST)

/-- The thermal throttle's condition, and the end of it (Table ELT-6). -/
def Hot (s : State) : Prop := s.f F.PWR_THERM_CFG_THROTTLE ≤ hotter s ∨ 95 ≤ s.f F.PWR_TEMP_HBM
def Cool (s : State) : Prop := hotter s + 3 ≤ s.f F.PWR_THERM_CFG_THROTTLE ∧ s.f F.PWR_TEMP_HBM + 3 ≤ 95

end Sys2Proof.Claims

/-- R398, R401, R402, R405, R408: a sample is measured and averaged; one above 2,100 W lowers the clock by 10 steps, an
interval above the limit by one, and it rises by one where the mean of 1 ms, the throttle and the flow let it. The voltage
bands are reported; the cut-offs, a rail fault and the hardware trip take the package rails down at once. What it rests on
beside the rules: log entries 8, 44 and 45. -/
def Obligations.TheInputAndThePackageClock : Prop :=
  (∀ (s : State) (volt amp : Nat), ∃ t, exec (.powerSample volt amp) s = .next t ∧
    PowerOnly s t ([.PWR_INPUT, .PWR_ENERGY, .PWR_THR_TIME, .PWR_EVENT] ++ clockNames) ∧ (s.pwr.off = true → t = s) ∧
    (s.pwr.off = false →
      let w := volt * amp
      t.pwr.samples = (w :: s.pwr.samples).take 1000 ∧ t.f F.PWR_INPUT_VOLT = Min.min volt 65535 ∧
      t.f F.PWR_INPUT_AMP = Min.min amp 65535 ∧ t.f F.PWR_INPUT_P1MS = Min.min (meanPower t 1000 / 1000) 65535 ∧
      t.pwr.energy = (s.pwr.energy + w) % 10 ^ 10 ∧
      t.f F.PWR_ENERGY_JOULES = (s.f F.PWR_ENERGY_JOULES + (s.pwr.energy + w) / 10 ^ 10) % 2 ^ 64 ∧
      t.f F.PWR_THR_TIME_TIME =
        (s.f F.PWR_THR_TIME_TIME + if s.f F.PWR_STATUS_CLK < 2500 then 1 else 0) % 2 ^ 64 ∧
      (w ≤ 21000000 → ClockKept s t) ∧
      (21000000 < w → t.fb F.PWR_EVENT_EXCURSION = true ∧ ClockSet s t ∧
        t.pwr.target = Max.max (s.f F.PWR_CLK_MIN_MHZ) (s.f F.PWR_STATUS_CLK - 250)))) ∧
  (∀ s : State, ∃ t, exec .powerIntervalDown s = .next t ∧ PowerOnly s t ([.PWR_PEAK, .PWR_EVENT] ++ clockNames) ∧
    (s.pwr.off = true → t = s) ∧
    (s.pwr.off = false →
      t.f F.PWR_PEAK_P10US = Max.max (s.f F.PWR_PEAK_P10US) (Min.min (meanPower s 10 / 1000) 65535) ∧
      (meanPower s 10 ≤ limitNow s → ClockKept s t) ∧
      (limitNow s < meanPower s 10 → ClockSet s t ∧
        t.pwr.target = Max.max (s.f F.PWR_CLK_MIN_MHZ) (s.f F.PWR_STATUS_CLK - 25) ∧
        (t.pwr.target < s.f F.PWR_STATUS_CLK → t.fb F.PWR_EVENT_LIMIT = true)))) ∧
  (∀ s : State, ∃ t, exec .powerClockStepUp s = .next t ∧ PowerOnly s t clockNames ∧
    let may := s.pwr.off = false ∧ s.f F.PWR_STATUS_CLK < 2500 ∧ s.pwr.throttle = false ∧ s.pwr.flowLow = false ∧
      meanPower s 1000 + s.f F.PWR_LIMIT_HYST * 10000 < limitNow s
    (¬may → t = s) ∧ (may → ClockSet s t ∧ t.pwr.target = s.f F.PWR_STATUS_CLK + 25)) ∧
  (∀ (s : State) (mv : Nat), ∃ t, exec (.inputUnderVoltageBand mv) s = .next t ∧
    PowerOnly s t [.PWR_INPUT, .PWR_STATUS, .PWR_EVENT] ∧
    let may := s.pwr.off = false ∧ 44000 ≤ mv ∧ mv < 48000
    (¬may → t = s) ∧
    (may → t.f F.PWR_INPUT_VOLT = mv / 10 ∧ t.fb F.PWR_STATUS_UV_BAND = true ∧ t.fb F.PWR_EVENT_UV = true ∧
      limitNow t ≤ mv / 10 * 3750 ∧ ClockKept s t)) ∧
  (∀ (s : State) (mv : Nat), ∃ t, exec (.underVoltageBandExit mv) s = .next t ∧ PowerOnly s t [.PWR_INPUT, .PWR_STATUS] ∧
    let may := s.pwr.off = false ∧ 48000 < mv
    (¬may → t = s) ∧
    (may → t.f F.PWR_INPUT_VOLT = Min.min (mv / 10) 65535 ∧ t.fb F.PWR_STATUS_UV_BAND = false ∧
      limitNow t = s.f F.PWR_LIMIT_LIMIT * 10000 ∧ ClockKept s t)) ∧
  (∀ (s : State) (mv : Nat), ∃ t, exec (.inputOverVoltageBand mv) s = .next t ∧ PowerOnly s t [.PWR_INPUT, .PWR_EVENT] ∧
    let may := s.pwr.off = false ∧ 59000 < mv ∧ mv ≤ 62000
    (¬may → t = s) ∧ (may → t.f F.PWR_INPUT_VOLT = mv / 10 ∧ t.fb F.PWR_EVENT_OV = true ∧ ClockKept s t)) ∧
  (∀ s : State, ∃ t, exec .underVoltageCutoff s = .next t ∧ (s.pwr.off = true → t = s) ∧
    (s.pwr.off = false → PackageDown s t ∧ Logged s t 10 ∧ t.pwr.standby = s.pwr.standby ∧ t.pwr.input = s.pwr.input)) ∧
  (∀ s : State, ∃ t, exec .overVoltageCutoff s = .next t ∧ PackageDown s t ∧ t.pwr.input = false ∧ t.pwr.standby = false) ∧
  (∀ s : State, ∃ t, exec .standbyPowerLoss s = .next t ∧ PackageDown s t ∧ t.pwr.input = s.pwr.input ∧
    t.pwr.standby = false) ∧
  (∀ (s : State) (rail : Nat), ∃ t, exec (.railFault rail) s = .next t ∧
    let may := s.pwr.off = false ∧ 1 ≤ rail ∧ rail ≤ 7
    (¬may → t = s) ∧ (may → PackageDown s t ∧ Booted t 4 3)) ∧
  (∀ s : State, ∃ t, exec .hardwareTrip s = .next t ∧
    let may := s.pwr.off = false ∧ (115 ≤ hotter s ∨ 105 ≤ s.f F.PWR_TEMP_HBM)
    (¬may → t = s) ∧ (may → PackageDown s t ∧ Logged s t 13))

/-- R384, R401, R402, R405 to R407: a reading is kept and warns, throttles or ends the throttle at its levels, and counts
thermal cycles; a throttle lowers the clock by one step at a time, low flow sets it to PWR_CLK_MIN. Each cause asks for an
orderly shutdown, which ends with the counters committed, its cairn record, and the package down, or started again after a
cold reset. What it rests on beside the rules: log entries 8, 44, 45 and 46. -/
def Obligations.TemperatureFlowAndShutdown : Prop :=
  (∀ (s : State) (i v : Nat), ∃ t, exec (.thermalCondition i v) s = .next t ∧
    PowerOnly s t ([.PWR_TEMP, .PWR_EVENT] ++ clockNames) ∧
    let may := s.pwr.off = false ∧ i < 5 ∧ v < 256
    (¬may → t = s) ∧
    (may → t.f ⟨.PWR_TEMP, 8 * i, 8⟩ = v ∧
      (∀ j, j < 5 → j ≠ i → t.f ⟨.PWR_TEMP, 8 * j, 8⟩ = s.f ⟨.PWR_TEMP, 8 * j, 8⟩) ∧
      (i < 2 → s.f F.PWR_THERM_CFG_WARN ≤ v → t.fb F.PWR_EVENT_WARN = true) ∧
      t.pwr.refresh = (if i = 2 ∧ 85 ≤ v then true else if i = 2 ∧ v ≤ 83 then false else s.pwr.refresh) ∧
      (Hot t → t.pwr.throttle = true ∧ ClockKept s t ∧ (s.pwr.throttle = false → t.fb F.PWR_EVENT_THERMAL = true)) ∧
      (Cool t → t.pwr.throttle = false ∧ (s.pwr.throttle = false → ClockKept s t) ∧
        (s.pwr.throttle = true → t.pwr.thermal = 2500 ∧ t.pwr.target = s.f F.PWR_STATUS_CLK ∧ ClockSet s t)) ∧
      (¬Hot t → ¬Cool t → t.pwr.throttle = s.pwr.throttle ∧ ClockKept s t) ∧
      (2 ≤ i → t.stw = s.stw) ∧
      (i < 2 →
        let low := (SMap.get none s.stw.trough i).getD v
        let cycle (n : Nat) (trough : Nat) (peak : Option Nat) : Prop := t.stw.life.thermal = s.stw.life.thermal + n ∧
          SMap.get none t.stw.trough i = some trough ∧ SMap.get none t.stw.peak i = peak
        (∀ p, SMap.get none s.stw.peak i = some p →
          (v + 30 ≤ p → cycle 1 v none) ∧ (p < v + 30 → cycle 0 low (some (Max.max p v)))) ∧
        (SMap.get none s.stw.peak i = none →
          (low + 30 ≤ v → cycle 0 low (some v)) ∧ (v < low + 30 → cycle 0 (Min.min low v) none))))) ∧
  (∀ s : State, ∃ t, exec .thermalThrottleStep s = .next t ∧ PowerOnly s t clockNames ∧
    let may := s.pwr.off = false ∧ s.pwr.throttle = true ∧ Hot s
    (¬may → t = s) ∧
    (may → ClockSet s t ∧ t.pwr.thermal = Max.max (s.f F.PWR_CLK_MIN_MHZ) (s.f F.PWR_STATUS_CLK - 25))) ∧
  (∀ (s : State) (v : Nat), ∃ t, exec (.flowLow v) s = .next t ∧
    PowerOnly s t ([.PWR_FLOW, .ERR_ENV, .PWR_EVENT, .ERR_EVENT, .LIFE_STATUS, .LIFE_EVENT] ++ clockNames) ∧
    let may := s.pwr.off = false ∧ v < 1500
    (¬may → t = s) ∧
    (may → t.pwr.flowLow = true ∧ t.f F.PWR_FLOW_FLOW = v ∧ t.fb F.ERR_ENV_FLOW_LOW = true ∧ t.fb F.PWR_EVENT_FLOW = true ∧
      ClockSet s t ∧ (s.pwr.pllOut = [] → t.f F.PWR_STATUS_CLK = s.f F.PWR_CLK_MIN_MHZ) ∧
      (s.pwr.flowLow = false → t.fb F.ERR_EVENT_ENV = true ∧ Logged s t 10))) ∧
  (∀ (s : State) (v : Nat), ∃ t, exec (.flowRestored v) s = .next t ∧ PowerOnly s t ([.PWR_FLOW, .ERR_ENV] ++ clockNames) ∧
    let may := s.pwr.off = false ∧ 2000 ≤ v
    (¬may → t = s) ∧
    (may → t.f F.PWR_FLOW_FLOW = Min.min v 65535 ∧ t.pwr.flowLow = false ∧ (s.pwr.flowLow = false → ClockKept s t) ∧
      (s.pwr.flowLow = true → t.fb F.ERR_ENV_FLOW_LOW = false ∧ t.pwr.target = s.f F.PWR_STATUS_CLK ∧ ClockSet s t))) ∧
  (∀ s : State, ∃ t, exec .junctionOverheatShutdown s = .next t ∧ PowerOnly s t [.PWR_STATUS, .PWR_EVENT] ∧
    let may := s.pwr.off = false ∧ (105 ≤ hotter s ∨ (s.pwr.throttle = true ∧ s.f F.PWR_STATUS_CLK = s.f F.PWR_CLK_MIN_MHZ))
    (¬may → t = s) ∧ (may → ShutdownAsked s t true false 10000000)) ∧
  (∀ s : State, ∃ t, exec .flowLossShutdown s = .next t ∧ PowerOnly s t [.PWR_STATUS, .PWR_EVENT] ∧
    let may := s.pwr.off = false ∧ s.pwr.flowLow = true
    (¬may → t = s) ∧ (may → ShutdownAsked s t true false (if s.f F.PWR_FLOW_FLOW < 500 then 0 else 10000000))) ∧
  (∀ s : State, ∃ t, exec .leakDetect s = .next t ∧ PowerOnly s t [.PWR_STATUS, .PWR_EVENT] ∧ (s.pwr.off = true → t = s) ∧
    (s.pwr.off = false → t.fb F.PWR_EVENT_LEAK = true ∧ ShutdownAsked s t true false 10000000)) ∧
  (∀ s : State, ∃ t, exec .shdnReq s = .next t ∧ PowerOnly s t [.PWR_STATUS, .PWR_EVENT] ∧ (s.pwr.off = true → t = s) ∧
    (s.pwr.off = false → ShutdownAsked s t false false 0)) ∧
  (∀ s : State, ∃ t, exec .pwrEnDeassert s = .next t ∧ PowerOnly s t [.PWR_STATUS, .PWR_EVENT] ∧ t.pwr.en = false ∧
    (s.pwr.en = false → t = s) ∧ (s.pwr.off = true → t.pwr.sd = s.pwr.sd ∧ t.regs = s.regs) ∧
    (s.pwr.en = true → s.pwr.off = false → ShutdownAsked s t false false 0)) ∧
  (∀ (s : State) (src : Nat), ∃ t u, exec (.coldReset src) s = .next t ∧ exec (.pwrSdReq src) s = .next u ∧
    PowerOnly s t [.PWR_STATUS, .PWR_EVENT] ∧ PowerOnly s u [.PWR_STATUS, .PWR_EVENT] ∧
    let may := s.authorised src = true ∧ s.pwr.off = false
    (¬may → t = s ∧ u = s) ∧ (may → ShutdownAsked s t false true 0 ∧ ShutdownAsked s u false false 0)) ∧
  (∀ (s : State) (fails : List Fail) (info : ColdInfo), ∃ t, exec (.shutdownNoticeExpiry fails info) s = .next t ∧
    ((∀ x, s.pwr.sd = some x → s.clk.now < x.due) → t = s) ∧
    ∀ x, s.pwr.sd = some x → x.due ≤ s.clk.now →
      (x.restart = false → PackageDown s t ∧ t.stw.stored = s.stw.life ∧
        ((t.stw.cairn.headD []).drop 4).take 2 = le 2 (if x.thermal then 13 else 2) ∧
        (s.fb F.BIST_SD_CFG_EN = true → x.thermal = false →
          (∀ f ∈ fails, f ∈ t.stw.record) ∧ t.stw.sdFail = fails.getLast?) ∧
        (s.fb F.BIST_SD_CFG_EN = false ∨ x.thermal = true → t.stw.record = s.stw.record)) ∧
      (x.restart = true → FromCold s t ∧ (¬Starts s 1 → Booted t 1 2) ∧
        (Starts s 1 → s.pwr.en = true → PackageStarts s t info)))

/-! ### The whole machine -/

/-- The block takes its commands from the front of its queue (DESIGN CHOICE, log entry 1): a step with command c at the front
is exec of c on the state with the queue's rest. With nothing queued it idles: before the next tick is due 10 ns pass, and
nothing but the clock and what counts time changes, a core's time at a col among it (R278); while the package is off and without standby power nothing changes. -/
def Obligations.StepTakesTheFrontCommand : Prop :=
  (∀ (s : State) (c : Instr) (rest : List Instr), s.pending = c :: rest → step s = exec c { s with pending := rest }) ∧
  (∀ s : State, s.pending = [] → s.pwr.off = true → s.pwr.standby = false → step s = .next s) ∧
  ∀ s : State, s.pending = [] → s.pwr.off = false → s.clk.start = none →
    (s.clk.running = true → s.clk.now + 1 < s.clk.tickTime + s.f F.FRM_PERIOD_PERIOD) →
    ∃ t, step s = .next t ∧ t.clk.now = s.clk.now + 1 ∧ t.clk.frame = s.clk.frame ∧ t.clk.tickTime = s.clk.tickTime ∧
      t.mem = s.mem ∧ t.ctxs = s.ctxs ∧ t.strands = s.strands ∧ t.pending = [] ∧
      ∀ g, ∃ idle, t.core g = { s.core g with iss := { (s.core g).iss with idle := idle } } ∧
        (g ∈ SMap.keys s.cores → idle = if s.idleAtCol g then some ((s.core g).iss.idle.getD s.clk.now) else none)

/-- R16, R25, R32, R116, R182, R198, R208, R230, R261, R316, R398, R405, R406: the state right after cold reset. Fields have
the values of their Reset columns; schedule entry 0 gives every ridge to context 0; every window is empty, every col and
queue closed, nothing is loaded or queued and no tick runs. HBM and the scratchpads read 0 (the 0 of HBM is DESIGN CHOICE,
log entry 5) and all 256 cores are present (DESIGN CHOICE, log entry 6: no core is retired). -/
def Obligations.ResetValues : Prop :=
  let z := State.reset
  z.f F.FRM_PERIOD_PERIOD = 100000 ∧ z.f F.FRM_SCHED_LEN_LEN_M1 = 0 ∧ z.f F.NET_NODE_ID_ID = 0 ∧ z.f F.NET_MTU_MTU = 1500 ∧
  z.f F.PWR_LIMIT_LIMIT = 1800 ∧ z.f F.PWR_CLK_MIN_MHZ = 1200 ∧ z.f F.PWR_STATUS_CLK = 2500 ∧ z.f F.PWR_SD_NOTICE = 100 ∧
  z.f F.PWR_THERM_CFG_WARN = 95 ∧ z.f F.PWR_THERM_CFG_THROTTLE = 100 ∧ z.f F.HIF_ADMIN_SEC_ADMIN = 0 ∧
  (∀ g, g < 256 → z.ownerOf g = 0 ∧ z.coreOk g = true) ∧
  (∀ i, z.reg ⟨.FRM_SCHED_A, i + 1, 0, 0⟩ = 0x7777777777777777 ∧ z.reg ⟨.FRM_SCHED_B, i + 1, 0, 0⟩ = 0x7777777777777777) ∧
  (∀ c, z.f F.VEC_SEED_SEED c = 0 ∧ z.f F.PLC_WIN_SIZE c = 0 ∧ z.f F.TRN_STEP_DONE_STEP c = 0 ∧
    z.f F.FRM_IN_HIGH_HIGH c = 4096 ∧ z.f F.FRM_IN_LOW_LOW c = 3072) ∧
  (∀ g ch, z.f F.DMA_CH_CFG_DEPTH_M1 g ch = 3 ∧ z.reg ⟨.DMA_OWNER, g, 0, 0⟩ = 0 ∧ z.chState g ch = 0) ∧
  (∀ c i, z.f F.COL_XLATE_VALID c i = 0) ∧ (∀ g c q, z.f F.COL_MQ_CFG_ENABLE g c q = 0 ∧ z.f F.COL_MQ_STATE_COUNT g c q = 0) ∧
  (∀ g c, (z.ctx g c).phase = .empty) ∧ (∀ g c k, (z.strand g c k).exec = false) ∧
  (∀ a, z.mem.get a = 0) ∧ z.poison = [] ∧ z.pending = [] ∧ z.clk = {} ∧ z.pwr.sd = none ∧ z.pwr.off = false

/-- Memory lists each byte once, in rising order and none that reads 0, poisoned granules rise, and the frame counter has 64
bits (R33, R368): so right after reset. -/
def Obligations.SoundAtReset : Prop := State.reset.Sound

/-- No step undoes it, whatever command it runs or however time passes, in every state that has it. -/
def Obligations.EveryStepKeepsSound : Prop :=
  ∀ s t : State, s.Sound → step s = .next t → t.Sound

/-- R361, R368, R33: what no command undoes. The commands that wait are left to the step, a fused minimum SVN never falls,
and no free value is drawn twice. What it rests on beside the rules: log entry 2. -/
def Obligations.NoCommandUndoes : Prop :=
  (∀ (i : Instr) (s t : State), exec i s = .next t →
    t.pending = s.pending ∧ s.freeCtr ≤ t.freeCtr ∧ ∀ type, SMap.get 0 s.stw.svn type ≤ SMap.get 0 t.stw.svn type) ∧
  ∀ s t : State, step s = .next t →
    s.freeCtr ≤ t.freeCtr ∧ ∀ type, SMap.get 0 s.stw.svn type ≤ SMap.get 0 t.stw.svn type
end

