-- ==== Sys2Proof/Laws/Bits.lean ====
section
/-! SUPPORT. Laws of bit fields: a field reads what was written to it, and other fields are unchanged. -/

namespace Sys2Proof.Machine

theorem testBit_bitsN (v lo len i : Nat) : (bitsN v lo len).testBit i = (decide (i < len) && v.testBit (lo + i)) := by
  simp [bitsN, Nat.testBit_mod_two_pow, Nat.testBit_div_two_pow, Nat.add_comm]

theorem getLsbD_mask (lo len i : Nat) :
    (BitVec.ofNat 64 ((2 ^ len - 1) * 2 ^ lo)).getLsbD i = (decide (i < 64) && (decide (lo ≤ i) && decide (i < lo + len))) := by
  rw [BitVec.getLsbD_ofNat, Nat.testBit_mul_two_pow]
  by_cases h : lo ≤ i <;> simp [h]
  have : (i - lo < len) ↔ (i < lo + len) := by omega
  simp [this]

theorem getLsbD_setBits (w : Word) (lo len n i : Nat) :
    (setBits w lo len n).getLsbD i =
      if lo ≤ i ∧ i < lo + len then (decide (i < 64) && n.testBit (i - lo)) else w.getLsbD i := by
  unfold setBits
  simp only [BitVec.getLsbD_or, BitVec.getLsbD_and, BitVec.getLsbD_not, getLsbD_mask]
  rw [BitVec.getLsbD_ofNat, Nat.testBit_mul_two_pow, Nat.testBit_mod_two_pow]
  by_cases h1 : lo ≤ i <;> by_cases h2 : i < lo + len <;> by_cases h3 : i < 64 <;> simp [h1, h2, h3]
  all_goals first
    | (have h4 : i - lo < len := by omega
       simp [h4])
    | (exact BitVec.getLsbD_of_ge w i (by omega))

/-- A field that lies in the word reads the low bits of what was written to it. -/
@[simp] theorem bits_setBits_same (w : Word) (lo len n : Nat) (h : lo + len ≤ 64) :
    bits (setBits w lo len n) lo len = n % 2 ^ len := by
  apply Nat.eq_of_testBit_eq
  intro i
  rw [bits, testBit_bitsN, Nat.testBit_mod_two_pow]
  have hx : (setBits w lo len n).toNat.testBit (lo + i) = (setBits w lo len n).getLsbD (lo + i) := rfl
  rw [hx, getLsbD_setBits]
  by_cases hi : i < len
  · have : lo + i < 64 := by omega
    simp [hi, this]
  · simp [hi]

/-- A field that does not meet the field written reads as before. -/
theorem bits_setBits_disjoint (w : Word) (lo len n lo' len' : Nat) (h : lo' + len' ≤ lo ∨ lo + len ≤ lo') :
    bits (setBits w lo len n) lo' len' = bits w lo' len' := by
  apply Nat.eq_of_testBit_eq
  intro i
  rw [bits, bits, testBit_bitsN, testBit_bitsN]
  by_cases hi : i < len'
  · have hx : (setBits w lo len n).toNat.testBit (lo' + i) = (setBits w lo len n).getLsbD (lo' + i) := rfl
    rw [hx, getLsbD_setBits]
    have : ¬ (lo ≤ lo' + i ∧ lo' + i < lo + len) := by omega
    simp only [this, ite_false]
    rfl
  · simp [hi]

end Sys2Proof.Machine
end

