-- ==== Sys2Proof/Laws/Map.lean ====
section
/-! SUPPORT. The laws of sparse maps: read after write, and the canonical form is kept. -/

namespace Sys2Proof.Machine.SMap

set_option linter.unusedSectionVars false

variable {κ ν : Type} [DecidableEq κ] [DecidableEq ν]

theorem get_erase_same (d : ν) (m : SMap κ ν) (k : κ) : (m.erase k).get d k = d := by
  induction m with
  | nil => rfl
  | cons e m ih =>
    obtain ⟨k', v⟩ := e
    by_cases h : k' = k <;> simp [erase, get, h, ih]

theorem get_erase_other (d : ν) (m : SMap κ ν) {k k' : κ} (h : k' ≠ k) : (m.erase k).get d k' = m.get d k' := by
  induction m with
  | nil => rfl
  | cons e m ih =>
    obtain ⟨j, v⟩ := e
    by_cases hj : j = k
    · subst hj; simp [erase, get, ih, Ne.symm h]
    · by_cases hk : j = k'
      · subst hk; simp [erase, get, h]
      · simp [erase, get, hj, hk, ih]

theorem get_insert_same (rank : κ → Nat) (d : ν) (m : SMap κ ν) (k : κ) (v : ν)
    (h : ∀ e ∈ m, e.1 ≠ k) : (m.insert rank k v).get d k = v := by
  induction m with
  | nil => simp [insert, get]
  | cons e m ih =>
    obtain ⟨j, w⟩ := e
    have hj : j ≠ k := h (j, w) (by simp)
    by_cases hr : rank k < rank j
    · simp [insert, hr, get]
    · simp [insert, hr, get, hj, ih (fun e he => h e (by simp [he]))]

theorem get_insert_other (rank : κ → Nat) (d : ν) (m : SMap κ ν) {k k' : κ} (v : ν) (h : k' ≠ k) :
    (m.insert rank k v).get d k' = m.get d k' := by
  induction m with
  | nil => simp [insert, get, Ne.symm h]
  | cons e m ih =>
    obtain ⟨j, w⟩ := e
    by_cases hr : rank k < rank j
    · simp [insert, hr, get, Ne.symm h]
    · by_cases hj : j = k'
      · subst hj; simp [insert, hr, get]
      · simp [insert, hr, get, hj, ih]

theorem erase_keys (m : SMap κ ν) (k : κ) : ∀ e ∈ m.erase k, e.1 ≠ k := by
  induction m with
  | nil => simp [erase]
  | cons e m ih =>
    obtain ⟨j, w⟩ := e
    by_cases hj : j = k
    · simpa [erase, hj] using ih
    · intro e he
      simp only [erase, hj, ite_false, List.mem_cons] at he
      rcases he with rfl | he
      · exact hj
      · exact ih e he

/-- A read of the key written gives the value written. -/
@[simp] theorem get_set_same (rank : κ → Nat) (d : ν) (m : SMap κ ν) (k : κ) (v : ν) :
    (m.set rank d k v).get d k = v := by
  unfold set
  split
  · next h => rw [get_erase_same, h]
  · exact get_insert_same rank d _ k v (erase_keys m k)

/-- A read of another key, with any default, gives what it gave before. -/
@[simp] theorem get_set_other (rank : κ → Nat) (d d' : ν) (m : SMap κ ν) {k k' : κ} (v : ν) (h : k' ≠ k) :
    (m.set rank d k v).get d' k' = m.get d' k' := by
  unfold set
  split
  · exact get_erase_other d' m h
  · rw [get_insert_other rank d' _ v h, get_erase_other d' m h]

theorem mem_of_mem_erase {m : SMap κ ν} {k : κ} {e : κ × ν} (h : e ∈ m.erase k) : e ∈ m := by
  induction m with
  | nil => simp [erase] at h
  | cons x m ih =>
    obtain ⟨j, w⟩ := x
    by_cases hj : j = k
    · simp only [erase, hj, ite_true] at h; exact List.mem_cons_of_mem _ (ih h)
    · simp only [erase, hj, ite_false, List.mem_cons] at h
      rcases h with rfl | h
      · simp
      · exact List.mem_cons_of_mem _ (ih h)

theorem mem_insert {rank : κ → Nat} {m : SMap κ ν} {k : κ} {v : ν} {e : κ × ν}
    (h : e ∈ m.insert rank k v) : e = (k, v) ∨ e ∈ m := by
  induction m with
  | nil => simpa [insert] using h
  | cons x m ih =>
    obtain ⟨j, w⟩ := x
    by_cases hr : rank k < rank j
    · simpa [insert, hr] using h
    · simp only [insert, hr, ite_false, List.mem_cons] at h
      rcases h with rfl | h
      · simp
      · rcases ih h with h | h <;> simp [h]

theorem wf_erase {rank : κ → Nat} {dflt : κ → ν} {m : SMap κ ν} (k : κ) (h : m.wf rank dflt = true) :
    (m.erase k).wf rank dflt = true := by
  induction m with
  | nil => rfl
  | cons x m ih =>
    obtain ⟨j, w⟩ := x
    simp only [wf, Bool.and_eq_true, List.all_eq_true, decide_eq_true_eq] at h
    by_cases hj : j = k
    · simpa [erase, hj] using ih h.2
    · simp only [erase, hj, ite_false, wf, Bool.and_eq_true, List.all_eq_true, decide_eq_true_eq]
      exact ⟨⟨h.1.1, fun e he => h.1.2 e (mem_of_mem_erase he)⟩, ih h.2⟩

theorem wf_insert {rank : κ → Nat} {dflt : κ → ν} {m : SMap κ ν} {k : κ} {v : ν}
    (hr : ∀ a b, rank a = rank b → a = b) (hk : ∀ e ∈ m, e.1 ≠ k) (hv : v ≠ dflt k)
    (h : m.wf rank dflt = true) : (m.insert rank k v).wf rank dflt = true := by
  induction m with
  | nil => simp [insert, wf, hv]
  | cons x m ih =>
    obtain ⟨j, w⟩ := x
    have h' := h
    simp only [wf, Bool.and_eq_true, List.all_eq_true, decide_eq_true_eq] at h
    by_cases hlt : rank k < rank j
    · simp only [insert, hlt, ite_true]
      rw [wf]
      simp only [Bool.and_eq_true, List.all_eq_true, decide_eq_true_eq]
      refine ⟨⟨hv, ?_⟩, h'⟩
      intro e he
      rcases List.mem_cons.mp he with rfl | he
      · exact hlt
      · exact Nat.lt_trans hlt (h.1.2 e he)
    · have hne : rank j ≠ rank k := fun heq => hk (j, w) (by simp) (hr _ _ heq)
      simp only [insert, hlt, ite_false, wf, Bool.and_eq_true, List.all_eq_true, decide_eq_true_eq]
      refine ⟨⟨h.1.1, ?_⟩, ih (fun e he => hk e (by simp [he])) h.2⟩
      intro e he
      rcases mem_insert he with rfl | he
      · show rank j < rank k; omega
      · exact h.1.2 e he

/-- A part of a canonical map is canonical. -/
theorem wf_filter {rank : κ → Nat} {dflt : κ → ν} (p : κ × ν → Bool) :
    ∀ {m : SMap κ ν}, m.wf rank dflt = true → SMap.wf rank dflt (m.filter p) = true
  | [], _ => rfl
  | (k, v) :: m, h => by
    simp only [wf, Bool.and_eq_true, List.all_eq_true, decide_eq_true_eq] at h
    have ih := wf_filter p h.2
    cases hp : p (k, v) with
    | false => simpa [List.filter, hp] using ih
    | true =>
      simp only [List.filter, hp, wf, Bool.and_eq_true, List.all_eq_true, decide_eq_true_eq]
      exact ⟨⟨h.1.1, fun e he => h.1.2 e (List.mem_filter.1 he).1⟩, ih⟩

/-- Writing keeps the canonical form where ranks tell keys apart and d is the key's default. -/
theorem wf_set {rank : κ → Nat} {dflt : κ → ν} {m : SMap κ ν} {k : κ} (v : ν)
    (hr : ∀ a b, rank a = rank b → a = b) (h : m.wf rank dflt = true) :
    (m.set rank (dflt k) k v).wf rank dflt = true := by
  unfold set
  split
  · exact wf_erase k h
  · next hv => exact wf_insert hr (erase_keys m k) hv (wf_erase k h)

end Sys2Proof.Machine.SMap
end

