-- ==== Sys2Proof/Laws/Memory.lean ====
section
/-! SUPPORT. The laws of memory: read after write, every other byte unchanged, the canonical form kept. -/

namespace Sys2Proof.Machine

@[simp] theorem mem_get_set_same (m : Mem) (k : Nat) (b : Byte) : (m.set k b).get k = b :=
  SMap.get_set_same _ _ _ _ _

@[simp] theorem mem_get_set_other (m : Mem) {k k' : Nat} (b : Byte) (h : k' ≠ k) : (m.set k b).get k' = m.get k' :=
  SMap.get_set_other _ _ _ _ _ h

theorem mem_wf_set (m : Mem) (k : Nat) (b : Byte) (h : Memory.wf m = true) : Memory.wf (m.set k b) = true :=
  SMap.wf_set (dflt := fun _ => unlistedByte) b (fun _ _ h => h) h

/-- Every store keeps the canonical form. -/
theorem mem_wf_write (bs : List Byte) : ∀ (m : Mem) (k : Nat), Memory.wf m = true → Memory.wf (m.write k bs) = true := by
  induction bs with
  | nil => intro m k h; exact h
  | cons b bs ih => intro m k h; exact ih _ _ (mem_wf_set m k b h)

/-- A byte outside the stored range reads as before. -/
theorem mem_get_write_other (bs : List Byte) :
    ∀ (m : Mem) (k k' : Nat), (k' < k ∨ k + bs.length ≤ k') → (m.write k bs).get k' = m.get k' := by
  induction bs with
  | nil => intro m k k' _; rfl
  | cons b bs ih =>
    intro m k k' h
    simp only [List.length_cons] at h
    rw [Mem.write, ih _ _ _ (by omega), mem_get_set_other _ _ (by omega)]

/-- A byte inside the stored range reads as stored. -/
theorem mem_get_write_same (bs : List Byte) :
    ∀ (m : Mem) (k i : Nat) (h : i < bs.length), (m.write k bs).get (k + i) = bs[i] := by
  induction bs with
  | nil => intro m k i h; simp at h
  | cons b bs ih =>
    intro m k i h
    rw [Mem.write]
    cases i with
    | zero => rw [mem_get_write_other _ _ _ _ (by omega)]; simp
    | succ i =>
      have := ih (m.set k b) (k + 1) i (by simpa using h)
      simpa [Nat.add_assoc, Nat.add_comm 1 i] using this

end Sys2Proof.Machine
end

