-- ==== Sys2Proof/Laws/State.lean ====
section
/-! SUPPORT. What each update of State changes: every other field, and every reader of another field, is as before. -/

namespace Sys2Proof.Machine

/-! An event is a register update, and perhaps a vector sent or pending. -/

theorem State.msixSend_eq (s : State) (p v : Nat) : ∃ q o, s.msixSend p v = { s with msixPend := q, out := o } := by
  unfold State.msixSend; split
  · exact ⟨s.msixPend, s.out, rfl⟩
  · split
    · exact ⟨_, s.out, rfl⟩
    · exact ⟨s.msixPend, _, rfl⟩

theorem State.blockVector_eq (s : State) (v : Nat) : ∃ q o, s.blockVector v = { s with msixPend := q, out := o } := by
  have h0 : ∀ b : Bool, ∃ q o, (if b = true then s.msixSend 0 v else s) = { s with msixPend := q, out := o } := by
    intro b
    cases b
    · exact ⟨s.msixPend, s.out, rfl⟩
    · exact s.msixSend_eq 0 v
  unfold State.blockVector
  obtain ⟨q, o, h⟩ := h0 (bitN (s.f F.HIF_IRQ_ROUTE_PORTS) 0)
  dsimp only
  rw [h]
  split
  · obtain ⟨q', o', h'⟩ := State.msixSend_eq { s with msixPend := q, out := o } 1 v
    exact ⟨q', o', by rw [h']⟩
  · exact ⟨q, o, rfl⟩

/-- An event sets its bit, and sends at most vectors (R13, R349). -/
theorem State.event_eq (s : State) (x : Fld) (n i j : Nat) :
    ∃ q o, s.event x n i j = { s.setF x (setBitN (s.f x i j) n) i j with msixPend := q, out := o } := by
  unfold State.event State.vectorIfRisen
  dsimp only
  split
  · exact ⟨s.msixPend, s.out, rfl⟩
  · split
    · obtain ⟨q, o, h⟩ := State.blockVector_eq (s.setF x (setBitN (s.f x i j) n) i j) _
      exact ⟨q, o, h⟩
    · exact ⟨s.msixPend, s.out, rfl⟩

/-! A counter is a field update, a little-endian number a store. -/

@[simp] theorem State.addF_eq (s : State) (x n i j k) : s.addF x n i j k = s.setF x (s.f x i j k + n) i j k := rfl
@[simp] theorem State.addSatF_eq (s : State) (x n i j k) :
    s.addSatF x n i j k = s.setF x (satN x.len (s.f x i j k + n)) i j k := rfl
@[simp] theorem State.writeN_eq (s : State) (k n v) : s.writeN k n v = s.write k (toLE n v) := rfl

/-! setReg -/

@[simp] theorem State.setReg_pending (s : State) (r w) : (s.setReg r w).pending = s.pending := (rfl)
@[simp] theorem State.setReg_clk (s : State) (r w) : (s.setReg r w).clk = s.clk := (rfl)
@[simp] theorem State.setReg_owner (s : State) (r w) : (s.setReg r w).owner = s.owner := (rfl)
@[simp] theorem State.setReg_mem (s : State) (r w) : (s.setReg r w).mem = s.mem := (rfl)
@[simp] theorem State.setReg_poison (s : State) (r w) : (s.setReg r w).poison = s.poison := (rfl)
@[simp] theorem State.setReg_msix (s : State) (r w) : (s.setReg r w).msix = s.msix := (rfl)
@[simp] theorem State.setReg_msixPend (s : State) (r w) : (s.setReg r w).msixPend = s.msixPend := (rfl)
@[simp] theorem State.setReg_mctx (s : State) (r w) : (s.setReg r w).mctx = s.mctx := (rfl)
@[simp] theorem State.setReg_ctxs (s : State) (r w) : (s.setReg r w).ctxs = s.ctxs := (rfl)
@[simp] theorem State.setReg_watch (s : State) (r w) : (s.setReg r w).watch = s.watch := (rfl)
@[simp] theorem State.setReg_stalled (s : State) (r w) : (s.setReg r w).stalled = s.stalled := (rfl)
@[simp] theorem State.setReg_strands (s : State) (r w) : (s.setReg r w).strands = s.strands := (rfl)
@[simp] theorem State.setReg_cores (s : State) (r w) : (s.setReg r w).cores = s.cores := (rfl)
@[simp] theorem State.setReg_unseen (s : State) (r w) : (s.setReg r w).unseen = s.unseen := (rfl)
@[simp] theorem State.setReg_waits (s : State) (r w) : (s.setReg r w).waits = s.waits := (rfl)
@[simp] theorem State.setReg_tags (s : State) (r w) : (s.setReg r w).tags = s.tags := (rfl)
@[simp] theorem State.setReg_brackets (s : State) (r w) : (s.setReg r w).brackets = s.brackets := (rfl)
@[simp] theorem State.setReg_accs (s : State) (r w) : (s.setReg r w).accs = s.accs := (rfl)
@[simp] theorem State.setReg_accSrc (s : State) (r w) : (s.setReg r w).accSrc = s.accSrc := (rfl)
@[simp] theorem State.setReg_hops (s : State) (r w) : (s.setReg r w).hops = s.hops := (rfl)
@[simp] theorem State.setReg_chans (s : State) (r w) : (s.setReg r w).chans = s.chans := (rfl)
@[simp] theorem State.setReg_trn (s : State) (r w) : (s.setReg r w).trn = s.trn := (rfl)
@[simp] theorem State.setReg_segs (s : State) (r w) : (s.setReg r w).segs = s.segs := (rfl)
@[simp] theorem State.setReg_transit (s : State) (r w) : (s.setReg r w).transit = s.transit := (rfl)
@[simp] theorem State.setReg_msgs (s : State) (r w) : (s.setReg r w).msgs = s.msgs := (rfl)
@[simp] theorem State.setReg_sflows (s : State) (r w) : (s.setReg r w).sflows = s.sflows := (rfl)
@[simp] theorem State.setReg_epochs (s : State) (r w) : (s.setReg r w).epochs = s.epochs := (rfl)
@[simp] theorem State.setReg_rflows (s : State) (r w) : (s.setReg r w).rflows = s.rflows := (rfl)
@[simp] theorem State.setReg_tag (s : State) (r w) : (s.setReg r w).tag = s.tag := (rfl)
@[simp] theorem State.setReg_netWait (s : State) (r w) : (s.setReg r w).netWait = s.netWait := (rfl)
@[simp] theorem State.setReg_flowWait (s : State) (r w) : (s.setReg r w).flowWait = s.flowWait := (rfl)
@[simp] theorem State.setReg_colEnts (s : State) (r w) : (s.setReg r w).colEnts = s.colEnts := (rfl)
@[simp] theorem State.setReg_colRels (s : State) (r w) : (s.setReg r w).colRels = s.colRels := (rfl)
@[simp] theorem State.setReg_colHist (s : State) (r w) : (s.setReg r w).colHist = s.colHist := (rfl)
@[simp] theorem State.setReg_colPoll (s : State) (r w) : (s.setReg r w).colPoll = s.colPoll := (rfl)
@[simp] theorem State.setReg_granted (s : State) (r w) : (s.setReg r w).granted = s.granted := (rfl)
@[simp] theorem State.setReg_lendRel (s : State) (r w) : (s.setReg r w).lendRel = s.lendRel := (rfl)
@[simp] theorem State.setReg_paused (s : State) (r w) : (s.setReg r w).paused = s.paused := (rfl)
@[simp] theorem State.setReg_pausing (s : State) (r w) : (s.setReg r w).pausing = s.pausing := (rfl)
@[simp] theorem State.setReg_linkDown (s : State) (r w) : (s.setReg r w).linkDown = s.linkDown := (rfl)
@[simp] theorem State.setReg_txns (s : State) (r w) : (s.setReg r w).txns = s.txns := (rfl)
@[simp] theorem State.setReg_txnOrder (s : State) (r w) : (s.setReg r w).txnOrder = s.txnOrder := (rfl)
@[simp] theorem State.setReg_stw (s : State) (r w) : (s.setReg r w).stw = s.stw := (rfl)
@[simp] theorem State.setReg_pwr (s : State) (r w) : (s.setReg r w).pwr = s.pwr := (rfl)
@[simp] theorem State.setReg_svcs (s : State) (r w) : (s.setReg r w).svcs = s.svcs := (rfl)
@[simp] theorem State.setReg_perst (s : State) (r w) : (s.setReg r w).perst = s.perst := (rfl)
@[simp] theorem State.setReg_fns (s : State) (r w) : (s.setReg r w).fns = s.fns := (rfl)
@[simp] theorem State.setReg_straps (s : State) (r w) : (s.setReg r w).straps = s.straps := (rfl)
@[simp] theorem State.setReg_cycles (s : State) (r w) : (s.setReg r w).cycles = s.cycles := (rfl)
@[simp] theorem State.setReg_lendAt (s : State) (r w) : (s.setReg r w).lendAt = s.lendAt := (rfl)
@[simp] theorem State.setReg_lendPtr (s : State) (r w) : (s.setReg r w).lendPtr = s.lendPtr := (rfl)
@[simp] theorem State.setReg_lendNew (s : State) (r w) : (s.setReg r w).lendNew = s.lendNew := (rfl)
@[simp] theorem State.setReg_slices (s : State) (r w) : (s.setReg r w).slices = s.slices := (rfl)
@[simp] theorem State.setReg_sliceFrame (s : State) (r w) : (s.setReg r w).sliceFrame = s.sliceFrame := (rfl)
@[simp] theorem State.setReg_scrubAt (s : State) (r w) : (s.setReg r w).scrubAt = s.scrubAt := (rfl)
@[simp] theorem State.setReg_loopback (s : State) (r w) : (s.setReg r w).loopback = s.loopback := (rfl)
@[simp] theorem State.setReg_weak (s : State) (r w) : (s.setReg r w).weak = s.weak := (rfl)
@[simp] theorem State.setReg_repairDue (s : State) (r w) : (s.setReg r w).repairDue = s.repairDue := (rfl)
@[simp] theorem State.setReg_badInstr (s : State) (r w) : (s.setReg r w).badInstr = s.badInstr := (rfl)
@[simp] theorem State.setReg_badAcc (s : State) (r w) : (s.setReg r w).badAcc = s.badAcc := (rfl)
@[simp] theorem State.setReg_ueAt (s : State) (r w) : (s.setReg r w).ueAt = s.ueAt := (rfl)
@[simp] theorem State.setReg_ceAt (s : State) (r w) : (s.setReg r w).ceAt = s.ceAt := (rfl)
@[simp] theorem State.setReg_wback (s : State) (r w) : (s.setReg r w).wback = s.wback := (rfl)
@[simp] theorem State.setReg_out (s : State) (r w) : (s.setReg r w).out = s.out := (rfl)
@[simp] theorem State.setReg_freeCtr (s : State) (r w) : (s.setReg r w).freeCtr = s.freeCtr := (rfl)
@[simp] theorem State.setReg_strand (s : State) (r w g1 c1 k1) : (s.setReg r w).strand g1 c1 k1 = s.strand g1 c1 k1 := (rfl)
@[simp] theorem State.setReg_ctx (s : State) (r w g1 c1) : (s.setReg r w).ctx g1 c1 = s.ctx g1 c1 := (rfl)
@[simp] theorem State.setReg_core (s : State) (r w g1) : (s.setReg r w).core g1 = s.core g1 := (rfl)
@[simp] theorem State.setReg_mod (s : State) (r w c1) : (s.setReg r w).mod c1 = s.mod c1 := (rfl)
@[simp] theorem State.setReg_fn (s : State) (r w p1) : (s.setReg r w).fn p1 = s.fn p1 := (rfl)
@[simp] theorem State.setReg_ownerOf (s : State) (r w g1) : (s.setReg r w).ownerOf g1 = s.ownerOf g1 := (rfl)
@[simp] theorem State.setReg_read (s : State) (r w q n1) : (s.setReg r w).read q n1 = s.read q n1 := (rfl)
@[simp] theorem State.setReg_poisoned (s : State) (r w q n1) : (s.setReg r w).poisoned q n1 = s.poisoned q n1 := (rfl)
@[simp] theorem State.setReg_waitsOf (s : State) (r w g1 c1) : (s.setReg r w).waitsOf g1 c1 = s.waitsOf g1 c1 := (rfl)
@[simp] theorem State.setReg_colTag (s : State) (r w g1 c1 id1) : (s.setReg r w).colTag g1 c1 id1 = s.colTag g1 c1 id1 := (rfl)
@[simp] theorem State.setReg_svc (s : State) (r w c1) : (s.setReg r w).svc c1 = s.svc c1 := (rfl)
@[simp] theorem State.setReg_chan (s : State) (r w g1 ch1) : (s.setReg r w).chan g1 ch1 = s.chan g1 ch1 := (rfl)
@[simp] theorem State.setReg_bracket (s : State) (r w g1 c1 cls1) : (s.setReg r w).bracket g1 c1 cls1 = s.bracket g1 c1 cls1 := (rfl)
@[simp] theorem State.setReg_seg (s : State) (r w p1 i1) : (s.setReg r w).seg p1 i1 = s.seg p1 i1 := (rfl)
@[simp] theorem State.setReg_hop (s : State) (r w g1 c1 t1) : (s.setReg r w).hop g1 c1 t1 = s.hop g1 c1 t1 := (rfl)
@[simp] theorem State.setReg_sflow (s : State) (r w f1) : (s.setReg r w).sflow f1 = s.sflow f1 := (rfl)
@[simp] theorem State.setReg_trnOf (s : State) (r w c1) : (s.setReg r w).trnOf c1 = s.trnOf c1 := (rfl)

/-! setF -/

@[simp] theorem State.setF_pending (s : State) (x v i j k) : (s.setF x v i j k).pending = s.pending := (rfl)
@[simp] theorem State.setF_clk (s : State) (x v i j k) : (s.setF x v i j k).clk = s.clk := (rfl)
@[simp] theorem State.setF_owner (s : State) (x v i j k) : (s.setF x v i j k).owner = s.owner := (rfl)
@[simp] theorem State.setF_mem (s : State) (x v i j k) : (s.setF x v i j k).mem = s.mem := (rfl)
@[simp] theorem State.setF_poison (s : State) (x v i j k) : (s.setF x v i j k).poison = s.poison := (rfl)
@[simp] theorem State.setF_msix (s : State) (x v i j k) : (s.setF x v i j k).msix = s.msix := (rfl)
@[simp] theorem State.setF_msixPend (s : State) (x v i j k) : (s.setF x v i j k).msixPend = s.msixPend := (rfl)
@[simp] theorem State.setF_mctx (s : State) (x v i j k) : (s.setF x v i j k).mctx = s.mctx := (rfl)
@[simp] theorem State.setF_ctxs (s : State) (x v i j k) : (s.setF x v i j k).ctxs = s.ctxs := (rfl)
@[simp] theorem State.setF_watch (s : State) (x v i j k) : (s.setF x v i j k).watch = s.watch := (rfl)
@[simp] theorem State.setF_stalled (s : State) (x v i j k) : (s.setF x v i j k).stalled = s.stalled := (rfl)
@[simp] theorem State.setF_strands (s : State) (x v i j k) : (s.setF x v i j k).strands = s.strands := (rfl)
@[simp] theorem State.setF_cores (s : State) (x v i j k) : (s.setF x v i j k).cores = s.cores := (rfl)
@[simp] theorem State.setF_unseen (s : State) (x v i j k) : (s.setF x v i j k).unseen = s.unseen := (rfl)
@[simp] theorem State.setF_waits (s : State) (x v i j k) : (s.setF x v i j k).waits = s.waits := (rfl)
@[simp] theorem State.setF_tags (s : State) (x v i j k) : (s.setF x v i j k).tags = s.tags := (rfl)
@[simp] theorem State.setF_brackets (s : State) (x v i j k) : (s.setF x v i j k).brackets = s.brackets := (rfl)
@[simp] theorem State.setF_accs (s : State) (x v i j k) : (s.setF x v i j k).accs = s.accs := (rfl)
@[simp] theorem State.setF_accSrc (s : State) (x v i j k) : (s.setF x v i j k).accSrc = s.accSrc := (rfl)
@[simp] theorem State.setF_hops (s : State) (x v i j k) : (s.setF x v i j k).hops = s.hops := (rfl)
@[simp] theorem State.setF_chans (s : State) (x v i j k) : (s.setF x v i j k).chans = s.chans := (rfl)
@[simp] theorem State.setF_trn (s : State) (x v i j k) : (s.setF x v i j k).trn = s.trn := (rfl)
@[simp] theorem State.setF_segs (s : State) (x v i j k) : (s.setF x v i j k).segs = s.segs := (rfl)
@[simp] theorem State.setF_transit (s : State) (x v i j k) : (s.setF x v i j k).transit = s.transit := (rfl)
@[simp] theorem State.setF_msgs (s : State) (x v i j k) : (s.setF x v i j k).msgs = s.msgs := (rfl)
@[simp] theorem State.setF_sflows (s : State) (x v i j k) : (s.setF x v i j k).sflows = s.sflows := (rfl)
@[simp] theorem State.setF_epochs (s : State) (x v i j k) : (s.setF x v i j k).epochs = s.epochs := (rfl)
@[simp] theorem State.setF_rflows (s : State) (x v i j k) : (s.setF x v i j k).rflows = s.rflows := (rfl)
@[simp] theorem State.setF_tag (s : State) (x v i j k) : (s.setF x v i j k).tag = s.tag := (rfl)
@[simp] theorem State.setF_netWait (s : State) (x v i j k) : (s.setF x v i j k).netWait = s.netWait := (rfl)
@[simp] theorem State.setF_flowWait (s : State) (x v i j k) : (s.setF x v i j k).flowWait = s.flowWait := (rfl)
@[simp] theorem State.setF_colEnts (s : State) (x v i j k) : (s.setF x v i j k).colEnts = s.colEnts := (rfl)
@[simp] theorem State.setF_colRels (s : State) (x v i j k) : (s.setF x v i j k).colRels = s.colRels := (rfl)
@[simp] theorem State.setF_colHist (s : State) (x v i j k) : (s.setF x v i j k).colHist = s.colHist := (rfl)
@[simp] theorem State.setF_colPoll (s : State) (x v i j k) : (s.setF x v i j k).colPoll = s.colPoll := (rfl)
@[simp] theorem State.setF_granted (s : State) (x v i j k) : (s.setF x v i j k).granted = s.granted := (rfl)
@[simp] theorem State.setF_lendRel (s : State) (x v i j k) : (s.setF x v i j k).lendRel = s.lendRel := (rfl)
@[simp] theorem State.setF_paused (s : State) (x v i j k) : (s.setF x v i j k).paused = s.paused := (rfl)
@[simp] theorem State.setF_pausing (s : State) (x v i j k) : (s.setF x v i j k).pausing = s.pausing := (rfl)
@[simp] theorem State.setF_linkDown (s : State) (x v i j k) : (s.setF x v i j k).linkDown = s.linkDown := (rfl)
@[simp] theorem State.setF_txns (s : State) (x v i j k) : (s.setF x v i j k).txns = s.txns := (rfl)
@[simp] theorem State.setF_txnOrder (s : State) (x v i j k) : (s.setF x v i j k).txnOrder = s.txnOrder := (rfl)
@[simp] theorem State.setF_stw (s : State) (x v i j k) : (s.setF x v i j k).stw = s.stw := (rfl)
@[simp] theorem State.setF_pwr (s : State) (x v i j k) : (s.setF x v i j k).pwr = s.pwr := (rfl)
@[simp] theorem State.setF_svcs (s : State) (x v i j k) : (s.setF x v i j k).svcs = s.svcs := (rfl)
@[simp] theorem State.setF_perst (s : State) (x v i j k) : (s.setF x v i j k).perst = s.perst := (rfl)
@[simp] theorem State.setF_fns (s : State) (x v i j k) : (s.setF x v i j k).fns = s.fns := (rfl)
@[simp] theorem State.setF_straps (s : State) (x v i j k) : (s.setF x v i j k).straps = s.straps := (rfl)
@[simp] theorem State.setF_cycles (s : State) (x v i j k) : (s.setF x v i j k).cycles = s.cycles := (rfl)
@[simp] theorem State.setF_lendAt (s : State) (x v i j k) : (s.setF x v i j k).lendAt = s.lendAt := (rfl)
@[simp] theorem State.setF_lendPtr (s : State) (x v i j k) : (s.setF x v i j k).lendPtr = s.lendPtr := (rfl)
@[simp] theorem State.setF_lendNew (s : State) (x v i j k) : (s.setF x v i j k).lendNew = s.lendNew := (rfl)
@[simp] theorem State.setF_slices (s : State) (x v i j k) : (s.setF x v i j k).slices = s.slices := (rfl)
@[simp] theorem State.setF_sliceFrame (s : State) (x v i j k) : (s.setF x v i j k).sliceFrame = s.sliceFrame := (rfl)
@[simp] theorem State.setF_scrubAt (s : State) (x v i j k) : (s.setF x v i j k).scrubAt = s.scrubAt := (rfl)
@[simp] theorem State.setF_loopback (s : State) (x v i j k) : (s.setF x v i j k).loopback = s.loopback := (rfl)
@[simp] theorem State.setF_weak (s : State) (x v i j k) : (s.setF x v i j k).weak = s.weak := (rfl)
@[simp] theorem State.setF_repairDue (s : State) (x v i j k) : (s.setF x v i j k).repairDue = s.repairDue := (rfl)
@[simp] theorem State.setF_badInstr (s : State) (x v i j k) : (s.setF x v i j k).badInstr = s.badInstr := (rfl)
@[simp] theorem State.setF_badAcc (s : State) (x v i j k) : (s.setF x v i j k).badAcc = s.badAcc := (rfl)
@[simp] theorem State.setF_ueAt (s : State) (x v i j k) : (s.setF x v i j k).ueAt = s.ueAt := (rfl)
@[simp] theorem State.setF_ceAt (s : State) (x v i j k) : (s.setF x v i j k).ceAt = s.ceAt := (rfl)
@[simp] theorem State.setF_wback (s : State) (x v i j k) : (s.setF x v i j k).wback = s.wback := (rfl)
@[simp] theorem State.setF_out (s : State) (x v i j k) : (s.setF x v i j k).out = s.out := (rfl)
@[simp] theorem State.setF_freeCtr (s : State) (x v i j k) : (s.setF x v i j k).freeCtr = s.freeCtr := (rfl)
@[simp] theorem State.setF_strand (s : State) (x v i j k g1 c1 k1) : (s.setF x v i j k).strand g1 c1 k1 = s.strand g1 c1 k1 := (rfl)
@[simp] theorem State.setF_ctx (s : State) (x v i j k g1 c1) : (s.setF x v i j k).ctx g1 c1 = s.ctx g1 c1 := (rfl)
@[simp] theorem State.setF_core (s : State) (x v i j k g1) : (s.setF x v i j k).core g1 = s.core g1 := (rfl)
@[simp] theorem State.setF_mod (s : State) (x v i j k c1) : (s.setF x v i j k).mod c1 = s.mod c1 := (rfl)
@[simp] theorem State.setF_fn (s : State) (x v i j k p1) : (s.setF x v i j k).fn p1 = s.fn p1 := (rfl)
@[simp] theorem State.setF_ownerOf (s : State) (x v i j k g1) : (s.setF x v i j k).ownerOf g1 = s.ownerOf g1 := (rfl)
@[simp] theorem State.setF_read (s : State) (x v i j k q n1) : (s.setF x v i j k).read q n1 = s.read q n1 := (rfl)
@[simp] theorem State.setF_poisoned (s : State) (x v i j k q n1) : (s.setF x v i j k).poisoned q n1 = s.poisoned q n1 := (rfl)
@[simp] theorem State.setF_waitsOf (s : State) (x v i j k g1 c1) : (s.setF x v i j k).waitsOf g1 c1 = s.waitsOf g1 c1 := (rfl)
@[simp] theorem State.setF_colTag (s : State) (x v i j k g1 c1 id1) : (s.setF x v i j k).colTag g1 c1 id1 = s.colTag g1 c1 id1 := (rfl)
@[simp] theorem State.setF_svc (s : State) (x v i j k c1) : (s.setF x v i j k).svc c1 = s.svc c1 := (rfl)
@[simp] theorem State.setF_chan (s : State) (x v i j k g1 ch1) : (s.setF x v i j k).chan g1 ch1 = s.chan g1 ch1 := (rfl)
@[simp] theorem State.setF_bracket (s : State) (x v i j k g1 c1 cls1) : (s.setF x v i j k).bracket g1 c1 cls1 = s.bracket g1 c1 cls1 := (rfl)
@[simp] theorem State.setF_seg (s : State) (x v i j k p1 i1) : (s.setF x v i j k).seg p1 i1 = s.seg p1 i1 := (rfl)
@[simp] theorem State.setF_hop (s : State) (x v i j k g1 c1 t1) : (s.setF x v i j k).hop g1 c1 t1 = s.hop g1 c1 t1 := (rfl)
@[simp] theorem State.setF_sflow (s : State) (x v i j k f1) : (s.setF x v i j k).sflow f1 = s.sflow f1 := (rfl)
@[simp] theorem State.setF_trnOf (s : State) (x v i j k c1) : (s.setF x v i j k).trnOf c1 = s.trnOf c1 := (rfl)

/-! event -/

@[simp] theorem State.event_pending (s : State) (x n i j) : (s.event x n i j).pending = s.pending := by obtain ⟨q, o, h⟩ := s.event_eq x n i j; rw [h]; rfl
@[simp] theorem State.event_clk (s : State) (x n i j) : (s.event x n i j).clk = s.clk := by obtain ⟨q, o, h⟩ := s.event_eq x n i j; rw [h]; rfl
@[simp] theorem State.event_owner (s : State) (x n i j) : (s.event x n i j).owner = s.owner := by obtain ⟨q, o, h⟩ := s.event_eq x n i j; rw [h]; rfl
@[simp] theorem State.event_mem (s : State) (x n i j) : (s.event x n i j).mem = s.mem := by obtain ⟨q, o, h⟩ := s.event_eq x n i j; rw [h]; rfl
@[simp] theorem State.event_poison (s : State) (x n i j) : (s.event x n i j).poison = s.poison := by obtain ⟨q, o, h⟩ := s.event_eq x n i j; rw [h]; rfl
@[simp] theorem State.event_msix (s : State) (x n i j) : (s.event x n i j).msix = s.msix := by obtain ⟨q, o, h⟩ := s.event_eq x n i j; rw [h]; rfl
@[simp] theorem State.event_mctx (s : State) (x n i j) : (s.event x n i j).mctx = s.mctx := by obtain ⟨q, o, h⟩ := s.event_eq x n i j; rw [h]; rfl
@[simp] theorem State.event_ctxs (s : State) (x n i j) : (s.event x n i j).ctxs = s.ctxs := by obtain ⟨q, o, h⟩ := s.event_eq x n i j; rw [h]; rfl
@[simp] theorem State.event_watch (s : State) (x n i j) : (s.event x n i j).watch = s.watch := by obtain ⟨q, o, h⟩ := s.event_eq x n i j; rw [h]; rfl
@[simp] theorem State.event_stalled (s : State) (x n i j) : (s.event x n i j).stalled = s.stalled := by obtain ⟨q, o, h⟩ := s.event_eq x n i j; rw [h]; rfl
@[simp] theorem State.event_strands (s : State) (x n i j) : (s.event x n i j).strands = s.strands := by obtain ⟨q, o, h⟩ := s.event_eq x n i j; rw [h]; rfl
@[simp] theorem State.event_cores (s : State) (x n i j) : (s.event x n i j).cores = s.cores := by obtain ⟨q, o, h⟩ := s.event_eq x n i j; rw [h]; rfl
@[simp] theorem State.event_unseen (s : State) (x n i j) : (s.event x n i j).unseen = s.unseen := by obtain ⟨q, o, h⟩ := s.event_eq x n i j; rw [h]; rfl
@[simp] theorem State.event_waits (s : State) (x n i j) : (s.event x n i j).waits = s.waits := by obtain ⟨q, o, h⟩ := s.event_eq x n i j; rw [h]; rfl
@[simp] theorem State.event_tags (s : State) (x n i j) : (s.event x n i j).tags = s.tags := by obtain ⟨q, o, h⟩ := s.event_eq x n i j; rw [h]; rfl
@[simp] theorem State.event_brackets (s : State) (x n i j) : (s.event x n i j).brackets = s.brackets := by obtain ⟨q, o, h⟩ := s.event_eq x n i j; rw [h]; rfl
@[simp] theorem State.event_accs (s : State) (x n i j) : (s.event x n i j).accs = s.accs := by obtain ⟨q, o, h⟩ := s.event_eq x n i j; rw [h]; rfl
@[simp] theorem State.event_accSrc (s : State) (x n i j) : (s.event x n i j).accSrc = s.accSrc := by obtain ⟨q, o, h⟩ := s.event_eq x n i j; rw [h]; rfl
@[simp] theorem State.event_hops (s : State) (x n i j) : (s.event x n i j).hops = s.hops := by obtain ⟨q, o, h⟩ := s.event_eq x n i j; rw [h]; rfl
@[simp] theorem State.event_chans (s : State) (x n i j) : (s.event x n i j).chans = s.chans := by obtain ⟨q, o, h⟩ := s.event_eq x n i j; rw [h]; rfl
@[simp] theorem State.event_trn (s : State) (x n i j) : (s.event x n i j).trn = s.trn := by obtain ⟨q, o, h⟩ := s.event_eq x n i j; rw [h]; rfl
@[simp] theorem State.event_segs (s : State) (x n i j) : (s.event x n i j).segs = s.segs := by obtain ⟨q, o, h⟩ := s.event_eq x n i j; rw [h]; rfl
@[simp] theorem State.event_transit (s : State) (x n i j) : (s.event x n i j).transit = s.transit := by obtain ⟨q, o, h⟩ := s.event_eq x n i j; rw [h]; rfl
@[simp] theorem State.event_msgs (s : State) (x n i j) : (s.event x n i j).msgs = s.msgs := by obtain ⟨q, o, h⟩ := s.event_eq x n i j; rw [h]; rfl
@[simp] theorem State.event_sflows (s : State) (x n i j) : (s.event x n i j).sflows = s.sflows := by obtain ⟨q, o, h⟩ := s.event_eq x n i j; rw [h]; rfl
@[simp] theorem State.event_epochs (s : State) (x n i j) : (s.event x n i j).epochs = s.epochs := by obtain ⟨q, o, h⟩ := s.event_eq x n i j; rw [h]; rfl
@[simp] theorem State.event_rflows (s : State) (x n i j) : (s.event x n i j).rflows = s.rflows := by obtain ⟨q, o, h⟩ := s.event_eq x n i j; rw [h]; rfl
@[simp] theorem State.event_tag (s : State) (x n i j) : (s.event x n i j).tag = s.tag := by obtain ⟨q, o, h⟩ := s.event_eq x n i j; rw [h]; rfl
@[simp] theorem State.event_netWait (s : State) (x n i j) : (s.event x n i j).netWait = s.netWait := by obtain ⟨q, o, h⟩ := s.event_eq x n i j; rw [h]; rfl
@[simp] theorem State.event_flowWait (s : State) (x n i j) : (s.event x n i j).flowWait = s.flowWait := by obtain ⟨q, o, h⟩ := s.event_eq x n i j; rw [h]; rfl
@[simp] theorem State.event_colEnts (s : State) (x n i j) : (s.event x n i j).colEnts = s.colEnts := by obtain ⟨q, o, h⟩ := s.event_eq x n i j; rw [h]; rfl
@[simp] theorem State.event_colRels (s : State) (x n i j) : (s.event x n i j).colRels = s.colRels := by obtain ⟨q, o, h⟩ := s.event_eq x n i j; rw [h]; rfl
@[simp] theorem State.event_colHist (s : State) (x n i j) : (s.event x n i j).colHist = s.colHist := by obtain ⟨q, o, h⟩ := s.event_eq x n i j; rw [h]; rfl
@[simp] theorem State.event_colPoll (s : State) (x n i j) : (s.event x n i j).colPoll = s.colPoll := by obtain ⟨q, o, h⟩ := s.event_eq x n i j; rw [h]; rfl
@[simp] theorem State.event_granted (s : State) (x n i j) : (s.event x n i j).granted = s.granted := by obtain ⟨q, o, h⟩ := s.event_eq x n i j; rw [h]; rfl
@[simp] theorem State.event_lendRel (s : State) (x n i j) : (s.event x n i j).lendRel = s.lendRel := by obtain ⟨q, o, h⟩ := s.event_eq x n i j; rw [h]; rfl
@[simp] theorem State.event_paused (s : State) (x n i j) : (s.event x n i j).paused = s.paused := by obtain ⟨q, o, h⟩ := s.event_eq x n i j; rw [h]; rfl
@[simp] theorem State.event_pausing (s : State) (x n i j) : (s.event x n i j).pausing = s.pausing := by obtain ⟨q, o, h⟩ := s.event_eq x n i j; rw [h]; rfl
@[simp] theorem State.event_linkDown (s : State) (x n i j) : (s.event x n i j).linkDown = s.linkDown := by obtain ⟨q, o, h⟩ := s.event_eq x n i j; rw [h]; rfl
@[simp] theorem State.event_txns (s : State) (x n i j) : (s.event x n i j).txns = s.txns := by obtain ⟨q, o, h⟩ := s.event_eq x n i j; rw [h]; rfl
@[simp] theorem State.event_txnOrder (s : State) (x n i j) : (s.event x n i j).txnOrder = s.txnOrder := by obtain ⟨q, o, h⟩ := s.event_eq x n i j; rw [h]; rfl
@[simp] theorem State.event_stw (s : State) (x n i j) : (s.event x n i j).stw = s.stw := by obtain ⟨q, o, h⟩ := s.event_eq x n i j; rw [h]; rfl
@[simp] theorem State.event_pwr (s : State) (x n i j) : (s.event x n i j).pwr = s.pwr := by obtain ⟨q, o, h⟩ := s.event_eq x n i j; rw [h]; rfl
@[simp] theorem State.event_svcs (s : State) (x n i j) : (s.event x n i j).svcs = s.svcs := by obtain ⟨q, o, h⟩ := s.event_eq x n i j; rw [h]; rfl
@[simp] theorem State.event_perst (s : State) (x n i j) : (s.event x n i j).perst = s.perst := by obtain ⟨q, o, h⟩ := s.event_eq x n i j; rw [h]; rfl
@[simp] theorem State.event_fns (s : State) (x n i j) : (s.event x n i j).fns = s.fns := by obtain ⟨q, o, h⟩ := s.event_eq x n i j; rw [h]; rfl
@[simp] theorem State.event_straps (s : State) (x n i j) : (s.event x n i j).straps = s.straps := by obtain ⟨q, o, h⟩ := s.event_eq x n i j; rw [h]; rfl
@[simp] theorem State.event_cycles (s : State) (x n i j) : (s.event x n i j).cycles = s.cycles := by obtain ⟨q, o, h⟩ := s.event_eq x n i j; rw [h]; rfl
@[simp] theorem State.event_lendAt (s : State) (x n i j) : (s.event x n i j).lendAt = s.lendAt := by obtain ⟨q, o, h⟩ := s.event_eq x n i j; rw [h]; rfl
@[simp] theorem State.event_lendPtr (s : State) (x n i j) : (s.event x n i j).lendPtr = s.lendPtr := by obtain ⟨q, o, h⟩ := s.event_eq x n i j; rw [h]; rfl
@[simp] theorem State.event_lendNew (s : State) (x n i j) : (s.event x n i j).lendNew = s.lendNew := by obtain ⟨q, o, h⟩ := s.event_eq x n i j; rw [h]; rfl
@[simp] theorem State.event_slices (s : State) (x n i j) : (s.event x n i j).slices = s.slices := by obtain ⟨q, o, h⟩ := s.event_eq x n i j; rw [h]; rfl
@[simp] theorem State.event_sliceFrame (s : State) (x n i j) : (s.event x n i j).sliceFrame = s.sliceFrame := by obtain ⟨q, o, h⟩ := s.event_eq x n i j; rw [h]; rfl
@[simp] theorem State.event_scrubAt (s : State) (x n i j) : (s.event x n i j).scrubAt = s.scrubAt := by obtain ⟨q, o, h⟩ := s.event_eq x n i j; rw [h]; rfl
@[simp] theorem State.event_loopback (s : State) (x n i j) : (s.event x n i j).loopback = s.loopback := by obtain ⟨q, o, h⟩ := s.event_eq x n i j; rw [h]; rfl
@[simp] theorem State.event_weak (s : State) (x n i j) : (s.event x n i j).weak = s.weak := by obtain ⟨q, o, h⟩ := s.event_eq x n i j; rw [h]; rfl
@[simp] theorem State.event_repairDue (s : State) (x n i j) : (s.event x n i j).repairDue = s.repairDue := by obtain ⟨q, o, h⟩ := s.event_eq x n i j; rw [h]; rfl
@[simp] theorem State.event_badInstr (s : State) (x n i j) : (s.event x n i j).badInstr = s.badInstr := by obtain ⟨q, o, h⟩ := s.event_eq x n i j; rw [h]; rfl
@[simp] theorem State.event_badAcc (s : State) (x n i j) : (s.event x n i j).badAcc = s.badAcc := by obtain ⟨q, o, h⟩ := s.event_eq x n i j; rw [h]; rfl
@[simp] theorem State.event_ueAt (s : State) (x n i j) : (s.event x n i j).ueAt = s.ueAt := by obtain ⟨q, o, h⟩ := s.event_eq x n i j; rw [h]; rfl
@[simp] theorem State.event_ceAt (s : State) (x n i j) : (s.event x n i j).ceAt = s.ceAt := by obtain ⟨q, o, h⟩ := s.event_eq x n i j; rw [h]; rfl
@[simp] theorem State.event_wback (s : State) (x n i j) : (s.event x n i j).wback = s.wback := by obtain ⟨q, o, h⟩ := s.event_eq x n i j; rw [h]; rfl
@[simp] theorem State.event_freeCtr (s : State) (x n i j) : (s.event x n i j).freeCtr = s.freeCtr := by obtain ⟨q, o, h⟩ := s.event_eq x n i j; rw [h]; rfl
@[simp] theorem State.event_strand (s : State) (x n i j g1 c1 k1) : (s.event x n i j).strand g1 c1 k1 = s.strand g1 c1 k1 := by simp [State.strand]
@[simp] theorem State.event_ctx (s : State) (x n i j g1 c1) : (s.event x n i j).ctx g1 c1 = s.ctx g1 c1 := by simp [State.ctx]
@[simp] theorem State.event_core (s : State) (x n i j g1) : (s.event x n i j).core g1 = s.core g1 := by simp [State.core]
@[simp] theorem State.event_mod (s : State) (x n i j c1) : (s.event x n i j).mod c1 = s.mod c1 := by simp [State.mod]
@[simp] theorem State.event_fn (s : State) (x n i j p1) : (s.event x n i j).fn p1 = s.fn p1 := by simp [State.fn]
@[simp] theorem State.event_ownerOf (s : State) (x n i j g1) : (s.event x n i j).ownerOf g1 = s.ownerOf g1 := by simp [State.ownerOf]
@[simp] theorem State.event_read (s : State) (x n i j q n1) : (s.event x n i j).read q n1 = s.read q n1 := by simp [State.read]
@[simp] theorem State.event_poisoned (s : State) (x n i j q n1) : (s.event x n i j).poisoned q n1 = s.poisoned q n1 := by simp [State.poisoned]
@[simp] theorem State.event_waitsOf (s : State) (x n i j g1 c1) : (s.event x n i j).waitsOf g1 c1 = s.waitsOf g1 c1 := by simp [State.waitsOf]
@[simp] theorem State.event_colTag (s : State) (x n i j g1 c1 id1) : (s.event x n i j).colTag g1 c1 id1 = s.colTag g1 c1 id1 := by simp [State.colTag]
@[simp] theorem State.event_svc (s : State) (x n i j c1) : (s.event x n i j).svc c1 = s.svc c1 := by simp [State.svc]
@[simp] theorem State.event_chan (s : State) (x n i j g1 ch1) : (s.event x n i j).chan g1 ch1 = s.chan g1 ch1 := by simp [State.chan]
@[simp] theorem State.event_bracket (s : State) (x n i j g1 c1 cls1) : (s.event x n i j).bracket g1 c1 cls1 = s.bracket g1 c1 cls1 := by simp [State.bracket]
@[simp] theorem State.event_seg (s : State) (x n i j p1 i1) : (s.event x n i j).seg p1 i1 = s.seg p1 i1 := by simp [State.seg]
@[simp] theorem State.event_hop (s : State) (x n i j g1 c1 t1) : (s.event x n i j).hop g1 c1 t1 = s.hop g1 c1 t1 := by simp [State.hop]
@[simp] theorem State.event_sflow (s : State) (x n i j f1) : (s.event x n i j).sflow f1 = s.sflow f1 := by simp [State.sflow]
@[simp] theorem State.event_trnOf (s : State) (x n i j c1) : (s.event x n i j).trnOf c1 = s.trnOf c1 := by simp [State.trnOf]

/-! setCtx -/

@[simp] theorem State.setCtx_pending (s : State) (g c x) : (s.setCtx g c x).pending = s.pending := (rfl)
@[simp] theorem State.setCtx_regs (s : State) (g c x) : (s.setCtx g c x).regs = s.regs := (rfl)
@[simp] theorem State.setCtx_clk (s : State) (g c x) : (s.setCtx g c x).clk = s.clk := (rfl)
@[simp] theorem State.setCtx_owner (s : State) (g c x) : (s.setCtx g c x).owner = s.owner := (rfl)
@[simp] theorem State.setCtx_mem (s : State) (g c x) : (s.setCtx g c x).mem = s.mem := (rfl)
@[simp] theorem State.setCtx_poison (s : State) (g c x) : (s.setCtx g c x).poison = s.poison := (rfl)
@[simp] theorem State.setCtx_msix (s : State) (g c x) : (s.setCtx g c x).msix = s.msix := (rfl)
@[simp] theorem State.setCtx_msixPend (s : State) (g c x) : (s.setCtx g c x).msixPend = s.msixPend := (rfl)
@[simp] theorem State.setCtx_mctx (s : State) (g c x) : (s.setCtx g c x).mctx = s.mctx := (rfl)
@[simp] theorem State.setCtx_watch (s : State) (g c x) : (s.setCtx g c x).watch = s.watch := (rfl)
@[simp] theorem State.setCtx_stalled (s : State) (g c x) : (s.setCtx g c x).stalled = s.stalled := (rfl)
@[simp] theorem State.setCtx_strands (s : State) (g c x) : (s.setCtx g c x).strands = s.strands := (rfl)
@[simp] theorem State.setCtx_cores (s : State) (g c x) : (s.setCtx g c x).cores = s.cores := (rfl)
@[simp] theorem State.setCtx_unseen (s : State) (g c x) : (s.setCtx g c x).unseen = s.unseen := (rfl)
@[simp] theorem State.setCtx_waits (s : State) (g c x) : (s.setCtx g c x).waits = s.waits := (rfl)
@[simp] theorem State.setCtx_tags (s : State) (g c x) : (s.setCtx g c x).tags = s.tags := (rfl)
@[simp] theorem State.setCtx_brackets (s : State) (g c x) : (s.setCtx g c x).brackets = s.brackets := (rfl)
@[simp] theorem State.setCtx_accs (s : State) (g c x) : (s.setCtx g c x).accs = s.accs := (rfl)
@[simp] theorem State.setCtx_accSrc (s : State) (g c x) : (s.setCtx g c x).accSrc = s.accSrc := (rfl)
@[simp] theorem State.setCtx_hops (s : State) (g c x) : (s.setCtx g c x).hops = s.hops := (rfl)
@[simp] theorem State.setCtx_chans (s : State) (g c x) : (s.setCtx g c x).chans = s.chans := (rfl)
@[simp] theorem State.setCtx_trn (s : State) (g c x) : (s.setCtx g c x).trn = s.trn := (rfl)
@[simp] theorem State.setCtx_segs (s : State) (g c x) : (s.setCtx g c x).segs = s.segs := (rfl)
@[simp] theorem State.setCtx_transit (s : State) (g c x) : (s.setCtx g c x).transit = s.transit := (rfl)
@[simp] theorem State.setCtx_msgs (s : State) (g c x) : (s.setCtx g c x).msgs = s.msgs := (rfl)
@[simp] theorem State.setCtx_sflows (s : State) (g c x) : (s.setCtx g c x).sflows = s.sflows := (rfl)
@[simp] theorem State.setCtx_epochs (s : State) (g c x) : (s.setCtx g c x).epochs = s.epochs := (rfl)
@[simp] theorem State.setCtx_rflows (s : State) (g c x) : (s.setCtx g c x).rflows = s.rflows := (rfl)
@[simp] theorem State.setCtx_tag (s : State) (g c x) : (s.setCtx g c x).tag = s.tag := (rfl)
@[simp] theorem State.setCtx_netWait (s : State) (g c x) : (s.setCtx g c x).netWait = s.netWait := (rfl)
@[simp] theorem State.setCtx_flowWait (s : State) (g c x) : (s.setCtx g c x).flowWait = s.flowWait := (rfl)
@[simp] theorem State.setCtx_colEnts (s : State) (g c x) : (s.setCtx g c x).colEnts = s.colEnts := (rfl)
@[simp] theorem State.setCtx_colRels (s : State) (g c x) : (s.setCtx g c x).colRels = s.colRels := (rfl)
@[simp] theorem State.setCtx_colHist (s : State) (g c x) : (s.setCtx g c x).colHist = s.colHist := (rfl)
@[simp] theorem State.setCtx_colPoll (s : State) (g c x) : (s.setCtx g c x).colPoll = s.colPoll := (rfl)
@[simp] theorem State.setCtx_granted (s : State) (g c x) : (s.setCtx g c x).granted = s.granted := (rfl)
@[simp] theorem State.setCtx_lendRel (s : State) (g c x) : (s.setCtx g c x).lendRel = s.lendRel := (rfl)
@[simp] theorem State.setCtx_paused (s : State) (g c x) : (s.setCtx g c x).paused = s.paused := (rfl)
@[simp] theorem State.setCtx_pausing (s : State) (g c x) : (s.setCtx g c x).pausing = s.pausing := (rfl)
@[simp] theorem State.setCtx_linkDown (s : State) (g c x) : (s.setCtx g c x).linkDown = s.linkDown := (rfl)
@[simp] theorem State.setCtx_txns (s : State) (g c x) : (s.setCtx g c x).txns = s.txns := (rfl)
@[simp] theorem State.setCtx_txnOrder (s : State) (g c x) : (s.setCtx g c x).txnOrder = s.txnOrder := (rfl)
@[simp] theorem State.setCtx_stw (s : State) (g c x) : (s.setCtx g c x).stw = s.stw := (rfl)
@[simp] theorem State.setCtx_pwr (s : State) (g c x) : (s.setCtx g c x).pwr = s.pwr := (rfl)
@[simp] theorem State.setCtx_svcs (s : State) (g c x) : (s.setCtx g c x).svcs = s.svcs := (rfl)
@[simp] theorem State.setCtx_perst (s : State) (g c x) : (s.setCtx g c x).perst = s.perst := (rfl)
@[simp] theorem State.setCtx_fns (s : State) (g c x) : (s.setCtx g c x).fns = s.fns := (rfl)
@[simp] theorem State.setCtx_straps (s : State) (g c x) : (s.setCtx g c x).straps = s.straps := (rfl)
@[simp] theorem State.setCtx_cycles (s : State) (g c x) : (s.setCtx g c x).cycles = s.cycles := (rfl)
@[simp] theorem State.setCtx_lendAt (s : State) (g c x) : (s.setCtx g c x).lendAt = s.lendAt := (rfl)
@[simp] theorem State.setCtx_lendPtr (s : State) (g c x) : (s.setCtx g c x).lendPtr = s.lendPtr := (rfl)
@[simp] theorem State.setCtx_lendNew (s : State) (g c x) : (s.setCtx g c x).lendNew = s.lendNew := (rfl)
@[simp] theorem State.setCtx_slices (s : State) (g c x) : (s.setCtx g c x).slices = s.slices := (rfl)
@[simp] theorem State.setCtx_sliceFrame (s : State) (g c x) : (s.setCtx g c x).sliceFrame = s.sliceFrame := (rfl)
@[simp] theorem State.setCtx_scrubAt (s : State) (g c x) : (s.setCtx g c x).scrubAt = s.scrubAt := (rfl)
@[simp] theorem State.setCtx_loopback (s : State) (g c x) : (s.setCtx g c x).loopback = s.loopback := (rfl)
@[simp] theorem State.setCtx_weak (s : State) (g c x) : (s.setCtx g c x).weak = s.weak := (rfl)
@[simp] theorem State.setCtx_repairDue (s : State) (g c x) : (s.setCtx g c x).repairDue = s.repairDue := (rfl)
@[simp] theorem State.setCtx_badInstr (s : State) (g c x) : (s.setCtx g c x).badInstr = s.badInstr := (rfl)
@[simp] theorem State.setCtx_badAcc (s : State) (g c x) : (s.setCtx g c x).badAcc = s.badAcc := (rfl)
@[simp] theorem State.setCtx_ueAt (s : State) (g c x) : (s.setCtx g c x).ueAt = s.ueAt := (rfl)
@[simp] theorem State.setCtx_ceAt (s : State) (g c x) : (s.setCtx g c x).ceAt = s.ceAt := (rfl)
@[simp] theorem State.setCtx_wback (s : State) (g c x) : (s.setCtx g c x).wback = s.wback := (rfl)
@[simp] theorem State.setCtx_out (s : State) (g c x) : (s.setCtx g c x).out = s.out := (rfl)
@[simp] theorem State.setCtx_freeCtr (s : State) (g c x) : (s.setCtx g c x).freeCtr = s.freeCtr := (rfl)
@[simp] theorem State.setCtx_reg (s : State) (g c x r) : (s.setCtx g c x).reg r = s.reg r := (rfl)
@[simp] theorem State.setCtx_f (s : State) (g c x y l1 m1 n1) : (s.setCtx g c x).f y l1 m1 n1 = s.f y l1 m1 n1 := (rfl)
@[simp] theorem State.setCtx_fb (s : State) (g c x y l1 m1 n1) : (s.setCtx g c x).fb y l1 m1 n1 = s.fb y l1 m1 n1 := (rfl)
@[simp] theorem State.setCtx_strand (s : State) (g c x g1 c1 k1) : (s.setCtx g c x).strand g1 c1 k1 = s.strand g1 c1 k1 := (rfl)
@[simp] theorem State.setCtx_core (s : State) (g c x g1) : (s.setCtx g c x).core g1 = s.core g1 := (rfl)
@[simp] theorem State.setCtx_mod (s : State) (g c x c1) : (s.setCtx g c x).mod c1 = s.mod c1 := (rfl)
@[simp] theorem State.setCtx_fn (s : State) (g c x p1) : (s.setCtx g c x).fn p1 = s.fn p1 := (rfl)
@[simp] theorem State.setCtx_ownerOf (s : State) (g c x g1) : (s.setCtx g c x).ownerOf g1 = s.ownerOf g1 := (rfl)
@[simp] theorem State.setCtx_read (s : State) (g c x q n1) : (s.setCtx g c x).read q n1 = s.read q n1 := (rfl)
@[simp] theorem State.setCtx_poisoned (s : State) (g c x q n1) : (s.setCtx g c x).poisoned q n1 = s.poisoned q n1 := (rfl)
@[simp] theorem State.setCtx_waitsOf (s : State) (g c x g1 c1) : (s.setCtx g c x).waitsOf g1 c1 = s.waitsOf g1 c1 := (rfl)
@[simp] theorem State.setCtx_colTag (s : State) (g c x g1 c1 id1) : (s.setCtx g c x).colTag g1 c1 id1 = s.colTag g1 c1 id1 := (rfl)
@[simp] theorem State.setCtx_svc (s : State) (g c x c1) : (s.setCtx g c x).svc c1 = s.svc c1 := (rfl)
@[simp] theorem State.setCtx_chan (s : State) (g c x g1 ch1) : (s.setCtx g c x).chan g1 ch1 = s.chan g1 ch1 := (rfl)
@[simp] theorem State.setCtx_bracket (s : State) (g c x g1 c1 cls1) : (s.setCtx g c x).bracket g1 c1 cls1 = s.bracket g1 c1 cls1 := (rfl)
@[simp] theorem State.setCtx_seg (s : State) (g c x p1 i1) : (s.setCtx g c x).seg p1 i1 = s.seg p1 i1 := (rfl)
@[simp] theorem State.setCtx_hop (s : State) (g c x g1 c1 t1) : (s.setCtx g c x).hop g1 c1 t1 = s.hop g1 c1 t1 := (rfl)
@[simp] theorem State.setCtx_sflow (s : State) (g c x f1) : (s.setCtx g c x).sflow f1 = s.sflow f1 := (rfl)
@[simp] theorem State.setCtx_trnOf (s : State) (g c x c1) : (s.setCtx g c x).trnOf c1 = s.trnOf c1 := (rfl)

/-! setStrand -/

@[simp] theorem State.setStrand_pending (s : State) (g c k x) : (s.setStrand g c k x).pending = s.pending := (rfl)
@[simp] theorem State.setStrand_regs (s : State) (g c k x) : (s.setStrand g c k x).regs = s.regs := (rfl)
@[simp] theorem State.setStrand_clk (s : State) (g c k x) : (s.setStrand g c k x).clk = s.clk := (rfl)
@[simp] theorem State.setStrand_owner (s : State) (g c k x) : (s.setStrand g c k x).owner = s.owner := (rfl)
@[simp] theorem State.setStrand_mem (s : State) (g c k x) : (s.setStrand g c k x).mem = s.mem := (rfl)
@[simp] theorem State.setStrand_poison (s : State) (g c k x) : (s.setStrand g c k x).poison = s.poison := (rfl)
@[simp] theorem State.setStrand_msix (s : State) (g c k x) : (s.setStrand g c k x).msix = s.msix := (rfl)
@[simp] theorem State.setStrand_msixPend (s : State) (g c k x) : (s.setStrand g c k x).msixPend = s.msixPend := (rfl)
@[simp] theorem State.setStrand_mctx (s : State) (g c k x) : (s.setStrand g c k x).mctx = s.mctx := (rfl)
@[simp] theorem State.setStrand_ctxs (s : State) (g c k x) : (s.setStrand g c k x).ctxs = s.ctxs := (rfl)
@[simp] theorem State.setStrand_watch (s : State) (g c k x) : (s.setStrand g c k x).watch = s.watch := (rfl)
@[simp] theorem State.setStrand_stalled (s : State) (g c k x) : (s.setStrand g c k x).stalled = s.stalled := (rfl)
@[simp] theorem State.setStrand_cores (s : State) (g c k x) : (s.setStrand g c k x).cores = s.cores := (rfl)
@[simp] theorem State.setStrand_unseen (s : State) (g c k x) : (s.setStrand g c k x).unseen = s.unseen := (rfl)
@[simp] theorem State.setStrand_waits (s : State) (g c k x) : (s.setStrand g c k x).waits = s.waits := (rfl)
@[simp] theorem State.setStrand_tags (s : State) (g c k x) : (s.setStrand g c k x).tags = s.tags := (rfl)
@[simp] theorem State.setStrand_brackets (s : State) (g c k x) : (s.setStrand g c k x).brackets = s.brackets := (rfl)
@[simp] theorem State.setStrand_accs (s : State) (g c k x) : (s.setStrand g c k x).accs = s.accs := (rfl)
@[simp] theorem State.setStrand_accSrc (s : State) (g c k x) : (s.setStrand g c k x).accSrc = s.accSrc := (rfl)
@[simp] theorem State.setStrand_hops (s : State) (g c k x) : (s.setStrand g c k x).hops = s.hops := (rfl)
@[simp] theorem State.setStrand_chans (s : State) (g c k x) : (s.setStrand g c k x).chans = s.chans := (rfl)
@[simp] theorem State.setStrand_trn (s : State) (g c k x) : (s.setStrand g c k x).trn = s.trn := (rfl)
@[simp] theorem State.setStrand_segs (s : State) (g c k x) : (s.setStrand g c k x).segs = s.segs := (rfl)
@[simp] theorem State.setStrand_transit (s : State) (g c k x) : (s.setStrand g c k x).transit = s.transit := (rfl)
@[simp] theorem State.setStrand_msgs (s : State) (g c k x) : (s.setStrand g c k x).msgs = s.msgs := (rfl)
@[simp] theorem State.setStrand_sflows (s : State) (g c k x) : (s.setStrand g c k x).sflows = s.sflows := (rfl)
@[simp] theorem State.setStrand_epochs (s : State) (g c k x) : (s.setStrand g c k x).epochs = s.epochs := (rfl)
@[simp] theorem State.setStrand_rflows (s : State) (g c k x) : (s.setStrand g c k x).rflows = s.rflows := (rfl)
@[simp] theorem State.setStrand_tag (s : State) (g c k x) : (s.setStrand g c k x).tag = s.tag := (rfl)
@[simp] theorem State.setStrand_netWait (s : State) (g c k x) : (s.setStrand g c k x).netWait = s.netWait := (rfl)
@[simp] theorem State.setStrand_flowWait (s : State) (g c k x) : (s.setStrand g c k x).flowWait = s.flowWait := (rfl)
@[simp] theorem State.setStrand_colEnts (s : State) (g c k x) : (s.setStrand g c k x).colEnts = s.colEnts := (rfl)
@[simp] theorem State.setStrand_colRels (s : State) (g c k x) : (s.setStrand g c k x).colRels = s.colRels := (rfl)
@[simp] theorem State.setStrand_colHist (s : State) (g c k x) : (s.setStrand g c k x).colHist = s.colHist := (rfl)
@[simp] theorem State.setStrand_colPoll (s : State) (g c k x) : (s.setStrand g c k x).colPoll = s.colPoll := (rfl)
@[simp] theorem State.setStrand_granted (s : State) (g c k x) : (s.setStrand g c k x).granted = s.granted := (rfl)
@[simp] theorem State.setStrand_lendRel (s : State) (g c k x) : (s.setStrand g c k x).lendRel = s.lendRel := (rfl)
@[simp] theorem State.setStrand_paused (s : State) (g c k x) : (s.setStrand g c k x).paused = s.paused := (rfl)
@[simp] theorem State.setStrand_pausing (s : State) (g c k x) : (s.setStrand g c k x).pausing = s.pausing := (rfl)
@[simp] theorem State.setStrand_linkDown (s : State) (g c k x) : (s.setStrand g c k x).linkDown = s.linkDown := (rfl)
@[simp] theorem State.setStrand_txns (s : State) (g c k x) : (s.setStrand g c k x).txns = s.txns := (rfl)
@[simp] theorem State.setStrand_txnOrder (s : State) (g c k x) : (s.setStrand g c k x).txnOrder = s.txnOrder := (rfl)
@[simp] theorem State.setStrand_stw (s : State) (g c k x) : (s.setStrand g c k x).stw = s.stw := (rfl)
@[simp] theorem State.setStrand_pwr (s : State) (g c k x) : (s.setStrand g c k x).pwr = s.pwr := (rfl)
@[simp] theorem State.setStrand_svcs (s : State) (g c k x) : (s.setStrand g c k x).svcs = s.svcs := (rfl)
@[simp] theorem State.setStrand_perst (s : State) (g c k x) : (s.setStrand g c k x).perst = s.perst := (rfl)
@[simp] theorem State.setStrand_fns (s : State) (g c k x) : (s.setStrand g c k x).fns = s.fns := (rfl)
@[simp] theorem State.setStrand_straps (s : State) (g c k x) : (s.setStrand g c k x).straps = s.straps := (rfl)
@[simp] theorem State.setStrand_cycles (s : State) (g c k x) : (s.setStrand g c k x).cycles = s.cycles := (rfl)
@[simp] theorem State.setStrand_lendAt (s : State) (g c k x) : (s.setStrand g c k x).lendAt = s.lendAt := (rfl)
@[simp] theorem State.setStrand_lendPtr (s : State) (g c k x) : (s.setStrand g c k x).lendPtr = s.lendPtr := (rfl)
@[simp] theorem State.setStrand_lendNew (s : State) (g c k x) : (s.setStrand g c k x).lendNew = s.lendNew := (rfl)
@[simp] theorem State.setStrand_slices (s : State) (g c k x) : (s.setStrand g c k x).slices = s.slices := (rfl)
@[simp] theorem State.setStrand_sliceFrame (s : State) (g c k x) : (s.setStrand g c k x).sliceFrame = s.sliceFrame := (rfl)
@[simp] theorem State.setStrand_scrubAt (s : State) (g c k x) : (s.setStrand g c k x).scrubAt = s.scrubAt := (rfl)
@[simp] theorem State.setStrand_loopback (s : State) (g c k x) : (s.setStrand g c k x).loopback = s.loopback := (rfl)
@[simp] theorem State.setStrand_weak (s : State) (g c k x) : (s.setStrand g c k x).weak = s.weak := (rfl)
@[simp] theorem State.setStrand_repairDue (s : State) (g c k x) : (s.setStrand g c k x).repairDue = s.repairDue := (rfl)
@[simp] theorem State.setStrand_badInstr (s : State) (g c k x) : (s.setStrand g c k x).badInstr = s.badInstr := (rfl)
@[simp] theorem State.setStrand_badAcc (s : State) (g c k x) : (s.setStrand g c k x).badAcc = s.badAcc := (rfl)
@[simp] theorem State.setStrand_ueAt (s : State) (g c k x) : (s.setStrand g c k x).ueAt = s.ueAt := (rfl)
@[simp] theorem State.setStrand_ceAt (s : State) (g c k x) : (s.setStrand g c k x).ceAt = s.ceAt := (rfl)
@[simp] theorem State.setStrand_wback (s : State) (g c k x) : (s.setStrand g c k x).wback = s.wback := (rfl)
@[simp] theorem State.setStrand_out (s : State) (g c k x) : (s.setStrand g c k x).out = s.out := (rfl)
@[simp] theorem State.setStrand_freeCtr (s : State) (g c k x) : (s.setStrand g c k x).freeCtr = s.freeCtr := (rfl)
@[simp] theorem State.setStrand_reg (s : State) (g c k x r) : (s.setStrand g c k x).reg r = s.reg r := (rfl)
@[simp] theorem State.setStrand_f (s : State) (g c k x y l1 m1 n1) : (s.setStrand g c k x).f y l1 m1 n1 = s.f y l1 m1 n1 := (rfl)
@[simp] theorem State.setStrand_fb (s : State) (g c k x y l1 m1 n1) : (s.setStrand g c k x).fb y l1 m1 n1 = s.fb y l1 m1 n1 := (rfl)
@[simp] theorem State.setStrand_ctx (s : State) (g c k x g1 c1) : (s.setStrand g c k x).ctx g1 c1 = s.ctx g1 c1 := (rfl)
@[simp] theorem State.setStrand_core (s : State) (g c k x g1) : (s.setStrand g c k x).core g1 = s.core g1 := (rfl)
@[simp] theorem State.setStrand_mod (s : State) (g c k x c1) : (s.setStrand g c k x).mod c1 = s.mod c1 := (rfl)
@[simp] theorem State.setStrand_fn (s : State) (g c k x p1) : (s.setStrand g c k x).fn p1 = s.fn p1 := (rfl)
@[simp] theorem State.setStrand_ownerOf (s : State) (g c k x g1) : (s.setStrand g c k x).ownerOf g1 = s.ownerOf g1 := (rfl)
@[simp] theorem State.setStrand_read (s : State) (g c k x q n1) : (s.setStrand g c k x).read q n1 = s.read q n1 := (rfl)
@[simp] theorem State.setStrand_poisoned (s : State) (g c k x q n1) : (s.setStrand g c k x).poisoned q n1 = s.poisoned q n1 := (rfl)
@[simp] theorem State.setStrand_waitsOf (s : State) (g c k x g1 c1) : (s.setStrand g c k x).waitsOf g1 c1 = s.waitsOf g1 c1 := (rfl)
@[simp] theorem State.setStrand_colTag (s : State) (g c k x g1 c1 id1) : (s.setStrand g c k x).colTag g1 c1 id1 = s.colTag g1 c1 id1 := (rfl)
@[simp] theorem State.setStrand_svc (s : State) (g c k x c1) : (s.setStrand g c k x).svc c1 = s.svc c1 := (rfl)
@[simp] theorem State.setStrand_chan (s : State) (g c k x g1 ch1) : (s.setStrand g c k x).chan g1 ch1 = s.chan g1 ch1 := (rfl)
@[simp] theorem State.setStrand_bracket (s : State) (g c k x g1 c1 cls1) : (s.setStrand g c k x).bracket g1 c1 cls1 = s.bracket g1 c1 cls1 := (rfl)
@[simp] theorem State.setStrand_seg (s : State) (g c k x p1 i1) : (s.setStrand g c k x).seg p1 i1 = s.seg p1 i1 := (rfl)
@[simp] theorem State.setStrand_hop (s : State) (g c k x g1 c1 t1) : (s.setStrand g c k x).hop g1 c1 t1 = s.hop g1 c1 t1 := (rfl)
@[simp] theorem State.setStrand_sflow (s : State) (g c k x f1) : (s.setStrand g c k x).sflow f1 = s.sflow f1 := (rfl)
@[simp] theorem State.setStrand_trnOf (s : State) (g c k x c1) : (s.setStrand g c k x).trnOf c1 = s.trnOf c1 := (rfl)

/-! setCore -/

@[simp] theorem State.setCore_pending (s : State) (g x) : (s.setCore g x).pending = s.pending := (rfl)
@[simp] theorem State.setCore_regs (s : State) (g x) : (s.setCore g x).regs = s.regs := (rfl)
@[simp] theorem State.setCore_clk (s : State) (g x) : (s.setCore g x).clk = s.clk := (rfl)
@[simp] theorem State.setCore_owner (s : State) (g x) : (s.setCore g x).owner = s.owner := (rfl)
@[simp] theorem State.setCore_mem (s : State) (g x) : (s.setCore g x).mem = s.mem := (rfl)
@[simp] theorem State.setCore_poison (s : State) (g x) : (s.setCore g x).poison = s.poison := (rfl)
@[simp] theorem State.setCore_msix (s : State) (g x) : (s.setCore g x).msix = s.msix := (rfl)
@[simp] theorem State.setCore_msixPend (s : State) (g x) : (s.setCore g x).msixPend = s.msixPend := (rfl)
@[simp] theorem State.setCore_mctx (s : State) (g x) : (s.setCore g x).mctx = s.mctx := (rfl)
@[simp] theorem State.setCore_ctxs (s : State) (g x) : (s.setCore g x).ctxs = s.ctxs := (rfl)
@[simp] theorem State.setCore_watch (s : State) (g x) : (s.setCore g x).watch = s.watch := (rfl)
@[simp] theorem State.setCore_stalled (s : State) (g x) : (s.setCore g x).stalled = s.stalled := (rfl)
@[simp] theorem State.setCore_strands (s : State) (g x) : (s.setCore g x).strands = s.strands := (rfl)
@[simp] theorem State.setCore_unseen (s : State) (g x) : (s.setCore g x).unseen = s.unseen := (rfl)
@[simp] theorem State.setCore_waits (s : State) (g x) : (s.setCore g x).waits = s.waits := (rfl)
@[simp] theorem State.setCore_tags (s : State) (g x) : (s.setCore g x).tags = s.tags := (rfl)
@[simp] theorem State.setCore_brackets (s : State) (g x) : (s.setCore g x).brackets = s.brackets := (rfl)
@[simp] theorem State.setCore_accs (s : State) (g x) : (s.setCore g x).accs = s.accs := (rfl)
@[simp] theorem State.setCore_accSrc (s : State) (g x) : (s.setCore g x).accSrc = s.accSrc := (rfl)
@[simp] theorem State.setCore_hops (s : State) (g x) : (s.setCore g x).hops = s.hops := (rfl)
@[simp] theorem State.setCore_chans (s : State) (g x) : (s.setCore g x).chans = s.chans := (rfl)
@[simp] theorem State.setCore_trn (s : State) (g x) : (s.setCore g x).trn = s.trn := (rfl)
@[simp] theorem State.setCore_segs (s : State) (g x) : (s.setCore g x).segs = s.segs := (rfl)
@[simp] theorem State.setCore_transit (s : State) (g x) : (s.setCore g x).transit = s.transit := (rfl)
@[simp] theorem State.setCore_msgs (s : State) (g x) : (s.setCore g x).msgs = s.msgs := (rfl)
@[simp] theorem State.setCore_sflows (s : State) (g x) : (s.setCore g x).sflows = s.sflows := (rfl)
@[simp] theorem State.setCore_epochs (s : State) (g x) : (s.setCore g x).epochs = s.epochs := (rfl)
@[simp] theorem State.setCore_rflows (s : State) (g x) : (s.setCore g x).rflows = s.rflows := (rfl)
@[simp] theorem State.setCore_tag (s : State) (g x) : (s.setCore g x).tag = s.tag := (rfl)
@[simp] theorem State.setCore_netWait (s : State) (g x) : (s.setCore g x).netWait = s.netWait := (rfl)
@[simp] theorem State.setCore_flowWait (s : State) (g x) : (s.setCore g x).flowWait = s.flowWait := (rfl)
@[simp] theorem State.setCore_colEnts (s : State) (g x) : (s.setCore g x).colEnts = s.colEnts := (rfl)
@[simp] theorem State.setCore_colRels (s : State) (g x) : (s.setCore g x).colRels = s.colRels := (rfl)
@[simp] theorem State.setCore_colHist (s : State) (g x) : (s.setCore g x).colHist = s.colHist := (rfl)
@[simp] theorem State.setCore_colPoll (s : State) (g x) : (s.setCore g x).colPoll = s.colPoll := (rfl)
@[simp] theorem State.setCore_granted (s : State) (g x) : (s.setCore g x).granted = s.granted := (rfl)
@[simp] theorem State.setCore_lendRel (s : State) (g x) : (s.setCore g x).lendRel = s.lendRel := (rfl)
@[simp] theorem State.setCore_paused (s : State) (g x) : (s.setCore g x).paused = s.paused := (rfl)
@[simp] theorem State.setCore_pausing (s : State) (g x) : (s.setCore g x).pausing = s.pausing := (rfl)
@[simp] theorem State.setCore_linkDown (s : State) (g x) : (s.setCore g x).linkDown = s.linkDown := (rfl)
@[simp] theorem State.setCore_txns (s : State) (g x) : (s.setCore g x).txns = s.txns := (rfl)
@[simp] theorem State.setCore_txnOrder (s : State) (g x) : (s.setCore g x).txnOrder = s.txnOrder := (rfl)
@[simp] theorem State.setCore_stw (s : State) (g x) : (s.setCore g x).stw = s.stw := (rfl)
@[simp] theorem State.setCore_pwr (s : State) (g x) : (s.setCore g x).pwr = s.pwr := (rfl)
@[simp] theorem State.setCore_svcs (s : State) (g x) : (s.setCore g x).svcs = s.svcs := (rfl)
@[simp] theorem State.setCore_perst (s : State) (g x) : (s.setCore g x).perst = s.perst := (rfl)
@[simp] theorem State.setCore_fns (s : State) (g x) : (s.setCore g x).fns = s.fns := (rfl)
@[simp] theorem State.setCore_straps (s : State) (g x) : (s.setCore g x).straps = s.straps := (rfl)
@[simp] theorem State.setCore_cycles (s : State) (g x) : (s.setCore g x).cycles = s.cycles := (rfl)
@[simp] theorem State.setCore_lendAt (s : State) (g x) : (s.setCore g x).lendAt = s.lendAt := (rfl)
@[simp] theorem State.setCore_lendPtr (s : State) (g x) : (s.setCore g x).lendPtr = s.lendPtr := (rfl)
@[simp] theorem State.setCore_lendNew (s : State) (g x) : (s.setCore g x).lendNew = s.lendNew := (rfl)
@[simp] theorem State.setCore_slices (s : State) (g x) : (s.setCore g x).slices = s.slices := (rfl)
@[simp] theorem State.setCore_sliceFrame (s : State) (g x) : (s.setCore g x).sliceFrame = s.sliceFrame := (rfl)
@[simp] theorem State.setCore_scrubAt (s : State) (g x) : (s.setCore g x).scrubAt = s.scrubAt := (rfl)
@[simp] theorem State.setCore_loopback (s : State) (g x) : (s.setCore g x).loopback = s.loopback := (rfl)
@[simp] theorem State.setCore_weak (s : State) (g x) : (s.setCore g x).weak = s.weak := (rfl)
@[simp] theorem State.setCore_repairDue (s : State) (g x) : (s.setCore g x).repairDue = s.repairDue := (rfl)
@[simp] theorem State.setCore_badInstr (s : State) (g x) : (s.setCore g x).badInstr = s.badInstr := (rfl)
@[simp] theorem State.setCore_badAcc (s : State) (g x) : (s.setCore g x).badAcc = s.badAcc := (rfl)
@[simp] theorem State.setCore_ueAt (s : State) (g x) : (s.setCore g x).ueAt = s.ueAt := (rfl)
@[simp] theorem State.setCore_ceAt (s : State) (g x) : (s.setCore g x).ceAt = s.ceAt := (rfl)
@[simp] theorem State.setCore_wback (s : State) (g x) : (s.setCore g x).wback = s.wback := (rfl)
@[simp] theorem State.setCore_out (s : State) (g x) : (s.setCore g x).out = s.out := (rfl)
@[simp] theorem State.setCore_freeCtr (s : State) (g x) : (s.setCore g x).freeCtr = s.freeCtr := (rfl)
@[simp] theorem State.setCore_reg (s : State) (g x r) : (s.setCore g x).reg r = s.reg r := (rfl)
@[simp] theorem State.setCore_f (s : State) (g x y l1 m1 n1) : (s.setCore g x).f y l1 m1 n1 = s.f y l1 m1 n1 := (rfl)
@[simp] theorem State.setCore_fb (s : State) (g x y l1 m1 n1) : (s.setCore g x).fb y l1 m1 n1 = s.fb y l1 m1 n1 := (rfl)
@[simp] theorem State.setCore_strand (s : State) (g x g1 c1 k1) : (s.setCore g x).strand g1 c1 k1 = s.strand g1 c1 k1 := (rfl)
@[simp] theorem State.setCore_ctx (s : State) (g x g1 c1) : (s.setCore g x).ctx g1 c1 = s.ctx g1 c1 := (rfl)
@[simp] theorem State.setCore_mod (s : State) (g x c1) : (s.setCore g x).mod c1 = s.mod c1 := (rfl)
@[simp] theorem State.setCore_fn (s : State) (g x p1) : (s.setCore g x).fn p1 = s.fn p1 := (rfl)
@[simp] theorem State.setCore_ownerOf (s : State) (g x g1) : (s.setCore g x).ownerOf g1 = s.ownerOf g1 := (rfl)
@[simp] theorem State.setCore_read (s : State) (g x q n1) : (s.setCore g x).read q n1 = s.read q n1 := (rfl)
@[simp] theorem State.setCore_poisoned (s : State) (g x q n1) : (s.setCore g x).poisoned q n1 = s.poisoned q n1 := (rfl)
@[simp] theorem State.setCore_waitsOf (s : State) (g x g1 c1) : (s.setCore g x).waitsOf g1 c1 = s.waitsOf g1 c1 := (rfl)
@[simp] theorem State.setCore_colTag (s : State) (g x g1 c1 id1) : (s.setCore g x).colTag g1 c1 id1 = s.colTag g1 c1 id1 := (rfl)
@[simp] theorem State.setCore_svc (s : State) (g x c1) : (s.setCore g x).svc c1 = s.svc c1 := (rfl)
@[simp] theorem State.setCore_chan (s : State) (g x g1 ch1) : (s.setCore g x).chan g1 ch1 = s.chan g1 ch1 := (rfl)
@[simp] theorem State.setCore_bracket (s : State) (g x g1 c1 cls1) : (s.setCore g x).bracket g1 c1 cls1 = s.bracket g1 c1 cls1 := (rfl)
@[simp] theorem State.setCore_seg (s : State) (g x p1 i1) : (s.setCore g x).seg p1 i1 = s.seg p1 i1 := (rfl)
@[simp] theorem State.setCore_hop (s : State) (g x g1 c1 t1) : (s.setCore g x).hop g1 c1 t1 = s.hop g1 c1 t1 := (rfl)
@[simp] theorem State.setCore_sflow (s : State) (g x f1) : (s.setCore g x).sflow f1 = s.sflow f1 := (rfl)
@[simp] theorem State.setCore_trnOf (s : State) (g x c1) : (s.setCore g x).trnOf c1 = s.trnOf c1 := (rfl)

/-! setMod -/

@[simp] theorem State.setMod_pending (s : State) (c x) : (s.setMod c x).pending = s.pending := (rfl)
@[simp] theorem State.setMod_regs (s : State) (c x) : (s.setMod c x).regs = s.regs := (rfl)
@[simp] theorem State.setMod_clk (s : State) (c x) : (s.setMod c x).clk = s.clk := (rfl)
@[simp] theorem State.setMod_owner (s : State) (c x) : (s.setMod c x).owner = s.owner := (rfl)
@[simp] theorem State.setMod_mem (s : State) (c x) : (s.setMod c x).mem = s.mem := (rfl)
@[simp] theorem State.setMod_poison (s : State) (c x) : (s.setMod c x).poison = s.poison := (rfl)
@[simp] theorem State.setMod_msix (s : State) (c x) : (s.setMod c x).msix = s.msix := (rfl)
@[simp] theorem State.setMod_msixPend (s : State) (c x) : (s.setMod c x).msixPend = s.msixPend := (rfl)
@[simp] theorem State.setMod_ctxs (s : State) (c x) : (s.setMod c x).ctxs = s.ctxs := (rfl)
@[simp] theorem State.setMod_watch (s : State) (c x) : (s.setMod c x).watch = s.watch := (rfl)
@[simp] theorem State.setMod_stalled (s : State) (c x) : (s.setMod c x).stalled = s.stalled := (rfl)
@[simp] theorem State.setMod_strands (s : State) (c x) : (s.setMod c x).strands = s.strands := (rfl)
@[simp] theorem State.setMod_cores (s : State) (c x) : (s.setMod c x).cores = s.cores := (rfl)
@[simp] theorem State.setMod_unseen (s : State) (c x) : (s.setMod c x).unseen = s.unseen := (rfl)
@[simp] theorem State.setMod_waits (s : State) (c x) : (s.setMod c x).waits = s.waits := (rfl)
@[simp] theorem State.setMod_tags (s : State) (c x) : (s.setMod c x).tags = s.tags := (rfl)
@[simp] theorem State.setMod_brackets (s : State) (c x) : (s.setMod c x).brackets = s.brackets := (rfl)
@[simp] theorem State.setMod_accs (s : State) (c x) : (s.setMod c x).accs = s.accs := (rfl)
@[simp] theorem State.setMod_accSrc (s : State) (c x) : (s.setMod c x).accSrc = s.accSrc := (rfl)
@[simp] theorem State.setMod_hops (s : State) (c x) : (s.setMod c x).hops = s.hops := (rfl)
@[simp] theorem State.setMod_chans (s : State) (c x) : (s.setMod c x).chans = s.chans := (rfl)
@[simp] theorem State.setMod_trn (s : State) (c x) : (s.setMod c x).trn = s.trn := (rfl)
@[simp] theorem State.setMod_segs (s : State) (c x) : (s.setMod c x).segs = s.segs := (rfl)
@[simp] theorem State.setMod_transit (s : State) (c x) : (s.setMod c x).transit = s.transit := (rfl)
@[simp] theorem State.setMod_msgs (s : State) (c x) : (s.setMod c x).msgs = s.msgs := (rfl)
@[simp] theorem State.setMod_sflows (s : State) (c x) : (s.setMod c x).sflows = s.sflows := (rfl)
@[simp] theorem State.setMod_epochs (s : State) (c x) : (s.setMod c x).epochs = s.epochs := (rfl)
@[simp] theorem State.setMod_rflows (s : State) (c x) : (s.setMod c x).rflows = s.rflows := (rfl)
@[simp] theorem State.setMod_tag (s : State) (c x) : (s.setMod c x).tag = s.tag := (rfl)
@[simp] theorem State.setMod_netWait (s : State) (c x) : (s.setMod c x).netWait = s.netWait := (rfl)
@[simp] theorem State.setMod_flowWait (s : State) (c x) : (s.setMod c x).flowWait = s.flowWait := (rfl)
@[simp] theorem State.setMod_colEnts (s : State) (c x) : (s.setMod c x).colEnts = s.colEnts := (rfl)
@[simp] theorem State.setMod_colRels (s : State) (c x) : (s.setMod c x).colRels = s.colRels := (rfl)
@[simp] theorem State.setMod_colHist (s : State) (c x) : (s.setMod c x).colHist = s.colHist := (rfl)
@[simp] theorem State.setMod_colPoll (s : State) (c x) : (s.setMod c x).colPoll = s.colPoll := (rfl)
@[simp] theorem State.setMod_granted (s : State) (c x) : (s.setMod c x).granted = s.granted := (rfl)
@[simp] theorem State.setMod_lendRel (s : State) (c x) : (s.setMod c x).lendRel = s.lendRel := (rfl)
@[simp] theorem State.setMod_paused (s : State) (c x) : (s.setMod c x).paused = s.paused := (rfl)
@[simp] theorem State.setMod_pausing (s : State) (c x) : (s.setMod c x).pausing = s.pausing := (rfl)
@[simp] theorem State.setMod_linkDown (s : State) (c x) : (s.setMod c x).linkDown = s.linkDown := (rfl)
@[simp] theorem State.setMod_txns (s : State) (c x) : (s.setMod c x).txns = s.txns := (rfl)
@[simp] theorem State.setMod_txnOrder (s : State) (c x) : (s.setMod c x).txnOrder = s.txnOrder := (rfl)
@[simp] theorem State.setMod_stw (s : State) (c x) : (s.setMod c x).stw = s.stw := (rfl)
@[simp] theorem State.setMod_pwr (s : State) (c x) : (s.setMod c x).pwr = s.pwr := (rfl)
@[simp] theorem State.setMod_svcs (s : State) (c x) : (s.setMod c x).svcs = s.svcs := (rfl)
@[simp] theorem State.setMod_perst (s : State) (c x) : (s.setMod c x).perst = s.perst := (rfl)
@[simp] theorem State.setMod_fns (s : State) (c x) : (s.setMod c x).fns = s.fns := (rfl)
@[simp] theorem State.setMod_straps (s : State) (c x) : (s.setMod c x).straps = s.straps := (rfl)
@[simp] theorem State.setMod_cycles (s : State) (c x) : (s.setMod c x).cycles = s.cycles := (rfl)
@[simp] theorem State.setMod_lendAt (s : State) (c x) : (s.setMod c x).lendAt = s.lendAt := (rfl)
@[simp] theorem State.setMod_lendPtr (s : State) (c x) : (s.setMod c x).lendPtr = s.lendPtr := (rfl)
@[simp] theorem State.setMod_lendNew (s : State) (c x) : (s.setMod c x).lendNew = s.lendNew := (rfl)
@[simp] theorem State.setMod_slices (s : State) (c x) : (s.setMod c x).slices = s.slices := (rfl)
@[simp] theorem State.setMod_sliceFrame (s : State) (c x) : (s.setMod c x).sliceFrame = s.sliceFrame := (rfl)
@[simp] theorem State.setMod_scrubAt (s : State) (c x) : (s.setMod c x).scrubAt = s.scrubAt := (rfl)
@[simp] theorem State.setMod_loopback (s : State) (c x) : (s.setMod c x).loopback = s.loopback := (rfl)
@[simp] theorem State.setMod_weak (s : State) (c x) : (s.setMod c x).weak = s.weak := (rfl)
@[simp] theorem State.setMod_repairDue (s : State) (c x) : (s.setMod c x).repairDue = s.repairDue := (rfl)
@[simp] theorem State.setMod_badInstr (s : State) (c x) : (s.setMod c x).badInstr = s.badInstr := (rfl)
@[simp] theorem State.setMod_badAcc (s : State) (c x) : (s.setMod c x).badAcc = s.badAcc := (rfl)
@[simp] theorem State.setMod_ueAt (s : State) (c x) : (s.setMod c x).ueAt = s.ueAt := (rfl)
@[simp] theorem State.setMod_ceAt (s : State) (c x) : (s.setMod c x).ceAt = s.ceAt := (rfl)
@[simp] theorem State.setMod_wback (s : State) (c x) : (s.setMod c x).wback = s.wback := (rfl)
@[simp] theorem State.setMod_out (s : State) (c x) : (s.setMod c x).out = s.out := (rfl)
@[simp] theorem State.setMod_freeCtr (s : State) (c x) : (s.setMod c x).freeCtr = s.freeCtr := (rfl)
@[simp] theorem State.setMod_reg (s : State) (c x r) : (s.setMod c x).reg r = s.reg r := (rfl)
@[simp] theorem State.setMod_f (s : State) (c x y l1 m1 n1) : (s.setMod c x).f y l1 m1 n1 = s.f y l1 m1 n1 := (rfl)
@[simp] theorem State.setMod_fb (s : State) (c x y l1 m1 n1) : (s.setMod c x).fb y l1 m1 n1 = s.fb y l1 m1 n1 := (rfl)
@[simp] theorem State.setMod_strand (s : State) (c x g1 c1 k1) : (s.setMod c x).strand g1 c1 k1 = s.strand g1 c1 k1 := (rfl)
@[simp] theorem State.setMod_ctx (s : State) (c x g1 c1) : (s.setMod c x).ctx g1 c1 = s.ctx g1 c1 := (rfl)
@[simp] theorem State.setMod_core (s : State) (c x g1) : (s.setMod c x).core g1 = s.core g1 := (rfl)
@[simp] theorem State.setMod_fn (s : State) (c x p1) : (s.setMod c x).fn p1 = s.fn p1 := (rfl)
@[simp] theorem State.setMod_ownerOf (s : State) (c x g1) : (s.setMod c x).ownerOf g1 = s.ownerOf g1 := (rfl)
@[simp] theorem State.setMod_read (s : State) (c x q n1) : (s.setMod c x).read q n1 = s.read q n1 := (rfl)
@[simp] theorem State.setMod_poisoned (s : State) (c x q n1) : (s.setMod c x).poisoned q n1 = s.poisoned q n1 := (rfl)
@[simp] theorem State.setMod_waitsOf (s : State) (c x g1 c1) : (s.setMod c x).waitsOf g1 c1 = s.waitsOf g1 c1 := (rfl)
@[simp] theorem State.setMod_colTag (s : State) (c x g1 c1 id1) : (s.setMod c x).colTag g1 c1 id1 = s.colTag g1 c1 id1 := (rfl)
@[simp] theorem State.setMod_svc (s : State) (c x c1) : (s.setMod c x).svc c1 = s.svc c1 := (rfl)
@[simp] theorem State.setMod_chan (s : State) (c x g1 ch1) : (s.setMod c x).chan g1 ch1 = s.chan g1 ch1 := (rfl)
@[simp] theorem State.setMod_bracket (s : State) (c x g1 c1 cls1) : (s.setMod c x).bracket g1 c1 cls1 = s.bracket g1 c1 cls1 := (rfl)
@[simp] theorem State.setMod_seg (s : State) (c x p1 i1) : (s.setMod c x).seg p1 i1 = s.seg p1 i1 := (rfl)
@[simp] theorem State.setMod_hop (s : State) (c x g1 c1 t1) : (s.setMod c x).hop g1 c1 t1 = s.hop g1 c1 t1 := (rfl)
@[simp] theorem State.setMod_sflow (s : State) (c x f1) : (s.setMod c x).sflow f1 = s.sflow f1 := (rfl)
@[simp] theorem State.setMod_trnOf (s : State) (c x c1) : (s.setMod c x).trnOf c1 = s.trnOf c1 := (rfl)

/-! setFn -/

@[simp] theorem State.setFn_pending (s : State) (p x) : (s.setFn p x).pending = s.pending := (rfl)
@[simp] theorem State.setFn_regs (s : State) (p x) : (s.setFn p x).regs = s.regs := (rfl)
@[simp] theorem State.setFn_clk (s : State) (p x) : (s.setFn p x).clk = s.clk := (rfl)
@[simp] theorem State.setFn_owner (s : State) (p x) : (s.setFn p x).owner = s.owner := (rfl)
@[simp] theorem State.setFn_mem (s : State) (p x) : (s.setFn p x).mem = s.mem := (rfl)
@[simp] theorem State.setFn_poison (s : State) (p x) : (s.setFn p x).poison = s.poison := (rfl)
@[simp] theorem State.setFn_msix (s : State) (p x) : (s.setFn p x).msix = s.msix := (rfl)
@[simp] theorem State.setFn_msixPend (s : State) (p x) : (s.setFn p x).msixPend = s.msixPend := (rfl)
@[simp] theorem State.setFn_mctx (s : State) (p x) : (s.setFn p x).mctx = s.mctx := (rfl)
@[simp] theorem State.setFn_ctxs (s : State) (p x) : (s.setFn p x).ctxs = s.ctxs := (rfl)
@[simp] theorem State.setFn_watch (s : State) (p x) : (s.setFn p x).watch = s.watch := (rfl)
@[simp] theorem State.setFn_stalled (s : State) (p x) : (s.setFn p x).stalled = s.stalled := (rfl)
@[simp] theorem State.setFn_strands (s : State) (p x) : (s.setFn p x).strands = s.strands := (rfl)
@[simp] theorem State.setFn_cores (s : State) (p x) : (s.setFn p x).cores = s.cores := (rfl)
@[simp] theorem State.setFn_unseen (s : State) (p x) : (s.setFn p x).unseen = s.unseen := (rfl)
@[simp] theorem State.setFn_waits (s : State) (p x) : (s.setFn p x).waits = s.waits := (rfl)
@[simp] theorem State.setFn_tags (s : State) (p x) : (s.setFn p x).tags = s.tags := (rfl)
@[simp] theorem State.setFn_brackets (s : State) (p x) : (s.setFn p x).brackets = s.brackets := (rfl)
@[simp] theorem State.setFn_accs (s : State) (p x) : (s.setFn p x).accs = s.accs := (rfl)
@[simp] theorem State.setFn_accSrc (s : State) (p x) : (s.setFn p x).accSrc = s.accSrc := (rfl)
@[simp] theorem State.setFn_hops (s : State) (p x) : (s.setFn p x).hops = s.hops := (rfl)
@[simp] theorem State.setFn_chans (s : State) (p x) : (s.setFn p x).chans = s.chans := (rfl)
@[simp] theorem State.setFn_trn (s : State) (p x) : (s.setFn p x).trn = s.trn := (rfl)
@[simp] theorem State.setFn_segs (s : State) (p x) : (s.setFn p x).segs = s.segs := (rfl)
@[simp] theorem State.setFn_transit (s : State) (p x) : (s.setFn p x).transit = s.transit := (rfl)
@[simp] theorem State.setFn_msgs (s : State) (p x) : (s.setFn p x).msgs = s.msgs := (rfl)
@[simp] theorem State.setFn_sflows (s : State) (p x) : (s.setFn p x).sflows = s.sflows := (rfl)
@[simp] theorem State.setFn_epochs (s : State) (p x) : (s.setFn p x).epochs = s.epochs := (rfl)
@[simp] theorem State.setFn_rflows (s : State) (p x) : (s.setFn p x).rflows = s.rflows := (rfl)
@[simp] theorem State.setFn_tag (s : State) (p x) : (s.setFn p x).tag = s.tag := (rfl)
@[simp] theorem State.setFn_netWait (s : State) (p x) : (s.setFn p x).netWait = s.netWait := (rfl)
@[simp] theorem State.setFn_flowWait (s : State) (p x) : (s.setFn p x).flowWait = s.flowWait := (rfl)
@[simp] theorem State.setFn_colEnts (s : State) (p x) : (s.setFn p x).colEnts = s.colEnts := (rfl)
@[simp] theorem State.setFn_colRels (s : State) (p x) : (s.setFn p x).colRels = s.colRels := (rfl)
@[simp] theorem State.setFn_colHist (s : State) (p x) : (s.setFn p x).colHist = s.colHist := (rfl)
@[simp] theorem State.setFn_colPoll (s : State) (p x) : (s.setFn p x).colPoll = s.colPoll := (rfl)
@[simp] theorem State.setFn_granted (s : State) (p x) : (s.setFn p x).granted = s.granted := (rfl)
@[simp] theorem State.setFn_lendRel (s : State) (p x) : (s.setFn p x).lendRel = s.lendRel := (rfl)
@[simp] theorem State.setFn_paused (s : State) (p x) : (s.setFn p x).paused = s.paused := (rfl)
@[simp] theorem State.setFn_pausing (s : State) (p x) : (s.setFn p x).pausing = s.pausing := (rfl)
@[simp] theorem State.setFn_linkDown (s : State) (p x) : (s.setFn p x).linkDown = s.linkDown := (rfl)
@[simp] theorem State.setFn_txns (s : State) (p x) : (s.setFn p x).txns = s.txns := (rfl)
@[simp] theorem State.setFn_txnOrder (s : State) (p x) : (s.setFn p x).txnOrder = s.txnOrder := (rfl)
@[simp] theorem State.setFn_stw (s : State) (p x) : (s.setFn p x).stw = s.stw := (rfl)
@[simp] theorem State.setFn_pwr (s : State) (p x) : (s.setFn p x).pwr = s.pwr := (rfl)
@[simp] theorem State.setFn_svcs (s : State) (p x) : (s.setFn p x).svcs = s.svcs := (rfl)
@[simp] theorem State.setFn_perst (s : State) (p x) : (s.setFn p x).perst = s.perst := (rfl)
@[simp] theorem State.setFn_straps (s : State) (p x) : (s.setFn p x).straps = s.straps := (rfl)
@[simp] theorem State.setFn_cycles (s : State) (p x) : (s.setFn p x).cycles = s.cycles := (rfl)
@[simp] theorem State.setFn_lendAt (s : State) (p x) : (s.setFn p x).lendAt = s.lendAt := (rfl)
@[simp] theorem State.setFn_lendPtr (s : State) (p x) : (s.setFn p x).lendPtr = s.lendPtr := (rfl)
@[simp] theorem State.setFn_lendNew (s : State) (p x) : (s.setFn p x).lendNew = s.lendNew := (rfl)
@[simp] theorem State.setFn_slices (s : State) (p x) : (s.setFn p x).slices = s.slices := (rfl)
@[simp] theorem State.setFn_sliceFrame (s : State) (p x) : (s.setFn p x).sliceFrame = s.sliceFrame := (rfl)
@[simp] theorem State.setFn_scrubAt (s : State) (p x) : (s.setFn p x).scrubAt = s.scrubAt := (rfl)
@[simp] theorem State.setFn_loopback (s : State) (p x) : (s.setFn p x).loopback = s.loopback := (rfl)
@[simp] theorem State.setFn_weak (s : State) (p x) : (s.setFn p x).weak = s.weak := (rfl)
@[simp] theorem State.setFn_repairDue (s : State) (p x) : (s.setFn p x).repairDue = s.repairDue := (rfl)
@[simp] theorem State.setFn_badInstr (s : State) (p x) : (s.setFn p x).badInstr = s.badInstr := (rfl)
@[simp] theorem State.setFn_badAcc (s : State) (p x) : (s.setFn p x).badAcc = s.badAcc := (rfl)
@[simp] theorem State.setFn_ueAt (s : State) (p x) : (s.setFn p x).ueAt = s.ueAt := (rfl)
@[simp] theorem State.setFn_ceAt (s : State) (p x) : (s.setFn p x).ceAt = s.ceAt := (rfl)
@[simp] theorem State.setFn_wback (s : State) (p x) : (s.setFn p x).wback = s.wback := (rfl)
@[simp] theorem State.setFn_out (s : State) (p x) : (s.setFn p x).out = s.out := (rfl)
@[simp] theorem State.setFn_freeCtr (s : State) (p x) : (s.setFn p x).freeCtr = s.freeCtr := (rfl)
@[simp] theorem State.setFn_reg (s : State) (p x r) : (s.setFn p x).reg r = s.reg r := (rfl)
@[simp] theorem State.setFn_f (s : State) (p x y l1 m1 n1) : (s.setFn p x).f y l1 m1 n1 = s.f y l1 m1 n1 := (rfl)
@[simp] theorem State.setFn_fb (s : State) (p x y l1 m1 n1) : (s.setFn p x).fb y l1 m1 n1 = s.fb y l1 m1 n1 := (rfl)
@[simp] theorem State.setFn_strand (s : State) (p x g1 c1 k1) : (s.setFn p x).strand g1 c1 k1 = s.strand g1 c1 k1 := (rfl)
@[simp] theorem State.setFn_ctx (s : State) (p x g1 c1) : (s.setFn p x).ctx g1 c1 = s.ctx g1 c1 := (rfl)
@[simp] theorem State.setFn_core (s : State) (p x g1) : (s.setFn p x).core g1 = s.core g1 := (rfl)
@[simp] theorem State.setFn_mod (s : State) (p x c1) : (s.setFn p x).mod c1 = s.mod c1 := (rfl)
@[simp] theorem State.setFn_ownerOf (s : State) (p x g1) : (s.setFn p x).ownerOf g1 = s.ownerOf g1 := (rfl)
@[simp] theorem State.setFn_read (s : State) (p x q n1) : (s.setFn p x).read q n1 = s.read q n1 := (rfl)
@[simp] theorem State.setFn_poisoned (s : State) (p x q n1) : (s.setFn p x).poisoned q n1 = s.poisoned q n1 := (rfl)
@[simp] theorem State.setFn_waitsOf (s : State) (p x g1 c1) : (s.setFn p x).waitsOf g1 c1 = s.waitsOf g1 c1 := (rfl)
@[simp] theorem State.setFn_colTag (s : State) (p x g1 c1 id1) : (s.setFn p x).colTag g1 c1 id1 = s.colTag g1 c1 id1 := (rfl)
@[simp] theorem State.setFn_svc (s : State) (p x c1) : (s.setFn p x).svc c1 = s.svc c1 := (rfl)
@[simp] theorem State.setFn_chan (s : State) (p x g1 ch1) : (s.setFn p x).chan g1 ch1 = s.chan g1 ch1 := (rfl)
@[simp] theorem State.setFn_bracket (s : State) (p x g1 c1 cls1) : (s.setFn p x).bracket g1 c1 cls1 = s.bracket g1 c1 cls1 := (rfl)
@[simp] theorem State.setFn_seg (s : State) (p x p1 i1) : (s.setFn p x).seg p1 i1 = s.seg p1 i1 := (rfl)
@[simp] theorem State.setFn_hop (s : State) (p x g1 c1 t1) : (s.setFn p x).hop g1 c1 t1 = s.hop g1 c1 t1 := (rfl)
@[simp] theorem State.setFn_sflow (s : State) (p x f1) : (s.setFn p x).sflow f1 = s.sflow f1 := (rfl)
@[simp] theorem State.setFn_trnOf (s : State) (p x c1) : (s.setFn p x).trnOf c1 = s.trnOf c1 := (rfl)

/-! useFree -/

@[simp] theorem State.useFree_pending (s : State) (n) : (s.useFree n).pending = s.pending := (rfl)
@[simp] theorem State.useFree_regs (s : State) (n) : (s.useFree n).regs = s.regs := (rfl)
@[simp] theorem State.useFree_clk (s : State) (n) : (s.useFree n).clk = s.clk := (rfl)
@[simp] theorem State.useFree_owner (s : State) (n) : (s.useFree n).owner = s.owner := (rfl)
@[simp] theorem State.useFree_mem (s : State) (n) : (s.useFree n).mem = s.mem := (rfl)
@[simp] theorem State.useFree_poison (s : State) (n) : (s.useFree n).poison = s.poison := (rfl)
@[simp] theorem State.useFree_msix (s : State) (n) : (s.useFree n).msix = s.msix := (rfl)
@[simp] theorem State.useFree_msixPend (s : State) (n) : (s.useFree n).msixPend = s.msixPend := (rfl)
@[simp] theorem State.useFree_mctx (s : State) (n) : (s.useFree n).mctx = s.mctx := (rfl)
@[simp] theorem State.useFree_ctxs (s : State) (n) : (s.useFree n).ctxs = s.ctxs := (rfl)
@[simp] theorem State.useFree_watch (s : State) (n) : (s.useFree n).watch = s.watch := (rfl)
@[simp] theorem State.useFree_stalled (s : State) (n) : (s.useFree n).stalled = s.stalled := (rfl)
@[simp] theorem State.useFree_strands (s : State) (n) : (s.useFree n).strands = s.strands := (rfl)
@[simp] theorem State.useFree_cores (s : State) (n) : (s.useFree n).cores = s.cores := (rfl)
@[simp] theorem State.useFree_unseen (s : State) (n) : (s.useFree n).unseen = s.unseen := (rfl)
@[simp] theorem State.useFree_waits (s : State) (n) : (s.useFree n).waits = s.waits := (rfl)
@[simp] theorem State.useFree_tags (s : State) (n) : (s.useFree n).tags = s.tags := (rfl)
@[simp] theorem State.useFree_brackets (s : State) (n) : (s.useFree n).brackets = s.brackets := (rfl)
@[simp] theorem State.useFree_accs (s : State) (n) : (s.useFree n).accs = s.accs := (rfl)
@[simp] theorem State.useFree_accSrc (s : State) (n) : (s.useFree n).accSrc = s.accSrc := (rfl)
@[simp] theorem State.useFree_hops (s : State) (n) : (s.useFree n).hops = s.hops := (rfl)
@[simp] theorem State.useFree_chans (s : State) (n) : (s.useFree n).chans = s.chans := (rfl)
@[simp] theorem State.useFree_trn (s : State) (n) : (s.useFree n).trn = s.trn := (rfl)
@[simp] theorem State.useFree_segs (s : State) (n) : (s.useFree n).segs = s.segs := (rfl)
@[simp] theorem State.useFree_transit (s : State) (n) : (s.useFree n).transit = s.transit := (rfl)
@[simp] theorem State.useFree_msgs (s : State) (n) : (s.useFree n).msgs = s.msgs := (rfl)
@[simp] theorem State.useFree_sflows (s : State) (n) : (s.useFree n).sflows = s.sflows := (rfl)
@[simp] theorem State.useFree_epochs (s : State) (n) : (s.useFree n).epochs = s.epochs := (rfl)
@[simp] theorem State.useFree_rflows (s : State) (n) : (s.useFree n).rflows = s.rflows := (rfl)
@[simp] theorem State.useFree_tag (s : State) (n) : (s.useFree n).tag = s.tag := (rfl)
@[simp] theorem State.useFree_netWait (s : State) (n) : (s.useFree n).netWait = s.netWait := (rfl)
@[simp] theorem State.useFree_flowWait (s : State) (n) : (s.useFree n).flowWait = s.flowWait := (rfl)
@[simp] theorem State.useFree_colEnts (s : State) (n) : (s.useFree n).colEnts = s.colEnts := (rfl)
@[simp] theorem State.useFree_colRels (s : State) (n) : (s.useFree n).colRels = s.colRels := (rfl)
@[simp] theorem State.useFree_colHist (s : State) (n) : (s.useFree n).colHist = s.colHist := (rfl)
@[simp] theorem State.useFree_colPoll (s : State) (n) : (s.useFree n).colPoll = s.colPoll := (rfl)
@[simp] theorem State.useFree_granted (s : State) (n) : (s.useFree n).granted = s.granted := (rfl)
@[simp] theorem State.useFree_lendRel (s : State) (n) : (s.useFree n).lendRel = s.lendRel := (rfl)
@[simp] theorem State.useFree_paused (s : State) (n) : (s.useFree n).paused = s.paused := (rfl)
@[simp] theorem State.useFree_pausing (s : State) (n) : (s.useFree n).pausing = s.pausing := (rfl)
@[simp] theorem State.useFree_linkDown (s : State) (n) : (s.useFree n).linkDown = s.linkDown := (rfl)
@[simp] theorem State.useFree_txns (s : State) (n) : (s.useFree n).txns = s.txns := (rfl)
@[simp] theorem State.useFree_txnOrder (s : State) (n) : (s.useFree n).txnOrder = s.txnOrder := (rfl)
@[simp] theorem State.useFree_stw (s : State) (n) : (s.useFree n).stw = s.stw := (rfl)
@[simp] theorem State.useFree_pwr (s : State) (n) : (s.useFree n).pwr = s.pwr := (rfl)
@[simp] theorem State.useFree_svcs (s : State) (n) : (s.useFree n).svcs = s.svcs := (rfl)
@[simp] theorem State.useFree_perst (s : State) (n) : (s.useFree n).perst = s.perst := (rfl)
@[simp] theorem State.useFree_fns (s : State) (n) : (s.useFree n).fns = s.fns := (rfl)
@[simp] theorem State.useFree_straps (s : State) (n) : (s.useFree n).straps = s.straps := (rfl)
@[simp] theorem State.useFree_cycles (s : State) (n) : (s.useFree n).cycles = s.cycles := (rfl)
@[simp] theorem State.useFree_lendAt (s : State) (n) : (s.useFree n).lendAt = s.lendAt := (rfl)
@[simp] theorem State.useFree_lendPtr (s : State) (n) : (s.useFree n).lendPtr = s.lendPtr := (rfl)
@[simp] theorem State.useFree_lendNew (s : State) (n) : (s.useFree n).lendNew = s.lendNew := (rfl)
@[simp] theorem State.useFree_slices (s : State) (n) : (s.useFree n).slices = s.slices := (rfl)
@[simp] theorem State.useFree_sliceFrame (s : State) (n) : (s.useFree n).sliceFrame = s.sliceFrame := (rfl)
@[simp] theorem State.useFree_scrubAt (s : State) (n) : (s.useFree n).scrubAt = s.scrubAt := (rfl)
@[simp] theorem State.useFree_loopback (s : State) (n) : (s.useFree n).loopback = s.loopback := (rfl)
@[simp] theorem State.useFree_weak (s : State) (n) : (s.useFree n).weak = s.weak := (rfl)
@[simp] theorem State.useFree_repairDue (s : State) (n) : (s.useFree n).repairDue = s.repairDue := (rfl)
@[simp] theorem State.useFree_badInstr (s : State) (n) : (s.useFree n).badInstr = s.badInstr := (rfl)
@[simp] theorem State.useFree_badAcc (s : State) (n) : (s.useFree n).badAcc = s.badAcc := (rfl)
@[simp] theorem State.useFree_ueAt (s : State) (n) : (s.useFree n).ueAt = s.ueAt := (rfl)
@[simp] theorem State.useFree_ceAt (s : State) (n) : (s.useFree n).ceAt = s.ceAt := (rfl)
@[simp] theorem State.useFree_wback (s : State) (n) : (s.useFree n).wback = s.wback := (rfl)
@[simp] theorem State.useFree_out (s : State) (n) : (s.useFree n).out = s.out := (rfl)
@[simp] theorem State.useFree_reg (s : State) (n r) : (s.useFree n).reg r = s.reg r := (rfl)
@[simp] theorem State.useFree_f (s : State) (n y l1 m1 n1) : (s.useFree n).f y l1 m1 n1 = s.f y l1 m1 n1 := (rfl)
@[simp] theorem State.useFree_fb (s : State) (n y l1 m1 n1) : (s.useFree n).fb y l1 m1 n1 = s.fb y l1 m1 n1 := (rfl)
@[simp] theorem State.useFree_strand (s : State) (n g1 c1 k1) : (s.useFree n).strand g1 c1 k1 = s.strand g1 c1 k1 := (rfl)
@[simp] theorem State.useFree_ctx (s : State) (n g1 c1) : (s.useFree n).ctx g1 c1 = s.ctx g1 c1 := (rfl)
@[simp] theorem State.useFree_core (s : State) (n g1) : (s.useFree n).core g1 = s.core g1 := (rfl)
@[simp] theorem State.useFree_mod (s : State) (n c1) : (s.useFree n).mod c1 = s.mod c1 := (rfl)
@[simp] theorem State.useFree_fn (s : State) (n p1) : (s.useFree n).fn p1 = s.fn p1 := (rfl)
@[simp] theorem State.useFree_ownerOf (s : State) (n g1) : (s.useFree n).ownerOf g1 = s.ownerOf g1 := (rfl)
@[simp] theorem State.useFree_read (s : State) (n q n1) : (s.useFree n).read q n1 = s.read q n1 := (rfl)
@[simp] theorem State.useFree_poisoned (s : State) (n q n1) : (s.useFree n).poisoned q n1 = s.poisoned q n1 := (rfl)
@[simp] theorem State.useFree_waitsOf (s : State) (n g1 c1) : (s.useFree n).waitsOf g1 c1 = s.waitsOf g1 c1 := (rfl)
@[simp] theorem State.useFree_colTag (s : State) (n g1 c1 id1) : (s.useFree n).colTag g1 c1 id1 = s.colTag g1 c1 id1 := (rfl)
@[simp] theorem State.useFree_svc (s : State) (n c1) : (s.useFree n).svc c1 = s.svc c1 := (rfl)
@[simp] theorem State.useFree_chan (s : State) (n g1 ch1) : (s.useFree n).chan g1 ch1 = s.chan g1 ch1 := (rfl)
@[simp] theorem State.useFree_bracket (s : State) (n g1 c1 cls1) : (s.useFree n).bracket g1 c1 cls1 = s.bracket g1 c1 cls1 := (rfl)
@[simp] theorem State.useFree_seg (s : State) (n p1 i1) : (s.useFree n).seg p1 i1 = s.seg p1 i1 := (rfl)
@[simp] theorem State.useFree_hop (s : State) (n g1 c1 t1) : (s.useFree n).hop g1 c1 t1 = s.hop g1 c1 t1 := (rfl)
@[simp] theorem State.useFree_sflow (s : State) (n f1) : (s.useFree n).sflow f1 = s.sflow f1 := (rfl)
@[simp] theorem State.useFree_trnOf (s : State) (n c1) : (s.useFree n).trnOf c1 = s.trnOf c1 := (rfl)

/-! write -/

@[simp] theorem State.write_pending (s : State) (k bs) : (s.write k bs).pending = s.pending := (rfl)
@[simp] theorem State.write_regs (s : State) (k bs) : (s.write k bs).regs = s.regs := (rfl)
@[simp] theorem State.write_clk (s : State) (k bs) : (s.write k bs).clk = s.clk := (rfl)
@[simp] theorem State.write_owner (s : State) (k bs) : (s.write k bs).owner = s.owner := (rfl)
@[simp] theorem State.write_msix (s : State) (k bs) : (s.write k bs).msix = s.msix := (rfl)
@[simp] theorem State.write_msixPend (s : State) (k bs) : (s.write k bs).msixPend = s.msixPend := (rfl)
@[simp] theorem State.write_mctx (s : State) (k bs) : (s.write k bs).mctx = s.mctx := (rfl)
@[simp] theorem State.write_ctxs (s : State) (k bs) : (s.write k bs).ctxs = s.ctxs := (rfl)
@[simp] theorem State.write_watch (s : State) (k bs) : (s.write k bs).watch = s.watch := (rfl)
@[simp] theorem State.write_stalled (s : State) (k bs) : (s.write k bs).stalled = s.stalled := (rfl)
@[simp] theorem State.write_strands (s : State) (k bs) : (s.write k bs).strands = s.strands := (rfl)
@[simp] theorem State.write_cores (s : State) (k bs) : (s.write k bs).cores = s.cores := (rfl)
@[simp] theorem State.write_unseen (s : State) (k bs) : (s.write k bs).unseen = s.unseen := (rfl)
@[simp] theorem State.write_waits (s : State) (k bs) : (s.write k bs).waits = s.waits := (rfl)
@[simp] theorem State.write_tags (s : State) (k bs) : (s.write k bs).tags = s.tags := (rfl)
@[simp] theorem State.write_brackets (s : State) (k bs) : (s.write k bs).brackets = s.brackets := (rfl)
@[simp] theorem State.write_accs (s : State) (k bs) : (s.write k bs).accs = s.accs := (rfl)
@[simp] theorem State.write_accSrc (s : State) (k bs) : (s.write k bs).accSrc = s.accSrc := (rfl)
@[simp] theorem State.write_hops (s : State) (k bs) : (s.write k bs).hops = s.hops := (rfl)
@[simp] theorem State.write_chans (s : State) (k bs) : (s.write k bs).chans = s.chans := (rfl)
@[simp] theorem State.write_trn (s : State) (k bs) : (s.write k bs).trn = s.trn := (rfl)
@[simp] theorem State.write_segs (s : State) (k bs) : (s.write k bs).segs = s.segs := (rfl)
@[simp] theorem State.write_transit (s : State) (k bs) : (s.write k bs).transit = s.transit := (rfl)
@[simp] theorem State.write_msgs (s : State) (k bs) : (s.write k bs).msgs = s.msgs := (rfl)
@[simp] theorem State.write_sflows (s : State) (k bs) : (s.write k bs).sflows = s.sflows := (rfl)
@[simp] theorem State.write_epochs (s : State) (k bs) : (s.write k bs).epochs = s.epochs := (rfl)
@[simp] theorem State.write_rflows (s : State) (k bs) : (s.write k bs).rflows = s.rflows := (rfl)
@[simp] theorem State.write_tag (s : State) (k bs) : (s.write k bs).tag = s.tag := (rfl)
@[simp] theorem State.write_netWait (s : State) (k bs) : (s.write k bs).netWait = s.netWait := (rfl)
@[simp] theorem State.write_flowWait (s : State) (k bs) : (s.write k bs).flowWait = s.flowWait := (rfl)
@[simp] theorem State.write_colEnts (s : State) (k bs) : (s.write k bs).colEnts = s.colEnts := (rfl)
@[simp] theorem State.write_colRels (s : State) (k bs) : (s.write k bs).colRels = s.colRels := (rfl)
@[simp] theorem State.write_colHist (s : State) (k bs) : (s.write k bs).colHist = s.colHist := (rfl)
@[simp] theorem State.write_colPoll (s : State) (k bs) : (s.write k bs).colPoll = s.colPoll := (rfl)
@[simp] theorem State.write_granted (s : State) (k bs) : (s.write k bs).granted = s.granted := (rfl)
@[simp] theorem State.write_lendRel (s : State) (k bs) : (s.write k bs).lendRel = s.lendRel := (rfl)
@[simp] theorem State.write_paused (s : State) (k bs) : (s.write k bs).paused = s.paused := (rfl)
@[simp] theorem State.write_pausing (s : State) (k bs) : (s.write k bs).pausing = s.pausing := (rfl)
@[simp] theorem State.write_linkDown (s : State) (k bs) : (s.write k bs).linkDown = s.linkDown := (rfl)
@[simp] theorem State.write_txns (s : State) (k bs) : (s.write k bs).txns = s.txns := (rfl)
@[simp] theorem State.write_txnOrder (s : State) (k bs) : (s.write k bs).txnOrder = s.txnOrder := (rfl)
@[simp] theorem State.write_stw (s : State) (k bs) : (s.write k bs).stw = s.stw := (rfl)
@[simp] theorem State.write_pwr (s : State) (k bs) : (s.write k bs).pwr = s.pwr := (rfl)
@[simp] theorem State.write_svcs (s : State) (k bs) : (s.write k bs).svcs = s.svcs := (rfl)
@[simp] theorem State.write_perst (s : State) (k bs) : (s.write k bs).perst = s.perst := (rfl)
@[simp] theorem State.write_fns (s : State) (k bs) : (s.write k bs).fns = s.fns := (rfl)
@[simp] theorem State.write_straps (s : State) (k bs) : (s.write k bs).straps = s.straps := (rfl)
@[simp] theorem State.write_cycles (s : State) (k bs) : (s.write k bs).cycles = s.cycles := (rfl)
@[simp] theorem State.write_lendAt (s : State) (k bs) : (s.write k bs).lendAt = s.lendAt := (rfl)
@[simp] theorem State.write_lendPtr (s : State) (k bs) : (s.write k bs).lendPtr = s.lendPtr := (rfl)
@[simp] theorem State.write_lendNew (s : State) (k bs) : (s.write k bs).lendNew = s.lendNew := (rfl)
@[simp] theorem State.write_slices (s : State) (k bs) : (s.write k bs).slices = s.slices := (rfl)
@[simp] theorem State.write_sliceFrame (s : State) (k bs) : (s.write k bs).sliceFrame = s.sliceFrame := (rfl)
@[simp] theorem State.write_scrubAt (s : State) (k bs) : (s.write k bs).scrubAt = s.scrubAt := (rfl)
@[simp] theorem State.write_loopback (s : State) (k bs) : (s.write k bs).loopback = s.loopback := (rfl)
@[simp] theorem State.write_weak (s : State) (k bs) : (s.write k bs).weak = s.weak := (rfl)
@[simp] theorem State.write_repairDue (s : State) (k bs) : (s.write k bs).repairDue = s.repairDue := (rfl)
@[simp] theorem State.write_badInstr (s : State) (k bs) : (s.write k bs).badInstr = s.badInstr := (rfl)
@[simp] theorem State.write_badAcc (s : State) (k bs) : (s.write k bs).badAcc = s.badAcc := (rfl)
@[simp] theorem State.write_ueAt (s : State) (k bs) : (s.write k bs).ueAt = s.ueAt := (rfl)
@[simp] theorem State.write_ceAt (s : State) (k bs) : (s.write k bs).ceAt = s.ceAt := (rfl)
@[simp] theorem State.write_wback (s : State) (k bs) : (s.write k bs).wback = s.wback := (rfl)
@[simp] theorem State.write_out (s : State) (k bs) : (s.write k bs).out = s.out := (rfl)
@[simp] theorem State.write_freeCtr (s : State) (k bs) : (s.write k bs).freeCtr = s.freeCtr := (rfl)
@[simp] theorem State.write_reg (s : State) (k bs r) : (s.write k bs).reg r = s.reg r := (rfl)
@[simp] theorem State.write_f (s : State) (k bs y l1 m1 n1) : (s.write k bs).f y l1 m1 n1 = s.f y l1 m1 n1 := (rfl)
@[simp] theorem State.write_fb (s : State) (k bs y l1 m1 n1) : (s.write k bs).fb y l1 m1 n1 = s.fb y l1 m1 n1 := (rfl)
@[simp] theorem State.write_strand (s : State) (k bs g1 c1 k1) : (s.write k bs).strand g1 c1 k1 = s.strand g1 c1 k1 := (rfl)
@[simp] theorem State.write_ctx (s : State) (k bs g1 c1) : (s.write k bs).ctx g1 c1 = s.ctx g1 c1 := (rfl)
@[simp] theorem State.write_core (s : State) (k bs g1) : (s.write k bs).core g1 = s.core g1 := (rfl)
@[simp] theorem State.write_mod (s : State) (k bs c1) : (s.write k bs).mod c1 = s.mod c1 := (rfl)
@[simp] theorem State.write_fn (s : State) (k bs p1) : (s.write k bs).fn p1 = s.fn p1 := (rfl)
@[simp] theorem State.write_ownerOf (s : State) (k bs g1) : (s.write k bs).ownerOf g1 = s.ownerOf g1 := (rfl)
@[simp] theorem State.write_waitsOf (s : State) (k bs g1 c1) : (s.write k bs).waitsOf g1 c1 = s.waitsOf g1 c1 := (rfl)
@[simp] theorem State.write_colTag (s : State) (k bs g1 c1 id1) : (s.write k bs).colTag g1 c1 id1 = s.colTag g1 c1 id1 := (rfl)
@[simp] theorem State.write_svc (s : State) (k bs c1) : (s.write k bs).svc c1 = s.svc c1 := (rfl)
@[simp] theorem State.write_chan (s : State) (k bs g1 ch1) : (s.write k bs).chan g1 ch1 = s.chan g1 ch1 := (rfl)
@[simp] theorem State.write_bracket (s : State) (k bs g1 c1 cls1) : (s.write k bs).bracket g1 c1 cls1 = s.bracket g1 c1 cls1 := (rfl)
@[simp] theorem State.write_seg (s : State) (k bs p1 i1) : (s.write k bs).seg p1 i1 = s.seg p1 i1 := (rfl)
@[simp] theorem State.write_hop (s : State) (k bs g1 c1 t1) : (s.write k bs).hop g1 c1 t1 = s.hop g1 c1 t1 := (rfl)
@[simp] theorem State.write_sflow (s : State) (k bs f1) : (s.write k bs).sflow f1 = s.sflow f1 := (rfl)
@[simp] theorem State.write_trnOf (s : State) (k bs c1) : (s.write k bs).trnOf c1 = s.trnOf c1 := (rfl)

/-! poisonAt -/

@[simp] theorem State.poisonAt_pending (s : State) (k n) : (s.poisonAt k n).pending = s.pending := (rfl)
@[simp] theorem State.poisonAt_regs (s : State) (k n) : (s.poisonAt k n).regs = s.regs := (rfl)
@[simp] theorem State.poisonAt_clk (s : State) (k n) : (s.poisonAt k n).clk = s.clk := (rfl)
@[simp] theorem State.poisonAt_owner (s : State) (k n) : (s.poisonAt k n).owner = s.owner := (rfl)
@[simp] theorem State.poisonAt_mem (s : State) (k n) : (s.poisonAt k n).mem = s.mem := (rfl)
@[simp] theorem State.poisonAt_msix (s : State) (k n) : (s.poisonAt k n).msix = s.msix := (rfl)
@[simp] theorem State.poisonAt_msixPend (s : State) (k n) : (s.poisonAt k n).msixPend = s.msixPend := (rfl)
@[simp] theorem State.poisonAt_mctx (s : State) (k n) : (s.poisonAt k n).mctx = s.mctx := (rfl)
@[simp] theorem State.poisonAt_ctxs (s : State) (k n) : (s.poisonAt k n).ctxs = s.ctxs := (rfl)
@[simp] theorem State.poisonAt_watch (s : State) (k n) : (s.poisonAt k n).watch = s.watch := (rfl)
@[simp] theorem State.poisonAt_stalled (s : State) (k n) : (s.poisonAt k n).stalled = s.stalled := (rfl)
@[simp] theorem State.poisonAt_strands (s : State) (k n) : (s.poisonAt k n).strands = s.strands := (rfl)
@[simp] theorem State.poisonAt_cores (s : State) (k n) : (s.poisonAt k n).cores = s.cores := (rfl)
@[simp] theorem State.poisonAt_unseen (s : State) (k n) : (s.poisonAt k n).unseen = s.unseen := (rfl)
@[simp] theorem State.poisonAt_waits (s : State) (k n) : (s.poisonAt k n).waits = s.waits := (rfl)
@[simp] theorem State.poisonAt_tags (s : State) (k n) : (s.poisonAt k n).tags = s.tags := (rfl)
@[simp] theorem State.poisonAt_brackets (s : State) (k n) : (s.poisonAt k n).brackets = s.brackets := (rfl)
@[simp] theorem State.poisonAt_accs (s : State) (k n) : (s.poisonAt k n).accs = s.accs := (rfl)
@[simp] theorem State.poisonAt_accSrc (s : State) (k n) : (s.poisonAt k n).accSrc = s.accSrc := (rfl)
@[simp] theorem State.poisonAt_hops (s : State) (k n) : (s.poisonAt k n).hops = s.hops := (rfl)
@[simp] theorem State.poisonAt_chans (s : State) (k n) : (s.poisonAt k n).chans = s.chans := (rfl)
@[simp] theorem State.poisonAt_trn (s : State) (k n) : (s.poisonAt k n).trn = s.trn := (rfl)
@[simp] theorem State.poisonAt_segs (s : State) (k n) : (s.poisonAt k n).segs = s.segs := (rfl)
@[simp] theorem State.poisonAt_transit (s : State) (k n) : (s.poisonAt k n).transit = s.transit := (rfl)
@[simp] theorem State.poisonAt_msgs (s : State) (k n) : (s.poisonAt k n).msgs = s.msgs := (rfl)
@[simp] theorem State.poisonAt_sflows (s : State) (k n) : (s.poisonAt k n).sflows = s.sflows := (rfl)
@[simp] theorem State.poisonAt_epochs (s : State) (k n) : (s.poisonAt k n).epochs = s.epochs := (rfl)
@[simp] theorem State.poisonAt_rflows (s : State) (k n) : (s.poisonAt k n).rflows = s.rflows := (rfl)
@[simp] theorem State.poisonAt_tag (s : State) (k n) : (s.poisonAt k n).tag = s.tag := (rfl)
@[simp] theorem State.poisonAt_netWait (s : State) (k n) : (s.poisonAt k n).netWait = s.netWait := (rfl)
@[simp] theorem State.poisonAt_flowWait (s : State) (k n) : (s.poisonAt k n).flowWait = s.flowWait := (rfl)
@[simp] theorem State.poisonAt_colEnts (s : State) (k n) : (s.poisonAt k n).colEnts = s.colEnts := (rfl)
@[simp] theorem State.poisonAt_colRels (s : State) (k n) : (s.poisonAt k n).colRels = s.colRels := (rfl)
@[simp] theorem State.poisonAt_colHist (s : State) (k n) : (s.poisonAt k n).colHist = s.colHist := (rfl)
@[simp] theorem State.poisonAt_colPoll (s : State) (k n) : (s.poisonAt k n).colPoll = s.colPoll := (rfl)
@[simp] theorem State.poisonAt_granted (s : State) (k n) : (s.poisonAt k n).granted = s.granted := (rfl)
@[simp] theorem State.poisonAt_lendRel (s : State) (k n) : (s.poisonAt k n).lendRel = s.lendRel := (rfl)
@[simp] theorem State.poisonAt_paused (s : State) (k n) : (s.poisonAt k n).paused = s.paused := (rfl)
@[simp] theorem State.poisonAt_pausing (s : State) (k n) : (s.poisonAt k n).pausing = s.pausing := (rfl)
@[simp] theorem State.poisonAt_linkDown (s : State) (k n) : (s.poisonAt k n).linkDown = s.linkDown := (rfl)
@[simp] theorem State.poisonAt_txns (s : State) (k n) : (s.poisonAt k n).txns = s.txns := (rfl)
@[simp] theorem State.poisonAt_txnOrder (s : State) (k n) : (s.poisonAt k n).txnOrder = s.txnOrder := (rfl)
@[simp] theorem State.poisonAt_stw (s : State) (k n) : (s.poisonAt k n).stw = s.stw := (rfl)
@[simp] theorem State.poisonAt_pwr (s : State) (k n) : (s.poisonAt k n).pwr = s.pwr := (rfl)
@[simp] theorem State.poisonAt_svcs (s : State) (k n) : (s.poisonAt k n).svcs = s.svcs := (rfl)
@[simp] theorem State.poisonAt_perst (s : State) (k n) : (s.poisonAt k n).perst = s.perst := (rfl)
@[simp] theorem State.poisonAt_fns (s : State) (k n) : (s.poisonAt k n).fns = s.fns := (rfl)
@[simp] theorem State.poisonAt_straps (s : State) (k n) : (s.poisonAt k n).straps = s.straps := (rfl)
@[simp] theorem State.poisonAt_cycles (s : State) (k n) : (s.poisonAt k n).cycles = s.cycles := (rfl)
@[simp] theorem State.poisonAt_lendAt (s : State) (k n) : (s.poisonAt k n).lendAt = s.lendAt := (rfl)
@[simp] theorem State.poisonAt_lendPtr (s : State) (k n) : (s.poisonAt k n).lendPtr = s.lendPtr := (rfl)
@[simp] theorem State.poisonAt_lendNew (s : State) (k n) : (s.poisonAt k n).lendNew = s.lendNew := (rfl)
@[simp] theorem State.poisonAt_slices (s : State) (k n) : (s.poisonAt k n).slices = s.slices := (rfl)
@[simp] theorem State.poisonAt_sliceFrame (s : State) (k n) : (s.poisonAt k n).sliceFrame = s.sliceFrame := (rfl)
@[simp] theorem State.poisonAt_scrubAt (s : State) (k n) : (s.poisonAt k n).scrubAt = s.scrubAt := (rfl)
@[simp] theorem State.poisonAt_loopback (s : State) (k n) : (s.poisonAt k n).loopback = s.loopback := (rfl)
@[simp] theorem State.poisonAt_weak (s : State) (k n) : (s.poisonAt k n).weak = s.weak := (rfl)
@[simp] theorem State.poisonAt_repairDue (s : State) (k n) : (s.poisonAt k n).repairDue = s.repairDue := (rfl)
@[simp] theorem State.poisonAt_badInstr (s : State) (k n) : (s.poisonAt k n).badInstr = s.badInstr := (rfl)
@[simp] theorem State.poisonAt_badAcc (s : State) (k n) : (s.poisonAt k n).badAcc = s.badAcc := (rfl)
@[simp] theorem State.poisonAt_ueAt (s : State) (k n) : (s.poisonAt k n).ueAt = s.ueAt := (rfl)
@[simp] theorem State.poisonAt_ceAt (s : State) (k n) : (s.poisonAt k n).ceAt = s.ceAt := (rfl)
@[simp] theorem State.poisonAt_wback (s : State) (k n) : (s.poisonAt k n).wback = s.wback := (rfl)
@[simp] theorem State.poisonAt_out (s : State) (k n) : (s.poisonAt k n).out = s.out := (rfl)
@[simp] theorem State.poisonAt_freeCtr (s : State) (k n) : (s.poisonAt k n).freeCtr = s.freeCtr := (rfl)
@[simp] theorem State.poisonAt_reg (s : State) (k n r) : (s.poisonAt k n).reg r = s.reg r := (rfl)
@[simp] theorem State.poisonAt_f (s : State) (k n y l1 m1 n1) : (s.poisonAt k n).f y l1 m1 n1 = s.f y l1 m1 n1 := (rfl)
@[simp] theorem State.poisonAt_fb (s : State) (k n y l1 m1 n1) : (s.poisonAt k n).fb y l1 m1 n1 = s.fb y l1 m1 n1 := (rfl)
@[simp] theorem State.poisonAt_strand (s : State) (k n g1 c1 k1) : (s.poisonAt k n).strand g1 c1 k1 = s.strand g1 c1 k1 := (rfl)
@[simp] theorem State.poisonAt_ctx (s : State) (k n g1 c1) : (s.poisonAt k n).ctx g1 c1 = s.ctx g1 c1 := (rfl)
@[simp] theorem State.poisonAt_core (s : State) (k n g1) : (s.poisonAt k n).core g1 = s.core g1 := (rfl)
@[simp] theorem State.poisonAt_mod (s : State) (k n c1) : (s.poisonAt k n).mod c1 = s.mod c1 := (rfl)
@[simp] theorem State.poisonAt_fn (s : State) (k n p1) : (s.poisonAt k n).fn p1 = s.fn p1 := (rfl)
@[simp] theorem State.poisonAt_ownerOf (s : State) (k n g1) : (s.poisonAt k n).ownerOf g1 = s.ownerOf g1 := (rfl)
@[simp] theorem State.poisonAt_read (s : State) (k n q n1) : (s.poisonAt k n).read q n1 = s.read q n1 := (rfl)
@[simp] theorem State.poisonAt_waitsOf (s : State) (k n g1 c1) : (s.poisonAt k n).waitsOf g1 c1 = s.waitsOf g1 c1 := (rfl)
@[simp] theorem State.poisonAt_colTag (s : State) (k n g1 c1 id1) : (s.poisonAt k n).colTag g1 c1 id1 = s.colTag g1 c1 id1 := (rfl)
@[simp] theorem State.poisonAt_svc (s : State) (k n c1) : (s.poisonAt k n).svc c1 = s.svc c1 := (rfl)
@[simp] theorem State.poisonAt_chan (s : State) (k n g1 ch1) : (s.poisonAt k n).chan g1 ch1 = s.chan g1 ch1 := (rfl)
@[simp] theorem State.poisonAt_bracket (s : State) (k n g1 c1 cls1) : (s.poisonAt k n).bracket g1 c1 cls1 = s.bracket g1 c1 cls1 := (rfl)
@[simp] theorem State.poisonAt_seg (s : State) (k n p1 i1) : (s.poisonAt k n).seg p1 i1 = s.seg p1 i1 := (rfl)
@[simp] theorem State.poisonAt_hop (s : State) (k n g1 c1 t1) : (s.poisonAt k n).hop g1 c1 t1 = s.hop g1 c1 t1 := (rfl)
@[simp] theorem State.poisonAt_sflow (s : State) (k n f1) : (s.poisonAt k n).sflow f1 = s.sflow f1 := (rfl)
@[simp] theorem State.poisonAt_trnOf (s : State) (k n c1) : (s.poisonAt k n).trnOf c1 = s.trnOf c1 := (rfl)

/-! progress -/

@[simp] theorem State.progress_pending (s : State) (g c) : (s.progress g c).pending = s.pending := (rfl)
@[simp] theorem State.progress_regs (s : State) (g c) : (s.progress g c).regs = s.regs := (rfl)
@[simp] theorem State.progress_clk (s : State) (g c) : (s.progress g c).clk = s.clk := (rfl)
@[simp] theorem State.progress_owner (s : State) (g c) : (s.progress g c).owner = s.owner := (rfl)
@[simp] theorem State.progress_mem (s : State) (g c) : (s.progress g c).mem = s.mem := (rfl)
@[simp] theorem State.progress_poison (s : State) (g c) : (s.progress g c).poison = s.poison := (rfl)
@[simp] theorem State.progress_msix (s : State) (g c) : (s.progress g c).msix = s.msix := (rfl)
@[simp] theorem State.progress_msixPend (s : State) (g c) : (s.progress g c).msixPend = s.msixPend := (rfl)
@[simp] theorem State.progress_mctx (s : State) (g c) : (s.progress g c).mctx = s.mctx := (rfl)
@[simp] theorem State.progress_ctxs (s : State) (g c) : (s.progress g c).ctxs = s.ctxs := (rfl)
@[simp] theorem State.progress_strands (s : State) (g c) : (s.progress g c).strands = s.strands := (rfl)
@[simp] theorem State.progress_cores (s : State) (g c) : (s.progress g c).cores = s.cores := (rfl)
@[simp] theorem State.progress_unseen (s : State) (g c) : (s.progress g c).unseen = s.unseen := (rfl)
@[simp] theorem State.progress_waits (s : State) (g c) : (s.progress g c).waits = s.waits := (rfl)
@[simp] theorem State.progress_tags (s : State) (g c) : (s.progress g c).tags = s.tags := (rfl)
@[simp] theorem State.progress_brackets (s : State) (g c) : (s.progress g c).brackets = s.brackets := (rfl)
@[simp] theorem State.progress_accs (s : State) (g c) : (s.progress g c).accs = s.accs := (rfl)
@[simp] theorem State.progress_accSrc (s : State) (g c) : (s.progress g c).accSrc = s.accSrc := (rfl)
@[simp] theorem State.progress_hops (s : State) (g c) : (s.progress g c).hops = s.hops := (rfl)
@[simp] theorem State.progress_chans (s : State) (g c) : (s.progress g c).chans = s.chans := (rfl)
@[simp] theorem State.progress_trn (s : State) (g c) : (s.progress g c).trn = s.trn := (rfl)
@[simp] theorem State.progress_segs (s : State) (g c) : (s.progress g c).segs = s.segs := (rfl)
@[simp] theorem State.progress_transit (s : State) (g c) : (s.progress g c).transit = s.transit := (rfl)
@[simp] theorem State.progress_msgs (s : State) (g c) : (s.progress g c).msgs = s.msgs := (rfl)
@[simp] theorem State.progress_sflows (s : State) (g c) : (s.progress g c).sflows = s.sflows := (rfl)
@[simp] theorem State.progress_epochs (s : State) (g c) : (s.progress g c).epochs = s.epochs := (rfl)
@[simp] theorem State.progress_rflows (s : State) (g c) : (s.progress g c).rflows = s.rflows := (rfl)
@[simp] theorem State.progress_tag (s : State) (g c) : (s.progress g c).tag = s.tag := (rfl)
@[simp] theorem State.progress_netWait (s : State) (g c) : (s.progress g c).netWait = s.netWait := (rfl)
@[simp] theorem State.progress_flowWait (s : State) (g c) : (s.progress g c).flowWait = s.flowWait := (rfl)
@[simp] theorem State.progress_colEnts (s : State) (g c) : (s.progress g c).colEnts = s.colEnts := (rfl)
@[simp] theorem State.progress_colRels (s : State) (g c) : (s.progress g c).colRels = s.colRels := (rfl)
@[simp] theorem State.progress_colHist (s : State) (g c) : (s.progress g c).colHist = s.colHist := (rfl)
@[simp] theorem State.progress_colPoll (s : State) (g c) : (s.progress g c).colPoll = s.colPoll := (rfl)
@[simp] theorem State.progress_granted (s : State) (g c) : (s.progress g c).granted = s.granted := (rfl)
@[simp] theorem State.progress_lendRel (s : State) (g c) : (s.progress g c).lendRel = s.lendRel := (rfl)
@[simp] theorem State.progress_paused (s : State) (g c) : (s.progress g c).paused = s.paused := (rfl)
@[simp] theorem State.progress_pausing (s : State) (g c) : (s.progress g c).pausing = s.pausing := (rfl)
@[simp] theorem State.progress_linkDown (s : State) (g c) : (s.progress g c).linkDown = s.linkDown := (rfl)
@[simp] theorem State.progress_txns (s : State) (g c) : (s.progress g c).txns = s.txns := (rfl)
@[simp] theorem State.progress_txnOrder (s : State) (g c) : (s.progress g c).txnOrder = s.txnOrder := (rfl)
@[simp] theorem State.progress_stw (s : State) (g c) : (s.progress g c).stw = s.stw := (rfl)
@[simp] theorem State.progress_pwr (s : State) (g c) : (s.progress g c).pwr = s.pwr := (rfl)
@[simp] theorem State.progress_svcs (s : State) (g c) : (s.progress g c).svcs = s.svcs := (rfl)
@[simp] theorem State.progress_perst (s : State) (g c) : (s.progress g c).perst = s.perst := (rfl)
@[simp] theorem State.progress_fns (s : State) (g c) : (s.progress g c).fns = s.fns := (rfl)
@[simp] theorem State.progress_straps (s : State) (g c) : (s.progress g c).straps = s.straps := (rfl)
@[simp] theorem State.progress_cycles (s : State) (g c) : (s.progress g c).cycles = s.cycles := (rfl)
@[simp] theorem State.progress_lendAt (s : State) (g c) : (s.progress g c).lendAt = s.lendAt := (rfl)
@[simp] theorem State.progress_lendPtr (s : State) (g c) : (s.progress g c).lendPtr = s.lendPtr := (rfl)
@[simp] theorem State.progress_lendNew (s : State) (g c) : (s.progress g c).lendNew = s.lendNew := (rfl)
@[simp] theorem State.progress_slices (s : State) (g c) : (s.progress g c).slices = s.slices := (rfl)
@[simp] theorem State.progress_sliceFrame (s : State) (g c) : (s.progress g c).sliceFrame = s.sliceFrame := (rfl)
@[simp] theorem State.progress_scrubAt (s : State) (g c) : (s.progress g c).scrubAt = s.scrubAt := (rfl)
@[simp] theorem State.progress_loopback (s : State) (g c) : (s.progress g c).loopback = s.loopback := (rfl)
@[simp] theorem State.progress_weak (s : State) (g c) : (s.progress g c).weak = s.weak := (rfl)
@[simp] theorem State.progress_repairDue (s : State) (g c) : (s.progress g c).repairDue = s.repairDue := (rfl)
@[simp] theorem State.progress_badInstr (s : State) (g c) : (s.progress g c).badInstr = s.badInstr := (rfl)
@[simp] theorem State.progress_badAcc (s : State) (g c) : (s.progress g c).badAcc = s.badAcc := (rfl)
@[simp] theorem State.progress_ueAt (s : State) (g c) : (s.progress g c).ueAt = s.ueAt := (rfl)
@[simp] theorem State.progress_ceAt (s : State) (g c) : (s.progress g c).ceAt = s.ceAt := (rfl)
@[simp] theorem State.progress_wback (s : State) (g c) : (s.progress g c).wback = s.wback := (rfl)
@[simp] theorem State.progress_out (s : State) (g c) : (s.progress g c).out = s.out := (rfl)
@[simp] theorem State.progress_freeCtr (s : State) (g c) : (s.progress g c).freeCtr = s.freeCtr := (rfl)
@[simp] theorem State.progress_reg (s : State) (g c r) : (s.progress g c).reg r = s.reg r := (rfl)
@[simp] theorem State.progress_f (s : State) (g c y l1 m1 n1) : (s.progress g c).f y l1 m1 n1 = s.f y l1 m1 n1 := (rfl)
@[simp] theorem State.progress_fb (s : State) (g c y l1 m1 n1) : (s.progress g c).fb y l1 m1 n1 = s.fb y l1 m1 n1 := (rfl)
@[simp] theorem State.progress_strand (s : State) (g c g1 c1 k1) : (s.progress g c).strand g1 c1 k1 = s.strand g1 c1 k1 := (rfl)
@[simp] theorem State.progress_ctx (s : State) (g c g1 c1) : (s.progress g c).ctx g1 c1 = s.ctx g1 c1 := (rfl)
@[simp] theorem State.progress_core (s : State) (g c g1) : (s.progress g c).core g1 = s.core g1 := (rfl)
@[simp] theorem State.progress_mod (s : State) (g c c1) : (s.progress g c).mod c1 = s.mod c1 := (rfl)
@[simp] theorem State.progress_fn (s : State) (g c p1) : (s.progress g c).fn p1 = s.fn p1 := (rfl)
@[simp] theorem State.progress_ownerOf (s : State) (g c g1) : (s.progress g c).ownerOf g1 = s.ownerOf g1 := (rfl)
@[simp] theorem State.progress_read (s : State) (g c q n1) : (s.progress g c).read q n1 = s.read q n1 := (rfl)
@[simp] theorem State.progress_poisoned (s : State) (g c q n1) : (s.progress g c).poisoned q n1 = s.poisoned q n1 := (rfl)
@[simp] theorem State.progress_waitsOf (s : State) (g c g1 c1) : (s.progress g c).waitsOf g1 c1 = s.waitsOf g1 c1 := (rfl)
@[simp] theorem State.progress_colTag (s : State) (g c g1 c1 id1) : (s.progress g c).colTag g1 c1 id1 = s.colTag g1 c1 id1 := (rfl)
@[simp] theorem State.progress_svc (s : State) (g c c1) : (s.progress g c).svc c1 = s.svc c1 := (rfl)
@[simp] theorem State.progress_chan (s : State) (g c g1 ch1) : (s.progress g c).chan g1 ch1 = s.chan g1 ch1 := (rfl)
@[simp] theorem State.progress_bracket (s : State) (g c g1 c1 cls1) : (s.progress g c).bracket g1 c1 cls1 = s.bracket g1 c1 cls1 := (rfl)
@[simp] theorem State.progress_seg (s : State) (g c p1 i1) : (s.progress g c).seg p1 i1 = s.seg p1 i1 := (rfl)
@[simp] theorem State.progress_hop (s : State) (g c g1 c1 t1) : (s.progress g c).hop g1 c1 t1 = s.hop g1 c1 t1 := (rfl)
@[simp] theorem State.progress_sflow (s : State) (g c f1) : (s.progress g c).sflow f1 = s.sflow f1 := (rfl)
@[simp] theorem State.progress_trnOf (s : State) (g c c1) : (s.progress g c).trnOf c1 = s.trnOf c1 := (rfl)

/-! setWaits -/

@[simp] theorem State.setWaits_pending (s : State) (g c x) : (s.setWaits g c x).pending = s.pending := (rfl)
@[simp] theorem State.setWaits_clk (s : State) (g c x) : (s.setWaits g c x).clk = s.clk := (rfl)
@[simp] theorem State.setWaits_owner (s : State) (g c x) : (s.setWaits g c x).owner = s.owner := (rfl)
@[simp] theorem State.setWaits_mem (s : State) (g c x) : (s.setWaits g c x).mem = s.mem := (rfl)
@[simp] theorem State.setWaits_poison (s : State) (g c x) : (s.setWaits g c x).poison = s.poison := (rfl)
@[simp] theorem State.setWaits_pwr (s : State) (g c x) : (s.setWaits g c x).pwr = s.pwr := (rfl)
@[simp] theorem State.setWaits_out (s : State) (g c x) : (s.setWaits g c x).out = s.out := (rfl)
@[simp] theorem State.setWaits_freeCtr (s : State) (g c x) : (s.setWaits g c x).freeCtr = s.freeCtr := (rfl)
@[simp] theorem State.setWaits_reg (s : State) (g c x r) : (s.setWaits g c x).reg r = s.reg r := (rfl)
@[simp] theorem State.setWaits_f (s : State) (g c x y l1 m1 n1) : (s.setWaits g c x).f y l1 m1 n1 = s.f y l1 m1 n1 := (rfl)
@[simp] theorem State.setWaits_fb (s : State) (g c x y l1 m1 n1) : (s.setWaits g c x).fb y l1 m1 n1 = s.fb y l1 m1 n1 := (rfl)
@[simp] theorem State.setWaits_strand (s : State) (g c x g1 c1 k1) : (s.setWaits g c x).strand g1 c1 k1 = s.strand g1 c1 k1 := (rfl)
@[simp] theorem State.setWaits_ctx (s : State) (g c x g1 c1) : (s.setWaits g c x).ctx g1 c1 = s.ctx g1 c1 := (rfl)
@[simp] theorem State.setWaits_core (s : State) (g c x g1) : (s.setWaits g c x).core g1 = s.core g1 := (rfl)
@[simp] theorem State.setWaits_mod (s : State) (g c x c1) : (s.setWaits g c x).mod c1 = s.mod c1 := (rfl)
@[simp] theorem State.setWaits_fn (s : State) (g c x p1) : (s.setWaits g c x).fn p1 = s.fn p1 := (rfl)
@[simp] theorem State.setWaits_ownerOf (s : State) (g c x g1) : (s.setWaits g c x).ownerOf g1 = s.ownerOf g1 := (rfl)
@[simp] theorem State.setWaits_read (s : State) (g c x q n1) : (s.setWaits g c x).read q n1 = s.read q n1 := (rfl)
@[simp] theorem State.setWaits_poisoned (s : State) (g c x q n1) : (s.setWaits g c x).poisoned q n1 = s.poisoned q n1 := (rfl)
@[simp] theorem State.setWaits_colTag (s : State) (g c x g1 c1 id1) : (s.setWaits g c x).colTag g1 c1 id1 = s.colTag g1 c1 id1 := (rfl)
@[simp] theorem State.setWaits_svc (s : State) (g c x c1) : (s.setWaits g c x).svc c1 = s.svc c1 := (rfl)
@[simp] theorem State.setWaits_chan (s : State) (g c x g1 ch1) : (s.setWaits g c x).chan g1 ch1 = s.chan g1 ch1 := (rfl)
@[simp] theorem State.setWaits_bracket (s : State) (g c x g1 c1 cls1) : (s.setWaits g c x).bracket g1 c1 cls1 = s.bracket g1 c1 cls1 := (rfl)
@[simp] theorem State.setWaits_seg (s : State) (g c x p1 i1) : (s.setWaits g c x).seg p1 i1 = s.seg p1 i1 := (rfl)
@[simp] theorem State.setWaits_hop (s : State) (g c x g1 c1 t1) : (s.setWaits g c x).hop g1 c1 t1 = s.hop g1 c1 t1 := (rfl)
@[simp] theorem State.setWaits_sflow (s : State) (g c x f1) : (s.setWaits g c x).sflow f1 = s.sflow f1 := (rfl)
@[simp] theorem State.setWaits_trnOf (s : State) (g c x c1) : (s.setWaits g c x).trnOf c1 = s.trnOf c1 := (rfl)

/-! setColTag -/

@[simp] theorem State.setColTag_pending (s : State) (g c id x) : (s.setColTag g c id x).pending = s.pending := (rfl)
@[simp] theorem State.setColTag_clk (s : State) (g c id x) : (s.setColTag g c id x).clk = s.clk := (rfl)
@[simp] theorem State.setColTag_owner (s : State) (g c id x) : (s.setColTag g c id x).owner = s.owner := (rfl)
@[simp] theorem State.setColTag_mem (s : State) (g c id x) : (s.setColTag g c id x).mem = s.mem := (rfl)
@[simp] theorem State.setColTag_poison (s : State) (g c id x) : (s.setColTag g c id x).poison = s.poison := (rfl)
@[simp] theorem State.setColTag_pwr (s : State) (g c id x) : (s.setColTag g c id x).pwr = s.pwr := (rfl)
@[simp] theorem State.setColTag_out (s : State) (g c id x) : (s.setColTag g c id x).out = s.out := (rfl)
@[simp] theorem State.setColTag_freeCtr (s : State) (g c id x) : (s.setColTag g c id x).freeCtr = s.freeCtr := (rfl)
@[simp] theorem State.setColTag_reg (s : State) (g c id x r) : (s.setColTag g c id x).reg r = s.reg r := (rfl)
@[simp] theorem State.setColTag_f (s : State) (g c id x y l1 m1 n1) : (s.setColTag g c id x).f y l1 m1 n1 = s.f y l1 m1 n1 := (rfl)
@[simp] theorem State.setColTag_fb (s : State) (g c id x y l1 m1 n1) : (s.setColTag g c id x).fb y l1 m1 n1 = s.fb y l1 m1 n1 := (rfl)
@[simp] theorem State.setColTag_strand (s : State) (g c id x g1 c1 k1) : (s.setColTag g c id x).strand g1 c1 k1 = s.strand g1 c1 k1 := (rfl)
@[simp] theorem State.setColTag_ctx (s : State) (g c id x g1 c1) : (s.setColTag g c id x).ctx g1 c1 = s.ctx g1 c1 := (rfl)
@[simp] theorem State.setColTag_core (s : State) (g c id x g1) : (s.setColTag g c id x).core g1 = s.core g1 := (rfl)
@[simp] theorem State.setColTag_mod (s : State) (g c id x c1) : (s.setColTag g c id x).mod c1 = s.mod c1 := (rfl)
@[simp] theorem State.setColTag_fn (s : State) (g c id x p1) : (s.setColTag g c id x).fn p1 = s.fn p1 := (rfl)
@[simp] theorem State.setColTag_ownerOf (s : State) (g c id x g1) : (s.setColTag g c id x).ownerOf g1 = s.ownerOf g1 := (rfl)
@[simp] theorem State.setColTag_read (s : State) (g c id x q n1) : (s.setColTag g c id x).read q n1 = s.read q n1 := (rfl)
@[simp] theorem State.setColTag_poisoned (s : State) (g c id x q n1) : (s.setColTag g c id x).poisoned q n1 = s.poisoned q n1 := (rfl)
@[simp] theorem State.setColTag_waitsOf (s : State) (g c id x g1 c1) : (s.setColTag g c id x).waitsOf g1 c1 = s.waitsOf g1 c1 := (rfl)
@[simp] theorem State.setColTag_svc (s : State) (g c id x c1) : (s.setColTag g c id x).svc c1 = s.svc c1 := (rfl)
@[simp] theorem State.setColTag_chan (s : State) (g c id x g1 ch1) : (s.setColTag g c id x).chan g1 ch1 = s.chan g1 ch1 := (rfl)
@[simp] theorem State.setColTag_bracket (s : State) (g c id x g1 c1 cls1) : (s.setColTag g c id x).bracket g1 c1 cls1 = s.bracket g1 c1 cls1 := (rfl)
@[simp] theorem State.setColTag_seg (s : State) (g c id x p1 i1) : (s.setColTag g c id x).seg p1 i1 = s.seg p1 i1 := (rfl)
@[simp] theorem State.setColTag_hop (s : State) (g c id x g1 c1 t1) : (s.setColTag g c id x).hop g1 c1 t1 = s.hop g1 c1 t1 := (rfl)
@[simp] theorem State.setColTag_sflow (s : State) (g c id x f1) : (s.setColTag g c id x).sflow f1 = s.sflow f1 := (rfl)
@[simp] theorem State.setColTag_trnOf (s : State) (g c id x c1) : (s.setColTag g c id x).trnOf c1 = s.trnOf c1 := (rfl)

/-! setSvc -/

@[simp] theorem State.setSvc_pending (s : State) (c x) : (s.setSvc c x).pending = s.pending := (rfl)
@[simp] theorem State.setSvc_clk (s : State) (c x) : (s.setSvc c x).clk = s.clk := (rfl)
@[simp] theorem State.setSvc_owner (s : State) (c x) : (s.setSvc c x).owner = s.owner := (rfl)
@[simp] theorem State.setSvc_mem (s : State) (c x) : (s.setSvc c x).mem = s.mem := (rfl)
@[simp] theorem State.setSvc_poison (s : State) (c x) : (s.setSvc c x).poison = s.poison := (rfl)
@[simp] theorem State.setSvc_pwr (s : State) (c x) : (s.setSvc c x).pwr = s.pwr := (rfl)
@[simp] theorem State.setSvc_out (s : State) (c x) : (s.setSvc c x).out = s.out := (rfl)
@[simp] theorem State.setSvc_freeCtr (s : State) (c x) : (s.setSvc c x).freeCtr = s.freeCtr := (rfl)
@[simp] theorem State.setSvc_reg (s : State) (c x r) : (s.setSvc c x).reg r = s.reg r := (rfl)
@[simp] theorem State.setSvc_f (s : State) (c x y l1 m1 n1) : (s.setSvc c x).f y l1 m1 n1 = s.f y l1 m1 n1 := (rfl)
@[simp] theorem State.setSvc_fb (s : State) (c x y l1 m1 n1) : (s.setSvc c x).fb y l1 m1 n1 = s.fb y l1 m1 n1 := (rfl)
@[simp] theorem State.setSvc_strand (s : State) (c x g1 c1 k1) : (s.setSvc c x).strand g1 c1 k1 = s.strand g1 c1 k1 := (rfl)
@[simp] theorem State.setSvc_ctx (s : State) (c x g1 c1) : (s.setSvc c x).ctx g1 c1 = s.ctx g1 c1 := (rfl)
@[simp] theorem State.setSvc_core (s : State) (c x g1) : (s.setSvc c x).core g1 = s.core g1 := (rfl)
@[simp] theorem State.setSvc_mod (s : State) (c x c1) : (s.setSvc c x).mod c1 = s.mod c1 := (rfl)
@[simp] theorem State.setSvc_fn (s : State) (c x p1) : (s.setSvc c x).fn p1 = s.fn p1 := (rfl)
@[simp] theorem State.setSvc_ownerOf (s : State) (c x g1) : (s.setSvc c x).ownerOf g1 = s.ownerOf g1 := (rfl)
@[simp] theorem State.setSvc_read (s : State) (c x q n1) : (s.setSvc c x).read q n1 = s.read q n1 := (rfl)
@[simp] theorem State.setSvc_poisoned (s : State) (c x q n1) : (s.setSvc c x).poisoned q n1 = s.poisoned q n1 := (rfl)
@[simp] theorem State.setSvc_waitsOf (s : State) (c x g1 c1) : (s.setSvc c x).waitsOf g1 c1 = s.waitsOf g1 c1 := (rfl)
@[simp] theorem State.setSvc_colTag (s : State) (c x g1 c1 id1) : (s.setSvc c x).colTag g1 c1 id1 = s.colTag g1 c1 id1 := (rfl)
@[simp] theorem State.setSvc_chan (s : State) (c x g1 ch1) : (s.setSvc c x).chan g1 ch1 = s.chan g1 ch1 := (rfl)
@[simp] theorem State.setSvc_bracket (s : State) (c x g1 c1 cls1) : (s.setSvc c x).bracket g1 c1 cls1 = s.bracket g1 c1 cls1 := (rfl)
@[simp] theorem State.setSvc_seg (s : State) (c x p1 i1) : (s.setSvc c x).seg p1 i1 = s.seg p1 i1 := (rfl)
@[simp] theorem State.setSvc_hop (s : State) (c x g1 c1 t1) : (s.setSvc c x).hop g1 c1 t1 = s.hop g1 c1 t1 := (rfl)
@[simp] theorem State.setSvc_sflow (s : State) (c x f1) : (s.setSvc c x).sflow f1 = s.sflow f1 := (rfl)
@[simp] theorem State.setSvc_trnOf (s : State) (c x c1) : (s.setSvc c x).trnOf c1 = s.trnOf c1 := (rfl)

/-! setChan -/

@[simp] theorem State.setChan_pending (s : State) (g ch x) : (s.setChan g ch x).pending = s.pending := (rfl)
@[simp] theorem State.setChan_clk (s : State) (g ch x) : (s.setChan g ch x).clk = s.clk := (rfl)
@[simp] theorem State.setChan_owner (s : State) (g ch x) : (s.setChan g ch x).owner = s.owner := (rfl)
@[simp] theorem State.setChan_mem (s : State) (g ch x) : (s.setChan g ch x).mem = s.mem := (rfl)
@[simp] theorem State.setChan_poison (s : State) (g ch x) : (s.setChan g ch x).poison = s.poison := (rfl)
@[simp] theorem State.setChan_pwr (s : State) (g ch x) : (s.setChan g ch x).pwr = s.pwr := (rfl)
@[simp] theorem State.setChan_out (s : State) (g ch x) : (s.setChan g ch x).out = s.out := (rfl)
@[simp] theorem State.setChan_freeCtr (s : State) (g ch x) : (s.setChan g ch x).freeCtr = s.freeCtr := (rfl)
@[simp] theorem State.setChan_reg (s : State) (g ch x r) : (s.setChan g ch x).reg r = s.reg r := (rfl)
@[simp] theorem State.setChan_f (s : State) (g ch x y l1 m1 n1) : (s.setChan g ch x).f y l1 m1 n1 = s.f y l1 m1 n1 := (rfl)
@[simp] theorem State.setChan_fb (s : State) (g ch x y l1 m1 n1) : (s.setChan g ch x).fb y l1 m1 n1 = s.fb y l1 m1 n1 := (rfl)
@[simp] theorem State.setChan_strand (s : State) (g ch x g1 c1 k1) : (s.setChan g ch x).strand g1 c1 k1 = s.strand g1 c1 k1 := (rfl)
@[simp] theorem State.setChan_ctx (s : State) (g ch x g1 c1) : (s.setChan g ch x).ctx g1 c1 = s.ctx g1 c1 := (rfl)
@[simp] theorem State.setChan_core (s : State) (g ch x g1) : (s.setChan g ch x).core g1 = s.core g1 := (rfl)
@[simp] theorem State.setChan_mod (s : State) (g ch x c1) : (s.setChan g ch x).mod c1 = s.mod c1 := (rfl)
@[simp] theorem State.setChan_fn (s : State) (g ch x p1) : (s.setChan g ch x).fn p1 = s.fn p1 := (rfl)
@[simp] theorem State.setChan_ownerOf (s : State) (g ch x g1) : (s.setChan g ch x).ownerOf g1 = s.ownerOf g1 := (rfl)
@[simp] theorem State.setChan_read (s : State) (g ch x q n1) : (s.setChan g ch x).read q n1 = s.read q n1 := (rfl)
@[simp] theorem State.setChan_poisoned (s : State) (g ch x q n1) : (s.setChan g ch x).poisoned q n1 = s.poisoned q n1 := (rfl)
@[simp] theorem State.setChan_waitsOf (s : State) (g ch x g1 c1) : (s.setChan g ch x).waitsOf g1 c1 = s.waitsOf g1 c1 := (rfl)
@[simp] theorem State.setChan_colTag (s : State) (g ch x g1 c1 id1) : (s.setChan g ch x).colTag g1 c1 id1 = s.colTag g1 c1 id1 := (rfl)
@[simp] theorem State.setChan_svc (s : State) (g ch x c1) : (s.setChan g ch x).svc c1 = s.svc c1 := (rfl)
@[simp] theorem State.setChan_bracket (s : State) (g ch x g1 c1 cls1) : (s.setChan g ch x).bracket g1 c1 cls1 = s.bracket g1 c1 cls1 := (rfl)
@[simp] theorem State.setChan_seg (s : State) (g ch x p1 i1) : (s.setChan g ch x).seg p1 i1 = s.seg p1 i1 := (rfl)
@[simp] theorem State.setChan_hop (s : State) (g ch x g1 c1 t1) : (s.setChan g ch x).hop g1 c1 t1 = s.hop g1 c1 t1 := (rfl)
@[simp] theorem State.setChan_sflow (s : State) (g ch x f1) : (s.setChan g ch x).sflow f1 = s.sflow f1 := (rfl)
@[simp] theorem State.setChan_trnOf (s : State) (g ch x c1) : (s.setChan g ch x).trnOf c1 = s.trnOf c1 := (rfl)

/-! setBracket -/

@[simp] theorem State.setBracket_pending (s : State) (g c cls b) : (s.setBracket g c cls b).pending = s.pending := (rfl)
@[simp] theorem State.setBracket_clk (s : State) (g c cls b) : (s.setBracket g c cls b).clk = s.clk := (rfl)
@[simp] theorem State.setBracket_owner (s : State) (g c cls b) : (s.setBracket g c cls b).owner = s.owner := (rfl)
@[simp] theorem State.setBracket_mem (s : State) (g c cls b) : (s.setBracket g c cls b).mem = s.mem := (rfl)
@[simp] theorem State.setBracket_poison (s : State) (g c cls b) : (s.setBracket g c cls b).poison = s.poison := (rfl)
@[simp] theorem State.setBracket_pwr (s : State) (g c cls b) : (s.setBracket g c cls b).pwr = s.pwr := (rfl)
@[simp] theorem State.setBracket_out (s : State) (g c cls b) : (s.setBracket g c cls b).out = s.out := (rfl)
@[simp] theorem State.setBracket_freeCtr (s : State) (g c cls b) : (s.setBracket g c cls b).freeCtr = s.freeCtr := (rfl)
@[simp] theorem State.setBracket_reg (s : State) (g c cls b r) : (s.setBracket g c cls b).reg r = s.reg r := (rfl)
@[simp] theorem State.setBracket_f (s : State) (g c cls b y l1 m1 n1) : (s.setBracket g c cls b).f y l1 m1 n1 = s.f y l1 m1 n1 := (rfl)
@[simp] theorem State.setBracket_fb (s : State) (g c cls b y l1 m1 n1) : (s.setBracket g c cls b).fb y l1 m1 n1 = s.fb y l1 m1 n1 := (rfl)
@[simp] theorem State.setBracket_strand (s : State) (g c cls b g1 c1 k1) : (s.setBracket g c cls b).strand g1 c1 k1 = s.strand g1 c1 k1 := (rfl)
@[simp] theorem State.setBracket_ctx (s : State) (g c cls b g1 c1) : (s.setBracket g c cls b).ctx g1 c1 = s.ctx g1 c1 := (rfl)
@[simp] theorem State.setBracket_core (s : State) (g c cls b g1) : (s.setBracket g c cls b).core g1 = s.core g1 := (rfl)
@[simp] theorem State.setBracket_mod (s : State) (g c cls b c1) : (s.setBracket g c cls b).mod c1 = s.mod c1 := (rfl)
@[simp] theorem State.setBracket_fn (s : State) (g c cls b p1) : (s.setBracket g c cls b).fn p1 = s.fn p1 := (rfl)
@[simp] theorem State.setBracket_ownerOf (s : State) (g c cls b g1) : (s.setBracket g c cls b).ownerOf g1 = s.ownerOf g1 := (rfl)
@[simp] theorem State.setBracket_read (s : State) (g c cls b q n1) : (s.setBracket g c cls b).read q n1 = s.read q n1 := (rfl)
@[simp] theorem State.setBracket_poisoned (s : State) (g c cls b q n1) : (s.setBracket g c cls b).poisoned q n1 = s.poisoned q n1 := (rfl)
@[simp] theorem State.setBracket_waitsOf (s : State) (g c cls b g1 c1) : (s.setBracket g c cls b).waitsOf g1 c1 = s.waitsOf g1 c1 := (rfl)
@[simp] theorem State.setBracket_colTag (s : State) (g c cls b g1 c1 id1) : (s.setBracket g c cls b).colTag g1 c1 id1 = s.colTag g1 c1 id1 := (rfl)
@[simp] theorem State.setBracket_svc (s : State) (g c cls b c1) : (s.setBracket g c cls b).svc c1 = s.svc c1 := (rfl)
@[simp] theorem State.setBracket_chan (s : State) (g c cls b g1 ch1) : (s.setBracket g c cls b).chan g1 ch1 = s.chan g1 ch1 := (rfl)
@[simp] theorem State.setBracket_seg (s : State) (g c cls b p1 i1) : (s.setBracket g c cls b).seg p1 i1 = s.seg p1 i1 := (rfl)
@[simp] theorem State.setBracket_hop (s : State) (g c cls b g1 c1 t1) : (s.setBracket g c cls b).hop g1 c1 t1 = s.hop g1 c1 t1 := (rfl)
@[simp] theorem State.setBracket_sflow (s : State) (g c cls b f1) : (s.setBracket g c cls b).sflow f1 = s.sflow f1 := (rfl)
@[simp] theorem State.setBracket_trnOf (s : State) (g c cls b c1) : (s.setBracket g c cls b).trnOf c1 = s.trnOf c1 := (rfl)

/-! setSeg -/

@[simp] theorem State.setSeg_pending (s : State) (p i x) : (s.setSeg p i x).pending = s.pending := (rfl)
@[simp] theorem State.setSeg_clk (s : State) (p i x) : (s.setSeg p i x).clk = s.clk := (rfl)
@[simp] theorem State.setSeg_owner (s : State) (p i x) : (s.setSeg p i x).owner = s.owner := (rfl)
@[simp] theorem State.setSeg_mem (s : State) (p i x) : (s.setSeg p i x).mem = s.mem := (rfl)
@[simp] theorem State.setSeg_poison (s : State) (p i x) : (s.setSeg p i x).poison = s.poison := (rfl)
@[simp] theorem State.setSeg_pwr (s : State) (p i x) : (s.setSeg p i x).pwr = s.pwr := (rfl)
@[simp] theorem State.setSeg_out (s : State) (p i x) : (s.setSeg p i x).out = s.out := (rfl)
@[simp] theorem State.setSeg_freeCtr (s : State) (p i x) : (s.setSeg p i x).freeCtr = s.freeCtr := (rfl)
@[simp] theorem State.setSeg_reg (s : State) (p i x r) : (s.setSeg p i x).reg r = s.reg r := (rfl)
@[simp] theorem State.setSeg_f (s : State) (p i x y l1 m1 n1) : (s.setSeg p i x).f y l1 m1 n1 = s.f y l1 m1 n1 := (rfl)
@[simp] theorem State.setSeg_fb (s : State) (p i x y l1 m1 n1) : (s.setSeg p i x).fb y l1 m1 n1 = s.fb y l1 m1 n1 := (rfl)
@[simp] theorem State.setSeg_strand (s : State) (p i x g1 c1 k1) : (s.setSeg p i x).strand g1 c1 k1 = s.strand g1 c1 k1 := (rfl)
@[simp] theorem State.setSeg_ctx (s : State) (p i x g1 c1) : (s.setSeg p i x).ctx g1 c1 = s.ctx g1 c1 := (rfl)
@[simp] theorem State.setSeg_core (s : State) (p i x g1) : (s.setSeg p i x).core g1 = s.core g1 := (rfl)
@[simp] theorem State.setSeg_mod (s : State) (p i x c1) : (s.setSeg p i x).mod c1 = s.mod c1 := (rfl)
@[simp] theorem State.setSeg_fn (s : State) (p i x p1) : (s.setSeg p i x).fn p1 = s.fn p1 := (rfl)
@[simp] theorem State.setSeg_ownerOf (s : State) (p i x g1) : (s.setSeg p i x).ownerOf g1 = s.ownerOf g1 := (rfl)
@[simp] theorem State.setSeg_read (s : State) (p i x q n1) : (s.setSeg p i x).read q n1 = s.read q n1 := (rfl)
@[simp] theorem State.setSeg_poisoned (s : State) (p i x q n1) : (s.setSeg p i x).poisoned q n1 = s.poisoned q n1 := (rfl)
@[simp] theorem State.setSeg_waitsOf (s : State) (p i x g1 c1) : (s.setSeg p i x).waitsOf g1 c1 = s.waitsOf g1 c1 := (rfl)
@[simp] theorem State.setSeg_colTag (s : State) (p i x g1 c1 id1) : (s.setSeg p i x).colTag g1 c1 id1 = s.colTag g1 c1 id1 := (rfl)
@[simp] theorem State.setSeg_svc (s : State) (p i x c1) : (s.setSeg p i x).svc c1 = s.svc c1 := (rfl)
@[simp] theorem State.setSeg_chan (s : State) (p i x g1 ch1) : (s.setSeg p i x).chan g1 ch1 = s.chan g1 ch1 := (rfl)
@[simp] theorem State.setSeg_bracket (s : State) (p i x g1 c1 cls1) : (s.setSeg p i x).bracket g1 c1 cls1 = s.bracket g1 c1 cls1 := (rfl)
@[simp] theorem State.setSeg_hop (s : State) (p i x g1 c1 t1) : (s.setSeg p i x).hop g1 c1 t1 = s.hop g1 c1 t1 := (rfl)
@[simp] theorem State.setSeg_sflow (s : State) (p i x f1) : (s.setSeg p i x).sflow f1 = s.sflow f1 := (rfl)
@[simp] theorem State.setSeg_trnOf (s : State) (p i x c1) : (s.setSeg p i x).trnOf c1 = s.trnOf c1 := (rfl)

/-! setHop -/

@[simp] theorem State.setHop_pending (s : State) (g c t x) : (s.setHop g c t x).pending = s.pending := (rfl)
@[simp] theorem State.setHop_clk (s : State) (g c t x) : (s.setHop g c t x).clk = s.clk := (rfl)
@[simp] theorem State.setHop_owner (s : State) (g c t x) : (s.setHop g c t x).owner = s.owner := (rfl)
@[simp] theorem State.setHop_mem (s : State) (g c t x) : (s.setHop g c t x).mem = s.mem := (rfl)
@[simp] theorem State.setHop_poison (s : State) (g c t x) : (s.setHop g c t x).poison = s.poison := (rfl)
@[simp] theorem State.setHop_pwr (s : State) (g c t x) : (s.setHop g c t x).pwr = s.pwr := (rfl)
@[simp] theorem State.setHop_out (s : State) (g c t x) : (s.setHop g c t x).out = s.out := (rfl)
@[simp] theorem State.setHop_freeCtr (s : State) (g c t x) : (s.setHop g c t x).freeCtr = s.freeCtr := (rfl)
@[simp] theorem State.setHop_reg (s : State) (g c t x r) : (s.setHop g c t x).reg r = s.reg r := (rfl)
@[simp] theorem State.setHop_f (s : State) (g c t x y l1 m1 n1) : (s.setHop g c t x).f y l1 m1 n1 = s.f y l1 m1 n1 := (rfl)
@[simp] theorem State.setHop_fb (s : State) (g c t x y l1 m1 n1) : (s.setHop g c t x).fb y l1 m1 n1 = s.fb y l1 m1 n1 := (rfl)
@[simp] theorem State.setHop_strand (s : State) (g c t x g1 c1 k1) : (s.setHop g c t x).strand g1 c1 k1 = s.strand g1 c1 k1 := (rfl)
@[simp] theorem State.setHop_ctx (s : State) (g c t x g1 c1) : (s.setHop g c t x).ctx g1 c1 = s.ctx g1 c1 := (rfl)
@[simp] theorem State.setHop_core (s : State) (g c t x g1) : (s.setHop g c t x).core g1 = s.core g1 := (rfl)
@[simp] theorem State.setHop_mod (s : State) (g c t x c1) : (s.setHop g c t x).mod c1 = s.mod c1 := (rfl)
@[simp] theorem State.setHop_fn (s : State) (g c t x p1) : (s.setHop g c t x).fn p1 = s.fn p1 := (rfl)
@[simp] theorem State.setHop_ownerOf (s : State) (g c t x g1) : (s.setHop g c t x).ownerOf g1 = s.ownerOf g1 := (rfl)
@[simp] theorem State.setHop_read (s : State) (g c t x q n1) : (s.setHop g c t x).read q n1 = s.read q n1 := (rfl)
@[simp] theorem State.setHop_poisoned (s : State) (g c t x q n1) : (s.setHop g c t x).poisoned q n1 = s.poisoned q n1 := (rfl)
@[simp] theorem State.setHop_waitsOf (s : State) (g c t x g1 c1) : (s.setHop g c t x).waitsOf g1 c1 = s.waitsOf g1 c1 := (rfl)
@[simp] theorem State.setHop_colTag (s : State) (g c t x g1 c1 id1) : (s.setHop g c t x).colTag g1 c1 id1 = s.colTag g1 c1 id1 := (rfl)
@[simp] theorem State.setHop_svc (s : State) (g c t x c1) : (s.setHop g c t x).svc c1 = s.svc c1 := (rfl)
@[simp] theorem State.setHop_chan (s : State) (g c t x g1 ch1) : (s.setHop g c t x).chan g1 ch1 = s.chan g1 ch1 := (rfl)
@[simp] theorem State.setHop_bracket (s : State) (g c t x g1 c1 cls1) : (s.setHop g c t x).bracket g1 c1 cls1 = s.bracket g1 c1 cls1 := (rfl)
@[simp] theorem State.setHop_seg (s : State) (g c t x p1 i1) : (s.setHop g c t x).seg p1 i1 = s.seg p1 i1 := (rfl)
@[simp] theorem State.setHop_sflow (s : State) (g c t x f1) : (s.setHop g c t x).sflow f1 = s.sflow f1 := (rfl)
@[simp] theorem State.setHop_trnOf (s : State) (g c t x c1) : (s.setHop g c t x).trnOf c1 = s.trnOf c1 := (rfl)

/-! setSFlow -/

@[simp] theorem State.setSFlow_pending (s : State) (f x) : (s.setSFlow f x).pending = s.pending := (rfl)
@[simp] theorem State.setSFlow_clk (s : State) (f x) : (s.setSFlow f x).clk = s.clk := (rfl)
@[simp] theorem State.setSFlow_owner (s : State) (f x) : (s.setSFlow f x).owner = s.owner := (rfl)
@[simp] theorem State.setSFlow_mem (s : State) (f x) : (s.setSFlow f x).mem = s.mem := (rfl)
@[simp] theorem State.setSFlow_poison (s : State) (f x) : (s.setSFlow f x).poison = s.poison := (rfl)
@[simp] theorem State.setSFlow_pwr (s : State) (f x) : (s.setSFlow f x).pwr = s.pwr := (rfl)
@[simp] theorem State.setSFlow_out (s : State) (f x) : (s.setSFlow f x).out = s.out := (rfl)
@[simp] theorem State.setSFlow_freeCtr (s : State) (f x) : (s.setSFlow f x).freeCtr = s.freeCtr := (rfl)
@[simp] theorem State.setSFlow_reg (s : State) (f x r) : (s.setSFlow f x).reg r = s.reg r := (rfl)
@[simp] theorem State.setSFlow_f (s : State) (f x y l1 m1 n1) : (s.setSFlow f x).f y l1 m1 n1 = s.f y l1 m1 n1 := (rfl)
@[simp] theorem State.setSFlow_fb (s : State) (f x y l1 m1 n1) : (s.setSFlow f x).fb y l1 m1 n1 = s.fb y l1 m1 n1 := (rfl)
@[simp] theorem State.setSFlow_strand (s : State) (f x g1 c1 k1) : (s.setSFlow f x).strand g1 c1 k1 = s.strand g1 c1 k1 := (rfl)
@[simp] theorem State.setSFlow_ctx (s : State) (f x g1 c1) : (s.setSFlow f x).ctx g1 c1 = s.ctx g1 c1 := (rfl)
@[simp] theorem State.setSFlow_core (s : State) (f x g1) : (s.setSFlow f x).core g1 = s.core g1 := (rfl)
@[simp] theorem State.setSFlow_mod (s : State) (f x c1) : (s.setSFlow f x).mod c1 = s.mod c1 := (rfl)
@[simp] theorem State.setSFlow_fn (s : State) (f x p1) : (s.setSFlow f x).fn p1 = s.fn p1 := (rfl)
@[simp] theorem State.setSFlow_ownerOf (s : State) (f x g1) : (s.setSFlow f x).ownerOf g1 = s.ownerOf g1 := (rfl)
@[simp] theorem State.setSFlow_read (s : State) (f x q n1) : (s.setSFlow f x).read q n1 = s.read q n1 := (rfl)
@[simp] theorem State.setSFlow_poisoned (s : State) (f x q n1) : (s.setSFlow f x).poisoned q n1 = s.poisoned q n1 := (rfl)
@[simp] theorem State.setSFlow_waitsOf (s : State) (f x g1 c1) : (s.setSFlow f x).waitsOf g1 c1 = s.waitsOf g1 c1 := (rfl)
@[simp] theorem State.setSFlow_colTag (s : State) (f x g1 c1 id1) : (s.setSFlow f x).colTag g1 c1 id1 = s.colTag g1 c1 id1 := (rfl)
@[simp] theorem State.setSFlow_svc (s : State) (f x c1) : (s.setSFlow f x).svc c1 = s.svc c1 := (rfl)
@[simp] theorem State.setSFlow_chan (s : State) (f x g1 ch1) : (s.setSFlow f x).chan g1 ch1 = s.chan g1 ch1 := (rfl)
@[simp] theorem State.setSFlow_bracket (s : State) (f x g1 c1 cls1) : (s.setSFlow f x).bracket g1 c1 cls1 = s.bracket g1 c1 cls1 := (rfl)
@[simp] theorem State.setSFlow_seg (s : State) (f x p1 i1) : (s.setSFlow f x).seg p1 i1 = s.seg p1 i1 := (rfl)
@[simp] theorem State.setSFlow_hop (s : State) (f x g1 c1 t1) : (s.setSFlow f x).hop g1 c1 t1 = s.hop g1 c1 t1 := (rfl)
@[simp] theorem State.setSFlow_trnOf (s : State) (f x c1) : (s.setSFlow f x).trnOf c1 = s.trnOf c1 := (rfl)

/-! setTrn -/

@[simp] theorem State.setTrn_pending (s : State) (c x) : (s.setTrn c x).pending = s.pending := (rfl)
@[simp] theorem State.setTrn_clk (s : State) (c x) : (s.setTrn c x).clk = s.clk := (rfl)
@[simp] theorem State.setTrn_owner (s : State) (c x) : (s.setTrn c x).owner = s.owner := (rfl)
@[simp] theorem State.setTrn_mem (s : State) (c x) : (s.setTrn c x).mem = s.mem := (rfl)
@[simp] theorem State.setTrn_poison (s : State) (c x) : (s.setTrn c x).poison = s.poison := (rfl)
@[simp] theorem State.setTrn_pwr (s : State) (c x) : (s.setTrn c x).pwr = s.pwr := (rfl)
@[simp] theorem State.setTrn_out (s : State) (c x) : (s.setTrn c x).out = s.out := (rfl)
@[simp] theorem State.setTrn_freeCtr (s : State) (c x) : (s.setTrn c x).freeCtr = s.freeCtr := (rfl)
@[simp] theorem State.setTrn_reg (s : State) (c x r) : (s.setTrn c x).reg r = s.reg r := (rfl)
@[simp] theorem State.setTrn_f (s : State) (c x y l1 m1 n1) : (s.setTrn c x).f y l1 m1 n1 = s.f y l1 m1 n1 := (rfl)
@[simp] theorem State.setTrn_fb (s : State) (c x y l1 m1 n1) : (s.setTrn c x).fb y l1 m1 n1 = s.fb y l1 m1 n1 := (rfl)
@[simp] theorem State.setTrn_strand (s : State) (c x g1 c1 k1) : (s.setTrn c x).strand g1 c1 k1 = s.strand g1 c1 k1 := (rfl)
@[simp] theorem State.setTrn_ctx (s : State) (c x g1 c1) : (s.setTrn c x).ctx g1 c1 = s.ctx g1 c1 := (rfl)
@[simp] theorem State.setTrn_core (s : State) (c x g1) : (s.setTrn c x).core g1 = s.core g1 := (rfl)
@[simp] theorem State.setTrn_mod (s : State) (c x c1) : (s.setTrn c x).mod c1 = s.mod c1 := (rfl)
@[simp] theorem State.setTrn_fn (s : State) (c x p1) : (s.setTrn c x).fn p1 = s.fn p1 := (rfl)
@[simp] theorem State.setTrn_ownerOf (s : State) (c x g1) : (s.setTrn c x).ownerOf g1 = s.ownerOf g1 := (rfl)
@[simp] theorem State.setTrn_read (s : State) (c x q n1) : (s.setTrn c x).read q n1 = s.read q n1 := (rfl)
@[simp] theorem State.setTrn_poisoned (s : State) (c x q n1) : (s.setTrn c x).poisoned q n1 = s.poisoned q n1 := (rfl)
@[simp] theorem State.setTrn_waitsOf (s : State) (c x g1 c1) : (s.setTrn c x).waitsOf g1 c1 = s.waitsOf g1 c1 := (rfl)
@[simp] theorem State.setTrn_colTag (s : State) (c x g1 c1 id1) : (s.setTrn c x).colTag g1 c1 id1 = s.colTag g1 c1 id1 := (rfl)
@[simp] theorem State.setTrn_svc (s : State) (c x c1) : (s.setTrn c x).svc c1 = s.svc c1 := (rfl)
@[simp] theorem State.setTrn_chan (s : State) (c x g1 ch1) : (s.setTrn c x).chan g1 ch1 = s.chan g1 ch1 := (rfl)
@[simp] theorem State.setTrn_bracket (s : State) (c x g1 c1 cls1) : (s.setTrn c x).bracket g1 c1 cls1 = s.bracket g1 c1 cls1 := (rfl)
@[simp] theorem State.setTrn_seg (s : State) (c x p1 i1) : (s.setTrn c x).seg p1 i1 = s.seg p1 i1 := (rfl)
@[simp] theorem State.setTrn_hop (s : State) (c x g1 c1 t1) : (s.setTrn c x).hop g1 c1 t1 = s.hop g1 c1 t1 := (rfl)
@[simp] theorem State.setTrn_sflow (s : State) (c x f1) : (s.setTrn c x).sflow f1 = s.sflow f1 := (rfl)

end Sys2Proof.Machine
end

