-- ==== Sys2Proof/Laws/Ops.lean ====
section
/-! SUPPORT. The laws of the named operations: a register, a field, a table entry reads what was written to it, and every
other one as before; what an event, a free value, a fault and an issue do. -/

namespace Sys2Proof.Machine

/-! ### Registers and fields -/

@[simp] theorem State.reg_setReg_same (s : State) (r : Reg) (w : Word) : (s.setReg r w).reg r = w :=
  SMap.get_set_same _ _ _ _ _

theorem State.reg_setReg_other (s : State) {r r' : Reg} (w : Word) (h : r' ≠ r) : (s.setReg r w).reg r' = s.reg r' :=
  SMap.get_set_other _ _ _ _ _ h

/-- A field written reads the low bits of its value. -/
theorem State.f_setF_same (s : State) (x : Fld) (v i j k : Nat) (h : x.lo + x.len ≤ 64) :
    (s.setF x v i j k).f x i j k = v % 2 ^ x.len := by
  simp [State.f, State.setF, bits_setBits_same _ _ _ _ h]

/-- A field of another register, or of another instance. -/
theorem State.f_setF_reg (s : State) (x y : Fld) (v i j k i' j' k' : Nat)
    (h : (⟨y.reg, i', j', k'⟩ : Reg) ≠ ⟨x.reg, i, j, k⟩) : (s.setF x v i j k).f y i' j' k' = s.f y i' j' k' := by
  simp only [State.f, State.setF, State.reg_setReg_other _ _ h]

/-- A field of another register name. -/
theorem State.f_setF_name (s : State) (x y : Fld) (v i j k i' j' k' : Nat) (h : y.reg ≠ x.reg) :
    (s.setF x v i j k).f y i' j' k' = s.f y i' j' k' :=
  s.f_setF_reg x y v i j k i' j' k' (fun e => h (by injection e))

/-- Another field of the same register. -/
theorem State.f_setF_bits (s : State) (x y : Fld) (v i j k i' j' k' : Nat) (h : y.lo + y.len ≤ x.lo ∨ x.lo + x.len ≤ y.lo) :
    (s.setF x v i j k).f y i' j' k' = s.f y i' j' k' := by
  by_cases e : (⟨y.reg, i', j', k'⟩ : Reg) = ⟨x.reg, i, j, k⟩
  · unfold State.f State.setF
    rw [e, State.reg_setReg_same, bits_setBits_disjoint _ _ _ _ _ _ h]
  · exact s.f_setF_reg x y v i j k i' j' k' e

theorem State.fb_setF_name (s : State) (x y : Fld) (v i j k i' j' k' : Nat) (h : y.reg ≠ x.reg) :
    (s.setF x v i j k).fb y i' j' k' = s.fb y i' j' k' := by
  simp only [State.fb, s.f_setF_name x y v i j k i' j' k' h]

theorem State.fb_setF_bits (s : State) (x y : Fld) (v i j k i' j' k' : Nat) (h : y.lo + y.len ≤ x.lo ∨ x.lo + x.len ≤ y.lo) :
    (s.setF x v i j k).fb y i' j' k' = s.fb y i' j' k' := by
  simp only [State.fb, s.f_setF_bits x y v i j k i' j' k' h]

/-- A bit written as 1 is set. -/
theorem State.fb_setF_one (s : State) (x : Fld) (i j k : Nat) (h : x.lo + x.len ≤ 64) (h1 : x.len = 1) :
    (s.setF x 1 i j k).fb x i j k = true := by
  simp [State.fb, s.f_setF_same x 1 i j k h, h1]

/-- A bit written as 0 is clear. -/
theorem State.fb_setF_zero (s : State) (x : Fld) (i j k : Nat) (h : x.lo + x.len ≤ 64) :
    (s.setF x 0 i j k).fb x i j k = false := by
  simp [State.fb, s.f_setF_same x 0 i j k h]

/-! ### Events (R13, R349) -/

/-- The registers after an event: its bit is set, and no other register changes. -/
theorem State.reg_event (s : State) (x : Fld) (n i j : Nat) (r : Reg) :
    (s.event x n i j).reg r = (s.setF x (setBitN (s.f x i j) n) i j).reg r := by
  obtain ⟨q, o, h⟩ := s.event_eq x n i j
  rw [h]; rfl

theorem State.f_event (s : State) (x y : Fld) (n i j i' j' k' : Nat) :
    (s.event x n i j).f y i' j' k' = (s.setF x (setBitN (s.f x i j) n) i j).f y i' j' k' := by
  simp only [State.f, State.reg_event]

theorem State.f_event_name (s : State) (x y : Fld) (n i j i' j' k' : Nat) (h : y.reg ≠ x.reg) :
    (s.event x n i j).f y i' j' k' = s.f y i' j' k' := by
  rw [State.f_event, State.f_setF_name _ _ _ _ _ _ _ _ _ _ h]

theorem State.f_event_bits (s : State) (x y : Fld) (n i j i' j' k' : Nat) (h : y.lo + y.len ≤ x.lo ∨ x.lo + x.len ≤ y.lo) :
    (s.event x n i j).f y i' j' k' = s.f y i' j' k' := by
  rw [State.f_event, State.f_setF_bits _ _ _ _ _ _ _ _ _ _ h]

/-- Bit m of a number with bit n set. -/
theorem bitN_setBitN (v n m : Nat) : bitN (setBitN v n) m = (bitN v m || decide (m = n)) := by
  unfold setBitN
  split
  · next h =>
    by_cases e : m = n
    · simp [e, h]
    · simp [e]
  · next h =>
    have h0 : v / 2 ^ n % 2 = 0 := by
      simp [bitN, bitsN] at h; omega
    have hp : 0 < 2 ^ n := by positivity
    simp only [bitN, bitsN, pow_one]
    rcases Nat.lt_trichotomy m n with hm | hm | hm
    · obtain ⟨k, rfl⟩ : ∃ k, n = m + 1 + k := ⟨n - m - 1, by omega⟩
      have e : v + 2 ^ (m + 1 + k) = v + 2 ^ m * (2 * 2 ^ k) := by ring
      rw [e, Nat.add_mul_div_left _ _ (by positivity)]
      have : ¬ m = m + 1 + k := by omega
      simp [this]
    · subst hm
      have e : (v + 2 ^ m) / 2 ^ m = v / 2 ^ m + 1 := Nat.add_div_right v hp
      rw [e]
      have : (v / 2 ^ m + 1) % 2 = 1 := by omega
      simp [this]
    · obtain ⟨k, rfl⟩ : ∃ k, m = n + 1 + k := ⟨m - n - 1, by omega⟩
      have e : (2 : Nat) ^ (n + 1 + k) = 2 ^ n * 2 * 2 ^ k := by ring
      have d : (v + 2 ^ n) / 2 ^ n = v / 2 ^ n + 1 := Nat.add_div_right v hp
      rw [e, ← Nat.div_div_eq_div_mul, ← Nat.div_div_eq_div_mul, ← Nat.div_div_eq_div_mul, ← Nat.div_div_eq_div_mul, d]
      have : (v / 2 ^ n + 1) / 2 = v / 2 ^ n / 2 := by omega
      have hn : ¬ n + 1 + k = n := by omega
      rw [this]; simp [hn]

/-- An event bit raised in a field that has room for it is set. -/
theorem State.event_set (s : State) (x : Fld) (n i j : Nat) (h : x.lo + x.len ≤ 64) (hn : n < x.len) :
    bitN ((s.event x n i j).f x i j) n = true := by
  rw [State.f_event, State.f_setF_same _ _ _ _ _ _ h]
  have : ∀ v : Nat, bitN (v % 2 ^ x.len) n = bitN v n := by
    intro v
    simp only [bitN, bitsN]
    congr 1
    obtain ⟨k, hk⟩ : ∃ k, x.len = n + 1 + k := ⟨x.len - n - 1, by omega⟩
    have e : (2 : Nat) ^ x.len = 2 ^ n * (2 * 2 ^ k) := by rw [hk]; ring
    rw [e, Nat.mod_mul_right_div_self, pow_one, Nat.mod_mul_right_mod]
  rw [this, bitN_setBitN]; simp

/-! ### Tables -/

@[simp] theorem State.strand_setStrand_same (s : State) (g c k : Nat) (x : Strand) : (s.setStrand g c k x).strand g c k = x :=
  SMap.get_set_same _ _ _ _ _

theorem State.strand_setStrand_other (s : State) {g c k g' c' k' : Nat} (x : Strand) (h : (g', c', k') ≠ (g, c, k)) :
    (s.setStrand g c k x).strand g' c' k' = s.strand g' c' k' :=
  SMap.get_set_other _ _ _ _ _ h

@[simp] theorem State.ctx_setCtx_same (s : State) (g c : Nat) (x : Ctx) : (s.setCtx g c x).ctx g c = x :=
  SMap.get_set_same _ _ _ _ _

theorem State.ctx_setCtx_other (s : State) {g c g' c' : Nat} (x : Ctx) (h : (g', c') ≠ (g, c)) :
    (s.setCtx g c x).ctx g' c' = s.ctx g' c' :=
  SMap.get_set_other _ _ _ _ _ h

@[simp] theorem State.core_setCore_same (s : State) (g : Nat) (x : Core) : (s.setCore g x).core g = x :=
  SMap.get_set_same _ _ _ _ _

theorem State.core_setCore_other (s : State) {g g' : Nat} (x : Core) (h : g' ≠ g) : (s.setCore g x).core g' = s.core g' :=
  SMap.get_set_other _ _ _ _ _ h

@[simp] theorem State.mod_setMod_same (s : State) (c : Nat) (x : ModCtx) : (s.setMod c x).mod c = x :=
  SMap.get_set_same _ _ _ _ _

theorem State.mod_setMod_other (s : State) {c c' : Nat} (x : ModCtx) (h : c' ≠ c) : (s.setMod c x).mod c' = s.mod c' :=
  SMap.get_set_other _ _ _ _ _ h

@[simp] theorem State.fn_setFn_same (s : State) (p : Nat) (x : PcieFn) : (s.setFn p x).fn p = x :=
  SMap.get_set_same _ _ _ _ _

@[simp] theorem State.waitsOf_setWaits_same (s : State) (g c : Nat) (x : List WaitEnt) : (s.setWaits g c x).waitsOf g c = x :=
  SMap.get_set_same _ _ _ _ _

@[simp] theorem State.svc_setSvc_same (s : State) (c : Nat) (x : Svc) : (s.setSvc c x).svc c = x :=
  SMap.get_set_same _ _ _ _ _

@[simp] theorem State.chan_setChan_same (s : State) (g ch : Nat) (x : Chan) : (s.setChan g ch x).chan g ch = x :=
  SMap.get_set_same _ _ _ _ _

@[simp] theorem State.bracket_setBracket_same (s : State) (g c cls : Nat) (x : Option Bracket) :
    (s.setBracket g c cls x).bracket g c cls = x :=
  SMap.get_set_same _ _ _ _ _

@[simp] theorem State.seg_setSeg_same (s : State) (p i : Nat) (x : Seg) : (s.setSeg p i x).seg p i = x :=
  SMap.get_set_same _ _ _ _ _

@[simp] theorem State.hop_setHop_same (s : State) (g c t : Nat) (x : Hop) : (s.setHop g c t x).hop g c t = x :=
  SMap.get_set_same _ _ _ _ _

@[simp] theorem State.sflow_setSFlow_same (s : State) (f : Nat) (x : Option SFlow) : (s.setSFlow f x).sflow f = x :=
  SMap.get_set_same _ _ _ _ _

@[simp] theorem State.trnOf_setTrn_same (s : State) (c : Nat) (x : Trn) : (s.setTrn c x).trnOf c = x :=
  SMap.get_set_same _ _ _ _ _

/-! ### Strand registers (R61) -/

/-- Register 0 reads 0. -/
@[simp] theorem Strand.rd_zero (t : Strand) : t.rd 0 = 0 := rfl

/-- A register written reads its value; a write to s0 is discarded. -/
theorem Strand.rd_wr (t : Strand) (r r' : Nat) (v : Word) :
    (t.wr r v).rd r' = if r' = r ∧ r ≠ 0 then v else t.rd r' := by
  unfold Strand.wr Strand.rd
  by_cases h0 : r = 0
  · simp [h0]
  · by_cases e : r' = r
    · subst e; simp [h0]
    · simp [h0, e, SMap.get_set_other]

@[simp] theorem Strand.wr_pc (t : Strand) (r : Nat) (v : Word) : (t.wr r v).pc = t.pc := by unfold Strand.wr; split <;> rfl
@[simp] theorem Strand.wr_block (t : Strand) (r : Nat) (v : Word) : (t.wr r v).block = t.block := by unfold Strand.wr; split <;> rfl
@[simp] theorem Strand.wr_vcfg (t : Strand) (r : Nat) (v : Word) : (t.wr r v).vcfg = t.vcfg := by unfold Strand.wr; split <;> rfl
@[simp] theorem Strand.wr_exec (t : Strand) (r : Nat) (v : Word) : (t.wr r v).exec = t.exec := by unfold Strand.wr; split <;> rfl
@[simp] theorem Strand.wr_fid (t : Strand) (r : Nat) (v : Word) : (t.wr r v).fid = t.fid := by unfold Strand.wr; split <;> rfl
@[simp] theorem Strand.wr_pend (t : Strand) (r : Nat) (v : Word) : (t.wr r v).pend = t.pend := by unfold Strand.wr; split <;> rfl

/-! ### Memory -/

/-- A byte outside a store reads as before. -/
theorem State.write_get_other (s : State) (key k : Nat) (bs : List Byte) (h : k < key ∨ key + bs.length ≤ k) :
    (s.write key bs).mem.get k = s.mem.get k :=
  mem_get_write_other bs s.mem key k h

/-- The bytes stored read back. -/
theorem State.read_write (s : State) (key : Nat) (bs : List Byte) : (s.write key bs).read key bs.length = bs := by
  unfold State.read Mem.read State.write
  apply List.ext_getElem
  · simp
  · intro i h1 h2
    simp only [List.getElem_map, List.getElem_range]
    exact mem_get_write_same bs s.mem key i h2

end Sys2Proof.Machine
end

