-- ==== Sys2Proof/Laws/Issue.lean ====
section
/-! SUPPORT. What an instruction that can issue does through the shared operations: retire, jump and raise. -/

namespace Sys2Proof.Machine

/-- An instruction that can issue has the effect its opcode names. -/
theorem State.issue_of_at {s : State} {g c k : Nat} {op : Op} {d : Dec} (h : s.At g c k op d) (f : State → Dec → State) :
    s.issue g c k op f = f s d := by
  obtain ⟨h, ho⟩ := h
  simp only [State.instrAt] at h
  split at h
  · rename_i hc
    simp only [Bool.and_eq_true, decide_eq_true_eq, Bool.not_eq_true'] at hc
    obtain ⟨⟨⟨h1, h2⟩, h3⟩, h4⟩ := hc
    split at h
    · rename_i d' hd
      split at h
      · cases h
      · rename_i hu
        cases h
        simp only [State.issue, h1, Bool.not_true, Bool.false_eq_true, if_false, h4, hd, ho, ne_eq, not_true_eq_false]
        rw [if_neg (by omega)]
        simp only [hu, Bool.false_eq_true, if_false]
    · cases h
  · cases h

/-- An instruction of another opcode, or one that waits for a register, changes nothing. -/
theorem State.issue_idle {s : State} {g c k : Nat} (op : Op) (f : State → Dec → State) (h : s.canIssue g c k = false) :
    s.issue g c k op f = s := by simp [State.issue, h]

theorem Strand.wr_eq (t : Strand) (r : Nat) (v : Word) : t.wr r v = { t with regs := (t.wr r v).regs } := by
  unfold Strand.wr; split <;> rfl

/-- A change of the issue slot that leaves its holder is bookkeeping of issue. -/
theorem State.OnlyStrand.slot_change {s t : State} {g c k : Nat} (h : s.OnlyStrand t g c k) (x : IssueSlot)
    (hx : x.last = (t.core g).iss.last) : s.OnlyStrand (t.setCore g { t.core g with iss := x }) g c k := by
  refine ⟨?_, ?_, ?_, ?_, ?_, ?_⟩
  · conv_lhs => rw [h.rest]
    rfl
  · intro g' c' k' e
    rw [State.setCore_strand]; exact h.strands g' c' k' e
  · intro g' e
    rw [State.core_setCore_other _ _ e]; exact h.cores g' e
  · rw [State.core_setCore_same]
    conv_lhs => rw [h.core]
  · rw [State.core_setCore_same]; exact hx.trans h.slot
  · intro r e
    rw [State.setCore_reg]; exact h.regs r e

/-- What issue leaves alone. -/
theorem State.issued_only (s : State) (g c k : Nat) (u : Strand) :
    s.OnlyStrand ((s.setStrand g c k u).issued g c k) g c k := by
  have key : ∀ b : Bool, let x := (s.core g).iss
      s.OnlyStrand (((if b then (s.setStrand g c k u).addF F.CORE_SWITCHES_COUNT 1 g c else s.setStrand g c k u).setCore g
        { (if b then (s.setStrand g c k u).addF F.CORE_SWITCHES_COUNT 1 g c else s.setStrand g c k u).core g with
          iss := x.pass c k }).progress g c) g c k := by
    intro b x
    refine ⟨?_, ?_, ?_, ?_, ?_, ?_⟩
    · cases b <;> simp [State.addF_eq, State.setF, State.setReg, State.setCore, State.progress, State.setStrand]
    · intro g' c' k' h
      cases b <;> simp [State.addF_eq, State.strand_setStrand_other s u h]
    · intro g' h
      cases b <;> simp [State.addF_eq, State.core_setCore_other _ _ h]
    · cases b <;> simp [State.addF_eq]
    · cases b <;> simp [State.addF_eq, IssueSlot.pass]
    · intro r h
      cases b
      · simp
      · simp only [State.progress_reg, State.setCore_reg, State.addF_eq, State.setF, if_true]
        rw [State.reg_setReg_other _ _ h]
        simp
  unfold State.issued
  simp only [State.setStrand_core]
  split
  · exact key true
  · exact key false

@[simp] theorem State.issued_strand (s : State) (g c k g' c' k' : Nat) :
    (s.issued g c k).strand g' c' k' = s.strand g' c' k' := by
  unfold State.issued
  simp only
  split <;> simp [State.addF_eq]

/-- A retired instruction that writes no register. -/
theorem State.retire_passes (s : State) (g c k : Nat) : s.Passes (s.retire g c k (s.strand g c k)) g c k :=
  ⟨by simp [State.retire], s.issued_only g c k _⟩

/-- A retired instruction that writes register r. -/
theorem State.retireRd_retires (s : State) (g c k r : Nat) (v : Word) :
    s.Retires (s.retireRd g c k r v) g c k r v := by
  refine ⟨?_, ?_, s.issued_only g c k _⟩
  · intro q
    have := Strand.rd_wr (s.strand g c k) r q v
    simp only [State.retireRd, State.retire, State.issued_strand, State.strand_setStrand_same, Strand.rd] at this ⊢
    split <;> split <;> simp_all
  · have := Strand.wr_eq (s.strand g c k) r v
    simp only [State.retireRd, State.retire, State.issued_strand, State.strand_setStrand_same]
    rw [this]

/-- A retired instruction of latency class B, whose register interlocks. -/
theorem State.retireB_retires (s : State) (g c k r : Nat) (v : Word) (n : Nat) :
    s.Retires (s.retireB g c k r v n) g c k r v := by
  have h := s.retireRd_retires g c k r v
  exact ⟨fun q => by rw [State.retireB, State.interlock, State.setCore_strand]; exact h.value q,
    by rw [State.retireB, State.interlock, State.setCore_strand]; exact h.strand, h.frame.slot_change _ rfl⟩

/-- A jump inside the block. -/
theorem State.jump_goes (s : State) (g c k : Nat) (z : Int) (u : Strand)
    (h : 0 ≤ z ∧ z ≤ ((s.ctx g c).blk u.block).lenM1) :
    (s.jump g c k z u).strand g c k = { u with pc := z.toNat } ∧ s.OnlyStrand (s.jump g c k z u) g c k := by
  unfold State.jump
  rw [if_pos h]
  exact ⟨by simp [State.yieldSlot], (s.issued_only g c k _).slot_change _ rfl⟩

/-- A field of another register, or of another bit range, through setF. -/
theorem State.f_setF_ne (s : State) (x y : Fld) (v i j k i' j' k' : Nat)
    (h : (⟨y.reg, i', j', k'⟩ : Reg) ≠ ⟨x.reg, i, j, k⟩ ∨ y.lo + y.len ≤ x.lo ∨ x.lo + x.len ≤ y.lo) :
    (s.setF x v i j k).f y i' j' k' = s.f y i' j' k' := by
  rcases h with h | h
  · exact s.f_setF_reg x y v i j k i' j' k' h
  · exact s.f_setF_bits x y v i j k i' j' k' h

theorem State.reg_setF_other (s : State) (x : Fld) (v i j k : Nat) {r : Reg} (h : r ≠ ⟨x.reg, i, j, k⟩) :
    (s.setF x v i j k).reg r = s.reg r := by
  unfold State.setF; exact s.reg_setReg_other _ h

theorem State.reg_event_other (s : State) (x : Fld) (n i j : Nat) {r : Reg} (h : r ≠ ⟨x.reg, i, j, 0⟩) :
    (s.event x n i j).reg r = s.reg r := by
  rw [State.reg_event]; exact s.reg_setF_other _ _ _ _ _ h

/-! ### Faults -/

/-- What the halt of a fault is: the halt registers of the context, and which cores its halt has reached. -/
theorem State.haltBy_rest (s : State) (g c : Nat) :
    s.haltBy g c = { s with regs := (s.haltBy g c).regs, mctx := (s.haltBy g c).mctx, freeCtr := (s.haltBy g c).freeCtr } := by
  unfold State.haltBy
  dsimp only
  split
  · split
    · rfl
    · split <;> rfl
  · rfl

@[simp] theorem State.haltBy_fb (s : State) (g c : Nat) : (s.haltBy g c).fb F.CORE_CTX_HALT_HALTED c = true := by
  unfold State.haltBy
  dsimp only
  split
  · next h =>
    split
    · exact h
    · split
      · rw [State.fb_setF_bits _ _ _ _ _ _ _ _ _ _ (by decide)]; simpa using h
      · simpa using h
  · rw [State.setMod_fb, State.fb_setF_bits _ _ _ _ _ _ _ _ _ _ (by decide), State.fb_setF_one _ _ _ _ _ (by decide) rfl]

theorem State.haltBy_core (s : State) (g c : Nat) (h : s.fb F.CORE_CTX_HALT_HALTED c = false) :
    (s.haltBy g c).f F.CORE_CTX_HALT_CORE c = g % 256 := by
  unfold State.haltBy
  dsimp only
  rw [if_neg (by simp [h]), State.setMod_f, State.f_setF_same _ _ _ _ _ _ (by decide)]
  norm_num

theorem State.haltBy_f (s : State) (g c : Nat) (y : Fld) (i j k : Nat) (h : y.reg ≠ .CORE_CTX_HALT) :
    (s.haltBy g c).f y i j k = s.f y i j k := by
  unfold State.haltBy
  dsimp only
  split
  · split
    · rfl
    · split
      · rw [State.f_setF_name _ _ _ _ _ _ _ _ _ _ h]; simp
      · simp
  · rw [State.setMod_f, State.f_setF_name _ _ _ _ _ _ _ _ _ _ h, State.f_setF_name _ _ _ _ _ _ _ _ _ _ h]

theorem State.haltBy_reg (s : State) (g c : Nat) {r : Reg} (h : r ≠ ⟨.CORE_CTX_HALT, c, 0, 0⟩) :
    (s.haltBy g c).reg r = s.reg r := by
  unfold State.haltBy
  dsimp only
  split
  · split
    · rfl
    · split
      · rw [State.reg_setF_other _ _ _ _ _ _ h]; simp
      · simp
  · rw [State.setMod_reg, State.reg_setF_other _ _ _ _ _ _ h, State.reg_setF_other _ _ _ _ _ _ h]

theorem State.haltBy_mod (s : State) (g c c' : Nat) (h : c' ≠ c) : (s.haltBy g c).mod c' = s.mod c' := by
  unfold State.haltBy
  dsimp only
  split
  · split
    · rfl
    · split <;> simp [State.mod_setMod_other _ _ h]
  · rw [State.mod_setMod_other _ _ h]; simp

/-- The core that faults is halted at once. -/
theorem State.haltBy_reached (s : State) (g c : Nat) : (s.haltBy g c).haltReached g c = true := by
  unfold State.haltBy
  dsimp only
  split
  · split
    · next h => simp [State.haltReached, h]
    · split <;> simp [State.haltReached]
  · simp [State.haltReached]

theorem State.event_one (s : State) (x : Fld) (i j : Nat) (h : x.lo + x.len ≤ 64) (h1 : x.len = 1) :
    (s.event x 0 i j).fb x i j = true := by
  have := s.event_set x 0 i j h (by omega)
  have hl : (s.event x 0 i j).f x i j < 2 := by
    simp only [State.f, bits, bitsN, h1]; omega
  simp only [bitN, bitsN] at this
  simp only [State.fb]
  simp at this ⊢
  omega

/-! What raiseAt writes. -/

theorem State.raiseAt_code (s : State) (g c code : Nat) (w : Nat × Nat × Nat) (addr : Option Nat) :
    (s.raiseAt g c code (some w) addr).f F.CORE_FAULT_CODE g c = code % 256 := by
  simp only [State.raiseAt, State.free, Option.getD_some]
  simp (disch := decide) only [State.f_event_name, State.haltBy_f, State.f_setF_name, State.useFree_f, State.f_setF_bits,
    State.f_setF_same]
  norm_num

theorem State.raiseAt_strand (s : State) (g c code : Nat) (w : Nat × Nat × Nat) (addr : Option Nat) :
    (s.raiseAt g c code (some w) addr).f F.CORE_FAULT_STRAND g c = w.1 % 8 := by
  simp only [State.raiseAt, State.free, Option.getD_some]
  simp (disch := decide) only [State.f_event_name, State.haltBy_f, State.f_setF_name, State.useFree_f, State.f_setF_bits,
    State.f_setF_same]
  norm_num

theorem State.raiseAt_block (s : State) (g c code : Nat) (w : Nat × Nat × Nat) (addr : Option Nat) :
    (s.raiseAt g c code (some w) addr).f F.CORE_FAULT_BLOCK g c = w.2.1 % 512 := by
  simp only [State.raiseAt, State.free, Option.getD_some]
  simp (disch := decide) only [State.f_event_name, State.haltBy_f, State.f_setF_name, State.useFree_f, State.f_setF_bits,
    State.f_setF_same]
  norm_num

theorem State.raiseAt_index (s : State) (g c code : Nat) (w : Nat × Nat × Nat) (addr : Option Nat) :
    (s.raiseAt g c code (some w) addr).f F.CORE_FAULT_INDEX g c = w.2.2 % 4096 := by
  simp only [State.raiseAt, State.free, Option.getD_some]
  simp (disch := decide) only [State.f_event_name, State.haltBy_f, State.f_setF_name, State.useFree_f, State.f_setF_same]
  norm_num

theorem State.raiseAt_addr (s : State) (g c code : Nat) (w : Option (Nat × Nat × Nat)) (a : Nat) :
    (s.raiseAt g c code w (some a)).f F.CORE_FAULT_ADDR_ADDR g c = a % 2 ^ 64 := by
  simp only [State.raiseAt, State.free, Option.getD_some]
  simp (disch := decide) only [State.f_event_name, State.haltBy_f, State.f_setF_same]

theorem State.raiseAt_halted (s : State) (g c code : Nat) (w : Option (Nat × Nat × Nat)) (addr : Option Nat) :
    (s.raiseAt g c code w addr).fb F.CORE_CTX_HALT_HALTED c = true := by
  simp only [State.raiseAt, State.free]
  rw [State.fb, State.f_event_name _ _ _ _ _ _ _ _ _ (by decide)]
  exact State.haltBy_fb _ _ _

theorem State.raiseAt_event (s : State) (g c code : Nat) (w : Option (Nat × Nat × Nat)) (addr : Option Nat) :
    (s.raiseAt g c code w addr).fb F.CORE_EVENT_FAULT g c = true := by
  simp only [State.raiseAt, State.free]
  rw [State.fb, State.f_event_name _ _ _ _ _ _ _ _ _ (by decide), State.haltBy_f _ _ _ _ _ _ _ (by decide)]
  exact State.event_one _ _ _ _ (by decide) rfl

theorem State.raiseAt_shared (s : State) (g c code : Nat) (w : Option (Nat × Nat × Nat)) (addr : Option Nat) (h : c < 4) :
    bitN ((s.raiseAt g c code w addr).f F.CORE_FAULT_EVENT_FAULT) c = true := by
  simp only [State.raiseAt, State.free]
  exact State.event_set _ _ _ _ _ (by decide) h

theorem State.raiseAt_core (s : State) (g c code : Nat) (w : Option (Nat × Nat × Nat)) (addr : Option Nat)
    (h : s.fb F.CORE_CTX_HALT_HALTED c = false) : (s.raiseAt g c code w addr).f F.CORE_CTX_HALT_CORE c = g % 256 := by
  simp only [State.raiseAt, State.free]
  rw [State.f_event_name _ _ _ _ _ _ _ _ _ (by decide), State.haltBy_core]
  simp only [State.fb] at h ⊢
  simp (disch := decide) only [State.f_event_name, State.f_setF_name, State.useFree_f]
  exact h

theorem State.event_rest (s : State) (x : Fld) (n i j : Nat) :
    s.event x n i j = { s with regs := (s.event x n i j).regs, msixPend := (s.event x n i j).msixPend, out := (s.event x n i j).out } := by
  obtain ⟨q, o, h⟩ := State.event_eq s x n i j
  rw [h]
  rfl

/-- The components that raiseAt leaves alone. -/
theorem State.raiseAt_rest (s : State) (g c code : Nat) (w : Option (Nat × Nat × Nat)) (addr : Option Nat) :
    let t := s.raiseAt g c code w addr
    t = { s with regs := t.regs, mctx := t.mctx, msixPend := t.msixPend, out := t.out, freeCtr := t.freeCtr } := by
  simp only [State.raiseAt, State.free]
  rw [State.event_rest, State.haltBy_rest, State.event_rest]
  rfl

theorem State.raiseAt_mod (s : State) (g c code : Nat) (w : Option (Nat × Nat × Nat)) (addr : Option Nat) (c' : Nat)
    (h : c' ≠ c) : (s.raiseAt g c code w addr).mod c' = s.mod c' := by
  simp only [State.raiseAt, State.free]
  rw [State.event_mod, State.haltBy_mod _ _ _ _ h, State.event_mod]
  simp

theorem State.raiseAt_reached (s : State) (g c code : Nat) (w : Option (Nat × Nat × Nat)) (addr : Option Nat) :
    (s.raiseAt g c code w addr).haltedOn g c = true := by
  have h := s.raiseAt_halted g c code w addr
  have hr : (s.raiseAt g c code w addr).haltReached g c = true := by
    simp only [State.raiseAt, State.free]
    simp only [State.haltReached, State.event_mod, State.event_clk]
    exact State.haltBy_reached _ g c
  simp [State.haltedOn, h, hr]

theorem State.raiseAt_reg (s : State) (g c code : Nat) (w : Option (Nat × Nat × Nat)) (addr : Option Nat) (r : Reg)
    (h : r ∉ [⟨.CORE_FAULT, g, c, 0⟩, ⟨.CORE_FAULT_ADDR, g, c, 0⟩, ⟨.CORE_EVENT, g, c, 0⟩, ⟨.CORE_CTX_HALT, c, 0, 0⟩,
      ⟨.CORE_FAULT_EVENT, 0, 0, 0⟩]) : (s.raiseAt g c code w addr).reg r = s.reg r := by
  simp only [List.mem_cons, List.not_mem_nil, or_false, not_or] at h
  obtain ⟨h1, h2, h3, h4, h5⟩ := h
  simp only [State.raiseAt, State.free]
  rw [State.reg_event_other _ _ _ _ _ h5, State.haltBy_reg _ _ _ h4, State.reg_event_other _ _ _ _ _ h3,
    State.reg_setF_other _ _ _ _ _ _ h2]
  simp only [State.useFree_reg]
  rw [State.reg_setF_other _ _ _ _ _ _ h1, State.reg_setF_other _ _ _ _ _ _ h1, State.reg_setF_other _ _ _ _ _ _ h1,
    State.reg_setF_other _ _ _ _ _ _ h1, State.useFree_reg]

/-- A fault of the instruction at strand k's pc. -/
theorem State.raise_faults (s : State) (g c k code : Nat) (addr : Option Nat) :
    s.Faults (s.raise g c k code addr) g c k code := by
  have hr := s.raiseAt_rest g c code (some (k, (s.strand g c k).block, (s.strand g c k).pc)) addr
  refine ⟨s.raiseAt_code _ _ _ _ _, s.raiseAt_strand _ _ _ _ _, s.raiseAt_block _ _ _ _ _, s.raiseAt_index _ _ _ _ _,
    s.raiseAt_halted _ _ _ _ _, s.raiseAt_event _ _ _ _ _, s.raiseAt_shared _ _ _ _ _, by simp [State.raise], ?_, ?_, ?_, ?_, ?_⟩
  · intro g' c' k' h
    simp only [State.raise]
    rw [State.strand_setStrand_other _ _ h, hr]
    rfl
  · simp only [State.raise, State.setStrand]
    rw [hr]
  · intro c' h
    simp only [State.raise, State.setStrand_mod]
    exact s.raiseAt_mod g c code _ addr c' h
  · have := s.raiseAt_reached g c code (some (k, (s.strand g c k).block, (s.strand g c k).pc)) addr
    simpa only [State.raise, State.haltedOn, State.haltReached, State.setStrand_fb, State.setStrand_mod, State.setStrand_clk]
      using this
  · intro r h
    simp only [State.raise, State.setStrand_reg]
    exact s.raiseAt_reg g c code _ addr r h

end Sys2Proof.Machine
end

