-- ==== Sys2Proof/Laws/KeptBase.lean ====
section
/-! SUPPORT. What no command undoes, as one relation between the state before and after, and how it passes through the
shapes that the meanings are written in. -/

namespace Sys2Proof.Machine

/-- From a to t the queue is untouched, soundness is kept, no free value is used twice, and no fused minimum falls. -/
structure Kept (a t : State) : Prop where
  pending : t.pending = a.pending
  sound : a.Sound → t.Sound
  free : a.freeCtr ≤ t.freeCtr
  svn : ∀ k, SMap.get 0 a.stw.svn k ≤ SMap.get 0 t.stw.svn k

namespace Kept

theorem refl (a : State) : Kept a a := ⟨rfl, id, Nat.le_refl _, fun _ => Nat.le_refl _⟩

theorem trans {a b c : State} (h : Kept a b) (h' : Kept b c) : Kept a c :=
  ⟨h'.pending.trans h.pending, fun i => h'.sound (h.sound i), Nat.le_trans h.free h'.free,
    fun k => Nat.le_trans (h.svn k) (h'.svn k)⟩

/-- A change of other fields. -/
theorem same {a s t : State} (h : Kept a s) (h1 : t.pending = s.pending) (h2 : t.mem = s.mem) (h3 : t.poison = s.poison)
    (h4 : t.clk.frame = s.clk.frame) (h6 : t.freeCtr = s.freeCtr) (h7 : t.stw.svn = s.stw.svn) : Kept a t :=
  ⟨h1.trans h.pending, fun i => ⟨h2 ▸ (h.sound i).mem, h3 ▸ (h.sound i).poison, h4 ▸ (h.sound i).frame⟩,
   h6 ▸ h.free, fun k => h7 ▸ h.svn k⟩

/-- A change of other fields, of a state written out. -/
theorem lit {a s : State} {pending : List Instr} {regs : SMap Reg Word} {clk : Clock} {owner : SMap Nat Nat} {mem : Mem}
    {poison : List Nat} {msix : SMap (Nat × Nat) Nat} {msixPend : List (Nat × Nat)} {mctx : SMap Nat ModCtx}
    {ctxs : SMap (Nat × Nat) Ctx} {watch : SMap (Nat × Nat) Nat} {stalled : List (Nat × Nat)}
    {strands : SMap (Nat × Nat × Nat) Strand} {cores : SMap Nat Core} {unseen : SMap Nat (List Unseen)}
    {waits : SMap (Nat × Nat) (List WaitEnt)} {tags : SMap (Nat × Nat × Nat) ColTag}
    {brackets : SMap (Nat × Nat × Nat) (Option Bracket)} {accs : SMap (Nat × Nat × Nat) (SMap Nat Nat)}
    {accSrc : SMap (Nat × Nat × Nat) (Option AccSrc)} {hops : SMap (Nat × Nat × Nat) Hop} {chans : SMap (Nat × Nat) Chan}
    {trn : SMap Nat Trn} {segs : SMap (Nat × Nat) Seg} {transit : List TrvMsg} {msgs : List Msg}
    {sflows : SMap Nat (Option SFlow)} {epochs : SMap Nat Nat} {rflows : List RFlow} {tag : Nat}
    {netWait : List (Option Nat × Packet)} {flowWait : List (FlowKey × List TxPkt)} {colEnts : List ColEnt}
    {colRels : List ColRel} {colHist : SMap Nat (List (Nat × Bool))} {colPoll : SMap Nat Nat}
    {granted : List (Nat × Option Nat)} {lendRel : List Nat} {paused : List Nat} {pausing : List Nat}
    {linkDown : SMap Nat (Option Nat)} {txns : SMap Nat Txn} {txnOrder : Nat} {stw : Steward} {pwr : Power}
    {svcs : SMap Nat Svc} {perst : List Nat} {fns : SMap Nat PcieFn} {straps : Nat} {cycles : Cycles} {lendAt : SMap Nat Nat}
    {lendPtr : SMap Nat Nat} {lendNew : SMap Nat (Option Word)} {slices : SMap Nat Nat} {sliceFrame : SMap Nat (Nat × Nat)}
    {scrubAt : Nat} {loopback : Option Loopback} {weak : SMap (Nat × Nat) Nat} {repairDue : List Fail} {badInstr : List Nat}
    {badAcc : List (Nat × Nat × Nat)} {ueAt : Option Nat} {ceAt : Option Nat} {wback : List (Nat × Nat)} {out : List Out}
    {freeCtr : Nat}
    (h : Kept a s) (h1 : pending = s.pending) (h2 : mem = s.mem) (h3 : poison = s.poison)
    (h4 : clk.frame = s.clk.frame) (h6 : freeCtr = s.freeCtr) (h7 : stw.svn = s.stw.svn) :
    Kept a ⟨pending, regs, clk, owner, mem, poison, msix, msixPend, mctx, ctxs, watch, stalled, strands, cores, unseen, waits,
      tags, brackets, accs, accSrc, hops, chans, trn, segs, transit, msgs, sflows, epochs, rflows, tag, netWait, flowWait,
      colEnts, colRels, colHist, colPoll, granted, lendRel, paused, pausing, linkDown, txns, txnOrder, stw, pwr, svcs,
      perst, fns, straps, cycles, lendAt, lendPtr, lendNew, slices, sliceFrame, scrubAt, loopback, weak, repairDue,
      badInstr, badAcc, ueAt, ceAt, wback, out, freeCtr⟩ :=
  h.same h1 h2 h3 h4 h6 h7

/-- A state that lies between. -/
theorem cut {a t x : State} (h : Kept a x) (f : Kept a x → Kept a t) : Kept a t := f h

theorem ite {a x y : State} {c : Prop} {_ : Decidable c} (hx : Kept a x) (hy : Kept a y) : Kept a (if c then x else y) := by
  split <;> assumption

/-- The state of a pair whose value a match names. -/
theorem snd {a t : State} {α : Type} {p : α × State} {v : α} (h : p = (v, t)) (hp : Kept a p.2) : Kept a t := by
  subst h; exact hp

theorem fst {a t : State} {α : Type} {p : State × α} {v : α} (h : p = (t, v)) (hp : Kept a p.1) : Kept a t := by
  subst h; exact hp

theorem foldl {a : State} {β : Type} (f : State → β → State) (hf : ∀ s b, Kept a s → Kept a (f s b)) (l : List β) :
    ∀ s : State, Kept a s → Kept a (l.foldl f s) := by
  induction l with
  | nil => exact fun _ h => h
  | cons b l ih => exact fun s h => ih _ (hf s b h)

theorem foldl2 {a : State} {α β : Type} (f : α × State → β → α × State) (hf : ∀ p b, Kept a p.2 → Kept a (f p b).2)
    (l : List β) : ∀ p : α × State, Kept a p.2 → Kept a (l.foldl f p).2 := by
  induction l with
  | nil => exact fun _ h => h
  | cons b l ih => exact fun p h => ih _ (hf p b h)

theorem iter {a : State} (n : Nat) (f : Nat → State → State) (s : State) (hf : ∀ i s, Kept a s → Kept a (f i s))
    (h : Kept a s) : Kept a (Machine.iter n f s) :=
  foldl _ (fun s i h => hf i s h) _ s h

end Kept

/-- A granule put into a rising list leaves it rising. -/
theorem mem_poisonInsert {q x : Nat} : ∀ {l : List Nat}, x ∈ poisonInsert q l → x = q ∨ x ∈ l
  | [], h => by simpa [poisonInsert] using h
  | p :: ps, h => by
    unfold poisonInsert at h
    split at h
    · simpa using h
    · split at h
      · exact .inr h
      · rcases List.mem_cons.1 h with e | e
        · exact .inr (e ▸ List.mem_cons_self ..)
        · exact (mem_poisonInsert e).imp id (List.mem_cons_of_mem _)

theorem pairwise_poisonInsert (q : Nat) : ∀ l : List Nat, l.Pairwise (· < ·) → (poisonInsert q l).Pairwise (· < ·)
  | [], _ => List.pairwise_singleton ..
  | p :: ps, h => by
    have h' := List.pairwise_cons.1 h
    unfold poisonInsert
    split
    · exact List.pairwise_cons.2 ⟨fun x hx => by
        rcases List.mem_cons.1 hx with e | e
        · omega
        · have := h'.1 x e; omega, h⟩
    · split
      · exact h
      · exact List.pairwise_cons.2 ⟨fun x hx => by
          rcases mem_poisonInsert hx with e | e
          · omega
          · exact h'.1 x e, pairwise_poisonInsert q ps h'.2⟩

/-- Every next state of an outcome is kept. -/
def KeptO (a : State) (o : Host.Outcome State Fault Refusal) : Prop := ∀ t, o = .next t → Kept a t

namespace KeptO

theorem cut {a x : State} {o : Host.Outcome State Fault Refusal} (h : Kept a x) (f : Kept a x → KeptO a o) : KeptO a o := f h
theorem next {a s : State} (h : Kept a s) : KeptO a (.next s) := fun _ e => by cases e; exact h
theorem fault {a : State} {r : Fault} : KeptO a (.fault r) := fun _ e => by cases e
theorem refused {a : State} {r : Refusal} : KeptO a (.refused r) := fun _ e => by cases e
theorem ite {a : State} {x y : Host.Outcome State Fault Refusal} {c : Prop} {_ : Decidable c} (hx : KeptO a x) (hy : KeptO a y) :
    KeptO a (if c then x else y) := by
  split <;> assumption

theorem andThen {a : State} {o : Host.Outcome State Fault Refusal} {f : State → Host.Outcome State Fault Refusal}
    (h : KeptO a o) (hf : ∀ s, Kept a s → KeptO a (f s)) : KeptO a (andThen o f) := by
  cases o with
  | next s => exact hf s (h s rfl)
  | fault r => exact fault
  | refused r => exact refused

end KeptO
end Sys2Proof.Machine
end

