-- ==== Sys2Proof/Laws/KeptCore.lean ====
section
/-! SUPPORT. `Kept` through the cores: registers, issue, firing, memory accesses, spurs, loans, cols, training steps. -/

namespace Sys2Proof.Machine

/-! ### Machine/Ops.lean -/

theorem State.setReg_kept {a : State} (s : State) (r : Reg) (w : Word) (h : Kept a s) : Kept a (s.setReg r w) := h.same rfl rfl rfl rfl rfl rfl

theorem State.setF_kept {a : State} (s : State) (x : Fld) (v : Nat) (i j k : optParam Nat 0) (h : Kept a s) :
    Kept a (State.setF s x v i j k) :=
  h.same rfl rfl rfl rfl rfl rfl

theorem State.addF_kept {a : State} (s : State) (x : Fld) (n : Nat) (i j k : optParam Nat 0) (h : Kept a s) :
    Kept a (State.addF s x n i j k) :=
  h.same rfl rfl rfl rfl rfl rfl

theorem State.addSatF_kept {a : State} (s : State) (x : Fld) (n : Nat) (i j k : optParam Nat 0) (h : Kept a s) :
    Kept a (State.addSatF s x n i j k) :=
  h.same rfl rfl rfl rfl rfl rfl

theorem State.setFn_kept {a : State} (s : State) (p : Nat) (x : PcieFn) (h : Kept a s) :
    Kept a (State.setFn s p x) := by
  unfold State.setFn
  repeat' first
    | with_reducible assumption
    | (with_reducible refine Kept.lit ?_ rfl rfl rfl rfl rfl rfl
       first
         | with_reducible assumption
         | with_reducible refine Kept.ite ?_ ?_)

theorem State.msixSend_kept {a : State} (s : State) (p v : Nat) (h : Kept a s) : Kept a (State.msixSend s p v) := by
  unfold State.msixSend
  repeat' first
    | with_reducible first | assumption | refine Kept.ite ?_ ?_
    | (with_reducible refine Kept.lit ?_ rfl rfl rfl rfl rfl rfl; with_reducible assumption)

theorem State.blockVector_kept {a : State} (s : State) (v : Nat) (h : Kept a s) : Kept a (State.blockVector s v) := by
   unfold State.blockVector; apply_rules [State.msixSend_kept, Kept.ite]

theorem State.vectorIfRisen_kept {a : State} (s : State) (before : Bool) (r : RegName) (h : Kept a s) :
    Kept a (State.vectorIfRisen s before r) := by
  unfold State.vectorIfRisen
  repeat' first
    | with_reducible first | assumption | apply State.blockVector_kept
    | split

theorem State.event_kept {a : State} (s : State) (x : Fld) (n i j : optParam Nat 0) (h : Kept a s) :
    Kept a (State.event s x n i j) := by
  unfold State.event
  repeat' first
    | with_reducible first | assumption | apply State.vectorIfRisen_kept | apply State.setF_kept

theorem State.setCtx_kept {a : State} (s : State) (g c : Nat) (x : Ctx) (h : Kept a s) : Kept a (State.setCtx s g c x) :=
  h.same rfl rfl rfl rfl rfl rfl

theorem State.setStrand_kept {a : State} (s : State) (g c k : Nat) (x : Strand) (h : Kept a s) :
    Kept a (State.setStrand s g c k x) :=
  h.same rfl rfl rfl rfl rfl rfl

theorem State.setCore_kept {a : State} (s : State) (g : Nat) (x : Core) (h : Kept a s) : Kept a (State.setCore s g x) :=
  h.same rfl rfl rfl rfl rfl rfl

theorem State.setMod_kept {a : State} (s : State) (c : Nat) (x : ModCtx) (h : Kept a s) : Kept a (State.setMod s c x) :=
  h.same rfl rfl rfl rfl rfl rfl

theorem State.useFree_kept {a : State} (s : State) (n : Nat) (h : Kept a s) : Kept a (s.useFree n) :=
  ⟨h.pending, fun i => ⟨(h.sound i).mem, (h.sound i).poison, (h.sound i).frame⟩, Nat.le_add_right_of_le h.free, h.svn⟩

theorem State.free_kept {a : State} (s : State) (h : Kept a s) : Kept a (State.free s).2 := by
   unfold State.free; apply_rules [State.useFree_kept]

theorem State.write_kept {a : State} (s : State) (key : Nat) (bs : List Byte) (h : Kept a s) : Kept a (s.write key bs) :=
  ⟨h.pending, fun i => ⟨mem_wf_write _ _ _ (h.sound i).mem, (h.sound i).poison.filter _, (h.sound i).frame⟩, h.free, h.svn⟩

theorem State.poisonAt_kept {a : State} (s : State) (key n : Nat) (h : Kept a s) : Kept a (s.poisonAt key n) := by
  refine ⟨h.pending, fun i => ⟨(h.sound i).mem, ?_, (h.sound i).frame⟩, h.free, h.svn⟩
  show List.Pairwise (· < ·) (List.foldl _ _ _)
  generalize List.range _ = l
  have := (h.sound i).poison
  generalize s.poison = m at this
  induction l generalizing m with
  | nil => exact this
  | cons b l ih => exact ih _ (pairwise_poisonInsert _ _ this)

theorem State.writeN_kept {a : State} (s : State) (key n v : Nat) (h : Kept a s) : Kept a (State.writeN s key n v) := by
   unfold State.writeN; apply_rules [State.write_kept]

theorem State.haltBy_kept {a : State} (s : State) (g : Nat) (c : Nat) (h : Kept a s) :
    Kept a (State.haltBy s g c) := by
  unfold State.haltBy
  repeat' first
    | with_reducible assumption
    | with_reducible refine State.setMod_kept _ _ _ ?_
    | with_reducible refine State.useFree_kept _ _ ?_
    | with_reducible refine State.setF_kept _ _ _ _ _ _ ?_
    | with_reducible refine Kept.ite ?_ ?_
    | split

theorem State.raiseAt_kept {a : State} (s : State) (g : Nat) (c : Nat) (code : Nat) (who : Option (Nat × Nat × Nat)) (addr : Option Nat) (h : Kept a s) :
    Kept a (State.raiseAt s g c code who addr) := by
  unfold State.raiseAt
  repeat' first
    | with_reducible assumption
    | with_reducible refine State.free_kept _ ?_
    | with_reducible refine State.setF_kept _ _ _ _ _ _ ?_
    | with_reducible refine State.event_kept _ _ _ _ _ ?_
    | with_reducible refine State.haltBy_kept _ _ _ ?_

theorem State.raise_kept {a : State} (s : State) (g c k code : Nat) (addr : optParam (Option Nat) none) (h : Kept a s) :
    Kept a (State.raise s g c k code addr) := by
   unfold State.raise; apply_rules [State.setStrand_kept, State.raiseAt_kept]

theorem State.raiseOp_kept {a : State} (s : State) (g c k fid block index code : Nat) (addr : optParam (Option Nat) none) (h : Kept a s) :
    Kept a (State.raiseOp s g c k fid block index code addr) := by
   unfold State.raiseOp; apply_rules [State.raiseAt_kept, State.setStrand_kept, Kept.ite]

theorem State.progress_kept {a : State} (s : State) (g c : Nat) (h : Kept a s) : Kept a (State.progress s g c) :=
  h.same rfl rfl rfl rfl rfl rfl

theorem State.token_kept {a : State} (s : State) (g c t n : Nat) (h : Kept a s) : Kept a (State.token s g c t n) := by
  unfold State.token
  repeat' first
    | with_reducible first | assumption | apply State.raiseAt_kept | apply State.setF_kept
        | apply State.progress_kept | refine Kept.ite ?_ ?_

/-! ### Machine/Noine.lean -/

theorem State.sendOn_kept {a : State} (s : State) (l : Nat) (p : Packet) (h : Kept a s) : Kept a (State.sendOn s l p) :=
  h.same rfl rfl rfl rfl rfl rfl

theorem State.send_kept {a : State} (s : State) (l : Option Nat) (p : Packet) (h : Kept a s) :
    Kept a (State.send s l p) := by
  unfold State.send
  repeat' first
    | with_reducible assumption
    | with_reducible refine State.sendOn_kept _ _ _ ?_
    | split
    | (with_reducible refine Kept.lit ?_ rfl rfl rfl rfl rfl rfl
       first
         | with_reducible assumption
         | with_reducible refine State.sendOn_kept _ _ _ ?_)

theorem State.netFlush_kept {a : State} (s : State) (h : Kept a s) :
    Kept a (State.netFlush s) := by
  unfold State.netFlush
  repeat' first
    | with_reducible assumption
    | with_reducible refine State.send_kept _ _ _ ?_
    | with_reducible intro _ _ _
    | (with_reducible refine Kept.lit ?_ rfl rfl rfl rfl rfl rfl
       first
         | with_reducible assumption
         | with_reducible refine State.send_kept _ _ _ ?_
         | with_reducible refine Kept.ite ?_ ?_
         | with_reducible refine Kept.foldl _ ?_ _ _ ?_)

theorem State.emit_kept {a : State} (s : State) (p : Packet) (h : Kept a s) :
    Kept a (State.emit s p) := by
  unfold State.emit
  repeat' first
    | with_reducible assumption
    | with_reducible refine State.send_kept _ _ _ ?_

theorem State.setSFlow_kept {a : State} (s : State) (f : Nat) (x : Option SFlow) (h : Kept a s) :
    Kept a (State.setSFlow s f x) :=
  h.same rfl rfl rfl rfl rfl rfl

theorem State.setRFlow_kept {a : State} (s : State) (r : RFlow) (h : Kept a s) : Kept a (State.setRFlow s r) := by
  unfold State.setRFlow
  repeat' first
    | with_reducible first | assumption | refine Kept.ite ?_ ?_
    | (with_reducible refine Kept.lit ?_ rfl rfl rfl rfl rfl rfl; with_reducible assumption)

theorem State.pfcPort_kept {a : State} (s : State) (p : Nat) (h : Kept a s) :
    Kept a (State.pfcPort s p) := by
  unfold State.pfcPort
  repeat' first
    | with_reducible assumption
    | (with_reducible refine Kept.lit ?_ rfl rfl rfl rfl rfl rfl
       first
         | with_reducible assumption
         | with_reducible refine Kept.ite ?_ ?_)

theorem State.pfcAll_kept {a : State} (s : State) (h : Kept a s) :
    Kept a (State.pfcAll s) := by
  unfold State.pfcAll
  repeat' first
    | with_reducible assumption
    | with_reducible refine State.pfcPort_kept _ _ ?_
    | with_reducible intro _ _ _
    | with_reducible refine Kept.iter _ _ _ ?_ ?_

theorem State.newFlow_kept {a : State} (s : State) (f : Nat) (k : FlowKey) (h : Kept a s) :
    Kept a (State.newFlow s f k) :=
  h.same rfl rfl rfl rfl rfl rfl

theorem State.flowPush_kept {a : State} (s : State) (f : Nat) (ps : List TxPkt) (h : Kept a s) :
    Kept a (State.flowPush s f ps) := by
  unfold State.flowPush
  repeat' first
    | with_reducible first | assumption | apply State.setSFlow_kept
    | split

theorem State.flowFill_kept {a : State} (s : State) (f : Nat) (h : Kept a s) :
    Kept a (State.flowFill s f) := by
  unfold State.flowFill
  repeat' first
    | with_reducible assumption
    | with_reducible refine State.newFlow_kept _ _ _ ?_
    | with_reducible refine State.flowPush_kept _ _ _ ?_
    | split
    | (with_reducible refine Kept.lit ?_ rfl rfl rfl rfl rfl rfl
       first
         | with_reducible assumption
         | with_reducible refine State.newFlow_kept _ _ _ ?_)

theorem State.flowDrop_kept {a : State} (s : State) (f : Nat) (h : Kept a s) :
    Kept a (State.flowDrop s f) := by
  unfold State.flowDrop
  repeat' first
    | with_reducible assumption
    | with_reducible refine State.setSFlow_kept _ _ _ ?_
    | with_reducible refine State.flowFill_kept _ _ ?_
    | with_reducible refine State.pfcAll_kept _ ?_
    | split
    | (with_reducible refine Kept.lit ?_ rfl rfl rfl rfl rfl rfl
       first
         | with_reducible assumption
         | with_reducible refine State.setSFlow_kept _ _ _ ?_
         | with_reducible refine State.flowFill_kept _ _ ?_)

theorem State.closeFlow_kept {a : State} (s : State) (f : Nat) (h : Kept a s) :
    Kept a (State.closeFlow s f) := by
  unfold State.closeFlow
  repeat' first
    | with_reducible assumption
    | with_reducible refine State.setSFlow_kept _ _ _ ?_
    | with_reducible refine State.flowPush_kept _ _ _ ?_
    | with_reducible refine State.flowDrop_kept _ _ ?_
    | with_reducible refine State.newFlow_kept _ _ _ ?_
    | with_reducible refine Kept.ite ?_ ?_
    | split

theorem State.flowSend_kept {a : State} (s : State) (k : FlowKey) (ps : List TxPkt) (h : Kept a s) :
    Kept a (State.flowSend s k ps) := by
  unfold State.flowSend
  repeat' first
    | with_reducible assumption
    | with_reducible refine State.flowPush_kept _ _ _ ?_
    | with_reducible refine State.newFlow_kept _ _ _ ?_
    | with_reducible refine State.closeFlow_kept _ _ ?_
    | (extract_lets +onlyGivenNames x1
       first
         | (refine Kept.cut (x := x1) ?_ ?_
            all_goals first | (with_reducible intro _; clear_value x1) | dsimp -zeta only [x1])
         | clear_value x1)
    | split
    | (with_reducible refine Kept.lit ?_ rfl rfl rfl rfl rfl rfl
       first
         | with_reducible assumption
         | with_reducible refine State.flowPush_kept _ _ _ ?_)

theorem State.ctrlSend_kept {a : State} (s : State) (node subtype aux : Nat) (payload : List Byte) (h : Kept a s) :
    Kept a (State.ctrlSend s node subtype aux payload) := by
   unfold State.ctrlSend; apply_rules [State.flowSend_kept]

theorem State.nextTag_kept {a : State} (s : State) (h : Kept a s) : Kept a (State.nextTag s).2 := by
  unfold State.nextTag
  repeat' first
    | with_reducible first | assumption
    | (with_reducible refine Kept.lit ?_ rfl rfl rfl rfl rfl rfl; with_reducible assumption)

/-! ### Machine/Kv.lean -/

theorem State.setSeg_kept {a : State} (s : State) (p i : Nat) (x : Seg) (h : Kept a s) : Kept a (State.setSeg s p i x) :=
  h.same rfl rfl rfl rfl rfl rfl

theorem State.freeWords_kept {a : State} (s : State) (p : Nat) (h : Kept a s) :
    Kept a (State.freeWords s p) := by
  unfold State.freeWords
  repeat' first
    | with_reducible assumption
    | with_reducible refine State.writeN_kept _ _ _ _ ?_
    | with_reducible refine Kept.ite ?_ ?_
    | with_reducible intro _ _ _
    | with_reducible refine Kept.iter _ _ _ ?_ ?_

theorem State.setFree_kept {a : State} (s : State) (p i n : Nat) (h : Kept a s) : Kept a (State.setFree s p i n) := by
  unfold State.setFree
  repeat' first
    | with_reducible first | assumption | apply State.setF_kept | apply State.writeN_kept | refine Kept.ite ?_ ?_

theorem State.countAdd_kept {a : State} (s : State) (g : Nat) (p : Nat) (i : Nat) (n : Nat) (d : Word) (h : Kept a s) : Kept a (State.countAdd s g p i n d).2 := by
  unfold State.countAdd
  repeat' first
    | with_reducible assumption
    | with_reducible refine State.setReg_kept _ _ _ ?_
    | with_reducible refine State.event_kept _ _ _ _ _ ?_
    | with_reducible refine State.addF_kept _ _ _ _ _ _ ?_
    | with_reducible refine State.writeN_kept _ _ _ _ ?_
    | with_reducible refine State.setSeg_kept _ _ _ _ ?_
    | (extract_lets +onlyGivenNames x1
       first
         | (refine Kept.cut (x := x1) ?_ ?_
            all_goals first | (with_reducible intro _; clear_value x1) | dsimp -zeta only [x1])
         | clear_value x1)
    | split

theorem State.allocPage_kept {a : State} (s : State) (p i reserve : Nat) (h : Kept a s) :
    Kept a (State.allocPage s p i reserve).2 := by
  unfold State.allocPage
  repeat' first
    | with_reducible first | assumption | apply State.setSeg_kept | apply State.writeN_kept | apply State.addF_kept
        | apply State.setFree_kept
    | (extract_lets +onlyGivenNames x1
       first
         | (refine Kept.cut (x := x1) ?_ ?_
            all_goals first | (with_reducible intro _; clear_value x1) | dsimp -zeta only [x1])
         | clear_value x1)
    | split

theorem State.allocWord_kept {a : State} (s : State) (c : Option Nat) (p : Nat) (i : Nat) (h : Kept a s) :
    Kept a (State.allocWord s c p i).2 := by
  unfold State.allocWord
  repeat' first
    | with_reducible assumption
    | with_reducible refine State.allocPage_kept _ _ _ _ ?_
    | with_reducible refine State.addF_kept _ _ _ _ _ _ ?_
    | split

theorem State.returnPages_kept {a : State} (s : State) (p i : Nat) (ns : List Nat) (h : Kept a s) :
    Kept a (State.returnPages s p i ns) := by
  unfold State.returnPages
  repeat' first
    | with_reducible first | assumption | apply State.writeN_kept | apply State.addF_kept | apply State.setFree_kept
        | intro _ _ _ | refine Kept.foldl _ ?_ _ _ ?_

theorem State.kvAction_kept {a : State} (s : State) (h : Kept a s) : Kept a (State.kvAction s) := by
  unfold State.kvAction
  repeat' first
    | with_reducible assumption
    | with_reducible refine State.setSeg_kept _ _ _ _ ?_
    | with_reducible refine State.setF_kept _ _ _ _ _ _ ?_
    | with_reducible refine State.returnPages_kept _ _ _ _ ?_
    | with_reducible refine State.event_kept _ _ _ _ _ ?_
    | with_reducible refine Kept.ite ?_ ?_
    | with_reducible intro _ _ _
    | with_reducible refine Kept.foldl _ ?_ _ _ ?_

theorem State.segStart_kept {a : State} (s : State) (p : Nat) (i : Nat) (h : Kept a s) :
    Kept a (State.segStart s p i) := by
  unfold State.segStart
  repeat' first
    | with_reducible assumption
    | with_reducible refine State.write_kept _ _ _ ?_
    | with_reducible refine State.setSeg_kept _ _ _ _ ?_
    | with_reducible refine State.setF_kept _ _ _ _ _ _ ?_
    | with_reducible refine State.setFree_kept _ _ _ _ ?_

theorem execSegmentReady_kept {a : State} (pool : Nat) (seg : Nat) (s : State) (h : Kept a s) :
    KeptO a (execSegmentReady pool seg s) := by
  unfold execSegmentReady
  repeat' first
    | with_reducible assumption
    | with_reducible refine State.setSeg_kept _ _ _ _ ?_
    | with_reducible refine State.setF_kept _ _ _ _ _ _ ?_
    | with_reducible refine KeptO.next ?_
    | with_reducible refine Kept.ite ?_ ?_

theorem execCountWordAtomic_kept {a : State} (g pool seg page : Nat) (delta : Word) (s : State) (h : Kept a s) :
    KeptO a (execCountWordAtomic g pool seg page delta s) := by
  unfold execCountWordAtomic
  repeat' first
    | with_reducible first | assumption | apply State.countAdd_kept | refine KeptO.ite ?_ ?_ | refine KeptO.next ?_

theorem execAllocationWordAtomic_kept {a : State} (pool : Nat) (seg : Nat) (s : State) (h : Kept a s) :
    KeptO a (execAllocationWordAtomic pool seg s) := by
  unfold execAllocationWordAtomic
  repeat' first
    | with_reducible assumption
    | with_reducible refine State.allocWord_kept _ _ _ _ ?_
    | with_reducible refine KeptO.next ?_
    | with_reducible refine KeptO.ite ?_ ?_

/-! ### Machine/Issue.lean -/

theorem State.issue_kept {a : State} (s : State) (g c k : Nat) (op : Op) (f : State → Dec → State) (h : Kept a s)
    (hf : ∀ s d, Kept a s → Kept a (f s d)) : Kept a (s.issue g c k op f) := by
  unfold State.issue
  split
  · exact h
  extract_lets t x b
  split
  · exact State.raise_kept _ _ _ _ _ _ h
  split
  · exact State.raise_kept _ _ _ _ _ _ h
  split
  · exact State.raise_kept _ _ _ _ _ _ h
  · split
    · exact h
    · split
      · exact h
      · exact hf _ _ h

theorem State.issued_kept {a : State} (s : State) (g c k : Nat) (h : Kept a s) : Kept a (State.issued s g c k) := by
  unfold State.issued
  repeat' first
    | with_reducible first | assumption | apply State.addF_kept | apply State.progress_kept
        | apply State.setCore_kept | refine Kept.ite ?_ ?_

theorem State.yieldSlot_kept {a : State} (s : State) (g : Nat) (h : Kept a s) :
    Kept a (State.yieldSlot s g) := by
  unfold State.yieldSlot
  repeat' first
    | with_reducible assumption
    | with_reducible refine State.setCore_kept _ _ _ ?_

theorem State.interlock_kept {a : State} (s : State) (g : Nat) (c : Nat) (k : Nat) (r : Nat) (n : Nat) (h : Kept a s) :
    Kept a (State.interlock s g c k r n) := by
  unfold State.interlock
  repeat' first
    | with_reducible assumption
    | with_reducible refine State.setCore_kept _ _ _ ?_

theorem State.retire_kept {a : State} (s : State) (g c k : Nat) (t : Strand) (h : Kept a s) :
    Kept a (State.retire s g c k t) := by
   unfold State.retire; apply_rules [State.issued_kept, State.setStrand_kept]

theorem State.retireRd_kept {a : State} (s : State) (g c k r : Nat) (v : Word) (h : Kept a s) :
    Kept a (State.retireRd s g c k r v) := by
   unfold State.retireRd; apply_rules [State.retire_kept]

theorem State.retireB_kept {a : State} (s : State) (g : Nat) (c : Nat) (k : Nat) (r : Nat) (v : Word) (n : Nat) (h : Kept a s) :
    Kept a (State.retireB s g c k r v n) := by
  unfold State.retireB
  repeat' first
    | with_reducible assumption
    | with_reducible refine State.retireRd_kept _ _ _ _ _ _ ?_
    | with_reducible refine State.interlock_kept _ _ _ _ _ _ ?_

theorem State.jump_kept {a : State} (s : State) (g : Nat) (c : Nat) (k : Nat) (target : Int) (t : Strand) (h : Kept a s) :
    Kept a (State.jump s g c k target t) := by
  unfold State.jump
  repeat' first
    | with_reducible assumption
    | with_reducible refine State.setStrand_kept _ _ _ _ _ ?_
    | with_reducible refine State.issued_kept _ _ _ _ ?_
    | with_reducible refine State.yieldSlot_kept _ _ ?_
    | with_reducible refine State.raise_kept _ _ _ _ _ _ ?_
    | with_reducible refine Kept.ite ?_ ?_

theorem State.freeStrand_kept {a : State} (s : State) (g c k : Nat) (h : Kept a s) : Kept a (State.freeStrand s g c k) :=
  h.same rfl rfl rfl rfl rfl rfl

/-! ### Machine/MemAccess.lean -/

theorem State.mirrorBreak_kept {a : State} (s : State) (m : Nat) (h : Kept a s) : Kept a (State.mirrorBreak s m) := by
  unfold State.mirrorBreak
  repeat' first
    | with_reducible first | assumption | apply State.event_kept | apply State.setF_kept

theorem State.mirrorSend_kept {a : State} (s : State) (key : Nat) (bs : List Byte) (poison : Bool) (k : Nat → FlowKey) (op : OpKind) (h : Kept a s) :
    Kept a (State.mirrorSend s key bs poison k op).2 := by
  unfold State.mirrorSend
  repeat' first
    | with_reducible first | assumption | apply State.flowSend_kept | intro _ _ _ | refine Kept.foldl _ ?_ _ _ ?_

theorem State.store_kept {a : State} (s : State) (key : Nat) (bs : List Byte) (poison : Bool) (h : Kept a s) :
    Kept a (State.store s key bs poison) := by
   unfold State.store; apply_rules [State.write_kept, State.poisonAt_kept, Kept.ite]

theorem State.atomicAt_kept {a : State} (s : State) (g : Nat) (c : Option Nat) (key : Nat) (acc : Acc) (data : Word) (cmp : Word) (h : Kept a s) :
    Kept a (State.atomicAt s g c key acc data cmp).2 := by
  unfold State.atomicAt
  repeat' first
    | with_reducible assumption
    | with_reducible refine State.countAdd_kept _ _ _ _ _ _ ?_
    | with_reducible refine State.allocWord_kept _ _ _ _ ?_
    | with_reducible refine State.writeN_kept _ _ _ _ ?_
    | with_reducible refine Kept.ite ?_ ?_
    | split

theorem State.slotTake_kept {a : State} (s : State) (g : Nat) (r : Req) (h : Kept a s) : Kept a (State.slotTake s g r) := by
  unfold State.slotTake
  repeat' first
    | with_reducible assumption
    | with_reducible refine State.mirrorSend_kept _ _ _ _ _ _ ?_
    | with_reducible refine State.nextTag_kept _ ?_
    | with_reducible refine State.flowSend_kept _ _ _ ?_
    | with_reducible refine State.setCore_kept _ _ _ ?_
    | with_reducible refine State.setF_kept _ _ _ _ _ _ ?_
    | with_reducible refine Kept.ite ?_ ?_
    | split

theorem State.slotOffer_kept {a : State} (s : State) (g : Nat) (t : Target) (h : Kept a s) :
    Kept a (State.slotOffer s g t) := by
  unfold State.slotOffer
  repeat' first
    | with_reducible first | assumption | apply State.slotTake_kept | apply State.setCore_kept
    | (extract_lets +onlyGivenNames x1; clear_value x1)
    | split

theorem State.storing_kept {a : State} (s : State) (g : Nat) (c : Nat) (k : Nat) (key : Nat) (n : Nat) (h : Kept a s) :
    Kept a (State.storing s g c k key n) := by
  unfold State.storing
  repeat' first
    | with_reducible assumption
    | (with_reducible refine Kept.lit ?_ rfl rfl rfl rfl rfl rfl
       first
         | with_reducible assumption
         | with_reducible refine Kept.ite ?_ ?_)

theorem State.ownAccess_kept {a : State} (s : State) (g : Nat) (c : Nat) (k : Nat) (acc : Acc) (rd : Nat) (key : Nat) (data : Word) (cmp : Word) (addr : Nat) (h : Kept a s) :
    Kept a (State.ownAccess s g c k acc rd key data cmp addr) := by
  unfold State.ownAccess
  repeat' first
    | with_reducible assumption
    | with_reducible refine State.store_kept _ _ _ _ ?_
    | with_reducible refine State.storing_kept _ _ _ _ _ _ ?_
    | with_reducible refine State.write_kept _ _ _ ?_
    | with_reducible refine State.retire_kept _ _ _ _ _ ?_
    | with_reducible refine State.raise_kept _ _ _ _ _ _ ?_
    | with_reducible refine State.retireB_kept _ _ _ _ _ _ _ ?_
    | with_reducible refine State.atomicAt_kept _ _ _ _ _ _ _ ?_
    | split

theorem State.slotted_kept {a : State} (s : State) (g c k : Nat) (acc : Acc) (rd addr : Nat) (loc : Loc) (data cmp : Word) (h : Kept a s) :
    Kept a (State.slotted s g c k acc rd addr loc data cmp) := by
  unfold State.slotted
  repeat' first
    | with_reducible first | assumption | apply State.retire_kept | apply State.slotTake_kept
        | apply State.setCore_kept | apply State.addF_kept | refine Kept.ite ?_ ?_

theorem State.access_kept {a : State} (s : State) (g c k : Nat) (acc : Acc) (rd addr : Nat) (data cmp : Word) (h : Kept a s) :
    Kept a (State.access s g c k acc rd addr data cmp) := by
  unfold State.access
  repeat' first
    | with_reducible first | assumption | apply State.raise_kept | apply State.ownAccess_kept
        | apply State.slotted_kept
    | split

theorem State.loadOp_kept {a : State} (s : State) (g c k : Nat) (op : Op) (n : Nat) (signed : Bool) (h : Kept a s) :
    Kept a (State.loadOp s g c k op n signed) := by
  unfold State.loadOp
  repeat' first
    | with_reducible first | assumption | apply State.issue_kept | apply State.access_kept | intro _ _ _

theorem State.storeOp_kept {a : State} (s : State) (g c k : Nat) (op : Op) (n : Nat) (h : Kept a s) :
    Kept a (State.storeOp s g c k op n) := by
  unfold State.storeOp
  repeat' first
    | with_reducible first | assumption | apply State.issue_kept | apply State.access_kept | intro _ _ _

theorem State.atomicOp_kept {a : State} (s : State) (g c k : Nat) (op : Op) (acc : Acc) (h : Kept a s) :
    Kept a (State.atomicOp s g c k op acc) := by
  unfold State.atomicOp
  repeat' first
    | with_reducible first | assumption | apply State.issue_kept | apply State.access_kept | intro _ _ _

theorem State.arrive_kept {a : State} (s : State) (g : Nat) (w : Who) (rd : Nat) (v : Option Word) (h : Kept a s) :
    Kept a (State.arrive s g w rd v) := by
   unfold State.arrive; apply_rules [State.freeStrand_kept, State.setStrand_kept, Kept.ite]

theorem State.raiseOpWho_kept {a : State} (s : State) (g : Nat) (w : Who) (seq : Nat) (code : Nat) (addr : Nat) (h : Kept a s) :
    Kept a (State.raiseOpWho s g w seq code addr) := by
  unfold State.raiseOpWho
  repeat' first
    | with_reducible assumption
    | with_reducible refine State.raiseOp_kept _ _ _ _ _ _ _ _ _ ?_
    | with_reducible refine Kept.ite ?_ ?_

theorem State.progressOf_kept {a : State} (s : State) (g : Nat) (c : Nat) (seq : Nat) (h : Kept a s) :
    Kept a (State.progressOf s g c seq) := by
  unfold State.progressOf
  repeat' first
    | with_reducible assumption
    | with_reducible refine State.progress_kept _ _ _ ?_
    | with_reducible refine Kept.ite ?_ ?_

theorem State.reqEffect_kept {a : State} (s : State) (g : Nat) (r : Req) (h : Kept a s) :
    Kept a (State.reqEffect s g r).2.2 := by
  unfold State.reqEffect
  repeat' first
    | with_reducible assumption
    | with_reducible refine State.store_kept _ _ _ _ ?_
    | with_reducible refine State.atomicAt_kept _ _ _ _ _ _ _ ?_
    | split

theorem execScalarAccessComplete_kept {a : State} (g : Nat) (n : Nat) (s : State) (h : Kept a s) :
    KeptO a (execScalarAccessComplete g n s) := by
  unfold execScalarAccessComplete
  repeat' first
    | with_reducible assumption
    | with_reducible refine State.reqEffect_kept _ _ _ ?_
    | with_reducible refine State.setCore_kept _ _ _ ?_
    | with_reducible refine State.arrive_kept _ _ _ _ _ ?_
    | with_reducible refine State.raiseOpWho_kept _ _ _ _ _ _ ?_
    | with_reducible refine State.progressOf_kept _ _ _ _ ?_
    | with_reducible refine State.slotOffer_kept _ _ _ ?_
    | with_reducible refine KeptO.next ?_
    | split

theorem execLd8_kept {a : State} (g c k : Nat) (s : State) (h : Kept a s) : KeptO a (execLd8 g c k s) := by
   unfold execLd8; apply_rules [State.loadOp_kept, KeptO.next]

theorem execLd16_kept {a : State} (g c k : Nat) (s : State) (h : Kept a s) : KeptO a (execLd16 g c k s) := by
   unfold execLd16; apply_rules [State.loadOp_kept, KeptO.next]

theorem execLd32_kept {a : State} (g c k : Nat) (s : State) (h : Kept a s) : KeptO a (execLd32 g c k s) := by
   unfold execLd32; apply_rules [State.loadOp_kept, KeptO.next]

theorem execLd64_kept {a : State} (g c k : Nat) (s : State) (h : Kept a s) : KeptO a (execLd64 g c k s) := by
   unfold execLd64; apply_rules [State.loadOp_kept, KeptO.next]

theorem execLds8_kept {a : State} (g c k : Nat) (s : State) (h : Kept a s) : KeptO a (execLds8 g c k s) := by
   unfold execLds8; apply_rules [State.loadOp_kept, KeptO.next]

theorem execLds16_kept {a : State} (g c k : Nat) (s : State) (h : Kept a s) : KeptO a (execLds16 g c k s) := by
   unfold execLds16; apply_rules [State.loadOp_kept, KeptO.next]

theorem execLds32_kept {a : State} (g c k : Nat) (s : State) (h : Kept a s) : KeptO a (execLds32 g c k s) := by
   unfold execLds32; apply_rules [State.loadOp_kept, KeptO.next]

theorem execSt8_kept {a : State} (g c k : Nat) (s : State) (h : Kept a s) : KeptO a (execSt8 g c k s) := by
   unfold execSt8; apply_rules [State.storeOp_kept, KeptO.next]

theorem execSt16_kept {a : State} (g c k : Nat) (s : State) (h : Kept a s) : KeptO a (execSt16 g c k s) := by
   unfold execSt16; apply_rules [State.storeOp_kept, KeptO.next]

theorem execSt32_kept {a : State} (g c k : Nat) (s : State) (h : Kept a s) : KeptO a (execSt32 g c k s) := by
   unfold execSt32; apply_rules [State.storeOp_kept, KeptO.next]

theorem execSt64_kept {a : State} (g c k : Nat) (s : State) (h : Kept a s) : KeptO a (execSt64 g c k s) := by
   unfold execSt64; apply_rules [State.storeOp_kept, KeptO.next]

theorem execAmoadd_kept {a : State} (g c k : Nat) (s : State) (h : Kept a s) : KeptO a (execAmoadd g c k s) := by
   unfold execAmoadd; apply_rules [State.atomicOp_kept, KeptO.next]

theorem execAmoswap_kept {a : State} (g c k : Nat) (s : State) (h : Kept a s) : KeptO a (execAmoswap g c k s) := by
   unfold execAmoswap; apply_rules [State.atomicOp_kept, KeptO.next]

theorem execAmocas_kept {a : State} (g c k : Nat) (s : State) (h : Kept a s) : KeptO a (execAmocas g c k s) := by
   unfold execAmocas; apply_rules [State.atomicOp_kept, KeptO.next]

/-! ### Machine/Engine.lean -/

theorem State.raced_kept {a : State} (s : State) (snap : Mem) (key n : Nat) (h : Kept a s) :
    Kept a (State.raced s snap key n).2 := by
   unfold State.raced; apply_rules [State.useFree_kept]

theorem State.patchSnaps_kept {a : State} (s : State) (g : Nat) (key : Nat) (n : Nat) (matrix : Bool) (h : Kept a s) :
    Kept a (State.patchSnaps s g key n matrix) := by
  unfold State.patchSnaps
  repeat' first
    | with_reducible assumption
    | with_reducible refine State.setCore_kept _ _ _ ?_

theorem State.matrixWrite_kept {a : State} (s : State) (g : Nat) (key : Nat) (bs : List Byte) (h : Kept a s) :
    Kept a (State.matrixWrite s g key bs) := by
  unfold State.matrixWrite
  repeat' first
    | with_reducible assumption
    | with_reducible refine State.write_kept _ _ _ ?_
    | with_reducible refine State.patchSnaps_kept _ _ _ _ _ ?_

theorem State.vectorWrite_kept {a : State} (s : State) (g : Nat) (key : Nat) (bs : List Byte) (h : Kept a s) :
    Kept a (State.vectorWrite s g key bs) := by
  unfold State.vectorWrite
  repeat' first
    | with_reducible assumption
    | with_reducible refine State.write_kept _ _ _ ?_
    | with_reducible refine State.patchSnaps_kept _ _ _ _ _ ?_

theorem State.nextSeq_kept {a : State} (s : State) (g : Nat) (h : Kept a s) : Kept a (State.nextSeq s g) :=
  h.same rfl rfl rfl rfl rfl rfl

theorem State.setBracket_kept {a : State} (s : State) (g c cls : Nat) (b : Option Bracket) (h : Kept a s) :
    Kept a (State.setBracket s g c cls b) :=
  h.same rfl rfl rfl rfl rfl rfl

theorem State.bracketOvf_kept {a : State} (s : State) (g c cls seq : Nat) (vector : Bool) (h : Kept a s) :
    Kept a (State.bracketOvf s g c cls seq vector) := by
  unfold State.bracketOvf
  repeat' first
    | with_reducible first | assumption | apply State.setF_kept | apply State.setCore_kept
    | extract_lets +onlyGivenNames x1
    | split

theorem State.raiseWho_kept {a : State} (s : State) (g : Nat) (w : Who) (code : Nat) (addr : optParam (Option Nat) none) (h : Kept a s) :
    Kept a (State.raiseWho s g w code addr) := by
  unfold State.raiseWho
  repeat' first
    | with_reducible first | assumption | apply State.raiseOp_kept

/-! ### Machine/Spur.lean -/

theorem State.spurIssue_kept {a : State} (s : State) (g c k : Nat) (mk : Nat → Who → SOp) (t : Strand) (h : Kept a s) :
    Kept a (State.spurIssue s g c k mk t) := by
   unfold State.spurIssue; apply_rules [State.retire_kept, State.setCore_kept, Kept.ite]

theorem State.spurMove_kept {a : State} (s : State) (g c k : Nat) (op : Op) (put : Bool) (h : Kept a s) :
    Kept a (State.spurMove s g c k op put) := by
  unfold State.spurMove
  repeat' first
    | with_reducible first | assumption | apply State.issue_kept | apply State.raise_kept
        | apply State.spurIssue_kept | refine Kept.ite ?_ ?_ | intro _ _ _
    | split

theorem execSput_kept {a : State} (g c k : Nat) (s : State) (h : Kept a s) : KeptO a (execSput g c k s) := by
   unfold execSput; apply_rules [State.spurMove_kept, KeptO.next]

theorem execSget_kept {a : State} (g c k : Nat) (s : State) (h : Kept a s) : KeptO a (execSget g c k s) := by
   unfold execSget; apply_rules [State.spurMove_kept, KeptO.next]

theorem execSatom_kept {a : State} (g c k : Nat) (s : State) (h : Kept a s) : KeptO a (execSatom g c k s) := by
  unfold execSatom
  repeat' first
    | with_reducible first | assumption | apply State.issue_kept | apply State.raise_kept
        | apply State.spurIssue_kept | refine Kept.ite ?_ ?_ | refine KeptO.next ?_ | intro _ _ _
    | split

theorem State.msgIssue_kept {a : State} (s : State) (g c k : Nat) (d : Dec) (key : Nat) (data : List Byte) (h : Kept a s) :
    Kept a (State.msgIssue s g c k d key data) := by
  unfold State.msgIssue
  repeat' first
    | with_reducible first | assumption | apply State.raise_kept | apply State.spurIssue_kept
        | refine Kept.ite ?_ ?_

theorem execMsend_kept {a : State} (g c k : Nat) (s : State) (h : Kept a s) : KeptO a (execMsend g c k s) := by
  unfold execMsend
  repeat' first
    | with_reducible first | assumption | apply State.issue_kept | apply State.raise_kept
        | apply State.msgIssue_kept | refine Kept.ite ?_ ?_ | refine KeptO.next ?_ | intro _ _ _
    | split

theorem execMsendr_kept {a : State} (g c k : Nat) (s : State) (h : Kept a s) : KeptO a (execMsendr g c k s) := by
  unfold execMsendr
  repeat' first
    | with_reducible first | assumption | apply State.issue_kept | apply State.msgIssue_kept | refine Kept.ite ?_ ?_
        | refine KeptO.next ?_ | intro _ _ _

theorem State.spurMod_kept {a : State} (s : State) (g seq : Nat) (f : SOp → SOp) (h : Kept a s) :
    Kept a (State.spurMod s g seq f) :=
  h.same rfl rfl rfl rfl rfl rfl

theorem State.spurLeave_kept {a : State} (s : State) (g : Nat) (o : SOp) (h : Kept a s) : Kept a (State.spurLeave s g o) := by
  unfold State.spurLeave
  repeat' first
    | with_reducible assumption
    | with_reducible refine State.spurMod_kept _ _ _ _ ?_
    | with_reducible refine State.flowSend_kept _ _ _ ?_
    | with_reducible refine State.mirrorSend_kept _ _ _ _ _ _ ?_
    | with_reducible refine State.nextTag_kept _ ?_
    | with_reducible intro _ _ _
    | with_reducible refine Kept.foldl _ ?_ _ _ ?_
    | with_reducible refine Kept.foldl2 _ ?_ _ _ ?_
    | (extract_lets +onlyGivenNames x1
       first
         | (refine Kept.cut (x := x1) ?_ ?_
            all_goals first | (with_reducible intro _; clear_value x1) | dsimp -zeta only [x1])
         | clear_value x1)
    | split
    | (with_reducible refine Kept.lit ?_ rfl rfl rfl rfl rfl rfl; with_reducible assumption)

theorem execSpurSend_kept {a : State} (g : Nat) (s : State) (h : Kept a s) : KeptO a (execSpurSend g s) := by
  unfold execSpurSend
  repeat' first
    | with_reducible first | assumption | apply State.spurLeave_kept | refine KeptO.next ?_
    | split

theorem State.mqAccept_kept {a : State} (s : State) (g c q sender : Nat) (data : List Byte) (poison : Bool) (h : Kept a s) :
    Kept a (State.mqAccept s g c q sender data poison) := by
  unfold State.mqAccept
  repeat' first
    | with_reducible first | assumption | apply State.store_kept | apply State.write_kept | apply State.setF_kept
        | apply State.token_kept | apply State.addF_kept

theorem State.mqRefuse_kept {a : State} (s : State) (g c : Nat) (h : Kept a s) : Kept a (State.mqRefuse s g c) := by
  unfold State.mqRefuse
  repeat' first
    | with_reducible first | assumption | apply State.event_kept | apply State.addF_kept

theorem State.msgAnswer_kept {a : State} (s : State) (m : Msg) (status : Nat) (h : Kept a s) :
    Kept a (State.msgAnswer s m status) :=
  h.same rfl rfl rfl rfl rfl rfl

theorem State.msgOffer_kept {a : State} (s : State) (n : Nat) (h : Kept a s) : Kept a (State.msgOffer s n) := by
  unfold State.msgOffer
  repeat' first
    | with_reducible first | assumption | apply State.msgAnswer_kept | apply State.mqRefuse_kept
        | apply State.mqAccept_kept
    | (extract_lets +onlyGivenNames x1; clear_value x1)
    | split
    | (with_reducible refine Kept.lit ?_ rfl rfl rfl rfl rfl rfl; with_reducible assumption)

theorem execMessageReoffer_kept {a : State} (g c q : Nat) (s : State) (h : Kept a s) :
    KeptO a (execMessageReoffer g c q s) := by
  unfold execMessageReoffer
  repeat' first
    | with_reducible first | assumption | apply State.msgOffer_kept | refine KeptO.next ?_
    | split

theorem execMrecv_kept {a : State} (g c k : Nat) (s : State) (h : Kept a s) : KeptO a (execMrecv g c k s) := by
  unfold execMrecv
  repeat' first
    | with_reducible first | assumption | apply State.issue_kept | apply State.raise_kept | apply State.store_kept
        | apply State.setF_kept | apply State.retireRd_kept | refine KeptO.next ?_ | intro _ _ _
    | extract_lets +onlyGivenNames x1
    | split

theorem execMcount_kept {a : State} (g c k : Nat) (s : State) (h : Kept a s) : KeptO a (execMcount g c k s) := by
  unfold execMcount
  repeat' first
    | with_reducible first | assumption | apply State.issue_kept | apply State.retireRd_kept | refine KeptO.next ?_
        | intro _ _ _

theorem execColMqCfgWrite_kept {a : State} (g c q : Nat) (v : Word) (s : State) (h : Kept a s) :
    KeptO a (execColMqCfgWrite g c q v s) := by
   unfold execColMqCfgWrite; apply_rules [State.setReg_kept, State.setF_kept, Kept.ite, KeptO.next]

theorem State.spurEffect_kept {a : State} (s : State) (g : Nat) (o : SOp) (h : Kept a s) :
    Kept a (State.spurEffect s g o).2.2 := by
  unfold State.spurEffect
  repeat' first
    | with_reducible first | assumption | apply State.store_kept | apply State.atomicAt_kept | intro _ _ _
        | refine Kept.foldl _ ?_ _ _ ?_
    | extract_lets +onlyGivenNames x1
    | split

theorem State.spurEnd_kept {a : State} (s : State) (g : Nat) (o : SOp) (err : Option Nat) (v : Option Word) (h : Kept a s) :
    Kept a (State.spurEnd s g o err v) := by
  unfold State.spurEnd
  repeat' first
    | with_reducible assumption
    | with_reducible refine State.setCore_kept _ _ _ ?_
    | with_reducible refine State.arrive_kept _ _ _ _ _ ?_
    | with_reducible refine State.raiseOpWho_kept _ _ _ _ _ _ ?_
    | with_reducible refine State.token_kept _ _ _ _ _ ?_
    | with_reducible refine State.progressOf_kept _ _ _ _ ?_
    | split
    | (with_reducible refine Kept.lit ?_ rfl rfl rfl rfl rfl rfl
       first
         | with_reducible assumption
         | with_reducible refine State.setCore_kept _ _ _ ?_
         | with_reducible refine State.arrive_kept _ _ _ _ _ ?_)

theorem execSpurComplete_kept {a : State} (g : Nat) (n : Nat) (s : State) (h : Kept a s) : KeptO a (execSpurComplete g n s) := by
  unfold execSpurComplete
  repeat' first
    | with_reducible assumption
    | with_reducible refine State.spurEffect_kept _ _ _ ?_
    | with_reducible refine State.spurEnd_kept _ _ _ _ _ ?_
    | with_reducible refine KeptO.next ?_
    | split

theorem execSpurTimeout_kept {a : State} (g n : Nat) (s : State) (h : Kept a s) : KeptO a (execSpurTimeout g n s) := by
  unfold execSpurTimeout
  repeat' first
    | with_reducible first | assumption | apply State.spurEnd_kept | refine KeptO.next ?_
    | split

/-! ### Machine/Loan.lean -/

theorem State.loanGrant_kept {a : State} (s : State) (lender base size : Nat) (h : Kept a s) :
    Kept a (State.loanGrant s lender base size) := by
  unfold State.loanGrant
  repeat' first
    | with_reducible first | assumption | apply State.event_kept
    | split
    | (with_reducible refine Kept.lit ?_ rfl rfl rfl rfl rfl rfl; with_reducible assumption)

theorem State.noticed_kept {a : State} (s : State) (i : Nat) (stop : Nat) (h : Kept a s) :
    Kept a (State.noticed s i stop) := by
  unfold State.noticed
  repeat' first
    | with_reducible assumption
    | with_reducible refine State.setF_kept _ _ _ _ _ _ ?_
    | with_reducible refine State.event_kept _ _ _ _ _ ?_

theorem State.loanNotice_kept {a : State} (s : State) (lender : Nat) (base : Nat) (size : Nat) (endFrame : Nat) (h : Kept a s) :
    Kept a (State.loanNotice s lender base size endFrame) := by
  unfold State.loanNotice
  repeat' first
    | with_reducible assumption
    | with_reducible refine State.noticed_kept _ _ _ ?_
    | split
    | (with_reducible refine Kept.lit ?_ rfl rfl rfl rfl rfl rfl
       first
         | with_reducible assumption
         | with_reducible refine State.noticed_kept _ _ _ ?_)

theorem State.loanRelease_kept {a : State} (s : State) (borrower base size : Nat) (h : Kept a s) :
    Kept a (State.loanRelease s borrower base size) := by
  unfold State.loanRelease
  repeat' first
    | with_reducible first | assumption | apply State.setF_kept
    | (extract_lets +onlyGivenNames x1
       first
         | (refine Kept.cut (x := x1) ?_ ?_
            all_goals first | (with_reducible intro _; clear_value x1) | dsimp -zeta only [x1])
         | clear_value x1)
    | split
    | (with_reducible refine Kept.lit ?_ rfl rfl rfl rfl rfl rfl; with_reducible assumption)

theorem State.loanEnd_kept {a : State} (s : State) (lend : Bool) (i n : Nat) (h : Kept a s) :
    Kept a (State.loanEnd s lend i n) := by
  unfold State.loanEnd
  repeat' first
    | with_reducible first | assumption | apply State.event_kept | apply State.setF_kept | refine Kept.ite ?_ ?_

theorem State.grantTick_kept {a : State} (s : State) (e : Nat × Option Nat) (h : Kept a s) :
    Kept a (State.grantTick s e) := by
  unfold State.grantTick
  repeat' first
    | with_reducible assumption
    | with_reducible refine State.setF_kept _ _ _ _ _ _ ?_
    | with_reducible refine State.event_kept _ _ _ _ _ ?_
    | with_reducible refine State.noticed_kept _ _ _ ?_
    | split

theorem State.loanAction_kept {a : State} (s : State) (n : Nat) (h : Kept a s) :
    Kept a (State.loanAction s n) := by
  unfold State.loanAction
  repeat' first
    | with_reducible assumption
    | with_reducible refine State.setF_kept _ _ _ _ _ _ ?_
    | with_reducible refine State.grantTick_kept _ _ ?_
    | with_reducible refine State.loanEnd_kept _ _ _ _ ?_
    | with_reducible intro _ _ _
    | (with_reducible refine Kept.lit ?_ rfl rfl rfl rfl rfl rfl
       first
         | with_reducible assumption
         | with_reducible refine State.setF_kept _ _ _ _ _ _ ?_
         | with_reducible refine State.grantTick_kept _ _ ?_
         | with_reducible refine State.loanEnd_kept _ _ _ _ ?_
         | with_reducible refine Kept.ite ?_ ?_
         | with_reducible refine Kept.iter _ _ _ ?_ ?_
         | with_reducible refine Kept.foldl _ ?_ _ _ ?_)

theorem State.lendCommit_kept {a : State} (s : State) (i : Nat) (m : Nat) (wasValid : Bool) (ctl : Bool) (h : Kept a s) :
    Kept a (State.lendCommit s i m wasValid ctl) := by
  unfold State.lendCommit
  repeat' first
    | with_reducible assumption
    | with_reducible refine State.setF_kept _ _ _ _ _ _ ?_
    | with_reducible refine State.ctrlSend_kept _ _ _ _ _ ?_
    | with_reducible refine Kept.ite ?_ ?_

theorem State.borrowCommit_kept {a : State} (s : State) (i lender base size : Nat) (h : Kept a s) :
    Kept a (State.borrowCommit s i lender base size) := by
  unfold State.borrowCommit
  repeat' first
    | with_reducible first | assumption | apply State.setF_kept | apply State.ctrlSend_kept | refine Kept.ite ?_ ?_
    | (with_reducible refine Kept.lit ?_ rfl rfl rfl rfl rfl rfl; with_reducible assumption)

theorem execLoanEndTick_kept {a : State} (lend : Bool) (i : Nat) (s : State) (h : Kept a s) :
    KeptO a (execLoanEndTick lend i s) := by
  unfold execLoanEndTick
  repeat' first
    | with_reducible assumption
    | with_reducible refine State.loanEnd_kept _ _ _ _ ?_
    | with_reducible refine KeptO.next ?_
    | with_reducible refine Kept.ite ?_ ?_

/-! ### Machine/Col.lean -/

theorem State.setWaits_kept {a : State} (s : State) (g c : Nat) (x : List WaitEnt) (h : Kept a s) :
    Kept a (State.setWaits s g c x) :=
  h.same rfl rfl rfl rfl rfl rfl

theorem State.setColTag_kept {a : State} (s : State) (g c id : Nat) (x : ColTag) (h : Kept a s) :
    Kept a (State.setColTag s g c id x) :=
  h.same rfl rfl rfl rfl rfl rfl

theorem State.colSend_kept {a : State} (s : State) (g c id : Nat) (waiter : Waiter) (flag : Bool) (h : Kept a s) :
    Kept a (State.colSend s g c id waiter flag) := by
  unfold State.colSend
  repeat' first
    | with_reducible first | assumption | apply State.setColTag_kept | apply State.setWaits_kept
    | (extract_lets +onlyGivenNames x1
       first
         | (refine Kept.cut (x := x1) ?_ ?_
            all_goals first | (with_reducible intro _; clear_value x1) | dsimp -zeta only [x1])
         | clear_value x1)
    | (with_reducible refine Kept.lit ?_ rfl rfl rfl rfl rfl rfl; with_reducible assumption)

theorem State.colStall_kept {a : State} (s : State) (g : Nat) (e : Stall) (h : Kept a s) :
    Kept a (State.colStall s g e) :=
  h.same rfl rfl rfl rfl rfl rfl

theorem State.colProto_kept {a : State} (s : State) (k kind : Nat) (h : Kept a s) : Kept a (State.colProto s k kind) := by
   unfold State.colProto; apply_rules [State.event_kept, State.setF_kept]

theorem State.ctrClear_kept {a : State} (s : State) (k : Nat) (h : Kept a s) :
    Kept a (State.ctrClear s k) := by
  unfold State.ctrClear
  repeat' first
    | with_reducible assumption
    | with_reducible refine State.setReg_kept _ _ _ ?_
    | (with_reducible refine Kept.lit ?_ rfl rfl rfl rfl rfl rfl
       first
         | with_reducible assumption
         | with_reducible refine State.setReg_kept _ _ _ ?_
         | with_reducible refine Kept.ite ?_ ?_)

theorem State.colRelease_kept {a : State} (s : State) (k r : Nat) (flag : Bool) (h : Kept a s) :
    Kept a (State.colRelease s k r flag) := by
  unfold State.colRelease
  repeat' first
    | with_reducible first | assumption | apply State.addF_kept | apply State.setF_kept
    | split
    | (with_reducible refine Kept.lit ?_ rfl rfl rfl rfl rfl rfl; with_reducible assumption)

theorem State.homeArrival_kept {a : State} (s : State) (k r : Nat) (flag : Bool) (h : Kept a s) :
    Kept a (State.homeArrival s k r flag) := by
  unfold State.homeArrival
  repeat' first
    | with_reducible first | assumption | apply State.addF_kept | apply State.setF_kept | apply State.colProto_kept
        | refine Kept.ite ?_ ?_

theorem State.sendArrival_kept {a : State} (s : State) (k r : Nat) (flag : Bool) (h : Kept a s) :
    Kept a (State.sendArrival s k r flag) := by
  unfold State.sendArrival
  repeat' first
    | with_reducible first | assumption | apply State.homeArrival_kept | apply State.ctrlSend_kept
        | refine Kept.ite ?_ ?_
    | (with_reducible refine Kept.lit ?_ rfl rfl rfl rfl rfl rfl; with_reducible assumption)

theorem State.colCheck_kept {a : State} (y0 y1 : Nat) (y2 : State) (h : Kept a y2) : Kept a (State.colCheck y0 y1 y2) := by
  induction y0 generalizing y1 y2 with
  | zero => exact h
  | succ n ih =>
  unfold State.colCheck
  repeat' first
    | with_reducible first | assumption | apply ih | apply State.colRelease_kept | apply State.sendArrival_kept
        | apply State.setF_kept | refine Kept.ite ?_ ?_

theorem State.colOnEntry_kept {a : State} (s : State) (k r : Nat) (flag : Bool) (h : Kept a s) :
    Kept a (State.colOnEntry s k r flag) := by
  unfold State.colOnEntry
  repeat' first
    | with_reducible first | assumption | apply State.addF_kept | apply State.colCheck_kept | apply State.setF_kept
        | apply State.colProto_kept | refine Kept.ite ?_ ?_

theorem State.bracketReleased_kept {a : State} (s : State) (g c cls : Nat) (flag : Bool) (h : Kept a s) :
    Kept a (State.bracketReleased s g c cls flag) :=
  h.same rfl rfl rfl rfl rfl rfl

theorem State.colServe_kept {a : State} (decide' : Nat → Bool → State → State) (s : State) (g c : Nat) (flag : Bool) (w : Waiter)
    (h : Kept a s) (hd : ∀ c b s, Kept a s → Kept a (decide' c b s)) : Kept a (s.colServe decide' g c flag w) := by
  unfold State.colServe
  split
  · exact State.token_kept _ _ _ _ _ h
  · extract_lets t
    split
    · exact State.setStrand_kept _ _ _ _ _ h
    · exact h
  · exact State.bracketReleased_kept _ _ _ _ _ h
  · exact hd _ _ _ h

theorem State.colArrive_kept {a : State} (decide' : Nat → Bool → State → State) (s : State) (r : ColRel)
    (h : Kept a s) (hd : ∀ c b s, Kept a s → Kept a (decide' c b s)) : Kept a (s.colArrive decide' r) := by
  unfold State.colArrive
  extract_lets mine s1 s2
  split
  · exact h
  · exact State.progress_kept _ _ _ (Kept.foldl _ (fun s e h => State.colServe_kept _ _ _ _ _ _ h hd) _ _
      (State.setColTag_kept _ _ _ _ _ (State.setWaits_kept _ _ _ _ h)))

theorem State.colIssue_kept {a : State} (s : State) (g c k : Nat) (op : Op) (waiter : Dec → Strand → Waiter) (holds : Bool) (h : Kept a s) :
    Kept a (State.colIssue s g c k op waiter holds) := by
  unfold State.colIssue
  repeat' first
    | with_reducible first | assumption | apply State.issue_kept | apply State.raise_kept | apply State.colSend_kept
        | apply State.issued_kept | apply State.setStrand_kept | apply State.retire_kept | apply State.colStall_kept
        | refine Kept.ite ?_ ?_ | intro _ _ _

theorem execCole_kept {a : State} (g c k : Nat) (s : State) (h : Kept a s) : KeptO a (execCole g c k s) := by
   unfold execCole; apply_rules [State.colIssue_kept, KeptO.next]

theorem execColw_kept {a : State} (g c k : Nat) (s : State) (h : Kept a s) : KeptO a (execColw g c k s) := by
   unfold execColw; apply_rules [State.colIssue_kept, KeptO.next]

theorem execColr_kept {a : State} (g : Nat) (c : Nat) (k : Nat) (s : State) (h : Kept a s) :
    KeptO a (execColr g c k s) := by
  unfold execColr
  repeat' first
    | with_reducible assumption
    | with_reducible refine State.issue_kept _ _ _ _ _ _ ?_ ?_
    | with_reducible refine State.raise_kept _ _ _ _ _ _ ?_
    | with_reducible refine State.retireB_kept _ _ _ _ _ _ _ ?_
    | with_reducible refine KeptO.next ?_
    | with_reducible refine Kept.ite ?_ ?_
    | with_reducible intro _ _ _

theorem State.stallSend_kept {a : State} (s : State) (g n : Nat) (h : Kept a s) : Kept a (State.stallSend s g n) := by
  unfold State.stallSend
  repeat' first
    | with_reducible first | assumption | apply State.colSend_kept | apply State.setCore_kept
        | apply State.issued_kept | apply State.setStrand_kept | apply State.progress_kept | refine Kept.ite ?_ ?_
    | split

theorem execColStalledEntrySend_kept {a : State} (g n : Nat) (s : State) (h : Kept a s) :
    KeptO a (execColStalledEntrySend g n s) := by
   unfold execColStalledEntrySend; apply_rules [State.stallSend_kept, KeptO.next]

theorem State.colDiscard_kept {a : State} (s : State) (c : Nat) (h : Kept a s) :
    Kept a (State.colDiscard s c) := by
  unfold State.colDiscard
  repeat' first
    | with_reducible assumption
    | with_reducible refine State.setCore_kept _ _ _ ?_
    | with_reducible refine State.ctrClear_kept _ _ ?_
    | with_reducible intro _ _ _
    | (with_reducible refine Kept.lit ?_ rfl rfl rfl rfl rfl rfl
       first
         | with_reducible assumption
         | with_reducible refine State.setCore_kept _ _ _ ?_
         | with_reducible refine State.ctrClear_kept _ _ ?_
         | with_reducible refine Kept.ite ?_ ?_
         | with_reducible refine Kept.foldl _ ?_ _ _ ?_)

/-! ### Machine/Firing.lean -/

theorem State.consume_kept {a : State} (s : State) (g c : Nat) (b : Block) (h : Kept a s) :
    Kept a (State.consume s g c b) := by
  unfold State.consume
  repeat' first
    | with_reducible first | assumption | apply State.setF_kept | apply State.free_kept | refine Kept.ite ?_ ?_
        | intro _ _ _ | refine Kept.iter _ _ _ ?_ ?_

theorem State.fire_kept {a : State} (s : State) (g c n : Nat) (h : Kept a s) : Kept a (State.fire s g c n) := by
  unfold State.fire
  repeat' first
    | with_reducible first | assumption | apply State.consume_kept | apply State.setCtx_kept
        | apply State.progress_kept | apply State.addF_kept

theorem execBlockFire_kept {a : State} (g c : Nat) (s : State) (h : Kept a s) : KeptO a (execBlockFire g c s) := by
  unfold execBlockFire
  repeat' first
    | with_reducible first | assumption | apply State.fire_kept | refine KeptO.next ?_
    | split

theorem State.dispatch_kept {a : State} (s : State) (g c n k : Nat) (h : Kept a s) : Kept a (State.dispatch s g c n k) :=
  h.same rfl rfl rfl rfl rfl rfl

theorem execBlockDispatch_kept {a : State} (g c : Nat) (s : State) (h : Kept a s) : KeptO a (execBlockDispatch g c s) := by
  unfold execBlockDispatch
  repeat' first
    | with_reducible first | assumption | apply State.dispatch_kept | refine KeptO.next ?_
    | split

theorem State.overrunClosed_kept {a : State} (s : State) (g c fr t : Nat) (h : Kept a s) :
    Kept a (State.overrunClosed s g c fr t) := by
  unfold State.overrunClosed
  repeat' first
    | with_reducible first | assumption | apply State.setF_kept | apply State.event_kept | refine Kept.ite ?_ ?_

theorem State.closeFrame_kept {a : State} (s : State) (g c : Nat) (h : Kept a s) : Kept a (State.closeFrame s g c) := by
  unfold State.closeFrame
  repeat' first
    | with_reducible first | assumption | apply State.event_kept | apply State.setCtx_kept
        | apply State.overrunClosed_kept
    | (extract_lets +onlyGivenNames x1
       first
         | (refine Kept.cut (x := x1) ?_ ?_
            all_goals first | (with_reducible intro _; clear_value x1) | dsimp -zeta only [x1])
         | clear_value x1)
    | split

/-! ### Machine/Train.lean -/

theorem State.setTrn_kept {a : State} (s : State) (c : Nat) (x : Trn) (h : Kept a s) : Kept a (State.setTrn s c x) :=
  h.same rfl rfl rfl rfl rfl rfl

theorem State.vote_kept {a : State} (s : State) (c : Nat) (g : Nat) (flag : Bool) (h : Kept a s) : Kept a (State.vote s c g flag) := by
  unfold State.vote
  repeat' first
    | with_reducible assumption
    | with_reducible refine State.setTrn_kept _ _ _ ?_
    | with_reducible refine State.setF_kept _ _ _ _ _ _ ?_
    | with_reducible refine State.raiseAt_kept _ _ _ _ _ _ ?_
    | with_reducible refine State.colSend_kept _ _ _ _ _ _ ?_
    | with_reducible refine State.colStall_kept _ _ _ ?_
    | with_reducible refine Kept.ite ?_ ?_

theorem State.lateCause_kept {a : State} (s : State) (c : Nat) (code : Nat) (h : Kept a s) :
    Kept a (State.lateCause s c code) := by
  unfold State.lateCause
  repeat' first
    | with_reducible assumption
    | with_reducible refine State.setF_kept _ _ _ _ _ _ ?_
    | with_reducible refine State.event_kept _ _ _ _ _ ?_

theorem State.trnCause_kept {a : State} (s : State) (c : Nat) (g : Nat) (code : Nat) (h : Kept a s) :
    Kept a (State.trnCause s c g code) := by
  unfold State.trnCause
  repeat' first
    | with_reducible assumption
    | with_reducible refine State.setF_kept _ _ _ _ _ _ ?_
    | with_reducible refine State.setTrn_kept _ _ _ ?_
    | with_reducible refine State.vote_kept _ _ _ _ ?_
    | with_reducible refine State.lateCause_kept _ _ _ ?_
    | with_reducible refine Kept.ite ?_ ?_
    | with_reducible intro _ _ _
    | with_reducible refine Kept.foldl _ ?_ _ _ ?_

theorem State.roundVoted_kept {a : State} (s : State) (e : ColEnt) (h : Kept a s) :
    Kept a (State.roundVoted s e) := by
  unfold State.roundVoted
  repeat' first
    | with_reducible assumption
    | with_reducible refine State.setF_kept _ _ _ _ _ _ ?_
    | with_reducible refine Kept.ite ?_ ?_
    | split

theorem State.trnRefuse_kept {a : State} (s : State) (c code : Nat) (h : Kept a s) : Kept a (State.trnRefuse s c code) := by
  unfold State.trnRefuse
  repeat' first
    | with_reducible first | assumption | apply State.event_kept | apply State.setF_kept

theorem State.trnRelease_kept {a : State} (c : Nat) (flag : Bool) (s : State) (h : Kept a s) :
    Kept a (State.trnRelease c flag s) := by
  unfold State.trnRelease
  repeat' first
    | with_reducible first | assumption | apply State.setTrn_kept | apply State.setF_kept | refine Kept.ite ?_ ?_

theorem State.gnsAdd_kept {a : State} (s : State) (c : Nat) (bin : Option Nat) (f : Bucket → Bucket) (h : Kept a s) :
    Kept a (State.gnsAdd s c bin f) := by
  unfold State.gnsAdd
  repeat' first
    | with_reducible assumption
    | with_reducible refine State.addF_kept _ _ _ _ _ _ ?_
    | with_reducible refine State.setTrn_kept _ _ _ ?_
    | split

theorem State.gnsPublish_kept {a : State} (s : State) (c : Nat) (h : Kept a s) : Kept a (State.gnsPublish s c) := by
  unfold State.gnsPublish
  repeat' first
    | with_reducible first | assumption | apply State.setF_kept | apply State.addSatF_kept | intro _ _ _
        | refine Kept.iter _ _ _ ?_ ?_

theorem State.trnRecord_kept {a : State} (s : State) (c m : Nat) (h : Kept a s) : Kept a (State.trnRecord s c m) := by
  unfold State.trnRecord
  repeat' first
    | with_reducible first | assumption | apply State.write_kept | refine Kept.ite ?_ ?_

theorem State.altSnapshot_kept {a : State} (s : State) (c : Nat) (h : Kept a s) : Kept a (State.altSnapshot s c) := by
  unfold State.altSnapshot
  repeat' first
    | with_reducible first | assumption | apply State.setF_kept | apply State.setTrn_kept | intro _ _ _
        | refine Kept.iter _ _ _ ?_ ?_

theorem State.trnOpen_kept {a : State} (s : State) (c m : Nat) (h : Kept a s) : Kept a (State.trnOpen s c m) := by
  unfold State.trnOpen
  repeat' first
    | with_reducible first | assumption | apply State.setTrn_kept | apply State.setF_kept
        | apply State.trnRefuse_kept
    | split

theorem State.trnTick_kept {a : State} (s : State) (c : Nat) (m : Nat) (h : Kept a s) : Kept a (State.trnTick s c m) := by
  unfold State.trnTick
  repeat' first
    | with_reducible assumption
    | with_reducible refine State.setF_kept _ _ _ _ _ _ ?_
    | with_reducible refine State.gnsPublish_kept _ _ ?_
    | with_reducible refine State.addF_kept _ _ _ _ _ _ ?_
    | with_reducible refine State.altSnapshot_kept _ _ ?_
    | with_reducible refine State.trnRecord_kept _ _ _ ?_
    | with_reducible refine State.setTrn_kept _ _ _ ?_
    | with_reducible refine State.event_kept _ _ _ _ _ ?_
    | with_reducible refine State.trnOpen_kept _ _ _ ?_
    | with_reducible refine Kept.ite ?_ ?_

theorem State.trnAction_kept {a : State} (s : State) (c m : Nat) (h : Kept a s) : Kept a (State.trnAction s c m) := by
   unfold State.trnAction; apply_rules [State.trnTick_kept, State.trnOpen_kept, State.setTrn_kept, Kept.ite]

theorem State.trnDiscard_kept {a : State} (s : State) (c : Nat) (h : Kept a s) : Kept a (State.trnDiscard s c) :=
  h.same rfl rfl rfl rfl rfl rfl

theorem execTrnStepOpen_kept {a : State} (c : Nat) (s : State) (h : Kept a s) : KeptO a (execTrnStepOpen c s) := by
   unfold execTrnStepOpen; apply_rules [State.setTrn_kept, KeptO.next]

theorem execTrnStepAbort_kept {a : State} (c : Nat) (s : State) (h : Kept a s) : KeptO a (execTrnStepAbort c s) := by
   unfold execTrnStepAbort; apply_rules [State.trnCause_kept, State.trnRefuse_kept, Kept.ite, KeptO.next]

theorem execForceCommit_kept {a : State} (c : Nat) (s : State) (h : Kept a s) : KeptO a (execForceCommit c s) := by
  unfold execForceCommit
  repeat' first
    | with_reducible first | assumption | apply State.trnRefuse_kept | apply State.setTrn_kept
        | apply State.setF_kept | refine KeptO.ite ?_ ?_ | refine KeptO.next ?_

theorem execForceAbort_kept {a : State} (c : Nat) (s : State) (h : Kept a s) : KeptO a (execForceAbort c s) := by
  unfold execForceAbort
  repeat' first
    | with_reducible first | assumption | apply State.trnRefuse_kept | apply State.setTrn_kept
        | apply State.setF_kept | refine Kept.ite ?_ ?_ | refine KeptO.ite ?_ ?_ | refine KeptO.next ?_

theorem execStepUndecided_kept {a : State} (c : Nat) (s : State) (h : Kept a s) : KeptO a (execStepUndecided c s) := by
  unfold execStepUndecided
  repeat' first
    | with_reducible first | assumption | apply State.event_kept | apply State.setF_kept | refine Kept.ite ?_ ?_
        | refine KeptO.next ?_

theorem execTrnGnsCfgWrite_kept {a : State} (c : Nat) (v : Word) (s : State) (h : Kept a s) :
    KeptO a (execTrnGnsCfgWrite c v s) := by
  unfold execTrnGnsCfgWrite
  repeat' first
    | with_reducible first | assumption | apply State.setF_kept | refine KeptO.next ?_

theorem execFclose_kept {a : State} (g c k : Nat) (s : State) (h : Kept a s) : KeptO a (execFclose g c k s) := by
  unfold execFclose
  repeat' first
    | with_reducible first | assumption | apply State.issue_kept | apply State.retire_kept
        | apply State.closeFrame_kept | apply State.vote_kept | refine Kept.ite ?_ ?_ | refine KeptO.next ?_
        | intro _ _ _

theorem execColEntryArrival_kept {a : State} (n : Nat) (s : State) (h : Kept a s) :
    KeptO a (execColEntryArrival n s) := by
  unfold execColEntryArrival
  repeat' first
    | with_reducible assumption
    | with_reducible refine State.roundVoted_kept _ _ ?_
    | with_reducible refine State.colOnEntry_kept _ _ _ _ ?_
    | with_reducible refine KeptO.next ?_
    | split
    | (with_reducible refine Kept.lit ?_ rfl rfl rfl rfl rfl rfl
       first
         | with_reducible assumption
         | with_reducible refine State.roundVoted_kept _ _ ?_)

theorem execColReleaseArrival_kept {a : State} (n : Nat) (s : State) (h : Kept a s) :
    KeptO a (execColReleaseArrival n s) := by
  unfold execColReleaseArrival
  repeat' first
    | with_reducible first | assumption | apply State.colArrive_kept | apply State.trnRelease_kept
        | refine KeptO.next ?_ | intro _ _ _ _
    | split
    | (with_reducible refine Kept.lit ?_ rfl rfl rfl rfl rfl rfl; with_reducible assumption)

/-! ### Machine/Ecc.lean -/

theorem State.life_kept {a : State} (s : State) (f : Life → Life) (h : Kept a s) : Kept a (State.life s f) :=
  h.same rfl rfl rfl rfl rfl rfl

theorem State.cairn_kept {a : State} (s : State) (type : Nat) (data : List Byte) (h : Kept a s) :
    Kept a (State.cairn s type data) := by
  unfold State.cairn
  repeat' first
    | with_reducible first | assumption | apply State.setF_kept | apply State.event_kept | refine Kept.ite ?_ ?_
    | (with_reducible refine Kept.lit ?_ rfl rfl rfl rfl rfl rfl; with_reducible assumption)

theorem State.sameCycle_kept {a : State} (s : State) (at_ : Option Nat) (h : Kept a s) :
    Kept a (State.sameCycle s at_).2 := by
  unfold State.sameCycle
  repeat' first
    | with_reducible assumption
    | with_reducible refine State.free_kept _ ?_
    | split

theorem State.ueRecord_kept {a : State} (s : State) (unit : Nat) (phys : Nat) (addr : Nat) (h : Kept a s) :
    Kept a (State.ueRecord s unit phys addr) := by
  unfold State.ueRecord
  repeat' first
    | with_reducible assumption
    | with_reducible refine State.addF_kept _ _ _ _ _ _ ?_
    | with_reducible refine State.sameCycle_kept _ _ ?_
    | with_reducible refine State.setF_kept _ _ _ _ _ _ ?_
    | with_reducible refine State.event_kept _ _ _ _ _ ?_
    | with_reducible refine State.cairn_kept _ _ _ ?_
    | (with_reducible refine Kept.lit ?_ rfl rfl rfl rfl rfl rfl
       first
         | with_reducible assumption
         | with_reducible refine State.addF_kept _ _ _ _ _ _ ?_
         | with_reducible refine State.sameCycle_kept _ _ ?_
         | with_reducible refine State.setF_kept _ _ _ _ _ _ ?_
         | with_reducible refine State.event_kept _ _ _ _ _ ?_
         | with_reducible refine State.cairn_kept _ _ _ ?_
         | with_reducible refine Kept.ite ?_ ?_)

theorem State.ceRecord_kept {a : State} (s : State) (unit : Nat) (phys : Nat) (addr : Nat) (bit : Nat) (h : Kept a s) :
    Kept a (State.ceRecord s unit phys addr bit) := by
  unfold State.ceRecord
  repeat' first
    | with_reducible assumption
    | with_reducible refine State.addF_kept _ _ _ _ _ _ ?_
    | with_reducible refine State.sameCycle_kept _ _ ?_
    | with_reducible refine State.setF_kept _ _ _ _ _ _ ?_
    | with_reducible refine State.event_kept _ _ _ _ _ ?_
    | (with_reducible refine Kept.lit ?_ rfl rfl rfl rfl rfl rfl
       first
         | with_reducible assumption
         | with_reducible refine State.addF_kept _ _ _ _ _ _ ?_
         | with_reducible refine State.sameCycle_kept _ _ ?_
         | with_reducible refine State.setF_kept _ _ _ _ _ _ ?_
         | with_reducible refine State.event_kept _ _ _ _ _ ?_
         | with_reducible refine Kept.ite ?_ ?_)

theorem State.memUE_kept {a : State} (s : State) (key : Nat) (h : Kept a s) : Kept a (State.memUE s key) := by
  unfold State.memUE
  repeat' first
    | with_reducible assumption
    | with_reducible refine State.ueRecord_kept _ _ _ _ ?_
    | with_reducible refine State.poisonAt_kept _ _ _ ?_
    | with_reducible refine State.life_kept _ _ ?_
    | with_reducible refine Kept.ite ?_ ?_

theorem State.wordCE_kept {a : State} (s : State) (unit phys addr bit word : Nat) (h : Kept a s) :
    Kept a (State.wordCE s unit phys addr bit word) := by
  have h1 : Kept a { s.ceRecord unit phys addr bit with
      weak := SMap.set (fun k => k.1 + 16 * k.2) 0 (s.ceRecord unit phys addr bit).weak (unit, word)
        (SMap.get 0 (s.ceRecord unit phys addr bit).weak (unit, word) + 1)
      wback := (s.ceRecord unit phys addr bit).wback ++ [(unit, word)] } :=
    (State.ceRecord_kept s unit phys addr bit h).same rfl rfl rfl rfl rfl rfl
  unfold State.wordCE
  dsimp only
  split
  · exact State.cairn_kept _ _ _ (State.event_kept _ _ _ _ _ (h1.same rfl rfl rfl rfl rfl rfl))
  · exact h1

theorem State.memCE_kept {a : State} (s : State) (key : Nat) (bit : Nat) (h : Kept a s) :
    Kept a (State.memCE s key bit) := by
  unfold State.memCE
  repeat' first
    | with_reducible assumption
    | with_reducible refine State.life_kept _ _ ?_
    | with_reducible refine State.wordCE_kept _ _ _ _ _ _ ?_
    | with_reducible refine Kept.ite ?_ ?_

theorem State.memErr_kept {a : State} (s : State) (key : Nat) (err : MemErr) (h : Kept a s) :
    Kept a (State.memErr s key err) := by
  unfold State.memErr
  repeat' first
    | with_reducible first | assumption | apply State.memCE_kept | apply State.memUE_kept
    | split

theorem State.haltAll_kept {a : State} (s : State) (c : Nat) (h : Kept a s) :
    Kept a (State.haltAll s c) := by
  unfold State.haltAll
  repeat' first
    | with_reducible assumption
    | with_reducible refine State.setF_kept _ _ _ _ _ _ ?_
    | with_reducible refine State.setMod_kept _ _ _ ?_
    | with_reducible refine Kept.ite ?_ ?_

theorem State.fatal_kept {a : State} (s : State) (code : Nat) (phys : Nat) (h : Kept a s) :
    Kept a (State.fatal s code phys) := by
  unfold State.fatal
  repeat' first
    | with_reducible assumption
    | with_reducible refine State.haltAll_kept _ _ ?_
    | with_reducible refine State.setF_kept _ _ _ _ _ _ ?_
    | with_reducible refine State.event_kept _ _ _ _ _ ?_
    | with_reducible refine State.life_kept _ _ ?_
    | with_reducible refine State.cairn_kept _ _ _ ?_
    | with_reducible intro _ _ _
    | with_reducible refine Kept.iter _ _ _ ?_ ?_

/-! ### Machine/Control.lean -/

theorem execNop_kept {a : State} (g c k : Nat) (s : State) (h : Kept a s) : KeptO a (execNop g c k s) := by
  unfold execNop
  repeat' first
    | with_reducible first | assumption | apply State.issue_kept | apply State.retire_kept | refine KeptO.next ?_
        | intro _ _ _

theorem execEndBlock_kept {a : State} (g c k : Nat) (s : State) (h : Kept a s) : KeptO a (execEndBlock g c k s) := by
  unfold execEndBlock
  repeat' first
    | with_reducible first | assumption | apply State.issue_kept | apply State.issued_kept
        | apply State.freeStrand_kept | apply State.setStrand_kept | refine Kept.ite ?_ ?_ | refine KeptO.next ?_
        | intro _ _ _

theorem execYield_kept {a : State} (g : Nat) (c : Nat) (k : Nat) (s : State) (h : Kept a s) :
    KeptO a (execYield g c k s) := by
  unfold execYield
  repeat' first
    | with_reducible assumption
    | with_reducible refine State.issue_kept _ _ _ _ _ _ ?_ ?_
    | with_reducible refine State.retire_kept _ _ _ _ _ ?_
    | with_reducible refine State.yieldSlot_kept _ _ ?_
    | with_reducible refine KeptO.next ?_
    | with_reducible intro _ _ _

theorem State.tokenGiven_kept {a : State} (s : State) (g : Nat) (c : Nat) (k : Nat) (h : Kept a s) :
    Kept a (State.tokenGiven s g c k) := by
  unfold State.tokenGiven
  repeat' first
    | with_reducible assumption
    | (with_reducible refine Kept.lit ?_ rfl rfl rfl rfl rfl rfl
       first
         | with_reducible assumption
         | with_reducible refine Kept.ite ?_ ?_)

theorem State.storesSeen_kept {a : State} (s : State) (g : Nat) (c : Nat) (k : Nat) (h : Kept a s) :
    Kept a (State.storesSeen s g c k) := by
  unfold State.storesSeen
  repeat' first
    | with_reducible assumption
    | (with_reducible refine Kept.lit ?_ rfl rfl rfl rfl rfl rfl
       first
         | with_reducible assumption
         | with_reducible refine Kept.ite ?_ ?_)

theorem execTokadd_kept {a : State} (g : Nat) (c : Nat) (k : Nat) (s : State) (h : Kept a s) :
    KeptO a (execTokadd g c k s) := by
  unfold execTokadd
  repeat' first
    | with_reducible assumption
    | with_reducible refine State.issue_kept _ _ _ _ _ _ ?_ ?_
    | with_reducible refine State.setF_kept _ _ _ _ _ _ ?_
    | with_reducible refine State.raise_kept _ _ _ _ _ _ ?_
    | with_reducible refine State.tokenGiven_kept _ _ _ _ ?_
    | with_reducible refine State.retire_kept _ _ _ _ _ ?_
    | with_reducible refine KeptO.next ?_
    | with_reducible refine Kept.ite ?_ ?_
    | with_reducible intro _ _ _

theorem State.setArmed_kept {a : State} (s : State) (g c k n : Nat) (v : Bool) (h : Kept a s) :
    Kept a (State.setArmed s g c k n v) := by
   unfold State.setArmed; apply_rules [State.raise_kept, State.retire_kept, State.setCtx_kept, Kept.ite]

theorem execArm_kept {a : State} (g c k : Nat) (s : State) (h : Kept a s) : KeptO a (execArm g c k s) := by
  unfold execArm
  repeat' first
    | with_reducible first | assumption | apply State.issue_kept | apply State.setArmed_kept | refine KeptO.next ?_
        | intro _ _ _

theorem execDisarm_kept {a : State} (g c k : Nat) (s : State) (h : Kept a s) : KeptO a (execDisarm g c k s) := by
  unfold execDisarm
  repeat' first
    | with_reducible first | assumption | apply State.issue_kept | apply State.setArmed_kept | refine KeptO.next ?_
        | intro _ _ _

theorem execEsync_kept {a : State} (g : Nat) (c : Nat) (k : Nat) (s : State) (h : Kept a s) :
    KeptO a (execEsync g c k s) := by
  unfold execEsync
  repeat' first
    | with_reducible assumption
    | with_reducible refine State.issue_kept _ _ _ _ _ _ ?_ ?_
    | with_reducible refine State.storesSeen_kept _ _ _ _ ?_
    | with_reducible refine State.retire_kept _ _ _ _ _ ?_
    | with_reducible refine KeptO.next ?_
    | with_reducible refine Kept.ite ?_ ?_
    | with_reducible intro _ _ _

theorem execFence_kept {a : State} (g c k : Nat) (s : State) (h : Kept a s) : KeptO a (execFence g c k s) := by
  unfold execFence
  repeat' first
    | with_reducible first | assumption | apply State.issue_kept | apply State.retire_kept | refine Kept.ite ?_ ?_
        | refine KeptO.next ?_ | intro _ _ _

theorem State.branch_kept {a : State} (s : State) (g c k : Nat) (op : Op) (p : Word → Word → Bool) (h : Kept a s) :
    Kept a (State.branch s g c k op p) := by
  unfold State.branch
  repeat' first
    | with_reducible first | assumption | apply State.issue_kept | apply State.jump_kept | apply State.retire_kept
        | refine Kept.ite ?_ ?_ | intro _ _ _

theorem execBeq_kept {a : State} (g c k : Nat) (s : State) (h : Kept a s) : KeptO a (execBeq g c k s) := by
   unfold execBeq; apply_rules [State.branch_kept, KeptO.next]

theorem execBne_kept {a : State} (g c k : Nat) (s : State) (h : Kept a s) : KeptO a (execBne g c k s) := by
   unfold execBne; apply_rules [State.branch_kept, KeptO.next]

theorem execBlt_kept {a : State} (g c k : Nat) (s : State) (h : Kept a s) : KeptO a (execBlt g c k s) := by
   unfold execBlt; apply_rules [State.branch_kept, KeptO.next]

theorem execBge_kept {a : State} (g c k : Nat) (s : State) (h : Kept a s) : KeptO a (execBge g c k s) := by
   unfold execBge; apply_rules [State.branch_kept, KeptO.next]

theorem execBltu_kept {a : State} (g c k : Nat) (s : State) (h : Kept a s) : KeptO a (execBltu g c k s) := by
   unfold execBltu; apply_rules [State.branch_kept, KeptO.next]

theorem execBgeu_kept {a : State} (g c k : Nat) (s : State) (h : Kept a s) : KeptO a (execBgeu g c k s) := by
   unfold execBgeu; apply_rules [State.branch_kept, KeptO.next]

theorem execJal_kept {a : State} (g c k : Nat) (s : State) (h : Kept a s) : KeptO a (execJal g c k s) := by
  unfold execJal
  repeat' first
    | with_reducible first | assumption | apply State.issue_kept | apply State.jump_kept | refine KeptO.next ?_
        | intro _ _ _

theorem execJalr_kept {a : State} (g c k : Nat) (s : State) (h : Kept a s) : KeptO a (execJalr g c k s) := by
  unfold execJalr
  repeat' first
    | with_reducible first | assumption | apply State.issue_kept | apply State.jump_kept | refine KeptO.next ?_
        | intro _ _ _

theorem execTrap_kept {a : State} (g c k : Nat) (s : State) (h : Kept a s) : KeptO a (execTrap g c k s) := by
  unfold execTrap
  repeat' first
    | with_reducible first | assumption | apply State.issue_kept | apply State.raise_kept | refine KeptO.next ?_
        | intro _ _ _

/-! ### Machine/Scalar.lean -/

theorem State.aluR_kept {a : State} (s : State) (g c k : Nat) (op : Op) (f : Word → Word → Word) (h : Kept a s) :
    Kept a (State.aluR s g c k op f) := by
  unfold State.aluR
  repeat' first
    | with_reducible first | assumption | apply State.issue_kept | apply State.retireRd_kept | intro _ _ _

theorem State.aluB_kept {a : State} (s : State) (g : Nat) (c : Nat) (k : Nat) (op : Op) (n : Nat) (f : Word → Word → Word) (h : Kept a s) :
    Kept a (State.aluB s g c k op n f) := by
  unfold State.aluB
  repeat' first
    | with_reducible assumption
    | with_reducible refine State.issue_kept _ _ _ _ _ _ ?_ ?_
    | with_reducible refine State.retireB_kept _ _ _ _ _ _ _ ?_
    | with_reducible intro _ _ _

theorem State.aluI_kept {a : State} (s : State) (g c k : Nat) (op : Op) (f : Word → Word → Word) (h : Kept a s) :
    Kept a (State.aluI s g c k op f) := by
  unfold State.aluI
  repeat' first
    | with_reducible first | assumption | apply State.issue_kept | apply State.retireRd_kept | intro _ _ _

theorem execAdd_kept {a : State} (g c k : Nat) (s : State) (h : Kept a s) : KeptO a (execAdd g c k s) := by
   unfold execAdd; apply_rules [State.aluR_kept, KeptO.next]

theorem execSub_kept {a : State} (g c k : Nat) (s : State) (h : Kept a s) : KeptO a (execSub g c k s) := by
   unfold execSub; apply_rules [State.aluR_kept, KeptO.next]

theorem execAnd_kept {a : State} (g c k : Nat) (s : State) (h : Kept a s) : KeptO a (execAnd g c k s) := by
   unfold execAnd; apply_rules [State.aluR_kept, KeptO.next]

theorem execOr_kept {a : State} (g c k : Nat) (s : State) (h : Kept a s) : KeptO a (execOr g c k s) := by
   unfold execOr; apply_rules [State.aluR_kept, KeptO.next]

theorem execXor_kept {a : State} (g c k : Nat) (s : State) (h : Kept a s) : KeptO a (execXor g c k s) := by
   unfold execXor; apply_rules [State.aluR_kept, KeptO.next]

theorem execSll_kept {a : State} (g c k : Nat) (s : State) (h : Kept a s) : KeptO a (execSll g c k s) := by
   unfold execSll; apply_rules [State.aluR_kept, KeptO.next]

theorem execSrl_kept {a : State} (g c k : Nat) (s : State) (h : Kept a s) : KeptO a (execSrl g c k s) := by
   unfold execSrl; apply_rules [State.aluR_kept, KeptO.next]

theorem execSra_kept {a : State} (g c k : Nat) (s : State) (h : Kept a s) : KeptO a (execSra g c k s) := by
   unfold execSra; apply_rules [State.aluR_kept, KeptO.next]

theorem execSlt_kept {a : State} (g c k : Nat) (s : State) (h : Kept a s) : KeptO a (execSlt g c k s) := by
   unfold execSlt; apply_rules [State.aluR_kept, KeptO.next]

theorem execSltu_kept {a : State} (g c k : Nat) (s : State) (h : Kept a s) : KeptO a (execSltu g c k s) := by
   unfold execSltu; apply_rules [State.aluR_kept, KeptO.next]

theorem execMul_kept {a : State} (g : Nat) (c : Nat) (k : Nat) (s : State) (h : Kept a s) :
    KeptO a (execMul g c k s) := by
  unfold execMul
  repeat' first
    | with_reducible assumption
    | with_reducible refine State.aluB_kept _ _ _ _ _ _ _ ?_
    | with_reducible refine KeptO.next ?_

theorem execMulhu_kept {a : State} (g : Nat) (c : Nat) (k : Nat) (s : State) (h : Kept a s) :
    KeptO a (execMulhu g c k s) := by
  unfold execMulhu
  repeat' first
    | with_reducible assumption
    | with_reducible refine State.aluB_kept _ _ _ _ _ _ _ ?_
    | with_reducible refine KeptO.next ?_

theorem execDivu_kept {a : State} (g : Nat) (c : Nat) (k : Nat) (s : State) (h : Kept a s) :
    KeptO a (execDivu g c k s) := by
  unfold execDivu
  repeat' first
    | with_reducible assumption
    | with_reducible refine State.aluB_kept _ _ _ _ _ _ _ ?_
    | with_reducible refine KeptO.next ?_

theorem execRemu_kept {a : State} (g : Nat) (c : Nat) (k : Nat) (s : State) (h : Kept a s) :
    KeptO a (execRemu g c k s) := by
  unfold execRemu
  repeat' first
    | with_reducible assumption
    | with_reducible refine State.aluB_kept _ _ _ _ _ _ _ ?_
    | with_reducible refine KeptO.next ?_

theorem execMin_kept {a : State} (g c k : Nat) (s : State) (h : Kept a s) : KeptO a (execMin g c k s) := by
   unfold execMin; apply_rules [State.aluR_kept, KeptO.next]

theorem execMax_kept {a : State} (g c k : Nat) (s : State) (h : Kept a s) : KeptO a (execMax g c k s) := by
   unfold execMax; apply_rules [State.aluR_kept, KeptO.next]

theorem execPopc_kept {a : State} (g c k : Nat) (s : State) (h : Kept a s) : KeptO a (execPopc g c k s) := by
   unfold execPopc; apply_rules [State.aluR_kept, KeptO.next]

theorem execClz_kept {a : State} (g c k : Nat) (s : State) (h : Kept a s) : KeptO a (execClz g c k s) := by
   unfold execClz; apply_rules [State.aluR_kept, KeptO.next]

theorem execAddi_kept {a : State} (g c k : Nat) (s : State) (h : Kept a s) : KeptO a (execAddi g c k s) := by
   unfold execAddi; apply_rules [State.aluI_kept, KeptO.next]

theorem execAndi_kept {a : State} (g c k : Nat) (s : State) (h : Kept a s) : KeptO a (execAndi g c k s) := by
   unfold execAndi; apply_rules [State.aluI_kept, KeptO.next]

theorem execOri_kept {a : State} (g c k : Nat) (s : State) (h : Kept a s) : KeptO a (execOri g c k s) := by
   unfold execOri; apply_rules [State.aluI_kept, KeptO.next]

theorem execXori_kept {a : State} (g c k : Nat) (s : State) (h : Kept a s) : KeptO a (execXori g c k s) := by
   unfold execXori; apply_rules [State.aluI_kept, KeptO.next]

theorem execSlli_kept {a : State} (g c k : Nat) (s : State) (h : Kept a s) : KeptO a (execSlli g c k s) := by
   unfold execSlli; apply_rules [State.aluI_kept, KeptO.next]

theorem execSrli_kept {a : State} (g c k : Nat) (s : State) (h : Kept a s) : KeptO a (execSrli g c k s) := by
   unfold execSrli; apply_rules [State.aluI_kept, KeptO.next]

theorem execSrai_kept {a : State} (g c k : Nat) (s : State) (h : Kept a s) : KeptO a (execSrai g c k s) := by
   unfold execSrai; apply_rules [State.aluI_kept, KeptO.next]

theorem execSlti_kept {a : State} (g c k : Nat) (s : State) (h : Kept a s) : KeptO a (execSlti g c k s) := by
   unfold execSlti; apply_rules [State.aluI_kept, KeptO.next]

theorem execLi_kept {a : State} (g c k : Nat) (s : State) (h : Kept a s) : KeptO a (execLi g c k s) := by
   unfold execLi; apply_rules [State.aluI_kept, KeptO.next]

theorem execLui_kept {a : State} (g c k : Nat) (s : State) (h : Kept a s) : KeptO a (execLui g c k s) := by
  unfold execLui
  repeat' first
    | with_reducible first | assumption | apply State.issue_kept | apply State.retireRd_kept | refine KeptO.next ?_
        | intro _ _ _

end Sys2Proof.Machine
end

