-- ==== Sys2Proof/Laws/KeptEngines.lean ====
section
/-! SUPPORT. `Kept` through the engines: DMA, flows and packets, traverses, vector, update and matrix engines, lending. -/

namespace Sys2Proof.Machine

/-! ### Machine/Dma.lean -/

theorem State.setChan_kept {a : State} (s : State) (g ch : Nat) (x : Chan) (h : Kept a s) :
    Kept a (State.setChan s g ch x) :=
  h.same rfl rfl rfl rfl rfl rfl

theorem State.modXfer_kept {a : State} (s : State) (g ch : Nat) (f : Xfer → Xfer) (h : Kept a s) :
    Kept a (State.modXfer s g ch f) :=
  h.same rfl rfl rfl rfl rfl rfl

theorem State.setChState_kept {a : State} (s : State) (g ch v : Nat) (h : Kept a s) :
    Kept a (State.setChState s g ch v) :=
  h.same rfl rfl rfl rfl rfl rfl

theorem State.shadowEmpty_kept {a : State} (s : State) (g : Nat) (ch : Nat) (h : Kept a s) : Kept a (State.shadowEmpty s g ch) := by
  unfold State.shadowEmpty
  repeat' first
    | with_reducible assumption
    | with_reducible refine State.setReg_kept _ _ _ ?_
    | with_reducible refine State.setF_kept _ _ _ _ _ _ ?_
    | with_reducible refine State.setChan_kept _ _ _ _ ?_
    | with_reducible refine State.setCore_kept _ _ _ ?_
    | with_reducible intro _ _ _
    | with_reducible refine Kept.iter _ _ _ ?_ ?_

theorem State.paceOpen_kept {a : State} (s : State) (g ch : Nat) (h : Kept a s) : Kept a (State.paceOpen s g ch) := by
  unfold State.paceOpen
  repeat' first
    | with_reducible first | assumption | apply State.setChState_kept
    | split

theorem State.resultRecord_kept {a : State} (s : State) (g : Nat) (ch : Nat) (code : Nat) (x : Xfer) (h : Kept a s) : Kept a (State.resultRecord s g ch code x) := by
  unfold State.resultRecord
  repeat' first
    | with_reducible assumption
    | with_reducible refine State.free_kept _ ?_
    | with_reducible refine State.write_kept _ _ _ ?_
    | with_reducible refine Kept.ite ?_ ?_

theorem State.shardCheck_kept {a : State} (s : State) (g : Nat) (ch : Nat) (x : Xfer) (h : Kept a s) :
    Kept a (State.shardCheck s g ch x) := by
  unfold State.shardCheck
  repeat' first
    | with_reducible assumption
    | with_reducible refine State.addF_kept _ _ _ _ _ _ ?_
    | with_reducible refine State.trnCause_kept _ _ _ _ ?_
    | with_reducible refine State.write_kept _ _ _ ?_
    | with_reducible refine Kept.ite ?_ ?_
    | split

theorem State.chanEnd_kept {a : State} (s : State) (g : Nat) (ch : Nat) (code : Nat) (h : Kept a s) : Kept a (State.chanEnd s g ch code) := by
  unfold State.chanEnd
  repeat' first
    | with_reducible assumption
    | with_reducible refine State.setChState_kept _ _ _ _ ?_
    | with_reducible refine State.resultRecord_kept _ _ _ _ _ ?_
    | with_reducible refine State.token_kept _ _ _ _ _ ?_
    | with_reducible refine State.shardCheck_kept _ _ _ _ ?_
    | with_reducible refine State.trnCause_kept _ _ _ _ ?_
    | with_reducible refine State.event_kept _ _ _ _ _ ?_
    | with_reducible refine State.setF_kept _ _ _ _ _ _ ?_
    | with_reducible refine State.setCore_kept _ _ _ ?_
    | with_reducible refine State.setChan_kept _ _ _ _ ?_
    | with_reducible refine State.shadowEmpty_kept _ _ _ ?_
    | with_reducible refine Kept.ite ?_ ?_
    | split

theorem State.chanAdvance_kept {a : State} (y0 y1 y2 : Nat) (y3 : State) (h : Kept a y3) :
    Kept a (State.chanAdvance y0 y1 y2 y3) := by
  induction y0 generalizing y1 y2 y3 with
  | zero => exact h
  | succ n ih =>
  unfold State.chanAdvance
  repeat' first
    | with_reducible first | assumption | apply ih | apply State.modXfer_kept | apply State.token_kept
        | apply State.chanEnd_kept | refine Kept.ite ?_ ?_
    | split

theorem State.credit_kept {a : State} (s : State) (g ch unit n : Nat) (h : Kept a s) :
    Kept a (State.credit s g ch unit n) := by
  unfold State.credit
  repeat' first
    | with_reducible first | assumption | apply State.modXfer_kept | apply State.addF_kept | apply State.setF_kept
        | apply State.progress_kept | apply State.chanAdvance_kept
    | split

theorem State.chErr_kept {a : State} (s : State) (g ch cause tries addr : Nat) (write : Bool) (h : Kept a s) :
    Kept a (State.chErr s g ch cause tries addr write) :=
  h.same rfl rfl rfl rfl rfl rfl

theorem State.chFail_kept {a : State} (s : State) (g ch : Nat) (h : Kept a s) : Kept a (State.chFail s g ch) := by
   unfold State.chFail; apply_rules [State.modXfer_kept, State.setChState_kept, Kept.ite]

theorem State.chFault_kept {a : State} (s : State) (g : Nat) (ch : Nat) (code : Nat) (tries : Nat) (addr : Nat) (write : Bool) (h : Kept a s) :
    Kept a (State.chFault s g ch code tries addr write) := by
  unfold State.chFault
  repeat' first
    | with_reducible assumption
    | with_reducible refine State.raiseWho_kept _ _ _ _ _ ?_
    | with_reducible refine State.chErr_kept _ _ _ _ _ _ _ ?_
    | with_reducible refine State.write_kept _ _ _ ?_
    | with_reducible refine State.chFail_kept _ _ _ ?_
    | split

theorem State.busError_kept {a : State} (s : State) (g : Nat) (ch : Nat) (cause : Nat) (tries : Nat) (addr : Nat) (write : Bool) (h : Kept a s) : Kept a (State.busError s g ch cause tries addr write) := by
  unfold State.busError
  repeat' first
    | with_reducible assumption
    | with_reducible refine State.event_kept _ _ _ _ _ ?_
    | with_reducible refine State.chErr_kept _ _ _ _ _ _ _ ?_
    | with_reducible refine State.chFail_kept _ _ _ ?_
    | with_reducible refine State.setF_kept _ _ _ _ _ _ ?_
    | with_reducible refine State.setChState_kept _ _ _ _ ?_
    | with_reducible refine Kept.ite ?_ ?_
    | with_reducible intro _ _ _
    | with_reducible refine Kept.iter _ _ _ ?_ ?_

theorem State.retryCount_kept {a : State} (s : State) (g ch : Nat) (h : Kept a s) : Kept a (State.retryCount s g ch) :=
  h.same rfl rfl rfl rfl rfl rfl

theorem State.modBurst_kept {a : State} (s : State) (g id : Nat) (f : Burst → Burst) (h : Kept a s) :
    Kept a (State.modBurst s g id f) :=
  h.same rfl rfl rfl rfl rfl rfl

theorem State.dropBurst_kept {a : State} (s : State) (g id : Nat) (h : Kept a s) : Kept a (State.dropBurst s g id) :=
  h.same rfl rfl rfl rfl rfl rfl

theorem State.suppress_kept {a : State} (s : State) (g : Nat) (b : Burst) (h : Kept a s) :
    Kept a (State.suppress s g b) :=
  h.same rfl rfl rfl rfl rfl rfl

theorem State.burstGo_kept {a : State} (s : State) (g : Nat) (c : Nat) (b : Burst) (addr : Except Nat Nat) (h : Kept a s) : Kept a (State.burstGo s g c b addr) := by
  unfold State.burstGo
  repeat' first
    | with_reducible assumption
    | with_reducible refine State.chFault_kept _ _ _ _ _ _ _ ?_
    | with_reducible refine State.modBurst_kept _ _ _ _ ?_
    | with_reducible refine State.suppress_kept _ _ _ ?_
    | with_reducible refine State.nextTag_kept _ ?_
    | with_reducible refine State.flowSend_kept _ _ _ ?_
    | with_reducible refine State.setF_kept _ _ _ _ _ _ ?_
    | with_reducible refine Kept.ite ?_ ?_
    | split

theorem State.readIssue_kept {a : State} (s : State) (g : Nat) (ch : Nat) (k : ReadCand) (h : Kept a s) : Kept a (State.readIssue s g ch k) := by
  unfold State.readIssue
  repeat' first
    | with_reducible assumption
    | with_reducible refine State.setCore_kept _ _ _ ?_
    | with_reducible refine State.burstGo_kept _ _ _ _ _ ?_
    | with_reducible refine State.modBurst_kept _ _ _ _ ?_
    | with_reducible refine State.setChan_kept _ _ _ _ ?_
    | with_reducible refine State.modXfer_kept _ _ _ _ ?_
    | split

theorem execDmaReadBurstIssue_kept {a : State} (g : Nat) (s : State) (h : Kept a s) :
    KeptO a (execDmaReadBurstIssue g s) := by
  unfold execDmaReadBurstIssue
  repeat' first
    | with_reducible first | assumption | apply State.readIssue_kept | refine KeptO.next ?_
    | (extract_lets +onlyGivenNames x1; clear_value x1)
    | split

theorem State.freeBytes_kept {a : State} (s : State) (n : Nat) (h : Kept a s) : Kept a (State.freeBytes s n).2 := by
   unfold State.freeBytes; apply_rules [State.useFree_kept]

theorem State.creditBytes_kept {a : State} (s : State) (g ch unitLen y4 y5 y6 : Nat) (h : Kept a s) :
    Kept a (State.creditBytes s g ch unitLen y4 y5 y6) := by
  induction y4 generalizing s g ch unitLen y5 y6 with
  | zero => exact h
  | succ n ih =>
  unfold State.creditBytes
  repeat' first
    | with_reducible first | assumption | apply ih | apply State.credit_kept | refine Kept.ite ?_ ?_

theorem State.compareData_kept {a : State} (s : State) (g : Nat) (b : Burst) (bs : List Byte) (h : Kept a s) :
    Kept a (State.compareData s g b bs) := by
  unfold State.compareData
  repeat' first
    | with_reducible first | assumption | apply State.dropBurst_kept | apply State.modXfer_kept
        | apply State.creditBytes_kept
    | split

theorem State.burstData_kept {a : State} (s : State) (g : Nat) (b : Burst) (bs : List Byte) (poison : Bool) (h : Kept a s) :
    Kept a (State.burstData s g b bs poison) := by
  unfold State.burstData
  repeat' first
    | with_reducible first | assumption | apply State.dropBurst_kept | apply State.setChan_kept
        | apply State.modXfer_kept | apply State.compareData_kept | apply State.credit_kept
        | apply State.modBurst_kept | refine Kept.ite ?_ ?_
    | split

theorem State.poisonedRead_kept {a : State} (s : State) (g : Nat) (b : Burst) (h : Kept a s) :
    Kept a (State.poisonedRead s g b) := by
  unfold State.poisonedRead
  repeat' first
    | with_reducible assumption
    | with_reducible refine State.setCore_kept _ _ _ ?_
    | with_reducible refine State.freeBytes_kept _ _ ?_
    | with_reducible refine State.modXfer_kept _ _ _ _ ?_
    | with_reducible refine State.burstData_kept _ _ _ _ _ ?_
    | with_reducible refine Kept.ite ?_ ?_

theorem State.stoppedRead_kept {a : State} (s : State) (g : Nat) (b : Burst) (e : ReadEnd) (h : Kept a s) :
    Kept a (State.stoppedRead s g b e) := by
  unfold State.stoppedRead
  repeat' first
    | with_reducible assumption
    | with_reducible refine State.dropBurst_kept _ _ _ ?_
    | with_reducible refine State.chFault_kept _ _ _ _ _ _ _ ?_
    | with_reducible refine State.busError_kept _ _ _ _ _ _ _ ?_
    | split

theorem State.readReturn_kept {a : State} (s : State) (g : Nat) (b : Burst) (e : ReadEnd) (h : Kept a s) :
    Kept a (State.readReturn s g b e) := by
  unfold State.readReturn
  repeat' first
    | with_reducible assumption
    | with_reducible refine State.stoppedRead_kept _ _ _ _ ?_
    | with_reducible refine State.dropBurst_kept _ _ _ ?_
    | with_reducible refine State.suppress_kept _ _ _ ?_
    | with_reducible refine State.burstData_kept _ _ _ _ _ ?_
    | with_reducible refine State.modBurst_kept _ _ _ _ ?_
    | with_reducible refine State.chFault_kept _ _ _ _ _ _ _ ?_
    | with_reducible refine State.poisonedRead_kept _ _ _ ?_
    | with_reducible refine State.busError_kept _ _ _ _ _ _ _ ?_
    | with_reducible refine Kept.ite ?_ ?_
    | split

theorem execDmaReadReturn_kept {a : State} (g n : Nat) (err : MemErr) (s : State) (h : Kept a s) :
    KeptO a (execDmaReadReturn g n err s) := by
  unfold execDmaReadReturn
  repeat' first
    | with_reducible first | assumption | apply State.memErr_kept | apply State.readReturn_kept
        | refine KeptO.next ?_
    | split

theorem execPcieCompletionTimeout_kept {a : State} (g n : Nat) (s : State) (h : Kept a s) :
    KeptO a (execPcieCompletionTimeout g n s) := by
  unfold execPcieCompletionTimeout
  repeat' first
    | with_reducible first | assumption | apply State.readReturn_kept | refine KeptO.next ?_
    | split

theorem State.unitStart_kept {a : State} (s : State) (g ch unit : Nat) (h : Kept a s) :
    Kept a (State.unitStart s g ch unit) := by
  unfold State.unitStart
  repeat' first
    | with_reducible first | assumption | apply State.modXfer_kept | apply State.setChState_kept
        | refine Kept.ite ?_ ?_
    | split

theorem State.writeGo_kept {a : State} (s : State) (g c : Nat) (w : DWrite) (h : Kept a s) :
    Kept a (State.writeGo s g c w) := by
  unfold State.writeGo
  repeat' first
    | with_reducible first | assumption | apply State.mirrorSend_kept | apply State.flowSend_kept
        | apply State.setCore_kept
    | split

theorem State.appendPage_kept {a : State} (s : State) (g ch : Nat) (d : Desc) (x : Xfer) (run : Nat) (h : Kept a s) :
    Kept a (State.appendPage s g ch d x run) := by
  unfold State.appendPage
  repeat' first
    | with_reducible first | assumption | apply State.modXfer_kept | apply State.chFault_kept
        | apply State.allocPage_kept | refine Kept.ite ?_ ?_
    | split
    | with_reducible first | refine Kept.snd (by with_reducible assumption) ?_

theorem State.writeTry_kept {a : State} (s : State) (g : Nat) (c : Nat) (w : DWrite) (h : Kept a s) :
    Kept a (State.writeTry s g c w) := by
  unfold State.writeTry
  repeat' first
    | with_reducible assumption
    | with_reducible refine State.setCore_kept _ _ _ ?_
    | with_reducible refine State.chFault_kept _ _ _ _ _ _ _ ?_
    | with_reducible refine State.store_kept _ _ _ _ ?_
    | with_reducible refine State.writeGo_kept _ _ _ _ ?_
    | split

theorem State.saveOver_kept {a : State} (s : State) (g : Nat) (ch : Nat) (key : Nat) (n : Nat) (h : Kept a s) :
    Kept a (State.saveOver s g ch key n) := by
  unfold State.saveOver
  repeat' first
    | with_reducible assumption
    | with_reducible refine State.modXfer_kept _ _ _ _ ?_

theorem State.overlapped_kept {a : State} (s : State) (g : Nat) (ch : Nat) (b : Burst) (dk : Nat) (off : Nat) (data : List Byte) (h : Kept a s) :
    Kept a (State.overlapped s g ch b dk off data).2 := by
  unfold State.overlapped
  repeat' first
    | with_reducible assumption
    | with_reducible refine State.write_kept _ _ _ ?_
    | with_reducible refine State.useFree_kept _ _ ?_
    | (extract_lets +onlyGivenNames x1
       first
         | (refine Kept.cut (x := x1) ?_ ?_
            all_goals first | (with_reducible intro _; clear_value x1) | dsimp -zeta only [x1])
         | clear_value x1)
    | split

theorem State.candData_kept {a : State} (s : State) (g ch c : Nat) (k : WriteCand) (h : Kept a s) :
    Kept a (State.candData s g ch c k).2 := by
  unfold State.candData
  split
  · next b _ _ =>
    split
    · next loc _ =>
      cases loc.key with
      | none => exact h
      | some dk => exact State.overlapped_kept _ _ _ _ _ _ _ h
    · exact h
  · exact h

theorem State.writeIssue_kept {a : State} (s : State) (g : Nat) (ch : Nat) (k : WriteCand) (h : Kept a s) :
    Kept a (State.writeIssue s g ch k) := by
  unfold State.writeIssue
  repeat' first
    | with_reducible assumption
    | with_reducible refine State.setCore_kept _ _ _ ?_
    | with_reducible refine State.appendPage_kept _ _ _ _ _ _ ?_
    | with_reducible refine State.candData_kept _ _ _ _ _ ?_
    | with_reducible refine State.modBurst_kept _ _ _ _ ?_
    | with_reducible refine State.modXfer_kept _ _ _ _ ?_
    | with_reducible refine State.unitStart_kept _ _ _ _ ?_
    | with_reducible refine State.writeTry_kept _ _ _ _ ?_
    | with_reducible refine Kept.ite ?_ ?_
    | split

theorem execDmaWriteBurstIssue_kept {a : State} (g : Nat) (s : State) (h : Kept a s) :
    KeptO a (execDmaWriteBurstIssue g s) := by
  unfold execDmaWriteBurstIssue
  repeat' first
    | with_reducible assumption
    | with_reducible refine State.setCore_kept _ _ _ ?_
    | with_reducible refine State.writeTry_kept _ _ _ _ ?_
    | with_reducible refine State.writeIssue_kept _ _ _ _ ?_
    | with_reducible refine KeptO.next ?_
    | split

theorem State.writeFail_kept {a : State} (s : State) (g : Nat) (w : DWrite) (cause : Nat) (h : Kept a s) :
    Kept a (State.writeFail s g w cause) := by
   unfold State.writeFail; apply_rules [State.setCore_kept, State.busError_kept, Kept.ite]

theorem State.writeDone_kept {a : State} (s : State) (g : Nat) (w : DWrite) (h : Kept a s) :
    Kept a (State.writeDone s g w) := by
  unfold State.writeDone
  repeat' first
    | with_reducible first | assumption | apply State.setCore_kept | apply State.chanEnd_kept
        | apply State.credit_kept | apply State.modXfer_kept | apply State.dropBurst_kept
        | apply State.modBurst_kept
    | (extract_lets +onlyGivenNames x1
       first
         | (refine Kept.cut (x := x1) ?_ ?_
            all_goals first | (with_reducible intro _; clear_value x1) | dsimp -zeta only [x1])
         | clear_value x1)
    | split

theorem execDmaWriteAck_kept {a : State} (g n : Nat) (err : MemErr) (s : State) (h : Kept a s) :
    KeptO a (execDmaWriteAck g n err s) := by
  unfold execDmaWriteAck
  split
  · exact KeptO.next h
  · next w _ =>
    refine KeptO.ite (KeptO.next h) ?_
    dsimp only
    have hs : ∀ e : MemErr, Kept a (match w.loc.key, e with
        | some _, .bus _ => s
        | some k, _ => (if w.src.isSome then s.saveOver g w.ch k w.data.length else s).store k w.data w.poison
        | none, _ => s) := by
      intro e
      split
      · exact h
      · exact State.store_kept _ _ _ _ (Kept.ite (State.saveOver_kept _ _ _ _ _ h) h)
      · exact h
    split
    · exact KeptO.next (State.writeDone_kept _ _ _ (hs _))
    · exact KeptO.next (State.chFault_kept _ _ _ _ _ _ _ (State.setCore_kept _ _ _ (hs _)))
    · exact KeptO.next (State.writeFail_kept _ _ _ _ (hs _))
    · exact KeptO.next (hs _)

theorem execDmaBurstRetry_kept {a : State} (g : Nat) (ch : Nat) (s : State) (h : Kept a s) :
    KeptO a (execDmaBurstRetry g ch s) := by
  unfold execDmaBurstRetry
  repeat' first
    | with_reducible assumption
    | with_reducible refine State.retryCount_kept _ _ _ ?_
    | with_reducible refine State.modBurst_kept _ _ _ _ ?_
    | with_reducible refine State.burstGo_kept _ _ _ _ _ ?_
    | with_reducible refine State.writeTry_kept _ _ _ _ ?_
    | with_reducible refine KeptO.next ?_
    | with_reducible refine KeptO.ite ?_ ?_
    | split

theorem execDmaPaceCounterSeen_kept {a : State} (g ch : Nat) (s : State) (h : Kept a s) :
    KeptO a (execDmaPaceCounterSeen g ch s) := by
  unfold execDmaPaceCounterSeen
  repeat' first
    | with_reducible first | assumption | apply State.paceOpen_kept | apply State.modXfer_kept
        | refine KeptO.next ?_
    | split

theorem execDld_kept {a : State} (g : Nat) (c : Nat) (k : Nat) (s : State) (h : Kept a s) : KeptO a (execDld g c k s) := by
  unfold execDld
  repeat' first
    | with_reducible assumption
    | with_reducible refine State.issue_kept _ _ _ _ _ _ ?_ ?_
    | with_reducible refine State.raise_kept _ _ _ _ _ _ ?_
    | with_reducible refine State.setReg_kept _ _ _ ?_
    | with_reducible refine State.retire_kept _ _ _ _ _ ?_
    | with_reducible refine State.setF_kept _ _ _ _ _ _ ?_
    | with_reducible refine Kept.ite ?_ ?_
    | with_reducible refine KeptO.next ?_
    | with_reducible intro _ _ _
    | with_reducible refine Kept.iter _ _ _ ?_ ?_
    | split

theorem execDgo_kept {a : State} (g c k : Nat) (s : State) (h : Kept a s) : KeptO a (execDgo g c k s) := by
  unfold execDgo
  repeat' first
    | with_reducible first | assumption | apply State.issue_kept | apply State.raise_kept | apply State.setChan_kept
        | apply State.retire_kept | apply State.setF_kept | refine Kept.ite ?_ ?_ | refine KeptO.next ?_
        | intro _ _ _

theorem State.chStop_kept {a : State} (s : State) (g ch ending : Nat) (h : Kept a s) :
    Kept a (State.chStop s g ch ending) :=
  h.same rfl rfl rfl rfl rfl rfl

theorem State.dstop_kept {a : State} (s : State) (g ch : Nat) (h : Kept a s) : Kept a (State.dstop s g ch) := by
  unfold State.dstop
  repeat' first
    | with_reducible first | assumption | apply State.chStop_kept | apply State.shadowEmpty_kept
    | split

theorem execDstop_kept {a : State} (g c k : Nat) (s : State) (h : Kept a s) : KeptO a (execDstop g c k s) := by
  unfold execDstop
  repeat' first
    | with_reducible first | assumption | apply State.issue_kept | apply State.retire_kept | apply State.dstop_kept
        | refine Kept.ite ?_ ?_ | refine KeptO.next ?_ | intro _ _ _

theorem execDstat_kept {a : State} (g : Nat) (c : Nat) (k : Nat) (s : State) (h : Kept a s) :
    KeptO a (execDstat g c k s) := by
  unfold execDstat
  repeat' first
    | with_reducible assumption
    | with_reducible refine State.issue_kept _ _ _ _ _ _ ?_ ?_
    | with_reducible refine State.retireB_kept _ _ _ _ _ _ _ ?_
    | with_reducible refine KeptO.next ?_
    | with_reducible intro _ _ _

theorem execShadowActivation_kept {a : State} (g : Nat) (ch : Nat) (s : State) (h : Kept a s) : KeptO a (execShadowActivation g ch s) := by
  unfold execShadowActivation
  repeat' first
    | with_reducible assumption
    | with_reducible refine State.setReg_kept _ _ _ ?_
    | with_reducible refine State.setChState_kept _ _ _ _ ?_
    | with_reducible refine State.setF_kept _ _ _ _ _ _ ?_
    | with_reducible refine State.setChan_kept _ _ _ _ ?_
    | with_reducible refine State.setCore_kept _ _ _ ?_
    | with_reducible refine KeptO.next ?_
    | with_reducible intro _ _ _
    | with_reducible refine Kept.iter _ _ _ ?_ ?_
    | with_reducible refine Kept.foldl _ ?_ _ _ ?_
    | split

theorem execChannelDrained_kept {a : State} (g ch : Nat) (s : State) (h : Kept a s) :
    KeptO a (execChannelDrained g ch s) := by
   unfold execChannelDrained; apply_rules [State.chanEnd_kept, KeptO.ite, KeptO.next]

theorem State.chRestart_kept {a : State} (s : State) (g : Nat) (ch : Nat) (h : Kept a s) :
    Kept a (State.chRestart s g ch) := by
  unfold State.chRestart
  repeat' first
    | with_reducible assumption
    | with_reducible refine State.setChState_kept _ _ _ _ ?_
    | with_reducible refine State.chanEnd_kept _ _ _ _ ?_
    | with_reducible refine State.chanAdvance_kept _ _ _ _ ?_
    | with_reducible refine Kept.ite ?_ ?_
    | split

theorem execDmaChRestart_kept {a : State} (g ch : Nat) (s : State) (h : Kept a s) : KeptO a (execDmaChRestart g ch s) := by
   unfold execDmaChRestart; apply_rules [State.chRestart_kept, Kept.ite, KeptO.next]

theorem State.chAbort_kept {a : State} (s : State) (g : Nat) (ch : Nat) (h : Kept a s) : Kept a (State.chAbort s g ch) := by
  unfold State.chAbort
  repeat' first
    | with_reducible assumption
    | with_reducible refine State.chStop_kept _ _ _ _ ?_
    | with_reducible refine Kept.ite ?_ ?_

theorem execDmaChAbort_kept {a : State} (g ch : Nat) (s : State) (h : Kept a s) : KeptO a (execDmaChAbort g ch s) := by
   unfold execDmaChAbort; apply_rules [State.chAbort_kept, KeptO.next]

theorem execRestartAll_kept {a : State} (g : Nat) (s : State) (h : Kept a s) : KeptO a (execRestartAll g s) := by
  unfold execRestartAll
  repeat' first
    | with_reducible first | assumption | apply State.chRestart_kept | apply State.setF_kept | refine KeptO.next ?_
        | intro _ _ _ | refine Kept.iter _ _ _ ?_ ?_

theorem execAbortAll_kept {a : State} (g : Nat) (s : State) (h : Kept a s) : KeptO a (execAbortAll g s) := by
  unfold execAbortAll
  repeat' first
    | with_reducible first | assumption | apply State.chAbort_kept | apply State.setF_kept | refine KeptO.next ?_
        | intro _ _ _ | refine Kept.iter _ _ _ ?_ ?_

theorem execDmaChPaceWrite_kept {a : State} (g ch : Nat) (v : Word) (s : State) (h : Kept a s) :
    KeptO a (execDmaChPaceWrite g ch v s) := by
  unfold execDmaChPaceWrite
  repeat' first
    | with_reducible first | assumption | apply State.paceOpen_kept | apply State.setF_kept | refine Kept.ite ?_ ?_
        | refine KeptO.next ?_

theorem execDmaChPaceAddrWrite_kept {a : State} (g ch : Nat) (v : Word) (s : State) (h : Kept a s) :
    KeptO a (execDmaChPaceAddrWrite g ch v s) := by
  unfold execDmaChPaceAddrWrite
  repeat' first
    | with_reducible first | assumption | apply State.setF_kept | refine Kept.ite ?_ ?_ | refine KeptO.next ?_

theorem State.dmaDiscard_kept {a : State} (s : State) (g : Nat) (c : Nat) (h : Kept a s) : Kept a (State.dmaDiscard s g c) := by
  unfold State.dmaDiscard
  repeat' first
    | with_reducible assumption
    | with_reducible refine State.shadowEmpty_kept _ _ _ ?_
    | with_reducible refine State.chStop_kept _ _ _ _ ?_
    | with_reducible refine Kept.ite ?_ ?_
    | with_reducible intro _ _ _
    | with_reducible refine Kept.iter _ _ _ ?_ ?_

/-! ### Machine/NetFlow.lean -/

theorem State.answer_kept {a : State} (s : State) (r : RFlow) (type : Nat) (addr : Nat) (h : Kept a s) :
    Kept a (State.answer s r type addr) := by
  unfold State.answer
  repeat' first
    | with_reducible assumption
    | with_reducible refine State.setRFlow_kept _ _ ?_
    | with_reducible refine State.emit_kept _ _ ?_

theorem State.sendAck_kept {a : State} (s : State) (node flow : Nat) (h : Kept a s) :
    Kept a (State.sendAck s node flow) := by
  unfold State.sendAck
  repeat' first
    | with_reducible first | assumption | apply State.answer_kept
    | split

theorem State.sendNak_kept {a : State} (s : State) (node flow reason psn : Nat) (h : Kept a s) :
    Kept a (State.sendNak s node flow reason psn) := by
  unfold State.sendNak
  repeat' first
    | with_reducible first | assumption | apply State.answer_kept
    | split

theorem State.ackResponses_kept {a : State} (s : State) (f : Nat) (h : Kept a s) : Kept a (State.ackResponses s f) := by
  unfold State.ackResponses
  repeat' first
    | with_reducible first | assumption | apply State.emit_kept | apply State.setSFlow_kept
    | split

theorem execAckTimer_kept {a : State} (f : Nat) (s : State) (h : Kept a s) :
    KeptO a (execAckTimer f s) := by
  unfold execAckTimer
  repeat' first
    | with_reducible assumption
    | with_reducible refine State.ackResponses_kept _ _ ?_
    | with_reducible refine State.sendAck_kept _ _ _ ?_
    | with_reducible refine KeptO.next ?_
    | with_reducible refine KeptO.ite ?_ ?_
    | split

theorem State.opTell_kept {a : State} (s : State) (r : OpRef) (a2 : Rsp) (h : Kept a s) : Kept a (State.opTell s r a2) := by
  unfold State.opTell
  repeat' first
    | with_reducible first | assumption | apply State.setCore_kept | apply State.spurMod_kept
    | split
    | (with_reducible refine Kept.lit ?_ rfl rfl rfl rfl rfl rfl; with_reducible assumption)

theorem State.opDone_kept {a : State} (s : State) (r : OpRef) (x : Rsp) (h : Kept a s) : Kept a (State.opDone s r x) := by
  unfold State.opDone
  refine State.opTell_kept _ _ _ ?_
  have hm : Kept a (match r.mir with
      | some m => if x.status = 0 then s else s.mirrorBreak m
      | none => s) := by
    split
    · exact Kept.ite h (State.mirrorBreak_kept _ _ h)
    · exact h
  split
  · exact Kept.ite hm (State.sendNak_kept _ _ _ _ _ hm)
  · exact hm

theorem State.pktDone_kept {a : State} (s : State) (t : TxPkt) (status : Nat) (h : Kept a s) :
    Kept a (State.pktDone s t status) := by
  unfold State.pktDone
  repeat' first
    | with_reducible assumption
    | with_reducible refine State.opDone_kept _ _ _ ?_
    | with_reducible intro _ _ _
    | with_reducible refine Kept.foldl _ ?_ _ _ ?_

theorem State.dropRFlow_kept {a : State} (s : State) (node : Nat) (flow : Nat) (h : Kept a s) :
    Kept a (State.dropRFlow s node flow) := by
  unfold State.dropRFlow
  repeat' first
    | with_reducible assumption
    | with_reducible refine State.pfcAll_kept _ ?_
    | (with_reducible refine Kept.lit ?_ rfl rfl rfl rfl rfl rfl
       first
         | with_reducible assumption
         | with_reducible refine State.pfcAll_kept _ ?_)

theorem State.flowEnd_kept {a : State} (s : State) (f : Nat) (status : Nat) (h : Kept a s) :
    Kept a (State.flowEnd s f status) := by
  unfold State.flowEnd
  repeat' first
    | with_reducible assumption
    | with_reducible refine State.flowDrop_kept _ _ ?_
    | with_reducible refine State.pktDone_kept _ _ _ ?_
    | with_reducible refine State.opDone_kept _ _ _ ?_
    | with_reducible intro _ _ _
    | with_reducible refine Kept.foldl _ ?_ _ _ ?_
    | split

theorem State.failNote_kept {a : State} (s : State) (node : Nat) (core : Nat) (cls : Nat) (src : Nat) (h : Kept a s) :
    Kept a (State.failNote s node core cls src) := by
  unfold State.failNote
  repeat' first
    | with_reducible assumption
    | with_reducible refine State.addF_kept _ _ _ _ _ _ ?_
    | with_reducible refine State.setF_kept _ _ _ _ _ _ ?_
    | with_reducible refine State.event_kept _ _ _ _ _ ?_

theorem State.flowFail_kept {a : State} (s : State) (f : Nat) (h : Kept a s) :
    Kept a (State.flowFail s f) := by
  unfold State.flowFail
  repeat' first
    | with_reducible assumption
    | with_reducible refine State.failNote_kept _ _ _ _ _ ?_
    | with_reducible refine State.flowEnd_kept _ _ _ ?_
    | with_reducible refine State.free_kept _ ?_
    | with_reducible refine State.dropRFlow_kept _ _ _ ?_
    | split

theorem State.flowReopen_kept {a : State} (s : State) (f : Nat) (keep : TxPkt → Bool) (h : Kept a s) :
    Kept a (State.flowReopen s f keep) := by
  unfold State.flowReopen
  repeat' first
    | with_reducible assumption
    | with_reducible refine State.setSFlow_kept _ _ _ ?_
    | with_reducible refine State.pfcAll_kept _ ?_
    | split

theorem State.nodeReset_kept {a : State} (s : State) (node : Nat) (h : Kept a s) :
    Kept a (State.nodeReset s node) := by
  unfold State.nodeReset
  repeat' first
    | with_reducible assumption
    | with_reducible refine State.flowEnd_kept _ _ _ ?_
    | with_reducible refine State.pktDone_kept _ _ _ ?_
    | with_reducible refine State.pfcAll_kept _ ?_
    | with_reducible intro _ _ _
    | (with_reducible refine Kept.lit ?_ rfl rfl rfl rfl rfl rfl
       first
         | with_reducible assumption
         | with_reducible refine State.flowEnd_kept _ _ _ ?_
         | with_reducible refine State.pktDone_kept _ _ _ ?_
         | with_reducible refine State.pfcAll_kept _ ?_
         | with_reducible refine Kept.ite ?_ ?_
         | with_reducible refine Kept.foldl _ ?_ _ _ ?_)

theorem State.setTx_kept {a : State} (s : State) (f : Nat) (x : Tx) (h : Kept a s) :
    Kept a (State.setTx s f x) := by
  unfold State.setTx
  repeat' first
    | with_reducible assumption
    | with_reducible refine State.setSFlow_kept _ _ _ ?_
    | split
    | (with_reducible refine Kept.lit ?_ rfl rfl rfl rfl rfl rfl
       first
         | with_reducible assumption
         | with_reducible refine State.setSFlow_kept _ _ _ ?_)

theorem State.resendOn_kept {a : State} (s : State) (p : Packet) (h : Kept a s) :
    Kept a (State.resendOn s p) := by
  unfold State.resendOn
  repeat' first
    | with_reducible assumption
    | with_reducible refine State.addF_kept _ _ _ _ _ _ ?_
    | with_reducible refine State.emit_kept _ _ ?_
    | split

theorem State.resend_kept {a : State} (s : State) (f : Nat) (psn : Nat) (count : Bool) (h : Kept a s) :
    Kept a (State.resend s f psn count) := by
  unfold State.resend
  repeat' first
    | with_reducible assumption
    | with_reducible refine State.flowFail_kept _ _ ?_
    | with_reducible refine State.setTx_kept _ _ _ ?_
    | with_reducible refine State.resendOn_kept _ _ ?_
    | split

theorem execRetransmitTimeout_kept {a : State} (f : Nat) (s : State) (h : Kept a s) :
    KeptO a (execRetransmitTimeout f s) := by
  unfold execRetransmitTimeout
  repeat' first
    | with_reducible first | assumption | apply State.resend_kept | refine KeptO.next ?_
    | split

theorem execRnrResend_kept {a : State} (f : Nat) (s : State) (h : Kept a s) : KeptO a (execRnrResend f s) := by
  unfold execRnrResend
  repeat' first
    | with_reducible first | assumption | apply State.pktDone_kept | apply State.flowReopen_kept
        | apply State.resend_kept | refine KeptO.next ?_
    | split

theorem execCompletionTimeout_kept {a : State} (f : Nat) (s : State) (h : Kept a s) :
    KeptO a (execCompletionTimeout f s) := by
  unfold execCompletionTimeout
  split
  · exact KeptO.next h
  · split
    · exact KeptO.next h
    · exact KeptO.next (State.opDone_kept _ _ _ (State.setSFlow_kept _ _ _ h))

theorem State.flowHeard_kept {a : State} (s : State) (f : Nat) (h : Kept a s) :
    Kept a (State.flowHeard s f) := by
  unfold State.flowHeard
  repeat' first
    | with_reducible assumption
    | with_reducible refine State.flowDrop_kept _ _ ?_
    | with_reducible refine State.setSFlow_kept _ _ _ ?_
    | split

theorem State.flowAck_kept {a : State} (s : State) (f : Nat) (p : Packet) (h : Kept a s) :
    Kept a (State.flowAck s f p) := by
  unfold State.flowAck
  repeat' first
    | with_reducible assumption
    | with_reducible refine State.setTx_kept _ _ _ ?_
    | with_reducible refine State.pktDone_kept _ _ _ ?_
    | with_reducible refine State.resend_kept _ _ _ _ ?_
    | with_reducible refine State.flowHeard_kept _ _ ?_
    | with_reducible intro _ _ _
    | with_reducible refine Kept.foldl _ ?_ _ _ ?_
    | split

theorem State.rxAck_kept {a : State} (s : State) (p : Packet) (h : Kept a s) :
    Kept a (State.rxAck s p) := by
  unfold State.rxAck
  repeat' first
    | with_reducible assumption
    | with_reducible refine State.flowAck_kept _ _ _ ?_
    | split

theorem State.flowNak_kept {a : State} (s : State) (p : Packet) (h : Kept a s) :
    Kept a (State.flowNak s p) := by
  unfold State.flowNak
  repeat' first
    | with_reducible assumption
    | with_reducible refine State.flowDrop_kept _ _ ?_
    | with_reducible refine State.flowReopen_kept _ _ _ ?_
    | with_reducible refine State.setSFlow_kept _ _ _ ?_
    | with_reducible refine State.flowAck_kept _ _ _ ?_
    | with_reducible refine State.pktDone_kept _ _ _ ?_
    | (extract_lets +onlyGivenNames x1
       first
         | (refine Kept.cut (x := x1) ?_ ?_
            all_goals first | (with_reducible intro _; clear_value x1) | dsimp -zeta only [x1])
         | clear_value x1)
    | split

theorem State.asked_kept {a : State} (s : State) (f : Nat) (p : Packet) (r : OpRef) (h : Kept a s) :
    Kept a (State.asked s f p r) := by
  unfold State.asked
  repeat' first
    | with_reducible assumption
    | with_reducible refine State.setSFlow_kept _ _ _ ?_
    | split

theorem State.flowGo_kept {a : State} (s : State) (f : Nat) (h : Kept a s) :
    Kept a (State.flowGo s f) := by
  unfold State.flowGo
  repeat' first
    | with_reducible assumption
    | with_reducible refine State.setTx_kept _ _ _ ?_
    | with_reducible refine State.asked_kept _ _ _ _ ?_
    | with_reducible refine State.emit_kept _ _ ?_
    | with_reducible refine Kept.ite ?_ ?_
    | split

theorem execNoinePacketSend_kept {a : State} (f : Nat) (s : State) (h : Kept a s) :
    KeptO a (execNoinePacketSend f s) := by
  unfold execNoinePacketSend
  repeat' first
    | with_reducible assumption
    | with_reducible refine State.flowGo_kept _ _ ?_
    | with_reducible refine KeptO.next ?_

theorem execFlowIdleClose_kept {a : State} (f : Nat) (s : State) (h : Kept a s) : KeptO a (execFlowIdleClose f s) := by
  unfold execFlowIdleClose
  repeat' first
    | with_reducible first | assumption | apply State.closeFlow_kept | refine KeptO.next ?_
    | split

theorem execReceiveFlowIdleFree_kept {a : State} (f : Nat) (s : State) (h : Kept a s) :
    KeptO a (execReceiveFlowIdleFree f s) := by
  unfold execReceiveFlowIdleFree
  repeat' first
    | with_reducible first | assumption | apply State.dropRFlow_kept | refine KeptO.next ?_
    | split

/-! ### Machine/Traverse.lean -/

theorem State.setAcc_kept {a : State} (s : State) (g c a3 mode : Nat) (tot : SMap Nat Nat) (h : Kept a s) :
    Kept a (State.setAcc s g c a3 mode tot) := by
  unfold State.setAcc
  repeat' first
    | with_reducible first | assumption | apply State.setF_kept | refine Kept.ite ?_ ?_
    | (with_reducible refine Kept.lit ?_ rfl rfl rfl rfl rfl rfl; with_reducible assumption)

theorem State.putArea_kept {a : State} (s : State) (key : Nat) (area : Mem) (h : Kept a s) : Kept a (s.putArea key area) := by
  refine ⟨h.pending, fun i => ⟨?_, (h.sound i).poison.filter _, (h.sound i).frame⟩, h.free, h.svn⟩
  show Memory.wf (List.foldr _ _ _) = true
  generalize List.filter _ area = l
  induction l with
  | nil => exact SMap.wf_filter _ (h.sound i).mem
  | cons e l ih => exact mem_wf_set _ _ _ ih

theorem State.setHop_kept {a : State} (s : State) (g c t : Nat) (x : Hop) (h : Kept a s) :
    Kept a (State.setHop s g c t x) :=
  h.same rfl rfl rfl rfl rfl rfl

theorem State.setTrvState_kept {a : State} (s : State) (g c t st : Nat) (h : Kept a s) :
    Kept a (State.setTrvState s g c t st) :=
  h.same rfl rfl rfl rfl rfl rfl

theorem State.trvSend_kept {a : State} (s : State) (g c t : Nat) (area : Mem) (poison : Bool) (h : Kept a s) :
    Kept a (State.trvSend s g c t area poison) := by
  unfold State.trvSend
  repeat' first
    | with_reducible first | assumption | apply State.setF_kept | apply State.flowSend_kept
    | (with_reducible refine Kept.lit ?_ rfl rfl rfl rfl rfl rfl
       first
         | with_reducible assumption
         | with_reducible apply State.setF_kept
         | with_reducible apply State.flowSend_kept
         | with_reducible refine Kept.ite ?_ ?_
         | with_reducible refine Kept.iter _ _ _ ?_ ?_)

theorem State.trvForward_kept {a : State} (s : State) (g c t : Nat) (empty : Bool) (h : Kept a s) :
    Kept a (State.trvForward s g c t empty) := by
  unfold State.trvForward
  repeat' first
    | with_reducible first | assumption | apply State.raiseAt_kept | apply State.setHop_kept
        | apply State.trvSend_kept | apply State.event_kept | apply State.setTrvState_kept | refine Kept.ite ?_ ?_

theorem State.trvCredit_kept {a : State} (s : State) (g c t : Nat) (h : Kept a s) : Kept a (State.trvCredit s g c t) := by
  unfold State.trvCredit
  repeat' first
    | with_reducible first | assumption | apply State.setF_kept | apply State.trvForward_kept
        | refine Kept.ite ?_ ?_

theorem State.creditUp_kept {a : State} (s : State) (g c t : Nat) (h : Kept a s) : Kept a (State.creditUp s g c t) := by
  unfold State.creditUp
  repeat' first
    | with_reducible first | assumption | apply State.setHop_kept | apply State.trvCredit_kept
        | apply State.flowSend_kept | refine Kept.ite ?_ ?_
    | split

theorem State.trvLand_kept {a : State} (s : State) (g c t node core : Nat) (area : Option (Mem × Bool)) (contrib skips : Nat) (h : Kept a s) :
    Kept a (State.trvLand s g c t node core area contrib skips) := by
  unfold State.trvLand
  repeat' first
    | with_reducible first | assumption | apply State.putArea_kept | apply State.poisonAt_kept
        | apply State.setHop_kept | apply State.setF_kept | apply State.trvForward_kept
        | apply State.setTrvState_kept | apply State.token_kept
    | split

theorem State.trvSkip_kept {a : State} (s : State) (g c t frame : Nat) (h : Kept a s) :
    Kept a (State.trvSkip s g c t frame) := by
  unfold State.trvSkip
  repeat' first
    | with_reducible first | assumption | apply State.trvForward_kept | apply State.setTrvState_kept
        | refine Kept.ite ?_ ?_
    | split

theorem State.skipAction_kept {a : State} (s : State) (frame : Nat) (h : Kept a s) : Kept a (State.skipAction s frame) := by
  unfold State.skipAction
  repeat' first
    | with_reducible first | assumption | apply State.trvSkip_kept | intro _ _ _ | refine Kept.foldl _ ?_ _ _ ?_

theorem State.trvWrite_kept {a : State} (s : State) (g c t : Nat) (w : TrvReg) (v : Word) (h : Kept a s) :
    Kept a (State.trvWrite s g c t w v) := by
  unfold State.trvWrite
  repeat' first
    | with_reducible first | assumption | apply State.setF_kept | apply State.setReg_kept
    | split

theorem State.trvDueWrite_kept {a : State} (s : State) (g c t : Nat) (v : Word) (h : Kept a s) :
    Kept a (State.trvDueWrite s g c t v) :=
  h.same rfl rfl rfl rfl rfl rfl

theorem State.trvReset_kept {a : State} (s : State) (g c : Nat) (h : Kept a s) : Kept a (State.trvReset s g c) := by
  unfold State.trvReset
  repeat' first
    | with_reducible first | assumption | apply State.setHop_kept | apply State.setTrvState_kept
        | apply State.setF_kept | intro _ _ _ | refine Kept.iter _ _ _ ?_ ?_

theorem State.landOwn_kept {a : State} (s : State) (n : Nat) (h : Kept a s) : Kept a (State.landOwn s n) := by
  unfold State.landOwn
  repeat' first
    | with_reducible first | assumption | apply State.trvLand_kept
    | split
    | (with_reducible refine Kept.lit ?_ rfl rfl rfl rfl rfl rfl; with_reducible assumption)

theorem execTraverseSkip_kept {a : State} (g : Nat) (c : Nat) (t : Nat) (s : State) (h : Kept a s) :
    KeptO a (execTraverseSkip g c t s) := by
  unfold execTraverseSkip
  repeat' first
    | with_reducible assumption
    | with_reducible refine State.trvSkip_kept _ _ _ _ _ ?_
    | with_reducible refine KeptO.next ?_
    | with_reducible refine Kept.ite ?_ ?_

theorem execMtxTrvNextWrite_kept {a : State} (g c t : Nat) (w : TrvReg) (v : Word) (s : State) (h : Kept a s) :
    KeptO a (execMtxTrvNextWrite g c t w v s) := by
   unfold execMtxTrvNextWrite; apply_rules [State.trvWrite_kept, KeptO.next]

/-! ### Machine/NetRx.lean -/

theorem State.rxTarget_kept {a : State} (s : State) (p : Packet) (n : Nat) (h : Kept a s) :
    Kept a (State.rxTarget s p n).2 := by
  unfold State.rxTarget
  repeat' first
    | with_reducible first | assumption | apply State.addF_kept
    | extract_lets +onlyGivenNames x1
    | split

theorem State.rxWrite_kept {a : State} (s : State) (r : RFlow) (p : Packet) (h : Kept a s) :
    Kept a (State.rxWrite s r p).2 := by
  have ht := State.rxTarget_kept s p p.payload.length h
  unfold State.rxWrite
  split
  · exact Kept.snd (by assumption) ht
  · next key s' e =>
    have hs : Kept a s' := Kept.snd e ht
    split
    · exact hs
    · have hm := State.mirrorSend_kept (s'.store key p.payload p.poison) key p.payload p.poison
        (fun node => { cls := .spur, sub := 4, node := node }) (.rx r.node r.flow r.epoch p.psn) (State.store_kept _ _ _ _ hs)
      dsimp only
      split
      · exact hm
      · exact State.setRFlow_kept _ _ hm

theorem State.respond_kept {a : State} (s : State) (r : RFlow) (p : Packet) (type : Nat) (status : Nat) (aux : Nat) (data : List Byte) (poison : Bool) (h : Kept a s) :
    Kept a (State.respond s r p type status aux data poison) := by
  unfold State.respond
  repeat' first
    | with_reducible assumption
    | with_reducible refine State.setTx_kept _ _ _ ?_
    | with_reducible refine State.flowGo_kept _ _ ?_
    | split

theorem State.rxRead_kept {a : State} (s : State) (r : RFlow) (p : Packet) (h : Kept a s) :
    Kept a (State.rxRead s r p) := by
  unfold State.rxRead
  repeat' first
    | with_reducible first | assumption | apply State.respond_kept | apply State.rxTarget_kept
        | refine Kept.ite ?_ ?_
    | split
    | with_reducible first | refine Kept.snd (by with_reducible assumption) ?_

theorem State.rxAtomic_kept {a : State} (s : State) (r : RFlow) (p : Packet) (h : Kept a s) :
    Kept a (State.rxAtomic s r p) := by
  unfold State.rxAtomic
  repeat' first
    | with_reducible assumption
    | with_reducible refine State.rxTarget_kept _ _ _ ?_
    | with_reducible refine State.respond_kept _ _ _ _ _ _ _ _ ?_
    | with_reducible refine State.atomicAt_kept _ _ _ _ _ _ _ ?_
    | split
    | with_reducible refine Kept.snd (by with_reducible assumption) ?_

theorem State.rxMsg_kept {a : State} (s : State) (p : Packet) (h : Kept a s) : Kept a (State.rxMsg s p).2 := by
  unfold State.rxMsg
  repeat' first
    | with_reducible first | assumption | apply State.mqRefuse_kept | apply State.mqAccept_kept
    | extract_lets +onlyGivenNames x1
    | split

theorem State.rxTrv_kept {a : State} (s : State) (r : RFlow) (p : Packet) (h : Kept a s) :
    Kept a (State.rxTrv s r p).2 := by
  unfold State.rxTrv
  repeat' first
    | with_reducible assumption
    | with_reducible refine State.store_kept _ _ _ _ ?_
    | with_reducible refine State.setRFlow_kept _ _ ?_
    | with_reducible refine State.write_kept _ _ _ ?_
    | with_reducible refine State.trvLand_kept _ _ _ _ _ _ _ _ _ ?_
    | (extract_lets +onlyGivenNames x1
       first
         | (refine Kept.cut (x := x1) ?_ ?_
            all_goals first | (with_reducible intro _; clear_value x1) | dsimp -zeta only [x1])
         | clear_value x1)
    | split

theorem State.rxArrival_kept {a : State} (s : State) (p : Packet) (h : Kept a s) : Kept a (State.rxArrival s p) := by
   unfold State.rxArrival; apply_rules [State.homeArrival_kept, State.colProto_kept, Kept.ite]

theorem State.rxRelease_kept {a : State} (s : State) (p : Packet) (h : Kept a s) : Kept a (State.rxRelease s p) := by
  unfold State.rxRelease
  repeat' first
    | with_reducible first | assumption | apply State.colCheck_kept | apply State.colRelease_kept
        | apply State.colProto_kept | refine Kept.ite ?_ ?_ | intro _ _ _ | refine Kept.foldl _ ?_ _ _ ?_

theorem State.rxQuery_kept {a : State} (s : State) (p : Packet) (h : Kept a s) :
    Kept a (State.rxQuery s p) := by
  unfold State.rxQuery
  repeat' first
    | with_reducible assumption
    | with_reducible refine State.ctrlSend_kept _ _ _ _ _ ?_
    | (extract_lets +onlyGivenNames x1
       first
         | (refine Kept.cut (x := x1) ?_ ?_
            all_goals first | (with_reducible intro _; clear_value x1) | dsimp -zeta only [x1])
         | clear_value x1)
    | split

theorem State.rxClose_kept {a : State} (s : State) (p : Packet) (h : Kept a s) :
    Kept a (State.rxClose s p) := by
  unfold State.rxClose
  repeat' first
    | with_reducible assumption
    | with_reducible refine State.answer_kept _ _ _ _ ?_
    | with_reducible refine State.dropRFlow_kept _ _ _ ?_
    | split

theorem State.rxCtrl_kept {a : State} (s : State) (p : Packet) (h : Kept a s) :
    Kept a (State.rxCtrl s p) := by
  unfold State.rxCtrl
  repeat' first
    | with_reducible assumption
    | with_reducible refine State.rxArrival_kept _ _ ?_
    | with_reducible refine State.rxRelease_kept _ _ ?_
    | with_reducible refine State.rxQuery_kept _ _ ?_
    | with_reducible refine State.loanGrant_kept _ _ _ _ ?_
    | with_reducible refine State.loanNotice_kept _ _ _ _ _ ?_
    | with_reducible refine State.loanRelease_kept _ _ _ _ ?_
    | with_reducible refine State.rxClose_kept _ _ ?_
    | with_reducible refine State.trvCredit_kept _ _ _ _ ?_
    | split

theorem State.rxApply_kept {a : State} (s : State) (r : RFlow) (p : Packet) (h : Kept a s) : Kept a (State.rxApply s r p).2 := by
  unfold State.rxApply
  repeat' first
    | with_reducible assumption
    | with_reducible refine State.rxWrite_kept _ _ _ ?_
    | with_reducible refine State.rxRead_kept _ _ _ ?_
    | with_reducible refine State.rxAtomic_kept _ _ _ ?_
    | with_reducible refine State.rxMsg_kept _ _ ?_
    | with_reducible refine State.rxTrv_kept _ _ _ ?_
    | with_reducible refine State.rxCtrl_kept _ _ ?_
    | split

theorem State.rxRun_kept {a : State} (y0 : Nat) (y1 : Nat) (y2 : Nat) (y3 : State) (h : Kept a y3) :
    Kept a (State.rxRun y0 y1 y2 y3) := by
  induction y0 generalizing y1 y2 y3 with
  | zero => exact h
  | succ n ih =>
  unfold State.rxRun
  repeat' first
    | with_reducible assumption
    | with_reducible refine ih _ _ _ ?_
    | with_reducible refine State.setRFlow_kept _ _ ?_
    | with_reducible refine State.rxApply_kept _ _ _ ?_
    | with_reducible refine State.sendNak_kept _ _ _ _ _ ?_
    | with_reducible refine State.sendAck_kept _ _ _ ?_
    | with_reducible refine Kept.ite ?_ ?_
    | (extract_lets +onlyGivenNames x1
       first
         | (refine Kept.cut (x := x1) ?_ ?_
            all_goals first | (with_reducible intro _; clear_value x1) | dsimp -zeta only [x1])
         | clear_value x1)
    | split
    | with_reducible refine Kept.snd (by with_reducible assumption) ?_

theorem State.rxTake_kept {a : State} (s : State) (r : RFlow) (x : RxCase) (h : Kept a s) : Kept a (State.rxTake s r x) := by
  cases x with
  | next y =>
    simp only [State.rxTake]
    exact State.rxRun_kept _ _ _ _ (State.setRFlow_kept _ _ h)
  | held y => exact State.sendAck_kept _ _ _ (State.setRFlow_kept _ _ h)
  | other y => exact State.setRFlow_kept _ _ h

theorem State.rxInOrder_kept {a : State} (s : State) (r : RFlow) (p : Packet) (h : Kept a s) :
    Kept a (State.rxInOrder s r p) := by
  unfold State.rxInOrder
  exact State.rxTake_kept _ _ _ h

theorem State.nakNoFlow_kept {a : State} (s : State) (p : Packet) (reason : Nat) (h : Kept a s) :
    Kept a (State.nakNoFlow s p reason) := by
   unfold State.nakNoFlow; apply_rules [State.emit_kept]

theorem State.rxRequest_kept {a : State} (s : State) (p : Packet) (h : Kept a s) : Kept a (State.rxRequest s p) := by
  unfold State.rxRequest
  repeat' first
    | with_reducible first | assumption | apply State.rxInOrder_kept | apply State.nakNoFlow_kept
    | split

theorem State.rspRun_kept {a : State} (y0 : Nat) (y1 : Nat) (y2 : State) (h : Kept a y2) :
    Kept a (State.rspRun y0 y1 y2) := by
  induction y0 generalizing y1 y2 with
  | zero => exact h
  | succ n ih =>
  unfold State.rspRun
  repeat' first
    | with_reducible assumption
    | with_reducible refine ih _ _ ?_
    | with_reducible refine State.setSFlow_kept _ _ _ ?_
    | with_reducible refine State.opDone_kept _ _ _ ?_
    | with_reducible refine State.ackResponses_kept _ _ ?_
    | split

theorem State.rxResponse_kept {a : State} (s : State) (p : Packet) (h : Kept a s) : Kept a (State.rxResponse s p) := by
  unfold State.rxResponse
  repeat' first
    | with_reducible first | assumption | apply State.rspRun_kept | apply State.setSFlow_kept
        | apply State.ackResponses_kept | refine Kept.ite ?_ ?_
    | split

theorem State.staleDrop_kept {a : State} (s : State) (h : Kept a s) : Kept a (State.staleDrop s) := by
   unfold State.staleDrop; apply_rules [State.event_kept, State.addSatF_kept]

theorem State.rxDeliver_kept {a : State} (s : State) (p : Packet) (h : Kept a s) :
    Kept a (State.rxDeliver s p) := by
  unfold State.rxDeliver
  repeat' first
    | with_reducible assumption
    | with_reducible refine State.addSatF_kept _ _ _ _ _ _ ?_
    | with_reducible refine State.staleDrop_kept _ ?_
    | with_reducible refine State.rxAck_kept _ _ ?_
    | with_reducible refine State.flowNak_kept _ _ ?_
    | with_reducible refine State.rxResponse_kept _ _ ?_
    | with_reducible refine State.rxRequest_kept _ _ ?_
    | with_reducible refine Kept.ite ?_ ?_

theorem State.relayOn_kept {a : State} (s : State) (p : Packet) (send : Packet → State → State) (h : Kept a s)
    (hs : ∀ p s, Kept a s → Kept a (send p s)) : Kept a (s.relayOn p send) := by
  unfold State.relayOn
  split
  · exact State.addSatF_kept _ _ _ _ _ _ h
  · exact hs _ _ h

theorem State.rxGroup_kept {a : State} (s : State) (p : Packet) (m : Nat) (h : Kept a s) : Kept a (State.rxGroup s p m) := by
  unfold State.rxGroup
  extract_lets deliver
  have hd : ∀ s, Kept a s → Kept a (deliver s) := by
    intro s hs
    show Kept a (if _ then _ else _)
    exact Kept.ite (Kept.ite (State.rxRelease_kept _ _ hs) (State.staleDrop_kept _ hs))
      (Kept.ite (State.addSatF_kept _ _ _ _ _ _ hs) hs)
  split
  · exact Kept.ite (hd s h) h
  · next g _ =>
    have h1 : Kept a (if s.fb F.NET_MG_CTL_SUB g then deliver s else s) := Kept.ite (hd s h) h
    exact Kept.ite (Kept.foldl _ (fun s l hs => State.relayOn_kept _ _ _ hs fun _ _ hq => State.send_kept _ _ _ hq) _ _ h1) h1

theorem State.relay_kept {a : State} (s : State) (p : Packet) (h : Kept a s) : Kept a (State.relay s p) := by
  unfold State.relay
  exact Kept.ite (State.addSatF_kept _ _ _ _ _ _ h) (State.relayOn_kept _ _ _ h fun _ _ hs => State.send_kept _ _ _ hs)

theorem State.netRx_kept {a : State} (s : State) (p : Packet) (h : Kept a s) :
    Kept a (State.netRx s p) := by
  unfold State.netRx
  repeat' first
    | with_reducible assumption
    | with_reducible refine State.addF_kept _ _ _ _ _ _ ?_
    | with_reducible refine State.addSatF_kept _ _ _ _ _ _ ?_
    | with_reducible refine State.rxDeliver_kept _ _ ?_
    | with_reducible refine State.rxGroup_kept _ _ _ ?_
    | with_reducible refine State.relay_kept _ _ ?_
    | with_reducible refine State.pfcAll_kept _ ?_
    | split

theorem State.rxType_kept {a : State} (s : State) (p : Packet) (t : Nat) (h : Kept a s) : Kept a (State.rxType s p t) := by
   unfold State.rxType; apply_rules [State.netRx_kept, Kept.ite]

theorem State.rxSub_kept {a : State} (s : State) (p : Packet) (t : Nat) (h : Kept a s) : Kept a (State.rxSub s p t) := by
   unfold State.rxSub; apply_rules [State.netRx_kept, Kept.ite]

theorem execWrite_kept {a : State} (p : Packet) (s : State) (h : Kept a s) : KeptO a (execWrite p s) := by
   unfold execWrite; apply_rules [State.rxType_kept, KeptO.next]

theorem execReadReq_kept {a : State} (p : Packet) (s : State) (h : Kept a s) : KeptO a (execReadReq p s) := by
   unfold execReadReq; apply_rules [State.rxType_kept, KeptO.next]

theorem execReadResp_kept {a : State} (p : Packet) (s : State) (h : Kept a s) : KeptO a (execReadResp p s) := by
   unfold execReadResp; apply_rules [State.rxType_kept, KeptO.next]

theorem execAtomicReq_kept {a : State} (p : Packet) (s : State) (h : Kept a s) : KeptO a (execAtomicReq p s) := by
   unfold execAtomicReq; apply_rules [State.rxType_kept, KeptO.next]

theorem execAtomicResp_kept {a : State} (p : Packet) (s : State) (h : Kept a s) : KeptO a (execAtomicResp p s) := by
   unfold execAtomicResp; apply_rules [State.rxType_kept, KeptO.next]

theorem execAck_kept {a : State} (p : Packet) (s : State) (h : Kept a s) : KeptO a (execAck p s) := by
   unfold execAck; apply_rules [State.rxType_kept, KeptO.next]

theorem execNak_kept {a : State} (p : Packet) (s : State) (h : Kept a s) : KeptO a (execNak p s) := by
   unfold execNak; apply_rules [State.rxType_kept, KeptO.next]

theorem execColArrival_kept {a : State} (p : Packet) (s : State) (h : Kept a s) : KeptO a (execColArrival p s) := by
   unfold execColArrival; apply_rules [State.rxSub_kept, KeptO.next]

theorem execColRelease_kept {a : State} (p : Packet) (s : State) (h : Kept a s) : KeptO a (execColRelease p s) := by
   unfold execColRelease; apply_rules [State.rxSub_kept, KeptO.next]

theorem execColQuery_kept {a : State} (p : Packet) (s : State) (h : Kept a s) : KeptO a (execColQuery p s) := by
   unfold execColQuery; apply_rules [State.rxSub_kept, KeptO.next]

theorem execLoanGrant_kept {a : State} (p : Packet) (s : State) (h : Kept a s) : KeptO a (execLoanGrant p s) := by
   unfold execLoanGrant; apply_rules [State.rxSub_kept, KeptO.next]

theorem execLoanNotice_kept {a : State} (p : Packet) (s : State) (h : Kept a s) : KeptO a (execLoanNotice p s) := by
   unfold execLoanNotice; apply_rules [State.rxSub_kept, KeptO.next]

theorem execLoanRelease_kept {a : State} (p : Packet) (s : State) (h : Kept a s) : KeptO a (execLoanRelease p s) := by
   unfold execLoanRelease; apply_rules [State.rxSub_kept, KeptO.next]

theorem execFlowClose_kept {a : State} (p : Packet) (s : State) (h : Kept a s) : KeptO a (execFlowClose p s) := by
   unfold execFlowClose; apply_rules [State.rxSub_kept, KeptO.next]

theorem execTrvCredit_kept {a : State} (p : Packet) (s : State) (h : Kept a s) : KeptO a (execTrvCredit p s) := by
   unfold execTrvCredit; apply_rules [State.rxSub_kept, KeptO.next]

theorem execMessageArrival_kept {a : State} (src : Src) (s : State) (h : Kept a s) :
    KeptO a (execMessageArrival src s) := by
  unfold execMessageArrival
  repeat' first
    | with_reducible first | assumption | apply State.msgOffer_kept | apply State.rxType_kept | refine KeptO.next ?_
    | split

theorem execTraverseTotalLanding_kept {a : State} (src : Src) (s : State) (h : Kept a s) :
    KeptO a (execTraverseTotalLanding src s) := by
  unfold execTraverseTotalLanding
  repeat' first
    | with_reducible first | assumption | apply State.landOwn_kept | apply State.rxType_kept | refine KeptO.next ?_
    | split

theorem execFrameRelay_kept {a : State} (p : Packet) (s : State) (h : Kept a s) : KeptO a (execFrameRelay p s) := by
   unfold execFrameRelay; apply_rules [State.netRx_kept, KeptO.ite, KeptO.next]

theorem execReceivedFrameDrop_kept {a : State} (p : Packet) (s : State) (h : Kept a s) :
    KeptO a (execReceivedFrameDrop p s) := by
   unfold execReceivedFrameDrop; apply_rules [State.netRx_kept, KeptO.ite, KeptO.next]

theorem execColQueryPoll_kept {a : State} (k : Nat) (s : State) (h : Kept a s) : KeptO a (execColQueryPoll k s) := by
  unfold execColQueryPoll
  repeat' first
    | with_reducible first | assumption | apply State.ctrlSend_kept | refine Kept.ite ?_ ?_ | refine KeptO.ite ?_ ?_
        | refine KeptO.next ?_
    | (extract_lets +onlyGivenNames x1
       refine Kept.cut (x := x1) ?_ ?_
       all_goals first | (with_reducible intro _; clear_value x1) | dsimp -zeta only [x1])
    | (with_reducible refine Kept.lit ?_ rfl rfl rfl rfl rfl rfl; with_reducible assumption)

theorem State.linkState_kept {a : State} (s : State) (l st : Nat) (h : Kept a s) : Kept a (State.linkState s l st) := by
  unfold State.linkState
  have h1 : Kept a ((s.setF F.NET_LINK_STATUS_STATE st l).event F.NET_EVENT_LINK) :=
    State.event_kept _ _ _ _ _ (State.setF_kept _ _ _ _ _ _ h)
  dsimp only
  refine Kept.ite h ?_
  have h2 : Kept a (if s.f F.NET_LINK_STATUS_STATE l = 2 then
      { (s.setF F.NET_LINK_STATUS_STATE st l).event F.NET_EVENT_LINK with
        linkDown := SMap.set id none ((s.setF F.NET_LINK_STATUS_STATE st l).event F.NET_EVENT_LINK).linkDown l
          (some ((s.setF F.NET_LINK_STATUS_STATE st l).event F.NET_EVENT_LINK).clk.now) }
      else (s.setF F.NET_LINK_STATUS_STATE st l).event F.NET_EVENT_LINK) :=
    Kept.ite (h1.same rfl rfl rfl rfl rfl rfl) h1
  exact Kept.ite (State.netFlush_kept _ (h2.same rfl rfl rfl rfl rfl rfl)) h2

theorem execLinkStateChange_kept {a : State} (l : Nat) (ev : LinkEvent) (s : State) (h : Kept a s) :
    KeptO a (execLinkStateChange l ev s) := by
  unfold execLinkStateChange
  repeat' first
    | with_reducible assumption
    | with_reducible refine State.setF_kept _ _ _ _ _ _ ?_
    | with_reducible refine State.linkState_kept _ _ _ ?_
    | with_reducible refine State.addSatF_kept _ _ _ _ _ _ ?_
    | with_reducible refine KeptO.next ?_
    | with_reducible refine KeptO.ite ?_ ?_
    | with_reducible intro _ _ _
    | with_reducible refine Kept.foldl _ ?_ _ _ ?_
    | split

theorem execLinkFault_kept {a : State} (l : Nat) (s : State) (h : Kept a s) : KeptO a (execLinkFault l s) := by
  unfold execLinkFault
  repeat' first
    | with_reducible first | assumption | apply State.linkState_kept | refine KeptO.next ?_
    | split

theorem State.portDown_kept {a : State} (s : State) (p : Nat) (h : Kept a s) : Kept a (State.portDown s p) := by
   unfold State.portDown; apply_rules [State.linkState_kept, Kept.iter]

theorem execPfcFrame_kept {a : State} (port : Nat) (prio : Nat) (pause : Bool) (s : State) (h : Kept a s) :
    KeptO a (execPfcFrame port prio pause s) := by
  unfold execPfcFrame
  repeat' first
    | with_reducible assumption
    | with_reducible refine State.netFlush_kept _ ?_
    | with_reducible refine KeptO.next ?_
    | with_reducible refine KeptO.ite ?_ ?_
    | (with_reducible refine Kept.lit ?_ rfl rfl rfl rfl rfl rfl
       first
         | with_reducible assumption
         | with_reducible refine State.netFlush_kept _ ?_)

/-! ### Machine/Vector.lean -/

theorem State.stream_kept {a : State} (s : State) (g c : Nat) (snap : Mem) (f n : Nat) (r : Nat × Nat) (h : Kept a s) :
    Kept a (State.stream s g c snap f n r).2 := by
  unfold State.stream
  repeat' first
    | with_reducible first | assumption | apply State.raced_kept
    | split

theorem State.vecIssue_kept {a : State} (s : State) (g c k : Nat) (op : Op) (h : Kept a s) :
    Kept a (State.vecIssue s g c k op) := by
  unfold State.vecIssue
  repeat' first
    | with_reducible first | assumption | apply State.issue_kept | apply State.setCore_kept
        | apply State.retire_kept | refine Kept.ite ?_ ?_ | intro _ _ _

theorem execVadd_kept {a : State} (g c k : Nat) (s : State) (h : Kept a s) : KeptO a (execVadd g c k s) := by
   unfold execVadd; apply_rules [State.vecIssue_kept, KeptO.next]

theorem execVsub_kept {a : State} (g c k : Nat) (s : State) (h : Kept a s) : KeptO a (execVsub g c k s) := by
   unfold execVsub; apply_rules [State.vecIssue_kept, KeptO.next]

theorem execVmul_kept {a : State} (g c k : Nat) (s : State) (h : Kept a s) : KeptO a (execVmul g c k s) := by
   unfold execVmul; apply_rules [State.vecIssue_kept, KeptO.next]

theorem execVshl_kept {a : State} (g c k : Nat) (s : State) (h : Kept a s) : KeptO a (execVshl g c k s) := by
   unfold execVshl; apply_rules [State.vecIssue_kept, KeptO.next]

theorem execVshr_kept {a : State} (g c k : Nat) (s : State) (h : Kept a s) : KeptO a (execVshr g c k s) := by
   unfold execVshr; apply_rules [State.vecIssue_kept, KeptO.next]

theorem execVand_kept {a : State} (g c k : Nat) (s : State) (h : Kept a s) : KeptO a (execVand g c k s) := by
   unfold execVand; apply_rules [State.vecIssue_kept, KeptO.next]

theorem execVor_kept {a : State} (g c k : Nat) (s : State) (h : Kept a s) : KeptO a (execVor g c k s) := by
   unfold execVor; apply_rules [State.vecIssue_kept, KeptO.next]

theorem execVxor_kept {a : State} (g c k : Nat) (s : State) (h : Kept a s) : KeptO a (execVxor g c k s) := by
   unfold execVxor; apply_rules [State.vecIssue_kept, KeptO.next]

theorem execVcmp_kept {a : State} (g c k : Nat) (s : State) (h : Kept a s) : KeptO a (execVcmp g c k s) := by
   unfold execVcmp; apply_rules [State.vecIssue_kept, KeptO.next]

theorem execVsel_kept {a : State} (g c k : Nat) (s : State) (h : Kept a s) : KeptO a (execVsel g c k s) := by
   unfold execVsel; apply_rules [State.vecIssue_kept, KeptO.next]

theorem execVfadd_kept {a : State} (g c k : Nat) (s : State) (h : Kept a s) : KeptO a (execVfadd g c k s) := by
   unfold execVfadd; apply_rules [State.vecIssue_kept, KeptO.next]

theorem execVfmul_kept {a : State} (g c k : Nat) (s : State) (h : Kept a s) : KeptO a (execVfmul g c k s) := by
   unfold execVfmul; apply_rules [State.vecIssue_kept, KeptO.next]

theorem execVfma_kept {a : State} (g c k : Nat) (s : State) (h : Kept a s) : KeptO a (execVfma g c k s) := by
   unfold execVfma; apply_rules [State.vecIssue_kept, KeptO.next]

theorem execVcvt_kept {a : State} (g c k : Nat) (s : State) (h : Kept a s) : KeptO a (execVcvt g c k s) := by
   unfold execVcvt; apply_rules [State.vecIssue_kept, KeptO.next]

theorem execVrcp_kept {a : State} (g c k : Nat) (s : State) (h : Kept a s) : KeptO a (execVrcp g c k s) := by
   unfold execVrcp; apply_rules [State.vecIssue_kept, KeptO.next]

theorem execVrsq_kept {a : State} (g c k : Nat) (s : State) (h : Kept a s) : KeptO a (execVrsq g c k s) := by
   unfold execVrsq; apply_rules [State.vecIssue_kept, KeptO.next]

theorem execVrstep_kept {a : State} (g c k : Nat) (s : State) (h : Kept a s) : KeptO a (execVrstep g c k s) := by
   unfold execVrstep; apply_rules [State.vecIssue_kept, KeptO.next]

theorem execVredsum_kept {a : State} (g c k : Nat) (s : State) (h : Kept a s) : KeptO a (execVredsum g c k s) := by
   unfold execVredsum; apply_rules [State.vecIssue_kept, KeptO.next]

theorem execVredmax_kept {a : State} (g c k : Nat) (s : State) (h : Kept a s) : KeptO a (execVredmax g c k s) := by
   unfold execVredmax; apply_rules [State.vecIssue_kept, KeptO.next]

theorem execVredmin_kept {a : State} (g c k : Nat) (s : State) (h : Kept a s) : KeptO a (execVredmin g c k s) := by
   unfold execVredmin; apply_rules [State.vecIssue_kept, KeptO.next]

theorem execVupd_kept {a : State} (g c k : Nat) (s : State) (h : Kept a s) : KeptO a (execVupd g c k s) := by
   unfold execVupd; apply_rules [State.vecIssue_kept, KeptO.next]

theorem execVcfg_kept {a : State} (g c k : Nat) (s : State) (h : Kept a s) : KeptO a (execVcfg g c k s) := by
  unfold execVcfg
  repeat' first
    | with_reducible first | assumption | apply State.issue_kept | apply State.retire_kept | refine KeptO.next ?_
        | intro _ _ _

/-! ### Machine/Update.lean -/

theorem State.vecFault_kept {a : State} (s : State) (g : Nat) (o : VOp) (code : Nat) (h : Kept a s) :
    Kept a (State.vecFault s g o code) := by
   unfold State.vecFault; apply_rules [State.raiseWho_kept, State.setCore_kept]

theorem State.setVec_kept {a : State} (s : State) (g : Nat) (o : VOp) (h : Kept a s) : Kept a (State.setVec s g o) :=
  h.same rfl rfl rfl rfl rfl rfl

theorem State.updStart_kept {a : State} (s : State) (g : Nat) (o : VOp) (h : Kept a s) : Kept a (State.updStart s g o) := by
  unfold State.updStart
  repeat' first
    | with_reducible assumption
    | with_reducible refine State.vecFault_kept _ _ _ _ ?_
    | with_reducible refine State.setVec_kept _ _ _ ?_
    | with_reducible refine Kept.ite ?_ ?_

theorem State.elemStart_kept {a : State} (s : State) (g : Nat) (o : VOp) (h : Kept a s) :
    Kept a (State.elemStart s g o) := by
  unfold State.elemStart
  repeat' first
    | with_reducible first | assumption | apply State.vecFault_kept | apply State.setVec_kept
        | refine Kept.ite ?_ ?_
    | split

theorem execVectorInstructionStart_kept {a : State} (g : Nat) (s : State) (h : Kept a s) :
    KeptO a (execVectorInstructionStart g s) := by
  unfold execVectorInstructionStart
  repeat' first
    | with_reducible first | assumption | apply State.updStart_kept | apply State.elemStart_kept
        | refine KeptO.next ?_
    | split

theorem State.vecDone_kept {a : State} (s : State) (g : Nat) (o : VOp) (fl : FFlags) (h : Kept a s) :
    Kept a (State.vecDone s g o fl) := by
   unfold State.vecDone; apply_rules [State.setCore_kept, State.setReg_kept, State.bracketOvf_kept,
    State.progress_kept, Kept.ite]

theorem State.elemComplete_kept {a : State} (s : State) (g : Nat) (o : VOp) (h : Kept a s) :
    Kept a (State.elemComplete s g o) := by
  unfold State.elemComplete
  repeat' first
    | with_reducible assumption
    | with_reducible refine State.vecFault_kept _ _ _ _ ?_
    | with_reducible refine State.stream_kept _ _ _ _ _ _ _ ?_
    | with_reducible refine State.vectorWrite_kept _ _ _ _ ?_
    | with_reducible refine State.vecDone_kept _ _ _ _ ?_
    | with_reducible refine Kept.ite ?_ ?_
    | split

theorem State.uread_kept {a : State} (s : State) (g : Nat) (o : VOp) (f n addr len : Nat) (h : Kept a s) :
    Kept a (State.uread s g o f n addr len).2 := by
   unfold State.uread; apply_rules [State.stream_kept]

theorem State.uwrite_kept {a : State} (s : State) (g : Nat) (c : Nat) (f : Nat) (addr : Nat) (es : List Nat) (h : Kept a s) :
    Kept a (State.uwrite s g c f addr es) := by
  unfold State.uwrite
  repeat' first
    | with_reducible assumption
    | with_reducible refine State.vectorWrite_kept _ _ _ _ ?_
    | split

theorem State.updApply_kept {a : State} (s : State) (g : Nat) (o : VOp) (h : Kept a s) :
    Kept a (State.updApply s g o).1 := by
  unfold State.updApply
  repeat' first
    | with_reducible first | assumption | apply State.uread_kept | apply State.uwrite_kept | refine Kept.ite ?_ ?_
    | split

theorem State.updStats_kept {a : State} (s : State) (g : Nat) (o : VOp) (h : Kept a s) : Kept a (s.updStats g o).1 := by
  unfold State.updStats
  extract_lets u c
  have h1 := State.uread_kept s g o u.gf 16384 (wordAt u.sd 3) (tileBytes u.gf) h
  generalize State.uread s _ _ _ _ _ _ = q at h1 ⊢
  obtain ⟨ge, s⟩ := q
  dsimp -zeta only at h1 ⊢
  have h2 := State.uread_kept s g o 0 u.rows (wordAt u.ld 12) (8 * u.rows) h1
  generalize State.uread s _ _ _ _ _ _ = q at h2 ⊢
  obtain ⟨ra, s⟩ := q
  dsimp -zeta only at h2 ⊢
  have h3 := State.uread_kept s g o 0 u.cols (wordAt u.ld 13) (8 * u.cols) h2
  generalize State.uread s _ _ _ _ _ _ = q at h3 ⊢
  obtain ⟨ca, s⟩ := q
  dsimp -zeta only at h3 ⊢
  extract_lets x1 x2 x3 x4 x5 x6 x7 x8 s1 s2
  have h6 : Kept a x6 := State.uwrite_kept _ _ _ _ _ _ (State.uwrite_kept _ _ _ _ _ _ h3)
  split
  · exact h6
  · exact State.uwrite_kept _ _ _ _ _ _ (State.uwrite_kept _ _ _ _ _ _ (State.uread_kept _ _ _ _ _ _ _ (State.uread_kept _ _ _ _ _ _ _ h6)))

theorem State.updComplete_kept {a : State} (s : State) (g : Nat) (o : VOp) (h : Kept a s) :
    Kept a (State.updComplete s g o) := by
  unfold State.updComplete
  repeat' first
    | with_reducible assumption
    | with_reducible refine State.vecFault_kept _ _ _ _ ?_
    | with_reducible refine State.updStats_kept _ _ _ ?_
    | with_reducible refine State.updApply_kept _ _ _ ?_
    | with_reducible refine State.progress_kept _ _ _ ?_
    | with_reducible refine State.vectorWrite_kept _ _ _ _ ?_
    | with_reducible refine State.addF_kept _ _ _ _ _ _ ?_
    | with_reducible refine State.setReg_kept _ _ _ ?_
    | with_reducible refine State.event_kept _ _ _ _ _ ?_
    | with_reducible refine State.vecDone_kept _ _ _ _ ?_
    | with_reducible refine Kept.ite ?_ ?_
    | split

theorem execVectorInstructionComplete_kept {a : State} (g : Nat) (s : State) (h : Kept a s) :
    KeptO a (execVectorInstructionComplete g s) := by
  unfold execVectorInstructionComplete
  repeat' first
    | with_reducible first | assumption | apply State.updComplete_kept | apply State.elemComplete_kept
        | refine KeptO.next ?_
    | split

/-! ### Machine/Matrix.lean -/

theorem State.mtxIssue_kept {a : State} (s : State) (g c k : Nat) (op : Op) (h : Kept a s) :
    Kept a (State.mtxIssue s g c k op) := by
  unfold State.mtxIssue
  repeat' first
    | with_reducible first | assumption | apply State.issue_kept | apply State.setCore_kept
        | apply State.retire_kept | refine Kept.ite ?_ ?_ | intro _ _ _

theorem execMma_kept {a : State} (g c k : Nat) (s : State) (h : Kept a s) : KeptO a (execMma g c k s) := by
   unfold execMma; apply_rules [State.mtxIssue_kept, KeptO.next]

theorem execMwb_kept {a : State} (g c k : Nat) (s : State) (h : Kept a s) : KeptO a (execMwb g c k s) := by
   unfold execMwb; apply_rules [State.mtxIssue_kept, KeptO.next]

theorem execMtin_kept {a : State} (g c k : Nat) (s : State) (h : Kept a s) : KeptO a (execMtin g c k s) := by
   unfold execMtin; apply_rules [State.mtxIssue_kept, KeptO.next]

theorem execMtout_kept {a : State} (g c k : Nat) (s : State) (h : Kept a s) : KeptO a (execMtout g c k s) := by
   unfold execMtout; apply_rules [State.mtxIssue_kept, KeptO.next]

theorem execMlb_kept {a : State} (g c k : Nat) (s : State) (h : Kept a s) : KeptO a (execMlb g c k s) := by
   unfold execMlb; apply_rules [State.mtxIssue_kept, KeptO.next]

theorem execMle_kept {a : State} (g c k : Nat) (s : State) (h : Kept a s) : KeptO a (execMle g c k s) := by
   unfold execMle; apply_rules [State.mtxIssue_kept, KeptO.next]

theorem State.setMtx_kept {a : State} (s : State) (g : Nat) (o : MOp) (h : Kept a s) : Kept a (State.setMtx s g o) :=
  h.same rfl rfl rfl rfl rfl rfl

theorem State.dropMtx_kept {a : State} (s : State) (g seq : Nat) (h : Kept a s) : Kept a (State.dropMtx s g seq) :=
  h.same rfl rfl rfl rfl rfl rfl

theorem State.mtxFault_kept {a : State} (s : State) (g : Nat) (o : MOp) (code : Nat) (addr : optParam (Option Nat) none) (h : Kept a s) :
    Kept a (State.mtxFault s g o code addr) := by
  unfold State.mtxFault
  repeat' first
    | with_reducible first | assumption | apply State.raiseWho_kept | apply State.dropMtx_kept

theorem State.startMma_kept {a : State} (s : State) (g : Nat) (o : MOp) (h : Kept a s) : Kept a (State.startMma s g o) := by
  unfold State.startMma
  repeat' first
    | with_reducible first | assumption | apply State.mtxFault_kept | apply State.setMtx_kept
        | refine Kept.ite ?_ ?_
    | split

theorem State.beginMtx_kept {a : State} (s : State) (g : Nat) (o : MOp) (h : Kept a s) :
    Kept a (State.beginMtx s g o) := by
  unfold State.beginMtx
  repeat' first
    | with_reducible assumption
    | with_reducible refine State.setMtx_kept _ _ _ ?_

theorem State.startMwb_kept {a : State} (s : State) (g : Nat) (o : MOp) (h : Kept a s) : Kept a (State.startMwb s g o) := by
   unfold State.startMwb; apply_rules [State.mtxFault_kept, State.setMtx_kept, Kept.ite]

theorem State.startMlb_kept {a : State} (s : State) (g : Nat) (o : MOp) (h : Kept a s) : Kept a (State.startMlb s g o) := by
  unfold State.startMlb
  repeat' first
    | with_reducible assumption
    | with_reducible refine State.mtxFault_kept _ _ _ _ _ ?_
    | with_reducible refine State.setBracket_kept _ _ _ _ _ ?_
    | with_reducible refine State.setF_kept _ _ _ _ _ _ ?_
    | with_reducible refine State.setMtx_kept _ _ _ ?_
    | with_reducible refine Kept.ite ?_ ?_
    | split

theorem State.startMle_kept {a : State} (s : State) (g : Nat) (o : MOp) (h : Kept a s) : Kept a (State.startMle s g o) := by
  unfold State.startMle
  repeat' first
    | with_reducible first | assumption | apply State.setBracket_kept | apply State.setMtx_kept
        | apply State.setF_kept | apply State.mtxFault_kept
    | extract_lets +onlyGivenNames x1
    | split

theorem execMatrixInstructionStart_kept {a : State} (g : Nat) (s : State) (h : Kept a s) :
    KeptO a (execMatrixInstructionStart g s) := by
  unfold execMatrixInstructionStart
  repeat' first
    | with_reducible first | assumption | apply State.startMma_kept | apply State.startMwb_kept
        | apply State.startMlb_kept | apply State.startMle_kept | apply State.mtxFault_kept
        | apply State.setMtx_kept | refine KeptO.next ?_
    | split

theorem State.mtxRaised_kept {a : State} (s : State) (g : Nat) (c : Nat) (fl : FFlags) (h : Kept a s) :
    Kept a (State.mtxRaised s g c fl) := by
  unfold State.mtxRaised
  repeat' first
    | with_reducible assumption
    | with_reducible refine State.setReg_kept _ _ _ ?_

theorem State.mtxFlags_kept {a : State} (s : State) (g : Nat) (o : MOp) (fl : FFlags) (h : Kept a s) :
    Kept a (State.mtxFlags s g o fl) := by
   unfold State.mtxFlags; apply_rules [State.setReg_kept, State.bracketOvf_kept, Kept.ite]

theorem State.tileElems_kept {a : State} (s : State) (g : Nat) (o : MOp) (f addr : Nat) (h : Kept a s) :
    Kept a (State.tileElems s g o f addr).2 := by
  unfold State.tileElems
  repeat' first
    | with_reducible first | assumption | apply State.raced_kept
    | split

theorem State.mmaComplete_kept {a : State} (s : State) (g : Nat) (o : MOp) (h : Kept a s) : Kept a (State.mmaComplete s g o) := by
  unfold State.mmaComplete
  repeat' first
    | with_reducible assumption
    | with_reducible refine State.dropMtx_kept _ _ _ ?_
    | with_reducible refine State.raiseWho_kept _ _ _ _ _ ?_
    | with_reducible refine State.tileElems_kept _ _ _ _ _ ?_
    | with_reducible refine State.progress_kept _ _ _ ?_
    | with_reducible refine State.mtxFlags_kept _ _ _ _ ?_
    | with_reducible refine State.setAcc_kept _ _ _ _ _ _ ?_
    | with_reducible refine Kept.ite ?_ ?_
    | split

theorem State.setAccSrc_kept {a : State} (s : State) (g c a3 : Nat) (x : Option AccSrc) (h : Kept a s) :
    Kept a (State.setAccSrc s g c a3 x) :=
  h.same rfl rfl rfl rfl rfl rfl

theorem State.gnsLast_kept {a : State} (s : State) (g : Nat) (o : MOp) (h : Kept a s) :
    Kept a (State.gnsLast s g o) := by
  unfold State.gnsLast
  repeat' first
    | with_reducible assumption
    | with_reducible refine State.setAccSrc_kept _ _ _ _ _ ?_
    | with_reducible refine State.gnsAdd_kept _ _ _ _ ?_
    | (extract_lets +onlyGivenNames x1
       first
         | (refine Kept.cut (x := x1) ?_ ?_
            all_goals first | (with_reducible intro _; clear_value x1) | dsimp -zeta only [x1])
         | clear_value x1)
    | split

theorem State.mwbComplete_kept {a : State} (s : State) (g : Nat) (o : MOp) (h : Kept a s) :
    Kept a (State.mwbComplete s g o) := by
  unfold State.mwbComplete
  repeat' first
    | with_reducible assumption
    | with_reducible refine State.mtxFault_kept _ _ _ _ _ ?_
    | with_reducible refine State.matrixWrite_kept _ _ _ _ ?_
    | with_reducible refine State.gnsLast_kept _ _ _ ?_
    | with_reducible refine State.setAcc_kept _ _ _ _ _ _ ?_
    | with_reducible refine State.mtxFlags_kept _ _ _ _ ?_
    | with_reducible refine State.dropMtx_kept _ _ _ ?_
    | with_reducible refine State.progress_kept _ _ _ ?_
    | with_reducible refine Kept.ite ?_ ?_
    | split

theorem State.mtinComplete_kept {a : State} (s : State) (g : Nat) (o : MOp) (h : Kept a s) : Kept a (State.mtinComplete s g o) := by
  unfold State.mtinComplete
  repeat' first
    | with_reducible assumption
    | with_reducible refine State.dropMtx_kept _ _ _ ?_
    | with_reducible refine State.raiseWho_kept _ _ _ _ _ ?_
    | with_reducible refine State.setAcc_kept _ _ _ _ _ _ ?_
    | with_reducible refine State.progress_kept _ _ _ ?_
    | with_reducible refine State.setF_kept _ _ _ _ _ _ ?_
    | with_reducible refine State.setAccSrc_kept _ _ _ _ _ ?_
    | with_reducible refine State.creditUp_kept _ _ _ _ ?_
    | with_reducible refine State.setTrvState_kept _ _ _ _ _ ?_
    | (extract_lets +onlyGivenNames x1
       refine Kept.cut (x := x1) ?_ ?_
       all_goals first | (with_reducible intro _; clear_value x1) | dsimp -zeta only [x1])
    | split
    | (with_reducible refine Kept.lit ?_ rfl rfl rfl rfl rfl rfl
       first
         | with_reducible assumption
         | with_reducible refine State.dropMtx_kept _ _ _ ?_
         | with_reducible refine State.raiseWho_kept _ _ _ _ _ ?_
         | with_reducible refine State.setAcc_kept _ _ _ _ _ _ ?_
         | with_reducible refine State.progress_kept _ _ _ ?_
         | with_reducible refine State.setF_kept _ _ _ _ _ _ ?_
         | with_reducible refine State.setAccSrc_kept _ _ _ _ _ ?_
         | with_reducible refine State.creditUp_kept _ _ _ _ ?_
         | with_reducible refine State.setTrvState_kept _ _ _ _ _ ?_
         | with_reducible refine Kept.ite ?_ ?_
         | with_reducible refine Kept.iter _ _ _ ?_ ?_)

theorem State.lateComplete_kept {a : State} (s : State) (g : Nat) (o : MOp) (h : Kept a s) :
    Kept a (State.lateComplete s g o) := by
  unfold State.lateComplete
  repeat' first
    | with_reducible assumption
    | with_reducible refine State.dropMtx_kept _ _ _ ?_
    | with_reducible refine State.addF_kept _ _ _ _ _ _ ?_
    | with_reducible refine State.putArea_kept _ _ _ ?_
    | with_reducible refine State.patchSnaps_kept _ _ _ _ _ ?_
    | with_reducible refine State.setF_kept _ _ _ _ _ _ ?_
    | with_reducible refine State.setAcc_kept _ _ _ _ _ _ ?_
    | with_reducible refine State.setHop_kept _ _ _ _ _ ?_
    | with_reducible refine State.mtxRaised_kept _ _ _ _ ?_
    | with_reducible refine State.setTrvState_kept _ _ _ _ _ ?_
    | with_reducible refine State.creditUp_kept _ _ _ _ ?_
    | with_reducible refine State.progress_kept _ _ _ ?_
    | with_reducible refine State.raiseWho_kept _ _ _ _ _ ?_
    | (extract_lets +onlyGivenNames x1
       first
         | (refine Kept.cut (x := x1) ?_ ?_
            all_goals first | (with_reducible intro _; clear_value x1) | dsimp -zeta only [x1])
         | clear_value x1)
    | split

theorem State.sendComplete_kept {a : State} (s : State) (g : Nat) (o : MOp) (h : Kept a s) :
    Kept a (State.sendComplete s g o) := by
  unfold State.sendComplete
  repeat' first
    | with_reducible assumption
    | with_reducible refine State.dropMtx_kept _ _ _ ?_
    | with_reducible refine State.raiseWho_kept _ _ _ _ _ ?_
    | with_reducible refine State.gnsAdd_kept _ _ _ _ ?_
    | with_reducible refine State.trvSend_kept _ _ _ _ _ _ ?_
    | with_reducible refine State.setAcc_kept _ _ _ _ _ _ ?_
    | with_reducible refine State.setHop_kept _ _ _ _ _ ?_
    | with_reducible refine State.setTrvState_kept _ _ _ _ _ ?_
    | with_reducible refine State.creditUp_kept _ _ _ _ ?_
    | with_reducible refine State.progress_kept _ _ _ ?_
    | with_reducible refine Kept.ite ?_ ?_

theorem State.mtoutComplete_kept {a : State} (s : State) (g : Nat) (o : MOp) (h : Kept a s) :
    Kept a (State.mtoutComplete s g o) := by
  unfold State.mtoutComplete
  repeat' first
    | with_reducible assumption
    | with_reducible refine State.mtxFault_kept _ _ _ _ _ ?_
    | with_reducible refine State.lateComplete_kept _ _ _ ?_
    | with_reducible refine State.sendComplete_kept _ _ _ ?_
    | with_reducible refine Kept.ite ?_ ?_

theorem execMatrixInstructionComplete_kept {a : State} (g n : Nat) (s : State) (h : Kept a s) :
    KeptO a (execMatrixInstructionComplete g n s) := by
  unfold execMatrixInstructionComplete
  repeat' first
    | with_reducible first | assumption | apply State.mmaComplete_kept | apply State.mwbComplete_kept
        | apply State.mtinComplete_kept | apply State.mtoutComplete_kept | apply State.progress_kept
        | apply State.dropMtx_kept | refine KeptO.next ?_
    | split

theorem State.closeBracket_kept {a : State} (s : State) (g c cls : Nat) (b : Bracket) (h : Kept a s) :
    Kept a (State.closeBracket s g c cls b) := by
  unfold State.closeBracket
  repeat' first
    | with_reducible first | assumption | apply State.setReg_kept | apply State.setBracket_kept
        | apply State.dropMtx_kept
    | split

theorem State.layerDecide_kept {a : State} (s : State) (g : Nat) (c : Nat) (cls : Nat) (b : Bracket) (key : Nat) (flag : Bool) (h : Kept a s) :
    Kept a (State.layerDecide s g c cls b key flag) := by
  unfold State.layerDecide
  repeat' first
    | with_reducible assumption
    | with_reducible refine State.closeBracket_kept _ _ _ _ _ ?_
    | with_reducible refine State.token_kept _ _ _ _ _ ?_
    | with_reducible refine State.matrixWrite_kept _ _ _ _ ?_
    | with_reducible refine State.progress_kept _ _ _ ?_
    | with_reducible refine State.addF_kept _ _ _ _ _ _ ?_
    | with_reducible refine State.setReg_kept _ _ _ ?_
    | with_reducible refine State.setF_kept _ _ _ _ _ _ ?_
    | with_reducible refine State.event_kept _ _ _ _ _ ?_
    | with_reducible refine State.trnCause_kept _ _ _ _ ?_
    | with_reducible refine State.raiseWho_kept _ _ _ _ _ ?_
    | with_reducible refine Kept.ite ?_ ?_
    | (extract_lets +onlyGivenNames x1
       first
         | (refine Kept.cut (x := x1) ?_ ?_
            all_goals first | (with_reducible intro _; clear_value x1) | dsimp -zeta only [x1])
         | clear_value x1)
    | split

theorem State.bracketFault_kept {a : State} (s : State) (g c cls : Nat) (b : Bracket) (code : Nat) (h : Kept a s) :
    Kept a (State.bracketFault s g c cls b code) := by
   unfold State.bracketFault; apply_rules [State.raiseWho_kept, State.closeBracket_kept]

theorem State.layerCol_kept {a : State} (s : State) (g : Nat) (c : Nat) (cls : Nat) (id : Nat) (b : Bracket) (h : Kept a s) : Kept a (State.layerCol s g c cls id b) := by
  unfold State.layerCol
  repeat' first
    | with_reducible assumption
    | with_reducible refine State.bracketFault_kept _ _ _ _ _ _ ?_
    | with_reducible refine State.setF_kept _ _ _ _ _ _ ?_
    | with_reducible refine State.colSend_kept _ _ _ _ _ _ ?_
    | with_reducible refine State.colStall_kept _ _ _ ?_
    | with_reducible refine Kept.ite ?_ ?_

theorem execLayerEndDecision_kept {a : State} (g c cls : Nat) (s : State) (h : Kept a s) :
    KeptO a (execLayerEndDecision g c cls s) := by
  unfold execLayerEndDecision
  repeat' first
    | with_reducible first | assumption | apply State.bracketFault_kept | apply State.layerDecide_kept
        | apply State.layerCol_kept | refine KeptO.ite ?_ ?_ | refine KeptO.next ?_
    | split

theorem State.enginesReset_kept {a : State} (s : State) (g : Nat) (c : Nat) (h : Kept a s) : Kept a (State.enginesReset s g c) := by
  unfold State.enginesReset
  repeat' first
    | with_reducible assumption
    | with_reducible refine State.setCore_kept _ _ _ ?_
    | with_reducible refine State.setAcc_kept _ _ _ _ _ _ ?_
    | with_reducible refine State.setBracket_kept _ _ _ _ _ ?_
    | with_reducible refine State.trvReset_kept _ _ _ ?_
    | with_reducible refine State.setReg_kept _ _ _ ?_
    | (with_reducible refine Kept.lit ?_ rfl rfl rfl rfl rfl rfl
       first
         | with_reducible assumption
         | with_reducible refine State.setCore_kept _ _ _ ?_
         | with_reducible refine State.setAcc_kept _ _ _ _ _ _ ?_
         | with_reducible refine State.setBracket_kept _ _ _ _ _ ?_)

/-! ### Machine/Lend.lean -/

theorem State.idleTimers_kept {a : State} (s : State) (h : Kept a s) :
    Kept a (State.idleTimers s) := by
  unfold State.idleTimers
  repeat' first
    | with_reducible assumption
    | with_reducible refine State.setCore_kept _ _ _ ?_
    | with_reducible intro _ _ _
    | with_reducible refine Kept.foldl _ ?_ _ _ ?_

theorem State.lendCount_kept {a : State} (s : State) (d : Nat) (h : Kept a s) : Kept a (State.lendCount s d) :=
  h.same rfl rfl rfl rfl rfl rfl

theorem State.lendReturn_kept {a : State} (s : State) (d : Nat) (h : Kept a s) : Kept a (State.lendReturn s d) := by
  unfold State.lendReturn
  repeat' first
    | with_reducible first | assumption | apply State.setF_kept | apply State.lendCount_kept | intro _ _ _
        | refine Kept.foldl _ ?_ _ _ ?_

theorem State.lendJoin_kept {a : State} (s : State) (d g : Nat) (h : Kept a s) : Kept a (State.lendJoin s d g) := by
  unfold State.lendJoin
  repeat' first
    | with_reducible first | assumption | apply State.addF_kept | apply State.setF_kept | refine Kept.ite ?_ ?_
    | (with_reducible refine Kept.lit ?_ rfl rfl rfl rfl rfl rfl; with_reducible assumption)

theorem State.lendGive_kept {a : State} (s : State) (d g : Nat) (h : Kept a s) : Kept a (State.lendGive s d g) := by
  unfold State.lendGive
  repeat' first
    | with_reducible first | assumption | apply State.addF_kept | refine Kept.ite ?_ ?_
    | (extract_lets +onlyGivenNames x1
       refine Kept.cut (x := x1) ?_ ?_
       all_goals first | (with_reducible intro _; clear_value x1) | dsimp -zeta only [x1])
    | (with_reducible refine Kept.lit ?_ rfl rfl rfl rfl rfl rfl; with_reducible assumption)

theorem State.lendNext_kept {a : State} (s : State) (d : Nat) (h : Kept a s) :
    Kept a (State.lendNext s d) := by
  unfold State.lendNext
  repeat' first
    | with_reducible assumption
    | (with_reducible refine Kept.lit ?_ rfl rfl rfl rfl rfl rfl
       first
         | with_reducible assumption
         | with_reducible refine Kept.ite ?_ ?_)

theorem State.lendPeriod_kept {a : State} (s : State) (d : Nat) (h : Kept a s) :
    Kept a (State.lendPeriod s d) := by
  unfold State.lendPeriod
  repeat' first
    | with_reducible assumption
    | with_reducible refine State.setReg_kept _ _ _ ?_
    | with_reducible refine State.lendReturn_kept _ _ ?_
    | with_reducible refine State.lendNext_kept _ _ ?_
    | with_reducible refine State.lendJoin_kept _ _ _ ?_
    | with_reducible refine State.lendGive_kept _ _ _ ?_
    | with_reducible refine State.lendCount_kept _ _ ?_
    | with_reducible refine Kept.ite ?_ ?_
    | with_reducible intro _ _ _
    | split
    | (with_reducible refine Kept.lit ?_ rfl rfl rfl rfl rfl rfl
       first
         | with_reducible assumption
         | with_reducible refine State.setReg_kept _ _ _ ?_
         | with_reducible refine State.lendReturn_kept _ _ ?_
         | with_reducible refine State.lendNext_kept _ _ ?_
         | with_reducible refine State.lendJoin_kept _ _ _ ?_
         | with_reducible refine State.lendGive_kept _ _ _ ?_
         | with_reducible refine State.lendCount_kept _ _ ?_
         | with_reducible refine Kept.ite ?_ ?_
         | with_reducible refine Kept.foldl _ ?_ _ _ ?_)

theorem execLendingPeriod_kept {a : State} (d : Nat) (s : State) (h : Kept a s) : KeptO a (execLendingPeriod d s) := by
   unfold execLendingPeriod; apply_rules [State.lendPeriod_kept, KeptO.ite, KeptO.next]

theorem State.lendReclaim_kept {a : State} (d y1 : Nat) (y2 : State) (h : Kept a y2) :
    Kept a (State.lendReclaim d y1 y2) := by
  induction y1 generalizing d y2 with
  | zero => exact h
  | succ n ih =>
  unfold State.lendReclaim
  repeat' first
    | with_reducible first | assumption | apply ih | apply State.setF_kept
    | split

theorem execLenderWake_kept {a : State} (g : Nat) (s : State) (h : Kept a s) : KeptO a (execLenderWake g s) := by
  unfold execLenderWake
  repeat' first
    | with_reducible first | assumption | apply State.setF_kept | apply State.lendCount_kept
        | apply State.lendReclaim_kept | refine KeptO.ite ?_ ?_ | refine KeptO.next ?_
    | (extract_lets +onlyGivenNames x1
       refine Kept.cut (x := x1) ?_ ?_
       all_goals first | (with_reducible intro _; clear_value x1) | dsimp -zeta only [x1])
    | (with_reducible refine Kept.lit ?_ rfl rfl rfl rfl rfl rfl; with_reducible assumption)

theorem State.lendCfgWrite_kept {a : State} (s : State) (d : Nat) (v : Word) (h : Kept a s) :
    Kept a (State.lendCfgWrite s d v) := by
  unfold State.lendCfgWrite
  repeat' first
    | with_reducible first | assumption | refine Kept.ite ?_ ?_
    | (with_reducible refine Kept.lit ?_ rfl rfl rfl rfl rfl rfl; with_reducible assumption)

theorem execColLendCfgWrite_kept {a : State} (d : Nat) (v : Word) (s : State) (h : Kept a s) :
    KeptO a (execColLendCfgWrite d v s) := by
   unfold execColLendCfgWrite; apply_rules [State.lendCfgWrite_kept, KeptO.ite, KeptO.next]

end Sys2Proof.Machine
end

