-- ==== Sys2Proof/Laws/KeptModule.lean ====
section
/-! SUPPORT. `Kept` through the module: contexts, transactions, start-up, power, reliability, the host, frames, the steward, the bus. -/

namespace Sys2Proof.Machine

/-! ### Machine/Context.lean -/

theorem State.setSvc_kept {a : State} (s : State) (c : Nat) (x : Svc) (h : Kept a s) : Kept a (State.setSvc s c x) :=
  h.same rfl rfl rfl rfl rfl rfl

theorem State.ctxEmpty_kept {a : State} (s : State) (g : Nat) (c : Nat) (h : Kept a s) : Kept a (State.ctxEmpty s g c) := by
  unfold State.ctxEmpty
  repeat' first
    | with_reducible assumption
    | with_reducible refine State.dmaDiscard_kept _ _ _ ?_
    | with_reducible refine State.trvReset_kept _ _ _ ?_
    | with_reducible refine State.setCtx_kept _ _ _ _ ?_
    | with_reducible refine State.freeStrand_kept _ _ _ _ ?_
    | with_reducible refine State.setCore_kept _ _ _ ?_
    | with_reducible refine State.setAcc_kept _ _ _ _ _ _ ?_
    | with_reducible refine State.setReg_kept _ _ _ ?_
    | with_reducible refine State.setBracket_kept _ _ _ _ _ ?_
    | with_reducible intro _ _ _
    | with_reducible refine Kept.iter _ _ _ ?_ ?_
    | (extract_lets +onlyGivenNames x1
       first
         | (refine Kept.cut (x := x1) ?_ ?_
            all_goals first | (with_reducible intro _; clear_value x1) | dsimp -zeta only [x1])
         | clear_value x1)
    | (with_reducible refine Kept.lit ?_ rfl rfl rfl rfl rfl rfl; with_reducible assumption)

theorem State.svcCancel_kept {a : State} (s : State) (c : Nat) (h : Kept a s) : Kept a (State.svcCancel s c) := by
  unfold State.svcCancel
  repeat' first
    | with_reducible first | assumption | apply State.writeN_kept | apply State.setSvc_kept | apply State.setF_kept
        | intro _ _ _ | refine Kept.foldl _ ?_ _ _ ?_

theorem State.discard_kept {a : State} (s : State) (c : Nat) (h : Kept a s) : Kept a (State.discard s c) := by
  unfold State.discard
  repeat' first
    | with_reducible assumption
    | with_reducible refine State.ctxEmpty_kept _ _ _ ?_
    | with_reducible refine State.svcCancel_kept _ _ ?_
    | with_reducible refine State.trnDiscard_kept _ _ ?_
    | with_reducible refine State.colDiscard_kept _ _ ?_
    | with_reducible refine State.setMod_kept _ _ _ ?_
    | with_reducible refine State.setF_kept _ _ _ _ _ _ ?_
    | with_reducible refine Kept.ite ?_ ?_
    | with_reducible intro _ _ _
    | with_reducible refine Kept.foldl _ ?_ _ _ ?_

theorem State.unload_kept {a : State} (s : State) (g c : Nat) (h : Kept a s) : Kept a (State.unload s g c) := by
  unfold State.unload
  repeat' first
    | with_reducible first | assumption | apply State.ctxEmpty_kept | apply State.svcCancel_kept
        | refine Kept.ite ?_ ?_

theorem execUnload_kept {a : State} (g c : Nat) (s : State) (h : Kept a s) : KeptO a (execUnload g c s) := by
   unfold execUnload; apply_rules [State.unload_kept, KeptO.next]

theorem execFrmCtxResume_kept {a : State} (c : Nat) (s : State) (h : Kept a s) : KeptO a (execFrmCtxResume c s) := by
   unfold execFrmCtxResume; apply_rules [State.setMod_kept, KeptO.ite, KeptO.next]

theorem execFrmCtxDiscard_kept {a : State} (c : Nat) (s : State) (h : Kept a s) : KeptO a (execFrmCtxDiscard c s) := by
   unfold execFrmCtxDiscard; apply_rules [State.discard_kept, KeptO.ite, KeptO.next]

theorem execCoreCtxResume_kept {a : State} (c : Nat) (s : State) (h : Kept a s) : KeptO a (execCoreCtxResume c s) := by
   unfold execCoreCtxResume; apply_rules [State.setMod_kept, KeptO.ite, KeptO.next]

theorem execCoreCtxDiscard_kept {a : State} (c : Nat) (s : State) (h : Kept a s) : KeptO a (execCoreCtxDiscard c s) := by
   unfold execCoreCtxDiscard; apply_rules [State.discard_kept, KeptO.ite, KeptO.next]

theorem State.resumeCtx_kept {a : State} (s : State) (c : Nat) (h : Kept a s) : Kept a (State.resumeCtx s c) := by
  unfold State.resumeCtx
  repeat' first
    | with_reducible first | assumption | apply State.setF_kept | apply State.setMod_kept | apply State.setCtx_kept
        | apply State.freeStrand_kept | refine Kept.ite ?_ ?_ | intro _ _ _ | refine Kept.foldl _ ?_ _ _ ?_

theorem State.loadGo_kept {a : State} (s : State) (g c : Nat) (h : Kept a s) : Kept a (State.loadGo s g c) := by
  unfold State.loadGo
  repeat' first
    | with_reducible first | assumption | apply State.setF_kept | apply State.setCtx_kept | refine Kept.ite ?_ ?_

theorem execLoadGo_kept {a : State} (g c : Nat) (s : State) (h : Kept a s) : KeptO a (execLoadGo g c s) := by
   unfold execLoadGo; apply_rules [State.loadGo_kept, KeptO.next]

theorem State.loadWrite_kept {a : State} (s : State) (g : Nat) (c : Nat) (addr : Nat) (h : Kept a s) :
    Kept a (State.loadWrite s g c addr) := by
  unfold State.loadWrite
  repeat' first
    | with_reducible assumption
    | with_reducible refine State.write_kept _ _ _ ?_
    | with_reducible refine State.setF_kept _ _ _ _ _ _ ?_
    | with_reducible refine State.freeStrand_kept _ _ _ _ ?_
    | with_reducible refine State.setTrn_kept _ _ _ ?_
    | with_reducible refine State.setReg_kept _ _ _ ?_
    | with_reducible refine State.setCtx_kept _ _ _ _ ?_
    | with_reducible intro _ _ _
    | with_reducible refine Kept.iter _ _ _ ?_ ?_
    | (with_reducible refine Kept.lit ?_ rfl rfl rfl rfl rfl rfl
       first
         | with_reducible assumption
         | with_reducible refine State.write_kept _ _ _ ?_
         | with_reducible refine State.setF_kept _ _ _ _ _ _ ?_)

theorem execLoadDone_kept {a : State} (g c : Nat) (err : MemErr) (s : State) (h : Kept a s) :
    KeptO a (execLoadDone g c err s) := by
  unfold execLoadDone
  repeat' first
    | with_reducible first | assumption | apply State.setCtx_kept | apply State.memErr_kept | apply State.event_kept
        | apply State.setF_kept | apply State.loadWrite_kept | refine KeptO.ite ?_ ?_ | refine KeptO.next ?_
    | split

theorem execCoreBtIndexWrite_kept {a : State} (g c : Nat) (v : Word) (s : State) (h : Kept a s) :
    KeptO a (execCoreBtIndexWrite g c v s) := by
  unfold execCoreBtIndexWrite
  repeat' first
    | with_reducible first | assumption | apply State.setCtx_kept | apply State.setF_kept | refine KeptO.next ?_

theorem State.btStage_kept {a : State} (s : State) (g c w : Nat) (v : Word) (h : Kept a s) :
    Kept a (State.btStage s g c w v) := by
   unfold State.btStage; apply_rules [State.setCtx_kept, Kept.ite]

theorem execCoreBtDataStage_kept {a : State} (g c w : Nat) (v : Word) (s : State) (h : Kept a s) :
    KeptO a (execCoreBtDataStage g c w v s) := by
   unfold execCoreBtDataStage; apply_rules [State.btStage_kept, KeptO.ite, KeptO.next]

theorem State.btCommit_kept {a : State} (s : State) (g c : Nat) (v : Word) (h : Kept a s) :
    Kept a (State.btCommit s g c v) := by
   unfold State.btCommit; apply_rules [State.setCtx_kept, Kept.ite]

theorem execCoreBtData3Commit_kept {a : State} (g c : Nat) (v : Word) (s : State) (h : Kept a s) :
    KeptO a (execCoreBtData3Commit g c v s) := by
   unfold execCoreBtData3Commit; apply_rules [State.btCommit_kept, KeptO.next]

theorem State.tokenWrite_kept {a : State} (s : State) (g c t : Nat) (v : Word) (h : Kept a s) :
    Kept a (State.tokenWrite s g c t v) := by
  unfold State.tokenWrite
  repeat' first
    | with_reducible first | assumption | apply State.setF_kept | refine Kept.ite ?_ ?_

theorem execCoreTokenWrite_kept {a : State} (g c t : Nat) (v : Word) (s : State) (h : Kept a s) :
    KeptO a (execCoreTokenWrite g c t v s) := by
   unfold execCoreTokenWrite; apply_rules [State.tokenWrite_kept, KeptO.next]

theorem execCrd_kept {a : State} (g : Nat) (c : Nat) (k : Nat) (s : State) (h : Kept a s) :
    KeptO a (execCrd g c k s) := by
  unfold execCrd
  repeat' first
    | with_reducible assumption
    | with_reducible refine State.issue_kept _ _ _ _ _ _ ?_ ?_
    | with_reducible refine State.raise_kept _ _ _ _ _ _ ?_
    | with_reducible refine State.retireB_kept _ _ _ _ _ _ _ ?_
    | with_reducible refine KeptO.next ?_
    | with_reducible refine Kept.ite ?_ ?_
    | with_reducible intro _ _ _

theorem State.ctxRegWrite_kept {a : State} (s : State) (r : Reg) (v : Word) (h : Kept a s) :
    Kept a (State.ctxRegWrite s r v) := by
  unfold State.ctxRegWrite
  repeat' first
    | with_reducible first | assumption | apply State.setReg_kept | apply State.loadGo_kept
        | apply State.unload_kept | apply State.setCtx_kept | apply State.btStage_kept | apply State.btCommit_kept
        | apply State.tokenWrite_kept | refine Kept.ite ?_ ?_
    | split

theorem execCwr_kept {a : State} (g c k : Nat) (s : State) (h : Kept a s) : KeptO a (execCwr g c k s) := by
  unfold execCwr
  repeat' first
    | with_reducible first | assumption | apply State.issue_kept | apply State.raise_kept
        | apply State.ctxRegWrite_kept | apply State.retire_kept | refine KeptO.next ?_ | intro _ _ _
    | split

/-! ### Machine/Txn.lean -/

theorem State.setTxn_kept {a : State} (s : State) (o : Nat) (x : Txn) (h : Kept a s) : Kept a (State.setTxn s o x) :=
  h.same rfl rfl rfl rfl rfl rfl

theorem State.putRt_kept {a : State} (s : State) (r : Reg) (v : Word) (h : Kept a s) : Kept a (State.putRt s r v) :=
  h.same rfl rfl rfl rfl rfl rfl

theorem State.txnError_kept {a : State} (s : State) (o : Nat) (x : Fld) (h : Kept a s) : Kept a (State.txnError s o x) := by
  unfold State.txnError
  repeat' first
    | with_reducible first | assumption | apply State.event_kept | apply State.setF_kept

theorem State.txnEnd_kept {a : State} (s : State) (o result block : Nat) (h : Kept a s) :
    Kept a (State.txnEnd s o result block) :=
  h.same rfl rfl rfl rfl rfl rfl

theorem State.txnBegin_kept {a : State} (s : State) (o : Nat) (h : Kept a s) : Kept a (State.txnBegin s o) := by
  unfold State.txnBegin
  repeat' first
    | with_reducible first | assumption | apply State.txnError_kept | apply State.setTxn_kept
        | apply State.setF_kept | refine Kept.ite ?_ ?_

theorem State.txnCommit_kept {a : State} (s : State) (o : Nat) (h : Kept a s) : Kept a (State.txnCommit s o) := by
  unfold State.txnCommit
  repeat' first
    | with_reducible first | assumption | apply State.txnError_kept | apply State.setTxn_kept
        | apply State.setF_kept | refine Kept.ite ?_ ?_
    | (extract_lets +onlyGivenNames x1
       first
         | (refine Kept.cut (x := x1) ?_ ?_
            all_goals first | (with_reducible intro _; clear_value x1) | dsimp -zeta only [x1])
         | clear_value x1)
    | (with_reducible refine Kept.lit ?_ rfl rfl rfl rfl rfl rfl; with_reducible assumption)

theorem State.txnRollback_kept {a : State} (s : State) (o : Nat) (h : Kept a s) : Kept a (State.txnRollback s o) := by
   unfold State.txnRollback; apply_rules [State.txnError_kept, State.txnEnd_kept, Kept.ite]

theorem State.txnCtrl_kept {a : State} (s : State) (o : Nat) (v : Word) (h : Kept a s) : Kept a (State.txnCtrl s o v) := by
  unfold State.txnCtrl
  repeat' first
    | with_reducible first | assumption | apply State.txnBegin_kept | apply State.txnCommit_kept
        | apply State.txnRollback_kept | apply State.txnError_kept
    | split

theorem execTxnBegin_kept {a : State} (o : Nat) (s : State) (h : Kept a s) : KeptO a (execTxnBegin o s) := by
   unfold execTxnBegin; apply_rules [State.txnBegin_kept, KeptO.ite, KeptO.next]

theorem execTxnCommit_kept {a : State} (o : Nat) (s : State) (h : Kept a s) : KeptO a (execTxnCommit o s) := by
   unfold execTxnCommit; apply_rules [State.txnCommit_kept, KeptO.ite, KeptO.next]

theorem execTxnRollback_kept {a : State} (o : Nat) (s : State) (h : Kept a s) : KeptO a (execTxnRollback o s) := by
   unfold execTxnRollback; apply_rules [State.txnRollback_kept, KeptO.ite, KeptO.next]

theorem State.txnNote_kept {a : State} (s : State) (o : Nat) (x : Fld) (r : Reg) (h : Kept a s) :
    Kept a (State.txnNote s o x r) := by
  unfold State.txnNote
  repeat' first
    | with_reducible first | assumption | apply State.setF_kept | apply State.txnError_kept | refine Kept.ite ?_ ?_

theorem State.stage_kept {a : State} (s : State) (o : Nat) (r : Reg) (v : Word) (h : Kept a s) :
    Kept a (State.stage s o r v) := by
  unfold State.stage
  repeat' first
    | with_reducible first | assumption | apply State.txnError_kept | apply State.txnNote_kept
        | apply State.setTxn_kept | apply State.setF_kept | refine Kept.ite ?_ ?_

theorem State.candidate_kept {a : State} (s : State) (st : List (Reg × Word)) (h : Kept a s) :
    Kept a (State.candidate s st) := by
  unfold State.candidate
  repeat' first
    | with_reducible first | assumption | apply State.putRt_kept | intro _ _ _ | refine Kept.foldl _ ?_ _ _ ?_

theorem State.refusal_kept {a : State} (s : State) (x : Refused) (h : Kept a s) : Kept a (State.refusal s x) := by
  unfold State.refusal
  repeat' first
    | with_reducible first | assumption | apply State.event_kept | apply State.setF_kept
    | split

theorem State.colReset_kept {a : State} (s0 : State) (s : State) (c : Nat) (i : Nat) (h : Kept a s0) (h1 : Kept a s) :
    Kept a (State.colReset s0 s c i) := by
  unfold State.colReset
  repeat' first
    | with_reducible assumption
    | with_reducible refine State.ctrClear_kept _ _ ?_
    | with_reducible refine State.setColTag_kept _ _ _ _ _ ?_
    | with_reducible refine Kept.ite ?_ ?_
    | with_reducible intro _ _ _
    | with_reducible refine Kept.foldl _ ?_ _ _ ?_

theorem State.calRecord_kept {a : State} (s : State) (i : Nat) (old new : Word) (h : Kept a s) :
    Kept a (State.calRecord s i old new) := by
  unfold State.calRecord
  repeat' first
    | with_reducible first | assumption | apply State.cairn_kept
    | (with_reducible refine Kept.lit ?_ rfl rfl rfl rfl rfl rfl; with_reducible assumption)

theorem State.ptpRestart_kept {a : State} (s : State) (h : Kept a s) :
    Kept a (State.ptpRestart s) := by
  unfold State.ptpRestart
  repeat' first
    | with_reducible assumption
    | with_reducible refine State.setF_kept _ _ _ _ _ _ ?_
    | with_reducible refine State.event_kept _ _ _ _ _ ?_
    | with_reducible refine Kept.ite ?_ ?_

theorem State.applied_kept {a : State} (s0 : State) (n : Nat) (s : State) (r : Reg) (h : Kept a s0) (h1 : Kept a s) :
    Kept a (State.applied s0 n s r) := by
  unfold State.applied
  repeat' first
    | with_reducible assumption
    | with_reducible refine State.setF_kept _ _ _ _ _ _ ?_
    | with_reducible refine State.segStart_kept _ _ _ ?_
    | with_reducible refine State.freeWords_kept _ _ ?_
    | with_reducible refine State.colReset_kept _ _ _ _ ?_ ?_
    | with_reducible refine State.portDown_kept _ _ ?_
    | with_reducible refine State.ptpRestart_kept _ ?_
    | with_reducible refine State.calRecord_kept _ _ _ _ ?_
    | split

theorem State.loansApplied_kept {a : State} (s0 : State) (n : Nat) (st : List Reg) (s : State) (h0 : Kept a s0) (h3 : Kept a s) :
    Kept a (State.loansApplied s0 n st s) := by
  unfold State.loansApplied
  repeat' first
    | with_reducible first | assumption | apply State.lendCommit_kept | apply State.borrowCommit_kept | intro _ _ _
        | refine Kept.foldl _ ?_ _ _ ?_

theorem State.txnTake_kept {a : State} (s : State) (o : Nat) (n : Nat) (h : Kept a s) :
    Kept a (State.txnTake s o n) := by
  unfold State.txnTake
  repeat' first
    | with_reducible assumption
    | with_reducible refine State.refusal_kept _ _ ?_
    | with_reducible refine State.txnEnd_kept _ _ _ _ ?_
    | with_reducible refine State.event_kept _ _ _ _ _ ?_
    | with_reducible refine State.candidate_kept _ _ ?_
    | with_reducible refine State.applied_kept _ _ _ _ ?_ ?_
    | with_reducible refine State.loansApplied_kept _ _ _ _ ?_ ?_
    | with_reducible refine State.nodeReset_kept _ _ ?_
    | with_reducible refine State.netFlush_kept _ ?_
    | with_reducible refine State.pfcAll_kept _ ?_
    | with_reducible refine State.setF_kept _ _ _ _ _ _ ?_
    | with_reducible refine State.addF_kept _ _ _ _ _ _ ?_
    | with_reducible intro _ _ _
    | with_reducible refine Kept.foldl _ ?_ _ _ ?_
    | split

theorem State.txnTimeout_kept {a : State} (s : State) (o n : Nat) (h : Kept a s) : Kept a (State.txnTimeout s o n) := by
  unfold State.txnTimeout
  repeat' first
    | with_reducible first | assumption | apply State.event_kept | apply State.txnEnd_kept | refine Kept.ite ?_ ?_

theorem execTxnTimeout_kept {a : State} (o : Nat) (s : State) (h : Kept a s) : KeptO a (execTxnTimeout o s) := by
   unfold execTxnTimeout; apply_rules [State.txnTimeout_kept, KeptO.ite, KeptO.next]

theorem State.txnAction_kept {a : State} (s : State) (n : Nat) (h : Kept a s) : Kept a (State.txnAction s n) := by
  unfold State.txnAction
  repeat' first
    | with_reducible first | assumption | apply State.txnTimeout_kept | apply State.txnTake_kept | intro _ _ _
        | refine Kept.iter _ _ _ ?_ ?_ | refine Kept.foldl _ ?_ _ _ ?_

theorem State.txnReset_kept {a : State} (s : State) (o : Nat) (h : Kept a s) : Kept a (State.txnReset s o) := by
   unfold State.txnReset; apply_rules [State.txnEnd_kept, Kept.ite]

/-! ### Machine/Boot.lean -/

theorem State.lifeMirror_kept {a : State} (s : State) (h : Kept a s) : Kept a (State.lifeMirror s) := by
  unfold State.lifeMirror
  repeat' first
    | with_reducible first | assumption | apply State.setF_kept | intro _ _ _ | refine Kept.iter _ _ _ ?_ ?_

theorem State.lifeCommit_kept {a : State} (s : State) (h : Kept a s) : Kept a (State.lifeCommit s) :=
  h.same rfl rfl rfl rfl rfl rfl

theorem State.fwStore_kept {a : State} (s : State) (slot o : Nat) (bs : List Byte) (h : Kept a s) :
    Kept a (State.fwStore s slot o bs) :=
  h.same rfl rfl rfl rfl rfl rfl

theorem State.fwStart_kept {a : State} (s : State) (type : Nat) (h : Kept a s) : Kept a (State.fwStart s type).2 := by
  unfold State.fwStart
  repeat' first
    | with_reducible first | assumption | apply State.event_kept
    | (extract_lets +onlyGivenNames x1
       first
         | (have q : Steward := x1; clear q)
         | (have q : _ → State := x1; clear q; dsimp -zeta only [x1]; clear x1)
         | (have q : _ → _ → State := x1; clear q; dsimp -zeta only [x1]; clear x1)
         | clear_value x1)
    | split
    | (with_reducible refine Kept.lit ?_ rfl rfl rfl rfl rfl rfl
       first
         | with_reducible assumption
         | with_reducible apply State.event_kept
         | with_reducible refine Kept.ite ?_ ?_)

theorem State.fwRan_kept {a : State} (s : State) (h : Kept a s) : Kept a (State.fwRan s) := by
  unfold State.fwRan
  repeat' first
    | with_reducible first | assumption | refine Kept.ite ?_ ?_
    | (with_reducible refine Kept.lit ?_ rfl rfl rfl rfl rfl rfl; with_reducible assumption)

theorem State.failLast_kept {a : State} (s : State) (source : Nat) (f : Fail) (h : Kept a s) :
    Kept a (State.failLast s source f) :=
  h.same rfl rfl rfl rfl rfl rfl

theorem State.failFound_kept {a : State} (s : State) (source : Nat) (f : Fail) (h : Kept a s) :
    Kept a (State.failFound s source f) := by
  unfold State.failFound
  repeat' first
    | with_reducible first | assumption | apply State.addF_kept | apply State.failLast_kept | apply State.cairn_kept

theorem State.applyRepair_kept {a : State} (s : State) (h : Kept a s) : Kept a (State.applyRepair s) := by
  unfold State.applyRepair
  repeat' first
    | with_reducible assumption
    | with_reducible refine State.setF_kept _ _ _ _ _ _ ?_
    | with_reducible refine State.cairn_kept _ _ _ ?_
    | with_reducible refine State.life_kept _ _ ?_
    | with_reducible refine Kept.ite ?_ ?_
    | with_reducible intro _ _ _
    | with_reducible refine Kept.iter _ _ _ ?_ ?_
    | with_reducible refine Kept.foldl _ ?_ _ _ ?_
    | (with_reducible refine Kept.lit ?_ rfl rfl rfl rfl rfl rfl; with_reducible assumption)

theorem State.coldBase_kept {a : State} (s : State) (h : Kept a s) : Kept a s.coldBase :=
  ⟨h.pending, fun i => ⟨SMap.wf_filter _ (h.sound i).mem, List.Pairwise.nil, by show (0 : Nat) < _; omega⟩, h.free, h.svn⟩

theorem State.railsOff_kept {a : State} (s : State) (h : Kept a s) : Kept a (State.railsOff s) := by
  unfold State.railsOff
  repeat' first
    | with_reducible first | assumption | apply State.coldBase_kept
    | (extract_lets +onlyGivenNames x1
       refine Kept.cut (x := x1) ?_ ?_
       all_goals first | (with_reducible intro _; clear_value x1) | dsimp -zeta only [x1])
    | (with_reducible refine Kept.lit ?_ rfl rfl rfl rfl rfl rfl; with_reducible assumption)

theorem State.bootFail_kept {a : State} (s : State) (code st : Nat) (h : Kept a s) : Kept a (State.bootFail s code st) :=
  h.same rfl rfl rfl rfl rfl rfl

theorem State.calLoad_kept {a : State} (s : State) (cal : Option (Nat × List Nat)) (h : Kept a s) :
    Kept a (State.calLoad s cal) := by
  unfold State.calLoad
  repeat' first
    | with_reducible first | assumption | apply State.setF_kept | apply State.event_kept | apply State.setReg_kept
        | intro _ _ _ | refine Kept.foldl _ ?_ _ _ ?_
    | split

theorem State.utcLoad_kept {a : State} (s : State) (utc : Option Nat) (h : Kept a s) : Kept a (State.utcLoad s utc) := by
  unfold State.utcLoad
  repeat' first
    | with_reducible first | assumption | apply State.setF_kept | apply State.event_kept
    | split
    | (with_reducible refine Kept.lit ?_ rfl rfl rfl rfl rfl rfl; with_reducible assumption)

theorem State.imagesStart_kept {a : State} (s : State) (h : Kept a s) : Kept a (State.imagesStart s) := by
  unfold State.imagesStart
  repeat' first
    | with_reducible assumption
    | with_reducible refine State.fwStart_kept _ _ ?_
    | with_reducible refine State.bootFail_kept _ _ _ ?_
    | with_reducible refine State.fwRan_kept _ ?_
    | with_reducible refine Kept.ite ?_ ?_

theorem State.packageStart_kept {a : State} (s : State) (info : ColdInfo) (h : Kept a s) : Kept a (State.packageStart s info) := by
  unfold State.packageStart
  repeat' first
    | with_reducible assumption
    | with_reducible refine State.bootFail_kept _ _ _ ?_
    | with_reducible refine State.railsOff_kept _ ?_
    | with_reducible refine State.applyRepair_kept _ ?_
    | with_reducible refine State.event_kept _ _ _ _ _ ?_
    | with_reducible refine State.failLast_kept _ _ _ ?_
    | with_reducible refine State.lifeMirror_kept _ ?_
    | with_reducible refine State.imagesStart_kept _ ?_
    | split
    | (with_reducible refine Kept.lit ?_ rfl rfl rfl rfl rfl rfl; with_reducible assumption)

theorem State.coldStart_kept {a : State} (s : State) (info : ColdInfo) (steward : Bool) (h : Kept a s) : Kept a (State.coldStart s info steward) := by
  unfold State.coldStart
  repeat' first
    | with_reducible assumption
    | with_reducible refine State.coldBase_kept _ ?_
    | with_reducible refine State.setF_kept _ _ _ _ _ _ ?_
    | with_reducible refine State.fwStart_kept _ _ ?_
    | with_reducible refine State.bootFail_kept _ _ _ ?_
    | with_reducible refine State.lifeMirror_kept _ ?_
    | with_reducible refine State.utcLoad_kept _ _ ?_
    | with_reducible refine State.life_kept _ _ ?_
    | with_reducible refine State.packageStart_kept _ _ ?_
    | with_reducible refine State.calLoad_kept _ _ ?_
    | with_reducible refine State.cairn_kept _ _ _ ?_
    | (with_reducible refine Kept.lit ?_ rfl rfl rfl rfl rfl rfl
       first
         | with_reducible assumption
         | with_reducible refine State.coldBase_kept _ ?_
         | with_reducible refine State.setF_kept _ _ _ _ _ _ ?_
         | with_reducible refine State.fwStart_kept _ _ ?_
         | with_reducible refine State.bootFail_kept _ _ _ ?_
         | with_reducible refine State.lifeMirror_kept _ ?_
         | with_reducible refine State.utcLoad_kept _ _ ?_
         | with_reducible refine State.life_kept _ _ ?_
         | with_reducible refine State.packageStart_kept _ _ ?_
         | with_reducible refine State.calLoad_kept _ _ ?_
         | with_reducible refine State.cairn_kept _ _ _ ?_
         | with_reducible refine Kept.ite ?_ ?_
         | with_reducible refine Kept.iter _ _ _ ?_ ?_)

theorem execColdStart_kept {a : State} (info : ColdInfo) (s : State) (h : Kept a s) : KeptO a (execColdStart info s) := by
  unfold execColdStart
  repeat' first
    | with_reducible first | assumption | apply State.coldStart_kept | refine KeptO.next ?_
    | (with_reducible refine Kept.lit ?_ rfl rfl rfl rfl rfl rfl; with_reducible assumption)

theorem State.clockUpdate_kept {a : State} (s : State) (h : Kept a s) : Kept a (State.clockUpdate s) := by
  unfold State.clockUpdate
  repeat' first
    | with_reducible first | assumption | apply State.setF_kept | apply State.lendReturn_kept
        | refine Kept.ite ?_ ?_

theorem State.warmRegs_kept {a : State} (s t : State) (h0 : Kept a s) (h1 : Kept a t) : Kept a (State.warmRegs s t) := by
  unfold State.warmRegs
  repeat' first
    | with_reducible first | assumption | apply State.setReg_kept | refine Kept.ite ?_ ?_ | intro _ _ _
        | refine Kept.foldl _ ?_ _ _ ?_

theorem State.warmBase_kept {a : State} (s : State) (h : Kept a s) : Kept a s.warmBase := by
  unfold State.warmBase
  exact State.warmRegs_kept _ _ h ⟨h.pending, fun i => ⟨SMap.wf_filter _ (h.sound i).mem, (h.sound i).poison.filter _,
    by show (0 : Nat) < _; omega⟩, h.free, h.svn⟩

theorem State.warmReset_kept {a : State} (s : State) (h : Kept a s) : Kept a (State.warmReset s) := by
  unfold State.warmReset
  repeat' first
    | with_reducible assumption
    | with_reducible refine State.warmBase_kept _ ?_
    | with_reducible refine State.setF_kept _ _ _ _ _ _ ?_
    | with_reducible refine State.addF_kept _ _ _ _ _ _ ?_
    | with_reducible refine State.cairn_kept _ _ _ ?_
    | with_reducible refine State.life_kept _ _ ?_
    | with_reducible refine State.applyRepair_kept _ ?_
    | with_reducible refine State.fwStart_kept _ _ ?_
    | with_reducible refine State.bootFail_kept _ _ _ ?_
    | with_reducible refine State.clockUpdate_kept _ ?_
    | with_reducible refine State.lifeMirror_kept _ ?_
    | with_reducible refine State.fwRan_kept _ ?_
    | with_reducible intro _ _ _
    | with_reducible refine Kept.iter _ _ _ ?_ ?_
    | split

theorem State.warmRequest_kept {a : State} (s : State) (h : Kept a s) : Kept a (State.warmRequest s) := by
   unfold State.warmRequest; apply_rules [State.warmReset_kept, Kept.ite]

theorem execWarmReset_kept {a : State} (src : Nat) (s : State) (h : Kept a s) : KeptO a (execWarmReset src s) := by
   unfold execWarmReset; apply_rules [State.warmRequest_kept, Kept.ite, KeptO.next]

theorem State.clearReg_kept {a : State} (s : State) (r : Reg) (h : Kept a s) : Kept a (State.clearReg s r) :=
  h.same rfl rfl rfl rfl rfl rfl

theorem State.portForget_kept {a : State} (s : State) (p : Nat) (h : Kept a s) : Kept a (State.portForget s p) :=
  h.same rfl rfl rfl rfl rfl rfl

theorem State.portReset_kept {a : State} (s : State) (p : Nat) (flr : Bool) (h : Kept a s) : Kept a (State.portReset s p flr) := by
  unfold State.portReset
  repeat' first
    | with_reducible assumption
    | with_reducible refine State.clearReg_kept _ _ ?_
    | with_reducible refine State.setF_kept _ _ _ _ _ _ ?_
    | with_reducible refine State.portForget_kept _ _ ?_
    | with_reducible refine State.setSvc_kept _ _ _ ?_
    | with_reducible refine State.txnReset_kept _ _ ?_
    | with_reducible refine State.event_kept _ _ _ _ _ ?_
    | with_reducible refine Kept.ite ?_ ?_
    | with_reducible intro _ _ _
    | with_reducible refine Kept.iter _ _ _ ?_ ?_
    | with_reducible refine Kept.foldl _ ?_ _ _ ?_

theorem execPciePortReset_kept {a : State} (p : Nat) (kind : PortReset) (s : State) (h : Kept a s) :
    KeptO a (execPciePortReset p kind s) := by
  unfold execPciePortReset
  repeat' first
    | with_reducible assumption
    | with_reducible refine State.portReset_kept _ _ _ ?_
    | with_reducible refine KeptO.next ?_
    | with_reducible refine KeptO.ite ?_ ?_
    | (with_reducible refine Kept.lit ?_ rfl rfl rfl rfl rfl rfl
       first
         | with_reducible assumption
         | with_reducible refine State.portReset_kept _ _ _ ?_
         | with_reducible refine Kept.ite ?_ ?_)

theorem execPerstDeassert_kept {a : State} (p : Nat) (s : State) (h : Kept a s) : KeptO a (execPerstDeassert p s) := by
  unfold execPerstDeassert
  repeat' first
    | with_reducible first | assumption | refine KeptO.ite ?_ ?_ | refine KeptO.next ?_
    | (with_reducible refine Kept.lit ?_ rfl rfl rfl rfl rfl rfl; with_reducible assumption)

theorem execPcieLinkUp_kept {a : State} (p : Nat) (far : PcieEnd) (s : State) (h : Kept a s) :
    KeptO a (execPcieLinkUp p far s) := by
  unfold execPcieLinkUp
  repeat' first
    | with_reducible assumption
    | with_reducible refine State.setF_kept _ _ _ _ _ _ ?_
    | with_reducible refine State.event_kept _ _ _ _ _ ?_
    | with_reducible refine KeptO.next ?_
    | with_reducible refine KeptO.ite ?_ ?_
    | with_reducible refine Kept.ite ?_ ?_

/-! ### Machine/Power.lean -/

theorem State.powerDown_kept {a : State} (s : State) (n : Nat) (h : Kept a s) : Kept a (State.powerDown s n) := by
  unfold State.powerDown
  repeat' first
    | with_reducible first | assumption | apply State.clockUpdate_kept | apply State.event_kept
        | refine Kept.ite ?_ ?_
    | (with_reducible refine Kept.lit ?_ rfl rfl rfl rfl rfl rfl; with_reducible assumption)

theorem execPowerSample_kept {a : State} (volt amp : Nat) (s : State) (h : Kept a s) :
    KeptO a (execPowerSample volt amp s) := by
  unfold execPowerSample
  repeat' first
    | with_reducible first | assumption | apply State.setF_kept | apply State.addF_kept | apply State.powerDown_kept
        | apply State.event_kept | refine Kept.ite ?_ ?_ | refine KeptO.ite ?_ ?_ | refine KeptO.next ?_
    | (with_reducible refine Kept.lit ?_ rfl rfl rfl rfl rfl rfl; with_reducible assumption)

theorem execPowerIntervalDown_kept {a : State} (s : State) (h : Kept a s) : KeptO a (execPowerIntervalDown s) := by
   unfold execPowerIntervalDown; apply_rules [State.setF_kept, State.powerDown_kept, Kept.ite, KeptO.ite, KeptO.next]

theorem execPowerClockStepUp_kept {a : State} (s : State) (h : Kept a s) : KeptO a (execPowerClockStepUp s) := by
  unfold execPowerClockStepUp
  repeat' first
    | with_reducible first | assumption | apply State.clockUpdate_kept | refine KeptO.ite ?_ ?_
        | refine KeptO.next ?_
    | (with_reducible refine Kept.lit ?_ rfl rfl rfl rfl rfl rfl; with_reducible assumption)

theorem execInputUnderVoltageBand_kept {a : State} (mv : Nat) (s : State) (h : Kept a s) :
    KeptO a (execInputUnderVoltageBand mv s) := by
   unfold execInputUnderVoltageBand; apply_rules [State.event_kept, State.setF_kept, KeptO.ite, KeptO.next]

theorem execUnderVoltageBandExit_kept {a : State} (mv : Nat) (s : State) (h : Kept a s) :
    KeptO a (execUnderVoltageBandExit mv s) := by
   unfold execUnderVoltageBandExit; apply_rules [State.setF_kept, KeptO.ite, KeptO.next]

theorem execInputOverVoltageBand_kept {a : State} (mv : Nat) (s : State) (h : Kept a s) :
    KeptO a (execInputOverVoltageBand mv s) := by
   unfold execInputOverVoltageBand; apply_rules [State.event_kept, State.setF_kept, KeptO.ite, KeptO.next]

theorem execUnderVoltageCutoff_kept {a : State} (s : State) (h : Kept a s) : KeptO a (execUnderVoltageCutoff s) := by
   unfold execUnderVoltageCutoff; apply_rules [State.railsOff_kept, State.cairn_kept, KeptO.ite, KeptO.next]

theorem execOverVoltageCutoff_kept {a : State} (s : State) (h : Kept a s) : KeptO a (execOverVoltageCutoff s) := by
  unfold execOverVoltageCutoff
  repeat' first
    | with_reducible first | assumption | apply State.railsOff_kept | refine KeptO.next ?_
    | (with_reducible refine Kept.lit ?_ rfl rfl rfl rfl rfl rfl
       first
         | with_reducible assumption
         | with_reducible apply State.railsOff_kept
         | with_reducible refine Kept.ite ?_ ?_)

theorem execInputReconnect_kept {a : State} (info : ColdInfo) (s : State) (h : Kept a s) :
    KeptO a (execInputReconnect info s) := by
  unfold execInputReconnect
  repeat' first
    | with_reducible first | assumption | apply State.coldStart_kept | refine KeptO.ite ?_ ?_ | refine KeptO.next ?_
    | (with_reducible refine Kept.lit ?_ rfl rfl rfl rfl rfl rfl; with_reducible assumption)

theorem execStandbyPowerLoss_kept {a : State} (s : State) (h : Kept a s) : KeptO a (execStandbyPowerLoss s) := by
  unfold execStandbyPowerLoss
  repeat' first
    | with_reducible first | assumption | apply State.railsOff_kept | refine KeptO.next ?_
    | (with_reducible refine Kept.lit ?_ rfl rfl rfl rfl rfl rfl
       first
         | with_reducible assumption
         | with_reducible apply State.railsOff_kept
         | with_reducible refine Kept.ite ?_ ?_)

theorem State.shutdownStart_kept {a : State} (s : State) (thermal restart noNotice : Bool) (h : Kept a s) :
    Kept a (State.shutdownStart s thermal restart noNotice) := by
  unfold State.shutdownStart
  repeat' first
    | with_reducible first | assumption | apply State.event_kept | apply State.setF_kept
    | split
    | (with_reducible refine Kept.lit ?_ rfl rfl rfl rfl rfl rfl; with_reducible assumption)

theorem State.macroTest_kept {a : State} (s : State) (fails : List Fail) (h : Kept a s) :
    Kept a (State.macroTest s fails) := by
  unfold State.macroTest
  repeat' first
    | with_reducible first | assumption | apply State.failFound_kept | intro _ _ _ | refine Kept.foldl _ ?_ _ _ ?_
    | (extract_lets +onlyGivenNames x1
       first
         | (refine Kept.cut (x := x1) ?_ ?_
            all_goals first | (with_reducible intro _; clear_value x1) | dsimp -zeta only [x1])
         | (have q : Steward := x1; clear q))
    | (with_reducible refine Kept.lit ?_ rfl rfl rfl rfl rfl rfl; with_reducible assumption)

theorem State.shutdownHalt_kept {a : State} (s : State) (h : Kept a s) :
    Kept a (State.shutdownHalt s) := by
  unfold State.shutdownHalt
  repeat' first
    | with_reducible assumption
    | with_reducible refine State.haltAll_kept _ _ ?_
    | with_reducible intro _ _ _
    | (with_reducible refine Kept.lit ?_ rfl rfl rfl rfl rfl rfl
       first
         | with_reducible assumption
         | with_reducible refine State.haltAll_kept _ _ ?_
         | with_reducible refine Kept.ite ?_ ?_
         | with_reducible refine Kept.iter _ _ _ ?_ ?_)

theorem execShutdownNoticeExpiry_kept {a : State} (fails : List Fail) (info : ColdInfo) (s : State) (h : Kept a s) :
    KeptO a (execShutdownNoticeExpiry fails info s) := by
  unfold execShutdownNoticeExpiry
  repeat' first
    | with_reducible assumption
    | with_reducible refine State.shutdownHalt_kept _ ?_
    | with_reducible refine State.macroTest_kept _ _ ?_
    | with_reducible refine State.lifeCommit_kept _ ?_
    | with_reducible refine State.cairn_kept _ _ _ ?_
    | with_reducible refine State.railsOff_kept _ ?_
    | with_reducible refine State.coldStart_kept _ _ _ ?_
    | with_reducible refine KeptO.next ?_
    | split

theorem execColdReset_kept {a : State} (src : Nat) (s : State) (h : Kept a s) : KeptO a (execColdReset src s) := by
   unfold execColdReset; apply_rules [State.shutdownStart_kept, Kept.ite, KeptO.next]

theorem execPwrSdReq_kept {a : State} (src : Nat) (s : State) (h : Kept a s) : KeptO a (execPwrSdReq src s) := by
   unfold execPwrSdReq; apply_rules [State.shutdownStart_kept, Kept.ite, KeptO.next]

theorem execShdnReq_kept {a : State} (s : State) (h : Kept a s) : KeptO a (execShdnReq s) := by
   unfold execShdnReq; apply_rules [State.shutdownStart_kept, KeptO.next]

theorem execPwrEnDeassert_kept {a : State} (s : State) (h : Kept a s) : KeptO a (execPwrEnDeassert s) := by
  unfold execPwrEnDeassert
  repeat' first
    | with_reducible first | assumption | apply State.shutdownStart_kept | refine KeptO.ite ?_ ?_
        | refine KeptO.next ?_
    | (with_reducible refine Kept.lit ?_ rfl rfl rfl rfl rfl rfl; with_reducible assumption)

theorem execPwrEnAssert_kept {a : State} (info : ColdInfo) (s : State) (h : Kept a s) :
    KeptO a (execPwrEnAssert info s) := by
  unfold execPwrEnAssert
  repeat' first
    | with_reducible first | assumption | apply State.coldStart_kept | refine Kept.ite ?_ ?_
        | refine KeptO.ite ?_ ?_ | refine KeptO.next ?_
    | (with_reducible refine Kept.lit ?_ rfl rfl rfl rfl rfl rfl; with_reducible assumption)

theorem execRailFault_kept {a : State} (rail : Nat) (s : State) (h : Kept a s) : KeptO a (execRailFault rail s) := by
   unfold execRailFault; apply_rules [State.bootFail_kept, State.railsOff_kept, KeptO.ite, KeptO.next]

theorem State.thermalCycle_kept {a : State} (s : State) (d v : Nat) (h : Kept a s) : Kept a (State.thermalCycle s d v) :=
  h.same rfl rfl rfl rfl rfl rfl

theorem State.throttleUpdate_kept {a : State} (s : State) (h : Kept a s) : Kept a (State.throttleUpdate s) := by
  unfold State.throttleUpdate
  repeat' first
    | with_reducible first | assumption | apply State.event_kept | apply State.clockUpdate_kept
        | refine Kept.ite ?_ ?_
    | (with_reducible refine Kept.lit ?_ rfl rfl rfl rfl rfl rfl; with_reducible assumption)

theorem execThermalCondition_kept {a : State} (i v : Nat) (s : State) (h : Kept a s) :
    KeptO a (execThermalCondition i v s) := by
  unfold execThermalCondition
  repeat' first
    | with_reducible first | assumption | apply State.setF_kept | apply State.thermalCycle_kept
        | apply State.event_kept | apply State.throttleUpdate_kept | refine KeptO.ite ?_ ?_ | refine KeptO.next ?_
    | (with_reducible refine Kept.lit ?_ rfl rfl rfl rfl rfl rfl
       first
         | with_reducible assumption
         | with_reducible apply State.setF_kept
         | with_reducible apply State.thermalCycle_kept
         | with_reducible apply State.event_kept
         | with_reducible apply State.throttleUpdate_kept
         | with_reducible refine Kept.ite ?_ ?_
         | with_reducible refine Kept.iter _ _ _ ?_ ?_)

theorem execThermalThrottleStep_kept {a : State} (s : State) (h : Kept a s) : KeptO a (execThermalThrottleStep s) := by
  unfold execThermalThrottleStep
  repeat' first
    | with_reducible first | assumption | apply State.clockUpdate_kept | refine KeptO.ite ?_ ?_
        | refine KeptO.next ?_
    | (with_reducible refine Kept.lit ?_ rfl rfl rfl rfl rfl rfl; with_reducible assumption)

theorem execJunctionOverheatShutdown_kept {a : State} (s : State) (h : Kept a s) :
    KeptO a (execJunctionOverheatShutdown s) := by
   unfold execJunctionOverheatShutdown; apply_rules [State.shutdownStart_kept, KeptO.ite, KeptO.next]

theorem execHardwareTrip_kept {a : State} (s : State) (h : Kept a s) : KeptO a (execHardwareTrip s) := by
   unfold execHardwareTrip; apply_rules [State.railsOff_kept, State.cairn_kept, KeptO.ite, KeptO.next]

theorem execFlowLow_kept {a : State} (v : Nat) (s : State) (h : Kept a s) : KeptO a (execFlowLow v s) := by
  unfold execFlowLow
  repeat' first
    | with_reducible first | assumption | apply State.setF_kept | apply State.clockUpdate_kept
        | apply State.event_kept | apply State.cairn_kept | refine Kept.ite ?_ ?_ | refine KeptO.ite ?_ ?_
        | refine KeptO.next ?_
    | (with_reducible refine Kept.lit ?_ rfl rfl rfl rfl rfl rfl; with_reducible assumption)

theorem execFlowRestored_kept {a : State} (v : Nat) (s : State) (h : Kept a s) : KeptO a (execFlowRestored v s) := by
  unfold execFlowRestored
  repeat' first
    | with_reducible first | assumption | apply State.setF_kept | apply State.clockUpdate_kept
        | refine KeptO.ite ?_ ?_ | refine KeptO.next ?_
    | (with_reducible refine Kept.lit ?_ rfl rfl rfl rfl rfl rfl
       first
         | with_reducible assumption
         | with_reducible apply State.setF_kept
         | with_reducible apply State.clockUpdate_kept
         | with_reducible refine Kept.ite ?_ ?_)

theorem execFlowLossShutdown_kept {a : State} (s : State) (h : Kept a s) : KeptO a (execFlowLossShutdown s) := by
   unfold execFlowLossShutdown; apply_rules [State.shutdownStart_kept, KeptO.ite, KeptO.next]

theorem execLeakDetect_kept {a : State} (s : State) (h : Kept a s) : KeptO a (execLeakDetect s) := by
   unfold execLeakDetect; apply_rules [State.shutdownStart_kept, State.event_kept, KeptO.ite, KeptO.next]

/-! ### Machine/Reliability.lean -/

theorem State.flitReplay_kept {a : State} (s : State) (n : Nat) (h : Kept a s) :
    Kept a (State.flitReplay s n) := by
  unfold State.flitReplay
  repeat' first
    | with_reducible assumption
    | with_reducible refine State.fatal_kept _ _ _ ?_
    | with_reducible refine State.free_kept _ ?_
    | with_reducible refine State.ceRecord_kept _ _ _ _ _ ?_
    | with_reducible refine Kept.ite ?_ ?_

theorem State.unitCE_kept {a : State} (s : State) (unit : Nat) (g : Nat) (addr : Nat) (bit : Nat) (h : Kept a s) :
    Kept a (State.unitCE s unit g addr bit) := by
  unfold State.unitCE
  repeat' first
    | with_reducible assumption
    | with_reducible refine State.wordCE_kept _ _ _ _ _ _ ?_
    | with_reducible refine Kept.ite ?_ ?_

theorem State.unitError_kept {a : State} (s : State) (y0 : UnitErr) (h : Kept a s) :
    Kept a (State.unitError s y0) := by
  cases y0 <;> dsimp only [State.unitError]
  all_goals
  repeat' first
    | with_reducible assumption
    | with_reducible refine State.flitReplay_kept _ _ ?_
    | with_reducible refine State.unitCE_kept _ _ _ _ _ ?_
    | with_reducible refine State.ueRecord_kept _ _ _ _ ?_
    | with_reducible refine State.setCore_kept _ _ _ ?_
    | with_reducible refine State.setRFlow_kept _ _ ?_
    | with_reducible refine State.fatal_kept _ _ _ ?_
    | with_reducible refine State.store_kept _ _ _ _ ?_
    | with_reducible refine State.setF_kept _ _ _ _ _ _ ?_
    | with_reducible refine State.event_kept _ _ _ _ _ ?_
    | with_reducible refine State.setFn_kept _ _ _ ?_
    | split
    | (with_reducible refine Kept.lit ?_ rfl rfl rfl rfl rfl rfl
       first
         | with_reducible assumption
         | with_reducible refine State.flitReplay_kept _ _ ?_)

theorem execMeshFlitError_kept {a : State} (e : UnitErr) (s : State) (h : Kept a s) :
    KeptO a (execMeshFlitError e s) := by
  unfold execMeshFlitError
  repeat' first
    | with_reducible assumption
    | with_reducible refine State.unitError_kept _ _ ?_
    | with_reducible refine KeptO.next ?_
    | with_reducible refine Kept.ite ?_ ?_

theorem execCorrectedWriteback_kept {a : State} (n : Nat) (s : State) (h : Kept a s) :
    KeptO a (execCorrectedWriteback n s) := by
  unfold execCorrectedWriteback
  repeat' first
    | with_reducible first | assumption | refine KeptO.next ?_
    | (with_reducible refine Kept.lit ?_ rfl rfl rfl rfl rfl rfl; with_reducible assumption)

theorem execHbmScrubRead_kept {a : State} (err : MemErr) (s : State) (h : Kept a s) : KeptO a (execHbmScrubRead err s) := by
  unfold execHbmScrubRead
  repeat' first
    | with_reducible first | assumption | apply State.memErr_kept | apply State.addF_kept | refine KeptO.ite ?_ ?_
        | refine KeptO.next ?_
    | (with_reducible refine Kept.lit ?_ rfl rfl rfl rfl rfl rfl
       first
         | with_reducible assumption
         | with_reducible apply State.memErr_kept
         | with_reducible apply State.addF_kept
         | with_reducible refine Kept.ite ?_ ?_
         | with_reducible refine Kept.iter _ _ _ ?_ ?_)

theorem State.sliceStat_kept {a : State} (s : State) (h : Kept a s) : Kept a (State.sliceStat s) :=
  h.same rfl rfl rfl rfl rfl rfl

theorem State.secondBit_kept {a : State} (s : State) (g : Nat) (f : Fail) (h : Kept a s) :
    Kept a (State.secondBit s g f) := by
  unfold State.secondBit
  repeat' first
    | with_reducible assumption
    | with_reducible refine State.memUE_kept _ _ ?_
    | with_reducible refine State.unitError_kept _ _ ?_
    | with_reducible refine Kept.ite ?_ ?_

theorem execBistSlice_kept {a : State} (g : Nat) (fail : Option Fail) (s : State) (h : Kept a s) :
    KeptO a (execBistSlice g fail s) := by
  unfold execBistSlice
  repeat' first
    | with_reducible assumption
    | with_reducible refine State.sliceStat_kept _ ?_
    | with_reducible refine State.secondBit_kept _ _ _ ?_
    | with_reducible refine State.failFound_kept _ _ _ ?_
    | with_reducible refine State.event_kept _ _ _ _ _ ?_
    | with_reducible refine KeptO.next ?_
    | split
    | (with_reducible refine Kept.lit ?_ rfl rfl rfl rfl rfl rfl
       first
         | with_reducible assumption
         | with_reducible refine State.sliceStat_kept _ ?_
         | with_reducible refine State.secondBit_kept _ _ _ ?_
         | with_reducible refine State.failFound_kept _ _ _ ?_)

theorem State.analogFail_kept {a : State} (s : State) (kind phys addr : Nat) (h : Kept a s) :
    Kept a (State.analogFail s kind phys addr) := by
   unfold State.analogFail; apply_rules [State.event_kept, State.failLast_kept]

theorem execPllLockLoss_kept {a : State} (die : Nat) (s : State) (h : Kept a s) : KeptO a (execPllLockLoss die s) := by
   unfold execPllLockLoss; apply_rules [State.fatal_kept, State.analogFail_kept, State.setF_kept, KeptO.ite,
    KeptO.next]

theorem execPllFrequencyCheck_kept {a : State} (die : Nat) (err : BitVec 16) (s : State) (h : Kept a s) :
    KeptO a (execPllFrequencyCheck die err s) := by
  unfold execPllFrequencyCheck
  repeat' first
    | with_reducible assumption
    | with_reducible refine State.setF_kept _ _ _ _ _ _ ?_
    | with_reducible refine State.clockUpdate_kept _ ?_
    | with_reducible refine State.analogFail_kept _ _ _ _ ?_
    | with_reducible refine KeptO.next ?_
    | with_reducible refine KeptO.ite ?_ ?_
    | (with_reducible refine Kept.lit ?_ rfl rfl rfl rfl rfl rfl
       first
         | with_reducible assumption
         | with_reducible refine State.setF_kept _ _ _ _ _ _ ?_
         | with_reducible refine State.clockUpdate_kept _ ?_
         | with_reducible refine State.analogFail_kept _ _ _ _ ?_
         | with_reducible refine Kept.ite ?_ ?_)

theorem State.sensorsRead_kept {a : State} (s : State) (lo hi : Nat) (readings : List (Nat × Nat)) (h : Kept a s) :
    Kept a (State.sensorsRead s lo hi readings) := by
  unfold State.sensorsRead
  repeat' first
    | with_reducible first | assumption | intro _ _ _ | refine Kept.foldl _ ?_ _ _ ?_
    | (with_reducible refine Kept.lit ?_ rfl rfl rfl rfl rfl rfl; with_reducible assumption)

theorem execThermalSensorCrossCheck_kept {a : State} (readings : List (Nat × Nat)) (bad : Option Nat) (s : State) (h : Kept a s) :
    KeptO a (execThermalSensorCrossCheck readings bad s) := by
  unfold execThermalSensorCrossCheck
  repeat' first
    | with_reducible first | assumption | apply State.sensorsRead_kept | apply State.analogFail_kept
        | apply State.setF_kept | refine KeptO.next ?_
    | (extract_lets +onlyGivenNames x1
       first
         | (refine KeptO.cut (x := x1) ?_ ?_
            all_goals first | (with_reducible intro _; clear_value x1) | dsimp -zeta only [x1])
         | (have q : Steward := x1; clear q))
    | split
    | (with_reducible refine Kept.lit ?_ rfl rfl rfl rfl rfl rfl; with_reducible assumption)

theorem execVoltageMonitorCheck_kept {a : State} (readings : List (Nat × Nat)) (bad : Option Nat) (s : State) (h : Kept a s) :
    KeptO a (execVoltageMonitorCheck readings bad s) := by
  unfold execVoltageMonitorCheck
  repeat' first
    | with_reducible first | assumption | apply State.sensorsRead_kept | apply State.analogFail_kept
        | apply State.setF_kept | refine KeptO.next ?_
    | (extract_lets +onlyGivenNames x1
       first
         | (refine KeptO.cut (x := x1) ?_ ?_
            all_goals first | (with_reducible intro _; clear_value x1) | dsimp -zeta only [x1])
         | (have q : Steward := x1; clear q))
    | split
    | (with_reducible refine Kept.lit ?_ rfl rfl rfl rfl rfl rfl; with_reducible assumption)

theorem State.loopGo_kept {a : State} (s : State) (v : Word) (h : Kept a s) : Kept a (State.loopGo s v) := by
  unfold State.loopGo
  repeat' first
    | with_reducible first | assumption | apply State.setReg_kept | refine Kept.ite ?_ ?_
    | (extract_lets +onlyGivenNames x1
       refine Kept.cut (x := x1) ?_ ?_
       all_goals first | (with_reducible intro _; clear_value x1) | dsimp -zeta only [x1])
    | (with_reducible refine Kept.lit ?_ rfl rfl rfl rfl rfl rfl; with_reducible assumption)

theorem execBistLoopGo_kept {a : State} (v : Word) (s : State) (h : Kept a s) : KeptO a (execBistLoopGo v s) := by
   unfold execBistLoopGo; apply_rules [State.loopGo_kept, KeptO.next]

theorem State.loopLaneFail_kept {a : State} (s : State) (lane : Nat) (h : Kept a s) :
    Kept a (State.loopLaneFail s lane) := by
  unfold State.loopLaneFail
  repeat' first
    | with_reducible first | assumption | apply State.analogFail_kept
    | (extract_lets +onlyGivenNames x1
       first
         | (refine Kept.cut (x := x1) ?_ ?_
            all_goals first | (with_reducible intro _; clear_value x1) | dsimp -zeta only [x1])
         | (have q : Steward := x1; clear q))
    | (with_reducible refine Kept.lit ?_ rfl rfl rfl rfl rfl rfl; with_reducible assumption)

theorem execLoopDone_kept {a : State} (lanes errors : Nat) (s : State) (h : Kept a s) : KeptO a (execLoopDone lanes errors s) := by
  unfold execLoopDone
  split
  · exact KeptO.next h
  · dsimp only
    refine KeptO.ite (KeptO.next h) (KeptO.ite (KeptO.next ?_) (KeptO.next (Kept.foldl _ (fun s i h => State.loopLaneFail_kept _ _ h) _ _ ?_)))
    all_goals
      refine State.event_kept _ _ _ _ _ (Kept.lit ?_ rfl rfl rfl rfl rfl rfl)
      exact State.setF_kept _ _ _ _ _ _ (State.setF_kept _ _ _ _ _ _ (State.setF_kept _ _ _ _ _ _ h))

theorem execSidebandShort_kept {a : State} (pin : Nat) (s : State) (h : Kept a s) : KeptO a (execSidebandShort pin s) := by
   unfold execSidebandShort; apply_rules [State.event_kept, State.setF_kept, State.cairn_kept, KeptO.ite, KeptO.next]

theorem execLifeCounterCommit_kept {a : State} (s : State) (h : Kept a s) : KeptO a (execLifeCounterCommit s) := by
   unfold execLifeCounterCommit; apply_rules [State.lifeCommit_kept, Kept.ite, KeptO.next]

theorem execWearAccumulate_kept {a : State} (s : State) (h : Kept a s) : KeptO a (execWearAccumulate s) := by
   unfold execWearAccumulate; apply_rules [State.life_kept, KeptO.ite, KeptO.next]

theorem State.utcSet_kept {a : State} (s : State) (t source : Nat) (h : Kept a s) : Kept a (State.utcSet s t source) := by
  unfold State.utcSet
  repeat' first
    | with_reducible first | assumption | apply State.setF_kept | apply State.cairn_kept | refine Kept.ite ?_ ?_
    | (with_reducible refine Kept.lit ?_ rfl rfl rfl rfl rfl rfl; with_reducible assumption)

theorem execLifeUtcSet_kept {a : State} (v : Word) (s : State) (h : Kept a s) : KeptO a (execLifeUtcSet v s) := by
   unfold execLifeUtcSet; apply_rules [State.utcSet_kept, KeptO.ite, KeptO.next]

/-! ### Machine/Host.lean -/

theorem State.ringFetch_kept {a : State} (s : State) (p c n : Nat) (h : Kept a s) : Kept a (State.ringFetch s p c n) := by
   unfold State.ringFetch; apply_rules [State.setSvc_kept, Kept.ite]

theorem execHostRingFetch_kept {a : State} (p c n : Nat) (s : State) (h : Kept a s) :
    KeptO a (execHostRingFetch p c n s) := by
   unfold execHostRingFetch; apply_rules [State.ringFetch_kept, KeptO.ite, KeptO.next]

theorem State.crCfgWrite_kept {a : State} (s : State) (p c : Nat) (v : Word) (h : Kept a s) :
    Kept a (State.crCfgWrite s p c v) := by
   unfold State.crCfgWrite; apply_rules [State.setReg_kept, State.setF_kept, Kept.ite]

theorem execHifCrCfgEnable_kept {a : State} (p c : Nat) (v : Word) (s : State) (h : Kept a s) :
    KeptO a (execHifCrCfgEnable p c v s) := by
   unfold execHifCrCfgEnable; apply_rules [State.crCfgWrite_kept, KeptO.ite, KeptO.next]

theorem State.complete_kept {a : State} (s : State) (c : Nat) (x : Cpl) (h : Kept a s) : Kept a (State.complete s c x) :=
  h.same rfl rfl rfl rfl rfl rfl

theorem State.cplWrite_kept {a : State} (s : State) (c : Nat) (x : Cpl) (h : Kept a s) : Kept a (State.cplWrite s c x) := by
  unfold State.cplWrite
  repeat' first
    | with_reducible first | assumption | apply State.write_kept | apply State.setF_kept | apply State.addF_kept

theorem State.headerWrite_kept {a : State} (s : State) (p c : Nat) (h : Kept a s) : Kept a (State.headerWrite s p c) := by
   unfold State.headerWrite; apply_rules [State.write_kept]

theorem State.ringServe_kept {a : State} (s : State) (c p : Nat) (h : Kept a s) : Kept a (State.ringServe s c p) := by
  unfold State.ringServe
  repeat' first
    | with_reducible first | assumption | apply State.setF_kept | apply State.addF_kept | apply State.setSvc_kept
        | apply State.cplWrite_kept | apply State.headerWrite_kept | apply State.msixSend_kept
        | refine Kept.ite ?_ ?_ | intro _ _ _ | refine Kept.foldl _ ?_ _ _ ?_

theorem State.note_kept {a : State} (s : State) (c : Nat) (e : List Byte) (h : Kept a s) : Kept a (State.note s c e).2 := by
  unfold State.note
  repeat' first
    | with_reducible first | assumption | apply State.mqAccept_kept
    | extract_lets +onlyGivenNames x1
    | split

theorem State.hostToken_kept {a : State} (s : State) (c : Nat) (e : List Byte) (h : Kept a s) :
    Kept a (State.hostToken s c e).2 := by
  unfold State.hostToken
  repeat' first
    | with_reducible first | assumption | apply State.token_kept
    | extract_lets +onlyGivenNames x1
    | split

theorem State.useCredit_kept {a : State} (s : State) (p c : Nat) (h : Kept a s) (t : State) (e : s.useCredit p c = some t) : Kept a t := by
  unfold State.useCredit at e
  extract_lets x at e
  split at e <;> split at e <;> first | (injection e with e; subst e; exact State.setSvc_kept _ _ _ h) | cases e

theorem State.takeEntry_kept {a : State} (s : State) (p c frame : Nat) (e : List Byte) (h : Kept a s) : Kept a (s.takeEntry p c frame e) := by
  have hd : ∀ {s : State} (x : Cpl), Kept a s → Kept a (s.complete c x) := fun _ h => State.complete_kept _ _ _ h
  have h0 := State.addF_kept _ F.HIF_RING_OUT_OUTSTANDING 1 c p 0 (State.addF_kept _ F.HIF_RING_STAT_CMD_CI 1 c p 0 h)
  unfold State.takeEntry
  dsimp only
  refine Kept.ite (State.event_kept _ _ _ _ _ (hd _ h0)) (Kept.ite (hd _ h0) (Kept.ite ?_ (Kept.ite ?_ ?_)))
  · split
    · exact State.addF_kept _ _ _ _ _ _ (hd _ h0)
    · next e => exact State.setF_kept _ _ _ _ _ _ (State.setSvc_kept _ _ _ (State.useCredit_kept _ _ _ h0 _ e))
  · exact hd _ (State.note_kept _ _ _ h0)
  · exact hd _ (State.hostToken_kept _ _ _ h0)

theorem State.takeOp_kept {a : State} (s : State) (op p c : Nat) (e : Entry) (h : Kept a s) :
    Kept a (State.takeOp s op p c e) := by
   unfold State.takeOp; apply_rules [State.takeEntry_kept, Kept.ite]

theorem execCommandNop_kept {a : State} (p c : Nat) (e : Entry) (s : State) (h : Kept a s) :
    KeptO a (execCommandNop p c e s) := by
   unfold execCommandNop; apply_rules [State.takeOp_kept, KeptO.next]

theorem execRequest_kept {a : State} (p c : Nat) (e : Entry) (s : State) (h : Kept a s) :
    KeptO a (execRequest p c e s) := by
   unfold execRequest; apply_rules [State.takeOp_kept, KeptO.next]

theorem execNote_kept {a : State} (p c : Nat) (e : Entry) (s : State) (h : Kept a s) : KeptO a (execNote p c e s) := by
   unfold execNote; apply_rules [State.takeOp_kept, KeptO.next]

theorem execToken_kept {a : State} (p c : Nat) (e : Entry) (s : State) (h : Kept a s) : KeptO a (execToken p c e s) := by
   unfold execToken; apply_rules [State.takeOp_kept, KeptO.next]

theorem State.slotsFreed_kept {a : State} (s : State) (c : Nat) (h : Kept a s) : Kept a (State.slotsFreed s c) := by
  unfold State.slotsFreed
  repeat' first
    | with_reducible first | assumption | apply State.complete_kept | apply State.writeN_kept
        | apply State.setF_kept | apply State.setSvc_kept | intro _ _ _ | refine Kept.foldl _ ?_ _ _ ?_

theorem State.ringTake_kept {a : State} (s : State) (p c : Nat) (h : Kept a s) : Kept a (State.ringTake s p c) := by
  unfold State.ringTake
  repeat' first
    | with_reducible first | assumption | apply State.ringFetch_kept | apply State.setSvc_kept
        | apply State.event_kept | apply State.takeEntry_kept | refine Kept.ite ?_ ?_ | intro _ _ _
        | refine Kept.foldl _ ?_ _ _ ?_

theorem State.ringAction_kept {a : State} (s : State) (c : Nat) (h : Kept a s) : Kept a (State.ringAction s c) := by
   unfold State.ringAction; apply_rules [State.ringTake_kept, State.slotsFreed_kept]

theorem State.admitTo_kept {a : State} (s : State) (c n i : Nat) (r : HReq) (h : Kept a s) :
    Kept a (State.admitTo s c n i r) := by
  unfold State.admitTo
  repeat' first
    | with_reducible first | assumption | apply State.write_kept | apply State.addF_kept | apply State.setSvc_kept

theorem State.admitQueued_kept {a : State} (s : State) (c n : Nat) (h : Kept a s) : Kept a (State.admitQueued s c n) := by
  unfold State.admitQueued
  repeat' first
    | with_reducible first | assumption | apply State.setSvc_kept | apply State.admitTo_kept | apply State.setF_kept
        | apply State.event_kept | apply State.token_kept | refine Kept.ite ?_ ?_ | intro _ _ _
        | refine Kept.foldl _ ?_ _ _ ?_

theorem State.defer_kept {a : State} (s : State) (c n : Nat) (h : Kept a s) : Kept a (State.defer s c n) := by
  unfold State.defer
  repeat' first
    | with_reducible first | assumption | apply State.setSvc_kept | apply State.event_kept | apply State.setF_kept
        | apply State.addF_kept | refine Kept.ite ?_ ?_

theorem State.pace_kept {a : State} (s : State) (c : Nat) (h : Kept a s) : Kept a (State.pace s c) := by
  unfold State.pace
  repeat' first
    | with_reducible first | assumption | apply State.setF_kept | apply State.event_kept | apply State.setSvc_kept
        | refine Kept.ite ?_ ?_

theorem State.intakeAction_kept {a : State} (s : State) (n : Nat) (c : Nat) (h : Kept a s) : Kept a (State.intakeAction s n c) := by
  unfold State.intakeAction
  repeat' first
    | with_reducible assumption
    | with_reducible refine State.defer_kept _ _ _ ?_
    | with_reducible refine State.admitQueued_kept _ _ _ ?_
    | with_reducible refine State.pace_kept _ _ ?_
    | with_reducible refine State.ringServe_kept _ _ _ ?_
    | with_reducible refine Kept.ite ?_ ?_

theorem execIntakeDeadlineExpiry_kept {a : State} (c : Nat) (s : State) (h : Kept a s) :
    KeptO a (execIntakeDeadlineExpiry c s) := by
   unfold execIntakeDeadlineExpiry; apply_rules [State.defer_kept, KeptO.ite, KeptO.next]

/-! ### Machine/Frames.lean -/

theorem State.utcRun_kept {a : State} (s : State) (dt : Nat) (h : Kept a s) : Kept a (State.utcRun s dt) :=
  h.same rfl rfl rfl rfl rfl rfl

theorem State.advance_kept {a : State} (s : State) (t : Nat) (h : Kept a s) : Kept a (State.advance s t) := by
  have h1 : Kept a (if t - s.clk.now = 0 then s else
      { s.idleTimers with cycles := s.countCycles (t - s.clk.now), watch := s.watchRun (t - s.clk.now) }) :=
    Kept.ite h ((State.idleTimers_kept _ h).same rfl rfl rfl rfl rfl rfl)
  unfold State.advance
  dsimp only
  exact State.life_kept _ _ (State.utcRun_kept _ _ (h1.same rfl rfl rfl rfl rfl rfl))

theorem State.overrunCheck_kept {a : State} (s : State) (g c : Nat) (h : Kept a s) : Kept a (State.overrunCheck s g c) := by
  unfold State.overrunCheck
  repeat' first
    | with_reducible first | assumption | apply State.addF_kept | apply State.setCtx_kept | refine Kept.ite ?_ ?_

theorem State.watchdog_kept {a : State} (s : State) (c : Nat) (h : Kept a s) : Kept a (State.watchdog s c) := by
  unfold State.watchdog
  repeat' first
    | with_reducible first | assumption | apply State.setF_kept | apply State.event_kept
    | split

theorem State.frameOpen_kept {a : State} (s : State) (m g : Nat) (h : Kept a s) : Kept a (State.frameOpen s m g) := by
   unfold State.frameOpen; apply_rules [State.setCtx_kept, Kept.ite]

theorem State.ownerAction_kept {a : State} (s : State) (m : Nat) (h : Kept a s) : Kept a (State.ownerAction s m) := by
  unfold State.ownerAction
  repeat' first
    | with_reducible first | assumption | apply State.watchTick_kept | apply State.frameOpen_kept | intro _ _ _
        | refine Kept.iter _ _ _ ?_ ?_ | refine Kept.foldl _ ?_ _ _ ?_
    | (with_reducible refine Kept.lit ?_ rfl rfl rfl rfl rfl rfl; with_reducible assumption)

theorem State.multicast_kept {a : State} (s : State) (k : Nat) (body : List Byte) (h : Kept a s) :
    Kept a (State.multicast s k body) := by
  unfold State.multicast
  repeat' first
    | with_reducible assumption
    | with_reducible refine State.send_kept _ _ _ ?_
    | with_reducible refine State.free_kept _ ?_
    | with_reducible intro _ _ _
    | with_reducible refine Kept.foldl _ ?_ _ _ ?_
    | (extract_lets +onlyGivenNames x1
       first
         | (refine Kept.cut (x := x1) ?_ ?_
            all_goals first | (with_reducible intro _; clear_value x1) | dsimp -zeta only [x1])
         | clear_value x1)
    | split
    | with_reducible refine Kept.snd (by with_reducible assumption) ?_

theorem State.homeRelease_kept {a : State} (s : State) (k : Nat) (h : Kept a s) : Kept a (State.homeRelease s k) := by
  unfold State.homeRelease
  repeat' first
    | with_reducible first | assumption | apply State.multicast_kept | apply State.colRelease_kept
        | apply State.setF_kept
    | (with_reducible refine Kept.lit ?_ rfl rfl rfl rfl rfl rfl; with_reducible assumption)

theorem State.homeTick_kept {a : State} (s : State) (k : Nat) (h : Kept a s) : Kept a (State.homeTick s k) := by
  unfold State.homeTick
  repeat' first
    | with_reducible first | assumption | apply State.homeRelease_kept | apply State.colCheck_kept
        | refine Kept.ite ?_ ?_

theorem State.colAction_kept {a : State} (s : State) (h : Kept a s) : Kept a (State.colAction s) := by
   unfold State.colAction; apply_rules [State.homeTick_kept, Kept.foldl]

theorem State.tickToken_kept {a : State} (s : State) (g : Nat) (h : Kept a s) : Kept a (State.tickToken s g) := by
   unfold State.tickToken; apply_rules [State.setCtx_kept, Kept.ite]

theorem State.checkActions_kept {a : State} (s : State) (h : Kept a s) : Kept a (State.checkActions s) := by
  unfold State.checkActions
  repeat' first
    | with_reducible first | assumption | apply State.overrunCheck_kept | apply State.watchdog_kept
        | refine Kept.ite ?_ ?_ | intro _ _ _ | refine Kept.iter _ _ _ ?_ ?_ | refine Kept.foldl _ ?_ _ _ ?_

theorem State.resumeAction_kept {a : State} (s : State) (h : Kept a s) : Kept a (State.resumeAction s) := by
   unfold State.resumeAction; apply_rules [State.resumeCtx_kept, Kept.ite, Kept.iter]

theorem State.setTick_kept {a : State} (s : State) (m t : Nat) (hm : m < 2 ^ 64) (h : Kept a s) :
    Kept a { s with clk := { s.clk with frame := m, tickTime := t, running := true, start := none } } :=
  ⟨h.pending, fun i => ⟨(h.sound i).mem, (h.sound i).poison, hm⟩, h.free, h.svn⟩

theorem State.tick_kept {a : State} (s : State) (m t : Nat) (h : Kept a s) (hm : m < 2 ^ 64) : Kept a (s.tick m t) := by
  unfold State.tick
  refine Kept.lit ?_ rfl rfl rfl rfl rfl rfl
  refine Kept.foldl _ (fun s g h => State.tickToken_kept _ _ h) _ _ ?_
  refine Kept.iter _ _ _ (fun i s h => State.intakeAction_kept _ _ _ h) ?_
  refine Kept.iter _ _ _ (fun i s h => State.ringAction_kept _ _ h) ?_
  refine State.skipAction_kept _ _ (State.kvAction_kept _ (State.colAction_kept _ ?_))
  refine State.loanAction_kept _ _ (State.ownerAction_kept _ _ (State.txnAction_kept _ _ ?_))
  refine Kept.iter _ _ _ (fun i s h => State.trnAction_kept _ _ _ h) ?_
  exact State.resumeAction_kept _ (State.checkActions_kept _ (State.setTick_kept _ _ _ hm (State.advance_kept _ _ h)))

theorem State.tickAt_kept {a : State} (s : State) (m t : Nat) (h : Kept a s) : KeptO a (s.tickAt m t) := by
  unfold State.tickAt
  split
  · exact KeptO.fault
  · exact KeptO.next (State.tick_kept _ _ _ h (by omega))

theorem execFrmTick_kept {a : State} (s : State) (h : Kept a s) : KeptO a (execFrmTick s) := by
   unfold execFrmTick; apply_rules [State.tickAt_kept, KeptO.ite, KeptO.next]

theorem State.firstTick_kept {a : State} (s : State) (t m : Nat) (missed : Bool) (h : Kept a s) :
    KeptO a (State.firstTick s t m missed) := by
  unfold State.firstTick
  repeat' first
    | with_reducible first | assumption | apply State.tickAt_kept | apply State.event_kept | refine Kept.ite ?_ ?_

theorem execFirstTick_kept {a : State} (s : State) (h : Kept a s) : KeptO a (execFirstTick s) := by
  unfold execFirstTick
  repeat' first
    | with_reducible first | assumption | apply State.firstTick_kept | refine KeptO.next ?_
    | split

theorem execFrameWatchdogFire_kept {a : State} (c : Nat) (s : State) (h : Kept a s) :
    KeptO a (execFrameWatchdogFire c s) := by
   unfold execFrameWatchdogFire; apply_rules [State.watchdog_kept, KeptO.ite, KeptO.next]

theorem State.idle_kept {a : State} (s : State) (h : Kept a s) : KeptO a (State.idle s) := by
  unfold State.idle
  repeat' first
    | with_reducible assumption
    | with_reducible refine State.utcRun_kept _ _ ?_
    | with_reducible refine State.firstTick_kept _ _ _ _ ?_
    | with_reducible refine State.advance_kept _ _ ?_
    | with_reducible refine State.tickAt_kept _ _ _ ?_
    | with_reducible refine KeptO.next ?_
    | split

theorem State.runSet_kept {a : State} (s : State) (h : Kept a s) : KeptO a (State.runSet s) := by
  unfold State.runSet
  repeat' first
    | with_reducible first | assumption | apply State.setF_kept | apply State.firstTick_kept
        | refine KeptO.ite ?_ ?_ | refine KeptO.next ?_
    | (with_reducible refine Kept.lit ?_ rfl rfl rfl rfl rfl rfl
       first
         | with_reducible assumption
         | with_reducible apply State.setF_kept
         | with_reducible apply State.firstTick_kept
         | with_reducible refine Kept.ite ?_ ?_)

theorem State.runClear_kept {a : State} (s : State) (h : Kept a s) : Kept a (State.runClear s) := by
  unfold State.runClear
  repeat' first
    | with_reducible first | assumption | apply State.setF_kept | refine Kept.ite ?_ ?_
    | (extract_lets +onlyGivenNames x1
       first
         | (refine Kept.cut (x := x1) ?_ ?_
            all_goals first | (with_reducible intro _; clear_value x1) | dsimp -zeta only [x1])
         | (have q : Clock := x1; clear q))
    | (with_reducible refine Kept.lit ?_ rfl rfl rfl rfl rfl rfl; with_reducible assumption)

theorem execFrmCtrlRunSet_kept {a : State} (s : State) (h : Kept a s) : KeptO a (execFrmCtrlRunSet s) := by
   unfold execFrmCtrlRunSet; apply_rules [State.runSet_kept]

theorem execFrmCtrlRunClear_kept {a : State} (s : State) (h : Kept a s) : KeptO a (execFrmCtrlRunClear s) := by
   unfold execFrmCtrlRunClear; apply_rules [State.runClear_kept, KeptO.next]

theorem State.syncSet_kept {a : State} (s : State) (on : Bool) (h : Kept a s) : Kept a (State.syncSet s on) := by
   unfold State.syncSet; apply_rules [State.setF_kept, Kept.ite]

theorem execSyncEn_kept {a : State} (on : Bool) (s : State) (h : Kept a s) : KeptO a (execSyncEn on s) := by
   unfold execSyncEn; apply_rules [State.syncSet_kept, KeptO.next]

theorem execPtpLock_kept {a : State} (port : Nat) (time : Word) (utcOffset : Nat) (s : State) (h : Kept a s) :
    KeptO a (execPtpLock port time utcOffset s) := by
  unfold execPtpLock
  repeat' first
    | with_reducible first | assumption | apply State.setF_kept | apply State.utcSet_kept | refine Kept.ite ?_ ?_
        | refine KeptO.ite ?_ ?_ | refine KeptO.next ?_
    | (extract_lets +onlyGivenNames x1
       first
         | (refine Kept.cut (x := x1) ?_ ?_
            all_goals first | (with_reducible intro _; clear_value x1) | dsimp -zeta only [x1])
         | (have q : Clock := x1; clear q))
    | (with_reducible refine Kept.lit ?_ rfl rfl rfl rfl rfl rfl; with_reducible assumption)

theorem State.offsetLimits_kept {a : State} (s : State) (ns : Nat) (h : Kept a s) : Kept a (State.offsetLimits s ns) := by
   unfold State.offsetLimits; apply_rules [State.event_kept, State.setF_kept, Kept.ite]

theorem execPtpEventMessage_kept {a : State} (port : Nat) (offset : BitVec 32) (s : State) (h : Kept a s) :
    KeptO a (execPtpEventMessage port offset s) := by
   unfold execPtpEventMessage; apply_rules [State.setF_kept, State.offsetLimits_kept, KeptO.ite, KeptO.next]

theorem execHoldover_kept {a : State} (s : State) (h : Kept a s) : KeptO a (execHoldover s) := by
   unfold execHoldover; apply_rules [State.event_kept, State.setF_kept, KeptO.ite, KeptO.next]

theorem execHoldoverOffsetLimit_kept {a : State} (offset : Nat) (s : State) (h : Kept a s) :
    KeptO a (execHoldoverOffsetLimit offset s) := by
   unfold execHoldoverOffsetLimit; apply_rules [State.offsetLimits_kept, KeptO.ite, KeptO.next]

theorem execFrmOvrMaxClear_kept {a : State} (c : Nat) (clear : Bool) (s : State) (h : Kept a s) :
    KeptO a (execFrmOvrMaxClear c clear s) := by
  unfold execFrmOvrMaxClear
  repeat' first
    | with_reducible first | assumption | apply State.setF_kept | refine KeptO.ite ?_ ?_ | refine KeptO.next ?_

theorem State.stallRecord_kept {a : State} (s : State) (g c : Nat) (h : Kept a s) : Kept a (State.stallRecord s g c) := by
  unfold State.stallRecord
  repeat' first
    | with_reducible first | assumption | apply State.setF_kept | apply State.event_kept

theorem execStallSnapshot_kept {a : State} (g c : Nat) (s : State) (h : Kept a s) : KeptO a (execStallSnapshot g c s) := by
  unfold execStallSnapshot
  repeat' first
    | with_reducible first | assumption | apply State.addF_kept | apply State.stallRecord_kept
        | refine Kept.ite ?_ ?_ | refine KeptO.ite ?_ ?_ | refine KeptO.next ?_
    | (with_reducible refine Kept.lit ?_ rfl rfl rfl rfl rfl rfl; with_reducible assumption)

theorem State.framePhase_kept {a : State} (s : State) (c : Nat) (h : Kept a s) : Kept a (State.framePhase s c).2 := by
  unfold State.framePhase
  repeat' first
    | with_reducible first | assumption | apply State.free_kept
    | extract_lets +onlyGivenNames x1
    | split

theorem State.corePhase_kept {a : State} (s : State) (g c : Nat) (h : Kept a s) : Kept a (State.corePhase s g c).2 := by
  unfold State.corePhase
  repeat' first
    | with_reducible first | assumption | apply State.framePhase_kept
    | split

theorem State.phaseCount_kept {a : State} (s : State) (g : Nat) (h : Kept a s) : Kept a (State.phaseCount s g) := by
  unfold State.phaseCount
  repeat' first
    | with_reducible first | assumption | apply State.corePhase_kept | apply State.addF_kept
        | apply State.setTrn_kept | refine Kept.ite ?_ ?_

theorem execAltimeterPhaseCount_kept {a : State} (s : State) (h : Kept a s) : KeptO a (execAltimeterPhaseCount s) := by
  unfold execAltimeterPhaseCount
  repeat' first
    | with_reducible first | assumption | apply State.phaseCount_kept | refine KeptO.next ?_ | intro _ _ _
        | refine Kept.foldl _ ?_ _ _ ?_

/-! ### Machine/Steward.lean -/

theorem State.reply_kept {a : State} (s : State) (via : Via) (code : Nat) (data : List Byte) (h : Kept a s) :
    Kept a (State.reply s via code data) := by
  unfold State.reply
  repeat' first
    | with_reducible first | assumption | apply State.write_kept | apply State.setF_kept
        | apply State.blockVector_kept | apply State.event_kept
    | split
    | (with_reducible refine Kept.lit ?_ rfl rfl rfl rfl rfl rfl
       first
         | with_reducible assumption
         | with_reducible apply State.write_kept
         | with_reducible apply State.setF_kept
         | with_reducible apply State.blockVector_kept
         | with_reducible apply State.event_kept
         | with_reducible refine Kept.ite ?_ ?_)

theorem State.sensorReading_kept {a : State} (s : State) (i : Nat) (h : Kept a s) : Kept a (State.sensorReading s i).2 := by
   unfold State.sensorReading; apply_rules [State.free_kept]

theorem State.fwActivate_kept {a : State} (s : State) (type ab : Nat) (commit : Bool) (h : Kept a s) :
    Kept a (s.fwActivate type ab commit) := by
  unfold State.fwActivate
  refine State.cairn_kept _ _ _ (State.life_kept _ _ ⟨h.pending, fun i => ⟨(h.sound i).mem, (h.sound i).poison, (h.sound i).frame⟩, h.free, ?_⟩)
  intro k
  refine Nat.le_trans (h.svn k) ?_
  show _ ≤ SMap.get 0 (SMap.set id 0 s.stw.svn type _) k
  by_cases e : k = type
  · subst e
    rw [SMap.get_set_same]
    split
    · exact Nat.le_max_left _ _
    · exact Nat.le_refl _
  · exact Nat.le_of_eq (SMap.get_set_other _ _ _ _ _ e).symm

theorem State.runSensors_kept {a : State} (s : State) (b : List Byte) (h : Kept a s) :
    Kept a (State.runSensors s b).2.2 := by
  unfold State.runSensors
  repeat' first
    | with_reducible assumption
    | with_reducible refine State.sensorReading_kept _ _ ?_
    | with_reducible intro _ _ _
    | with_reducible refine Kept.foldl2 _ ?_ _ _ ?_
    | split

theorem State.runAttest_kept {a : State} (s : State) (b : List Byte) (h : Kept a s) :
    Kept a (State.runAttest s b).2.2 := by
  unfold State.runAttest
  repeat' first
    | with_reducible assumption
    | with_reducible refine State.useFree_kept _ _ ?_
    | split

theorem State.runFwWrite_kept {a : State} (s : State) (b : List Byte) (h : Kept a s) :
    Kept a (State.runFwWrite s b).2.2 := by
  unfold State.runFwWrite
  repeat' first
    | with_reducible assumption
    | with_reducible refine State.fwStore_kept _ _ _ _ ?_
    | (extract_lets +onlyGivenNames x1
       first
         | (refine Kept.cut (x := x1) ?_ ?_
            all_goals first | (with_reducible intro _; clear_value x1) | dsimp -zeta only [x1])
         | clear_value x1)
    | split

theorem State.runFwVerify_kept {a : State} (s : State) (b : List Byte) (h : Kept a s) :
    Kept a (State.runFwVerify s b).2.2 := by
  unfold State.runFwVerify
  repeat' first
    | with_reducible assumption
    | with_reducible refine State.event_kept _ _ _ _ _ ?_
    | (extract_lets +onlyGivenNames x1
       first
         | (refine Kept.cut (x := x1) ?_ ?_
            all_goals first | (with_reducible intro _; clear_value x1) | dsimp -zeta only [x1])
         | clear_value x1)
    | split

theorem State.runFwActivate_kept {a : State} (s : State) (b : List Byte) (h : Kept a s) :
    Kept a (State.runFwActivate s b).2.2 := by
  unfold State.runFwActivate
  repeat' first
    | with_reducible assumption
    | with_reducible refine State.fwActivate_kept _ _ _ _ ?_
    | (extract_lets +onlyGivenNames x1
       first
         | (refine Kept.cut (x := x1) ?_ ?_
            all_goals first | (with_reducible intro _; clear_value x1) | dsimp -zeta only [x1])
         | clear_value x1)
    | split

theorem State.runCalUser_kept {a : State} (s : State) (b : List Byte) (h : Kept a s) :
    Kept a (State.runCalUser s b).2.2 := by
  unfold State.runCalUser
  repeat' first
    | with_reducible assumption
    | with_reducible refine State.txnBegin_kept _ _ ?_
    | with_reducible refine State.stage_kept _ _ _ _ ?_
    | with_reducible refine State.txnCommit_kept _ _ ?_
    | (extract_lets +onlyGivenNames x1
       first
         | (refine Kept.cut (x := x1) ?_ ?_
            all_goals first | (with_reducible intro _; clear_value x1) | dsimp -zeta only [x1])
         | clear_value x1)
    | split

theorem State.keyRevoke_kept {a : State} (s : State) (type : Nat) (slot : Nat) (h : Kept a s) :
    Kept a (State.keyRevoke s type slot) := by
  unfold State.keyRevoke
  repeat' first
    | with_reducible assumption
    | split
    | (with_reducible refine Kept.lit ?_ rfl rfl rfl rfl rfl rfl
       first
         | with_reducible assumption
         | with_reducible refine Kept.ite ?_ ?_)

theorem State.stewardRun_kept {a : State} (s : State) (code : Nat) (b : List Byte) (h : Kept a s) :
    Kept a (State.stewardRun s code b).2.2 := by
  unfold State.stewardRun
  repeat' first
    | with_reducible assumption
    | with_reducible refine State.runSensors_kept _ _ ?_
    | with_reducible refine State.runAttest_kept _ _ ?_
    | with_reducible refine State.runFwWrite_kept _ _ ?_
    | with_reducible refine State.runFwVerify_kept _ _ ?_
    | with_reducible refine State.runFwActivate_kept _ _ ?_
    | with_reducible refine State.runCalUser_kept _ _ ?_
    | split

theorem State.command_kept {a : State} (s : State) (via : Via) (code : Nat) (b : List Byte) (h : Kept a s) :
    Kept a (State.command s via code b) := by
  unfold State.command
  repeat' first
    | with_reducible assumption
    | with_reducible refine State.reply_kept _ _ _ _ ?_
    | with_reducible refine State.stewardRun_kept _ _ _ ?_
    | with_reducible refine State.warmRequest_kept _ ?_
    | with_reducible refine State.shutdownStart_kept _ _ _ _ ?_
    | with_reducible refine Kept.ite ?_ ?_

theorem State.jobRun_kept {a : State} (s : State) (j : Job) (h : Kept a s) :
    Kept a (State.jobRun s j) := by
  unfold State.jobRun
  repeat' first
    | with_reducible assumption
    | with_reducible refine State.command_kept _ _ _ _ ?_
    | with_reducible refine State.reply_kept _ _ _ _ ?_
    | split
    | (with_reducible refine Kept.lit ?_ rfl rfl rfl rfl rfl rfl
       first
         | with_reducible assumption
         | with_reducible refine State.command_kept _ _ _ _ ?_)

theorem State.jobPop_kept {a : State} (s : State) (h : Kept a s) :
    Kept a (State.jobPop s) := by
  unfold State.jobPop
  repeat' first
    | with_reducible assumption
    | with_reducible refine State.jobRun_kept _ _ ?_
    | split
    | (with_reducible refine Kept.lit ?_ rfl rfl rfl rfl rfl rfl
       first
         | with_reducible assumption
         | with_reducible refine State.jobRun_kept _ _ ?_)

theorem State.jobsServe_kept {a : State} (y0 : Nat) (y1 : State) (h : Kept a y1) :
    Kept a (State.jobsServe y0 y1) := by
  induction y0 generalizing y1 with
  | zero => exact h
  | succ n ih =>
  unfold State.jobsServe
  repeat' first
    | with_reducible assumption
    | with_reducible refine ih _ ?_
    | with_reducible refine State.jobPop_kept _ ?_
    | split

theorem State.jobArrive_kept {a : State} (s : State) (j : Job) (h : Kept a s) :
    Kept a (State.jobArrive s j) := by
  unfold State.jobArrive
  repeat' first
    | with_reducible assumption
    | with_reducible refine State.jobsServe_kept _ _ ?_
    | (with_reducible refine Kept.lit ?_ rfl rfl rfl rfl rfl rfl
       first
         | with_reducible assumption
         | with_reducible refine State.jobsServe_kept _ _ ?_)

theorem State.serve_kept {a : State} (s : State) (via : Via) (code : Nat) (body : List Byte) (h : Kept a s) :
    Kept a (State.serve s via code body) := by
  unfold State.serve
  repeat' first
    | with_reducible assumption
    | with_reducible refine State.jobsServe_kept _ _ ?_
    | with_reducible refine State.jobPop_kept _ ?_
    | with_reducible refine State.jobArrive_kept _ _ ?_
    | split

theorem State.mbxGo_kept {a : State} (s : State) (p : Nat) (h : Kept a s) :
    Kept a (State.mbxGo s p) := by
  unfold State.mbxGo
  repeat' first
    | with_reducible assumption
    | with_reducible refine State.setF_kept _ _ _ _ _ _ ?_
    | with_reducible refine State.jobArrive_kept _ _ ?_
    | (with_reducible refine Kept.lit ?_ rfl rfl rfl rfl rfl rfl
       first
         | with_reducible assumption
         | with_reducible refine State.setF_kept _ _ _ _ _ _ ?_
         | with_reducible refine State.jobArrive_kept _ _ ?_
         | with_reducible refine Kept.ite ?_ ?_)

theorem execMctpControlMessage_kept {a : State} (via : Via) (body : List Byte) (s : State) (h : Kept a s) :
    KeptO a (execMctpControlMessage via body s) := by
  unfold execMctpControlMessage
  repeat' first
    | with_reducible assumption
    | with_reducible refine State.jobArrive_kept _ _ ?_
    | with_reducible refine KeptO.next ?_
    | split

theorem execGetStatus_kept {a : State} (via : Via) (s : State) (h : Kept a s) :
    KeptO a (execGetStatus via s) := by
  unfold execGetStatus
  repeat' first
    | with_reducible assumption
    | with_reducible refine State.serve_kept _ _ _ _ ?_
    | with_reducible refine KeptO.next ?_

theorem execReadSensors_kept {a : State} (via : Via) (body : List Byte) (s : State) (h : Kept a s) :
    KeptO a (execReadSensors via body s) := by
  unfold execReadSensors
  repeat' first
    | with_reducible assumption
    | with_reducible refine State.serve_kept _ _ _ _ ?_
    | with_reducible refine KeptO.next ?_

theorem execReadCairn_kept {a : State} (via : Via) (body : List Byte) (s : State) (h : Kept a s) :
    KeptO a (execReadCairn via body s) := by
  unfold execReadCairn
  repeat' first
    | with_reducible assumption
    | with_reducible refine State.serve_kept _ _ _ _ ?_
    | with_reducible refine KeptO.next ?_

theorem execAttest_kept {a : State} (via : Via) (body : List Byte) (s : State) (h : Kept a s) :
    KeptO a (execAttest via body s) := by
  unfold execAttest
  repeat' first
    | with_reducible assumption
    | with_reducible refine State.serve_kept _ _ _ _ ?_
    | with_reducible refine KeptO.next ?_

theorem execGetCerts_kept {a : State} (via : Via) (body : List Byte) (s : State) (h : Kept a s) :
    KeptO a (execGetCerts via body s) := by
  unfold execGetCerts
  repeat' first
    | with_reducible assumption
    | with_reducible refine State.serve_kept _ _ _ _ ?_
    | with_reducible refine KeptO.next ?_

theorem execFwWrite_kept {a : State} (via : Via) (body : List Byte) (s : State) (h : Kept a s) :
    KeptO a (execFwWrite via body s) := by
  unfold execFwWrite
  repeat' first
    | with_reducible assumption
    | with_reducible refine State.serve_kept _ _ _ _ ?_
    | with_reducible refine KeptO.next ?_

theorem execFwVerify_kept {a : State} (via : Via) (body : List Byte) (s : State) (h : Kept a s) :
    KeptO a (execFwVerify via body s) := by
  unfold execFwVerify
  repeat' first
    | with_reducible assumption
    | with_reducible refine State.serve_kept _ _ _ _ ?_
    | with_reducible refine KeptO.next ?_

theorem execFwActivate_kept {a : State} (via : Via) (body : List Byte) (s : State) (h : Kept a s) :
    KeptO a (execFwActivate via body s) := by
  unfold execFwActivate
  repeat' first
    | with_reducible assumption
    | with_reducible refine State.serve_kept _ _ _ _ ?_
    | with_reducible refine KeptO.next ?_

theorem execReset_kept {a : State} (via : Via) (body : List Byte) (s : State) (h : Kept a s) :
    KeptO a (execReset via body s) := by
  unfold execReset
  repeat' first
    | with_reducible assumption
    | with_reducible refine State.serve_kept _ _ _ _ ?_
    | with_reducible refine KeptO.next ?_

theorem execCalUser_kept {a : State} (via : Via) (body : List Byte) (s : State) (h : Kept a s) :
    KeptO a (execCalUser via body s) := by
  unfold execCalUser
  repeat' first
    | with_reducible assumption
    | with_reducible refine State.serve_kept _ _ _ _ ?_
    | with_reducible refine KeptO.next ?_

theorem execLifeCounterMirror_kept {a : State} (s : State) (h : Kept a s) :
    KeptO a (execLifeCounterMirror s) := by
  unfold execLifeCounterMirror
  repeat' first
    | with_reducible assumption
    | with_reducible refine State.lifeMirror_kept _ ?_
    | with_reducible refine State.jobsServe_kept _ _ ?_
    | with_reducible refine KeptO.next ?_

/-! ### Machine/Pcie.lean -/

theorem State.msixRelease_kept {a : State} (s : State) (p : Nat) (h : Kept a s) :
    Kept a (State.msixRelease s p) := by
  unfold State.msixRelease
  repeat' first
    | with_reducible assumption
    | with_reducible refine State.msixSend_kept _ _ _ ?_
    | with_reducible intro _ _ _
    | (with_reducible refine Kept.lit ?_ rfl rfl rfl rfl rfl rfl
       first
         | with_reducible assumption
         | with_reducible refine State.msixSend_kept _ _ _ ?_
         | with_reducible refine Kept.ite ?_ ?_
         | with_reducible refine Kept.foldl _ ?_ _ _ ?_)

theorem State.cfgWrite_kept {a : State} (s : State) (p : Nat) (off : Nat) (v : Nat) (h : Kept a s) :
    Kept a (State.cfgWrite s p off v) := by
  unfold State.cfgWrite
  repeat' first
    | with_reducible assumption
    | with_reducible refine State.setFn_kept _ _ _ ?_
    | with_reducible refine State.setF_kept _ _ _ _ _ _ ?_
    | with_reducible refine State.msixRelease_kept _ _ ?_
    | with_reducible refine State.portReset_kept _ _ _ ?_
    | split

/-! ### Machine/Bus.lean -/

theorem State.plainWrite_kept {a : State} (s : State) (r : Reg) (v : Word) (h : Kept a s) :
    Kept a (State.plainWrite s r v) :=
  h.same rfl rfl rfl rfl rfl rfl

theorem State.eventWrite_kept {a : State} (s : State) (r : Reg) (vec : Nat) (v : Word) (h : Kept a s) :
    Kept a (State.eventWrite s r vec v) := by
   unfold State.eventWrite; apply_rules [State.plainWrite_kept, State.blockVector_kept, Kept.ite]

theorem State.enableWrite_kept {a : State} (s : State) (r : Reg) (e : RegName) (v : Word) (h : Kept a s) :
    Kept a (State.enableWrite s r e v) := by
   unfold State.enableWrite; apply_rules [State.vectorIfRisen_kept, State.plainWrite_kept]

theorem State.rangeWrite_kept {a : State} (s : State) (r : Reg) (x : Fld) (lo hi : Nat) (v : Word) (h : Kept a s) :
    Kept a (State.rangeWrite s r x lo hi v) := by
  unfold State.rangeWrite
  repeat' first
    | with_reducible first | assumption | apply State.setF_kept | refine Kept.ite ?_ ?_

theorem State.frmCtrlWrite_kept {a : State} (s : State) (v : Word) (h : Kept a s) : KeptO a (State.frmCtrlWrite s v) := by
  unfold State.frmCtrlWrite
  repeat' first
    | with_reducible first | assumption | apply State.syncSet_kept | apply State.runSet_kept
        | apply State.runClear_kept | refine KeptO.ite ?_ ?_ | refine KeptO.next ?_

theorem State.resetWrite_kept {a : State} (s : State) (src : Nat) (v : Word) (h : Kept a s) :
    Kept a (State.resetWrite s src v) := by
   unfold State.resetWrite; apply_rules [State.shutdownStart_kept, State.warmRequest_kept, Kept.ite]

theorem State.adminWrite_kept {a : State} (s : State) (src : Nat) (v : Word) (h : Kept a s) :
    Kept a (State.adminWrite s src v) := by
   unfold State.adminWrite; apply_rules [State.plainWrite_kept, Kept.ite]

theorem State.mbxWrite_kept {a : State} (s : State) (r : Reg) (v : Word) (h : Kept a s) :
    Kept a (State.mbxWrite s r v) := by
   unfold State.mbxWrite; apply_rules [State.plainWrite_kept, State.mbxGo_kept, Kept.ite]

theorem State.svcWrite_kept {a : State} (s : State) (r : Reg) (v : Word) (h : Kept a s) :
    Kept a (State.svcWrite s r v) := by
  unfold State.svcWrite
  repeat' first
    | with_reducible first | assumption | apply State.plainWrite_kept | apply State.setF_kept
        | refine Kept.ite ?_ ?_

theorem State.limitWrite_kept {a : State} (s : State) (r : Reg) (v : Word) (h : Kept a s) :
    Kept a (State.limitWrite s r v) := by
   unfold State.limitWrite; apply_rules [State.rangeWrite_kept]

theorem State.clkMinWrite_kept {a : State} (s : State) (r : Reg) (v : Word) (h : Kept a s) :
    Kept a (State.clkMinWrite s r v) := by
   unfold State.clkMinWrite; apply_rules [State.clockUpdate_kept, State.rangeWrite_kept, Kept.ite]

theorem State.thermWrite_kept {a : State} (s : State) (r : Reg) (v : Word) (h : Kept a s) :
    Kept a (State.thermWrite s r v) := by
   unfold State.thermWrite; apply_rules [State.rangeWrite_kept]

theorem State.sdWrite_kept {a : State} (s : State) (src : Nat) (r : Reg) (v : Word) (h : Kept a s) :
    Kept a (State.sdWrite s src r v) := by
   unfold State.sdWrite; apply_rules [State.rangeWrite_kept, State.shutdownStart_kept, Kept.ite]

theorem State.stepWrite_kept {a : State} (s : State) (r : Reg) (v : Word) (h : Kept a s) :
    Kept a (State.stepWrite s r v) := by
   unfold State.stepWrite; apply_rules [State.plainWrite_kept, Kept.ite]

theorem onBit_kept {a : State} (v : Word) (i : Nat) (f : State → Host.Outcome State Fault Refusal) (s : State) (h : Kept a s)
    (hf : ∀ s, Kept a s → KeptO a (f s)) : KeptO a (onBit v i f s) := by
  unfold onBit
  split
  · exact hf _ h
  · exact KeptO.next h

theorem stepCtrlWrite_kept {a : State} (c : Nat) (v : Word) (s : State) (h : Kept a s) : KeptO a (stepCtrlWrite c v s) := by
  unfold stepCtrlWrite
  repeat' first
    | with_reducible assumption
    | with_reducible refine andThen_kept _ _
    | with_reducible refine onBit_kept _ _ _ _ ?_ ?_
    | with_reducible refine execTrnStepOpen_kept _ _ ?_
    | with_reducible refine execTrnStepAbort_kept _ _ ?_
    | with_reducible refine execForceCommit_kept _ _ ?_
    | with_reducible refine execForceAbort_kept _ _ ?_
    | with_reducible intro _ _
    | with_reducible refine KeptO.andThen ?_ ?_

theorem State.peakWrite_kept {a : State} (s : State) (r : Reg) (x : Fld) (now : Nat) (v : Word) (h : Kept a s) :
    Kept a (State.peakWrite s r x now v) := by
  unfold State.peakWrite
  repeat' first
    | with_reducible assumption
    | with_reducible refine State.plainWrite_kept _ _ _ ?_
    | with_reducible refine State.setF_kept _ _ _ _ _ _ ?_

theorem State.regWrite_kept {a : State} (s : State) (src : Nat) (r : Reg) (v : Word) (h : Kept a s) : KeptO a (State.regWrite s src r v) := by
  unfold State.regWrite
  repeat' first
    | with_reducible assumption
    | with_reducible refine State.frmCtrlWrite_kept _ _ ?_
    | with_reducible refine State.plainWrite_kept _ _ _ ?_
    | with_reducible refine execFrmOvrMaxClear_kept _ _ _ ?_
    | with_reducible refine execFrmCtxDiscard_kept _ _ ?_
    | with_reducible refine onBit_kept _ _ _ _ ?_ ?_
    | with_reducible refine execFrmCtxResume_kept _ _ ?_
    | with_reducible refine execCoreCtxDiscard_kept _ _ ?_
    | with_reducible refine execCoreCtxResume_kept _ _ ?_
    | with_reducible refine State.ctxRegWrite_kept _ _ _ ?_
    | with_reducible refine State.trvWrite_kept _ _ _ _ _ _ ?_
    | with_reducible refine State.trvDueWrite_kept _ _ _ _ _ ?_
    | with_reducible refine andThen_kept _ _
    | with_reducible refine execRestartAll_kept _ _ ?_
    | with_reducible refine execAbortAll_kept _ _ ?_
    | with_reducible refine execDmaChRestart_kept _ _ _ ?_
    | with_reducible refine execDmaChAbort_kept _ _ _ ?_
    | with_reducible refine execDmaChPaceWrite_kept _ _ _ _ ?_
    | with_reducible refine execDmaChPaceAddrWrite_kept _ _ _ _ ?_
    | with_reducible refine State.peakWrite_kept _ _ _ _ _ ?_
    | with_reducible refine State.lendCfgWrite_kept _ _ _ ?_
    | with_reducible refine execColMqCfgWrite_kept _ _ _ _ _ ?_
    | with_reducible refine stepCtrlWrite_kept _ _ _ ?_
    | with_reducible refine State.stepWrite_kept _ _ _ ?_
    | with_reducible refine execTrnGnsCfgWrite_kept _ _ _ ?_
    | with_reducible refine State.resetWrite_kept _ _ _ ?_
    | with_reducible refine State.adminWrite_kept _ _ _ ?_
    | with_reducible refine State.rangeWrite_kept _ _ _ _ _ _ ?_
    | with_reducible refine State.mbxWrite_kept _ _ _ ?_
    | with_reducible refine State.crCfgWrite_kept _ _ _ _ ?_
    | with_reducible refine State.svcWrite_kept _ _ _ ?_
    | with_reducible refine State.loopGo_kept _ _ ?_
    | with_reducible refine execLifeUtcSet_kept _ _ ?_
    | with_reducible refine State.txnCtrl_kept _ _ _ ?_
    | with_reducible refine State.limitWrite_kept _ _ _ ?_
    | with_reducible refine State.clkMinWrite_kept _ _ _ ?_
    | with_reducible refine State.thermWrite_kept _ _ _ ?_
    | with_reducible refine State.sdWrite_kept _ _ _ _ ?_
    | with_reducible refine State.eventWrite_kept _ _ _ _ ?_
    | with_reducible refine State.enableWrite_kept _ _ _ _ ?_
    | with_reducible refine State.stage_kept _ _ _ _ ?_
    | with_reducible refine KeptO.next ?_
    | with_reducible intro _ _
    | with_reducible refine KeptO.andThen ?_ ?_
    | split

theorem State.offsetWrite_kept {a : State} (s : State) (src off : Nat) (v : Reg → Word) (h : Kept a s) :
    KeptO a (State.offsetWrite s src off v) := by
  unfold State.offsetWrite
  repeat' first
    | with_reducible first | assumption | apply State.regWrite_kept | refine KeptO.next ?_
    | split

theorem State.msixWrite_kept {a : State} (s : State) (p i v : Nat) (h : Kept a s) : Kept a (State.msixWrite s p i v) := by
  unfold State.msixWrite
  repeat' first
    | with_reducible first | assumption | apply State.msixSend_kept | refine Kept.ite ?_ ?_
    | (with_reducible refine Kept.lit ?_ rfl rfl rfl rfl rfl rfl; with_reducible assumption)
    | dsimp -zeta only

theorem State.msixTable_kept {a : State} (s : State) (p o size : Nat) (v : Word) (h : Kept a s) :
    Kept a (State.msixTable s p o size v) := by
   unfold State.msixTable; apply_rules [State.msixWrite_kept, Kept.ite]

theorem State.bar0Write_kept {a : State} (s : State) (src off size : Nat) (v : Word) (h : Kept a s) :
    KeptO a (State.bar0Write s src off size v) := by
  unfold State.bar0Write
  repeat' first
    | with_reducible first | assumption | apply State.msixTable_kept | apply State.offsetWrite_kept
        | refine KeptO.next ?_
    | split

theorem State.bar4Write_kept {a : State} (s : State) (p off size : Nat) (v : Word) (h : Kept a s) :
    KeptO a (State.bar4Write s p off size v) := by
  unfold State.bar4Write
  repeat' first
    | with_reducible first | assumption | apply State.writeN_kept | apply State.regWrite_kept
        | refine KeptO.ite ?_ ?_ | refine KeptO.next ?_
    | split

theorem State.busWrite_kept {a : State} (s : State) (src : Nat) (bar : Nat) (off : Nat) (size : Nat) (v : Word) (h : Kept a s) :
    KeptO a (State.busWrite s src bar off size v) := by
  unfold State.busWrite
  repeat' first
    | with_reducible assumption
    | with_reducible refine State.bar0Write_kept _ _ _ _ _ ?_
    | with_reducible refine State.bar4Write_kept _ _ _ _ _ ?_
    | with_reducible refine State.cfgWrite_kept _ _ _ _ ?_
    | with_reducible refine KeptO.next ?_
    | with_reducible refine KeptO.ite ?_ ?_

theorem execRegisterWrite_kept {a : State} (src bar off size : Nat) (v : Word) (s : State) (h : Kept a s) :
    KeptO a (execRegisterWrite src bar off size v s) := by
   unfold execRegisterWrite; apply_rules [State.busWrite_kept]

theorem execRtFieldWrite_kept {a : State} (o off size : Nat) (v : Word) (s : State) (h : Kept a s) :
    KeptO a (execRtFieldWrite o off size v s) := by
  unfold execRtFieldWrite
  repeat' first
    | with_reducible first | assumption | apply State.busWrite_kept | refine KeptO.next ?_
    | split

theorem execApertureWrite_kept {a : State} (p off : Nat) (data : List Byte) (s : State) (h : Kept a s) :
    KeptO a (execApertureWrite p off data s) := by
   unfold execApertureWrite; apply_rules [State.addF_kept, State.write_kept, KeptO.ite, KeptO.next]

theorem execApertureRead_kept {a : State} (p off len : Nat) (err : MemErr) (s : State) (h : Kept a s) :
    KeptO a (execApertureRead p off len err s) := by
  unfold execApertureRead
  repeat' first
    | with_reducible first | assumption | apply State.memErr_kept | apply State.useFree_kept
        | refine KeptO.ite ?_ ?_ | refine KeptO.next ?_
    | (with_reducible refine Kept.lit ?_ rfl rfl rfl rfl rfl rfl
       first
         | with_reducible assumption
         | with_reducible apply State.memErr_kept
         | with_reducible apply State.useFree_kept
         | with_reducible refine Kept.ite ?_ ?_)

end Sys2Proof.Machine
end

