-- ==== Sys2Proof/Laws/Kept.lean ====
section
/-! SUPPORT. Every command and every step is `Kept`. -/

namespace Sys2Proof.Machine

/-- What a command leaves as it was, and what it cannot undo. -/
theorem exec_kept (i : Instr) (s : State) : KeptO s (exec i s) :=
  match i with
  | .frmTick => execFrmTick_kept s (.refl s)
  | .frameWatchdogFire c => execFrameWatchdogFire_kept c s (.refl s)
  | .loanEndTick lend n => execLoanEndTick_kept lend n s (.refl s)
  | .intakeDeadlineExpiry c => execIntakeDeadlineExpiry_kept c s (.refl s)
  | .stepUndecided c => execStepUndecided_kept c s (.refl s)
  | .frmCtrlRunSet => execFrmCtrlRunSet_kept s (.refl s)
  | .frmCtrlRunClear => execFrmCtrlRunClear_kept s (.refl s)
  | .syncEn on => execSyncEn_kept on s (.refl s)
  | .firstTick => execFirstTick_kept s (.refl s)
  | .ptpLock port time utcOffset => execPtpLock_kept port time utcOffset s (.refl s)
  | .ptpEventMessage port offset => execPtpEventMessage_kept port offset s (.refl s)
  | .holdover => execHoldover_kept s (.refl s)
  | .frmOvrMaxClear c clear => execFrmOvrMaxClear_kept c clear s (.refl s)
  | .frmCtxResume c => execFrmCtxResume_kept c s (.refl s)
  | .frmCtxDiscard c => execFrmCtxDiscard_kept c s (.refl s)
  | .stallSnapshot g c => execStallSnapshot_kept g c s (.refl s)
  | .blockFire g c => execBlockFire_kept g c s (.refl s)
  | .blockDispatch g c => execBlockDispatch_kept g c s (.refl s)
  | .nop g c k => execNop_kept g c k s (.refl s)
  | .endBlock g c k => execEndBlock_kept g c k s (.refl s)
  | .fclose g c k => execFclose_kept g c k s (.refl s)
  | .yield g c k => execYield_kept g c k s (.refl s)
  | .tokadd g c k => execTokadd_kept g c k s (.refl s)
  | .arm g c k => execArm_kept g c k s (.refl s)
  | .disarm g c k => execDisarm_kept g c k s (.refl s)
  | .esync g c k => execEsync_kept g c k s (.refl s)
  | .fence g c k => execFence_kept g c k s (.refl s)
  | .beq g c k => execBeq_kept g c k s (.refl s)
  | .bne g c k => execBne_kept g c k s (.refl s)
  | .blt g c k => execBlt_kept g c k s (.refl s)
  | .bge g c k => execBge_kept g c k s (.refl s)
  | .bltu g c k => execBltu_kept g c k s (.refl s)
  | .bgeu g c k => execBgeu_kept g c k s (.refl s)
  | .jal g c k => execJal_kept g c k s (.refl s)
  | .jalr g c k => execJalr_kept g c k s (.refl s)
  | .trap g c k => execTrap_kept g c k s (.refl s)
  | .add g c k => execAdd_kept g c k s (.refl s)
  | .sub g c k => execSub_kept g c k s (.refl s)
  | .and g c k => execAnd_kept g c k s (.refl s)
  | .or g c k => execOr_kept g c k s (.refl s)
  | .xor g c k => execXor_kept g c k s (.refl s)
  | .sll g c k => execSll_kept g c k s (.refl s)
  | .srl g c k => execSrl_kept g c k s (.refl s)
  | .sra g c k => execSra_kept g c k s (.refl s)
  | .slt g c k => execSlt_kept g c k s (.refl s)
  | .sltu g c k => execSltu_kept g c k s (.refl s)
  | .mul g c k => execMul_kept g c k s (.refl s)
  | .mulhu g c k => execMulhu_kept g c k s (.refl s)
  | .divu g c k => execDivu_kept g c k s (.refl s)
  | .remu g c k => execRemu_kept g c k s (.refl s)
  | .min g c k => execMin_kept g c k s (.refl s)
  | .max g c k => execMax_kept g c k s (.refl s)
  | .popc g c k => execPopc_kept g c k s (.refl s)
  | .clz g c k => execClz_kept g c k s (.refl s)
  | .addi g c k => execAddi_kept g c k s (.refl s)
  | .andi g c k => execAndi_kept g c k s (.refl s)
  | .ori g c k => execOri_kept g c k s (.refl s)
  | .xori g c k => execXori_kept g c k s (.refl s)
  | .slli g c k => execSlli_kept g c k s (.refl s)
  | .srli g c k => execSrli_kept g c k s (.refl s)
  | .srai g c k => execSrai_kept g c k s (.refl s)
  | .slti g c k => execSlti_kept g c k s (.refl s)
  | .li g c k => execLi_kept g c k s (.refl s)
  | .lui g c k => execLui_kept g c k s (.refl s)
  | .ld8 g c k => execLd8_kept g c k s (.refl s)
  | .ld16 g c k => execLd16_kept g c k s (.refl s)
  | .ld32 g c k => execLd32_kept g c k s (.refl s)
  | .ld64 g c k => execLd64_kept g c k s (.refl s)
  | .lds8 g c k => execLds8_kept g c k s (.refl s)
  | .lds16 g c k => execLds16_kept g c k s (.refl s)
  | .lds32 g c k => execLds32_kept g c k s (.refl s)
  | .st8 g c k => execSt8_kept g c k s (.refl s)
  | .st16 g c k => execSt16_kept g c k s (.refl s)
  | .st32 g c k => execSt32_kept g c k s (.refl s)
  | .st64 g c k => execSt64_kept g c k s (.refl s)
  | .amoadd g c k => execAmoadd_kept g c k s (.refl s)
  | .amoswap g c k => execAmoswap_kept g c k s (.refl s)
  | .amocas g c k => execAmocas_kept g c k s (.refl s)
  | .scalarAccessComplete g n => execScalarAccessComplete_kept g n s (.refl s)
  | .mma g c k => execMma_kept g c k s (.refl s)
  | .mwb g c k => execMwb_kept g c k s (.refl s)
  | .mtin g c k => execMtin_kept g c k s (.refl s)
  | .mtout g c k => execMtout_kept g c k s (.refl s)
  | .mlb g c k => execMlb_kept g c k s (.refl s)
  | .mle g c k => execMle_kept g c k s (.refl s)
  | .matrixInstructionStart g => execMatrixInstructionStart_kept g s (.refl s)
  | .matrixInstructionComplete g n => execMatrixInstructionComplete_kept g n s (.refl s)
  | .traverseTotalLanding src => execTraverseTotalLanding_kept src s (.refl s)
  | .traverseSkip g c t => execTraverseSkip_kept g c t s (.refl s)
  | .layerEndDecision g c cls => execLayerEndDecision_kept g c cls s (.refl s)
  | .mtxTrvNextWrite g c t w v => execMtxTrvNextWrite_kept g c t w v s (.refl s)
  | .vadd g c k => execVadd_kept g c k s (.refl s)
  | .vsub g c k => execVsub_kept g c k s (.refl s)
  | .vmul g c k => execVmul_kept g c k s (.refl s)
  | .vshl g c k => execVshl_kept g c k s (.refl s)
  | .vshr g c k => execVshr_kept g c k s (.refl s)
  | .vand g c k => execVand_kept g c k s (.refl s)
  | .vor g c k => execVor_kept g c k s (.refl s)
  | .vxor g c k => execVxor_kept g c k s (.refl s)
  | .vcmp g c k => execVcmp_kept g c k s (.refl s)
  | .vsel g c k => execVsel_kept g c k s (.refl s)
  | .vfadd g c k => execVfadd_kept g c k s (.refl s)
  | .vfmul g c k => execVfmul_kept g c k s (.refl s)
  | .vfma g c k => execVfma_kept g c k s (.refl s)
  | .vcvt g c k => execVcvt_kept g c k s (.refl s)
  | .vrcp g c k => execVrcp_kept g c k s (.refl s)
  | .vrsq g c k => execVrsq_kept g c k s (.refl s)
  | .vrstep g c k => execVrstep_kept g c k s (.refl s)
  | .vredsum g c k => execVredsum_kept g c k s (.refl s)
  | .vredmax g c k => execVredmax_kept g c k s (.refl s)
  | .vredmin g c k => execVredmin_kept g c k s (.refl s)
  | .vupd g c k => execVupd_kept g c k s (.refl s)
  | .vcfg g c k => execVcfg_kept g c k s (.refl s)
  | .vectorInstructionStart g => execVectorInstructionStart_kept g s (.refl s)
  | .vectorInstructionComplete g => execVectorInstructionComplete_kept g s (.refl s)
  | .dld g c k => execDld_kept g c k s (.refl s)
  | .dgo g c k => execDgo_kept g c k s (.refl s)
  | .dstop g c k => execDstop_kept g c k s (.refl s)
  | .dstat g c k => execDstat_kept g c k s (.refl s)
  | .shadowActivation g ch => execShadowActivation_kept g ch s (.refl s)
  | .dmaReadBurstIssue g => execDmaReadBurstIssue_kept g s (.refl s)
  | .dmaReadReturn g n err => execDmaReadReturn_kept g n err s (.refl s)
  | .dmaWriteBurstIssue g => execDmaWriteBurstIssue_kept g s (.refl s)
  | .dmaWriteAck g n err => execDmaWriteAck_kept g n err s (.refl s)
  | .dmaPaceCounterSeen g ch => execDmaPaceCounterSeen_kept g ch s (.refl s)
  | .dmaBurstRetry g ch => execDmaBurstRetry_kept g ch s (.refl s)
  | .channelDrained g ch => execChannelDrained_kept g ch s (.refl s)
  | .dmaChRestart g ch => execDmaChRestart_kept g ch s (.refl s)
  | .dmaChAbort g ch => execDmaChAbort_kept g ch s (.refl s)
  | .restartAll g => execRestartAll_kept g s (.refl s)
  | .abortAll g => execAbortAll_kept g s (.refl s)
  | .dmaChPaceWrite g ch v => execDmaChPaceWrite_kept g ch v s (.refl s)
  | .dmaChPaceAddrWrite g ch v => execDmaChPaceAddrWrite_kept g ch v s (.refl s)
  | .sput g c k => execSput_kept g c k s (.refl s)
  | .sget g c k => execSget_kept g c k s (.refl s)
  | .satom g c k => execSatom_kept g c k s (.refl s)
  | .spurSend g => execSpurSend_kept g s (.refl s)
  | .spurComplete g n => execSpurComplete_kept g n s (.refl s)
  | .spurTimeout g n => execSpurTimeout_kept g n s (.refl s)
  | .msend g c k => execMsend_kept g c k s (.refl s)
  | .msendr g c k => execMsendr_kept g c k s (.refl s)
  | .mrecv g c k => execMrecv_kept g c k s (.refl s)
  | .mcount g c k => execMcount_kept g c k s (.refl s)
  | .messageArrival src => execMessageArrival_kept src s (.refl s)
  | .messageReoffer g c q => execMessageReoffer_kept g c q s (.refl s)
  | .colMqCfgWrite g c q v => execColMqCfgWrite_kept g c q v s (.refl s)
  | .cole g c k => execCole_kept g c k s (.refl s)
  | .colw g c k => execColw_kept g c k s (.refl s)
  | .colr g c k => execColr_kept g c k s (.refl s)
  | .colStalledEntrySend g n => execColStalledEntrySend_kept g n s (.refl s)
  | .colEntryArrival n => execColEntryArrival_kept n s (.refl s)
  | .colReleaseArrival n => execColReleaseArrival_kept n s (.refl s)
  | .crd g c k => execCrd_kept g c k s (.refl s)
  | .cwr g c k => execCwr_kept g c k s (.refl s)
  | .coreCtxResume c => execCoreCtxResume_kept c s (.refl s)
  | .coreCtxDiscard c => execCoreCtxDiscard_kept c s (.refl s)
  | .loadGo g c => execLoadGo_kept g c s (.refl s)
  | .loadDone g c err => execLoadDone_kept g c err s (.refl s)
  | .unload g c => execUnload_kept g c s (.refl s)
  | .coreBtIndexWrite g c v => execCoreBtIndexWrite_kept g c v s (.refl s)
  | .coreBtDataStage g c w v => execCoreBtDataStage_kept g c w v s (.refl s)
  | .coreBtData3Commit g c v => execCoreBtData3Commit_kept g c v s (.refl s)
  | .coreTokenWrite g c t v => execCoreTokenWrite_kept g c t v s (.refl s)
  | .loanGrant p => execLoanGrant_kept p s (.refl s)
  | .loanNotice p => execLoanNotice_kept p s (.refl s)
  | .loanRelease p => execLoanRelease_kept p s (.refl s)
  | .countWordAtomic g pool seg page delta => execCountWordAtomic_kept g pool seg page delta s (.refl s)
  | .allocationWordAtomic pool seg => execAllocationWordAtomic_kept pool seg s (.refl s)
  | .segmentReady pool seg => execSegmentReady_kept pool seg s (.refl s)
  | .lendingPeriod die => execLendingPeriod_kept die s (.refl s)
  | .lenderWake g => execLenderWake_kept g s (.refl s)
  | .colLendCfgWrite die v => execColLendCfgWrite_kept die v s (.refl s)
  | .trnStepOpen c => execTrnStepOpen_kept c s (.refl s)
  | .trnStepAbort c => execTrnStepAbort_kept c s (.refl s)
  | .forceCommit c => execForceCommit_kept c s (.refl s)
  | .forceAbort c => execForceAbort_kept c s (.refl s)
  | .trnGnsCfgWrite c v => execTrnGnsCfgWrite_kept c v s (.refl s)
  | .linkStateChange link ev => execLinkStateChange_kept link ev s (.refl s)
  | .linkFault link => execLinkFault_kept link s (.refl s)
  | .noinePacketSend f => execNoinePacketSend_kept f s (.refl s)
  | .write p => execWrite_kept p s (.refl s)
  | .readReq p => execReadReq_kept p s (.refl s)
  | .readResp p => execReadResp_kept p s (.refl s)
  | .atomicReq p => execAtomicReq_kept p s (.refl s)
  | .atomicResp p => execAtomicResp_kept p s (.refl s)
  | .ack p => execAck_kept p s (.refl s)
  | .nak p => execNak_kept p s (.refl s)
  | .ackTimer f => execAckTimer_kept f s (.refl s)
  | .retransmitTimeout f => execRetransmitTimeout_kept f s (.refl s)
  | .rnrResend f => execRnrResend_kept f s (.refl s)
  | .completionTimeout f => execCompletionTimeout_kept f s (.refl s)
  | .flowIdleClose f => execFlowIdleClose_kept f s (.refl s)
  | .flowClose p => execFlowClose_kept p s (.refl s)
  | .trvCredit p => execTrvCredit_kept p s (.refl s)
  | .colArrival p => execColArrival_kept p s (.refl s)
  | .colRelease p => execColRelease_kept p s (.refl s)
  | .colQueryPoll ctr => execColQueryPoll_kept ctr s (.refl s)
  | .colQuery p => execColQuery_kept p s (.refl s)
  | .frameRelay p => execFrameRelay_kept p s (.refl s)
  | .pfcFrame port prio pause => execPfcFrame_kept port prio pause s (.refl s)
  | .txnBegin o => execTxnBegin_kept o s (.refl s)
  | .txnCommit o => execTxnCommit_kept o s (.refl s)
  | .txnRollback o => execTxnRollback_kept o s (.refl s)
  | .rtFieldWrite o off size v => execRtFieldWrite_kept o off size v s (.refl s)
  | .txnTimeout o => execTxnTimeout_kept o s (.refl s)
  | .registerWrite src bar off size v => execRegisterWrite_kept src bar off size v s (.refl s)
  | .apertureWrite p off data => execApertureWrite_kept p off data s (.refl s)
  | .apertureRead p off len err => execApertureRead_kept p off len err s (.refl s)
  | .pciePortReset p kind => execPciePortReset_kept p kind s (.refl s)
  | .perstDeassert p => execPerstDeassert_kept p s (.refl s)
  | .hostRingFetch p c n => execHostRingFetch_kept p c n s (.refl s)
  | .commandNop p c e => execCommandNop_kept p c e s (.refl s)
  | .request p c e => execRequest_kept p c e s (.refl s)
  | .note p c e => execNote_kept p c e s (.refl s)
  | .token p c e => execToken_kept p c e s (.refl s)
  | .hifCrCfgEnable p c v => execHifCrCfgEnable_kept p c v s (.refl s)
  | .coldStart info => execColdStart_kept info s (.refl s)
  | .warmReset src => execWarmReset_kept src s (.refl s)
  | .coldReset src => execColdReset_kept src s (.refl s)
  | .mctpControlMessage via body => execMctpControlMessage_kept via body s (.refl s)
  | .getStatus via => execGetStatus_kept via s (.refl s)
  | .readSensors via body => execReadSensors_kept via body s (.refl s)
  | .readCairn via body => execReadCairn_kept via body s (.refl s)
  | .attest via body => execAttest_kept via body s (.refl s)
  | .getCerts via body => execGetCerts_kept via body s (.refl s)
  | .fwWrite via body => execFwWrite_kept via body s (.refl s)
  | .fwVerify via body => execFwVerify_kept via body s (.refl s)
  | .fwActivate via body => execFwActivate_kept via body s (.refl s)
  | .reset via body => execReset_kept via body s (.refl s)
  | .calUser via body => execCalUser_kept via body s (.refl s)
  | .meshFlitError e => execMeshFlitError_kept e s (.refl s)
  | .correctedWriteback n => execCorrectedWriteback_kept n s (.refl s)
  | .hbmScrubRead err => execHbmScrubRead_kept err s (.refl s)
  | .bistSlice g fail => execBistSlice_kept g fail s (.refl s)
  | .pllLockLoss die => execPllLockLoss_kept die s (.refl s)
  | .pllFrequencyCheck die err => execPllFrequencyCheck_kept die err s (.refl s)
  | .thermalSensorCrossCheck readings bad => execThermalSensorCrossCheck_kept readings bad s (.refl s)
  | .voltageMonitorCheck readings bad => execVoltageMonitorCheck_kept readings bad s (.refl s)
  | .bistLoopGo v => execBistLoopGo_kept v s (.refl s)
  | .loopDone lanes errors => execLoopDone_kept lanes errors s (.refl s)
  | .sidebandShort pin => execSidebandShort_kept pin s (.refl s)
  | .lifeCounterMirror => execLifeCounterMirror_kept s (.refl s)
  | .lifeCounterCommit => execLifeCounterCommit_kept s (.refl s)
  | .wearAccumulate => execWearAccumulate_kept s (.refl s)
  | .lifeUtcSet v => execLifeUtcSet_kept v s (.refl s)
  | .inputUnderVoltageBand mv => execInputUnderVoltageBand_kept mv s (.refl s)
  | .underVoltageCutoff => execUnderVoltageCutoff_kept s (.refl s)
  | .inputOverVoltageBand mv => execInputOverVoltageBand_kept mv s (.refl s)
  | .overVoltageCutoff => execOverVoltageCutoff_kept s (.refl s)
  | .inputReconnect info => execInputReconnect_kept info s (.refl s)
  | .powerSample volt amp => execPowerSample_kept volt amp s (.refl s)
  | .powerIntervalDown => execPowerIntervalDown_kept s (.refl s)
  | .powerClockStepUp => execPowerClockStepUp_kept s (.refl s)
  | .thermalCondition n v => execThermalCondition_kept n v s (.refl s)
  | .thermalThrottleStep => execThermalThrottleStep_kept s (.refl s)
  | .junctionOverheatShutdown => execJunctionOverheatShutdown_kept s (.refl s)
  | .hardwareTrip => execHardwareTrip_kept s (.refl s)
  | .flowLow v => execFlowLow_kept v s (.refl s)
  | .flowRestored v => execFlowRestored_kept v s (.refl s)
  | .flowLossShutdown => execFlowLossShutdown_kept s (.refl s)
  | .leakDetect => execLeakDetect_kept s (.refl s)
  | .shdnReq => execShdnReq_kept s (.refl s)
  | .pwrEnDeassert => execPwrEnDeassert_kept s (.refl s)
  | .pwrSdReq src => execPwrSdReq_kept src s (.refl s)
  | .shutdownNoticeExpiry fails info => execShutdownNoticeExpiry_kept fails info s (.refl s)
  | .railFault rail => execRailFault_kept rail s (.refl s)
  | .altimeterPhaseCount => execAltimeterPhaseCount_kept s (.refl s)
  | .holdoverOffsetLimit offset => execHoldoverOffsetLimit_kept offset s (.refl s)
  | .receiveFlowIdleFree f => execReceiveFlowIdleFree_kept f s (.refl s)
  | .pcieLinkUp p far => execPcieLinkUp_kept p far s (.refl s)
  | .pcieCompletionTimeout g n => execPcieCompletionTimeout_kept g n s (.refl s)
  | .pwrEnAssert info => execPwrEnAssert_kept info s (.refl s)
  | .underVoltageBandExit mv => execUnderVoltageBandExit_kept mv s (.refl s)
  | .standbyPowerLoss => execStandbyPowerLoss_kept s (.refl s)
  | .receivedFrameDrop p => execReceivedFrameDrop_kept p s (.refl s)

/-- The next state of a command. -/
theorem exec_next {i : Instr} {s t : State} (h : exec i s = .next t) : Kept s t := exec_kept i s t h

/-- The next state of idling. -/
theorem idle_next {s t : State} (h : s.idle = .next t) : Kept s t := State.idle_kept s (.refl s) t h

end Sys2Proof.Machine
end

