-- ==== Sys2Proof/WellFormed.lean ====
section
/-! DEFINITION. Well-formed commands: the ranges of cores, contexts, strands, ports and the other numbers that a command
names. A word of the table spells no command, so that nothing else decides what is well formed. -/

namespace Sys2Proof

/-- A strand: core, context and strand number (R5, R24, R61). -/
def strandOk (g c k : Nat) : Bool := decide (g < 256) && decide (c < 4) && decide (k < 8)

/-- A bus access has 1 to 8 bytes. -/
def sizeOk (n : Nat) : Bool := decide (1 ≤ n) && decide (n ≤ 8)

/-- The fields of the outer layers fit them (R315). -/
def Wire.wf (w : Wire) : Bool :=
  decide (w.dstMac < 2 ^ 48) && decide (w.srcMac < 2 ^ 48) && w.vlan.all (fun v => decide (v.1 < 4096) && decide (v.2 < 8)) &&
  decide (w.tclass < 256) && decide (w.label < 2 ^ 20) && decide (w.srcPort < 2 ^ 16) && decide (w.dstPort < 2 ^ 16)

/-- The fields of a packet fit Table NET-3, and it arrives on a link. -/
def Packet.wf (p : Packet) : Bool :=
  decide (p.link < 64) && decide (p.srcIp < 2 ^ 128) && decide (p.dstIp < 2 ^ 128) && decide (p.hop < 256) &&
  decide (p.type < 16) && decide (p.version < 16) && decide (p.ctx < 4) && decide (p.srcNode < 2 ^ 20) &&
  decide (p.srcCore < 256) && decide (p.dstNode < 2 ^ 20) && decide (p.dstCore < 256) && decide (p.flow < 2 ^ 16) &&
  decide (p.epoch < 2 ^ 16) && decide (p.psn < 2 ^ 32) && decide (p.limit < 2 ^ 32) && decide (p.addr < 2 ^ 64) &&
  decide (p.aux < 2 ^ 64) && decide (p.tag < 2 ^ 32) && decide (p.pcrc < 2 ^ 32) && decide (p.payload.length < 2 ^ 16) && p.wire.wf

def Src.wf : Src → Bool
  | .own _ => true
  | .net p => p.wf

/-- A port that a steward command names exists. -/
def Via.wf : Via → Bool
  | .smbus a => decide (a < 128)
  | .port p => decide (p < 2)
  | .mailbox p => decide (p < 2)

/-- The board record names a port, and a calibration record has at most its 337 values (Table REL-5). -/
def ColdInfo.wf (i : ColdInfo) : Bool :=
  decide (i.primary < 2) && ((i.cal.map (fun c => decide (c.2.length ≤ 337))).getD true)

/-- An error names a unit that its case covers, and a core and context that can exist. -/
def UnitErr.wf : UnitErr → Bool
  | .corrected unit g _ _ => decide (1 ≤ unit) && decide (unit ≤ 4) && decide (g < 256)
  | .instr g _ | .buffer g _ | .spur g _ => decide (g < 256)
  | .acc g c _ => decide (g < 256) && decide (c < 4)
  | .control g => g.all (fun g => decide (g < 256))
  | .pcie p _ _ => decide (p < 2)
  | _ => true

/-- The operands of a command lie in their ranges. -/
def Instr.wf : Instr → Bool
  | .frmTick | .frmCtrlRunSet | .frmCtrlRunClear | .firstTick | .holdover | .lifeCounterMirror | .lifeCounterCommit
  | .wearAccumulate | .underVoltageCutoff | .overVoltageCutoff | .powerIntervalDown | .powerClockStepUp
  | .thermalThrottleStep | .junctionOverheatShutdown | .hardwareTrip | .flowLossShutdown | .leakDetect | .shdnReq
  | .pwrEnDeassert | .altimeterPhaseCount | .standbyPowerLoss => true
  | .frameWatchdogFire c | .intakeDeadlineExpiry c | .stepUndecided c | .frmCtxResume c | .frmCtxDiscard c
  | .coreCtxResume c | .coreCtxDiscard c | .trnStepOpen c | .trnStepAbort c | .forceCommit c | .forceAbort c => decide (c < 4)
  | .loanEndTick _ i => decide (i < 64)
  | .syncEn _ => true
  | .ptpLock port _ _ => decide (port < 16)
  | .ptpEventMessage port _ => decide (port < 16)
  | .frmOvrMaxClear c _ => decide (c < 4)
  | .stallSnapshot g c | .blockFire g c | .blockDispatch g c | .loadGo g c | .unload g c => decide (g < 256) && decide (c < 4)
  | .nop g c k | .endBlock g c k | .fclose g c k | .yield g c k | .tokadd g c k | .arm g c k | .disarm g c k
  | .esync g c k | .fence g c k | .beq g c k | .bne g c k | .blt g c k | .bge g c k | .bltu g c k | .bgeu g c k
  | .jal g c k | .jalr g c k | .trap g c k | .add g c k | .sub g c k | .and g c k | .or g c k | .xor g c k
  | .sll g c k | .srl g c k | .sra g c k | .slt g c k | .sltu g c k | .mul g c k | .mulhu g c k | .divu g c k
  | .remu g c k | .min g c k | .max g c k | .popc g c k | .clz g c k | .addi g c k | .andi g c k | .ori g c k
  | .xori g c k | .slli g c k | .srli g c k | .srai g c k | .slti g c k | .li g c k | .lui g c k | .ld8 g c k
  | .ld16 g c k | .ld32 g c k | .ld64 g c k | .lds8 g c k | .lds16 g c k | .lds32 g c k | .st8 g c k | .st16 g c k
  | .st32 g c k | .st64 g c k | .amoadd g c k | .amoswap g c k | .amocas g c k | .mma g c k | .mwb g c k
  | .mtin g c k | .mtout g c k | .mlb g c k | .mle g c k | .vadd g c k | .vsub g c k | .vmul g c k | .vshl g c k
  | .vshr g c k | .vand g c k | .vor g c k | .vxor g c k | .vcmp g c k | .vsel g c k | .vfadd g c k | .vfmul g c k
  | .vfma g c k | .vcvt g c k | .vrcp g c k | .vrsq g c k | .vrstep g c k | .vredsum g c k | .vredmax g c k
  | .vredmin g c k | .vupd g c k | .vcfg g c k | .dld g c k | .dgo g c k | .dstop g c k | .dstat g c k | .sput g c k
  | .sget g c k | .satom g c k | .msend g c k | .msendr g c k | .mrecv g c k | .mcount g c k | .cole g c k
  | .colw g c k | .colr g c k | .crd g c k | .cwr g c k => strandOk g c k
  | .scalarAccessComplete g _ | .matrixInstructionComplete g _ | .spurComplete g _ | .spurTimeout g _
  | .colStalledEntrySend g _ | .pcieCompletionTimeout g _ => decide (g < 256)
  | .matrixInstructionStart g | .vectorInstructionStart g | .vectorInstructionComplete g | .dmaReadBurstIssue g
  | .dmaWriteBurstIssue g | .restartAll g | .abortAll g | .spurSend g | .lenderWake g => decide (g < 256)
  | .traverseTotalLanding src | .messageArrival src => src.wf
  | .traverseSkip g c t => decide (g < 256) && decide (c < 4) && decide (t < 16)
  | .layerEndDecision g c cls => decide (g < 256) && decide (c < 4) && decide (cls < 2)
  | .mtxTrvNextWrite g c t _ _ => decide (g < 256) && decide (c < 4) && decide (t < 16)
  | .shadowActivation g ch | .dmaPaceCounterSeen g ch | .dmaBurstRetry g ch | .channelDrained g ch
  | .dmaChRestart g ch | .dmaChAbort g ch => decide (g < 256) && decide (ch < 16)
  | .dmaReadReturn g _ _ | .dmaWriteAck g _ _ => decide (g < 256)
  | .dmaChPaceWrite g ch _ | .dmaChPaceAddrWrite g ch _ => decide (g < 256) && decide (ch < 16)
  | .messageReoffer g c q => decide (g < 256) && decide (c < 4) && decide (q < 8)
  | .colMqCfgWrite g c q _ => decide (g < 256) && decide (c < 4) && decide (q < 8)
  | .colEntryArrival _ | .colReleaseArrival _ | .correctedWriteback _ => true
  | .meshFlitError e => e.wf
  | .loadDone g c _ => decide (g < 256) && decide (c < 4)
  | .coreBtIndexWrite g c _ | .coreBtData3Commit g c _ => decide (g < 256) && decide (c < 4)
  | .coreBtDataStage g c w _ => decide (g < 256) && decide (c < 4) && decide (w < 3)
  | .coreTokenWrite g c t _ => decide (g < 256) && decide (c < 4) && decide (t < 32)
  | .loanGrant p | .loanNotice p | .loanRelease p | .write p | .readReq p | .readResp p | .atomicReq p
  | .atomicResp p | .ack p | .nak p | .flowClose p | .trvCredit p | .colArrival p | .colRelease p | .colQuery p
  | .frameRelay p | .receivedFrameDrop p => p.wf
  | .countWordAtomic g pool seg _ _ => decide (g < 256) && decide (pool < 16) && decide (seg < 8)
  | .allocationWordAtomic pool seg | .segmentReady pool seg => decide (pool < 16) && decide (seg < 8)
  | .lendingPeriod die | .pllLockLoss die => decide (die < 2)
  | .colLendCfgWrite die _ => decide (die < 2)
  | .trnGnsCfgWrite c _ => decide (c < 4)
  | .linkStateChange link _ => decide (link < 64)
  | .linkFault link => decide (link < 64)
  | .noinePacketSend _ | .ackTimer _ | .retransmitTimeout _ | .rnrResend _ | .completionTimeout _ | .flowIdleClose _
  | .receiveFlowIdleFree _ => true
  | .colQueryPoll ctr => decide (ctr < 1024)
  | .pfcFrame port prio _ => decide (port < 16) && decide (prio < 8)
  | .txnBegin o | .txnCommit o | .txnRollback o | .txnTimeout o => decide (o < 3)
  | .rtFieldWrite o _ size _ => decide (o < 3) && sizeOk size
  | .registerWrite src bar _ size _ => decide (src < 3) && (bar == 0 || bar == 4 || bar == 6) && sizeOk size
  | .apertureWrite p off data => decide (p < 2) && decide (off + data.length ≤ 2 ^ 36)
  | .apertureRead p off len _ => decide (p < 2) && decide (off + len ≤ 2 ^ 36)
  | .pciePortReset p _ => decide (p < 2)
  | .perstDeassert p => decide (p < 2)
  | .hostRingFetch p c _ => decide (p < 2) && decide (c < 4)
  | .commandNop p c e | .request p c e | .note p c e | .token p c e => decide (p < 2) && decide (c < 4) && decide (e.bytes.length = 64)
  | .hifCrCfgEnable p c _ => decide (p < 2) && decide (c < 4)
  | .coldStart info | .inputReconnect info | .pwrEnAssert info => info.wf
  | .warmReset src | .coldReset src | .pwrSdReq src => decide (src < 3)
  | .mctpControlMessage via body => via.wf && decide (body.headD 128 < 128#8) && decide (body.length < 65536)
  | .readSensors via body | .readCairn via body | .attest via body
  | .getCerts via body | .fwWrite via body | .fwVerify via body | .fwActivate via body | .reset via body
  | .calUser via body => via.wf && decide (body.length < 65536)
  | .getStatus via => via.wf
  | .hbmScrubRead _ => true
  | .bistSlice g _ => decide (g < 256)
  | .pllFrequencyCheck die _ => decide (die < 2)
  | .thermalSensorCrossCheck _ _ | .voltageMonitorCheck _ _ => true
  | .bistLoopGo _ | .lifeUtcSet _ => true
  | .loopDone lanes _ => decide (lanes < 256)
  | .sidebandShort pin => decide (pin < 8)
  | .inputUnderVoltageBand _ | .inputOverVoltageBand _ | .underVoltageBandExit _ => true
  | .powerSample _ _ => true
  | .thermalCondition _ _ => true
  | .flowLow _ | .flowRestored _ => true
  | .shutdownNoticeExpiry _ info => info.wf
  | .railFault rail => decide (rail < 8)
  | .holdoverOffsetLimit _ => true
  | .pcieLinkUp p far => decide (p < 2) && far.ok && decide (far.inv < 256)

end Sys2Proof
end

