-- ==== Sys2Proof/Tests/Slice0.lean ====
section
/-! SUPPORT. Tests: ill-formed commands are refused, worked examples of the specification, and for each statement a state and
operands that meet its hypotheses. -/

namespace Sys2Proof.Tests

set_option Elab.async false

open Sys2Proof Sys2Proof.Machine Sys2Proof.Claims

/-! ### A small state -/

/-- An instruction word: class, opcode, the three register fields of format R, and the bits below them. -/
def ins (cls op rd rs1 rs2 : Nat) (low : Nat := 0) : Word :=
  BitVec.ofNat 64 (cls * 2 ^ 60 + op * 2 ^ 54 + rd * 2 ^ 49 + rs1 * 2 ^ 44 + rs2 * 2 ^ 39 + low)

/-- Context 0 runs on core 0 with the whole scratchpad as its window, and its strand 0 stands at the first of the two
instructions of block 0, w; s1 holds the scratchpad's alias address plus 4096, s2 is 5 and s3 an
address in core 1's scratchpad. -/
def demo (w : Word) : State :=
  let s := (State.reset.setF F.PLC_WIN_SIZE 48 0).setF F.CORE_CTX_ISTORE_SIZE 32 0 0
  let s := s.setCtx 0 0 { phase := .running, codeLen := 2, blocks := [{ w0 := 2 ^ 16 }] }
  let s := s.setStrand 0 0 0 { exec := true, regs := [(1, 0xF8000001000), (2, 5), (3, 0xF0000401000)] }
  s.write (s.codeKey 0 0 0) (toLE 8 w.toNat)

/-- The instruction that strand 0 of context 0 on core 0 stands at. -/
def dec (s : State) : Dec := (s.instrAt 0 0 0).getD ⟨.nop, false, 0, 0, 0, 0⟩

/-- It stands at an instruction of opcode op. -/
def at? (s : State) (op : Op) : Bool := decide (s.At 0 0 0 op (dec s))

/-! ### Ill-formed commands -/

/-- A well-formed packet, board record and mailbox command. -/
def pkt : Packet := {}

/-- For each check of a packet, a packet that only it refuses. -/
def badPackets : List Packet :=
  [{ link := 64 }, { srcIp := 2 ^ 128 }, { dstIp := 2 ^ 128 }, { hop := 256 }, { type := 16 }, { version := 16 }, { ctx := 4 },
   { srcNode := 2 ^ 20 }, { srcCore := 256 }, { dstNode := 2 ^ 20 }, { dstCore := 256 }, { flow := 2 ^ 16 }, { epoch := 2 ^ 16 },
   { psn := 2 ^ 32 }, { limit := 2 ^ 32 }, { addr := 2 ^ 64 }, { aux := 2 ^ 64 }, { tag := 2 ^ 32 }, { pcrc := 2 ^ 32 }]

theorem test_wf_packet_ok : pkt.wf = true := by decide +kernel
theorem test_wf_packet_refused : badPackets.all (fun p => !p.wf) = true := by decide +kernel
theorem test_wf_long_payload_refused : ({ payload := List.replicate (2 ^ 16) 0 } : Packet).wf = false := by
  have h : (List.replicate (2 ^ 16) (0 : Byte)).length = 65536 := List.length_replicate
  unfold Packet.wf; rw [h]; decide

/-- For each check of a strand's, core's, context's or engine's command, a command that only it refuses. -/
theorem test_wf_core_refused : (
  [.nop 256 0 0, .add 0 4 0, .cwr 0 0 8, .frameWatchdogFire 4, .loanEndTick true 64, .ptpLock 16 0 37, .ptpEventMessage 16 0,
   .frmOvrMaxClear 4 true, .stallSnapshot 256 0, .blockFire 0 4, .loadGo 256 0, .scalarAccessComplete 256 0,
   .matrixInstructionStart 256, .traverseTotalLanding (.net { link := 64 }), .messageArrival (.net { hop := 256 }),
   .traverseSkip 256 0 0, .traverseSkip 0 4 0, .traverseSkip 0 0 16, .layerEndDecision 256 0 0, .layerEndDecision 0 4 0,
   .layerEndDecision 0 0 2, .mtxTrvNextWrite 256 0 0 .next 0, .mtxTrvNextWrite 0 4 0 .next 0, .mtxTrvNextWrite 0 0 16 .next 0,
   .shadowActivation 256 0, .shadowActivation 0 16, .dmaReadReturn 256 0 .ok, .dmaChPaceWrite 256 0 0, .dmaChPaceWrite 0 16 0,
   .messageReoffer 256 0 0, .messageReoffer 0 4 0, .messageReoffer 0 0 8, .colMqCfgWrite 256 0 0 0, .colMqCfgWrite 0 4 0 0,
   .colMqCfgWrite 0 0 8 0, .loadDone 256 0 .ok, .loadDone 0 4 .ok, .coreBtIndexWrite 256 0 0, .coreBtIndexWrite 0 4 0,
   .coreBtDataStage 256 0 0 0, .coreBtDataStage 0 4 0 0, .coreBtDataStage 0 0 3 0, .coreTokenWrite 256 0 0 0,
   .coreTokenWrite 0 4 0 0, .coreTokenWrite 0 0 32 0] : List Instr).all (fun i => !i.wf) = true := by decide +kernel

/-- For each check of a module's, link's, host's or steward's command, a command that only it refuses. -/
theorem test_wf_module_refused : (
  [.loanGrant { flow := 2 ^ 16 }, .meshFlitError (.corrected 5 0 0 0), .meshFlitError (.pcie 2 0 0),
   .write { wire := { label := 2 ^ 20 } }, .mctpControlMessage (.smbus 0x37) [128], .getStatus (.smbus 128), .countWordAtomic 256 0 0 0 0, .countWordAtomic 0 16 0 0 0, .countWordAtomic 0 0 8 0 0,
   .allocationWordAtomic 16 0, .allocationWordAtomic 0 8, .lendingPeriod 2, .colLendCfgWrite 2 0, .trnGnsCfgWrite 4 0,
   .linkStateChange 64 .signal, .linkFault 64, .colQueryPoll 1024, .pfcFrame 16 0 true, .pfcFrame 0 8 true, .txnBegin 3,
   .rtFieldWrite 3 0 8 0, .rtFieldWrite 0 0 0 0, .rtFieldWrite 0 0 9 0, .registerWrite 3 0 0 8 0, .registerWrite 0 1 0 8 0,
   .registerWrite 0 0 0 9 0, .apertureWrite 2 0 [], .apertureWrite 0 (2 ^ 36) [0], .apertureRead 2 0 8 .ok,
   .apertureRead 0 (2 ^ 36) 8 .ok, .pciePortReset 2 .flr, .perstDeassert 2, .hostRingFetch 2 0 0, .hostRingFetch 0 4 0,
   .commandNop 2 0 { bytes := List.replicate 64 0 }, .commandNop 0 4 { bytes := List.replicate 64 0 }, .commandNop 0 0 { bytes := [] },
   .hifCrCfgEnable 2 0 0, .hifCrCfgEnable 0 4 0, .coldStart { primary := 2 },
   .coldStart { cal := some (0, List.replicate 338 0) }, .warmReset 3, .readSensors (.port 2) [], .readSensors (.mailbox 2) [],
   .getStatus (.port 2), .bistSlice 256 none, .pllFrequencyCheck 2 0, .loopDone 256 0, .sidebandShort 8,
   .shutdownNoticeExpiry [] { primary := 2 }, .railFault 8, .pcieLinkUp 2 {}] : List Instr).all (fun i => !i.wf) = true := by decide +kernel
theorem test_wf_long_body_refused : (Instr.attest (.smbus 0x37) (List.replicate 65536 0)).wf = false := by
  have h : (List.replicate 65536 (0 : Byte)).length = 65536 := List.length_replicate
  show (true && decide ((List.replicate 65536 (0 : Byte)).length < 65536)) = false
  rw [h]; rfl
theorem test_wf_ok : [Instr.frmTick, .nop 255 3 7, .traverseSkip 255 3 15, .registerWrite 2 4 0 8 0, .sidebandShort 7].all
    Instr.wf = true := by decide +kernel

/-! ### Scalar instructions -/

theorem witness_register_operations : (registerOps.zip (List.range 18)).all (fun x =>
    at? (demo (ins 1 x.2 4 1 (if x.2 < 16 then 2 else 0))) x.1.1) = true := by decide +kernel

theorem witness_immediate_operations : (immediateOps.zip (List.range 10)).all (fun x =>
    at? (demo (ins 1 (0x20 + x.2) 4 (if x.2 < 8 then 1 else 0) 0 (3 * 2 ^ 12))) x.1.1) = true := by decide +kernel

theorem witness_branches : (branchOps.zip (List.range 6)).all (fun x =>
    at? (demo (ins 0 (9 + x.2) 0 1 2 (2 ^ 23))) x.1.1) = true := by decide +kernel

theorem witness_jumps : at? (demo (ins 0 0xF 4 0 0 (2 ^ 12))) .jal = true ∧ at? (demo (ins 0 0x10 4 0 0 (2 ^ 12))) .jalr = true := by
  decide +kernel

theorem witness_waits : at? (demo (ins 0 0 0 0 0)) .nop = true ∧ at? (demo (ins 0 3 0 0 0)) .yield = true ∧
    at? (demo (ins 0 7 0 0 0 (3 * 2 ^ 12))) .esync = true ∧ at? (demo (ins 0 8 0 0 0)) .fence = true := by decide +kernel

theorem witness_end_and_fclose : at? (demo (ins 0 1 0 0 0)) .endBlock = true ∧ at? (demo (ins 0 2 0 0 0)) .fclose = true ∧
    (demo (ins 0 2 0 0 0)).f F.TRN_STEP_STATE_STATE 0 ≠ 1 := by decide +kernel

theorem witness_tokens : at? (demo (ins 0 4 3 0 0 (2 ^ 12))) .tokadd = true ∧ at? (demo (ins 0 5 0 0 0)) .arm = true ∧
    at? (demo (ins 0 6 0 0 0 (2 ^ 12))) .disarm = true := by decide +kernel

theorem witness_trap : at? (demo (ins 0 0x11 0 0 0 (7 * 2 ^ 12))) .trap = true := by decide +kernel

/-- Past the end of the block; a poisoned word; a word of a reserved class. -/
theorem witness_faults_at_issue :
    let s := demo 0
    let past := s.setStrand 0 0 0 { s.strand 0 0 0 with pc := 2 }
    let poisoned := s.poisonAt (s.codeKey 0 0 0) 8
    let bad := demo (ins 15 0 0 0 0)
    (past.canIssue 0 0 0 = true ∧ lastIndex past 0 0 0 < 2) ∧
    (poisoned.canIssue 0 0 0 = true ∧ poisoned.poisoned (poisoned.codeKey 0 0 0) 8 = true) ∧
    (bad.canIssue 0 0 0 = true ∧ bad.poisoned (bad.codeKey 0 0 0) 8 = false ∧
      decodeWord (BitVec.ofNat 64 (bad.readN (bad.codeKey 0 0 0) 8)) = none) := by decide +kernel

/-! ### Scalar accesses -/

/-- The first bytes of a near access to offset 4096. -/
theorem witness_near_loads : (loadOps.zip [0x30, 0x31, 0x32, 0x33, 0x34, 0x35, 0x36]).all (fun x =>
    let s := demo (ins 1 x.2 4 1 0)
    at? s x.1.1 && decide (s.loadsPending 0 0 0 < 8) && accessAddr s 0 0 0 (dec s) true == 0xF8000001000 &&
    !s.poisoned (spadKey 0 4096) x.1.2.2.1) = true := by decide +kernel

theorem witness_near_stores : (storeOps.zip [0x38, 0x39, 0x3A, 0x3B]).all (fun x =>
    let s := demo (ins 1 x.2 4 1 0)
    at? s x.1.1 && accessAddr s 0 0 0 (dec s) true == 0xF8000001000 && !s.kvProtected (spadKey 0 4096) x.1.2.2) = true := by
  decide +kernel

theorem witness_near_atomics : (atomicOps.zip [0x3C, 0x3D, 0x3E]).all (fun x =>
    let s := demo (ins 1 x.2 4 1 2)
    at? s x.1.1 && accessAddr s 0 0 0 (dec s) false == 0xF8000001000 && !s.kvProtected (spadKey 0 4096) 8 &&
    !s.mirrored (spadKey 0 4096) 8 && (s.countWordAt (spadKey 0 4096)).isNone && (s.allocWordAt (spadKey 0 4096)).isNone) =
    true := by decide +kernel

/-- The window of the near accesses, at its first and last bytes. -/
theorem witness_own_window : OwnWindow (demo 0) 0 0 0xF8000000000 0 ∧ OwnWindow (demo 0) 0 0 0xF80002FFFFF 0x2FFFFF ∧
    OwnWindow (demo 0) 0 0 0xF0000000000 0 := by
  unfold OwnWindow; decide +kernel

/-- A misaligned load; a window of context 1 instead; no window; poisoned bytes. -/
theorem witness_bad_accesses :
    let odd := demo (ins 1 0x33 4 1 0 (2 ^ 12))
    let s := demo (ins 1 0x33 4 1 0)
    let none_ := s.setF F.PLC_WIN_SIZE 0 0
    let other := none_.setF F.PLC_WIN_SIZE 48 1
    let poison := s.poisonAt (spadKey 0 4096) 8
    (at? odd .ld64 = true ∧ accessAddr odd 0 0 0 (dec odd) true % 8 = 1) ∧
    (at? other .ld64 = true ∧ accessAddr other 0 0 0 (dec other) true = 0xF8000000000 + 4096 ∧ other.inWin 1 4096 = true) ∧
    (at? none_ .ld64 = true ∧ ∀ c, c < 4 → none_.inWin c 4096 = false) ∧
    (at? poison .ld64 = true ∧ poison.poisoned (spadKey 0 4096) 8 = true ∧ poison.inWin 0 4096 = true) := by decide +kernel

/-- An access to core 1's scratchpad: a slot is free, and then all 48 are taken; eight loads pending. -/
theorem witness_far_access :
    let s := demo (ins 1 0x33 4 3 0)
    let r : Req := { seq := 0, who := ⟨0, 1, 0, 0, 0⟩, acc := .load 8 false, rd := 4, addr := 0, loc := .mem 0, tgt := .core 1 }
    let full := s.setCore 0 { s.core 0 with slots := List.replicate 48 r }
    let busy := s.setCore 0 { s.core 0 with slots := List.replicate 8 r }
    let queued := s.setCore 0 { s.core 0 with slots := List.replicate 8 r, sideq := List.replicate 32 r }
    let pending := s.setCore 0 { s.core 0 with slots := List.replicate 8 { r with who := ⟨0, 0, 0, 0, 0⟩ } }
    at? s .ld64 = true ∧ s.loadsPending 0 0 0 < 8 ∧ accessAddr s 0 0 0 (dec s) true = 0xF0000401000 ∧
    (s.xlate 0 0 0xF0000401000 false .scalar).toOption = some (.mem (spadKey 1 4096)) ∧ ownSpad 0 (.mem (spadKey 1 4096)) = false ∧
    (s.core 0).held (.core 1) < quotaOf (.core 1) ∧
    (at? full .ld64 = true ∧ (full.core 0).slots.length = 48) ∧
    (at? busy .ld64 = true ∧ (busy.core 0).held (.core 1) = quotaOf (.core 1)) ∧
    (at? queued .ld64 = true ∧ (queued.core 0).held (.core 1) = quotaOf (.core 1) ∧ (queued.core 0).sideq.length = 32) ∧
    (at? pending .ld64 = true ∧ 8 ≤ pending.loadsPending 0 0 0) := by decide +kernel

/-- A load and a store in a slot, whose bytes can be accessed; another request waits for the same target. -/
theorem witness_slot :
    let s := demo 0
    let r : Req := { seq := 0, who := ⟨0, 0, 0, 0, 0⟩, acc := .load 8 false, rd := 4, addr := 0xF0000401000, loc := .mem (spadKey 1 4096), tgt := .core 1 }
    let w : Req := { r with acc := .store 8, seq := 1 }
    let t := (s.setStrand 0 0 0 { s.strand 0 0 0 with pend := [4] }).setCore 0 { s.core 0 with slots := [r], sideq := [w] }
    t.reqReady 0 r = true ∧ r.status = 0 ∧ t.poisoned (spadKey 1 4096) 8 = false ∧ (t.countWordAt (spadKey 1 4096)).isNone = true ∧
    (t.allocWordAt (spadKey 1 4096)).isNone = true ∧ (returned t r).isSome = true ∧
    ((t.core 0).sideq.find? (fun q => q.tgt = r.tgt)) = some w ∧
    (let v := s.setCore 0 { s.core 0 with slots := [w] }
     v.reqReady 0 w = true ∧ (stored v w (spadKey 1 4096)).isSome = true) := by decide +kernel

/-! ### Engines -/

theorem witness_matrix_queue : (matrixOps.zip [ins 2 0 1 1 0 (4 * 2 ^ 35 + 4 * 2 ^ 31), ins 2 1 1 2 0 (4 * 2 ^ 35), ins 2 2 0 0 0,
    ins 2 3 0 0 0, ins 2 4 1 0 0, ins 2 5 0 0 0]).all (fun x => at? (demo x.2) x.1.1) = true := by decide +kernel

theorem witness_vector_queue : (vectorOps.zip [0, 2, 4, 6, 8, 0xA, 0xC, 0xE, 0x10, 0x12, 0x14, 0x16, 0x18, 0x1A, 0x1C, 0x1E, 0x20, 0x22,
    0x24, 0x26, 0x28]).all (fun x => at? (demo (ins 3 x.2 1 1 0 (if x.2 = 0x28 then 0 else 2 ^ 35))) x.1.1) = true ∧
    at? (demo (ins 3 0x3F 0 2 0)) .vcfg = true := by decide +kernel

/-- A full queue. -/
theorem witness_full_queues :
    let m : MOp := { who := ⟨0, 0, 0, 0, 0⟩, seq := 0, cls := 0, dec := dec (demo 0) }
    let v : VOp := { who := ⟨0, 0, 0, 0, 0⟩, seq := 0, cls := 0, dec := dec (demo 0) }
    let s := demo (ins 2 5 0 0 0)
    let t := demo (ins 3 0 1 1 0 (2 ^ 35))
    let s := s.setCore 0 { s.core 0 with mtxq := List.replicate 16 m }
    let t := t.setCore 0 { t.core 0 with vecq := List.replicate 16 v }
    at? s .mle = true ∧ 16 ≤ (s.core 0).mtxq.countP (fun o => !o.started) ∧
    at? t .vadd = true ∧ 16 ≤ (t.core 0).vecq.countP (fun o => !o.started) := by decide +kernel

/-- SPUT, SGET and SATOM with both operands good; a bad local and a bad remote operand; a full queue. -/
theorem witness_spur_queue :
    let put := demo (ins 5 0 3 1 0)
    let get := demo (ins 5 1 3 1 0)
    let atom := demo (ins 5 2 3 2 4)
    let o : SOp := { seq := 0, who := ⟨0, 0, 0, 0, 0⟩, kind := .put, tok := false, addr := 0, parts := [], len := 1 }
    let full := put.setCore 0 { put.core 0 with spurq := List.replicate 32 o }
    at? put .sput = true ∧ at? get .sget = true ∧ at? atom .satom = true ∧
    (put.spurParts 0 0 0xF0000401000 1 (.store 1)).toOption.isSome = true ∧
    (put.localOperand 0 0 0xF8000001000 1).toOption = some (spadKey 0 4096) ∧
    (atom.spurParts 0 0 0xF0000401000 8 .amoadd).toOption.isSome = true ∧
    (let bad := demo (ins 5 0 3 2 0); at? bad .sput = true ∧ (bad.localOperand 0 0 5 1).toOption = none) ∧
    (let bad := demo (ins 5 0 2 1 0); at? bad .sput = true ∧ (bad.spurParts 0 0 5 1 (.store 1)).toOption = none) ∧
    (let bad := demo (ins 5 2 2 2 4); at? bad .satom = true ∧ ((bad.strand 0 0 0).rd (dec bad).rd).toNat % 8 = 5) ∧
    (at? full .sput = true ∧ 32 ≤ (full.core 0).spurq.length) := by decide +kernel

/-- MSEND to core 5 of this module, and from a bad operand; MSENDR of one register; a destination that names no core. -/
theorem witness_messages :
    let s := demo (ins 6 0 2 1 0)
    let r := demo (ins 6 1 2 1 0)
    let bad := demo (ins 6 1 3 1 0)
    at? s .msend = true ∧ at? r .msendr = true ∧ (s.core 0).spurq.length < 32 ∧
    (s.localOperand 0 0 0xF8000001000 8).toOption = some (spadKey 0 4096) ∧ s.coreOk 5 = true ∧
    at? bad .msendr = true ∧ bits ((bad.strand 0 0 0).rd 3) 8 36 ≠ 0 := by decide +kernel

/-- MRECV of a message of 8 bytes at the head of queue 0, at a good and at a misaligned address; an empty queue; MCOUNT. -/
theorem witness_receive :
    let s := demo (ins 6 2 1 4 0)
    let s := (s.setF F.COL_MQ_STATE_COUNT 1 0 0 0).write (spadKey 0 0x48) [8]
    let odd := demo (ins 6 2 2 4 0)
    at? s .mrecv = true ∧ s.f F.COL_MQ_STATE_COUNT 0 0 0 = 1 ∧ s.winKey 0 0 0xF8000001000 8 = some (spadKey 0 4096) ∧
    (s.mem.get (spadKey 0 0x48)).toNat = 8 ∧ at? odd .mrecv = true ∧ odd.f F.COL_MQ_STATE_COUNT 0 0 0 = 0 ∧
    (let t := odd.setF F.COL_MQ_STATE_COUNT 1 0 0 0
     at? t .mrecv = true ∧ ((t.strand 0 0 0).rd (dec t).rd).toNat % 8 ≠ 0) ∧
    at? (demo (ins 6 3 4 0 0)) .mcount = true := by decide +kernel

/-- A core with one queued matrix instruction: its word, operands and whether it has started. -/
def mtx (w : Word) (ra rb : Word) (started : Bool) : State × MOp :=
  let s := demo w
  let o : MOp := { who := ⟨0, 0, 0, 0, 0⟩, seq := 1, cls := 0, dec := dec s, ra := ra, rb := rb, started := started, snap := s.mem }
  (s.setCore 0 { s.core 0 with mtxq := [o] }, o)

/-- MMA of two FP16 tiles, that can start and that completes; the same with a misaligned tile. -/
theorem witness_mma :
    let w := ins 2 0 1 1 0 (4 * 2 ^ 35 + 4 * 2 ^ 31)
    let x := mtx w 0xF8000001000 0xF8000009000 false
    let y := mtx w 0xF8000001000 0xF8000009000 true
    let z := mtx w 0xF8000001008 0xF8000009000 false
    (x.1.core 0).mtxq.find? (fun o => !o.started) = some x.2 ∧ x.1.mtxReady 0 x.2 = true ∧ x.2.dec.op = .mma ∧
    pairAccepted x.2.dec.f35 x.2.bfmt = true ∧ (x.1.operandKey 0 0 x.2.ra.toNat (tileBytes 4)).isSome = true ∧
    (x.1.operandKey 0 0 x.2.rb.toNat (tileBytes 4)).isSome = true ∧ x.1.accMode 0 0 x.2.acc = 0 ∧
    (z.1.mtxReady 0 z.2 = true ∧ (z.1.operandKey 0 0 z.2.ra.toNat (tileBytes 4)).isSome = false) ∧
    (y.1.core 0).mtxq[0]? = some y.2 ∧ (mmaPair 4 4).isSome = true ∧ y.2.bfmt = 4 ∧ y.2.dec.f35 = 4 ∧ y.2.snap = y.1.mem ∧
    y.1.winKey 0 0 y.2.ra.toNat (tileBytes 4) = some (spadKey 0 4096) ∧
    y.1.winKey 0 0 y.2.rb.toNat (tileBytes 4) = some (spadKey 0 0x9000) ∧
    y.1.poisoned (spadKey 0 4096) (tileBytes 4) = false ∧ y.1.poisoned (spadKey 0 0x9000) (tileBytes 4) = false ∧
    (y.1.poisonAt (spadKey 0 4096) 1).poisoned (spadKey 0 4096) (tileBytes 4) = true := by decide +kernel

/-- MWB to an FP16 tile, that can start and that completes; MTIN and MTOUT; MLB of a descriptor; MLE of an open bracket. -/
theorem witness_mwb :
    let w := ins 2 1 1 2 0 (4 * 2 ^ 35)
    let x := mtx w 0xF8000001000 0x3F8000003F800000 false
    let y := mtx w 0xF8000001000 0x3F8000003F800000 true
    (x.1.core 0).mtxq.find? (fun o => !o.started) = some x.2 ∧ x.1.mtxReady 0 x.2 = true ∧ x.2.dec.op = .mwb ∧ x.2.dec.f35 ≠ 2 ∧
    (x.1.operandKey 0 0 x.2.ra.toNat (tileBytes 4)).isSome = true ∧
    (y.1.core 0).mtxq[0]? = some y.2 ∧ y.1.winKey 0 0 y.2.ra.toNat (tileBytes y.2.dec.f35) = some (spadKey 0 4096) ∧
    SMap.get none y.1.accSrc (0, 0, y.2.acc) = none := by decide +kernel

theorem witness_other_matrix_starts :
    let i := mtx (ins 2 2 0 0 0) 0 0 false
    let o := mtx (ins 2 3 0 0 0) 0 0 false
    let b := mtx (ins 2 4 1 0 0) 0xF8000001000 0 false
    let e := mtx (ins 2 5 0 0 0) 0 0 false
    let good := b.1.write (spadKey 0 4096) (toLE 8 0xFFF90000000A)
    let opened := (e.1.setF F.MTX_LAYER_STATE 1 0 0 0).setBracket 0 0 0 (some { openSeq := 0, who := ⟨0, 0, 0, 0, 0⟩ })
    (i.1.mtxReady 0 i.2 = true ∧ i.2.dec.op = .mtin ∧ i.1.fb F.MTX_TRV_NEXT_FIRST 0 0 i.2.trv = false) ∧
    (o.1.mtxReady 0 o.2 = true ∧ o.2.dec.op = .mtout ∧ o.1.fb F.MTX_TRV_NEXT_LAST 0 0 o.2.trv = false) ∧
    (good.mtxReady 0 b.2 = true ∧ b.2.dec.op = .mlb ∧ good.f F.MTX_LAYER_STATE 0 0 0 = 0 ∧
      good.operandKey 0 0 b.2.ra.toNat 64 = some (spadKey 0 4096) ∧ good.poisoned (spadKey 0 4096) 64 = false ∧
      layerOk (good.read (spadKey 0 4096) 64) = true) ∧
    (opened.mtxReady 0 e.2 = true ∧ e.2.dec.op = .mle ∧ opened.f F.MTX_LAYER_STATE 0 0 0 = 1 ∧ opened.bracket 0 0 0 ≠ none) := by
  decide +kernel

/-- MTIN of a landed entry, and of one that has not landed; MTOUT of an idle FIRST entry with and without credit; a total on its
way to core 1. -/
theorem witness_traverse :
    let i := mtx (ins 2 2 0 0 0) 0 0 true
    let i := (i.1.setF F.MTX_TRV_LAND_ADDR 0xF8000010000 0 0 0, i.2)
    let landed := i.1.setHop 0 0 0 { up := some (0, 1) }
    let o := mtx (ins 2 3 0 0 0) 0 0 true
    let first := (o.1.setF F.MTX_TRV_NEXT_FIRST 1 0 0 0).setF F.MTX_TRV_NEXT_NEXT_CORE 1 0 0 0
    let m : TrvMsg := { g := 0, c := 0, t := 0, node := 0, core := 1, area := [] }
    let way := { i.1 with transit := [m] }
    ((i.1.core 0).mtxq[0]? = some i.2 ∧ i.2.dec.op = .mtin ∧ i.1.fb F.MTX_TRV_NEXT_LAST 0 0 i.2.trv = false ∧
      (i.1.hop 0 0 0).up = none) ∧
    ((landed.hop 0 0 0).up ≠ none ∧ landed.landKey 0 0 0 = some (spadKey 0 0x10000) ∧
      landed.poisoned (spadKey 0 0x10000) areaSize = false) ∧
    ((first.core 0).mtxq[0]? = some o.2 ∧ o.2.dec.op = .mtout ∧ first.trvState 0 0 o.2.trv = 0 ∧
      first.fb F.MTX_TRV_NEXT_FIRST 0 0 o.2.trv = true ∧ (first.hop 0 0 o.2.trv).wait = false ∧ first.gnsOn 0 o.2.trv = false ∧
      first.f F.MTX_TRV_NEXT_NEXT_NODE 0 0 o.2.trv = first.node ∧ first.coreOk (first.f F.MTX_TRV_NEXT_NEXT_CORE 0 0 o.2.trv) = true ∧
      first.fb F.MTX_TRV_STATUS_CREDIT 0 0 0 = true ∧
      (first.setF F.MTX_TRV_STATUS_CREDIT 0 0 0 0).fb F.MTX_TRV_STATUS_CREDIT 0 0 0 = false) ∧
    (way.transit[0]? = some m ∧ way.landKey 0 0 0 = some (spadKey 0 0x10000) ∧ way.trvState 0 0 0 = 0 ∧
      way.occupied 0 0 = true ∧ way.f F.CORE_TOKEN_COUNT 0 0 16 < 4095) := by decide +kernel

/-- A late SKIP_EN entry that is not FIRST, and a FIRST one with credit; entries open and not open for a write. -/
theorem witness_traverse_skip :
    let s := (demo 0).setF F.MTX_TRV_NEXT_SKIP_EN 1 0 0 0
    let s := { s with clk := { s.clk with frame := 1, running := true } }
    let first := ((s.setF F.MTX_TRV_NEXT_FIRST 1 0 0 0).setF F.MTX_TRV_STATUS_CREDIT 1 0 0 0).setF F.MTX_TRV_NEXT_NEXT_CORE 1 0 0 0
    s.atTick = true ∧ s.coreOk 0 = true ∧ s.fb F.MTX_TRV_NEXT_SKIP_EN 0 0 0 = true ∧ s.fb F.MTX_TRV_NEXT_LAST 0 0 0 = false ∧
    s.f F.MTX_TRV_DUE_FRAME 0 0 0 + 1 = s.clk.frame ∧ (s.hop 0 0 0).sent = false ∧ (s.hop 0 0 0).wait = false ∧ s.trvState 0 0 0 = 0 ∧
    first.fb F.MTX_TRV_NEXT_FIRST 0 0 0 = true ∧ first.fb F.MTX_TRV_STATUS_CREDIT 0 0 0 = true ∧ first.trvState 0 0 0 = 0 ∧
    first.f F.MTX_TRV_NEXT_NEXT_NODE 0 0 0 = first.node ∧ first.coreOk (first.f F.MTX_TRV_NEXT_NEXT_CORE 0 0 0) = true ∧
    (s.core 0).mtxq = [] ∧ (s.setTrvState 0 0 0 1).trvState 0 0 0 ≠ 0 := by decide +kernel

/-- A core with one queued vector instruction. -/
def vec (w : Word) (ra rb rc : Nat) (cfg : Word) (started : Bool) : State × VOp :=
  let s := demo w
  let o : VOp := { who := ⟨0, 0, 0, 0, 0⟩, seq := 1, cls := 0, dec := dec s, ra := ra, rb := rb, rc := rc, cfg := cfg, started := started, snap := s.mem }
  (s.setCore 0 { s.core 0 with vecq := [o] }, o)

/-- VFADD of two FP32 streams of 16 elements, that can start and that completes; a format that VADD does not take; a destination
that overlaps a source wrongly; a poisoned source. -/
theorem witness_vector :
    let w := ins 3 0x14 1 1 1 (2 ^ 35)
    let x := vec w 0xF8000001000 0xF8000002000 0xF8000003000 16 false
    let y := vec w 0xF8000001000 0xF8000002000 0xF8000003000 16 true
    let bad := vec (ins 3 0 1 1 1 (2 ^ 35)) 0xF8000001000 0xF8000002000 0xF8000003000 16 false
    let lap := vec w 0xF8000002020 0xF8000002000 0xF8000003000 16 false
    let lay (o : VOp) : VLay := (vecLay o).getD ⟨0, 0, 0, (0, 0), none, none, (0, 0)⟩
    let l := lay x.2
    ((vecLay x.2).isSome = true ∧ x.1.streamsOk 0 0 (l.d :: l.reads) = true ∧ overlapOk (x.1.placeOf 0 l.d) (x.1.placeOf 0 l.s1) 32 32 = true ∧
      l.s2.map (fun r => overlapOk (x.1.placeOf 0 l.d) (x.1.placeOf 0 r) 32 32) = some true ∧ (x.1.keysOf 0 0 (l.d :: l.reads)).all (fun r => !x.1.mwbWrites 0 r) = true) ∧
    ((x.1.core 0).vecq = [x.2] ∧ x.2.started = false ∧ x.2.dec.op = .vfadd) ∧ ((vecLay bad.2).isSome = false ∧ bad.2.dec.op = .vadd) ∧
    ((vecLay lap.2).isSome = true ∧
      (lap.1.streamsOk 0 0 ((lay lap.2).d :: (lay lap.2).reads) && overlapOk (lap.1.placeOf 0 (lay lap.2).d) (lap.1.placeOf 0 (lay lap.2).s1) 32 32) = false) ∧
    ((y.1.core 0).vecq = [y.2] ∧ y.2.started = true ∧ y.2.snap = y.1.mem ∧ (vecLay y.2).isSome = true ∧
      y.1.winKey 0 0 (lay y.2).d.1 (lay y.2).d.2 = some (spadKey 0 4096) ∧
      y.1.winKey 0 0 (lay y.2).s1.1 (lay y.2).s1.2 = some (spadKey 0 0x2000) ∧
      (y.1.keysOf 0 0 (lay y.2).reads).any (fun r => y.1.poisoned r.1 r.2) = false ∧
      (y.1.keysOf 0 0 (lay y.2).reads).any (fun r => (y.1.poisonAt (spadKey 0 0x2000) 1).poisoned r.1 r.2) = true) := by
  decide +kernel

/-- A VUPD whose descriptors are operands, one whose are not, one with a poisoned descriptor, and one started. -/
theorem witness_update :
    let w := ins 3 0x28 1 1 1
    let x := vec w 0xF8000001000 0xF8000002000 0xF8000003000 0 false
    let bad := vec w 5 0xF8000002000 0xF8000003000 0 false
    let y := vec w 0xF8000001000 0xF8000002000 0xF8000003000 0 true
    let descs : List (Nat × Nat) := [(0xF8000001000, 128), (0xF8000002000, 64), (0xF8000003000, 128)]
    ((x.1.core 0).vecq = [x.2] ∧ x.2.dec.op = .vupd ∧ x.2.started = false ∧ x.1.streamsOk 0 0 descs = true) ∧
    ((x.1.poisonAt (spadKey 0 0x1000) 1).keysOf 0 0 descs).any
      (fun r => (x.1.poisonAt (spadKey 0 0x1000) 1).poisoned r.1 r.2) = true ∧
    bad.1.streamsOk 0 0 [(5, 128)] = false ∧
    ((y.1.core 0).vecq = [y.2] ∧ y.2.started = true ∧ y.2.upd.lateAddr = 0 ∧ y.1.poison = [] ∧
      y.1.winKey 0 0 (y.2.ra + 32) 24 = some (spadKey 0 0x1020)) := by decide +kernel

/-- A deciding bracket, its flag clear, and set with the next format in step 1. -/
theorem witness_layer :
    let b : Bracket := { openSeq := 0, closeSeq := some 1, who := ⟨0, 0, 0, 0, 0⟩, addr := 0xF8000001000 }
    let s := (((demo 0).setF F.MTX_LAYER_STATE 2 0 0 0).setBracket 0 0 0 (some b)).write (spadKey 0 4096) (toLE 8 0xFF5900000000)
    let t := s.setF F.MTX_LAYER_FLAG 1 0 0 0
    let w0 := leNat s (spadKey 0 4096) 8
    s.bracket 0 0 0 = some b ∧ s.f F.MTX_LAYER_STATE 0 0 0 = 2 ∧ s.halted 0 = false ∧
    s.operandKey 0 0 b.addr 64 = some (spadKey 0 4096) ∧ s.bracketBusy 0 0 0 b = false ∧ s.poisoned (spadKey 0 4096) 64 = false ∧
    w0 / 2 ^ 19 % 2 = 0 ∧ s.occupied 0 0 = true ∧ s.fb F.MTX_LAYER_FLAG 0 0 0 = false ∧ w0 / 2 ^ 48 % 32 ≠ 28 ∧
    s.f F.CORE_TOKEN_COUNT 0 0 0 < 4095 ∧
    t.fb F.MTX_LAYER_FLAG 0 0 0 = true ∧ w0 / 2 ^ 16 % 4 = 0 ∧ w0 / 2 ^ 36 % 16 ≠ 15 ∧ w0 / 2 ^ 53 % 32 ≠ 28 := by decide +kernel

/-! ### The DMA engine -/

/-- The state after a command. -/
def after (i : Instr) (s : State) : State :=
  match exec i s with
  | .next t => t
  | _ => s

/-- A copy of 256 bytes from offset 4096 to 8192 of the own scratchpad, with an end token. -/
def copyDesc : List Word := [0x10, 0xF8000001000, 0xF8000002000, 3, 0, 0, 0, 0]

/-- The copy queued in the shadow set of channel 0 of core 0 by context 0. -/
def queued : State :=
  let s := iter 8 (fun i s => s.setReg ⟨.DMA_CH_SHD, 0, 0, i⟩ (copyDesc.getD i 0)) (demo 0)
  (s.setF F.DMA_CH_STATUS_SHADOW 2 0 0).setChan 0 0 { whoQ := some (⟨0, 0, 0, 0, 0⟩, false) }

/-- DLD of a good, a misplaced, a bad and a poisoned descriptor; DGO of a loaded and of an empty shadow set; DSTOP of a
running channel; DSTAT; a channel of another context. -/
theorem witness_dma_instructions :
    let ld := (demo (ins 4 0 1 0 0)).write (spadKey 0 4096) (copyDesc.flatMap (fun w => toLE 8 w.toNat))
    let far := demo (ins 4 0 2 0 0)
    let bad := (demo (ins 4 0 1 0 0)).write (spadKey 0 4096) [15]
    let go := (demo (ins 4 1 0 0 0)).setF F.DMA_CH_STATUS_SHADOW 1 0 0
    let run := (demo (ins 4 2 0 0 0)).setF F.DMA_CH_STATUS_STATE 1 0 0
    (at? ld .dld = true ∧ ld.chOwner 0 0 = 0 ∧ ld.shadow 0 0 = 0 ∧ ld.operandKey 0 0 0xF8000001000 64 = some (spadKey 0 4096) ∧
      ld.poisoned (spadKey 0 4096) 64 = false ∧
      ld.descOk 0 ((List.range 8).map (fun i => BitVec.ofNat 64 (leNat ld (spadKey 0 4096 + 8 * i) 8))) = true) ∧
    (at? far .dld = true ∧ far.operandKey 0 0 5 64 = none) ∧
    (at? bad .dld = true ∧ bad.descOk 0 ((List.range 8).map (fun i => BitVec.ofNat 64 (leNat bad (spadKey 0 4096 + 8 * i) 8))) = false) ∧
    (ld.poisonAt (spadKey 0 4096) 1).poisoned (spadKey 0 4096) 64 = true ∧
    (at? go .dgo = true ∧ go.shadow 0 0 = 1 ∧ (go.shdDesc 0 0).pace = false ∧ at? (demo (ins 4 1 0 0 0)) .dgo = true ∧
      (demo (ins 4 1 0 0 0)).shadow 0 0 = 0) ∧
    (at? run .dstop = true ∧ run.chState 0 0 = 1) ∧ at? (demo (ins 4 3 4 0 0)) .dstat = true ∧
    (ld.setReg ⟨.DMA_OWNER, 0, 0, 0⟩ 1).chOwner 0 0 = 1 := by decide +kernel

/-- The queued copy starts; it runs alone and its first bytes can be read; they have come and can be written. -/
theorem witness_transfer_moves :
    let a := after (.shadowActivation 0 0) queued
    let b := after (.dmaReadReturn 0 0 .ok) (after (.dmaReadBurstIssue 0) a)
    ((queued.chan 0 0).whoQ.isSome = true ∧ queued.shadow 0 0 = 2 ∧ queued.chState 0 0 = 0 ∧ queued.dmaStopped 0 = false) ∧
    ((a.chan 0 0).act.isSome = true ∧ a.chState 0 0 = 1 ∧ a.dmaStopped 0 = false ∧
      (∀ h, h < 16 → h ≠ 0 → (a.chan 0 h).act = none ∧ a.chState 0 h = 0) ∧ (a.desc 0 0).op = 0 ∧ (a.core 0).bursts = [] ∧
      0 < (a.desc 0 0).nRuns ∧ (a.desc 0 0).unitOf 0 = 0 ∧
      (a.xlate 0 0 ((a.desc 0 0).srcRun 0) false .dma).toOption = some (.mem (spadKey 0 4096))) ∧
    (b.core 0).bursts.map (fun q => (q.ch, q.next, decide (q.st = .ready), q.sent, q.data.length)) = [(0, false, true, 0, 256)] ∧
    ((b.core 0).writes = [] ∧ (b.desc 0 0).pace = false ∧
      (b.xlate 0 0 ((b.desc 0 0).dstRun 0) true .dma).toOption = some (.mem (spadKey 0 8192)) ∧
      b.kvProtected (spadKey 0 8192) 256 = false) := by decide +kernel

/-- A demand burst that reads; its granule poisoned; a burst from a host; a burst that may be read again, and waits to be. -/
theorem witness_read_returns :
    let a := after (.dmaReadBurstIssue 0) (after (.shadowActivation 0 0) queued)
    let retry := a.setF F.DMA_CORE_CFG_RETRY 1 0
    let retry := retry.setF F.DMA_CORE_CFG_ERR_MODE 1 0
    let host := a.setCore 0 { a.core 0 with bursts := (a.core 0).bursts.map (fun b => { b with loc := .host 0 64 }) }
    let wait := a.setCore 0 { a.core 0 with bursts := (a.core 0).bursts.map (fun b => { b with st := .retry }) }
    (a.core 0).bursts.map (fun b => (decide (b.st = .reading), b.next, decide (b.kind = .data), b.ch)) = [(true, false, true, 0)] ∧
    (a.core 0).bursts.map (fun b => (b.demand, b.alt, b.len, b.loc.key)) = [(true, false, 256, some (spadKey 0 4096))] ∧
    (a.desc 0 0).op = 0 ∧ a.chState 0 0 = 1 ∧ a.poisoned (spadKey 0 4096) 256 = false ∧
    (a.poisonAt (spadKey 0 4096) 1).poisoned (spadKey 0 4096) 256 = true ∧ (a.desc 0 0).aux = 0 ∧ a.mayRetry 0 1 = false ∧
    retry.mayRetry 0 0 = true ∧ (host.core 0).bursts.map (·.loc) = [.host 0 64] ∧
    (((wait.core 0).bursts.find? (fun b => b.ch == 0 && b.st == .retry)).isSome = true ∧
      (wait.chan 0 0).act.map (·.who.c) = some 0 ∧
      (wait.xlate 0 0 0xF8000001000 false .dma).toOption = some (.mem (spadKey 0 4096))) := by decide +kernel

/-- A write of the last bytes that are due; a stopping channel with nothing in flight. -/
theorem witness_writes_land :
    let b := after (.dmaReadReturn 0 0 .ok) (after (.dmaReadBurstIssue 0) (after (.shadowActivation 0 0) queued))
    let w := after (.dmaWriteBurstIssue 0) b
    let stop := (after (.shadowActivation 0 0) queued).setF F.DMA_CH_STATUS_STATE 3 0 0
    let stop := stop.setChan 0 0 { stop.chan 0 0 with act := (stop.chan 0 0).act.map (fun x => { x with ending := 2 }) }
    (w.core 0).writes.map (fun q => (q.failed, q.dups, q.dupFail, decide (q.kind = .data))) = [(none, 0, none, true)] ∧
    (w.core 0).writes.map (fun q => (q.ch, q.loc.key, q.poison, q.unit)) = [(0, some (spadKey 0 8192), false, 0)] ∧
    (w.core 0).writes.map (·.src) = (w.core 0).bursts.map (fun q => some q.id) ∧
    (w.core 0).bursts.map (fun q => q.data.length) = [256] ∧ (w.core 0).bursts.map (fun q => q.acked) = [0] ∧
    (w.core 0).writes.map (fun q => q.data.length) = [256] ∧
    (w.chan 0 0).act.map (fun x => (x.head, x.chk, x.bad, SMap.get 0 x.acked 0)) = some (0, false, false, 0) ∧
    ((w.desc 0 0).op = 0 ∧ (w.desc 0 0).resEn = false ∧ w.chState 0 0 = 1 ∧ (w.desc 0 0).unitLen = 256 ∧ (w.desc 0 0).units = 1 ∧
      (w.desc 0 0).tok = 1 ∧ w.occupied 0 0 = true ∧ w.f F.CORE_TOKEN_COUNT 0 0 0 < 4095) ∧
    (stop.chState 0 0 = 3 ∧ (stop.chan 0 0).act.map (·.ending) = some 2 ∧ (stop.desc 0 0).resEn = false ∧
      (stop.core 0).writes = [] ∧ (stop.core 0).bursts = []) := by decide +kernel

/-- A channel in error with and without a stop in force, its head unit open; a paced transfer whose counter is in the window. -/
theorem witness_channels :
    let a := after (.shadowActivation 0 0) queued
    let e := a.setF F.DMA_CH_STATUS_STATE 4 0 0
    let p := (a.setReg ⟨activeRegs.headD .DMA_CH_SHD, 0, 0, 0⟩ (0x10 ||| BitVec.ofNat 64 (2 ^ 7))).setF F.DMA_CH_PACE_ADDR_ADDR 0xF8000001000 0 0
    (e.chState 0 0 = 4 ∧ e.dmaStopped 0 = false ∧ (e.chan 0 0).act.map (fun x => SMap.get 0 x.acked x.head) = some 0 ∧
      0 < (e.desc 0 0).unitLen) ∧ (e.setF F.DMA_STOPPED_STOPPED 1 0).dmaStopped 0 = true ∧
    ((p.chan 0 0).act.isSome = true ∧ (p.desc 0 0).pace = true ∧ p.winKey 0 0 (p.f F.DMA_CH_PACE_ADDR_ADDR 0 0) 8 = some (spadKey 0 4096)) := by decide +kernel

/-! ### The spur path, messages and cols -/

/-- An operation of context 0's strand 0 on core 0, of one part at 4096 in core 1's scratchpad, in the spur queue. -/
def spur (kind : SpurKind) (sent : Bool) (data : List Byte) : State × SOp :=
  let o : SOp :=
    { seq := 0, who := ⟨0, 0, 0, 0, 0⟩, kind := kind, tok := true, addr := 0xF0000401000,
      parts := [⟨.mem (spadKey 1 4096), 0, 8, none⟩], loc := spadKey 0 4096, len := 8, val := 1, rc := 4, data := data,
      sent := sent }
  ((demo 0).setCore 0 { (demo 0).core 0 with spurq := [o] }, o)

/-- Every kind leaves; every kind completes, a message once it is answered; a refused one; one past its time and one not. -/
theorem witness_spur :
    let put := spur .put true [1, 2, 3, 4, 5, 6, 7, 8]
    let get := spur .get true []
    let atom := spur .atom true []
    let msg := spur (.msg 1 0) true []
    let ans (st : Nat) : State × SOp := let o : SOp := { msg.2 with parts := [⟨.remote 0 0, 0, 0, some { status := st }⟩] }
      (msg.1.setCore 0 { msg.1.core 0 with spurq := [o] }, o)
    let late := { get.1 with clk := { get.1.clk with now := 10 ^ 9 } }
    ([SpurKind.put, .get, .atom, .msg 1 0].all (fun k =>
      (((spur k false []).1.core 0).spurq.find? (fun x => !x.sent)) == some (spur k false []).2) = true) ∧
    ((put.1.core 0).spurq[0]? = some put.2 ∧ put.1.spurReady 0 put.2 = true ∧ put.2.status = 0) ∧
    (get.1.spurReady 0 get.2 = true ∧ get.1.poisoned (spadKey 1 4096) 8 = false) ∧
    (atom.1.spurReady 0 atom.2 = true ∧ (atom.1.countWordAt (spadKey 1 4096)).isNone = true ∧
      (atom.1.allocWordAt (spadKey 1 4096)).isNone = true) ∧
    ((ans 0).1.spurReady 0 (ans 0).2 = true ∧ (ans 0).2.status = 0 ∧ (ans 7).1.spurReady 0 (ans 7).2 = true ∧ (ans 7).2.status = 7) ∧
    (put.1.occupied 0 0 = true ∧ put.1.f F.CORE_TOKEN_COUNT 0 0 29 < 4095) ∧
    (get.1.clk.now < get.2.born + get.1.f F.DMA_SPUR_TIMEOUT_TIMEOUT ∧
      get.2.born + get.1.f F.DMA_SPUR_TIMEOUT_TIMEOUT ≤ late.clk.now) ∧
    (get.1.poisonAt (spadKey 1 4096) 1).poisoned (spadKey 1 4096) 8 = true := by decide +kernel

/-- A message on its way to queue 0 of context 0 on core 0: the queue open with room, open and full, and closed. -/
theorem witness_message_arrives :
    let x := spur (.msg 0 0) true []
    let m : Msg := { g := 0, seq := 0, dst := 0, c := 0, q := 0, data := [1, 2, 3, 4, 5, 6, 7, 8] }
    let closed := { x.1 with msgs := [m] }
    let room := closed.setF F.COL_MQ_CFG_ENABLE 1 0 0 0
    let full := room.setF F.COL_MQ_STATE_COUNT 1 0 0 0
    let held := { room with msgs := [{ m with held := true }] }
    (closed.msgs[0]? = some m ∧ (closed.core 0).spurq.find? (fun o => o.seq = m.seq) = some x.2 ∧
      (∀ q ∈ (closed.core 0).spurq, q.seq < x.2.seq → q.who.c ≠ x.2.who.c) ∧ m.data.length ≤ 64) ∧
    (closed.fb F.COL_MQ_CFG_ENABLE 0 0 0 = false ∧ room.fb F.COL_MQ_CFG_ENABLE 0 0 0 = true ∧ room.occupied 0 0 = true ∧
      room.coreOk 0 = true ∧ room.f F.COL_MQ_STATE_COUNT 0 0 0 ≤ room.f F.COL_MQ_CFG_SLOTS_M1 0 0 0 ∧
      ¬full.f F.COL_MQ_STATE_COUNT 0 0 0 ≤ full.f F.COL_MQ_CFG_SLOTS_M1 0 0 0) ∧
    (held.msgs.map (fun m => (m.held, m.dst, m.c, m.q)) = [(true, 0, 0, 0)] ∧ (held.core 0).spurq = [x.2]) := by decide +kernel

/-- COLE, COLW and COLR of a known and of an unknown identifier; two entries outstanding; a stalled entry with room. -/
theorem witness_cols :
    let known (w : Word) : State := ((demo w).setF F.COL_XLATE_VALID 1 0 0)
    let e : WaitEnt := ⟨0, 0, .token 0⟩
    let two (w : Word) : State := { known w with waits := [((0, 0), [e, { e with tag := 1 }])] }
    let st : Stall := { c := 0, id := 0, waiter := .token 0, flag := false, k := 0, fid := 0 }
    let stalled := (known 0).setCore 0 { (known 0).core 0 with stalls := [st] }
    [(Op.cole, ins 7 0 0 0 0), (.colw, ins 7 1 0 0 0), (.colr, ins 7 2 4 0 0)].all (fun x =>
      at? (known x.2) x.1 && at? (demo x.2) x.1 && at? (two x.2) x.1) = true ∧
    ((known 0).fb F.COL_XLATE_VALID 0 0 = true ∧ (known 0).f F.COL_XLATE_KIND 0 0 = 0 ∧ (known 0).f F.COL_XLATE_PHYS 0 0 = 0 ∧
      (demo 0).fb F.COL_XLATE_VALID 0 0 = false ∧ (known 0).waitsOf 0 0 = [] ∧
      ((two 0).waitsOf 0 0).countP (fun e => decide (e.id = 0)) = 2 ∧ ((known 0).core 0).stalls = []) ∧
    ((stalled.core 0).stalls = [st] ∧ stalled.halted 0 = false ∧ (stalled.waitsOf 0 0).length < 32) := by decide +kernel

/-- An entry that is not the last, the last, of the next round, and of neither round; a release for one entry and for none. -/
theorem witness_col_counter :
    let s := (demo 0).setF F.COL_CTR_CFG_COUNT 2 0
    let ent (tag : Nat) : State := { s with colEnts := [⟨0, 0, tag, false⟩] }
    let last := ((ent 0).setF F.COL_CTR_STATE_C0 1 0).setF F.COL_XLATE_VALID 1 0 0
    let r : ColRel := ⟨0, 0, 0, 0, 0, false⟩
    let rel := { s with colRels := [r] }
    let wait := { rel with waits := [((0, 0), [⟨0, 0, .token 0⟩])] }
    (s.fb F.COL_CTR_CFG_XMOD 0 = false ∧ s.f F.COL_CTR_STATE_ROUND 0 = 0 ∧ s.f F.COL_CTR_STATE_C0 0 + 1 < s.f F.COL_CTR_CFG_COUNT 0) ∧
    (last.f F.COL_CTR_STATE_C0 0 + 1 = last.f F.COL_CTR_CFG_COUNT 0 ∧ last.f F.COL_CTR_STATE_C1 0 ≠ last.f F.COL_CTR_CFG_COUNT 0 ∧
      last.fb F.COL_CTR_STATE_DONE0 0 = false ∧ last.fb F.COL_CTR_STATE_DONE1 0 = false ∧ last.colName 0 = some (0, 0)) ∧
    ((ent 1).colEnts = [⟨0, 0, 1, false⟩] ∧ (ent 1).f F.COL_CTR_STATE_C0 0 ≠ 2 ∧ (ent 1).f F.COL_CTR_STATE_C1 0 + 1 < 512) ∧
    ((ent 2).colEnts = [⟨0, 0, 2, false⟩] ∧ 2 ≠ (ent 2).f F.COL_CTR_STATE_ROUND 0 % 4 ∧ 2 ≠ ((ent 2).f F.COL_CTR_STATE_ROUND 0 + 1) % 4) ∧
    (rel.waitsOf 0 0 = [] ∧ wait.waitsOf 0 0 = [⟨0, 0, .token 0⟩] ∧ wait.occupied 0 0 = true ∧
      wait.f F.CORE_TOKEN_COUNT 0 0 24 < 4095) := by decide +kernel

/-- CRD and CWR of a register, of a reserved offset and past 0x106. -/
theorem witness_context_registers :
    let crd (id : Nat) : State := demo (ins 8 0 4 0 0 (id * 2 ^ 27))
    let cwr (id : Nat) : State := demo (ins 8 1 0 2 0 (id * 2 ^ 27))
    [0, 0x80, 0x100, 0x106, 0x107].all (fun i => at? (crd i) .crd && at? (cwr i) .cwr) = true ∧
    (List.range 256).any (fun i => (ownReg 0 0 i).isSome) = true ∧ (List.range 256).any (fun i => (ownReg 0 0 i).isNone) = true ∧
    (List.range 256).any (fun i => (ownReg 0 0 i).any (fun r => r.readOnly)) = true ∧
    (List.range 256).any (fun i => (ownReg 0 0 i).any (fun r => !r.readOnly && r.i == 0 && r.j == 0)) = true ∧
    (List.range 256).any (fun i => ownReg 0 0 i == some ⟨.CORE_BT_INDEX, 0, 0, 0⟩) = true ∧
    (List.range 256).any (fun i => (ownReg 0 0 i).any (fun r => decide (r.name = .CORE_LOAD_CTRL))) = true := by decide +kernel

/-! ### Frames, contexts and blocks -/

/-- Ticks running; at the last frame number; stopping; a first tick scheduled; RUN with the start time ahead, now and past. -/
theorem witness_ticks :
    let s := demo 0
    let run := { s with clk := { s.clk with running := true, now := 5, frame := 7 } }
    let last := { run with clk := { run.clk with frame := 2 ^ 64 - 1 } }
    let soon := { s with clk := { s.clk with start := some (9, 3, true) } }
    let now (t : Nat) : State := { s.setF F.FRM_START_TIME_TIME 1000 with clk := { s.clk with now := t } }
    (s.pwr.off = false ∧ (∀ o, o < 3 → s.f F.TXN_STATUS_STATE o ≠ 2)) ∧
    (run.clk.running = true ∧ run.clk.frame + 1 < 2 ^ 64 ∧ run.fb F.FRM_CTRL_RUN = false ∧
      (run.setF F.FRM_CTRL_RUN 1).fb F.FRM_CTRL_RUN = true) ∧
    (last.clk.running = true ∧ 2 ^ 64 - 1 ≤ last.clk.frame) ∧
    (soon.clk.start = some (9, 3, true) ∧ soon.pwr.off = false) ∧
    ((now 999).clk.now < (now 999).f F.FRM_START_TIME_TIME ∧ (now 1000).clk.now = (now 1000).f F.FRM_START_TIME_TIME ∧
      (now 1001).f F.FRM_START_TIME_TIME < (now 1001).clk.now ∧ (now 1001).clk.running = false) := by decide +kernel

/-- The receiver enabled and acquiring, locked and in holdover; an offset at each limit. -/
theorem witness_time_base :
    let s := State.reset.setF F.FRM_CTRL_SYNC_EN 1
    let st (n : Nat) : State := s.setF F.FRM_SYNC_STATUS_STATE n
    (s.fb F.FRM_CTRL_SYNC_EN = true ∧ State.reset.fb F.FRM_CTRL_SYNC_EN = false ∧
      s.f F.NET_PTP_CFG_RX_LINK / 4 = 0 ∧ s.fb F.FRM_CTRL_RUN = false ∧ s.clk.running = false) ∧
    ((st 1).f F.FRM_SYNC_STATUS_STATE = 1 ∧ (st 2).f F.FRM_SYNC_STATUS_STATE = 2 ∧ (st 3).f F.FRM_SYNC_STATUS_STATE = 3) ∧
    ((10000#32).toInt.natAbs ≤ 10000 ∧ 10000 < (10001#32).toInt.natAbs ∧ 10000 < (-10001#32).toInt.natAbs) := by decide +kernel

/-- A context with an open frame at its limit, and one below it; halted by the watchdog, by a fault, and after a fatal error. -/
theorem witness_watchdog :
    let s := (demo 0).setF F.FRM_WDOG_W 3 0
    let age (n : Nat) : State :=
      let t := s.setCtx 0 0 { s.ctx 0 0 with frames := [{ frame := 4, age := n }] }
      { t with clk := { t.clk with running := true, skip := false } }
    let w := s.setF F.FRM_WDOG_HALT_HALTED 1 0
    let h := s.setF F.CORE_CTX_HALT_HALTED 1 0
    ((age 3).clk.running = true ∧ (age 3).clk.skip = false ∧ (age 3).halted 0 = false ∧ (age 3).coreOk 0 = true) ∧
    ((age 3).f F.FRM_WDOG_W 0 = 3 ∧ ((age 3).ctx 0 0).frames = [{ frame := 4, age := 3 }] ∧ (age 3).ctxs.map (·.1) = [(0, 0)]) ∧
    (((age 2).ctx 0 0).frames = [{ frame := 4, age := 2 }] ∧ (age 2).f F.FRM_WDOG_W 0 = 3) ∧
    (w.fb F.FRM_WDOG_HALT_HALTED 0 = true ∧ s.fb F.FRM_WDOG_HALT_HALTED 0 = false) ∧
    (h.fb F.CORE_CTX_HALT_HALTED 0 = true ∧ s.fb F.CORE_CTX_HALT_HALTED 0 = false) ∧
    ((h.setF F.ERR_FATAL_CODE 2).f F.ERR_FATAL_CODE ≠ 0 ∧ h.f F.ERR_FATAL_CODE = 0) := by decide +kernel

/-- A context that waits in all seven queues past its threshold: a strand, a slot, a channel, the spur queue, a receive
queue, the wait table and a waiting block; with its event bit 0 and 1. -/
theorem witness_stall :
    let s := ((demo 0).setF F.FRM_STALL_THRESH_THRESH 10 0).setF F.COL_MQ_STATE_COUNT 1 0 0 0
    let s := (s.setF F.DMA_CH_STATUS_STATE 1 0 0).setF ⟨.DMA_OWNER, 0, 4⟩ 0 0
    let s := s.setCtx 0 0 { s.ctx 0 0 with blocks := [{ w1 := 0x100, armed := true }] }
    let s := s.setCore 0 { s.core 0 with
      slots := [{ seq := 0, who := ⟨0, 0, 0, 0, 0⟩, acc := .load 8 false, rd := 4, addr := 0, loc := .mem 0, tgt := .core 1 }]
      spurq := [{ seq := 1, who := ⟨0, 0, 0, 0, 0⟩, kind := .get, tok := true, addr := 0, parts := [], len := 8 }] }
    let s : State := { s with waits := [((0, 0), [⟨0, 0, .token 0⟩])], watch := [((0, 0), 11)] }
    let seen := s.setF F.FRM_EVENT_STALL 1
    let few : State := { s with watch := [((0, 0), 10)] }
    (s.f F.FRM_STALL_THRESH_THRESH 0 ≠ 0 ∧ s.running 0 0 = true ∧ s.owns 0 0 = true ∧ (0, 0) ∉ s.stalled) ∧
    ((s.queuesBusy 0 0).all id = true ∧ s.f F.FRM_STALL_THRESH_THRESH 0 < s.watchTime 0 0 ∧
      ¬few.f F.FRM_STALL_THRESH_THRESH 0 < few.watchTime 0 0) ∧
    (bitN (s.f F.FRM_EVENT_STALL) 0 = false ∧ bitN (seen.f F.FRM_EVENT_STALL) 0 = true) := by decide +kernel

/-- Blocks of core 0 with no strand in use. -/
def armed (bs : List Block) (ticks : Nat) (ready : List Nat) : State :=
  let s := (demo 0).setStrand 0 0 0 {}
  s.setCtx 0 0 { s.ctx 0 0 with blocks := bs, ticks := ticks, ready := ready }

/-- Block 0 waits for two ticks since its mark, and block 1 for a token. -/
def waiting (ticks : Nat) : State :=
  (armed [{ w1 := 0x21C, armed := true, mark := 4 }, { w1 := 0x100, armed := true }] ticks []).setF F.CORE_TOKEN_COUNT 1 0 0 0

/-- Block 1 can fire and block 0 cannot until the second tick; the ready block of each kind of DEFER. -/
theorem witness_firing :
    let soon := armed [{ w0 := 2 ^ 16 }] 0 [0]
    let later := (armed [{ w0 := 2 ^ 16 + 2 ^ 28 }] 0 [0]).setF F.CORE_DEFER_MAX_MAX 1 0 0
    ((waiting 5).running 0 0 = true ∧ CanFire (waiting 5) 0 0 1 ∧ ¬CanFire (waiting 5) 0 0 0 ∧ CanFire (waiting 6) 0 0 0) ∧
    (soon.running 0 0 = true ∧ soon.owns 0 0 = true ∧ NextBlock soon 0 0 0 ∧ NextBlock later 0 0 0) ∧
    ((soon.strand 0 0 0).exec = false ∧ soon.strands = [] ∧ soon.halted 0 = false) := by
  refine ⟨⟨by decide +kernel, ?_, fun h => absurd (h.2.2.2.2.2 0 (by decide)) (by decide +kernel), ?_⟩, ?_, by decide +kernel⟩
  · refine ⟨by decide +kernel, by decide +kernel, by decide +kernel, by decide +kernel, ⟨0, by decide +kernel⟩, ?_⟩
    decide +kernel
  · refine ⟨by decide +kernel, by decide +kernel, by decide +kernel, by decide +kernel, ⟨0, by decide +kernel⟩, ?_⟩
    decide +kernel
  · unfold NextBlock; decide +kernel

/-- An image of one block and one instruction at address 0, with its digest. -/
def image (magic : Nat) : State :=
  let s := State.reset.setF F.CORE_CTX_ISTORE_SIZE 1 0 0
  let s := ((((s.writeN 0 4 magic).writeN 4 2 1).writeN 6 2 1).writeN 8 4 1).writeN 0x1C 2 1
  let s := s.writeN 0x48 8 0x100
  let s := s.writeN 0x10 8 0xE02256E7330604FF
  s.setCtx 0 0 { load := some 0 }

/-- Its digest is CRC-64/XZ of its bytes with DIGEST 0 (R90), computed by hand in three parts. -/
theorem test_image_digest : (image 0x4D494D4B).imageDigest ((image 0x4D494D4B).image 0) = 0xE02256E7330604FF := by
  have h : (image 0x4D494D4B).read (hbmKey ((image 0x4D494D4B).image 0).addr) 0x10 ++ zeroBytes 8 ++
      (image 0x4D494D4B).read (hbmKey (((image 0x4D494D4B).image 0).addr + 0x18)) (((image 0x4D494D4B).image 0).size - 0x18) =
      (le 4 0x4D494D4B ++ [1, 0, 1, 0, 1] ++ le 19 0 ++ le 12 1) ++ le 32 0 ++ (le 8 0x100 ++ le 24 0) := by decide +kernel
  have h1 : (le 4 0x4D494D4B ++ [1, 0, 1, 0, 1] ++ le 19 0 ++ le 12 1).foldl crc64Byte (BitVec.allOnes 64) =
      0xCDF5CCD244393587#64 := by decide +kernel
  have h2 : (le 32 0).foldl crc64Byte 0xCDF5CCD244393587#64 = 0xEAEB54B3A36BC2EB#64 := by decide +kernel
  have h3 : (le 8 0x100 ++ le 24 0).foldl crc64Byte 0xEAEB54B3A36BC2EB#64 = 0x1FDDA918CCF9FB00#64 := by
    decide +kernel
  unfold State.imageDigest
  have key (a b c : List Byte) (i : Word) : (a ++ b ++ c).foldl crc64Byte i =
      c.foldl crc64Byte (b.foldl crc64Byte (a.foldl crc64Byte i)) := by simp only [List.foldl_append]
  rw [h, crc64, key, h1, h2, h3]
  decide +kernel

theorem witness_good_image : (image 0x4D494D4B).loadError 0 0 0 .ok = 0 := by
  simp only [State.loadError, test_image_digest]
  decide +kernel

/-- GO with and without a load in progress; a good image, one of another magic, one of poisoned bytes and one past HBM. -/
theorem witness_images :
    let s := image 0x4D494D4B
    let bad := image 0x4D494D4C
    let busy := s.setF F.CORE_LOAD_STATUS_STATE 1 0 0
    let poison := s.poisonAt 0 1
    let x := demo 0
    (s.f F.CORE_LOAD_STATUS_STATE 0 0 ≠ 1 ∧ busy.f F.CORE_LOAD_STATUS_STATE 0 0 = 1 ∧ (s.ctx 0 0).load = some 0) ∧
    (s.poisoned 0 (s.image 0).size = false ∧ (s.image 0).size ≤ 0x12000000000 ∧ State.reset.occupied 0 0 = false) ∧
    ((bad.image 0).magic ≠ 0x4D494D4B ∧ bad.loadError 0 0 0 .ok = 1 ∧ poison.poisoned 0 (poison.image 0).size = true) ∧
    ((x.setCtx 0 0 { x.ctx 0 0 with phase := .loaded }).running 0 0 = false ∧ x.occupied 0 0 = true ∧ x.running 0 0 = true) :=
  by decide +kernel

/-- A context that is loaded, one that runs and one that is empty. -/
theorem witness_block_table :
    let s := demo 0
    let x := s.setCtx 0 0 { s.ctx 0 0 with phase := .loaded }
    (x.occupied 0 0 = true ∧ x.running 0 0 = false ∧ x.f F.CORE_BT_INDEX_BLOCK 0 0 < (x.ctx 0 0).blocks.length) ∧
    (s.occupied 0 0 = true ∧ s.running 0 0 = true) ∧ State.reset.occupied 0 0 = false := by decide +kernel

/-! ### Page pools, loans and the network -/

/-- Pool 0 holds its allocation words at 0x21000 and a valid segment of 4 pages, ready with 2 of them free. -/
def pool : State :=
  let s := (((demo 0).setF F.KV_POOL_CFG_ENABLE 1 0).setF F.KV_POOL_CB_ADDR 0x21000 0).setF F.KV_SEG_CTL_VALID 1 0 0
  let s := ((s.setF F.KV_SEG_CTL_PAGES 4 0 0).setF F.KV_SEG_CNT_ADDR 0x22000 0 0).setF F.KV_SEG_RING_ADDR 0x23000 0 0
  (s.setF F.KV_SEG_STATUS_READY 1 0 0).setF F.KV_SEG_STATUS_FREE 2 0 0

/-- Count words of a referenced page and of a free one, one that overflows; pages to take and none; an initialisation. -/
theorem witness_pages :
    let s := pool.writeN 0x22000 8 1
    let max := pool.writeN 0x22000 8 (2 ^ 32 - 1)
    let none' := s.setF F.KV_SEG_STATUS_FREE 0 0 0
    let init := s.setSeg 0 0 { init := true }
    (s.segOk 0 0 = true ∧ 0 < s.segPages 0 0 ∧ 3 < s.segPages 0 0 ∧ s.f F.KV_SEG_CNT_ADDR 0 0 = 0x22000) ∧
    (leNat s 0x22000 8 = 1 ∧ leNat s 0x22008 8 = 0 ∧ leNat max 0x22000 8 = 2 ^ 32 - 1) ∧
    (s.poolOn 0 = true ∧ s.fb F.KV_SEG_STATUS_READY 0 0 = true ∧ s.f F.KV_SEG_STATUS_FREE 0 0 = 2 ∧
      none'.f F.KV_SEG_STATUS_FREE 0 0 = 0) ∧
    ((s.seg 0 0).init = false ∧ (init.seg 0 0).init = true ∧ init.segOk 0 0 = true ∧ pool.segOk 0 1 = false) := by decide +kernel

/-- Two send flows to node 1: of flow 2 a read request waits for its response and a packet for its ACK, of flow 4 a packet
waits to be sent. -/
def sends : SMap Nat (Option SFlow) :=
  [(2, some { key := { cls := .control, node := 1 }, tx := { unacked := [{ pkt := { type := 0 } }] }, rx := { due := 1 },
              reads := [(7, 0, { op := .scalar 0 0 })] }),
   (4, some { key := { cls := .dma, node := 1 }, tx := { queue := [{ pkt := { dstNode := 1 } }], limit := 8 } }),
   (5, some { key := { cls := .dma, node := 1, core := 1 } })]

/-- This module is node 0 with address 5; node 1 of the table has address 9 and link 3, which is up. The 64 KiB of pool's words
are lent to node 1; a loan of node 1 is asked for, and one is held; counter 5 is a home and counter 6 takes its releases from
node 1; message queue 0 of context 0 on core 0 is open; the receive flow of node 1's packets is at its start. -/
def net : State :=
  let s := ((pool.setF F.NET_ADDR_HI_ADDR 5).setF F.NET_NODE_CNT_COUNT 2).setF F.NET_NODE_TBL_BASE 0x100000
  let s := ((s.setF F.NET_LINK_STATUS_STATE 2 3).setF F.NET_PORT_CFG_ENABLE 1 0).setF F.NET_PORT_CFG_MODE 2 0
  let s := ((s.setF F.PLC_LEND_CTL_STATE 3 0).setF F.PLC_LEND_CTL_BORROWER 1 0).setF F.PLC_LEND_BASE_LOCAL_BASE 0x20000 0
  let s := ((s.setF F.PLC_LEND_SIZE_SIZE 0x10000 0).setF F.PLC_BOR_CTL_LENDER 1 0).setF F.PLC_BOR_CTL_STATE 1 0
  let s := ((s.setF F.PLC_BOR_SIZE_SIZE 0x10000 0).setF F.PLC_BOR_CTL_LENDER 1 1).setF F.PLC_BOR_CTL_STATE 3 1
  let s := ((s.setF F.COL_CTR_CFG_HOME 1 5).setF F.COL_CTR_CFG_XMOD 1 6).setF F.COL_CTR_CFG_COUNT 1 6
  let s := ((s.setF F.COL_CTR_HOME_HOME_NODE 1 6).setF F.COL_CTR_HOME_HOME_PHYS 6 6).setF F.COL_XLATE_VALID 1 0 0
  let s := ((s.setF F.COL_XLATE_PHYS 6 0 0).setF F.COL_MQ_CFG_ENABLE 1 0 0 0).setF F.COL_CTR_STATE_DONE0 1 6
  let s := ((s.writeN (s.nodeKey 1 0) 16 9).writeN (s.nodeKey 1 0x10) 8 8).writeN (s.nodeKey 1 0x18) 1 1
  let s := s.setCore 0 { s.core 0 with
    slots := [{ seq := 0, who := ⟨0, 0, 0, 0, 0⟩, acc := .load 8 false, rd := 4, addr := 0, loc := .remote 1 0, tgt := .node 1 }] }
  { s with rflows := [{ node := 1, flow := 2, epoch := 0 }], colHist := [(5, [(0, true)])], sflows := sends }

/-- A packet from node 1 on link 3, with its checksum. -/
def fromPeer (p : Packet) : Packet :=
  let p : Packet := { p with good := true, link := 3, srcIp := 9, dstIp := 5, srcNode := 1, dstCore := 0, flow := 2 }
  { p with pcrc := packetCrc p }

theorem witness_arrives (p : Packet) (h : badType (fromPeer p) = false) : Arrives net (fromPeer p) := by
  have hs : (net.nodeKnown 1 && net.nodeAddr 1 == 9) = true := by decide +kernel
  have hl : net.linkUp 3 = true := by decide +kernel
  have ha : net.netAddr = 5 := by decide +kernel
  refine ⟨hl, ?_, ha.symm, h, hs⟩
  simp only [crcBad, fromPeer, Bool.not_true, Bool.false_or]
  exact bne_self_eq_false _

theorem witness_in_order (p : Packet) (h : badType (fromPeer p) = false) (he : p.epoch = 0) (hp : p.psn = 0) :
    InOrder net (fromPeer p) { node := 1, flow := 2, epoch := 0 } := by
  have hr : net.rflow 1 2 = some { node := 1, flow := 2, epoch := 0 } := by decide +kernel
  refine ⟨witness_arrives p h, hr, he.symm, hp.symm, ?_, rfl⟩
  show p.psn < 2 ^ 32
  omega

/-- WRITE to lent bytes, to protected ones and to others; READ_REQ; ATOMIC_REQ, on a mirrored word too; MSG, to a full queue too;
each with its flow in order; the packet after the next one; a flow that may send its response, and one whose sixteenth packet
this is. -/
theorem witness_requests :
    let ty (n : Nat) : Packet := fromPeer { type := n, addr := 0x20000, aux := 8 }
    ((ty 0).type = 0 ∧ (ty 1).type = 1 ∧ (ty 3).type = 3 ∧ (ty 5).type = 5) ∧
    [0, 1, 3, 5].all (fun n => !badType (ty n) && decide ((ty n).psn = 0) && decide ((ty n).epoch = 0)) = true ∧
    (net.lentTo 1 0x20000 8 = true ∧ net.kvProtected 0x20000 8 = false ∧ net.kvProtected 0x21000 8 = true ∧
      net.lentTo 1 0x21000 8 = true) ∧
    (net.lentTo 1 0x50000 8 = false ∧ 8 ≤ net.payloadMax ∧ net.mirrored 0x20000 8 = false ∧ net.poisoned 0x20000 8 = false) ∧
    ((net.countWordAt 0x20000).isNone = true ∧ (net.allocWordAt 0x20000).isNone = true ∧ net.occupied 0 0 = true ∧
      net.coreOk 0 = true) ∧
    (net.fb F.COL_MQ_CFG_ENABLE 0 0 0 = true ∧ net.f F.COL_MQ_STATE_COUNT 0 0 0 ≤ net.f F.COL_MQ_CFG_SLOTS_M1 0 0 0 ∧
      ¬(net.setF F.COL_MQ_STATE_COUNT 9 0 0 0).f F.COL_MQ_STATE_COUNT 0 0 0 ≤ net.f F.COL_MQ_CFG_SLOTS_M1 0 0 0) ∧
    (let m := (net.setF F.NET_MIR_CTL_VALID 1 0).setF F.NET_MIR_SIZE_SIZE (2 ^ 20) 0
     m.mirrored 0x20000 8 = true ∧ net.paused = [] ∧ (ty 3).swap = none) ∧
    (let t : Tx := { limit := 8 }
     t.maySend false = true ∧ ({ due := 15 } : Rx).due = 15 ∧ net.reorder 0 + 48 + 0 ≤ 4 * 2 ^ 20 ∧
      (fromPeer { psn := 1 }).psn = (0 + 1) % 2 ^ 32 ∧ badType (fromPeer { psn := 1 }) = false) := by
  decide +kernel

/-- The control packets: their types; an arrival for a home and for no home; the counter of a release, its name and its round;
the released round of a query; loans asked for, held, granted and lent; FLOW_CLOSE of its own flow and of another; a hop whose
forward does not wait. -/
theorem witness_control :
    let c (sub : Nat) : Packet := fromPeer { type := 7, addr := sub, payload := le 24 5 }
    [1, 2, 3, 4, 5, 6, 7, 8].all (fun n => !badType (c n) && decide ((c n).type = 7) && decide ((c n).addr % 256 = n)) = true ∧
    (body (c 1) = 5 ∧ net.fb F.COL_CTR_CFG_HOME 5 = true ∧ net.f F.COL_CTR_STATE_ROUND 5 = 0 ∧ net.fb F.COL_CTR_CFG_HOME 6 = false) ∧
    (net.releaseCtrs 1 6 = [6] ∧ net.fb F.COL_CTR_CFG_XMOD 6 = true ∧ net.colName 6 = some (0, 0) ∧
      net.f F.COL_CTR_STATE_C1 6 < net.f F.COL_CTR_CFG_COUNT 6) ∧
    (let past := net.setF F.COL_CTR_STATE_ROUND 1 5
     (SMap.get [] past.colHist 5).find? (fun e => e.1 = 0) = some (0, true) ∧ past.f F.COL_CTR_STATE_ROUND 5 = 1) ∧
    (SMap.get [] net.colHist 5 = [(0, true)] ∧ (net.sflow 2).map (·.key) = some { cls := .control, node := 1 } ∧ net.flowOf { cls := .control, node := 1 } = some 2 ∧
      ({ net with sflows := [] } : State).flowOf { cls := .control, node := 1 } = none) ∧
    (net.f F.PLC_BOR_CTL_STATE 0 = 1 ∧ net.granted = [] ∧ net.f F.PLC_BOR_BASE_REMOTE_BASE 0 = 0 ∧
      net.f F.PLC_BOR_SIZE_SIZE 0 = 0x10000) ∧
    (({ net with granted := [(0, none)] } : State).f F.PLC_BOR_CTL_LENDER 0 = 1 ∧
      body (fromPeer { type := 7, payload := le 8 2 }) % 8192 = (fromPeer {}).flow ∧ body (c 7) % 8192 ≠ (c 7).flow ∧ 2 ≤ net.f F.PLC_LEND_CTL_STATE 0 ∧
      net.f F.PLC_LEND_BASE_LOCAL_BASE 0 = 0x20000 ∧ (net.hop 0 0 5).wait = false) := by decide +kernel

/-- The flow of a response and of an ACK; packets for another node with and without hops left, and damaged ones; loans that end. -/
theorem witness_answers :
    let x : SFlow := ((net.sflow 2).getD { key := { cls := .dma, node := 0 } })
    let other (hop node : Nat) : Packet := { fromPeer { dstNode := node, hop := hop } with dstIp := 9 }
    (net.sflow 2 = some x ∧ x.key.node = 1 ∧ x.rx.next = 0 ∧ x.rx.held = [] ∧ x.closing = false) ∧
    (x.reads = [(7, 0, { op := .scalar 0 0 })] ∧ (net.core 0).slots.map (·.seq) = [0] ∧ x.tx.unacked.map (·.refs) = [[]]) ∧
    (badType (fromPeer { type := 2, tag := 7 }) = false ∧ badType (fromPeer { type := 4, tag := 7 }) = false ∧
      psnAfter 1 0 = true ∧ psnAfter 0 0 = false ∧ badType (fromPeer { type := 9, addr := 4 }) = false) ∧
    (net.linkUp 3 = true ∧ net.groupOf 9 = none ∧ net.nodeKnown 1 = true ∧ net.nodeKnown 0 = false) ∧
    (net.linkOf { other 3 1 with hop := 2 } = some 3 ∧ (other 3 1).dstIp ≠ net.netAddr ∧
      crcBad { fromPeer {} with good := false } = true ∧ badType (fromPeer { type := 10 }) = true) ∧
    (let held : State := { net.setF F.NET_PORT_CFG_PFC_EN 1 0 with paused := [0] }
     held.linkOf { other 3 1 with hop := 2 } = some 3 ∧ held.portHeld 3 = true ∧ net.portHeld 3 = false ∧
      ({ net with clk := { net.clk with running := true, tickTime := net.clk.now } } : State).atTick = true) ∧
    (net.f F.PLC_LEND_CTL_STATE 0 = 3 ∧ net.f F.PLC_LEND_END_END_FRAME 0 ≤ net.clk.frame ∧
      net.f F.PLC_BOR_CTL_STATE 1 = 3 ∧ net.f F.PLC_BOR_END_END_FRAME 1 ≤ net.clk.frame) := by decide +kernel

/-- Flows that send, acknowledge, resend, give up, wait under RNR, time out and are idle; a counter that asks its home. -/
theorem witness_flows :
    let s : State := { net with clk := { net.clk with now := 10 ^ 9, frame := 2 ^ 32 } }
    let x : SFlow := ((s.sflow 2).getD { key := { cls := .dma, node := 0 } })
    let y : SFlow := ((s.sflow 4).getD { key := { cls := .dma, node := 0 } })
    let k : TxPkt := { pkt := { type := 0 } }
    (s.sflow 4 = some y ∧ y.tx.queue = [{ pkt := { dstNode := 1 } }] ∧ y.tx.unacked = [] ∧ psnAfter y.tx.limit y.tx.next = true) ∧
    (s.linkOf { dstNode := 1, flow := 4, first := true } = some 3 ∧ s.portHeld 3 = false ∧
      s.sflow 2 = some x ∧ 0 < x.rx.due) ∧
    (x.rx.dueAt + 200 ≤ s.clk.now ∧ s.rflows[8192 - 8192]? = some { node := 1, flow := 2, epoch := 0 } ∧
      s.rflow 1 2 = some { node := 1, flow := 2, epoch := 0 } ∧ x.tx.unacked = [k]) ∧
    (k.rnr = false ∧ k.sent + s.f F.NET_TIMERS_RTO ≤ s.clk.now ∧ k.tries < s.f F.NET_TIMERS_RETRY ∧
      s.f F.NET_TIMERS_RETRY ≤ ({ k with tries := 9 } : TxPkt).tries) ∧
    (k.sent + s.f F.NET_TIMERS_RNR ≤ s.clk.now ∧ 0 + s.f F.NET_CPL_TIMEOUT_TIME ≤ s.clk.now ∧
      2 * s.f F.NET_REL_POLL_FLOW_IDLE ≤ s.clk.frame ∧ s.f F.NET_REL_POLL_TIME ≤ s.clk.now) ∧
    (s.flowWait = [] ∧ s.flowOf { cls := .control, node := 1 } = some 2 ∧
      (s.sflow 5).all (fun x => x.tx.queue.isEmpty && x.tx.unacked.isEmpty && x.reads.isEmpty && x.key.cls == .dma) = true) ∧
    (s.fb F.COL_CTR_STATE_DONE0 6 = true ∧ s.fb F.COL_CTR_CFG_XMOD 6 = true ∧ s.f F.COL_CTR_HOME_HOME_NODE 6 ≠ s.f F.NET_NODE_ID_ID ∧
      s.fb F.COL_CTR_STATE_DONE1 6 = false) := by decide +kernel

/-- A configured link in each state, lanes of it, a link out of the up state too long, a port with PFC. -/
theorem witness_links :
    let down := net.setF F.NET_LINK_STATUS_STATE 0 3
    let lost : State := { net with linkDown := [(3, some 0)], clk := { net.clk with now := 10 ^ 7 + 1 } }
    let pfc := net.setF F.NET_PORT_CFG_PFC_EN 1 0
    (net.linkThere 3 = true ∧ net.f F.NET_LINK_STATUS_STATE 3 = 2 ∧ down.f F.NET_LINK_STATUS_STATE 3 = 0 ∧ down.linkThere 3 = true) ∧
    (net.f F.NET_PORT_LANES_LOS 0 = 0 ∧ BitVec.ofNat 8 (2 ^ 7) &&& BitVec.ofNat 8 (net.linkLanes 3) ≠ 0#8) ∧
    (SMap.get none lost.linkDown 3 = some 0 ∧ lost.linkThere 3 = true ∧ net.portHeld 3 = false ∧ 0 + 10000000 < lost.clk.now) ∧
    (pfc.fb F.NET_PORT_CFG_PFC_EN 0 = true ∧ net.fb F.NET_PORT_CFG_PFC_EN 0 = false) := by decide +kernel

/-! ### Power lending and the step transaction -/

/-- Lending is enabled on die 0: core 0 is idle at a col, core 1 has a step, and its die's pool has 4 of which 2 are borrowed. -/
def lend : State :=
  let s := (((demo 0).setStrand 0 0 0 {}).setF F.COL_LEND_CFG_EN 1 0).setF F.COL_LEND_CFG_GRANT 4 0
  let s := ((s.setF F.COL_LEND_CFG_COST 2 0).setF F.COL_LEND_CFG_MAX_STEPS 4 0).setF F.COL_LEND_STAT_POOL 4 0
  let s := (s.setF F.COL_LEND_STAT_BORROWED 2 0).setF F.COL_CORE_BOOST_STEPS 1 1
  { s with waits := [((0, 0), [⟨0, 0, .token 0⟩])] }

/-- Lending on and off, and at a lower clock; a core idle at a col, a busy one with no other, and one that is not busy; a lender
that wakes, with its grant covered and not; a configuration that is taken and one that is not. -/
theorem witness_lending :
    let busy : State := { lend with cycles := { occupied := [(2, 90)] }, clk := { lend.clk with now := 100 } }
    let one := busy.setF F.COL_CORE_BOOST_STEPS 0 1
    let wake (pool : Nat) : State := { (lend.setF F.COL_CORE_BOOST_LENDING 1 0).setF F.COL_LEND_STAT_POOL pool 0 with waits := [] }
    let bad (v : Word) : Prop := v.toNat / 2 ^ 8 % 256 = 0 ∨ v.toNat / 2 ^ 16 % 16 = 0 ∨ 12 < v.toNat / 2 ^ 24 % 16
    (2500 ≤ lend.f F.PWR_STATUS_CLK ∧ (lend.setF F.PWR_STATUS_CLK 2475).f F.PWR_STATUS_CLK < 2500) ∧
    (lend.fb F.COL_LEND_CFG_EN 0 = true ∧ lend.fb F.COL_LEND_CFG_EN 1 = false ∧ lend.idleAtCol 0 = true ∧ lend.idleAtCol 1 = false) ∧
    (busy.lendBusy 2 = true ∧ busy.lendBusy 1 = false ∧ one.lendBusy 2 = true ∧
      (SMap.get 0 one.cycles.occupied 2 = 90 ∧ 9 * (one.clk.now - SMap.get 0 one.lendAt 0) ≤ 10 * 90) ∧
      ((one.dieCores 0).all fun h => h == 2 || (one.boost h == 0 && !one.lendBusy h)) = true) ∧
    ((wake 4).lending 0 = true ∧ (wake 4).idleAtCol 0 = false ∧ (wake 4).f F.COL_LEND_STAT_BORROWED 0 = 2 ∧
      (wake 6).f F.COL_LEND_STAT_POOL 0 - (wake 6).f F.COL_LEND_CFG_GRANT 0 = 2) ∧
    (0 < (wake 4).boost 1 ∧ ((wake 4).dieCores 0).all (fun j => decide ((wake 4).boost j < 1) || decide (j ≤ 1)) = true ∧
      (wake 4).f F.COL_LEND_STAT_BORROWED 0 - (wake 4).f F.COL_LEND_CFG_COST 0 ≤ 0) ∧
    (¬bad 0x0C010101#64 ∧ bad 0#64 ∧ bad 0x0D010101#64) := by decide +kernel

/-- Context 0's step in a state, its one voter core 0, which knows its commit col. -/
def stepAt (st : Nat) : State :=
  let s := ((demo 0).setF F.TRN_STEP_STATE_STATE st 0).setF F.TRN_VOTERS_CORES 1 0 0
  let s := ((s.setF F.COL_XLATE_VALID 1 0 0).setF F.COL_XLATE_KIND 1 0 0).setF F.COL_XLATE_PHYS 0 0 0
  s.setTrn 0 { s.trnOf 0 with eff := (trnHeld 0).map (fun r => (r, s.reg r)) }

/-- A step that is open, undecided and idle; before and after its voter's vote; ready for a forced commit and not; at its
limit. -/
theorem witness_steps :
    let voted := (stepAt 1).setTrn 0 { (stepAt 1).trnOf 0 with voted := [0] }
    let ready := (stepAt 3).setF F.TRN_STEP_STATE_VOTED 1 0
    let rel : State := { stepAt 1 with colRels := [⟨0, 0, 0, 0, 0, true⟩], waits := [((0, 0), [⟨0, 0, .vote⟩])] }
    let late : State :=
      { stepAt 1 with clk := { (stepAt 1).clk with running := true, frame := (stepAt 1).trnF F.TRN_STEP_LIMIT_LIMIT 0 } }
    ((stepAt 0).f F.TRN_STEP_STATE_STATE 0 = 0 ∧ (stepAt 1).f F.TRN_STEP_STATE_STATE 0 = 1 ∧ (stepAt 3).f F.TRN_STEP_STATE_STATE 0 = 3) ∧
    (let halt := (stepAt 1).setF F.CORE_CTX_HALT_HALTED 1 0
     let vote : State := { stepAt 1 with colEnts := [{ g := 0, phys := 0, tag := 0, flag := false }] }
     halt.halted 0 = true ∧ halt.f F.TRN_STEP_STATE_STATE 0 = 1 ∧ vote.colName 0 = some (0, 0) ∧
      vote.f F.COL_CTR_STATE_ROUND 0 = 0 ∧ (vote.setF F.COL_CTR_CFG_COUNT 1 0).f F.COL_CTR_CFG_COUNT 0 = 1) ∧
    ((stepAt 1).halted 0 = false ∧ (List.range 256).filter ((stepAt 1).isVoter 0) = [0] ∧ (stepAt 1).trnF F.TRN_STEP_CFG_COMMIT_COL 0 = 0) ∧
    (ColKnown (stepAt 1) 0 0 0 1 ∧ 0 ∉ ((stepAt 1).trnOf 0).voted ∧ 0 ∈ (voted.trnOf 0).voted) ∧
    (rel.colRels[0]? = some ⟨0, 0, 0, 0, 0, true⟩ ∧ rel.waitsOf 0 0 = [⟨0, 0, .vote⟩]) ∧
    (ready.fb F.TRN_STEP_STATE_VOTED 0 = true ∧ ready.fb F.TRN_STEP_STATE_FLAG 0 = false ∧ (stepAt 3).fb F.TRN_STEP_STATE_VOTED 0 = false) ∧
    (late.atTick = true ∧ late.clk.frame = late.trnF F.TRN_VOTE_FRAME_FRAME 0 + late.trnF F.TRN_STEP_LIMIT_LIMIT 0) := by
  unfold ColKnown; decide +kernel

/-- No marks tie while no step is open. -/
theorem witness_no_tied_marks (c : Nat) : (State.reset.framePhase c).2 = State.reset := by
  have h0 : State.reset.f F.TRN_STEP_STATE_STATE c = 0 := by
    show bits (BitVec.ofNat 64 (resetWord RegName.TRN_STEP_STATE.info.fields)) 0 3 = 0
    decide
  have h : State.reset.stepOpen c = false := by simp [State.stepOpen, State.stepState, h0]
  simp only [State.framePhase, h, Bool.false_eq_true, if_false, List.filter_nil]

/-! ### Transactions, registers, host windows and rings -/

/-- Owner 0's transaction in each state, with and without a staged register; one that owner 1 has staged; one past its time. -/
theorem witness_transactions :
    let s := State.reset.setF F.TXN_STATUS_STATE 1 0
    let r : Reg := ⟨.FRM_PERIOD, 0, 0, 0⟩
    let mine := s.setTxn 0 { s.txn 0 with staged := [(r, 5)] }
    let other := (s.setF F.TXN_STATUS_STATE 1 1).setTxn 1 { s.txn 1 with staged := [(r, 5)] }
    let late : State := { s with clk := { s.clk with running := true, frame := 2 ^ 40 } }
    (State.reset.f F.TXN_STATUS_STATE 0 = 0 ∧ s.f F.TXN_STATUS_STATE 0 = 1 ∧ (s.setF F.TXN_STATUS_STATE 2 0).f F.TXN_STATUS_STATE 0 = 2) ∧
    (late.f F.TXN_OPEN_FRAME_FRAME 0 + (late.txn 0).timeout ≤ late.clk.frame ∧ late.atTick = true) ∧
    (regAt 8 = some r ∧ r.name.hasRt = true ∧ s.regThere r = true ∧ s.dark = false ∧
      regAt 0x1010018 = some ⟨.CORE_SLOT_STAT, 0, 0, 0⟩ ∧ s.coreOk 0 = true) ∧
    ((r, 5) ∈ (mine.txn 0).staged ∧ (other.txn 0).staged = [] ∧ (r, 5) ∈ (other.txn 1).staged ∧ other.f F.TXN_STATUS_STATE 1 ≠ 0) ∧
    (regAt 64 = some ⟨.FRM_SYNC_LIMIT, 0, 0, 0⟩ ∧ .FRM_SYNC_LIMIT ∈ plainRegs ∧ regAt 72 = some ⟨.FRM_EVENT, 0, 0, 0⟩ ∧
      eventInfo .FRM_EVENT ≠ none) ∧
    ((List.range 1000).any (fun i => (regAt (8 * i)).isNone) = true ∧ s.regThere ⟨.FRM_EVENT, 0, 0, 0⟩ = true) := by decide +kernel

/-- Ring 0 of context 0 is enabled on port 0, which may master the bus, with one entry of an operation, length and argument. -/
def hostRing : State :=
  let s := ((((demo 0).setF F.HIF_CR_CFG_ENABLE 1 0 0).setF F.HIF_LINK_BME 1 0).setF F.HIF_CR_CFG_LOG2 4 0 0).setF F.HIF_CC_CFG_LOG2 4 0 0
  let s := ((s.setF F.HIF_FETCH_LEAD_LEAD 10).setF F.HIF_RING_HDR_ADDR 1 0 0).setF F.COL_MQ_CFG_ENABLE 1 0 0 0
  let s := s.writeN (s.hdrKey 0 0 0) 4 1
  { s with clk := { s.clk with running := true, now := s.f F.FRM_PERIOD_PERIOD - 5 } }

/-- An entry. -/
def ent (op len arg : Nat) : Entry := ⟨le 1 op ++ le 1 0 ++ le 2 len ++ le 4 0 ++ le 8 arg ++ List.replicate 48 0⟩

/-- HBM of a protected range and of none; a ring to be fetched and one fetched; a good and a bad entry of each operation; a
request past its deadline. -/
theorem witness_host :
    let credit := hostRing.setSvc 0 { hostRing.svc 0 with credit0 := 1 }
    let late := (hostRing.setF F.FRM_IN_DEADLINE_FRAMES 2 0).setSvc 0 { hostRing.svc 0 with queue := [{ port := 0, frame := 0, bytes := [] }] }
    let late : State := { late with clk := { late.clk with frame := 3 } }
    (net.aptShut 0x100000 8 = true ∧ net.aptShut 0x20000 8 = true ∧ net.aptShut 0x50000 8 = false ∧ net.kvProtected 0x50000 8 = false) ∧
    (let up := net.setF F.HIF_BOOT_STATE 1
     ({ up with perst := [0] } : State).fnReady 0 = true ∧ up.fnReady 0 = false ∧
      ({ hostRing with clk := { hostRing.clk with now := 0 } } : State).atTick = true ∧ hostRing.atTick = false) ∧
    (hostRing.ringOn 0 0 = true ∧ State.reset.ringOn 0 0 = false ∧ hostRing.bme 0 = true ∧ hostRing.fetchBound 0 0 = 1) ∧
    (hostRing.clk.tickTime + hostRing.f F.FRM_PERIOD_PERIOD ≤
        hostRing.clk.now + Min.min (hostRing.f F.HIF_FETCH_LEAD_LEAD) (hostRing.f F.FRM_PERIOD_PERIOD / 2) ∧ (hostRing.svc 0).fetched = []) ∧
    ([(0, 0, 0), (1, 8, 0), (2, 8, 0), (3, 0, 2 ^ 16)].all (fun x => hostRing.entryOk (ent x.1 x.2.1 x.2.2).bytes &&
      entryN (ent x.1 x.2.1 x.2.2).bytes 0 1 == x.1 && !hostRing.entryOk (ent x.1 49 x.2.2).bytes) = true) ∧
    ((hostRing.svc 0).credit0 = 0 ∧ (credit.svc 0).credit0 ≠ 0 ∧ hostRing.occupied 0 0 = true ∧
      (hostRing.setF F.CORE_TOKEN_COUNT 4095 0 0 30).f F.CORE_TOKEN_COUNT 0 0 30 + 1 > 4095) ∧
    (late.halted 0 = false ∧ ({ late with clk := { late.clk with now := 0 } } : State).atTick = true ∧ late.f F.FRM_IN_DEADLINE_FRAMES 0 < late.clk.frame - 0 ∧
      (late.svc 0).queue = [{ port := 0, frame := 0, bytes := [] }]) := by decide +kernel

/-! ### Start-up, reset and the steward -/

/-- The package off with standby power, without it, and without input. -/
def off (standby input en : Bool) : State :=
  { State.reset with pwr := { State.reset.pwr with off := true, standby := standby, input := input, en := en } }

/-- FW_WRITE has written 0 over the magic number of every slot: no image verifies. -/
def noImage : State :=
  { State.reset with
    stw := { State.reset.stw with fw := (List.range 24).map (fun n => (n / 4 * 2 ^ 26 + n % 4, some 0)) } }

/-- Package states of the starts and resets; sources that may reset and one that may not; images that are loaded again and
that are not; ports that are up, dark and held; a port that may train, at a rate and width that exist. (Whether an image verifies
rests on the opaque public keys of Config; that none does can be shown.) -/
theorem witness_starts :
    let up : State := { State.reset.setF F.HIF_BOOT_STATE 1 with perst := [0] }
    let copied : State := { State.reset with stw := { State.reset.stw with running := [(2, some (0, []))] } }
    ((off true true false).pwr.off = true ∧ (off true true false).pwr.standby = true ∧ (off true true false).pwr.en = false ∧
      (off true true false).f F.HIF_BOOT_FAIL ≠ 1) ∧
    ((off false false true).pwr.input = false ∧ State.reset.pwr.en = true ∧ State.reset.pwr.off = false ∧ State.reset.pwr.sd = none) ∧
    (noImage.fwVerify 1 0 = 1 ∧ noImage.fwVerify 1 1 = 1 ∧ noImage.fwVerify 3 0 = 1 ∧ noImage.fwVerify 3 1 = 1) ∧
    (State.reset.authorised 0 = true ∧ State.reset.authorised 2 = true ∧ State.reset.authorised 1 = false ∧ State.reset.stw.marked = []) ∧
    ((copied.fwCopy 2).isSome = true ∧ copied.stw.marked = [] ∧ (noImage.fwCopy 3).isSome = false) ∧
    (up.dark = false ∧ (off true true false).dark = true ∧ PortReset.linkDown ≠ .perst) ∧
    (up.f F.HIF_BOOT_STATE = 1 ∧ 0 ∈ up.perst ∧ up.fb F.HIF_LINK_UP 0 = false ∧ (⟨3, 4, false, false, 0⟩ : PcieEnd).ok = true ∧
      (⟨7, 4, true, false, 0⟩ : PcieEnd).ok = false ∧ (up.setF F.TXN_STATUS_STATE 1 0).f F.TXN_STATUS_STATE 0 ≠ 0) := by
  decide +kernel

theorem witness_no_start : ¬Starts noImage 1 ∧ ¬Starts noImage 2 ∧ ¬Starts noImage 3 := by
  unfold Starts; decide +kernel

/-- The steward hears SMBus at its address and no other; a mailbox that holds a command of its code, and one that is not due; a
source that may not reset; requests of each size; a command that waits behind a mailbox's, and one behind a transaction. -/
theorem witness_steward :
    let s := State.reset.setF F.HIF_BOOT_STATE 1
    let box : State := { (s.setF F.HIF_MBX_LEN 2 0).write (mbxKey 0 0) [1, 7] with stw := { s.stw with jobs := [.mailbox 0] } }
    let busy := s.setF F.TXN_STATUS_STATE 1 2
    let sense : State := { s with stw := { s.stw with sensors := [(3, some 900)], cairn := [[1]], logSeq := 1, ran := [4] } }
    (stewardOps.map (·.1) = [1, 2, 3, 4, 5, 6, 7, 8, 9, 10]) ∧
    (Due s (.smbus 0x37) 1 ∧ s.hears (.smbus 0x38) = false ∧ (request s (.smbus 0x37) (List.replicate 32 0)).length < 4096 ∧
      s.hears (.port 5) = false ∧ Served s (.smbus 0x37) 9 [0] ∧ (s.setF F.HIF_BOOT_STATE 2).hears (.port 0) = false) ∧
    (Due box (.mailbox 0) 1 ∧ box.due 0 1 = true ∧ box.due 0 2 = false ∧ request box (.mailbox 0) [] = [7] ∧ Due s (.port 1) 9 ∧
      s.authorised (viaPort (.port 1)) = false) ∧
    (box.stw.jobs = [.mailbox 0] ∧ box.mbxCode 0 ≠ none ∧ box.hears (.smbus 0x37) = true) ∧
    (s.authorised (viaPort (.smbus 0x37)) = true ∧ viaPort (.port 1) = 1 ∧ 10 < (0x0B#8).toNat) ∧
    (SMap.get none sense.stw.sensors 3 = some 900 ∧ ofLE (le 22 8) = 2 ^ 3 ∧ sense.stw.cairn[sense.stw.logSeq - 1]? = some [1] ∧
      4 ∈ sense.stw.ran) ∧
    (busy.f F.TXN_STATUS_STATE 2 ≠ 0 ∧ s.f F.TXN_STATUS_STATE 2 = 0 ∧ busy.hears (.smbus 0x37) = true ∧ s.dark = false ∧
      s.pwr.sd = none) := by
  unfold Served Due; decide +kernel

/-! ### Self-test, errors and life records -/

/-- Errors that each unit can have: a word of the instruction store, an accumulator with totals, a total on its way, a buffered
burst, a spur operation; a memory that was corrected twice at an address before; a second bit of a failing row. -/
theorem witness_units :
    let s := State.reset.setF F.MTX_ACC_STATE_MODE0 1 2 3
    let spur4 : SOp := { seq := 4, who := ⟨0, 0, 0, 0, 0⟩, kind := .put, tok := false, addr := 0, parts := [], len := 1 }
    let d := s.setCore 2 { s.core 2 with bursts := [⟨9, 0, false, .data, 0, 0, 0, 0, .mem 0, 8, true, .reading, false, none, 1, 0, [], false, 0, 0⟩], spurq := [spur4] }
    let seen : State := { s with weak := [((5, 2 ^ 40), 3)], repairDue := [⟨0, s.physCore 0, 40, 1, 0⟩] }
    (s.pwr.off = false ∧ s.instrBad (istoreKey 0 8) = false ∧ s.accMode 2 3 0 ≠ 0 ∧ s.accBad 2 3 0 = false) ∧
    ((d.core 2).bursts.map (·.id) = [9] ∧ (d.core 2).spurq.map (·.seq) = [4]) ∧
    (SMap.get 0 seen.weak (5, 1 * 2 ^ 40) = 3 ∧ ∃ y ∈ seen.repairDue, y.kind = 0 ∧ y.phys = s.physCore 0 ∧ y.addr / 8 = 5 ∧ y.bit ≠ 2) ∧
    (s.ceAt = none ∧ s.pwr.pllOut = [] ∧ ∀ d ∈ ({ s.pwr with pllOut := [1] } : Power).pllOut, d = 1) := by decide +kernel

/-- A scrub of HBM that is on, at the end of a pass and at a poisoned word; a slice that may begin; a loop-back that may begin,
may not, and is over; a sensor out and in use; a clock that the grandmaster sets and one that it does not. -/
theorem witness_self_tests :
    let scrub : State := { State.reset.setF F.ERR_SCRUB_PERIOD 1 with scrubAt := hbmSize / 64 - 1 }
    let slice := ((State.reset.setF F.BIST_RT_CFG_EN 1).setF F.BIST_RT_CFG_MAX_PER_FRAME 1).setF F.BIST_RT_CFG_GROUPS_M1 0
    let loop : State := { State.reset with loopback := some ⟨0, 1, 0⟩ }
    let waits : State := { State.reset with stw := { State.reset.stw with jobs := [message (.smbus 0x37) 10 (le 10 336)] } }
    let busy := State.reset.setF F.BIST_LOOP_STAT_BUSY 1
    (scrub.f F.ERR_SCRUB_PERIOD ≠ 0 ∧ scrub.scrubAt + 1 = hbmSize / 64 ∧ scrub.poisoned (hbmKey (64 * scrub.scrubAt)) 1 = false ∧
      (State.reset.setF F.ERR_SCRUB_PERIOD 0).f F.ERR_SCRUB_PERIOD = 0) ∧
    (SliceMay slice 0 ∧ ¬SliceMay (slice.setF F.BIST_RT_CFG_EN 0) 0) ∧
    (bit (80#64) 6 = true ∧ bits (80#64) 4 2 = 1 ∧ State.reset.fb F.BIST_LOOP_STAT_BUSY = false ∧
      State.reset.fb F.NET_PORT_CFG_ENABLE 0 = false) ∧
    (busy.fb F.BIST_LOOP_STAT_BUSY = true ∧ loop.loopback = some ⟨0, 1, 0⟩ ∧ 0 ≤ loop.clk.now) ∧
    (waits.stw.jobs = [message (.smbus 0x37) 10 (le 10 336)] ∧ waits.f F.TXN_STATUS_STATE 2 = 0 ∧ ofLE ((le 10 336).take 2) ≤ 336) ∧
    (State.reset.stw.tsOut = [] ∧ State.reset.stw.vmOut = [] ∧ [(0, 5), (1, 6)].map (Prod.fst : Nat × Nat → Nat) = [0, 1]) ∧
    (State.reset.f F.FRM_SYNC_STATUS_STATE ≠ 2 ∧ (State.reset.setF F.FRM_SYNC_STATUS_STATE 2).f F.FRM_SYNC_STATUS_STATE = 2 ∧
      (State.reset.setF F.PWR_TEMP_TJ_EAST 85).f F.PWR_TEMP_TJ_EAST = 85) := by
  unfold SliceMay; decide +kernel

/-! ### Power, temperature and the orderly shutdown -/

/-- A package with a junction temperature, the throttle and the flow condition, at a clock. -/
def heat (tj clk : Nat) (throttle flow : Bool) : State :=
  let s := (State.reset.setF F.PWR_TEMP_TJ_EAST tj).setF F.PWR_STATUS_CLK clk
  { s with pwr := { s.pwr with throttle := throttle, flowLow := flow, samples := [17000000] } }

/-- Samples and means on each side of their limits, input voltages of each band, a trip by either limit. -/
theorem witness_input :
    (21000000 < 6000 * 3501 ∧ 6000 * 3000 ≤ 21000000) ∧
    (meanPower (heat 60 2400 false false) 10 ≤ limitNow (heat 60 2400 false false) ∧
      limitNow ((heat 60 2400 false false).setF F.PWR_LIMIT_LIMIT 1000) < meanPower (heat 60 2400 false false) 10) ∧
    ((heat 60 2400 false false).f F.PWR_STATUS_CLK < 2500 ∧ (heat 60 2400 false false).pwr.off = false ∧
      meanPower (heat 60 2400 false false) 1000 + (heat 60 2400 false false).f F.PWR_LIMIT_HYST * 10000 <
        limitNow (heat 60 2400 false false)) ∧
    (44000 ≤ 44000 ∧ 47999 < 48000 ∧ 48000 < 48001 ∧ 59000 < 59001) ∧
    (hotter (heat 115 2500 false false) = 115 ∧ 105 ≤ (State.reset.setF F.PWR_TEMP_HBM 105).f F.PWR_TEMP_HBM ∧
      hotter (heat 114 2500 false false) < 115) := by decide +kernel

/-- Temperatures at which the throttle starts, stays and ends, with and without it; extremes of a die on each side of 30 °C;
low and restored flow with every clock locked; each cause of a shutdown, with one pending and none, before and at the end of its notice. -/
theorem witness_temperature :
    let low : State := { State.reset with stw := { State.reset.stw with trough := [(0, some 40)], peak := [(0, some 80)] } }
    let shut (thermal restart : Bool) (due : Nat) : State :=
      { State.reset with pwr := { State.reset.pwr with sd := some ⟨thermal, restart, due⟩ } }
    (Hot (heat 100 2500 false false) ∧ Cool (heat 97 2500 true false) ∧ ¬Hot (heat 98 2500 true false) ∧ ¬Cool (heat 98 2500 true false)) ∧
    ((heat 100 2500 true false).pwr.throttle = true ∧ (heat 97 2500 true false).pwr.throttle = true ∧
      (heat 97 2500 false false).pwr.throttle = false ∧ State.reset.f F.PWR_THERM_CFG_WARN ≤ 95) ∧
    (SMap.get none low.stw.peak 0 = some 80 ∧ (50 + 30 ≤ 80 ∧ 80 < 51 + 30) ∧ SMap.get none low.stw.trough 0 = some 40 ∧
      SMap.get none low.stw.peak 1 = none) ∧
    ((heat 60 1200 false true).pwr.flowLow = true ∧ (heat 105 2500 false false).f F.PWR_TEMP_TJ_EAST = 105 ∧
      (heat 100 1200 true false).f F.PWR_STATUS_CLK = (heat 100 1200 true false).f F.PWR_CLK_MIN_MHZ ∧ 105 ≤ hotter (heat 105 2500 false false)) ∧
    (State.reset.pwr.pllOut = [] ∧ (heat 60 1200 false true).f F.PWR_FLOW_FLOW < 500 ∧ State.reset.pwr.sd = none ∧ State.reset.pwr.en = true ∧
      (off true true false).pwr.en = false) ∧
    ((shut false true 0).pwr.sd = some ⟨false, true, 0⟩ ∧ 0 ≤ (shut false true 0).clk.now ∧ (shut true false 1).clk.now < 1 ∧
      (State.reset.setF F.BIST_SD_CFG_EN 1).fb F.BIST_SD_CFG_EN = true) := by
  unfold Hot Cool; decide +kernel

/-! ### The whole machine -/

/-- A waiting command; an idle block that is off, one whose ticks do not run, and one before its next tick. -/
theorem witness_machine :
    let on : State := { State.reset with clk := { State.reset.clk with running := true } }
    ((({ State.reset with pending := [.frmTick] } : State)).pending = [.frmTick]) ∧
    ((off false false true).pending = [] ∧ (off false false true).pwr.off = true ∧ (off false false true).pwr.standby = false) ∧
    (on.pending = [] ∧ on.pwr.off = false ∧ on.clk.start = none ∧ on.clk.now + 1 < on.clk.tickTime + on.f F.FRM_PERIOD_PERIOD) := by
  decide +kernel

theorem witness_sound : State.reset.Sound := ⟨by decide, by decide, by decide⟩

/-- An SVN that stays. -/
theorem witness_svn : SMap.get 0 State.reset.stw.svn 1 ≤ SMap.get 0 State.reset.stw.svn 1 ∧ decodeTableWord 32 0 = none :=
  ⟨Nat.le_refl _, rfl⟩

/-! ### Worked examples of the specification -/

/-- A FP32 word converted to a format under a mode, with random bits. -/
def conv (f mode n r w : Nat) : Nat × Nat :=
  let x := encodeF (fmt f) ⟨mode, n, r⟩ (decodeF (fmt 1) w)
  (x.1, x.2.toNat)

/-- spec/04_formats.md, decoding E4M3 bytes: 288, 320, 448, NaN, a subnormal and −0. -/
theorem test_e4m3_bytes :
    [0x79, 0x7A, 0x7E, 0x7F, 0x84].map (decodeF (fmt 6)) =
      [.fin false 9 5, .fin false 10 5, .fin false 14 5, .nan false, .fin true 4 (-9)] ∧
    (decodeF (fmt 6) 0x80).isZero = true ∧ (decodeF (fmt 6) 0x80).isNeg = true := by decide +kernel

/-- spec/04_formats.md, the FP32 value 0x3FAA_B000 as K19: truncated, and to the even neighbour. -/
theorem test_k19 : conv 2 1 1 0 0x3FAAB000 = (0x1FD55, 0) ∧ conv 2 0 1 0 0x3FAAB000 = (0x1FD56, 0) := by decide +kernel

/-- spec/04_formats.md, 300.75 as E4M3 in every mode, and with the draws r = 153 and 154 of 8 bits, 9 and 10 of 4. -/
theorem test_e4m3_300_75 :
    [0, 1, 2, 3].map (fun m => conv 6 m 1 0 0x43966000) = [(0x79, 0), (0x79, 0), (0x7A, 0), (0x79, 0)] ∧
    [153, 154, 167].map (fun r => (conv 6 4 8 r 0x43966000).1) = [0x79, 0x7A, 0x7A] ∧
    [9, 10].map (fun r => (conv 6 4 4 r 0x43966000).1) = [0x79, 0x7A] ∧ (conv 6 4 8 167 0xC3966000).1 = 0xFA := by decide +kernel

/-- spec/04_formats.md, 470.0 as E4M3, E3M2 and E5M2. -/
theorem test_470 :
    [0, 1, 2, 3].map (fun m => conv 6 m 1 0 0x43EB0000) = [(0x7F, 1), (0x7E, 0), (0x7F, 1), (0x7E, 0)] ∧
    [79, 80].map (fun r => conv 6 4 8 r 0x43EB0000) = [(0x7E, 0), (0x7F, 1)] ∧
    [0, 1, 2, 3].map (fun m => conv 7 m 1 0 0x43EB0000) = [(0x1F, 1), (0x1F, 1), (0x1F, 1), (0x1F, 1)] ∧
    [0, 1, 2, 3].map (fun m => conv 5 m 1 0 0x43EB0000) = [(0x5F, 0), (0x5F, 0), (0x60, 0), (0x5F, 0)] := by decide +kernel

/-- spec/05_matrix_engine.md and spec/17_test_vectors.md: the chunks of an E4M3 and of a BF16 dot product, written as FP32. -/
theorem test_chunks :
    let out (f c n : Nat) (a b : Nat → Nat) : Nat :=
      let ps := (List.range (c * n)).map (fun k => (decodeF (fmt f) (a k), decodeF (fmt f) (b k)))
      (mwbElem 1 ((mmaFloat c n (none, {}) ps).1.getD 0) (decodeF (fmt 1) 0x3F800000) (fmt 1) {}).1
    out 6 32 2 (fun k => if k = 0 then 0x7E else if k < 32 then 0 else 0x20)
      (fun k => if k = 0 then 0x7E else if k < 32 then 0 else 0x18) = 0x48440010 ∧
    out 3 16 2 (fun k => if k = 0 then 0x4580 else 0x3F80) (fun k => if k = 0 then 0x4580 else 0x3F80) = 0x4B800008 := by
  decide +kernel

/-- spec/06_vector_and_update.md, the reciprocal seed of 3.0. -/
theorem test_reciprocal_seed : (encodeF (fmt 1) {} (rcpSeed (decodeF (fmt 1) 0x40400000)).1).1 = 0x3EAA0000 := by decide +kernel

/-- spec/07_tiers_and_tiles.md, the place of address 0x1_0000_0040, and the channel of the next granule. -/
theorem test_hbm_place :
    hbmBank 0x100000040 = (170, 0) ∧ hbmRow 0x100000040 = (0, 682, 576) ∧ (hbmBank 0x100000140).1 = 171 := by decide +kernel

/-- Signed zero in a vector add (spec/04_formats.md): −0 toward −∞, +0 otherwise. -/
theorem test_signed_zero :
    [0, 1, 2, 3, 4].map (fun m => (encodeF (fmt 3) ⟨m, 8, 0⟩ (addV m (decodeF (fmt 3) 0x3FC0) (decodeF (fmt 3) 0xBFC0)).1).1) =
      [0, 0, 0, 0x8000, 0] := by decide +kernel

/-! ### Premises of single clauses -/

/-- The issue slot of core 0 with three strands that can go on: strand 0 has it, has had it for 256 instructions; strand 1 had it, and
2 comes before 0. -/
theorem witness_issue_slot :
    let s := demo 0
    let s := (s.setStrand 0 0 1 (s.strand 0 0 0)).setStrand 0 0 2 (s.strand 0 0 0)
    let had (k n : Nat) : State := s.setCore 0 { s.core 0 with iss := { last := some (0, k), run := n } }
    let may (t : State) (k : Nat) : Bool := t.ready 0 0 k && t.able 0 0 k
    (may (had 0 5) 0 = true ∧ ((had 0 5).core 0).iss.last = some (0, 0) ∧ ((had 0 5).core 0).iss.run < 256 ∧
      (had 0 5).canIssue 0 0 0 = true) ∧
    (may (had 0 256) 1 = true ∧ 256 ≤ ((had 0 256).core 0).iss.run ∧ (had 0 256).canIssue 0 0 1 = true) ∧
    (may (had 1 256) 2 = true ∧ ((had 1 256).core 0).iss.last = some (0, 1) ∧ (had 1 256).canIssue 0 0 0 = false) := by decide +kernel

/-- A host access through a port that may not master the bus, of a context that is there and of one emptied since; a spur
operation likewise; an engine that finds a bad accumulator. -/
theorem witness_shut_and_gone :
    let r : Req := { seq := 0, who := ⟨0, 1, 0, 0, 0⟩, acc := .load 8 false, rd := 4, addr := 0, loc := .host 0 64, tgt := .port 0,
                     rsp := some { status := 0 } }
    let s := (demo 0).setCore 0 { (demo 0).core 0 with slots := [r] }
    let gone := s.setCtx 0 0 { s.ctx 0 0 with born := 1 }
    let o : SOp := { seq := 0, who := ⟨0, 0, 0, 0, 0⟩, kind := .put, tok := true, addr := 0, parts := [⟨.host 0 64, 0, 8, none⟩], len := 8 }
    ((s.core 0).slots[0]? = some r ∧ s.reqReady 0 r = true ∧ s.hostShut r.loc = true ∧ ¬CtxGone s 0 0 0 ∧ CtxGone gone 0 0 0) ∧
    (∃ p ∈ o.parts, s.hostShut p.loc = true) ∧ CtxGone State.reset 0 0 5 ∧
    (s.setF F.HIF_LINK_BME 1 0).hostShut r.loc = false ∧ ((0, 0, 0) ∈ ({ s with badAcc := [(0, 0, 0)] } : State).badAcc) := by
  unfold CtxGone; decide +kernel

/-- An operand of the vector engine that a started MWB writes; a bracket open, and closed, at an instruction. -/
theorem witness_engine_waits :
    let descs : List (Nat × Nat) := [(0xF8000001000, 128)]
    let y := mtx (ins 2 1 1 2 0 (4 * 2 ^ 35)) 0xF8000001000 0x3F8000003F800000 true
    let b : Bracket := { openSeq := 0, who := ⟨0, 0, 0, 0, 0⟩ }
    let s := (demo 0).setBracket 0 0 0 (some b)
    (y.1.streamsOk 0 0 descs = true ∧ ((y.1.keysOf 0 0 descs).any (fun r => y.1.mwbWrites 0 r)) = true) ∧
    (s.bracket 0 0 0 = some b ∧ b.openSeq < 1 ∧ ({ b with closeSeq := some 1 } : Bracket).closeSeq = some 1 ∧ (1 : Nat) ≤ 1) := by decide +kernel

/-- A demand burst of a stopping channel, and of a transfer with another source; a transfer of a context that was emptied. -/
theorem witness_stopping :
    let a := after (.dmaReadBurstIssue 0) (after (.shadowActivation 0 0) queued)
    let stop := (a.setF F.DMA_CH_STATUS_STATE 3 0 0).setChan 0 0 { a.chan 0 0 with act := (a.chan 0 0).act.map (fun x => { x with ending := 2 }) }
    let alt := a.setReg ⟨activeRegs.getD 7 .DMA_CH_SHD, 0, 0, 0⟩ 0xF8000004000
    (stop.chState 0 0 = 3 ∧ (stop.core 0).bursts.map (fun b => (b.next, b.demand, b.alt, b.ch)) = [(false, true, false, 0)] ∧
      (stop.core 0).bursts.map (·.st) = [.reading] ∧ (stop.chan 0 0).act.map (fun x => (Ends x 3).ending) = some 3) ∧
    ((stop.chan 0 0).act.map (fun x => (Ends { x with ending := 7 } 3).ending) = some 7 ∧ Resumed stop 0 0 = 3 ∧ Resumed a 0 0 = 1 ∧
      HeadOpen a 0 0) ∧
    ((alt.desc 0 0).aux ≠ 0 ∧ (alt.poisonAt (spadKey 0 4096) 1).poisoned (spadKey 0 4096) 256 = true) := by
  refine ⟨?_, ⟨?_, ?_, ?_, ?_⟩, ?_⟩
  · decide +kernel
  · decide +kernel
  · decide +kernel
  · decide +kernel
  · refine ⟨_, rfl, ?_, ?_⟩ <;> decide +kernel
  · decide +kernel

/-- All send flows used (l the numbers below 8,192), so that no control flow can open: the closing flow itself carries its FLOW_CLOSE. -/
theorem witness_flows_used (l : List Nat) (x : SFlow) (j : Nat) (h : j ∈ l) :
    ({ State.reset with sflows := l.map (fun j => (j, some x)) } : State).sflow j = some x := by
  show SMap.get none (l.map (fun j => (j, some x))) j = some x
  induction l with
  | nil => exact absurd h List.not_mem_nil
  | cons a l ih =>
    by_cases e : a = j
    · simp [SMap.get, e]
    · simp [SMap.get, e, ih ((List.mem_cons.mp h).resolve_left (Ne.symm e))]

end Sys2Proof.Tests
end

section
/-! PROOFS. The values right after cold reset. -/

namespace Sys2Proof.Machine

/-- The names whose Reset column is the numbers of the map's field table: those that `Reg.resetVal` gives no case of
their own. -/
def RegName.resetsByTable : RegName → Bool
  | .FRM_SCHED_A | .FRM_SCHED_B | .CORE_CTX_ISTORE | .CORE_ID | .HIF_BOOT | .BIST_REPAIR => false
  | _ => true

theorem Reg.resetVal_of_table (n : RegName) (i j k : Nat) (h : n.resetsByTable = true) :
    (⟨n, i, j, k⟩ : Reg).resetVal = BitVec.ofNat 64 (resetWord n.info.fields) := by
  unfold Reg.resetVal
  split
  case h_7 => rfl
  all_goals subst_vars; contradiction

@[simp] theorem State.reset_reg (r : Reg) : State.reset.reg r = r.resetVal := rfl

/-- A tabled register reads the word of its Reset column in every instance (R16). -/
theorem State.reset_reg_of_table {n : RegName} {w : Word} {i j k : Nat} (hn : n.resetsByTable = true)
    (hw : BitVec.ofNat 64 (resetWord n.info.fields) = w) : State.reset.reg ⟨n, i, j, k⟩ = w := by
  rw [State.reset_reg, Reg.resetVal_of_table n i j k hn, hw]

/-- A field of a tabled register reads its bits of that word. -/
theorem State.reset_f {x : Fld} {v i j k : Nat} (hx : x.reg.resetsByTable = true)
    (hv : bits (BitVec.ofNat 64 (resetWord x.reg.info.fields)) x.lo x.len = v) : State.reset.f x i j k = v := by
  rw [State.f, State.reset_reg_of_table hx rfl, hv]

/-- Schedule entries other than 0 hold code 7 for every ridge (R25). -/
theorem State.reset_schedule (i : Nat) :
    State.reset.reg ⟨.FRM_SCHED_A, i + 1, 0, 0⟩ = 0x7777777777777777 ∧
    State.reset.reg ⟨.FRM_SCHED_B, i + 1, 0, 0⟩ = 0x7777777777777777 := by
  simp [Reg.resetVal]

@[simp] theorem State.reset_ownerOf (g : Nat) : State.reset.ownerOf g = 0 := rfl

/-- The slot mask has the eight low slots of a ridge's nine active (R5; log entry 6). -/
theorem State.reset_active (r : Nat) : State.reset.f F.BIST_REPAIR_ACTIVE r = 0xff := by
  simp [State.f, Reg.resetVal, bits, bitsN]

theorem State.reset_coreOk (g : Nat) (h : g < 256) : State.reset.coreOk g = true := by
  have hslot : g % 8 < 8 := Nat.mod_lt g (by decide)
  simp [State.coreOk, State.reset_active, popCount, h, hslot]

@[simp] theorem State.reset_ctx (g c : Nat) : State.reset.ctx g c = {} := rfl
@[simp] theorem State.reset_strand (g c k : Nat) : State.reset.strand g c k = {} := rfl
@[simp] theorem State.reset_mem (a : Nat) : State.reset.mem.get a = 0 := rfl

/-- Settles O57: a tabled field reads its Reset column, and a sparse map that lists nothing reads its default. -/
theorem resetValues : Obligations.ResetValues := by
  refine ⟨State.reset_f rfl rfl, State.reset_f rfl rfl, State.reset_f rfl rfl, State.reset_f rfl rfl,
    State.reset_f rfl rfl, State.reset_f rfl rfl, State.reset_f rfl rfl, State.reset_f rfl rfl,
    State.reset_f rfl rfl, State.reset_f rfl rfl, State.reset_f rfl rfl,
    fun g hg => ⟨State.reset_ownerOf g, State.reset_coreOk g hg⟩, State.reset_schedule, ?context, ?dma, ?xlate, ?queue,
    ?phase, ?strand, State.reset_mem, rfl, rfl, rfl, rfl, rfl⟩
  case context =>
    exact fun c => ⟨State.reset_f rfl rfl, State.reset_f rfl rfl, State.reset_f rfl rfl, State.reset_f rfl rfl,
      State.reset_f rfl rfl⟩
  case dma => exact fun g ch => ⟨State.reset_f rfl rfl, State.reset_reg_of_table rfl rfl, State.reset_f rfl rfl⟩
  case xlate => exact fun c i => State.reset_f rfl rfl
  case queue => exact fun g c q => ⟨State.reset_f rfl rfl, State.reset_f rfl rfl⟩
  case phase =>
    intro g c
    rw [State.reset_ctx]
  case strand =>
    intro g c k
    rw [State.reset_strand]

end Sys2Proof.Machine
end

section
namespace Sys2Proof.Machine

/-! PROOFS. What every step keeps (R33, R368): a command by exec_next, an idle step by idle_next. -/

/-- Settles O58: memory and the list of poisoned granules are empty at reset, and the frame counter is 0. -/
theorem soundAtReset : Obligations.SoundAtReset := ⟨rfl, List.Pairwise.nil, Nat.two_pow_pos 64⟩

/-- A command taken from the queue leaves what `Sound` speaks of. -/
theorem State.Sound.dequeue {s : State} (h : s.Sound) (rest : List Instr) : ({ s with pending := rest } : State).Sound :=
  ⟨h.mem, h.poison, h.frame⟩

/-- Settles O59: a step is an idle step where no command waits, and the front command's otherwise. -/
theorem everyStepKeepsSound : Obligations.EveryStepKeepsSound := by
  intro s t hs hstep
  unfold step at hstep
  split at hstep
  next => exact (idle_next hstep).sound hs
  next i rest _ => exact (exec_next hstep).sound (hs.dequeue rest)

end Sys2Proof.Machine
end

section
/-! PROOFS. What an operation keeps: a part of the state beside the registers, and some fields of the registers. -/

namespace Sys2Proof.Machine

/-- A part of the state that holds no register, no pending vector and nothing sent. -/
def Blind {α : Type} (π : State → α) : Prop :=
  ∀ (s : State) (r : SMap Reg Word) (q : List (Nat × Nat)) (o : List Out),
    π { s with regs := r, msixPend := q, out := o } = π s

/-- Two fields share no bit of a register. -/
abbrev Fld.Apart (x y : Fld) : Prop := y.reg ≠ x.reg ∨ y.lo + y.len ≤ x.lo ∨ x.lo + x.len ≤ y.lo

/-- The fields of L that share no bit with x. -/
def Fld.beside (x : Fld) (L : List Fld) : List Fld := L.filter fun y => decide (x.Apart y)

/-- The fields of L in other registers than those named n. -/
def RegName.beside (n : RegName) (L : List Fld) : List Fld := L.filter fun y => decide (y.reg ≠ n)

theorem Fld.mem_beside {x y : Fld} {L : List Fld} : y ∈ x.beside L ↔ y ∈ L ∧ x.Apart y := by simp [Fld.beside]

theorem RegName.mem_beside {n : RegName} {y : Fld} {L : List Fld} : y ∈ n.beside L ↔ y ∈ L ∧ y.reg ≠ n := by
  simp [RegName.beside]

/-- t has the part π of the state, which is blind to the registers, and the fields L wherever they occur, as a has them. A write
of a field x takes x and what it overlaps out of L: for a listed L the difference computes. -/
structure Keeps {α : Type} (π : State → α) (a t : State) (L : List Fld) : Prop where
  blind : Blind π
  part : π t = π a
  field : ∀ y ∈ L, ∀ i j k, t.f y i j k = a.f y i j k

namespace Keeps

variable {α β : Type} {π : State → α} {a s t : State} {L : List Fld}

theorem refl (hπ : Blind π) (a : State) : Keeps π a a L := ⟨hπ, rfl, fun _ _ _ _ _ => rfl⟩

theorem trans {u : State} (h : Keeps π a t L) (h' : Keeps π t u L) : Keeps π a u L :=
  ⟨h.blind, h'.part.trans h.part, fun y hy i j k => (h'.field y hy i j k).trans (h.field y hy i j k)⟩

theorem mono {M : List Fld} (h : Keeps π a t L) (hM : M ⊆ L) : Keeps π a t M :=
  ⟨h.blind, h.part, fun y hy => h.field y (hM hy)⟩

/-- What sees less of the state is kept too. -/
theorem view (h : Keeps π a t L) (p : α → β) : Keeps (fun s => p (π s)) a t L :=
  ⟨fun s r q o => congrArg p (h.blind s r q o), congrArg p h.part, h.field⟩

/-- A change of neither the part nor the registers. -/
theorem other (h : Keeps π a s L) (hp : π t = π s) (hr : t.regs = s.regs) : Keeps π a t L :=
  ⟨h.blind, hp.trans h.part, fun y hy i j k => by rw [← h.field y hy i j k, State.f, State.f, State.reg, State.reg, hr]⟩

theorem ite {c : Prop} {_ : Decidable c} (hs : Keeps π a s L) (ht : Keeps π a t L) : Keeps π a (if c then s else t) L := by
  split
  · exact hs
  · exact ht

theorem foldl {f : State → β → State} (h : Keeps π a s L) (l : List β)
    (hf : ∀ s b, Keeps π a s L → Keeps π a (f s b) L) :
    Keeps π a (l.foldl f s) L := by
  induction l generalizing s with
  | nil => exact h
  | cons b l ih => exact ih (hf s b h)

theorem iter {n : Nat} {f : Nat → State → State} (h : Keeps π a s L)
    (hf : ∀ i s, Keeps π a s L → Keeps π a (f i s) L) :
    Keeps π a (Machine.iter n f s) L :=
  h.foldl _ (fun s i => hf i s)

/-- A change of the registers, the pending vectors and what is sent. -/
theorem regs {r : SMap Reg Word} {q : List (Nat × Nat)} {o : List Out} (h : Keeps π a s L)
    (hf : ∀ y ∈ L, ∀ i j k, ({ s with regs := r, msixPend := q, out := o } : State).f y i j k = s.f y i j k) :
    Keeps π a { s with regs := r, msixPend := q, out := o } L :=
  ⟨h.blind, (h.blind s r q o).trans h.part, fun y hy i j k => (hf y hy i j k).trans (h.field y hy i j k)⟩

theorem setReg {n : RegName} {i j k : Nat} {w : Word} (h : Keeps π a s L) :
    Keeps π a (s.setReg ⟨n, i, j, k⟩ w) (n.beside L) := by
  refine (h.mono fun y hy => (RegName.mem_beside.1 hy).1).regs fun y hy i' j' k' => ?_
  have hr : (⟨y.reg, i', j', k'⟩ : Reg) ≠ ⟨n, i, j, k⟩ := fun e => (RegName.mem_beside.1 hy).2 (congrArg Reg.name e)
  exact congrArg (fun w => bits w y.lo y.len) (s.reg_setReg_other w hr)

theorem setF {x : Fld} {v i j k : Nat} (h : Keeps π a s L) : Keeps π a (s.setF x v i j k) (x.beside L) := by
  refine (h.mono fun y hy => (Fld.mem_beside.1 hy).1).regs fun y hy i' j' k' => ?_
  exact (Fld.mem_beside.1 hy).2.elim (s.f_setF_name x y v i j k i' j' k') (s.f_setF_bits x y v i j k i' j' k')

theorem addF {x : Fld} {n i j k : Nat} (h : Keeps π a s L) : Keeps π a (s.addF x n i j k) (x.beside L) := h.setF

theorem addSatF {x : Fld} {n i j k : Nat} (h : Keeps π a s L) : Keeps π a (s.addSatF x n i j k) (x.beside L) := h.setF

theorem event {x : Fld} {n i j : Nat} (h : Keeps π a s L) : Keeps π a (s.event x n i j) (x.beside L) := by
  have hset := h.setF (x := x) (v := setBitN (s.f x i j) n) (i := i) (j := j) (k := 0)
  refine ⟨h.blind, ?_, fun y hy i' j' k' => (s.f_event x y n i j i' j' k').trans (hset.field y hy i' j' k')⟩
  obtain ⟨q, o, e⟩ := s.event_eq x n i j
  rw [e]
  exact (h.blind s _ q o).trans h.part

theorem msixSend {p v : Nat} (h : Keeps π a s L) : Keeps π a (s.msixSend p v) L := by
  obtain ⟨q, o, e⟩ := s.msixSend_eq p v
  rw [e]
  exact h.other (h.blind s s.regs q o) rfl

end Keeps
end Sys2Proof.Machine
end

section
/-! PROOFS. Queueing packets on flows changes the flow tables and what is sent, and nothing else (R322, R329). -/

namespace Sys2Proof.Machine

/-- The state but for the flow tables, the ports that pause, and what is sent. -/
def State.besideFlows (s : State) : State := { s with out := [], sflows := [], epochs := [], flowWait := [], pausing := [] }

/-- t is a but for the flow tables, the ports that pause, and what is sent. -/
def FlowsOnly (a t : State) : Prop := t.besideFlows = a.besideFlows

namespace FlowsOnly

variable {a s t : State}

theorem regs (h : FlowsOnly a t) : t.regs = a.regs := (congrArg State.regs h :)
theorem clk (h : FlowsOnly a t) : t.clk = a.clk := (congrArg State.clk h :)
theorem owner (h : FlowsOnly a t) : t.owner = a.owner := (congrArg State.owner h :)
theorem mem (h : FlowsOnly a t) : t.mem = a.mem := (congrArg State.mem h :)

theorem refl (a : State) : FlowsOnly a a := Eq.refl a.besideFlows

theorem flows (h : FlowsOnly a s) (ht : t.besideFlows = s.besideFlows) : FlowsOnly a t := Eq.trans ht h

theorem ite {c : Prop} {_ : Decidable c} (hs : FlowsOnly a s) (ht : FlowsOnly a t) : FlowsOnly a (if c then s else t) := by
  split
  · exact hs
  · exact ht

theorem pfcPort {p : Nat} (h : FlowsOnly a s) : FlowsOnly a (s.pfcPort p) :=
  ite (h.flows rfl) (ite (h.flows rfl) (ite (h.flows rfl) h))

theorem pfcAll (h : FlowsOnly a s) : FlowsOnly a s.pfcAll :=
  List.foldlRecOn _ _ h fun _ h _ _ => pfcPort h

theorem newFlow {f : Nat} {k : FlowKey} (h : FlowsOnly a s) : FlowsOnly a (s.newFlow f k) := h.flows rfl

theorem setFlowWait {w : List (FlowKey × List TxPkt)} (h : FlowsOnly a s) : FlowsOnly a { s with flowWait := w } := h.flows rfl

theorem flowPush {f : Nat} {ps : List TxPkt} (h : FlowsOnly a s) : FlowsOnly a (s.flowPush f ps) := by
  unfold State.flowPush
  split
  · exact h
  · exact h.flows rfl

theorem flowFill {f : Nat} (h : FlowsOnly a s) : FlowsOnly a (s.flowFill f) := by
  unfold State.flowFill
  split
  · exact h
  · exact h.setFlowWait.newFlow.flowPush

theorem flowDrop {f : Nat} (h : FlowsOnly a s) : FlowsOnly a (s.flowDrop f) := by
  unfold State.flowDrop
  split
  · exact h
  · exact pfcAll (flowFill (h.flows rfl))

theorem closeFlow {f : Nat} (h : FlowsOnly a s) : FlowsOnly a (s.closeFlow f) := by
  unfold State.closeFlow
  split
  · exact h
  · dsimp only
    split
    · exact ite h (h.flows rfl)
    · split
      · exact h.flowPush.flowDrop
      · split
        · exact h.newFlow.flowPush.flowDrop
        · exact h.flows rfl

theorem flowSend {k : FlowKey} {ps : List TxPkt} (h : FlowsOnly a s) : FlowsOnly a (s.flowSend k ps) := by
  unfold State.flowSend
  dsimp only
  split
  · exact h.flowPush
  · split
    · exact h.newFlow.flowPush
    · split
      · exact h.setFlowWait.closeFlow
      · exact h.flows rfl

end FlowsOnly
end Sys2Proof.Machine
end

section
/-! PROOFS. The actions of a tick leave the clock, the ridges' owners and FRM_EVENT.START_MISSED as they are, and those before
the commits the schedule too. -/

namespace Sys2Proof.Machine

/-- The clock and the owner codes of the ridges. -/
def State.timing (s : State) : Clock × SMap Nat Nat := (s.clk, s.owner)

theorem State.timing_blind : Blind State.timing := fun _ _ _ _ => rfl

/-- The schedule of the ridges (R24), with its registers A and B as fields. -/
def scheduleFields : List Fld :=
  [⟨.FRM_SCHED_A, 0, 64⟩, ⟨.FRM_SCHED_B, 0, 64⟩, F.FRM_SCHED_LEN_LEN_M1, F.FRM_SCHED_EPOCH_EPOCH]

/-- t has the clock, the owners and START_MISSED of a. -/
abbrev Steady (a t : State) : Prop := Keeps State.timing a t [F.FRM_EVENT_START_MISSED]

/-- And the schedule of a. -/
abbrev SteadySchedule (a t : State) : Prop := Keeps State.timing a t (F.FRM_EVENT_START_MISSED :: scheduleFields)

/-- And the states of its configuration transactions. -/
abbrev SteadyTxn (a t : State) : Prop :=
  Keeps State.timing a t (F.TXN_STATUS_STATE :: F.FRM_EVENT_START_MISSED :: scheduleFields)

namespace Keeps

variable {L : List Fld} {a s t : State}

theorem start {L : List Fld} (s : State) : Keeps State.timing s s L := .refl State.timing_blind s

theorem clk (h : Keeps State.timing a t L) : t.clk = a.clk := congrArg Prod.fst h.part
theorem owner (h : Keeps State.timing a t L) : t.owner = a.owner := congrArg Prod.snd h.part

theorem flows (h : Keeps State.timing a s L) (hf : FlowsOnly s t) : Keeps State.timing a t L :=
  h.other (congrArg₂ Prod.mk hf.clk hf.owner) hf.regs

theorem setCtx {g c : Nat} {x : Ctx} (h : Keeps State.timing a s L) : Keeps State.timing a (s.setCtx g c x) L := h.other rfl rfl
theorem setCore {g : Nat} {x : Core} (h : Keeps State.timing a s L) : Keeps State.timing a (s.setCore g x) L := h.other rfl rfl
theorem setTrn {c : Nat} {x : Trn} (h : Keeps State.timing a s L) : Keeps State.timing a (s.setTrn c x) L := h.other rfl rfl
theorem setSvc {c : Nat} {x : Svc} (h : Keeps State.timing a s L) : Keeps State.timing a (s.setSvc c x) L := h.other rfl rfl
theorem setHop {g c t : Nat} {x : Hop} (h : Keeps State.timing a s L) : Keeps State.timing a (s.setHop g c t x) L := h.other rfl rfl
theorem setTxn {o : Nat} {x : Txn} (h : Keeps State.timing a s L) : Keeps State.timing a (s.setTxn o x) L := h.other rfl rfl
theorem setSeg {p i : Nat} {x : Seg} (h : Keeps State.timing a s L) : Keeps State.timing a (s.setSeg p i x) L := h.other rfl rfl
theorem setMod {c : Nat} {x : ModCtx} (h : Keeps State.timing a s L) : Keeps State.timing a (s.setMod c x) L := h.other rfl rfl
theorem freeStrand {g c k : Nat} (h : Keeps State.timing a s L) : Keeps State.timing a (s.freeStrand g c k) L := h.other rfl rfl
theorem useFree {n : Nat} (h : Keeps State.timing a s L) : Keeps State.timing a (s.useFree n) L := h.other rfl rfl
theorem write {k : Nat} {bs : List Byte} (h : Keeps State.timing a s L) : Keeps State.timing a (s.write k bs) L := h.other rfl rfl
theorem writeN {k n v : Nat} (h : Keeps State.timing a s L) : Keeps State.timing a (s.writeN k n v) L := h.other rfl rfl
theorem poisonAt {k n : Nat} (h : Keeps State.timing a s L) : Keeps State.timing a (s.poisonAt k n) L := h.other rfl rfl

theorem steady (h : SteadySchedule a t) : Steady a t := h.mono (by decide)

/-! ### Actions 2 and 3, and what resumes -/

theorem overrunCheck {g c : Nat} (h : SteadyTxn a s) : SteadyTxn a (s.overrunCheck g c) :=
  ite h h.setCtx.addF

theorem watchdog {c : Nat} (h : SteadyTxn a s) : SteadyTxn a (s.watchdog c) := by
  unfold State.watchdog
  split
  · exact h
  · exact h.setF.setF.setF.event

theorem checkActions (h : SteadyTxn a s) : SteadyTxn a s.checkActions :=
  ite h ((h.foldl _ fun _ _ h => h.overrunCheck).iter fun _ _ h => h.watchdog)

theorem resumeCtx {c : Nat} (h : SteadyTxn a s) : SteadyTxn a (s.resumeCtx c) :=
  have h := (ite (ite h.setF h).setF (ite h.setF h)).setMod
  ite h ((h.foldl _ fun _ _ h => h.setCtx).foldl _ fun _ _ h => h.freeStrand)

theorem resumeAction (h : SteadyTxn a s) : SteadyTxn a s.resumeAction :=
  h.iter fun _ _ h => ite h.resumeCtx h

/-! ### Action 4: the steps -/

theorem gnsPublish {c : Nat} (h : SteadyTxn a s) : SteadyTxn a (s.gnsPublish c) :=
  (h.iter fun _ _ h => h.setF.setF.setF.setF.setF).addSatF.setF

theorem altSnapshot {c : Nat} (h : SteadyTxn a s) : SteadyTxn a (s.altSnapshot c) :=
  (h.iter fun _ _ h => h.setF).setF.setF.setF.setTrn

theorem trnRecord {c m : Nat} (h : SteadyTxn a s) : SteadyTxn a (s.trnRecord c m) := ite h h.write

theorem trnRefuse {c code : Nat} (h : SteadyTxn a s) : SteadyTxn a (s.trnRefuse c code) := h.setF.event

theorem trnOpen {c m : Nat} (h : SteadyTxn a s) : SteadyTxn a (s.trnOpen c m) := by
  unfold State.trnOpen
  split
  · exact h.setTrn.setF.setF.setF.setF.setF.setF
  · exact h.trnRefuse

theorem trnTick {c m : Nat} (h : SteadyTxn a s) : SteadyTxn a (s.trnTick c m) :=
  have committed := ((((h.setF (x := F.TRN_STEP_STATE_BANK)).setF (x := F.TRN_STEP_DONE_STEP)).setF
    (x := F.TRN_STEP_NEXT_STEP)).setF (x := F.TRN_STEP_STATE_STATE)).addF (x := F.TRN_COMMITS_COUNT)
  have aborted := (h.setF (x := F.TRN_STEP_STATE_STATE)).addF (x := F.TRN_ABORTS_COUNT)
  have decided := (ite committed.gnsPublish aborted).trnRecord.altSnapshot.setTrn
  have told := ite (decided.event (x := F.TRN_EVENT_COMMIT)) (decided.event (x := F.TRN_EVENT_ABORT))
  ite (ite told.setF.trnOpen told) (ite h.setF.event h)

theorem trnAction {c m : Nat} (h : SteadyTxn a s) : SteadyTxn a (s.trnAction c m) :=
  ite h.trnTick.setTrn.trnOpen h.trnTick

end Keeps
end Sys2Proof.Machine
end

section
namespace Sys2Proof.Machine

/-! PROOFS. The transactions of a tick are steady, whatever they commit: FRM_EVENT has no field that a transaction writes. -/

theorem State.f_putRt_missed (s : State) (r : Reg) (v : Word) (i j k : Nat) :
    (s.putRt r v).f F.FRM_EVENT_START_MISSED i j k = s.f F.FRM_EVENT_START_MISSED i j k := by
  unfold State.putRt State.f
  by_cases hr : (⟨.FRM_EVENT, i, j, k⟩ : Reg) = r
  · have hm : rtMask r.name = 0#64 := by rw [← hr]; rfl
    rw [hr, State.reg_setReg_same, hm, BitVec.and_zero, BitVec.or_zero, BitVec.not_zero, BitVec.and_allOnes]
  · rw [State.reg_setReg_other _ _ hr]

namespace Keeps

variable {a s t : State}

theorem txnEnd {o result block : Nat} (h : SteadySchedule a s) : SteadySchedule a (s.txnEnd o result block) :=
  h.setTxn.setF.setF.setF.addF

theorem txnTimeout {o n : Nat} (h : SteadySchedule a s) : SteadySchedule a (s.txnTimeout o n) :=
  ite h.txnEnd.event h

theorem txnEnd_steady {o result block : Nat} (h : Steady a s) : Steady a (s.txnEnd o result block) :=
  h.trans (txnEnd (start s)).steady

theorem putRt {r : Reg} {v : Word} (h : Steady a s) : Steady a (s.putRt r v) :=
  h.trans ⟨h.blind, rfl, fun y hy i j k => by rw [List.mem_singleton.1 hy, State.f_putRt_missed]⟩

theorem candidate {st : List (Reg × Word)} (h : Steady a s) : Steady a (s.candidate st) := h.foldl _ fun _ _ h => h.putRt

theorem refusal {x : Refused} (h : Steady a s) : Steady a (s.refusal x) := by
  unfold State.refusal
  split
  · exact h.setF.setF.setF.event
  · exact h.setF.setF.setF.event
  · exact h.setF.setF.setF.setF.event
  · exact h.setF.event
  · exact h.setF.setF.event
  · exact h

/-! ### Packets -/

theorem flowSend {k : FlowKey} {ps : List TxPkt} (h : Steady a s) : Steady a (s.flowSend k ps) :=
  h.flows (FlowsOnly.flowSend (.refl s))

theorem ctrlSend {node subtype aux : Nat} {bs : List Byte} (h : Steady a s) : Steady a (s.ctrlSend node subtype aux bs) :=
  h.flowSend

theorem sendOn {l : Nat} {p : Packet} (h : Steady a s) : Steady a (s.sendOn l p) :=
  (h.addF (x := F.NET_LINK_TX_BYTES)).other rfl rfl

theorem send {l : Option Nat} {p : Packet} (h : Steady a s) : Steady a (s.send l p) := by
  unfold State.send
  split
  · exact h.sendOn
  · exact ite h (h.other rfl rfl)

theorem netFlush (h : Steady a s) : Steady a s.netFlush :=
  (h.other rfl rfl : Steady a { s with netWait := [] }).foldl _ fun _ _ h => h.send

theorem setRFlow {r : RFlow} (h : Steady a s) : Steady a (s.setRFlow r) := ite (h.other rfl rfl) (h.other rfl rfl)

theorem sendNak {node flow reason psn : Nat} (h : Steady a s) : Steady a (s.sendNak node flow reason psn) := by
  unfold State.sendNak
  split
  · exact h
  · exact h.setRFlow.send

/-! ### Operations that fail with their packets -/

theorem mirrorBreak {m : Nat} (h : Steady a s) : Steady a (s.mirrorBreak m) := h.setF.event

theorem opTell {r : OpRef} {x : Rsp} (h : Steady a s) : Steady a (s.opTell r x) := by
  unfold State.opTell
  dsimp only
  split
  · exact h
  · exact h.setCore
  · exact h.setCore
  · exact h.setCore
  · exact h.other rfl rfl

theorem opDone {r : OpRef} {x : Rsp} (h : Steady a s) : Steady a (s.opDone r x) := by
  unfold State.opDone
  dsimp only
  refine opTell ?_
  have hm : Steady a (match r.mir with
      | some m => if x.status = 0 then s else s.mirrorBreak m
      | none => s) := by
    split
    · exact ite h h.mirrorBreak
    · exact h
  split
  · exact ite hm hm.sendNak
  · exact hm

theorem pktDone {p : TxPkt} {status : Nat} (h : Steady a s) : Steady a (s.pktDone p status) := h.foldl _ fun _ _ h => h.opDone

theorem flowEnd {f status : Nat} (h : Steady a s) : Steady a (s.flowEnd f status) := by
  unfold State.flowEnd
  split
  · exact h
  · exact ((h.flows (FlowsOnly.flowDrop (.refl s))).foldl _ fun _ _ h => h.pktDone).foldl _ fun _ _ h => h.opDone

theorem pfcAll (h : Steady a s) : Steady a s.pfcAll := h.flows (FlowsOnly.pfcAll (.refl s))

theorem nodeReset {node : Nat} (h : Steady a s) : Steady a (s.nodeReset node) :=
  have hw : Steady a { s with flowWait := s.flowWait.filter (fun e => e.1.node ≠ node)
                              rflows := s.rflows.filter (fun r => r.node ≠ node) } := h.other rfl rfl
  ((hw.foldl _ fun _ _ h => h.flowEnd).foldl _ fun _ _ h => h.pktDone).pfcAll

/-! ### What follows from applied values -/

theorem setFree {p i n : Nat} (h : Steady a s) : Steady a (s.setFree p i n) := ite h.setF.writeN h.setF

theorem segStart {p i : Nat} (h : Steady a s) : Steady a (s.segStart p i) := h.write.write.setSeg.setF.setF.setFree

theorem freeWords {p : Nat} (h : Steady a s) : Steady a (s.freeWords p) := ite (h.iter fun _ _ h => h.writeN) h

theorem ctrClear {k : Nat} (h : Steady a s) : Steady a (s.ctrClear k) :=
  (h.setReg.setReg : Steady a ((s.setReg ⟨.COL_CTR_STATE, k, 0, 0⟩ 0).setReg ⟨.COL_CTR_ARR, k, 0, 0⟩ 0)).other rfl rfl

theorem colReset {s0 : State} {c i : Nat} (h : Steady a s) : Steady a (State.colReset s0 s c i) :=
  have first := ite h.ctrClear h
  (ite first.ctrClear first).foldl _ fun _ _ h => h.other rfl rfl

theorem setLinkDown {d : SMap Nat (Option Nat)} (h : Steady a s) : Steady a { s with linkDown := d } := h.other rfl rfl

theorem linkState {l st : Nat} (h : Steady a s) : Steady a (s.linkState l st) :=
  have left := ite h.setF.event.setLinkDown h.setF.event
  ite h (ite left.setLinkDown.netFlush left)

theorem portDown {p : Nat} (h : Steady a s) : Steady a (s.portDown p) := h.iter fun _ _ h => h.linkState

theorem ptpRestart (h : Steady a s) : Steady a s.ptpRestart := ite h h.setF.event

theorem setStw {x : Steward} (h : Steady a s) : Steady a { s with stw := x } := h.other rfl rfl

theorem cairn {type : Nat} {bs : List Byte} (h : Steady a s) : Steady a (s.cairn type bs) :=
  ite h.setStw.setF.event h.setStw.setF

theorem calRecord {i : Nat} {v w : Word} (h : Steady a s) : Steady a (s.calRecord i v w) := h.setStw.cairn

theorem applied {s0 : State} {n : Nat} {r : Reg} (h : Steady a s) : Steady a (State.applied s0 n s r) := by
  unfold State.applied
  split
  · exact h.setF
  · exact h.setF
  · exact h.setF
  · exact ite h.segStart h
  · exact h.freeWords
  · exact h.freeWords
  · exact ite h h.colReset
  · exact ite h.portDown h
  · exact ite h h.ptpRestart
  · exact ite h h.ptpRestart
  · exact ite h h.setF
  · exact ite h h.calRecord
  · exact h

theorem lendCommit {i m : Nat} {was ctl : Bool} (h : Steady a s) : Steady a (s.lendCommit i m was ctl) :=
  ite h.setF.ctrlSend (ite h.setF.setF.ctrlSend h)

theorem borrowCommit {i lender base size : Nat} (h : Steady a s) : Steady a (s.borrowCommit i lender base size) := by
  have idle : Steady a (({ s with granted := s.granted.filter (fun e => e.1 ≠ i) } : State).setF F.PLC_BOR_CTL_STATE 0 i) :=
    (h.other rfl rfl : Steady a { s with granted := s.granted.filter (fun e => e.1 ≠ i) }).setF
  exact ite (ite h.setF h) (ite h (ite idle.ctrlSend idle))

theorem loansApplied {s0 : State} {n : Nat} {st : List Reg} (h : Steady a s) : Steady a (State.loansApplied s0 n st s) :=
  (h.foldl _ fun _ _ h => h.lendCommit).foldl _ fun _ _ h => h.borrowCommit

theorem txnTake {o n : Nat} (h : Steady a s) : Steady a (s.txnTake o n) := by
  unfold State.txnTake
  split
  · exact h.refusal.txnEnd_steady.event
  · exact
      have ht := (h.candidate.foldl _ fun _ _ h => h.applied).loansApplied.foldl _ fun _ _ h => h.nodeReset
      (ite ht.netFlush.pfcAll ht).txnEnd_steady.setF.addF.event

theorem txnAction {n : Nat} (h : Steady a s) : Steady a (s.txnAction n) :=
  (h.iter fun _ s h => h.trans (txnTimeout (start s)).steady).foldl _ fun _ _ h => h.txnTake

end Keeps
end Sys2Proof.Machine
end

section
/-! PROOFS. The actions of a tick after the commits are steady: loans, cols, pages, skips, rings and intake. -/

namespace Sys2Proof.Machine.Keeps

variable {a s : State}

/-! ### Action 6: loans -/

theorem noticed {i stop : Nat} (h : Steady a s) : Steady a (s.noticed i stop) := h.setF.setF.event

theorem loanEnd {lend : Bool} {i n : Nat} (h : Steady a s) : Steady a (s.loanEnd lend i n) :=
  ite (ite h.setF.event h) (ite h.setF.event h)

theorem grantTick {e : Nat × Option Nat} (h : Steady a s) : Steady a (s.grantTick e) := by
  unfold State.grantTick
  dsimp only
  split
  · exact h.setF.event
  · exact h.setF.event.noticed

theorem setLoans {x : List (Nat × Option Nat)} {y : List Nat} (h : Steady a s) :
    Steady a { s with lendRel := y, granted := x } := h.other rfl rfl

theorem loanAction {n : Nat} (h : Steady a s) : Steady a (s.loanAction n) :=
  ((h.foldl _ fun _ _ h => h.setF).foldl _ fun _ _ h => h.grantTick).setLoans.iter fun _ _ h => h.loanEnd.loanEnd

/-! ### Action 7: cross-module cols -/

theorem multicast {k : Nat} {body : List Byte} (h : Steady a s) : Steady a (s.multicast k body) := by
  unfold State.multicast
  dsimp only [State.free]
  split
  · exact h.foldl _ fun _ _ h => h.send
  · split
    · exact h.useFree.send
    · exact h.useFree

theorem setColRels {x : List ColRel} (h : Steady a s) : Steady a { s with colRels := x } := h.other rfl rfl
theorem setColHist {x : SMap Nat (List (Nat × Bool))} (h : Steady a s) : Steady a { s with colHist := x } := h.other rfl rfl
theorem setColPoll {x : SMap Nat Nat} (h : Steady a s) : Steady a { s with colPoll := x } := h.other rfl rfl

theorem colRelease {k r : Nat} {flag : Bool} (h : Steady a s) : Steady a (s.colRelease k r flag) := by
  unfold State.colRelease
  split
  · exact h.addF.setF.setF.setF.setF.setF.setF
  · exact h.setColRels.addF.setF.setF.setF.setF.setF.setF

theorem homeRelease {k : Nat} (h : Steady a s) : Steady a (s.homeRelease k) :=
  h.setColHist.multicast.colRelease.setF.setF.setF.setF

theorem homeArrival {k r : Nat} {flag : Bool} (h : Steady a s) : Steady a (s.homeArrival k r flag) :=
  ite (ite h.addF.setF h.addF) (ite (ite h.addF.setF h.addF) h.setF.setF.event)

theorem sendArrival {k r : Nat} {flag : Bool} (h : Steady a s) : Steady a (s.sendArrival k r flag) :=
  ite h.setColPoll.homeArrival h.setColPoll.ctrlSend

theorem colCheck {n k : Nat} (h : Steady a s) : Steady a (State.colCheck n k s) := by
  induction n generalizing s with
  | zero => exact h
  | succ n ih =>
    exact
      have first := ite h.setF.sendArrival h
      ite (ih h.colRelease) (ite first.setF.sendArrival first)

theorem homeTick {k : Nat} (h : Steady a s) : Steady a (s.homeTick k) :=
  ite h (ite h (ite h.homeRelease.homeRelease h.homeRelease).colCheck)

theorem colAction (h : Steady a s) : Steady a s.colAction := h.foldl _ fun _ _ h => h.homeTick

/-! ### Action 8: page pools -/

theorem returnPages {p i : Nat} {ns : List Nat} (h : Steady a s) : Steady a (s.returnPages p i ns) :=
  (h.foldl _ fun _ _ h => h.writeN).setFree.addF

theorem kvAction (h : Steady a s) : Steady a s.kvAction :=
  (h.foldl _ fun _ _ h => h.setSeg.returnPages.setF).foldl _ fun _ _ h => ite h.event h

/-! ### Action 9: skips -/

theorem haltBy {g c : Nat} (h : Steady a s) : Steady a (s.haltBy g c) := by
  unfold State.haltBy
  dsimp only
  split
  · split
    · exact h
    · exact ite h.setMod.useFree.setF h.setMod.useFree
  · exact h.setF.setF.setMod

theorem raiseAt {g c code : Nat} {who : Option (Nat × Nat × Nat)} {addr : Option Nat} (h : Steady a s) :
    Steady a (s.raiseAt g c code who addr) := by
  simp only [State.raiseAt, State.free]
  exact h.useFree.setF.setF.setF.setF.useFree.setF.event.haltBy.event

theorem setTransit {x : List TrvMsg} (h : Steady a s) : Steady a { s with transit := x } := h.other rfl rfl

theorem trvSend {g c t : Nat} {area : Mem} {poison : Bool} (h : Steady a s) : Steady a (s.trvSend g c t area poison) :=
  ite h.setF.setTransit h.setF.flowSend

theorem trvForward {g c t : Nat} {empty : Bool} (h : Steady a s) : Steady a (s.trvForward g c t empty) :=
  ite h.raiseAt (ite h.setHop (ite h.raiseAt (ite h.trvSend h.trvSend).setHop.setF.event))

theorem trvSkip {g c t frame : Nat} (h : Steady a s) : Steady a (s.trvSkip g c t frame) := by
  refine ite h (ite (ite h.trvForward h) ?_)
  split
  · exact h.setF
  · exact h.trvForward
  · exact h

theorem skipAction {m : Nat} (h : Steady a s) : Steady a (s.skipAction m) := h.foldl _ fun _ _ h => h.trvSkip

/-! ### Action 10: the rings -/

theorem progress {g c : Nat} (h : Steady a s) : Steady a (s.progress g c) := h.other rfl rfl

theorem token {g c t n : Nat} (h : Steady a s) : Steady a (s.token g c t n) :=
  ite h (ite h.setF.raiseAt h.setF.progress)

theorem complete {c : Nat} {x : Cpl} (h : Steady a s) : Steady a (s.complete c x) := h.setSvc

theorem slotsFreed {c : Nat} (h : Steady a s) : Steady a (s.slotsFreed c) :=
  (h.foldl _ fun _ _ h => h.complete.writeN).setSvc.setF

theorem ringFetch {p c n : Nat} (h : Steady a s) : Steady a (s.ringFetch p c n) := ite h h.setSvc

theorem mqAccept {g c q sender : Nat} {data : List Byte} {poison : Bool} (h : Steady a s) :
    Steady a (s.mqAccept g c q sender data poison) :=
  (ite h.write.poisonAt h.write).write.setF.addF.token

theorem note {c : Nat} {e : List Byte} (h : Steady a s) : Steady a (s.note c e).2 := by
  unfold State.note
  dsimp only
  split
  · exact h
  · exact h.mqAccept

theorem hostToken {c : Nat} {e : List Byte} (h : Steady a s) : Steady a (s.hostToken c e).2 := by
  unfold State.hostToken
  dsimp only
  split
  · exact h
  · exact h.token

theorem useCredit {p c : Nat} {u : State} (h : Steady a s) (hu : s.useCredit p c = some u) : Steady a u := by
  simp only [State.useCredit] at hu
  split at hu <;> split at hu <;> cases hu
  · exact h.setSvc
  · exact h.setSvc

theorem takeEntry {p c frame : Nat} {e : List Byte} (h : Steady a s) : Steady a (s.takeEntry p c frame e) := by
  unfold State.takeEntry
  dsimp only
  split
  · exact h.addF.addF.complete.event
  split
  · exact h.addF.addF.complete
  split
  · split
    · exact h.addF.addF.complete.addF
    next hu => exact (h.addF.addF.useCredit hu).setSvc.setF
  split
  · exact h.addF.addF.note.complete
  · exact h.addF.addF.hostToken.complete

theorem ringTake {p c : Nat} (h : Steady a s) : Steady a (s.ringTake p c) :=
  (ite h.ringFetch.setSvc.event h.ringFetch.setSvc).foldl _ fun _ _ h => h.foldl _ fun _ _ h => h.takeEntry

theorem ringAction {c : Nat} (h : Steady a s) : Steady a (s.ringAction c) := h.slotsFreed.ringTake.ringTake

/-! ### Action 11: intake -/

theorem admitTo {c n i : Nat} {r : HReq} (h : Steady a s) : Steady a (s.admitTo c n i r) := h.write.write.setSvc.addF

theorem admitQueued {c n : Nat} (h : Steady a s) : Steady a (s.admitQueued c n) :=
  have admitted := (h.setSvc.foldl _ fun _ _ h => h.admitTo).setF
  ite admitted (ite admitted.setF.event admitted.token)

theorem defer {c n : Nat} (h : Steady a s) : Steady a (s.defer c n) := ite h h.setSvc.addF.setF.event

theorem pace {c : Nat} (h : Steady a s) : Steady a (s.pace c) :=
  (ite h.setF.setF.event h.setF.setF).setF.setSvc

theorem cplWrite {c : Nat} {x : Cpl} (h : Steady a s) : Steady a (s.cplWrite c x) := h.write.addF.setF

theorem ringServe {c p : Nat} (h : Steady a s) : Steady a (s.ringServe c p) :=
  have served := (h.setSvc.foldl _ fun _ _ h => h.cplWrite).write
  ite h.setSvc.addF.setF (ite h (ite served.msixSend served))

theorem intakeAction {n c : Nat} (h : Steady a s) : Steady a (s.intakeAction n c) :=
  (ite h h.admitQueued.defer).pace.ringServe.ringServe

theorem tickToken {g : Nat} (h : Steady a s) : Steady a (s.tickToken g) := ite h h.setCtx

end Sys2Proof.Machine.Keeps
end

section
/-! PROOFS. The tick: the clock after it, the owners it takes from the schedule, and the start and stop of the ticks. -/

namespace Sys2Proof.Machine

open Sys2Proof.Claims

/-! ### Time that passes -/

theorem State.idleTimers_keeps {L : List Fld} (s : State) : Keeps State.timing s s.idleTimers L :=
  (Keeps.start s).foldl _ fun _ _ h => h.setCore

/-- Time that passes moves FRM_NOW and the cycle count. -/
theorem State.advance_clk (s : State) (t : Nat) :
    ∃ cyc, (s.advance t).clk = { s.clk with now := max s.clk.now t, cyc := cyc } := by
  have hnow : s.clk.now + (t - s.clk.now) = max s.clk.now t := by omega
  have htimers : s.idleTimers.clk = s.clk := (s.idleTimers_keeps (L := [])).clk
  unfold State.advance
  rw [← hnow]
  dsimp only
  split
  · exact ⟨_, rfl⟩
  · simp only [State.utcRun, State.life, htimers]
    exact ⟨_, rfl⟩

theorem State.advance_owner {L : List Fld} (s : State) (t : Nat) : Keeps State.owner s (s.advance t) L := by
  have htimers : Keeps State.owner s s.idleTimers L :=
    s.idleTimers_keeps.view Prod.snd
  unfold State.advance
  dsimp only
  split
  · exact ((Keeps.start s).view Prod.snd).other rfl rfl
  · exact htimers.other rfl rfl

/-! ### Action 5: the owners -/

@[simp] theorem State.schedCode_setOwner (s : State) (o : SMap Nat Nat) (m r : Nat) :
    ({ s with owner := o } : State).schedCode m r = s.schedCode m r := rfl

/-- The first n ridges have taken the codes of the schedule, and nothing else has changed. -/
theorem State.takeOwners_eq (s : State) (m n : Nat) :
    ∃ o, iter n (fun r (s : State) => { s with owner := SMap.set id 0 s.owner r (s.schedCode m r) }) s = { s with owner := o } ∧
      ∀ r, r < n → SMap.get 0 o r = s.schedCode m r := by
  induction n with
  | zero => exact ⟨s.owner, rfl, fun r hr => absurd hr (Nat.not_lt_zero r)⟩
  | succ n ih =>
    obtain ⟨o, he, ho⟩ := ih
    refine ⟨SMap.set id 0 o n (s.schedCode m n), ?_, fun r hr => ?_⟩
    · simp only [iter] at he
      simp only [iter, List.range_succ, List.foldl_append, List.foldl_cons, List.foldl_nil, he, State.schedCode_setOwner]
    · by_cases hrn : r = n
      · rw [hrn, SMap.get_set_same]
      · rw [SMap.get_set_other _ _ _ _ _ hrn, ho r (by omega)]

theorem Keeps.frameOpen {a s : State} {m g : Nat} (h : Steady a s) : Steady a (s.frameOpen m g) :=
  Keeps.ite h h.setCtx

theorem State.ownerAction_keeps (s : State) (m : Nat) :
    Keeps State.clk s (s.ownerAction m) [F.FRM_EVENT_START_MISSED] ∧
    ∀ g, g < 256 → (s.ownerAction m).ownerOf g = s.schedCode m (g / 8) := by
  obtain ⟨o, he, ho⟩ := s.takeOwners_eq m 32
  have hopen : Steady { s with owner := o } (s.ownerAction m) := by
    unfold State.ownerAction
    rw [he]
    exact (Keeps.start _).foldl _ fun _ _ h => h.frameOpen
  have howner : Keeps State.clk s { s with owner := o } [F.FRM_EVENT_START_MISSED] :=
    ((Keeps.start s).view Prod.fst).other rfl rfl
  refine ⟨howner.trans (hopen.view Prod.fst), fun g hg => ?_⟩
  rw [State.ownerOf, hopen.owner]
  exact ho (g / 8) (by omega)

/-- A state with the schedule of s has its codes. -/
theorem State.schedCode_of_fields {s t : State} (h : ∀ y ∈ scheduleFields, ∀ i j k, t.f y i j k = s.f y i j k) (m r : Nat) :
    t.schedCode m r = s.schedCode m r := by
  have hreg (n : RegName) (hn : (⟨n, 0, 64⟩ : Fld) ∈ scheduleFields) (i : Nat) : t.reg ⟨n, i, 0, 0⟩ = s.reg ⟨n, i, 0, 0⟩ := by
    have hf := h _ hn i 0 0
    simp only [State.f, bits, bitsN, pow_zero, Nat.div_one] at hf
    apply BitVec.eq_of_toNat_eq
    rwa [Nat.mod_eq_of_lt (BitVec.isLt _), Nat.mod_eq_of_lt (BitVec.isLt _)] at hf
  simp only [State.schedCode, h F.FRM_SCHED_EPOCH_EPOCH (by decide), h F.FRM_SCHED_LEN_LEN_M1 (by decide),
    hreg .FRM_SCHED_A (by decide), hreg .FRM_SCHED_B (by decide)]

/-- The codes are those of R24. -/
theorem State.schedCode_eq_scheduled (s : State) (m r : Nat) : s.schedCode m r = scheduled s m r := by
  unfold State.schedCode scheduled
  by_cases hr : r < 16 <;> simp only [hr, if_true, if_false] <;> rfl

/-! ### Action 4 where nothing commits -/

/-- No transaction is committed. -/
def State.NoCommit (s : State) : Prop := ∀ o, o < 3 → s.f F.TXN_STATUS_STATE o ≠ 2

theorem State.NoCommit.order {s : State} (h : s.NoCommit) : s.txnOrderList = [] := by
  have hnone : (List.range 3).filter (fun o => s.txnState o == 2) = [] :=
    List.filter_eq_nil_iff.2 fun o ho => by simpa [State.txnState] using h o (List.mem_range.1 ho)
  rw [State.txnOrderList, hnone]
  rfl

theorem State.NoCommit.txnEnd {s : State} (h : s.NoCommit) (o result block : Nat) : (s.txnEnd o result block).NoCommit := by
  intro o' ho'
  unfold State.txnEnd
  simp (disch := decide) only [State.addF_eq, State.f_setF_name, State.f_setF_bits]
  by_cases ho : o' = o
  · rw [ho, State.f_setF_same _ _ _ _ _ _ (by decide)]
    decide
  · rw [State.f_setF_reg _ _ _ _ _ _ _ _ _ _ (by simpa using ho)]
    exact h o' ho'

theorem State.NoCommit.txnTimeout {s : State} (h : s.NoCommit) (o n : Nat) : (s.txnTimeout o n).NoCommit := by
  unfold State.txnTimeout
  split
  · intro o' ho'
    rw [State.f_event_name _ _ _ _ _ _ _ _ _ (by decide)]
    exact h.txnEnd o 4 0 o' ho'
  · exact h

theorem State.NoCommit.txnAction {s : State} (h : s.NoCommit) (n : Nat) : SteadySchedule s (s.txnAction n) := by
  have htimeouts : (iter 3 (fun o s => s.txnTimeout o n) s).NoCommit :=
    ((h.txnTimeout 0 n).txnTimeout 1 n).txnTimeout 2 n
  unfold State.txnAction
  dsimp only
  rw [htimeouts.order]
  exact (Keeps.start s).iter fun _ _ h => h.txnTimeout

/-! ### The tick -/

/-- Tick m has begun at time t: the frame and the time are those of the tick. -/
def State.tickBegun (s : State) (m t : Nat) : State :=
  { s.advance t with clk := { (s.advance t).clk with frame := m, tickTime := t, running := true, start := none } }

/-- Tick m before action 4's transactions, and before action 6. -/
def State.tickSteps (s : State) (m t : Nat) : State :=
  iter 4 (fun c s => s.trnAction c m) (s.tickBegun m t).checkActions.resumeAction

theorem State.tickSteps_keeps (s : State) (m t : Nat) : SteadyTxn (s.tickBegun m t) (s.tickSteps m t) :=
  (Keeps.start _).checkActions.resumeAction.iter fun _ _ h => h.trnAction

/-- The tick after its ownership action, but for the last change of the clock. -/
theorem State.tick_after_owners (s : State) (m t : Nat) :
    ∃ u, Steady (((s.tickSteps m t).txnAction m).ownerAction m) u ∧
      s.tick m t = { u with clk := { u.clk with running := !u.clk.stopping, stopping := false, skip := false } } := by
  refine ⟨_, ?_, rfl⟩
  exact ((((Keeps.start _).loanAction.colAction.kvAction.skipAction.iter fun _ _ h => h.ringAction).iter
    fun _ _ h => h.intakeAction).foldl _ fun _ _ h => h.tickToken)

theorem State.tickBegun_field (s : State) (m t : Nat) (y : Fld) (i j k : Nat) : (s.tickBegun m t).f y i j k = s.f y i j k :=
  (s.advance_owner (L := [y]) t).field y (List.mem_singleton.2 rfl) i j k

theorem State.tick_ticked (s : State) (m t : Nat) : Ticked s (s.tick m t) m t := by
  obtain ⟨u, hu, he⟩ := s.tick_after_owners m t
  obtain ⟨cyc, hcyc⟩ := s.advance_clk t
  have hclk : u.clk = { s.clk with now := max s.clk.now t, cyc := cyc, frame := m, tickTime := t, running := true, start := none } := by
    rw [hu.clk, ((State.tickSteps s m t).txnAction m).ownerAction_keeps m |>.1.part, (Keeps.start _).txnAction.clk,
      (s.tickSteps_keeps m t).clk, State.tickBegun, hcyc]
  rw [he]
  simp only [Ticked, hclk, and_self]

theorem State.tick_missed (s : State) (m t : Nat) :
    (s.tick m t).fb F.FRM_EVENT_START_MISSED = s.fb F.FRM_EVENT_START_MISSED := by
  obtain ⟨u, hu, he⟩ := s.tick_after_owners m t
  have hy : F.FRM_EVENT_START_MISSED ∈ [F.FRM_EVENT_START_MISSED] := List.mem_singleton.2 rfl
  have hf : (s.tick m t).f F.FRM_EVENT_START_MISSED = s.f F.FRM_EVENT_START_MISSED := by
    rw [he]
    calc u.f F.FRM_EVENT_START_MISSED
      _ = (((s.tickSteps m t).txnAction m).ownerAction m).f F.FRM_EVENT_START_MISSED := hu.field _ hy 0 0 0
      _ = ((s.tickSteps m t).txnAction m).f F.FRM_EVENT_START_MISSED := (State.ownerAction_keeps _ m).1.field _ hy 0 0 0
      _ = (s.tickSteps m t).f F.FRM_EVENT_START_MISSED := (Keeps.start _).txnAction.field _ hy 0 0 0
      _ = (s.tickBegun m t).f F.FRM_EVENT_START_MISSED := (s.tickSteps_keeps m t).field _ (by decide) 0 0 0
      _ = s.f F.FRM_EVENT_START_MISSED := s.tickBegun_field m t _ 0 0 0
  rw [State.fb, State.fb, hf]

theorem State.tick_owners (s : State) (m t : Nat) (hs : s.NoCommit) (g : Nat) (hg : g < 256) :
    (s.tick m t).ownerOf g = scheduled s m (g / 8) := by
  obtain ⟨u, hu, he⟩ := s.tick_after_owners m t
  have hfield (y : Fld) (hy : y ∈ F.TXN_STATUS_STATE :: F.FRM_EVENT_START_MISSED :: scheduleFields) (i j k : Nat) :
      (s.tickSteps m t).f y i j k = s.f y i j k :=
    ((s.tickSteps_keeps m t).field y hy i j k).trans (s.tickBegun_field m t y i j k)
  have hsteps : (s.tickSteps m t).NoCommit := fun o ho => by
    rw [hfield _ (by decide)]
    exact hs o ho
  calc (s.tick m t).ownerOf g
    _ = (((s.tickSteps m t).txnAction m).ownerAction m).ownerOf g := by
      rw [he]
      exact congrArg (fun o => SMap.get 0 o (g / 8)) hu.owner
    _ = ((s.tickSteps m t).txnAction m).schedCode m (g / 8) := (State.ownerAction_keeps _ m).2 g hg
    _ = (s.tickSteps m t).schedCode m (g / 8) :=
      State.schedCode_of_fields (fun y hy => (hsteps.txnAction m).field y (List.mem_cons_of_mem _ hy)) m _
    _ = s.schedCode m (g / 8) :=
      State.schedCode_of_fields (fun y hy => hfield y (List.mem_cons_of_mem _ (List.mem_cons_of_mem _ hy))) m _
    _ = scheduled s m (g / 8) := s.schedCode_eq_scheduled m _

end Sys2Proof.Machine
end

section
namespace Sys2Proof.Machine

open Sys2Proof.Claims

/-! PROOFS. TicksStartRunAndStop. -/

/-- A tick whose number is a frame number occurs. -/
theorem State.tickAt_eq (s : State) {m : Nat} (t : Nat) (hm : m < 2 ^ 64) : s.tickAt m t = .next (s.tick m t) :=
  if_neg (Nat.not_le.2 hm)

theorem execFrmTick_running {s : State} (hoff : s.pwr.off = false) (hrun : s.clk.running = true) :
    exec .frmTick s = s.tickAt (s.clk.frame + 1) s.nextTick := by
  show execFrmTick s = _
  simp [execFrmTick, hoff, hrun]

theorem execFirstTick_scheduled {s : State} {t m : Nat} {missed : Bool} (hoff : s.pwr.off = false)
    (hstart : s.clk.start = some (t, m, missed)) : exec .firstTick s = s.firstTick t m missed := by
  show execFirstTick s = _
  simp [execFirstTick, hstart, hoff]

/-- A first tick occurs, and reports a start time that had passed. -/
theorem State.firstTick_ticked (s : State) {m : Nat} (t : Nat) (missed : Bool) (hm : m < 2 ^ 64) :
    ∃ u, s.firstTick t m missed = .next u ∧ Ticked s u m t ∧ (missed = true → u.fb F.FRM_EVENT_START_MISSED = true) := by
  rw [State.firstTick, State.tickAt_eq _ t hm]
  cases missed with
  | false => exact ⟨_, rfl, s.tick_ticked m t, fun h => nomatch h⟩
  | true =>
    rw [if_pos rfl]
    have hticked := (s.event F.FRM_EVENT_START_MISSED).tick_ticked m t
    rw [Ticked, State.event_clk] at hticked
    refine ⟨_, rfl, hticked, fun _ => ?_⟩
    rw [State.tick_missed]
    exact s.event_one _ 0 0 (by decide) rfl

/-- Where no transaction is committed, the period is the one in effect. -/
theorem State.NoCommit.periodToCome {s : State} (h : s.NoCommit) : s.periodToCome = s.f F.FRM_PERIOD_PERIOD := by
  rw [State.periodToCome, h.order]
  rfl

/-- RUN set while no tick runs: the first tick is scheduled, and occurs at once where its time is now. -/
theorem execFrmCtrlRunSet_stopped {s : State} (hoff : s.pwr.off = false) (hrun : s.fb F.FRM_CTRL_RUN = false)
    (hstop : s.clk.running = false) {t m : Nat} {missed : Bool}
    (hstart : (s.setF F.FRM_CTRL_RUN 1).startTick = (t, m, missed)) :
    exec .frmCtrlRunSet s =
      let s' : State := { s.setF F.FRM_CTRL_RUN 1 with clk := { s.clk with start := some (t, m, missed), skip := true } }
      if t = s.clk.now then s'.firstTick t m missed else .next s' := by
  show s.runSet = _
  simp only [State.runSet, hoff, hrun, Bool.or_self, Bool.false_eq_true, if_false, State.setF_clk, hstop, hstart]

/-- The first tick of a start (R40), as the registers give it where no transaction is committed. -/
theorem State.NoCommit.startTick {s : State} (h : s.NoCommit) :
    (s.setF F.FRM_CTRL_RUN 1).startTick =
      let t0 := s.f F.FRM_START_TIME_TIME
      let n := (s.clk.now - t0 + s.f F.FRM_PERIOD_PERIOD - 1) / s.f F.FRM_PERIOD_PERIOD
      if s.clk.now ≤ t0 then (t0, s.f F.FRM_START_FRAME_FRAME, false)
      else (t0 + n * s.f F.FRM_PERIOD_PERIOD, s.f F.FRM_START_FRAME_FRAME + n, true) := by
  have hset : (s.setF F.FRM_CTRL_RUN 1).NoCommit := fun o ho => by
    rw [State.f_setF_name _ _ _ _ _ _ _ _ _ _ (by decide)]
    exact h o ho
  simp only [State.startTick, hset.periodToCome, ceilDiv, State.setF_clk]
  simp (disch := decide) only [State.f_setF_name]

/-- Settles O35: the tick keeps the clock through all its actions, takes the owners from the schedule, and the start and stop
of the ticks are read off their definitions. -/
theorem ticksStartRunAndStop : Obligations.TicksStartRunAndStop := by
  intro s hoff
  refine ⟨?wrap, ?tick, ?first, ?cancel, ?start, ?clear⟩
  case wrap =>
    intro hrun hwrap
    rw [execFrmTick_running hoff hrun]
    exact if_pos (by omega)
  case tick =>
    intro hrun hframe
    rw [execFrmTick_running hoff hrun, State.tickAt_eq _ _ hframe]
    exact ⟨_, rfl, s.tick_ticked _ _, s.tick_owners _ _⟩
  case first =>
    intro t m missed hstart hm
    rw [execFirstTick_scheduled hoff hstart]
    exact s.firstTick_ticked t missed hm
  case cancel =>
    intro hrun hticks
    show s.runSet = _
    simp only [State.runSet, hoff, hrun, hticks, Bool.or_self, Bool.false_eq_true, if_false, State.setF_clk, if_true]
  case start =>
    intro hrun hstop hnone
    have hfirst := State.NoCommit.startTick hnone
    refine ⟨fun hnow hm => ?_, fun hahead => ?_, fun hpast hnever => ?_⟩
    · dsimp only at hfirst
      rw [if_pos hnow.le] at hfirst
      rw [execFrmCtrlRunSet_stopped hoff hrun hstop hfirst]
      dsimp only
      rw [if_pos hnow.symm]
      obtain ⟨u, hu, ht, -⟩ := State.firstTick_ticked { s.setF F.FRM_CTRL_RUN 1 with
        clk := { s.clk with start := some (s.f F.FRM_START_TIME_TIME, s.f F.FRM_START_FRAME_FRAME, false), skip := true } }
        (s.f F.FRM_START_TIME_TIME) false hm
      exact ⟨u, hu, ht⟩
    · dsimp only at hfirst
      rw [if_pos hahead.le] at hfirst
      rw [execFrmCtrlRunSet_stopped hoff hrun hstop hfirst]
      exact if_neg (by omega)
    · dsimp only at hfirst
      rw [if_neg (by omega)] at hfirst
      rw [execFrmCtrlRunSet_stopped hoff hrun hstop hfirst]
      exact if_neg hnever
  case clear =>
    intro hrun
    show Host.Outcome.next s.runClear = _
    simp only [State.runClear, hrun, Bool.not_true, Bool.false_eq_true, if_false, State.setF_clk]

end Sys2Proof.Machine
end

section
namespace Sys2Proof.Machine

open Sys2Proof.Claims

/-! PROOFS. TheTimeBaseFollowsTheGrandmaster. -/

/-- The clock and memory. -/
def State.timeBase (s : State) : Clock × Mem := (s.clk, s.mem)

/-- What FRM_SYNC_STATUS reports. -/
def syncFields : List Fld := [F.FRM_SYNC_STATUS_STATE, F.FRM_SYNC_STATUS_PORT, F.FRM_SYNC_STATUS_OFFSET]

/-- t has the clock, memory and the fields L of a. -/
abbrev KeepsTimeBase (a t : State) (L : List Fld) : Prop := Keeps State.timeBase a t L

namespace KeepsTimeBase

variable {a s t : State} {L : List Fld}

theorem start (s : State) : KeepsTimeBase s s L := Keeps.refl (fun _ _ _ _ => rfl) s

theorem clk (h : KeepsTimeBase a t L) : t.clk = a.clk := congrArg Prod.fst h.part
theorem mem (h : KeepsTimeBase a t L) : t.mem = a.mem := congrArg Prod.snd h.part

theorem setStw {x : Steward} (h : KeepsTimeBase a s L) : KeepsTimeBase a { s with stw := x } L := h.other rfl rfl

theorem cairn {type : Nat} {bs : List Byte} (h : KeepsTimeBase a s syncFields) : KeepsTimeBase a (s.cairn type bs) syncFields :=
  Keeps.ite (Keeps.event (Keeps.setF h.setStw)) (Keeps.setF h.setStw)

end KeepsTimeBase

/-- Setting the time of day is not seen by the receiver (R386). -/
theorem State.utcSet_keeps (s : State) (t source : Nat) : KeepsTimeBase s (s.utcSet t source) syncFields :=
  have here : KeepsTimeBase s s syncFields := .start s
  have hset := (here.setStw.setF (x := F.LIFE_STATUS_UTC_VALID)).setF (x := F.LIFE_STATUS_SOURCE)
  Keeps.ite (KeepsTimeBase.cairn hset) hset

/-- The limits of R45 on an offset: a tolerance event above LIMIT, the fault state above 10 µs, and nothing else. -/
theorem State.offsetLimits_spec (s : State) (ns : Nat) :
    KeepsTimeBase s (s.offsetLimits ns) [F.FRM_SYNC_STATUS_PORT, F.FRM_SYNC_STATUS_OFFSET] ∧
    (s.f F.FRM_SYNC_LIMIT_LIMIT < ns → (s.offsetLimits ns).fb F.FRM_EVENT_SYNC_TOL = true) ∧
    (10000 < ns → (s.offsetLimits ns).fb F.FRM_EVENT_SYNC_FAULT = true ∧ (s.offsetLimits ns).f F.FRM_SYNC_STATUS_STATE = 4) ∧
    (ns ≤ 10000 → (s.offsetLimits ns).f F.FRM_SYNC_STATUS_STATE = s.f F.FRM_SYNC_STATUS_STATE) := by
  unfold State.offsetLimits
  dsimp only
  refine ⟨?_, fun htol => ?_, fun hfault => ?_, fun hok => ?_⟩
  · exact
      have here : KeepsTimeBase s s [F.FRM_SYNC_STATUS_PORT, F.FRM_SYNC_STATUS_OFFSET] := .start s
      have told := Keeps.ite (here.event (x := F.FRM_EVENT_SYNC_TOL)) here
      Keeps.ite told.setF.event told
  · rw [if_pos htol]
    have htold := s.event_one F.FRM_EVENT_SYNC_TOL 0 0 (by decide) rfl
    split
    · rwa [State.fb, State.f_event_bits _ _ _ _ _ _ _ _ _ (by decide), State.f_setF_name _ _ _ _ _ _ _ _ _ _ (by decide)]
    · exact htold
  · rw [if_pos hfault]
    exact ⟨State.event_one _ _ 0 0 (by decide) rfl, by
      rw [State.f_event_name _ _ _ _ _ _ _ _ _ (by decide), State.f_setF_same _ _ _ _ _ _ (by decide)]; rfl⟩
  · rw [if_neg (by omega)]
    split
    · rw [State.f_event_name _ _ _ _ _ _ _ _ _ (by decide)]
    · rfl

/-- Whether the time base may be loaded does not depend on the receiver's status (R42). -/
theorem State.mayLoad_setF (s : State) (x : Fld) (v : Nat) (h : F.FRM_CTRL_RUN.reg ≠ x.reg) :
    (s.setF x v).mayLoad = s.mayLoad := by
  rw [State.mayLoad, State.mayLoad, State.fb_setF_name _ _ _ _ _ _ _ _ _ _ h, State.setF_clk]

theorem State.mayLoad_iff (s : State) : s.mayLoad = true ↔ s.fb F.FRM_CTRL_RUN = false ∧ s.clk.running = false := by
  simp [State.mayLoad]

/-- The receiver locked on its port. -/
def State.locked (s : State) : State := (s.setF F.FRM_SYNC_STATUS_STATE 2).setF F.FRM_SYNC_STATUS_PORT s.ptpPort

/-- The time base loaded with a time, and the offset 0. -/
def State.timeLoaded (s : State) (now : Nat) : State :=
  { s.setF F.FRM_SYNC_STATUS_OFFSET 0 with clk := { (s.setF F.FRM_SYNC_STATUS_OFFSET 0).clk with now := now } }

theorem State.locked_state (s : State) : s.locked.f F.FRM_SYNC_STATUS_STATE = 2 := by
  rw [State.locked, State.f_setF_bits _ _ _ _ _ _ _ _ _ _ (by decide), State.f_setF_same _ _ _ _ _ _ (by decide)]
  rfl

theorem State.locked_port (s : State) : s.locked.f F.FRM_SYNC_STATUS_PORT = s.ptpPort % 16 :=
  State.f_setF_same _ _ _ _ _ _ (by decide)

theorem State.timeLoaded_keeps (s : State) (now : Nat) :
    Keeps State.mem s (s.timeLoaded now) [F.FRM_SYNC_STATUS_STATE, F.FRM_SYNC_STATUS_PORT] :=
  have hset : KeepsTimeBase s (s.setF F.FRM_SYNC_STATUS_OFFSET 0) [F.FRM_SYNC_STATUS_STATE, F.FRM_SYNC_STATUS_PORT] :=
    (KeepsTimeBase.start (L := [F.FRM_SYNC_STATUS_STATE, F.FRM_SYNC_STATUS_PORT]) s).setF
  (hset.view Prod.snd).other rfl rfl

theorem State.timeLoaded_offset (s : State) (now : Nat) : (s.timeLoaded now).f F.FRM_SYNC_STATUS_OFFSET = 0 :=
  s.f_setF_same F.FRM_SYNC_STATUS_OFFSET 0 0 0 0 (by decide)

theorem State.locked_mayLoad (s : State) : s.locked.mayLoad = s.mayLoad := by
  rw [State.locked, State.mayLoad_setF _ _ _ (by decide), State.mayLoad_setF _ _ _ (by decide)]

/-- A lock takes effect on an enabled, acquiring receiver, on its port (R42). -/
theorem State.lock_applies {s : State} (hen : s.fb F.FRM_CTRL_SYNC_EN = true) (hst : s.f F.FRM_SYNC_STATUS_STATE = 1) :
    ¬ (!s.fb F.FRM_CTRL_SYNC_EN || s.ptpPort != s.ptpPort || s.f F.FRM_SYNC_STATUS_STATE == 2 ||
      (s.f F.FRM_SYNC_STATUS_STATE == 4 && !s.mayLoad)) = true := by
  simp [hen, hst]

/-- The receiver locked, and the time base loaded where it may be. -/
def State.lockedAt (s : State) (now : Nat) : State := if s.locked.mayLoad then s.locked.timeLoaded now else s.locked

theorem execPtpLock_applied {s : State} {time : Word} {utc : Nat}
    (hgo : ¬ (!s.fb F.FRM_CTRL_SYNC_EN || s.ptpPort != s.ptpPort || s.f F.FRM_SYNC_STATUS_STATE == 2 ||
      (s.f F.FRM_SYNC_STATUS_STATE == 4 && !s.mayLoad)) = true) :
    execPtpLock s.ptpPort time utc s = .next ((s.lockedAt time.toNat).utcSet (time.toNat / 100000000 - utc) 2) :=
  if_neg hgo

/-- PTP_LOCK of an acquiring receiver, on its port: the lock, and the time where the time base may be loaded (R42). -/
theorem execPtpLock_acquiring {s : State} {time : Word} {utc : Nat} (hen : s.fb F.FRM_CTRL_SYNC_EN = true)
    (hst : s.f F.FRM_SYNC_STATUS_STATE = 1) :
    execPtpLock s.ptpPort time utc s = .next ((s.lockedAt time.toNat).utcSet (time.toNat / 100000000 - utc) 2) :=
  execPtpLock_applied (State.lock_applies hen hst)

theorem State.lockedAt_of_mayLoad {s : State} (h : s.mayLoad = true) (now : Nat) : s.lockedAt now = s.locked.timeLoaded now :=
  if_pos (s.locked_mayLoad.trans h)

theorem State.lockedAt_of_not_mayLoad {s : State} (h : ¬ s.mayLoad = true) (now : Nat) : s.lockedAt now = s.locked :=
  if_neg (s.locked_mayLoad ▸ h)

/-- The receiver's port and a measured offset in its status. -/
def State.offsetReported (s : State) (offset : Nat) : State :=
  (s.setF F.FRM_SYNC_STATUS_PORT s.ptpPort).setF F.FRM_SYNC_STATUS_OFFSET offset

theorem State.offsetReported_port (s : State) (n : Nat) : (s.offsetReported n).f F.FRM_SYNC_STATUS_PORT = s.ptpPort % 16 := by
  rw [State.offsetReported, State.f_setF_bits _ _ _ _ _ _ _ _ _ _ (by decide)]
  exact State.f_setF_same _ _ _ _ _ _ (by decide)

theorem State.offsetReported_offset (s : State) {n : Nat} (h : n < 2 ^ 32) :
    (s.offsetReported n).f F.FRM_SYNC_STATUS_OFFSET = n :=
  (State.f_setF_same _ _ _ _ _ _ (by decide)).trans (Nat.mod_eq_of_lt h)

theorem State.offsetReported_state (s : State) (n : Nat) :
    (s.offsetReported n).f F.FRM_SYNC_STATUS_STATE = s.f F.FRM_SYNC_STATUS_STATE := by
  rw [State.offsetReported, State.f_setF_bits _ _ _ _ _ _ _ _ _ _ (by decide), State.f_setF_bits _ _ _ _ _ _ _ _ _ _ (by decide)]

theorem State.offsetReported_limit (s : State) (n : Nat) :
    (s.offsetReported n).f F.FRM_SYNC_LIMIT_LIMIT = s.f F.FRM_SYNC_LIMIT_LIMIT := by
  rw [State.offsetReported, State.f_setF_name _ _ _ _ _ _ _ _ _ _ (by decide), State.f_setF_name _ _ _ _ _ _ _ _ _ _ (by decide)]

/-- PTP_EVENT_MESSAGE on the receiver's port reports the offset (R43 to R45). -/
theorem execPtpEventMessage_enabled {s : State} {offset : BitVec 32} (hen : s.fb F.FRM_CTRL_SYNC_EN = true) :
    exec (.ptpEventMessage s.ptpPort offset) s =
      .next (if s.f F.FRM_SYNC_STATUS_STATE = 1 ∧ s.mayLoad then s.offsetReported offset.toNat
        else (s.offsetReported offset.toNat).offsetLimits offset.toInt.natAbs) := by
  have hload : (s.offsetReported offset.toNat).mayLoad = s.mayLoad := by
    rw [State.offsetReported, State.mayLoad_setF _ _ _ (by decide), State.mayLoad_setF _ _ _ (by decide)]
  show execPtpEventMessage _ _ _ = _
  rw [← hload]
  simp only [execPtpEventMessage, State.syncState, hen, bne_self_eq_false, Bool.not_true, Bool.or_self, Bool.false_eq_true,
    if_false, Bool.and_eq_true, beq_iff_eq]
  exact (apply_ite Host.Outcome.next _ _ _).symm

/-- A bit field written with a Bool reads that Bool. -/
theorem State.fb_setF_toNat (s : State) (x : Fld) (b : Bool) (i j k : Nat) (h : x.lo + x.len ≤ 64) (h1 : x.len = 1) :
    (s.setF x b.toNat i j k).fb x i j k = b := by
  cases b
  · exact s.fb_setF_zero x i j k h
  · exact s.fb_setF_one x i j k h h1

theorem State.syncSet_of_ne {s : State} {on : Bool} (h : s.fb F.FRM_CTRL_SYNC_EN ≠ on) :
    s.syncSet on = (s.setF F.FRM_CTRL_SYNC_EN on.toNat).setF F.FRM_SYNC_STATUS_STATE on.toNat :=
  if_neg (by simpa using h)

theorem State.syncSet_of_eq {s : State} {on : Bool} (h : s.fb F.FRM_CTRL_SYNC_EN = on) : s.syncSet on = s :=
  if_pos (by simpa using h)

/-- Settles O36: each command's register writes, read back. -/
theorem theTimeBaseFollowsTheGrandmaster : Obligations.TheTimeBaseFollowsTheGrandmaster := by
  intro s
  refine ⟨?enable, ?lock, ?message, ?holdover, ?estimate⟩
  case enable =>
    intro on
    refine ⟨s.syncSet on, rfl, ?_⟩
    by_cases h : s.fb F.FRM_CTRL_SYNC_EN = on
    · rw [State.syncSet_of_eq h]
      exact ⟨rfl, h, rfl, fun _ => rfl, fun hne => absurd h hne⟩
    · rw [State.syncSet_of_ne h]
      refine ⟨rfl, ?_, ?_, fun he => absurd he h, fun _ => ?_⟩
      · rw [State.fb_setF_name _ _ _ _ _ _ _ _ _ _ (by decide), State.fb_setF_toNat _ _ _ _ _ _ (by decide) rfl]
      · rw [State.fb_setF_name _ _ _ _ _ _ _ _ _ _ (by decide), State.fb_setF_bits _ _ _ _ _ _ _ _ _ _ (by decide)]
      · rw [State.f_setF_same _ _ _ _ _ _ (by decide)]
        cases on <;> rfl
  case lock =>
    rintro port time utc hen rfl hst
    refine ⟨_, execPtpLock_acquiring hen hst, ?_⟩
    have hclock (u : State) := u.utcSet_keeps (time.toNat / 100000000 - utc) 2
    rw [(hclock _).clk, (hclock _).mem, (hclock _).field _ (by decide), (hclock _).field F.FRM_SYNC_STATUS_PORT (by decide),
      (hclock _).field F.FRM_SYNC_STATUS_OFFSET (by decide)]
    by_cases hload : s.mayLoad = true
    · have hkeep := s.locked.timeLoaded_keeps time.toNat
      obtain ⟨hrun, hticks⟩ := s.mayLoad_iff.1 hload
      rw [State.lockedAt_of_mayLoad hload, hkeep.field _ (by decide), hkeep.field F.FRM_SYNC_STATUS_PORT (by decide), hkeep.part]
      refine ⟨s.locked_state, s.locked_port, rfl, fun _ _ => ⟨rfl, s.locked.timeLoaded_offset _⟩, fun hno => ?_⟩
      simp [hrun, hticks] at hno
    · rw [State.lockedAt_of_not_mayLoad hload]
      exact ⟨s.locked_state, s.locked_port, rfl, fun hrun hticks => absurd (s.mayLoad_iff.2 ⟨hrun, hticks⟩) hload,
        fun _ => rfl⟩
  case message =>
    rintro port offset hen rfl
    refine ⟨_, execPtpEventMessage_enabled hen, ?_⟩
    obtain ⟨hkeep, htol, hfault, hok⟩ := (s.offsetReported offset.toNat).offsetLimits_spec offset.toInt.natAbs
    have hstate := s.offsetReported_state offset.toNat
    split
    · next hacq =>
      obtain ⟨hrun, hticks⟩ := s.mayLoad_iff.1 hacq.2
      refine ⟨rfl, rfl, s.offsetReported_offset offset.isLt, s.offsetReported_port _, fun hno => ?_,
        fun hst _ _ => hstate.trans hst⟩
      simp [hacq.1, hrun, hticks] at hno
    · next hacq =>
      rw [hkeep.clk, hkeep.mem, hkeep.field _ (by decide), hkeep.field F.FRM_SYNC_STATUS_PORT (by decide)]
      refine ⟨rfl, rfl, s.offsetReported_offset offset.isLt, s.offsetReported_port _,
        fun _ => ⟨fun h => htol ?_, hfault, fun h => ?_⟩, fun hst hrun hticks => absurd ⟨hst, s.mayLoad_iff.2 ⟨hrun, hticks⟩⟩ hacq⟩
      · rwa [State.offsetReported_limit]
      · exact (hok h).trans hstate
  case holdover =>
    by_cases hst : s.f F.FRM_SYNC_STATUS_STATE = 2
    · refine ⟨_, if_neg (not_not.2 hst), fun h => absurd hst h, fun _ => ⟨?_, State.event_one _ _ 0 0 (by decide) rfl,
        by simp, by simp⟩⟩
      rw [State.f_event_name _ _ _ _ _ _ _ _ _ (by decide), State.f_setF_same _ _ _ _ _ _ (by decide)]
      rfl
    · exact ⟨s, if_pos hst, fun _ => rfl, fun h => absurd h hst⟩
  case estimate =>
    intro ns
    obtain ⟨hkeep, htol, hfault, hok⟩ := s.offsetLimits_spec ns
    by_cases hst : s.f F.FRM_SYNC_STATUS_STATE = 3
    · exact ⟨_, if_neg (not_not.2 hst), hkeep.clk, hkeep.mem, fun h => absurd hst h, fun _ => ⟨htol, hfault, hok⟩⟩
    · exact ⟨s, if_pos hst, rfl, rfl, fun _ => rfl, fun h => absurd h hst⟩

end Sys2Proof.Machine
end

section
namespace Sys2Proof.Machine

open Sys2Proof.Claims

/-! PROOFS. TraverseEntriesSkipAndChange. -/

/-- A fault of a core writes no memory. -/
theorem State.raiseAt_mem (s : State) (g c code : Nat) (w : Option (Nat × Nat × Nat)) (addr : Option Nat) :
    (s.raiseAt g c code w addr).mem = s.mem :=
  (congrArg State.mem (s.raiseAt_rest g c code w addr) :)

/-! ### Forwarding an empty total -/

theorem State.trvSend_mem (s : State) (g c v : Nat) (area : Mem) (poison : Bool) : (s.trvSend g c v area poison).mem = s.mem := by
  unfold State.trvSend
  dsimp only
  split
  · rfl
  · exact (FlowsOnly.flowSend (.refl _)).mem

/-- The module's own number is no field of another register. -/
theorem State.node_setF (s : State) (x : Fld) (v i j k : Nat) (h : F.NET_NODE_ID_ID.reg ≠ x.reg := by decide) :
    (s.setF x v i j k).node = s.node :=
  State.f_setF_name _ _ _ _ _ _ _ _ _ _ h

/-- An area in transit from entry v to its next hop in this module (R137). -/
def State.inTransit (s : State) (g c v : Nat) (area : Mem) (poison : Bool) : State :=
  { s.setF F.MTX_TRV_STATUS_CREDIT 0 g c v with
    transit := s.transit ++ [{ g := s.f F.MTX_TRV_NEXT_NEXT_CORE g c v, c := c, t := v,
                               node := s.node, core := g, area := area, poison := poison }] }

theorem State.trvSend_here {s : State} {g c v : Nat} (area : Mem) (poison : Bool)
    (h : s.f F.MTX_TRV_NEXT_NEXT_NODE g c v = s.node) : s.trvSend g c v area poison = s.inTransit g c v area poison := by
  rw [State.inTransit, ← h]
  exact if_pos (h.trans (s.node_setF _ _ _ _ _).symm)

theorem State.inTransit_credit (s : State) (g c v : Nat) (area : Mem) (poison : Bool) :
    (s.inTransit g c v area poison).fb F.MTX_TRV_STATUS_CREDIT g c v = false :=
  s.fb_setF_zero F.MTX_TRV_STATUS_CREDIT g c v (by decide)

/-- The empty total that an entry forwards in its own name (R139). -/
def State.emptyTotal (s : State) (g v : Nat) : Mem :=
  areaOf ⟨v, 0, 1, 0, s.coreWord g, s.coreWord g, s.clk.frame, (crc64 (zeroBytes 131072)).toNat⟩ []

/-- An entry that has forwarded its total: no forward waits, it is skipped, and MTX_EVENT.SKIP says so. -/
def State.skipped (s : State) (g c v : Nat) : State :=
  ((s.setHop g c v { s.hop g c v with wait := false }).setTrvState g c v 3).event F.MTX_EVENT_SKIP c

/-- The four ends of an empty forward: no credit, no next hop, or the total is sent. -/
theorem State.trvForward_empty (s : State) (g c v : Nat) :
    s.trvForward g c v true =
      if !s.fb F.MTX_TRV_STATUS_CREDIT g c v then s.setHop g c v { s.hop g c v with wait := true }
      else if !s.nextKnown g c v then s.raiseAt g c 0x05 none none
      else (s.trvSend g c v (s.emptyTotal g v) false).skipped g c v := rfl

/-- With credit and a next hop in this module the empty total goes by the transit list. -/
theorem State.trvForward_here {s : State} {g c v : Nat} (hcredit : s.fb F.MTX_TRV_STATUS_CREDIT g c v = true)
    (hnode : s.f F.MTX_TRV_NEXT_NEXT_NODE g c v = s.node) (hcore : s.coreOk (s.f F.MTX_TRV_NEXT_NEXT_CORE g c v) = true) :
    s.trvForward g c v true = (s.inTransit g c v (s.emptyTotal g v) false).skipped g c v := by
  have hknown : s.nextKnown g c v = true := (if_pos hnode).trans hcore
  rw [State.trvForward_empty, if_neg (by simp [hcredit]), if_neg (by simp [hknown]), State.trvSend_here _ _ hnode]

theorem State.skipped_mem (s : State) (g c v : Nat) : (s.skipped g c v).mem = s.mem := State.event_mem _ _ _ _ _

theorem State.trvForward_empty_mem (s : State) (g c v : Nat) : (s.trvForward g c v true).mem = s.mem := by
  rw [State.trvForward_empty]
  split
  · rfl
  · split
    · exact s.raiseAt_mem g c _ _ _
    · exact (State.skipped_mem _ g c v).trans (s.trvSend_mem g c v _ _)

theorem State.skipped_state (s : State) (g c v : Nat) : (s.skipped g c v).trvState g c v = 3 := by
  rw [State.trvState, State.skipped, State.f_event_name _ _ _ _ _ _ _ _ _ (by decide)]
  exact State.f_setF_same _ _ _ _ _ _ (by decide)

theorem State.skipped_credit (s : State) (g c v : Nat) :
    (s.skipped g c v).fb F.MTX_TRV_STATUS_CREDIT g c v = s.fb F.MTX_TRV_STATUS_CREDIT g c v := by
  rw [State.fb, State.skipped, State.f_event_name _ _ _ _ _ _ _ _ _ (by decide)]
  exact State.fb_setF_bits _ _ _ _ _ _ _ _ _ _ (by decide)

theorem State.skipped_event (s : State) (g c v : Nat) (h : c < 4) : bitN ((s.skipped g c v).f F.MTX_EVENT_SKIP) c = true :=
  State.event_set _ _ _ _ _ (by decide) h

theorem State.skipped_transit (s : State) (g c v : Nat) : (s.skipped g c v).transit = s.transit := by
  rw [State.skipped, State.event_rest]
  rfl

/-! ### The entry at its tick -/

/-- At its tick a late entry that is idle waits for its total, or, FIRST, forwards an empty one (R139). -/
theorem State.trvSkip_late {s : State} {g c v frame : Nat} (hen : s.fb F.MTX_TRV_NEXT_SKIP_EN g c v = true)
    (hlast : s.fb F.MTX_TRV_NEXT_LAST g c v = false) (hdue : s.f F.MTX_TRV_DUE_FRAME g c v + 1 = frame)
    (hsent : (s.hop g c v).sent = false) (hwait : (s.hop g c v).wait = false) (hidle : s.trvState g c v = 0) :
    s.trvSkip g c v frame = if s.fb F.MTX_TRV_NEXT_FIRST g c v then s.trvForward g c v true else s.setTrvState g c v 2 := by
  unfold State.trvSkip
  simp [hen, hlast, hdue, hsent, hwait, hidle]

/-! ### Writes of an entry -/

/-- MTIN or MTOUT on traverse v is queued. -/
theorem State.trvQueued_iff (s : State) (g c v : Nat) :
    s.trvQueued g c v = false ↔
      ∀ o ∈ (s.core g).mtxq, ¬(o.who.c = c ∧ (o.dec.op = .mtin ∨ o.dec.op = .mtout) ∧ o.dec.field 16 4 = v) := by
  simp [State.trvQueued, and_assoc]

/-- The entry of a core that exists is idle, and nothing on it is queued. -/
abbrev State.trvOpen (s : State) (g c v : Nat) : Prop :=
  s.coreOk g = true ∧ s.trvState g c v = 0 ∧ ∀ o ∈ (s.core g).mtxq,
    ¬(o.who.c = c ∧ (o.dec.op = .mtin ∨ o.dec.op = .mtout) ∧ o.dec.field 16 4 = v)

theorem State.trvOpen_iff (s : State) (g c v : Nat) :
    s.trvOpen g c v ↔ ¬ (!s.coreOk g || s.trvState g c v ≠ 0 || s.trvQueued g c v) = true := by
  rw [State.trvOpen, ← State.trvQueued_iff]
  simp [and_assoc]

theorem State.trvWrite_closed {s : State} {g c v : Nat} {w : TrvReg} {x : Word} (h : ¬ s.trvOpen g c v) :
    s.trvWrite g c v w x = s :=
  if_pos (not_not.1 (mt (s.trvOpen_iff g c v).2 h))

theorem State.trvWrite_open {s : State} {g c v : Nat} (h : s.trvOpen g c v) (w : TrvReg) (x : Word) :
    s.trvWrite g c v w x = match w with
      | .next => (s.setReg ⟨.MTX_TRV_NEXT, g, c, v⟩ (x &&& 0xFFFFF000FFFF3FFF#64)).setF F.MTX_TRV_STATUS_CREDIT 1 g c v
      | .land => s.setReg ⟨.MTX_TRV_LAND, g, c, v⟩ x
      | .late => s.setReg ⟨.MTX_TRV_LATE, g, c, v⟩ x :=
  if_neg ((s.trvOpen_iff g c v).1 h)

/-- Settles O20: the skip by the branches of State.trvSkip and of an empty forward, a write by whether the entry is open. -/
theorem traverseEntriesSkipAndChange : Obligations.TraverseEntriesSkipAndChange := by
  intro s g c v
  refine ⟨?quiet, ?late, ?write⟩
  case quiet =>
    intro htick
    exact congrArg Host.Outcome.next (if_neg (by simp [htick]))
  case late =>
    intro htick hen hlast hdue hsent hwait hidle
    refine ⟨_, congrArg Host.Outcome.next ((if_pos htick).trans (State.trvSkip_late hen hlast hdue hsent hwait hidle)), ?_⟩
    split
    next hfirst =>
      refine ⟨s.trvForward_empty_mem g c v, fun h => absurd hfirst (by simp [h]), fun _ hcredit hnode hcore => ?_⟩
      rw [State.trvForward_here hcredit hnode hcore]
      refine ⟨State.skipped_state _ g c v, (State.skipped_credit _ g c v).trans (s.inTransit_credit g c v _ _),
        State.skipped_event _ g c v, State.skipped_transit _ g c v⟩
    next hfirst =>
      exact ⟨rfl, fun _ => State.f_setF_same _ _ _ _ _ _ (by decide), fun h => absurd h hfirst⟩
  case write =>
    intro w x
    refine ⟨_, rfl, fun h => State.trvWrite_closed h, fun h => ?_⟩
    rw [State.trvWrite_open h]
    refine ⟨?_, ?_, ?_⟩
    · rintro rfl
      refine ⟨?_, State.fb_setF_one _ _ _ _ _ (by decide) rfl⟩
      rw [State.reg_setF_other _ _ _ _ _ _ (by simp), State.reg_setReg_same]
    · rintro rfl
      exact State.reg_setReg_same _ _ _
    · rintro rfl
      exact State.reg_setReg_same _ _ _

end Sys2Proof.Machine
end

section
namespace Sys2Proof.Machine

open Sys2Proof.Claims

/-! PROOFS. What discarding a context empties, and what it keeps (R51, R89). -/

theorem SMap.get_of_not_mem_keys {κ ν : Type} [DecidableEq κ] [DecidableEq ν] (d : ν) {m : SMap κ ν} {k : κ}
    (h : k ∉ SMap.keys m) : SMap.get d m k = d := by
  induction m with
  | nil => rfl
  | cons e m ih =>
    obtain ⟨hne, hm⟩ : k ≠ e.1 ∧ k ∉ SMap.keys m := by simpa [SMap.keys] using h
    exact (if_neg hne.symm).trans (ih hm)

/-- The contexts on the cores, and their strands. -/
def State.onCores (s : State) : SMap (Nat × Nat) Ctx × SMap (Nat × Nat × Nat) Strand := (s.ctxs, s.strands)

theorem Keeps.ctx {a t : State} {L : List Fld} (h : Keeps State.onCores a t L) (g c : Nat) : t.ctx g c = a.ctx g c := by
  have hctxs : t.ctxs = a.ctxs := congrArg Prod.fst h.part
  rw [State.ctx, State.ctx, hctxs]

theorem Keeps.strand {a t : State} {L : List Fld} (h : Keeps State.onCores a t L) (g c k : Nat) :
    t.strand g c k = a.strand g c k := by
  have hstrands : t.strands = a.strands := congrArg Prod.snd h.part
  rw [State.strand, State.strand, hstrands]

/-- t has the contexts and the strands of a, its halts by faults, and its fatal error. -/
abbrev HoldsContexts (a t : State) : Prop := Keeps State.onCores a t [F.ERR_FATAL_CODE, F.CORE_CTX_HALT_HALTED]

/-- The brackets, layers and accumulators of context c on core g are given up. -/
def State.bracketsFreed (s : State) (g c : Nat) : State :=
  iter 2 (fun k s => ((s.setBracket g c k none).setReg ⟨.MTX_LAYER, g, c, k⟩ 0).setAcc g c k 0 []) s

namespace HoldsContexts

variable {a s t : State}

theorem start (s : State) : HoldsContexts s s := .refl (fun _ _ _ _ => rfl) s

theorem setCore {g : Nat} {x : Core} (h : HoldsContexts a s) : HoldsContexts a (s.setCore g x) := h.other rfl rfl
theorem setChan {g ch : Nat} {x : Chan} (h : HoldsContexts a s) : HoldsContexts a (s.setChan g ch x) := h.other rfl rfl
theorem setHop {g c v : Nat} {x : Hop} (h : HoldsContexts a s) : HoldsContexts a (s.setHop g c v x) := h.other rfl rfl
theorem setTrn {c : Nat} {x : Trn} (h : HoldsContexts a s) : HoldsContexts a (s.setTrn c x) := h.other rfl rfl
theorem setSvc {c : Nat} {x : Svc} (h : HoldsContexts a s) : HoldsContexts a (s.setSvc c x) := h.other rfl rfl
theorem setMod {c : Nat} {x : ModCtx} (h : HoldsContexts a s) : HoldsContexts a (s.setMod c x) := h.other rfl rfl
theorem writeN {k n v : Nat} (h : HoldsContexts a s) : HoldsContexts a (s.writeN k n v) := h.other rfl rfl

theorem setBracket {g c k : Nat} {b : Option Bracket} (h : HoldsContexts a s) : HoldsContexts a (s.setBracket g c k b) :=
  h.other rfl rfl

theorem setAcc {g c k mode : Nat} {tot : SMap Nat Nat} (h : HoldsContexts a s) : HoldsContexts a (s.setAcc g c k mode tot) :=
  have held : HoldsContexts a { s with
      accs := SMap.set (fun k => (4 * k.1 + k.2.1) * 2 + k.2.2) [] s.accs (g, c, k) (if mode = 0 then [] else tot)
      badAcc := s.badAcc.filter (fun e => e ≠ (g, c, k)) } := h.other rfl rfl
  Keeps.ite held.setF held.setF

/-! ### What a context gives up on a core -/

theorem trvReset {g c : Nat} (h : HoldsContexts a s) : HoldsContexts a (s.trvReset g c) :=
  h.iter fun _ _ h => (setHop h).setF.setF.setF

theorem shadowEmpty {g ch : Nat} (h : HoldsContexts a s) : HoldsContexts a (s.shadowEmpty g ch) :=
  setCore (setChan (Keeps.iter h fun _ _ h => h.setReg).setF)

theorem chStop {g ch ending : Nat} (h : HoldsContexts a s) : HoldsContexts a (s.chStop g ch ending) :=
  (setChan (setCore h)).setF

theorem dmaDiscard {g c : Nat} (h : HoldsContexts a s) : HoldsContexts a (s.dmaDiscard g c) :=
  h.iter fun _ _ h => Keeps.ite h (Keeps.ite (shadowEmpty h) (chStop (shadowEmpty h)))

theorem dropWatch {x : SMap (Nat × Nat × Nat) (Option AccSrc)} {y : SMap (Nat × Nat) Nat} {z : List (Nat × Nat)}
    (h : HoldsContexts a s) :
    HoldsContexts a { s with accSrc := x, watch := y, stalled := z } := h.other rfl rfl

theorem bracketsFreed {g c : Nat} (h : HoldsContexts a s) : HoldsContexts a (s.bracketsFreed g c) :=
  h.iter fun _ _ h => setAcc (Keeps.setReg (setBracket h))

/-! ### What a context gives up in the module -/

theorem ctrClear {k : Nat} (h : HoldsContexts a s) : HoldsContexts a (s.ctrClear k) :=
  (h.setReg.setReg : HoldsContexts a ((s.setReg ⟨.COL_CTR_STATE, k, 0, 0⟩ 0).setReg ⟨.COL_CTR_ARR, k, 0, 0⟩ 0)).other rfl rfl

theorem colDiscard {c : Nat} (h : HoldsContexts a s) : HoldsContexts a (s.colDiscard c) := by
  refine Keeps.foldl (Keeps.foldl ?_ _ fun _ _ h => setCore h) _ fun _ _ h => ctrClear h
  exact h.other rfl rfl

theorem trnDiscard {c : Nat} (h : HoldsContexts a s) : HoldsContexts a (s.trnDiscard c) := setTrn h.setF.setF.setF

theorem svcCancel {c : Nat} (h : HoldsContexts a s) : HoldsContexts a (s.svcCancel c) :=
  (setSvc (Keeps.foldl h _ fun _ _ h => writeN h)).setF.setF

end HoldsContexts

/-! ### A core's part of a discard -/

/-- Context c on core g is empty, but for a load in progress, and its strands are free. -/
def State.ctxFreed (s : State) (g c : Nat) : State :=
  iter 8 (fun k s => s.freeStrand g c k) (s.setCtx g c { load := (s.ctx g c).load })

/-- The first n strands of a context on a core have become free, and nothing else has changed. -/
theorem State.freeStrands_eq (s : State) (g c n : Nat) :
    ∃ m, iter n (fun k s => s.freeStrand g c k) s = { s with strands := m } ∧ ∀ g' d k,
      SMap.get {} m (g', d, k) = if g' = g ∧ d = c ∧ k < n then {} else s.strand g' d k := by
  induction n with
  | zero => exact ⟨s.strands, rfl, fun g' d k => (if_neg (by simp)).symm⟩
  | succ n ih =>
    obtain ⟨m, he, hm⟩ := ih
    refine ⟨SMap.set (fun k => 32 * k.1 + 8 * k.2.1 + k.2.2) {} m (g, c, n) {}, ?_, fun g' d k => ?_⟩
    · simp only [iter] at he
      simp only [iter, List.range_succ, List.foldl_append, List.foldl_cons, List.foldl_nil, he]
      rfl
    · by_cases hk : (g', d, k) = (g, c, n)
      · obtain ⟨rfl, rfl, rfl⟩ : g' = g ∧ d = c ∧ k = n := by simpa using hk
        rw [SMap.get_set_same, if_pos (by simp)]
      · rw [SMap.get_set_other _ _ _ _ _ hk, hm]
        have hiff : (g' = g ∧ d = c ∧ k < n) ↔ g' = g ∧ d = c ∧ k < n + 1 := by
          simp only [Prod.mk.injEq] at hk
          omega
        simp only [hiff]

theorem State.ctxFreed_ctx (s : State) (g c g' d : Nat) :
    (s.ctxFreed g c).ctx g' d = if (g', d) = (g, c) then { load := (s.ctx g c).load } else s.ctx g' d := by
  obtain ⟨m, he, -⟩ := (s.setCtx g c { load := (s.ctx g c).load }).freeStrands_eq g c 8
  rw [State.ctxFreed, he]
  show (s.setCtx g c _).ctx g' d = _
  split
  · next h =>
    obtain ⟨rfl, rfl⟩ := Prod.mk.inj h
    exact s.ctx_setCtx_same g' d _
  · next h => exact s.ctx_setCtx_other _ h

theorem State.ctxFreed_strand (s : State) (g c g' d k : Nat) :
    (s.ctxFreed g c).strand g' d k = if g' = g ∧ d = c ∧ k < 8 then {} else s.strand g' d k := by
  obtain ⟨m, he, hm⟩ := (s.setCtx g c { load := (s.ctx g c).load }).freeStrands_eq g c 8
  rw [State.ctxFreed, he]
  exact hm g' d k

/-- ctxEmpty frees the context on the core, between operations that hold every context. -/
theorem State.ctxEmpty_frees (s : State) (g c : Nat) :
    ∃ u, HoldsContexts s u ∧ HoldsContexts (u.ctxFreed g c) (s.ctxEmpty g c) := by
  refine ⟨(s.trvReset g c).dmaDiscard g c, (HoldsContexts.start s).trvReset.dmaDiscard, ?_⟩
  exact (HoldsContexts.start _).setCore.bracketsFreed.dropWatch

theorem State.ctxEmpty_ctx (s : State) (g c g' d : Nat) :
    (s.ctxEmpty g c).ctx g' d = if (g', d) = (g, c) then { load := (s.ctx g c).load } else s.ctx g' d := by
  obtain ⟨u, hu, ht⟩ := s.ctxEmpty_frees g c
  rw [ht.ctx, u.ctxFreed_ctx, hu.ctx, hu.ctx]

theorem State.ctxEmpty_strand (s : State) (g c g' d k : Nat) :
    (s.ctxEmpty g c).strand g' d k = if g' = g ∧ d = c ∧ k < 8 then {} else s.strand g' d k := by
  obtain ⟨u, hu, ht⟩ := s.ctxEmpty_frees g c
  rw [ht.strand, u.ctxFreed_strand, hu.strand]

/-- t has the fields of ERR_FATAL and CORE_CTX_HALT of a. -/
abbrev HoldsHalts (a t : State) : Prop := Keeps (fun _ => ()) a t [F.ERR_FATAL_CODE, F.CORE_CTX_HALT_HALTED]

theorem State.ctxEmpty_halts (s : State) (g c : Nat) : HoldsHalts s (s.ctxEmpty g c) := by
  obtain ⟨u, hu, ht⟩ := s.ctxEmpty_frees g c
  have here : HoldsHalts u u := .refl (fun _ _ _ _ => rfl) u
  have hfreed : HoldsHalts u (u.ctxFreed g c) := Keeps.iter (here.other rfl rfl) fun _ _ h => h.other rfl rfl
  exact ((hu.view fun _ => ()).trans hfreed).trans (ht.view fun _ => ())

/-! ### A discard -/

/-- Context c is empty on the cores gs in t, but for loads in progress, and else as in s. -/
structure EmptiedOn (s t : State) (c : Nat) (gs : List Nat) : Prop where
  halts : HoldsHalts s t
  on : ∀ g ∈ gs, t.ctx g c = { load := (s.ctx g c).load }
  off : ∀ g, g ∉ gs → t.ctx g c = s.ctx g c
  others : ∀ g d, d ≠ c → t.ctx g d = s.ctx g d
  free : ∀ g ∈ gs, ∀ k, k < 8 → t.strand g c k = {}

theorem EmptiedOn.nil (s : State) (c : Nat) : EmptiedOn s s c [] where
  halts := .refl (fun _ _ _ _ => rfl) s
  on _ h := absurd h List.not_mem_nil
  off _ _ := rfl
  others _ _ _ := rfl
  free _ h := absurd h List.not_mem_nil

theorem EmptiedOn.ctxEmpty {s t : State} {c : Nat} {gs : List Nat} (h : EmptiedOn s t c gs) (g : Nat) :
    EmptiedOn s (t.ctxEmpty g c) c (gs ++ [g]) where
  halts := h.halts.trans (t.ctxEmpty_halts g c)
  on g' hg' := by
    have hload : (t.ctx g' c).load = (s.ctx g' c).load := by
      by_cases hin : g' ∈ gs
      · rw [h.on g' hin]
      · rw [h.off g' hin]
    rw [State.ctxEmpty_ctx]
    split
    · next he => rw [← (Prod.mk.inj he).1, hload]
    · next he => exact h.on g' (by simpa [show g' ≠ g by simpa using he] using hg')
  off g' hg' := by
    simp only [List.mem_append, List.mem_singleton, not_or] at hg'
    rw [State.ctxEmpty_ctx, if_neg (by simpa using hg'.2), h.off g' hg'.1]
  others g' d hd := by
    rw [State.ctxEmpty_ctx, if_neg (by simp [hd]), h.others g' d hd]
  free g' hg' k hk := by
    rw [State.ctxEmpty_strand]
    split
    · rfl
    · next he => exact h.free g' (by simpa [show g' ≠ g from fun e => he ⟨e, rfl, hk⟩] using hg') k hk

theorem EmptiedOn.foldl (s : State) (c : Nat) (l : List ((Nat × Nat) × Ctx)) :
    EmptiedOn s (l.foldl (fun s e => s.ctxEmpty e.1.1 c) s) c (l.map (·.1.1)) := by
  induction l using List.reverseRecOn with
  | nil => exact .nil s c
  | append_singleton l e ih =>
    rw [List.foldl_append, List.map_append]
    exact ih.ctxEmpty e.1.1

/-- A context that is not listed on a core is empty there. -/
theorem State.ctx_unlisted {s : State} {g c : Nat} (h : g ∉ (s.ctxs.filter (fun e => e.1.2 = c)).map (·.1.1)) :
    s.ctx g c = {} := by
  refine SMap.get_of_not_mem_keys _ fun hkey => h ?_
  obtain ⟨e, he, hk⟩ := List.mem_map.1 hkey
  exact List.mem_map.2 ⟨e, List.mem_filter.2 ⟨he, by simp [hk]⟩, by rw [hk]⟩

/-- The contexts listed cover every core on which the context holds something. -/
theorem EmptiedOn.emptied {s t : State} {c : Nat} (h : EmptiedOn s t c ((s.ctxs.filter (fun e => e.1.2 = c)).map (·.1.1))) :
    Emptied s t c := by
  refine ⟨fun g => ?_, h.others, fun g k hocc hk => ?_⟩
  · by_cases hg : g ∈ (s.ctxs.filter (fun e => e.1.2 = c)).map (·.1.1)
    · exact h.on g hg
    · rw [h.off g hg, State.ctx_unlisted hg]
  · refine h.free g (not_not.1 fun hg => ?_) k hk
    rw [State.occupied, State.ctx_unlisted hg] at hocc
    exact absurd hocc (by decide)

/-- What a discard gives up in the module, once the context is empty on every core. -/
def State.moduleDiscard (s : State) (c : Nat) : State :=
  ((((s.colDiscard c).trnDiscard c).svcCancel c).setMod c {}).setF F.FRM_WDOG_HALT_HALTED 0 c

theorem State.moduleDiscard_holds (s : State) (c : Nat) : HoldsContexts s (s.moduleDiscard c) :=
  (HoldsContexts.start s).colDiscard.trnDiscard.svcCancel.setMod.setF

theorem State.discard_eq (s : State) (c : Nat) : ∃ u, EmptiedOn s u c ((s.ctxs.filter (fun e => e.1.2 = c)).map (·.1.1)) ∧
    s.discard c = if (u.moduleDiscard c).f F.ERR_FATAL_CODE = 0 then (u.moduleDiscard c).setF F.CORE_CTX_HALT_HALTED 0 c
      else u.moduleDiscard c :=
  ⟨_, EmptiedOn.foldl s c _, rfl⟩

theorem State.discard_empties (s : State) (c : Nat) : Emptied s (s.discard c) c := by
  obtain ⟨u, hu, he⟩ := s.discard_eq c
  obtain ⟨hctx, hothers, hfree⟩ := hu.emptied
  have hmodule : Keeps State.onCores u (u.moduleDiscard c) [F.ERR_FATAL_CODE] := (u.moduleDiscard_holds c).mono (by decide)
  have hkeep : Keeps State.onCores u (s.discard c) [F.ERR_FATAL_CODE] := by
    rw [he]
    exact Keeps.ite hmodule.setF hmodule
  exact ⟨fun g => (hkeep.ctx g c).trans (hctx g), fun g d hd => (hkeep.ctx g d).trans (hothers g d hd),
    fun g k hocc hk => (hkeep.strand g c k).trans (hfree g k hocc hk)⟩

theorem State.discard_watchdog (s : State) (c : Nat) : (s.discard c).fb F.FRM_WDOG_HALT_HALTED c = false := by
  obtain ⟨u, -, he⟩ := s.discard_eq c
  have hoff : (u.moduleDiscard c).fb F.FRM_WDOG_HALT_HALTED c = false := State.fb_setF_zero _ _ _ _ _ (by decide)
  rw [he]
  split
  · rwa [State.fb_setF_name _ _ _ _ _ _ _ _ _ _ (by decide)]
  · exact hoff

/-- The halt of a fault ends, but after a fatal error. -/
theorem State.discard_fault (s : State) (c : Nat) : (s.discard c).fb F.CORE_CTX_HALT_HALTED c =
    (decide (s.f F.ERR_FATAL_CODE ≠ 0) && s.fb F.CORE_CTX_HALT_HALTED c) := by
  obtain ⟨u, hu, he⟩ := s.discard_eq c
  have hkeep : HoldsHalts s (u.moduleDiscard c) := hu.halts.trans ((u.moduleDiscard_holds c).view fun _ => ())
  rw [he, hkeep.field F.ERR_FATAL_CODE (by decide)]
  split
  · next h => rw [State.fb_setF_zero _ _ _ _ _ (by decide), h]; rfl
  · next h => rw [State.fb, hkeep.field F.CORE_CTX_HALT_HALTED (by decide)]; simp [h, State.fb]

end Sys2Proof.Machine
end

section
namespace Sys2Proof.Machine

open Sys2Proof.Claims

/-! PROOFS. WatchdogStallAndHaltControl. -/

/-! ### The watchdog -/

/-- A context on a core whose oldest open frame has reached the limit (R49). -/
def State.overdue (s : State) (c g : Nat) : Option (Nat × Nat) :=
  match (s.ctx g c).frames with
  | [] => none
  | x :: _ => if s.f F.FRM_WDOG_W c ≤ x.age then some (x.frame, g) else none

theorem State.watchdogCores_eq {s : State} {c : Nat} (hw : s.f F.FRM_WDOG_W c ≠ 0) (hh : s.halted c = false) :
    s.watchdogCores c = s.coreList.filterMap (s.overdue c) :=
  if_neg (by simp [hw, hh])

/-- No core is overdue where every oldest open frame is below the limit. -/
theorem State.watchdogCores_nil {s : State} {c : Nat}
    (h : ∀ g x rest, (s.ctx g c).frames = x :: rest → x.age < s.f F.FRM_WDOG_W c) :
    s.watchdogCores c = [] := by
  by_cases hoff : s.f F.FRM_WDOG_W c = 0 ∨ s.halted c = true
  · exact if_pos hoff
  · obtain ⟨hw, hh⟩ := not_or.1 hoff
    rw [State.watchdogCores_eq hw (by simpa using hh), List.filterMap_eq_nil_iff]
    intro g _
    unfold State.overdue
    split
    · rfl
    · next x rest hx => exact if_neg (Nat.not_le.2 (h g x rest hx))

/-- A filter that gives one value, at one member of a list without repetitions. -/
theorem filterMap_eq_singleton {α β : Type} [DecidableEq α] {l : List α} {a : α} (b : β) (hl : l.Nodup) (ha : a ∈ l) :
    l.filterMap (fun x => if x = a then some b else none) = [b] := by
  obtain ⟨l₁, l₂, rfl⟩ := List.append_of_mem ha
  have hout : a ∉ l₁ ++ l₂ := (List.nodup_cons.1 (List.nodup_middle.1 hl)).1
  have hnone (x : α) (hx : x ∈ l₁ ++ l₂) : (if x = a then some b else none) = none :=
    if_neg fun e : x = a => hout (e ▸ hx)
  have hnil := List.filterMap_eq_nil_iff.2 hnone
  rw [List.filterMap_append, List.append_eq_nil_iff] at hnil
  rw [List.filterMap_append, List.filterMap_cons, if_pos rfl, hnil.1, hnil.2, List.nil_append]

/-- The one core of the context with an open frame is the one named. -/
theorem State.watchdogCores_one {s : State} {c g : Nat} {x : OpenFrame} {rest : List OpenFrame}
    (hh : s.halted c = false) (hw : s.f F.FRM_WDOG_W c ≠ 0) (hg : s.coreOk g = true) (hx : (s.ctx g c).frames = x :: rest)
    (hage : s.f F.FRM_WDOG_W c ≤ x.age) (hothers : ∀ h, h ≠ g → (s.ctx h c).frames = []) :
    s.watchdogCores c = [(x.frame, g)] := by
  have hone : s.overdue c = fun h => if h = g then some (x.frame, g) else none := by
    funext h
    unfold State.overdue
    split_ifs with he
    · rw [he, hx]
      exact if_pos hage
    · rw [hothers h he]
  have hmem : g ∈ s.coreList := List.mem_filter.2 ⟨List.mem_range.2 (by simp [State.coreOk] at hg; omega), hg⟩
  have hnodup : s.coreList.Nodup := List.nodup_range.filter _
  rw [State.watchdogCores_eq hw hh, hone, filterMap_eq_singleton _ hnodup hmem]

/-- The halt by the watchdog: the core and the frame are named, and memory and the contexts stay. -/
def State.watchdogHalt (s : State) (c g frame : Nat) : State :=
  (((s.setF F.FRM_WDOG_HALT_HALTED 1 c).setF F.FRM_WDOG_HALT_CORE g c).setF F.FRM_WDOG_FRAME_FRAME frame c).event
    F.FRM_EVENT_WDOG c

theorem State.watchdog_nil {s : State} {c : Nat} (h : s.watchdogCores c = []) : s.watchdog c = s := by
  unfold State.watchdog
  rw [h]

theorem State.watchdog_one {s : State} {c g frame : Nat} (h : s.watchdogCores c = [(frame, g)]) :
    s.watchdog c = s.watchdogHalt c g frame := by
  unfold State.watchdog
  rw [h]
  rfl

theorem State.watchdogHalt_halted (s : State) (c g frame : Nat) :
    (s.watchdogHalt c g frame).fb F.FRM_WDOG_HALT_HALTED c = true := by
  rw [State.watchdogHalt, State.fb, State.f_event_name _ _ _ _ _ _ _ _ _ (by decide),
    State.f_setF_name _ _ _ _ _ _ _ _ _ _ (by decide), State.f_setF_bits _ _ _ _ _ _ _ _ _ _ (by decide)]
  exact State.fb_setF_one _ _ _ _ _ (by decide) rfl

theorem State.watchdogHalt_core (s : State) (c : Nat) {g : Nat} (frame : Nat) (hg : g < 256) :
    (s.watchdogHalt c g frame).f F.FRM_WDOG_HALT_CORE c = g := by
  rw [State.watchdogHalt, State.f_event_name _ _ _ _ _ _ _ _ _ (by decide), State.f_setF_name _ _ _ _ _ _ _ _ _ _ (by decide)]
  exact (State.f_setF_same _ _ _ _ _ _ (by decide)).trans (Nat.mod_eq_of_lt hg)

theorem State.watchdogHalt_frame (s : State) (c g frame : Nat) :
    (s.watchdogHalt c g frame).f F.FRM_WDOG_FRAME_FRAME c = frame % 2 ^ 64 := by
  rw [State.watchdogHalt, State.f_event_name _ _ _ _ _ _ _ _ _ (by decide)]
  exact State.f_setF_same _ _ _ _ _ _ (by decide)

theorem State.watchdogHalt_ctxs (s : State) (c g frame : Nat) : (s.watchdogHalt c g frame).ctxs = s.ctxs := by
  rw [State.watchdogHalt, State.event_rest]
  rfl

theorem State.not_running_of_watchdog {s : State} {c : Nat} (h : s.fb F.FRM_WDOG_HALT_HALTED c = true) (g : Nat) :
    s.running g c = false := by
  simp [State.running, State.haltedOn, h]

/-! ### The stall watch as time passes -/

/-- What dt units of 10 ns do to the watch of one context on a core (R52, R418). -/
def State.watchStep (s : State) (dt : Nat) (m : SMap (Nat × Nat) Nat) (e : Nat × Nat) : SMap (Nat × Nat) Nat :=
  if !(s.queuesBusy e.1 e.2).all id then SMap.set (fun k => 4 * k.1 + k.2) 0 m e 0
  else if s.owns e.1 e.2 && s.running e.1 e.2 then countUp (fun k => 4 * k.1 + k.2) m e dt
  else m

theorem State.watchStep_other (s : State) (dt : Nat) (m : SMap (Nat × Nat) Nat) {e e' : Nat × Nat} (h : e' ≠ e) :
    SMap.get 0 (s.watchStep dt m e) e' = SMap.get 0 m e' := by
  unfold State.watchStep countUp
  split_ifs
  · exact SMap.get_set_other _ _ _ _ _ h
  · rfl
  · exact SMap.get_set_other _ _ _ _ _ h
  · rfl

/-- Without work in every class the watch stands at 0. -/
theorem State.watchRun_idle {s : State} {g c : Nat} (h : (s.queuesBusy g c).all id = false) (hin : (g, c) ∈ SMap.keys s.ctxs)
    (dt : Nat) : SMap.get 0 (s.watchRun dt) (g, c) = 0 := by
  have hset (m : SMap (Nat × Nat) Nat) : SMap.get 0 (s.watchStep dt m (g, c)) (g, c) = 0 := by
    rw [State.watchStep, if_pos (by simp [h]), SMap.get_set_same]
  have hzero (l : List (Nat × Nat)) (m : SMap (Nat × Nat) Nat) (hm : SMap.get 0 m (g, c) = 0) :
      SMap.get 0 (l.foldl (s.watchStep dt) m) (g, c) = 0 := by
    refine List.foldlRecOn (motive := fun m => SMap.get 0 m (g, c) = 0) l _ hm fun m hm e _ => ?_
    by_cases he : (g, c) = e
    · rw [← he, hset]
    · rw [s.watchStep_other dt m he, hm]
  obtain ⟨l₁, l₂, hl⟩ := List.append_of_mem hin
  show SMap.get 0 ((SMap.keys s.ctxs).foldl (s.watchStep dt) s.watch) (g, c) = 0
  rw [hl, List.foldl_append, List.foldl_cons]
  exact hzero l₂ _ (hset _)

/-- Where the context is halted or does not own the core, the watch does not run. -/
theorem State.watchRun_held {s : State} {g c : Nat} (h : (s.queuesBusy g c).all id = true)
    (hheld : s.running g c = false ∨ s.owns g c = false) (dt : Nat) :
    SMap.get 0 (s.watchRun dt) (g, c) = SMap.get 0 s.watch (g, c) := by
  refine List.foldlRecOn (motive := fun m => SMap.get 0 m (g, c) = SMap.get 0 s.watch (g, c)) (SMap.keys s.ctxs)
    (s.watchStep dt) rfl
    fun m hm e _ => ?_
  by_cases he : (g, c) = e
  · rw [← he, State.watchStep, if_neg (by simp [h]), if_neg (by rcases hheld with h | h <;> simp [h]), hm]
  · rw [s.watchStep_other dt m he, hm]

/-- Where no tick is due, an idle step lets 10 ns pass. -/
theorem State.step_idle {s : State} (hp : s.pending = []) (hpwr : s.pwr.off = false) (hstart : s.clk.start = none)
    (hdue : s.clk.running = true → s.clk.now + 1 < s.nextTick) : step s = .next (s.advance (s.clk.now + 1)) := by
  have hnot : ¬ (s.clk.running && decide (s.nextTick ≤ s.clk.now + 1)) = true := by
    simpa [Nat.not_le] using hdue
  unfold step
  rw [hp]
  show s.idle = _
  rw [State.idle, if_neg (by simp [hpwr]), hstart]
  exact if_neg hnot

theorem State.advance_watch (s : State) {t : Nat} (h : s.clk.now < t) : (s.advance t).watch = s.watchRun (t - s.clk.now) := by
  unfold State.advance
  dsimp only
  split
  · omega
  · rfl

/-! ### Stalls -/

/-- A list of bits as a number, the first lowest. -/
def bitMask (l : List Bool) : Nat := l.foldr (fun b m => b.toNat + 2 * m) 0

/-- A record's first fields: the core, the queues and strands that hold work, the watch time and the frame. -/
def State.stallNamed (s : State) (g c : Nat) : State :=
  ((((s.setF F.FRM_STALL_SNAP0_CORE g c).setF F.FRM_STALL_SNAP0_QUEUES (bitMask (s.queuesBusy g c)) c).setF
    F.FRM_STALL_SNAP0_STRANDS (bitMask ((List.range 8).map (fun k => (s.strand g c k).exec))) c).setF
    F.FRM_STALL_SNAP0_DURATION (s.watchTime g c) c).setF F.FRM_STALL_SNAP1_FRAME s.clk.frame c

theorem State.stallRecord_keeps (s : State) (g c : Nat) : Keeps (fun _ => ()) (s.stallNamed g c) (s.stallRecord g c)
    [F.FRM_STALL_SNAP0_CORE, F.FRM_STALL_SNAP0_QUEUES, F.FRM_STALL_SNAP0_DURATION, F.FRM_STALL_SNAP1_FRAME] :=
  have here : Keeps (fun _ => ()) (s.stallNamed g c) (s.stallNamed g c)
    [F.FRM_STALL_SNAP0_CORE, F.FRM_STALL_SNAP0_QUEUES, F.FRM_STALL_SNAP0_DURATION, F.FRM_STALL_SNAP1_FRAME] :=
    .refl (fun _ _ _ _ => rfl) _
  by
    unfold State.stallRecord
    exact here.setF.setF.setF.setF.setF.setF.setF.event

theorem State.stallRecord_rest (s : State) (g c : Nat) :
    Keeps (fun s => (s.mem, s.stalled)) s (s.stallRecord g c) [] :=
  have here : Keeps (fun s : State => (s.mem, s.stalled)) s s [] := .refl (fun _ _ _ _ => rfl) s
  by
    unfold State.stallRecord
    exact here.setF.setF.setF.setF.setF.setF.setF.setF.setF.setF.setF.setF.event

theorem State.stallRecord_core (s : State) (g c : Nat) : (s.stallRecord g c).f F.FRM_STALL_SNAP0_CORE c = g % 256 := by
  rw [(s.stallRecord_keeps g c).field _ (by decide)]
  simp (disch := decide) only [State.stallNamed, State.f_setF_name, State.f_setF_bits, State.f_setF_same]
  rfl

theorem State.stallRecord_duration (s : State) (g c : Nat) :
    (s.stallRecord g c).f F.FRM_STALL_SNAP0_DURATION c = s.watchTime g c % 2 ^ 32 := by
  rw [(s.stallRecord_keeps g c).field _ (by decide)]
  simp (disch := decide) only [State.stallNamed, State.f_setF_name, State.f_setF_same]

theorem State.stallRecord_frame (s : State) (g c : Nat) :
    (s.stallRecord g c).f F.FRM_STALL_SNAP1_FRAME c = s.clk.frame % 2 ^ 64 := by
  rw [(s.stallRecord_keeps g c).field _ (by decide)]
  simp (disch := decide) only [State.stallNamed, State.f_setF_same]

/-- Where every class holds work, all seven bits of QUEUES are 1. -/
theorem State.stallRecord_queues {s : State} {g c : Nat} (h : (s.queuesBusy g c).all id = true) :
    (s.stallRecord g c).f F.FRM_STALL_SNAP0_QUEUES c = 127 := by
  have hall : s.queuesBusy g c = List.replicate 7 true := List.eq_replicate_iff.2 ⟨rfl, by simpa using h⟩
  rw [(s.stallRecord_keeps g c).field _ (by decide)]
  simp (disch := decide) only [State.stallNamed, State.f_setF_name, State.f_setF_bits, State.f_setF_same, hall]
  rfl

/-- The context stalls on the core: it runs there, every class holds work, and the watch is past the threshold, for the first
time (R52). -/
abbrev State.Stalls (s : State) (g c : Nat) : Prop :=
  s.f F.FRM_STALL_THRESH_THRESH c ≠ 0 ∧ s.running g c = true ∧ s.owns g c = true ∧ (g, c) ∉ s.stalled ∧
    (s.queuesBusy g c).all id = true ∧ s.f F.FRM_STALL_THRESH_THRESH c < s.watchTime g c

/-- The context's stall is known, until it makes progress. -/
def State.markStalled (s : State) (g c : Nat) : State := { s with stalled := (g, c) :: s.stalled }

/-- A stall: recorded, or counted as missed while the record of one is unread (R53). -/
def State.stall (s : State) (g c : Nat) : State :=
  if bitN (s.f F.FRM_EVENT_STALL) c then s.addF F.FRM_STALL_MISSED_COUNT 1 c else s.stallRecord g c

theorem execStallSnapshot_eq (g c : Nat) (s : State) [Decidable (s.Stalls g c)] :
    execStallSnapshot g c s = .next (if s.Stalls g c then (s.markStalled g c).stall g c else s) := by
  have hiff : s.Stalls g c ↔ ¬ (s.f F.FRM_STALL_THRESH_THRESH c = 0 || !s.running g c || !s.owns g c ||
      s.stalled.contains (g, c) || !(s.queuesBusy g c).all id ||
      decide (s.watchTime g c ≤ s.f F.FRM_STALL_THRESH_THRESH c)) = true := by
    simp [State.Stalls, and_assoc]
  by_cases h : s.Stalls g c
  · rw [if_pos h]
    exact if_neg (hiff.1 h)
  · rw [if_neg h]
    exact if_pos (not_not.1 (mt hiff.2 h))

theorem State.stall_rest (s : State) (g c : Nat) : Keeps (fun s => (s.mem, s.stalled)) s (s.stall g c) [] :=
  have here : Keeps (fun s : State => (s.mem, s.stalled)) s s [] := .refl (fun _ _ _ _ => rfl) s
  here.addF.ite (s.stallRecord_rest g c)

/-- A stall whose event bit is set adds to the missed ones and leaves the record. -/
theorem State.stall_missed {s : State} {g c : Nat} (h : bitN (s.f F.FRM_EVENT_STALL) c = true) :
    (s.stall g c).f F.FRM_STALL_MISSED_COUNT c = (s.f F.FRM_STALL_MISSED_COUNT c + 1) % 2 ^ F.FRM_STALL_MISSED_COUNT.len ∧
    (s.stall g c).reg ⟨.FRM_STALL_SNAP0, c, 0, 0⟩ = s.reg ⟨.FRM_STALL_SNAP0, c, 0, 0⟩ := by
  rw [State.stall, if_pos h]
  exact ⟨State.f_setF_same _ _ _ _ _ _ (by decide), State.reg_setF_other _ _ _ _ _ _ (by simp)⟩

theorem State.stall_recorded {s : State} {g c : Nat} (h : bitN (s.f F.FRM_EVENT_STALL) c = false) :
    s.stall g c = s.stallRecord g c :=
  if_neg (by simp [h])

/-- Settles O37: the watchdog by the one overdue core, the watch by the idle step, a stall by its record, DISCARD by what it
empties. -/
theorem watchdogStallAndHaltControl : Obligations.WatchdogStallAndHaltControl := by
  intro s c hc
  refine ⟨?quiet, ?fire, ?young, ⟨_, rfl, rfl⟩, ?watch, ?stall, ?resume, ?resumeFault, ?discard, ?discardFault⟩
  case quiet =>
    intro htick
    exact if_pos (by simp [htick])
  case fire =>
    intro g x rest htick hskip hhalt hw hcore hx hage hothers
    have hg : g < 256 := by simp [State.coreOk] at hcore; exact hcore.1
    have hhalted := s.watchdogHalt_halted c g x.frame
    refine ⟨s.watchdogHalt c g x.frame, ?_, hhalted, s.watchdogHalt_core c x.frame hg, s.watchdogHalt_frame c g x.frame,
      State.event_set _ _ _ _ _ (by decide) hc, State.event_mem _ _ _ _ _, s.watchdogHalt_ctxs c g x.frame,
      State.not_running_of_watchdog hhalted⟩
    rw [← State.watchdog_one (State.watchdogCores_one hhalt hw hcore hx hage hothers)]
    exact if_neg (by simp [htick, hskip, hc])
  case young =>
    intro h
    show execFrameWatchdogFire c s = _
    rw [execFrameWatchdogFire, State.watchdog_nil (State.watchdogCores_nil h), ite_self]
  case watch =>
    intro g hp hpwr hstart hdue hin
    refine ⟨_, State.step_idle hp hpwr hstart hdue, ?_, ?_⟩
    · obtain ⟨cyc, hclk⟩ := s.advance_clk (s.clk.now + 1)
      rw [hclk]
      exact Nat.max_eq_right (Nat.le_succ _)
    · dsimp only
      rw [s.advance_watch (Nat.lt_add_one _)]
      exact ⟨fun h => State.watchRun_idle h hin _, fun h hheld => State.watchRun_held h hheld _⟩
  case stall =>
    intro g
    classical
    refine ⟨_, execStallSnapshot_eq g c s, ?_⟩
    obtain ⟨hmem, hstalled⟩ := Prod.mk.inj ((s.markStalled g c).stall_rest g c).part
    split
    next h =>
      obtain ⟨-, -, -, -, hbusy, -⟩ := id h
      refine ⟨hmem, fun hn => absurd h hn, fun _ =>
        ⟨?_, fun hbit => State.stall_missed (s := s.markStalled g c) hbit, fun hbit => ?_⟩⟩
      · rw [hstalled]
        exact List.mem_cons_self
      · rw [State.stall_recorded (s := s.markStalled g c) hbit]
        exact ⟨State.event_set _ _ _ _ _ (by decide) hc, State.stallRecord_core _ g c,
          State.stallRecord_queues (s := s.markStalled g c) hbusy, State.stallRecord_duration _ g c,
          State.stallRecord_frame _ g c⟩
    next h => exact ⟨rfl, fun _ => rfl, fun hs => absurd hs h⟩
  case resume =>
    by_cases h : s.fb F.FRM_WDOG_HALT_HALTED c = true
    · exact ⟨_, if_neg (by simp [h]), fun hn => absurd (hn.symm.trans h) (by decide), fun _ => rfl⟩
    · exact ⟨s, if_pos (by simpa using h), fun _ => rfl, fun hh => absurd hh h⟩
  case resumeFault =>
    by_cases h : s.fb F.CORE_CTX_HALT_HALTED c = true ∧ s.f F.ERR_FATAL_CODE = 0
    · refine ⟨_, if_neg (by simp [h]), fun hn => ?_, fun _ _ => rfl⟩
      exact hn.elim (fun hn => absurd (hn.symm.trans h.1) (by decide)) (absurd h.2)
    · exact ⟨s, if_pos (by simpa [imp_iff_not_or] using h), fun _ => rfl, fun hh he => absurd ⟨hh, he⟩ h⟩
  case discard =>
    by_cases h : s.fb F.FRM_WDOG_HALT_HALTED c = true
    · exact ⟨_, if_neg (by simp [h]), fun hn => absurd (hn.symm.trans h) (by decide),
        fun _ => ⟨s.discard_empties c, s.discard_watchdog c⟩⟩
    · exact ⟨s, if_pos (by simpa using h), fun _ => rfl, fun hh => absurd hh h⟩
  case discardFault =>
    have hfault := s.discard_fault c
    by_cases h : s.fb F.CORE_CTX_HALT_HALTED c = true
    · refine ⟨_, if_neg (by simp [h]), fun hn => absurd (hn.symm.trans h) (by decide),
        fun _ => ⟨s.discard_empties c, fun he => ?_, fun he => ?_⟩⟩
      · simpa [he] using hfault
      · simpa [he, h] using hfault
    · exact ⟨s, if_pos (by simpa using h), fun _ => rfl, fun hh => absurd hh h⟩

end Sys2Proof.Machine
end

section
namespace Sys2Proof.Machine

open Sys2Proof.Claims

/-! PROOFS. RegisterAndImmediateOperations. -/

/-! ### Bit fields and immediates -/

/-- IMM32, sign-extended, is the two's complement of its signed value (R78). -/
theorem Dec.immS_eq (d : Dec) : d.immS = BitVec.ofInt 64 (simm d) := rfl

theorem bits_lt (w : Word) (lo len : Nat) : bits w lo len < 2 ^ len := Nat.mod_lt _ (Nat.two_pow_pos len)

theorem bits_low (w : Word) (len : Nat) : bits w 0 len = w.toNat % 2 ^ len := by simp [bits, bitsN]

/-! ### The operations over the integers (Table ISA-7) -/

theorem ofNat_shiftLeft (a : Word) (n : Nat) : a <<< n = BitVec.ofNat 64 (a.toNat * 2 ^ n) := by
  apply BitVec.eq_of_toNat_eq
  simp [Nat.shiftLeft_eq]

theorem ofNat_shiftRight (a : Word) (n : Nat) : a >>> n = BitVec.ofNat 64 (a.toNat / 2 ^ n) := by
  apply BitVec.eq_of_toNat_eq
  have h : a.toNat / 2 ^ n < 2 ^ 64 := lt_of_le_of_lt (Nat.div_le_self _ _) a.isLt
  rw [BitVec.toNat_ushiftRight, Nat.shiftRight_eq_div_pow, BitVec.toNat_ofNat, Nat.mod_eq_of_lt h]

theorem ofInt_sshiftRight (a : Word) (n : Nat) : a.sshiftRight n = BitVec.ofInt 64 (a.toInt / 2 ^ n) := by
  rw [BitVec.sshiftRight_eq, Int.shiftRight_eq_div_pow, Nat.cast_pow, Nat.cast_ofNat]

theorem eq_ofNat_of_toNat {f : Nat → Nat → Nat} {a b x : Word} (h : x.toNat = f a.toNat b.toNat) :
    x = BitVec.ofNat 64 (f a.toNat b.toNat) := by rw [← h, BitVec.ofNat_toNat, BitVec.setWidth_eq]

theorem ofNat_mul (a b : Word) : a * b = BitVec.ofNat 64 (a.toNat * b.toNat) := by
  rw [BitVec.ofNat_mul, BitVec.ofNat_toNat, BitVec.ofNat_toNat, BitVec.setWidth_eq, BitVec.setWidth_eq]

theorem ofInt_sub (a b : Word) : a - b = BitVec.ofInt 64 (a.toInt - b.toInt) := by
  apply BitVec.eq_of_toInt_eq
  rw [BitVec.toInt_sub, BitVec.toInt_ofInt]

theorem oneIf_decide (p : Prop) [Decidable p] : oneIf (decide p) = if p then 1 else 0 := by
  by_cases h : p <;> simp [oneIf, h]

theorem word_eq_zero_iff (b : Word) : b = 0 ↔ b.toNat = 0 := BitVec.toNat_eq.trans Iff.rfl

theorem ofInt_min (a b : Word) : (if ltS b a then b else a) = BitVec.ofInt 64 (min a.toInt b.toInt) := by
  by_cases h : b.toInt < a.toInt
  · simp [ltS, h, min_eq_right h.le]
  · simp [ltS, h, min_eq_left (not_lt.mp h)]

theorem ofInt_max (a b : Word) : (if ltS a b then b else a) = BitVec.ofInt 64 (max a.toInt b.toInt) := by
  by_cases h : a.toInt < b.toInt
  · simp [ltS, h, max_eq_right h.le]
  · simp [ltS, h, max_eq_left (not_lt.mp h)]

/-- The set bits of a number, counted by position. -/
theorem popCount_eq_countP (n v : Nat) : popCount n v = (List.range n).countP (fun i => v.testBit i) := by
  induction n generalizing v with
  | zero => rfl
  | succ n ih =>
    have hbit : v % 2 = if v.testBit 0 = true then 1 else 0 := by
      rw [Nat.testBit_zero]
      rcases Nat.mod_two_eq_zero_or_one v with h | h <;> simp [h]
    rw [popCount, ih, hbit, List.range_succ_eq_map, List.countP_cons, List.countP_map, Nat.add_comm]
    congr 2
    funext i
    simp [Nat.testBit_succ]

/-- With n bits left to look at, the search finds the highest set bit of a word below 2^n. -/
theorem clzFrom_eq {n : Nat} {w : Word} (hn : n ≤ 64) (hw : w.toNat < 2 ^ n) :
    clzFrom n (64 - n) w = if w.toNat = 0 then 64 else 63 - w.toNat.log2 := by
  induction n with
  | zero =>
    have h0 : w.toNat = 0 := by simpa using hw
    simp [clzFrom, h0]
  | succ n ih =>
    have hbit : bit w (63 - (64 - (n + 1))) = decide (2 ^ n ≤ w.toNat) := by
      have h63 : 63 - (64 - (n + 1)) = n := by omega
      have hq : w.toNat / 2 ^ n < 2 := Nat.div_lt_of_lt_mul (by rwa [pow_succ] at hw)
      have hge : 1 ≤ w.toNat / 2 ^ n ↔ 2 ^ n ≤ w.toNat := by
        rw [Nat.le_div_iff_mul_le (Nat.two_pow_pos n), Nat.one_mul]
      rw [h63, bit, bits, bitsN, pow_one, Nat.mod_eq_of_lt hq]
      simp only [beq_eq_decide, decide_eq_decide]
      omega
    rw [clzFrom, hbit]
    by_cases hge : 2 ^ n ≤ w.toNat
    · have hpos : w.toNat ≠ 0 := by have := Nat.two_pow_pos n; omega
      have hlog : w.toNat.log2 = n := (Nat.log2_eq_iff hpos).mpr ⟨hge, hw⟩
      simp only [hge, decide_true, if_true, hpos, if_false, hlog]
      omega
    · have hk : 64 - (n + 1) + 1 = 64 - n := by omega
      simp only [hge, decide_false, Bool.false_eq_true, if_false, hk]
      exact ih (by omega) (by omega)

theorem clz_eq (a : Word) : clz a = if a.toNat = 0 then 64 else 63 - a.toNat.log2 :=
  clzFrom_eq (n := 64) (le_refl 64) a.isLt

theorem lui_eq (r : Word) (d : Dec) : lui r d.imm = BitVec.ofNat 64 (d.field 12 32 * 2 ^ 32 + r.toNat % 2 ^ 32) := by
  rw [lui, Dec.imm, Nat.mod_eq_of_lt (show d.field 12 32 < 2 ^ 32 from bits_lt d.raw 12 32)]

theorem ofInt_add_simm (a : Word) (d : Dec) : a + d.immS = BitVec.ofInt 64 (a.toInt + simm d) := by
  rw [BitVec.ofInt_add, BitVec.ofInt_toInt, Dec.immS_eq]

/-- IMM32 lies in the signed range of a word. -/
theorem Dec.toInt_immS (d : Dec) : d.immS.toInt = simm d := by
  have hlt : d.field 12 32 < 2 ^ 32 := bits_lt _ _ _
  have hr : -2 ^ 31 ≤ simm d ∧ simm d < 2 ^ 31 := by
    simp only [simm, signedN]
    split <;> omega
  rw [Dec.immS_eq, BitVec.toInt_ofInt, Int.bmod_eq_of_le] <;> omega

/-- IMM32[5:0] is the shift count. -/
theorem Dec.shift_immS (d : Dec) : bits d.immS 0 6 = d.field 12 6 := by
  have hv : d.field 12 32 = d.raw.toNat / 2 ^ 12 % 2 ^ 32 := rfl
  have hs : d.field 12 6 = d.raw.toNat / 2 ^ 12 % 2 ^ 6 := rfl
  rw [bits_low, Dec.immS_eq, BitVec.toNat_ofInt, hs]
  simp only [simm, signedN, hv]
  split <;> omega

/-! ### The instructions -/

/-- A register-register operation that can issue retires with its result. -/
theorem State.aluR_retires {s : State} {g c k : Nat} {op : Op} {d : Dec} (h : s.At g c k op d) {f : Word → Word → Word}
    {v : Word} (hf : f ((s.strand g c k).rd d.rs1) ((s.strand g c k).rd d.rs2) = v) :
    ∃ t, (.next (s.aluR g c k op f) : Host.Outcome State Fault Refusal) = .next t ∧
      s.Retires t g c k d.rd v := by
  refine ⟨_, rfl, ?_⟩
  rw [State.aluR, State.issue_of_at h, hf]
  exact s.retireRd_retires g c k d.rd _

/-- One of latency class B does too. -/
theorem State.aluB_retires {s : State} {g c k n : Nat} {op : Op} {d : Dec} (h : s.At g c k op d) {f : Word → Word → Word}
    {v : Word} (hf : f ((s.strand g c k).rd d.rs1) ((s.strand g c k).rd d.rs2) = v) :
    ∃ t, (.next (s.aluB g c k op n f) : Host.Outcome State Fault Refusal) = .next t ∧
      s.Retires t g c k d.rd v := by
  refine ⟨_, rfl, ?_⟩
  rw [State.aluB, State.issue_of_at h, hf]
  exact s.retireB_retires g c k d.rd _ n

/-- A register-immediate operation that can issue retires with its result. -/
theorem State.aluI_retires {s : State} {g c k : Nat} {op : Op} {d : Dec} (h : s.At g c k op d) {f : Word → Word → Word}
    {v : Word} (hf : f ((s.strand g c k).rd d.rs1) d.immS = v) :
    ∃ t, (.next (s.aluI g c k op f) : Host.Outcome State Fault Refusal) = .next t ∧ s.Retires t g c k d.rd v := by
  refine ⟨_, rfl, ?_⟩
  rw [State.aluI, State.issue_of_at h, hf]
  exact s.retireRd_retires g c k d.rd v

theorem execLui_retires {s : State} {g c k : Nat} {d : Dec} (h : s.At g c k .lui d) :
    ∃ t, execLui g c k s = .next t ∧
      s.Retires t g c k d.rd (BitVec.ofNat 64 (d.field 12 32 * 2 ^ 32 + ((s.strand g c k).rd d.rd).toNat % 2 ^ 32)) := by
  refine ⟨_, rfl, ?_⟩
  rw [State.issue_of_at h, lui_eq]
  exact s.retireRd_retires g c k d.rd _

/-- Settles O1: each operation, as the model computes it, is the operation over the integers. -/
theorem registerAndImmediateOperations : Obligations.RegisterAndImmediateOperations := by
  constructor
  · intro s g c k d
    simp only [registerOps, List.forall_mem_cons, List.not_mem_nil, false_implies, implies_true, and_true]
    refine ⟨?add, ?sub, ?and, ?or, ?xor, ?sll, ?srl, ?sra, ?slt, ?sltu, ?mul, ?mulhu, ?divu, ?remu, ?min, ?max, ?popc,
      ?clz⟩ <;> intro h
    case add => exact State.aluR_retires h (BitVec.add_def ..)
    case sub => exact State.aluR_retires h (ofInt_sub ..)
    case and => exact State.aluR_retires h (eq_ofNat_of_toNat (BitVec.toNat_and ..))
    case or => exact State.aluR_retires h (eq_ofNat_of_toNat (BitVec.toNat_or ..))
    case xor => exact State.aluR_retires h (eq_ofNat_of_toNat (BitVec.toNat_xor ..))
    case sll => exact State.aluR_retires h (by rw [bits_low, ofNat_shiftLeft]; rfl)
    case srl => exact State.aluR_retires h (by rw [bits_low, ofNat_shiftRight]; rfl)
    case sra => exact State.aluR_retires h (by rw [bits_low, ofInt_sshiftRight]; rfl)
    case slt => exact State.aluR_retires h (oneIf_decide _)
    case sltu => exact State.aluR_retires h (oneIf_decide _)
    case mul => exact State.aluB_retires h (ofNat_mul ..)
    case mulhu => exact State.aluB_retires h rfl
    case divu => exact State.aluB_retires h (by simp only [divU, word_eq_zero_iff])
    case remu => exact State.aluB_retires h (by simp only [remU, word_eq_zero_iff])
    case min => exact State.aluR_retires h (ofInt_min ..)
    case max => exact State.aluR_retires h (ofInt_max ..)
    case popc => exact State.aluR_retires h (congrArg _ (popCount_eq_countP 64 _))
    case clz => exact State.aluR_retires h (congrArg _ (clz_eq _))
  · intro s g c k d
    simp only [immediateOps, List.forall_mem_cons, List.not_mem_nil, false_implies, implies_true, and_true]
    refine ⟨?addi, ?andi, ?ori, ?xori, ?slli, ?srli, ?srai, ?slti, ?li, ?lui⟩ <;> intro h
    case addi => exact State.aluI_retires h (ofInt_add_simm _ d)
    case andi => exact State.aluI_retires h rfl
    case ori => exact State.aluI_retires h rfl
    case xori => exact State.aluI_retires h rfl
    case slli => exact State.aluI_retires h (by rw [Dec.shift_immS, ofNat_shiftLeft])
    case srli => exact State.aluI_retires h (by rw [Dec.shift_immS, ofNat_shiftRight])
    case srai => exact State.aluI_retires h (by rw [Dec.shift_immS, ofInt_sshiftRight])
    case slti => exact State.aluI_retires h (by rw [ltS, oneIf_decide, Dec.toInt_immS])
    case li => exact State.aluI_retires h rfl
    case lui => exact execLui_retires h

end Sys2Proof.Machine
end

section
namespace Sys2Proof.Machine

open Sys2Proof.Claims

/-! PROOFS. BranchesAndJumps, WaitsNopsAndTheIssueSlot. -/

/-! ### Branches and jumps -/

/-- A jump out of the block raises 0x03 (R78). -/
theorem State.jump_faults {s : State} {g c k : Nat} {z : Int} {u : Strand}
    (h : ¬(0 ≤ z ∧ z ≤ ((s.ctx g c).blk u.block).lenM1)) : s.Faults (s.jump g c k z u) g c k 0x03 := by
  rw [State.jump, if_neg h]
  exact s.raise_faults g c k 0x03 none

/-- A branch that can issue jumps where its comparison holds, and otherwise goes on. -/
theorem State.branch_spec {s : State} {g c k : Nat} {op : Op} {d : Dec} (h : s.At g c k op d) {p : Word → Word → Bool}
    {b : Bool} (hp : p ((s.strand g c k).rd d.rs1) ((s.strand g c k).rd d.rs2) = b) :
    ∃ t, (.next (s.branch g c k op p) : Host.Outcome State Fault Refusal) = .next t ∧
      let u := s.strand g c k
      let target := (u.pc : Int) + signedN 16 (d.field 23 16)
      if b = true then
        if 0 ≤ target ∧ target ≤ lastIndex s g c k then s.GoesTo t g c k target.toNat else s.Faults t g c k 0x03
      else s.GoesTo t g c k (u.pc + 1) := by
  refine ⟨_, rfl, ?_⟩
  rw [State.branch, State.issue_of_at h]
  simp only [hp]
  split
  · split
    next hin =>
      obtain ⟨hst, honly⟩ := s.jump_goes g c k _ _ hin
      exact ⟨hst, honly⟩
    next hout => exact State.jump_faults hout
  · exact ⟨(s.retire_passes g c k).strand, (s.retire_passes g c k).frame⟩

/-- A jump that writes the index of the next instruction to register r. -/
theorem State.jump_link (s : State) (g c k r : Nat) (z : Int) :
    let u := s.strand g c k
    let t := s.jump g c k z (u.wr r (BitVec.ofNat 64 (u.pc + 1)))
    if 0 ≤ z ∧ z ≤ lastIndex s g c k then
      (∀ q, (t.strand g c k).rd q = if q = r ∧ q ≠ 0 then BitVec.ofNat 64 (u.pc + 1) else u.rd q) ∧
      t.strand g c k = { u with pc := z.toNat, regs := (t.strand g c k).regs } ∧ s.OnlyStrand t g c k
    else s.Faults t g c k 0x03 := by
  intro u t
  have hblock : lastIndex s g c k = ((s.ctx g c).blk (u.wr r (BitVec.ofNat 64 (u.pc + 1))).block).lenM1 := by
    rw [Strand.wr_block, lastIndex]
  split
  next hin =>
    obtain ⟨hst, honly⟩ := s.jump_goes g c k z (u.wr r (BitVec.ofNat 64 (u.pc + 1))) (hblock ▸ hin)
    refine ⟨fun q => ?_, ?_, honly⟩
    · have hrd : (t.strand g c k).rd q = (u.wr r (BitVec.ofNat 64 (u.pc + 1))).rd q := by rw [hst]; rfl
      rw [hrd, Strand.rd_wr]
      have hiff : q = r ∧ r ≠ 0 ↔ q = r ∧ q ≠ 0 := and_congr_right fun e => by rw [e]
      simp only [hiff]
    · rw [hst, Strand.wr_eq]
  next hout => exact State.jump_faults (hblock ▸ hout)

/-- Settles O2: a branch by branch_spec, a jump by jump_link. -/
theorem branchesAndJumps : Obligations.BranchesAndJumps := by
  constructor
  · intro s g c k d
    simp only [branchOps, List.forall_mem_cons, List.not_mem_nil, false_implies, implies_true, and_true]
    refine ⟨?beq, ?bne, ?blt, ?bge, ?bltu, ?bgeu⟩ <;> intro h
    case beq => exact State.branch_spec h (beq_eq_decide ..)
    case bne => exact State.branch_spec h (by rw [bne, beq_eq_decide, decide_not])
    case blt => exact State.branch_spec h rfl
    case bge => exact State.branch_spec h (by simp only [ltS, ← not_lt, decide_not])
    case bltu => exact State.branch_spec h rfl
    case bgeu => exact State.branch_spec h (by simp only [ltU, ← not_lt, decide_not])
  · intro s g c k d u lands
    refine ⟨fun h => ⟨_, rfl, ?_⟩, fun h => ⟨_, rfl, ?_⟩⟩
    · rw [State.issue_of_at h]
      exact s.jump_link g c k d.rd (u.pc + simm d)
    · rw [State.issue_of_at h]
      exact s.jump_link g c k d.rd ((u.rd d.rs1 + d.immS).toNat : Int)

/-! ### What issue leaves of the other parts -/

namespace State.OnlyStrand

variable {s t : State} {g c k : Nat}

theorem unseen (h : s.OnlyStrand t g c k) : t.unseen = s.unseen := (congrArg State.unseen h.rest :)
theorem mem (h : s.OnlyStrand t g c k) : t.mem = s.mem := (congrArg State.mem h.rest :)
theorem ctxs (h : s.OnlyStrand t g c k) : t.ctxs = s.ctxs := (congrArg State.ctxs h.rest :)
theorem ctx (h : s.OnlyStrand t g c k) (g' c' : Nat) : t.ctx g' c' = s.ctx g' c' := by rw [State.ctx, h.ctxs]; rfl

end State.OnlyStrand

theorem State.issued_iss (s : State) (g c k : Nat) : ((s.issued g c k).core g).iss = (s.core g).iss.pass c k := by
  simp [State.issued]

theorem State.retire_iss (s : State) (g c k : Nat) (u : Strand) :
    ((s.retire g c k u).core g).iss = (s.core g).iss.pass c k := by
  rw [State.retire, State.issued_iss, State.setStrand_core]

/-! ### The issue slot (R63) -/

/-- A key that does not read its default is listed. -/
theorem SMap.exists_mem_of_get_ne {κ ν : Type} [DecidableEq κ] [DecidableEq ν] {d : ν} {m : SMap κ ν} {a : κ}
    (h : SMap.get d m a ≠ d) : ∃ e ∈ m, e.1 = a := by
  induction m with
  | nil => exact absurd rfl h
  | cons e m ih =>
    by_cases ha : e.1 = a
    · exact ⟨e, List.mem_cons_self, ha⟩
    · rw [SMap.get, if_neg ha] at h
      obtain ⟨e', hmem, he'⟩ := ih h
      exact ⟨e', List.mem_cons_of_mem _ hmem, he'⟩

/-- A strand that executes is listed. -/
theorem State.ready_listed {s : State} {g c k : Nat} (h : s.ready g c k = true) : ∃ e ∈ s.strands, e.1 = (g, c, k) := by
  refine SMap.exists_mem_of_get_ne (d := {}) fun hd => ?_
  have hs : s.strand g c k = {} := hd
  simp [State.ready, hs] at h

/-- A strand does not issue while another of its core, with an earlier place, surely can (R63). -/
theorem State.canIssue_of_earlier {s : State} {g c k c' k' : Nat} (hr : s.ready g c' k' = true) (ha : s.able g c' k' = true)
    (hp : (s.core g).iss.place c' k' < (s.core g).iss.place c k) : s.canIssue g c k = false := by
  obtain ⟨e, he, hkey⟩ := State.ready_listed hr
  have hturn : s.turn g c k = false := by
    simp only [State.turn, Bool.not_eq_false', List.any_eq_true]
    exact ⟨e, he, by simp [hkey, hp, hr, ha]⟩
  rw [State.canIssue, hturn, Bool.and_false]

theorem IssueSlot.place_kept {x : IssueSlot} {c k : Nat} (hl : x.last = some (c, k)) (hr : x.run < 256) : x.place c k = 0 := by
  simp [IssueSlot.place, hl, hr]

theorem IssueSlot.place_given {x : IssueSlot} {c k : Nat} (hl : x.last = some (c, k)) (hr : 256 ≤ x.run) : x.place c k = 33 := by
  simp [IssueSlot.place, hl, not_lt.mpr hr]

theorem IssueSlot.place_other {x : IssueSlot} {c k c0 k0 : Nat} (hl : x.last = some (c0, k0)) (h : (c, k) ≠ (c0, k0)) :
    x.place c k = (8 * c + k + 63 - (8 * c0 + k0)) % 32 + 1 := by
  simp only [IssueSlot.place, hl, h, if_false]

/-! ### Waits -/

theorem State.engineBusy_iff (s : State) (g c k : Nat) (m v : Bool) :
    s.engineBusy g c k m v = true ↔
      (m = true ∧ ∃ o ∈ (s.core g).mtxq, decide (o.who.c = c ∧ o.who.k = k) = true) ∨
      (v = true ∧ ∃ o ∈ (s.core g).vecq, decide (o.who.c = c ∧ o.who.k = k) = true) := by
  simp only [State.engineBusy, Bool.or_eq_true, Bool.and_eq_true, List.any_eq_true]

theorem State.memBusy_iff (s : State) (g c k : Nat) :
    s.memBusy g c k = true ↔
      (∃ r ∈ (s.core g).slots, decide (r.who.c = c ∧ r.who.k = k) = true) ∨
      (∃ r ∈ (s.core g).sideq, decide (r.who.c = c ∧ r.who.k = k) = true) ∨
      ∃ o ∈ (s.core g).spurq, decide (o.who.c = c ∧ o.who.k = k) = true := by
  simp only [State.memBusy, Bool.or_eq_true, List.any_eq_true, or_assoc]

/-- The stores of a strand that the engines see from now on leave the record of its core (R84). -/
theorem State.storesSeen_get (s : State) (g c k h : Nat) :
    SMap.get [] (s.storesSeen g c k).unseen h =
      if h = g then (SMap.get [] s.unseen g).filter (fun e => !decide (e.c = c ∧ e.k = k)) else SMap.get [] s.unseen h := by
  split
  next e => rw [e]; exact SMap.get_set_same ..
  next e => exact SMap.get_set_other _ _ _ _ _ e

/-- A retirement from a state that differs in the record of unseen stores alone. -/
theorem State.retire_passes_unseen (s : State) (g c k : Nat) (m : SMap Nat (List Unseen)) :
    let t := ({ s with unseen := m } : State).retire g c k (s.strand g c k)
    ({ s with unseen := t.unseen } : State).Passes t g c k ∧ t.unseen = m := by
  intro t
  have hp : ({ s with unseen := m } : State).Passes t g c k := State.retire_passes { s with unseen := m } g c k
  have hu : t.unseen = m := hp.frame.unseen
  exact ⟨by rw [hu]; exact hp, hu⟩

/-- Settles O3: a wait goes on where nothing of the strand is under way, and the place in the search decides the slot. -/
theorem waitsNopsAndTheIssueSlot : Obligations.WaitsNopsAndTheIssueSlot := by
  intro s g c k d
  refine ⟨fun h => ⟨_, rfl, ?nop⟩, fun h => ⟨_, rfl, ?yield⟩, fun h => ⟨_, rfl, ?esync⟩, ⟨?keep, ?giveUp, ?ascending⟩,
    fun h => ⟨_, rfl, ?fence⟩⟩
  case nop =>
    rw [State.issue_of_at h]
    exact ⟨s.retire_passes g c k, congrArg IssueSlot.run (s.retire_iss g c k _)⟩
  case yield =>
    rw [State.issue_of_at h]
    have hp := s.retire_passes g c k
    refine ⟨⟨?_, hp.frame.slot_change _ rfl⟩, ?_⟩
    · rw [State.yieldSlot, State.setCore_strand, hp.strand]
    · rw [State.yieldSlot, State.core_setCore_same]
  case esync =>
    rw [State.issue_of_at h]
    simp only
    split
    next hb =>
      rw [State.engineBusy_iff, beq_iff_eq, beq_iff_eq] at hb
      exact ⟨fun hm hv => absurd hb (not_or.mpr ⟨hm, hv⟩), fun _ => rfl⟩
    next hb =>
      rw [State.engineBusy_iff, beq_iff_eq, beq_iff_eq] at hb
      obtain ⟨hpass, hu⟩ := s.retire_passes_unseen g c k (s.storesSeen g c k).unseen
      exact ⟨fun _ _ => ⟨hpass, fun h => by rw [← s.storesSeen_get]; exact congrArg (SMap.get [] · h) hu⟩,
        fun hbusy => absurd hbusy hb⟩
  case keep =>
    intro hr ha hl hrun c' k' hne
    refine State.canIssue_of_earlier hr ha ?_
    rw [IssueSlot.place_kept hl hrun, IssueSlot.place_other hl hne]
    exact Nat.succ_pos _
  case giveUp =>
    intro c' k' hne hr ha hl hrun
    refine State.canIssue_of_earlier hr ha ?_
    rw [IssueSlot.place_given hl hrun, IssueSlot.place_other hl hne]
    omega
  case ascending =>
    intro c' k' c0 k0 hl hne hne' hr ha hlt
    refine State.canIssue_of_earlier hr ha ?_
    rw [IssueSlot.place_other hl hne, IssueSlot.place_other hl hne']
    exact Nat.succ_lt_succ hlt
  case fence =>
    rw [State.issue_of_at h]
    simp only
    split
    next hb => exact ⟨fun hn => absurd ((s.memBusy_iff g c k).mp hb) hn, fun _ => rfl⟩
    next hb => exact ⟨fun _ => s.retire_passes g c k, fun hbusy => absurd ((s.memBusy_iff g c k).mpr hbusy) hb⟩

end Sys2Proof.Machine
end

section
namespace Sys2Proof.Machine

open Sys2Proof.Claims

/-! PROOFS. EndAndFclose, TokensAndArmedBits, InstructionsThatFault. -/

/-! ### Retirement -/

theorem State.OnlyStrand.f {s t : State} {g c k : Nat} (h : s.OnlyStrand t g c k) (y : Fld) (i j l : Nat)
    (hy : y.reg ≠ .CORE_SWITCHES) : t.f y i j l = s.f y i j l := by
  rw [State.f, State.f, h.regs _ fun e => hy (congrArg Reg.name e)]

theorem State.OnlyStrand.fb {s t : State} {g c k : Nat} (h : s.OnlyStrand t g c k) (y : Fld) (i j l : Nat)
    (hy : y.reg ≠ .CORE_SWITCHES) : t.fb y i j l = s.fb y i j l := by
  rw [State.fb, State.fb, h.f y i j l hy]

/-- A retirement with a strand as given is bookkeeping of issue but for that strand. -/
theorem State.retire_only (s : State) (g c k : Nat) (u : Strand) : s.OnlyStrand (s.retire g c k u) g c k :=
  s.issued_only g c k _

@[simp] theorem State.retire_strand_same (s : State) (g c k : Nat) (u : Strand) :
    (s.retire g c k u).strand g c k = { u with pc := u.pc + 1 } := by
  rw [State.retire, State.issued_strand, State.strand_setStrand_same]

/-- The bookkeeping of issue and a change of a strand do not meet. -/
theorem State.issued_setStrand (s : State) (g c k : Nat) (u : Strand) :
    (s.issued g c k).setStrand g c k u = (s.setStrand g c k u).issued g c k := by
  simp only [State.issued, State.setStrand_core]
  split <;> rfl

/-! ### END and FCLOSE -/

/-- A strand that does not execute, or has ended, does not issue (R71). -/
theorem State.canIssue_of_not_ready {s : State} {g c k : Nat} (h : s.ready g c k = false) : s.canIssue g c k = false := by
  rw [State.canIssue, h, Bool.false_and]

theorem State.ready_of_not_exec {s : State} {g c k : Nat} (h : (s.strand g c k).exec = false) : s.ready g c k = false := by
  simp [State.ready, h]

theorem State.ready_of_ended {s : State} {g c k : Nat} (h : (s.strand g c k).ended = true) : s.ready g c k = false := by
  simp [State.ready, h]

/-- END that can issue frees its strand, or leaves it to its pending loads (R71). -/
theorem State.endBlock_spec (s : State) (g c k : Nat) :
    let u := s.strand g c k
    let t := if u.pend.isEmpty then (s.issued g c k).freeStrand g c k else (s.issued g c k).setStrand g c k { u with ended := true }
    s.OnlyStrand t g c k ∧ t.canIssue g c k = false ∧ if u.pend = [] then t.strand g c k = {} else t.strand g c k = { u with ended := true } := by
  intro u t
  by_cases hp : u.pend = []
  · have ht : t = (s.setStrand g c k {}).issued g c k := by
      rw [← State.issued_setStrand]
      exact if_pos (List.isEmpty_iff.mpr hp)
    have hst : t.strand g c k = {} := by rw [ht, State.issued_strand, State.strand_setStrand_same]
    rw [if_pos hp]
    exact ⟨ht ▸ s.issued_only g c k {}, State.canIssue_of_not_ready (State.ready_of_not_exec (by rw [hst])), hst⟩
  · have ht : t = (s.setStrand g c k { u with ended := true }).issued g c k := by
      rw [← State.issued_setStrand]
      exact if_neg fun e => hp (List.isEmpty_iff.mp e)
    have hst : t.strand g c k = { u with ended := true } := by rw [ht, State.issued_strand, State.strand_setStrand_same]
    rw [if_neg hp]
    exact ⟨ht ▸ s.issued_only g c k _, State.canIssue_of_not_ready (State.ready_of_ended (by rw [hst])), hst⟩

theorem State.overrunClosed_ctxs (s : State) (g c fr t : Nat) : (s.overrunClosed g c fr t).ctxs = s.ctxs := by
  simp only [State.overrunClosed, State.event_ctxs]
  split <;> simp only [State.setF_ctxs]

theorem State.overrunClosed_mem (s : State) (g c fr t : Nat) : (s.overrunClosed g c fr t).mem = s.mem := by
  simp only [State.overrunClosed, State.event_mem]
  split <;> simp only [State.setF_mem]

/-- Closing a frame removes the oldest, of this context on this core alone. -/
theorem State.closeFrame_spec (s : State) (g c : Nat) :
    ((s.closeFrame g c).ctx g c).frames = (s.ctx g c).frames.tail ∧
    (∀ g' c', (g', c') ≠ (g, c) → (s.closeFrame g c).ctx g' c' = s.ctx g' c') ∧ (s.closeFrame g c).mem = s.mem := by
  unfold State.closeFrame
  dsimp only
  split
  next h => simp [h]
  next fr rest h =>
    have hclosed : ∀ t : State, t.ctxs = (s.setCtx g c { s.ctx g c with frames := rest }).ctxs → t.mem = s.mem →
        (t.ctx g c).frames = (s.ctx g c).frames.tail ∧ (∀ g' c', (g', c') ≠ (g, c) → t.ctx g' c' = s.ctx g' c') ∧
          t.mem = s.mem := by
      intro t ht hm
      have hctx : ∀ g' c', t.ctx g' c' = (s.setCtx g c { s.ctx g c with frames := rest }).ctx g' c' := fun g' c' => by
        rw [State.ctx, ht]; rfl
      exact ⟨by rw [hctx, State.ctx_setCtx_same, h]; rfl,
        fun g' c' hne => by rw [hctx, State.ctx_setCtx_other _ _ hne], hm⟩
    split
    · exact hclosed _ rfl rfl
    · exact hclosed _ (State.overrunClosed_ctxs ..) (State.overrunClosed_mem ..)

theorem State.closeFrame_empty {s : State} {g c : Nat} (h : (s.ctx g c).frames = []) :
    s.closeFrame g c = s.event F.CORE_EVENT_FCLOSE_EMPTY 0 g c := by
  simp only [State.closeFrame, h]

/-- FCLOSE outside an open step closes a frame and carries no vote (R73, R290). -/
theorem execFclose_closed {s : State} {g c k : Nat} {d : Dec} (h : s.At g c k .fclose d) (hstep : s.stepOpen c = false)
    (hb : s.engineBusy g c k true true = false) :
    execFclose g c k s = .next ((s.closeFrame g c).retire g c k (s.strand g c k)) := by
  rw [execFclose, State.issue_of_at h]
  cases (s.ctx g c).frames <;> simp [hb, hstep]

theorem execFclose_waits {s : State} {g c k : Nat} {d : Dec} (h : s.At g c k .fclose d)
    (hb : s.engineBusy g c k true true = true) : execFclose g c k s = .next s := by
  rw [execFclose, State.issue_of_at h]
  simp only [hb, if_true]

/-- Settles O4: END by endBlock_spec; an FCLOSE outside an open step carries no vote and closes a frame. -/
theorem endAndFclose : Obligations.EndAndFclose := by
  constructor
  · intro s g c k d h
    refine ⟨_, rfl, ?_⟩
    rw [State.issue_of_at h]
    exact s.endBlock_spec g c k
  · intro s g c k d h hstep
    have hopen : s.stepOpen c = false := beq_false_of_ne hstep
    have hbusy := s.engineBusy_iff g c k true true
    simp only [true_and] at hbusy
    cases hb : s.engineBusy g c k true true with
    | true => exact ⟨s, execFclose_waits h hb, fun _ => rfl, fun hn => absurd (hbusy.mp hb) hn⟩
    | false =>
      refine ⟨_, execFclose_closed h hopen hb, fun h' => absurd (hb.symm.trans (hbusy.mpr h')) Bool.false_ne_true, fun _ => ?_⟩
      have honly := (s.closeFrame g c).retire_only g c k (s.strand g c k)
      obtain ⟨htail, hother, hmem⟩ := s.closeFrame_spec g c
      refine ⟨State.retire_strand_same .., by rw [honly.ctx, htail], fun he => ?_,
        fun g' c' hne => (honly.ctx g' c').trans (hother g' c' hne), honly.mem.trans hmem⟩
      rw [honly.fb _ _ _ _ (by decide), State.closeFrame_empty he]
      exact State.event_one _ _ _ _ (by decide) rfl

/-! ### Tokens and armed bits -/

theorem State.tokenGiven_get (s : State) (g c k h : Nat) :
    SMap.get [] (s.tokenGiven g c k).unseen h =
      if h = g then (SMap.get [] s.unseen g).map (fun e =>
        if e.c = c ∧ e.k = k ∧ e.tok = none then { e with tok := some (s.core g).seq } else e)
      else SMap.get [] s.unseen h := by
  split
  next e => rw [e]; exact SMap.get_set_same ..
  next e => exact SMap.get_set_other _ _ _ _ _ e

/-- A register that no fault writes reads as before. -/
theorem State.Faults.f {s t : State} {g c k code : Nat} (h : s.Faults t g c k code) (y : Fld) (i j l : Nat)
    (hy : y.reg ∉ [.CORE_FAULT, .CORE_FAULT_ADDR, .CORE_EVENT, .CORE_CTX_HALT, .CORE_FAULT_EVENT]) :
    t.f y i j l = s.f y i j l := by
  rw [State.f, State.f, h.regs]
  intro hm
  refine hy ?_
  simp only [List.mem_cons, Reg.mk.injEq, List.not_mem_nil, or_false] at hm ⊢
  tauto

/-- Position i of a list with a change at one position. -/
theorem getD_modAt {α : Type} (l : List α) (n m : Nat) (f : α → α) (d : α) (hn : n < l.length) :
    (modAt l n f).getD m d = if m = n then f (l.getD n d) else l.getD m d := by
  induction l generalizing n m with
  | nil => exact absurd hn (Nat.not_lt_zero n)
  | cons x xs ih =>
    cases n with
    | zero => cases m <;> simp [modAt]
    | succ n =>
      cases m with
      | zero => simp [modAt]
      | succ m => simpa [modAt] using ih n m (Nat.lt_of_succ_lt_succ hn)

/-- ARM and DISARM of a loaded block, and the fault of one that is not (R72). -/
theorem State.setArmed_spec (s : State) (g c k n : Nat) (v : Bool) :
    let x := s.ctx g c
    let t := s.setArmed g c k n v
    (n < x.blocks.length → (s.setCtx g c (t.ctx g c)).Passes t g c k ∧
      t.ctx g c = { x with blocks := (t.ctx g c).blocks } ∧
      ∀ m, (t.ctx g c).blk m = if m = n then { x.blk n with
        armed := v, since := if (x.blk n).armed then (x.blk n).since else s.clk.now } else x.blk m) ∧
    (x.blocks.length ≤ n → s.Faults t g c k 0x08) := by
  intro x t
  refine ⟨fun hn => ?_, fun hn => ?_⟩
  · let y : Ctx := { x with blocks := modAt x.blocks n fun b =>
      { b with armed := v, since := if b.armed then b.since else s.clk.now } }
    have ht : t = (s.setCtx g c y).retire g c k (s.strand g c k) := if_neg (Nat.not_le.mpr hn)
    have hpass : (s.setCtx g c y).Passes t g c k := ht ▸ (s.setCtx g c y).retire_passes g c k
    have hctx : t.ctx g c = y := by rw [hpass.frame.ctx, State.ctx_setCtx_same]
    rw [hctx]
    exact ⟨hpass, rfl, fun m => getD_modAt _ _ _ _ _ hn⟩
  · have ht : t = s.raise g c k 0x08 := if_pos hn
    exact ht ▸ s.raise_faults g c k 0x08 none

/-- TOKADD that can issue (R65). -/
theorem execTokadd_spec {s : State} {g c k : Nat} {d : Dec} (h : s.At g c k .tokadd d) :
    let v := s.f F.CORE_TOKEN_COUNT g c d.rd + d.field 12 8
    execTokadd g c k s = .next (if 4095 < v then (s.setF F.CORE_TOKEN_COUNT 4095 g c d.rd).raise g c k 0x07
      else ((s.setF F.CORE_TOKEN_COUNT v g c d.rd).tokenGiven g c k).retire g c k (s.strand g c k)) := by
  intro v
  rw [execTokadd, State.issue_of_at h]

/-- Settles O5: a sum past 4,095 faults and any other retires; ARM and DISARM by setArmed_spec. -/
theorem tokensAndArmedBits : Obligations.TokensAndArmedBits := by
  refine ⟨fun s g c k d h => ⟨_, execTokadd_spec h, ?_⟩, fun s g c k d => ⟨fun h => ⟨_, rfl, ?_⟩, fun h => ⟨_, rfl, ?_⟩⟩⟩
  · intro v
    split
    next hv =>
      have hfault := (s.setF F.CORE_TOKEN_COUNT 4095 g c d.rd).raise_faults g c k 0x07 none
      refine ⟨?_, fun hle => absurd hv (Nat.not_lt.mpr hle), fun _ => hfault⟩
      rw [hfault.f _ _ _ _ (by decide), State.f_setF_same _ _ _ _ _ _ (by decide)]
      exact (Nat.min_eq_right hv.le).symm
    next hv =>
      have hle : v ≤ 4095 := Nat.not_lt.mp hv
      obtain ⟨hpass, hu⟩ := (s.setF F.CORE_TOKEN_COUNT v g c d.rd).retire_passes_unseen g c k
        ((s.setF F.CORE_TOKEN_COUNT v g c d.rd).tokenGiven g c k).unseen
      refine ⟨?_, fun _ => ⟨hpass, fun h' => ?_⟩, fun hlt => absurd hlt hv⟩
      · refine (hpass.frame.f _ _ _ _ (by decide)).trans ((State.f_setF_same s _ v _ _ _ (by decide)).trans ?_)
        rw [Nat.min_eq_left hle]
        exact Nat.mod_eq_of_lt (Nat.lt_of_le_of_lt hle (by decide))
      · exact (congrArg (SMap.get [] · h') hu).trans (State.tokenGiven_get ..)
  · rw [State.issue_of_at h]
    exact s.setArmed_spec g c k (d.field 12 9) true
  · rw [State.issue_of_at h]
    exact s.setArmed_spec g c k (d.field 12 9) false

/-! ### Faults -/

/-- Where the context was not halted, its halt leaves the core that faults now (R88). -/
theorem State.haltBy_haltAt {s : State} {g c : Nat} (h : s.fb F.CORE_CTX_HALT_HALTED c = false) :
    ((s.haltBy g c).mod c).haltAt = some (s.clk.now, [g]) := by
  simp [State.haltBy, h]

theorem State.raiseAt_haltAt {s : State} {g c code : Nat} {w : Option (Nat × Nat × Nat)} {addr : Option Nat}
    (h : s.fb F.CORE_CTX_HALT_HALTED c = false) :
    ((s.raiseAt g c code w addr).mod c).haltAt = some (s.clk.now, [g]) := by
  simp only [State.raiseAt, State.free, State.event_mod]
  rw [State.haltBy_haltAt]
  · simp
  · simp (disch := decide) only [State.fb, State.f_event_name, State.f_setF_name, State.useFree_f]
    exact h

/-- A context halted by a fault runs nowhere 2 µs later (R88). -/
theorem State.not_running_after {t : State} {c n now : Nat} {cores : List Nat} (hh : t.fb F.CORE_CTX_HALT_HALTED c = true)
    (ha : (t.mod c).haltAt = some (now, cores)) (hn : now + 200 ≤ n) (h : Nat) :
    ({ t with clk := { t.clk with now := n } } : State).running h c = false := by
  have hreach : ({ t with clk := { t.clk with now := n } } : State).haltReached h c = true := by
    have ha' : (({ t with clk := { t.clk with now := n } } : State).mod c).haltAt = some (now, cores) := ha
    simp [State.haltReached, ha', hn]
  have hh' : ({ t with clk := { t.clk with now := n } } : State).fb F.CORE_CTX_HALT_HALTED c = true := hh
  simp [State.running, State.haltedOn, hreach, hh']

theorem State.raise_addr (s : State) (g c k code a : Nat) :
    (s.raise g c k code (some a)).f F.CORE_FAULT_ADDR_ADDR g c = a % 2 ^ 64 := by
  rw [State.raise, State.setStrand_f, State.raiseAt_addr]

/-- A register whose one field fills it holds the field's value. -/
theorem reg_eq_of_bits {w v : Word} (h : bits w 0 64 = v.toNat) : w = v := by
  apply BitVec.eq_of_toNat_eq
  rw [← h, bits_low, Nat.mod_eq_of_lt w.isLt]

/-- The faults of an instruction that strand k cannot fetch or decode (R71, R78). -/
theorem State.issue_faults {s : State} {g c k : Nat} (hc : s.canIssue g c k = true) (op : Op) (f : State → Dec → State) :
    let u := s.strand g c k
    let at_ := ((s.ctx g c).blk u.block).entry + u.pc
    let key := s.codeKey g c at_
    let inside := u.pc ≤ lastIndex s g c k ∧ at_ < (s.ctx g c).codeLen
    let bad := s.poisoned key 8 = true ∨ key ∈ s.badInstr
    let t := s.issue g c k op f
    (¬inside → s.Faults t g c k 0x03) ∧ (inside → bad → s.Faults t g c k 0x0D) ∧
    (inside → ¬bad → decodeWord (BitVec.ofNat 64 (s.readN key 8)) = none → s.Faults t g c k 0x01) := by
  intro u at_ key inside bad t
  have hrange : (((s.ctx g c).blk u.block).lenM1 < u.pc ∨ (s.ctx g c).codeLen ≤ at_) ↔ ¬inside := by
    simp only [inside, lastIndex, not_and_or, not_le, not_lt]
    rfl
  have hbad : s.instrBad key = true ↔ bad := by
    simp only [State.instrBad, Bool.or_eq_true, List.contains_iff_mem, bad]
  refine ⟨fun ho => ?_, fun hi hb => ?_, fun hi hb hd => ?_⟩
  · have ht : t = s.raise g c k 0x03 := by
      simp only [t, State.issue, hc, Bool.not_true, Bool.false_eq_true, if_false]
      exact if_pos (hrange.mpr ho)
    exact ht ▸ s.raise_faults g c k 0x03 none
  · have ht : t = s.raise g c k 0x0D := by
      simp only [t, State.issue, hc, Bool.not_true, Bool.false_eq_true, if_false]
      rw [if_neg fun e => hrange.mp e hi]
      exact if_pos (hbad.mpr hb)
    exact ht ▸ s.raise_faults g c k 0x0D none
  · have ht : t = s.raise g c k 0x01 := by
      simp only [t, State.issue, hc, Bool.not_true, Bool.false_eq_true, if_false]
      rw [if_neg fun e => hrange.mp e hi, if_neg fun e => hb (hbad.mp e)]
      simp only [key, at_, u] at hd
      simp only [hd]
    exact ht ▸ s.raise_faults g c k 0x01 none

/-- Settles O6: TRAP by what raise writes, the other faults by the branches of issue. -/
theorem instructionsThatFault : Obligations.InstructionsThatFault := by
  refine ⟨fun s g c k d h => ⟨_, rfl, ?_⟩, fun s g c k hc => ⟨_, rfl, State.issue_faults hc .nop _⟩⟩
  rw [State.issue_of_at h]
  have hfault := s.raise_faults g c k 0x0F (some d.immS.toNat)
  refine ⟨hfault, reg_eq_of_bits ?_, fun hh => s.raiseAt_core g c 0x0F _ _ hh, ?_, fun hh x n hn => ?_⟩
  · exact (s.raise_addr g c k 0x0F d.immS.toNat).trans (Nat.mod_eq_of_lt d.immS.isLt)
  · rw [State.running, hfault.reached, Bool.not_true, Bool.and_false]
  · exact State.not_running_after hfault.halted (State.raiseAt_haltAt hh) hn x

end Sys2Proof.Machine
end

section
namespace Sys2Proof.Machine

open Sys2Proof.Claims

/-! PROOFS. Little-endian numbers, and what a load returns (R11). -/

@[simp] theorem toLE_length (n v : Nat) : (toLE n v).length = n := by
  induction n generalizing v with
  | zero => rfl
  | succ n ih => simp [toLE, ih]

theorem toLE_getElem (n v i : Nat) (h : i < (toLE n v).length) : (toLE n v)[i] = BitVec.ofNat 8 (v / 256 ^ i) := by
  induction n generalizing v i with
  | zero => exact absurd h (Nat.not_lt_zero i)
  | succ n ih =>
    cases i with
    | zero => simp [toLE]
    | succ i =>
      simp only [toLE, List.getElem_cons_succ]
      rw [ih, Nat.div_div_eq_div_mul, pow_succ']

theorem toLE_eq_map (n v : Nat) : toLE n v = (List.range n).map (fun i => BitVec.ofNat 8 (v / 256 ^ i)) := by
  refine List.ext_getElem (by simp) fun i hi _ => ?_
  rw [toLE_getElem, List.getElem_map, List.getElem_range]

theorem ofLE_map {α : Type} (l : List α) (f : α → Byte) :
    ofLE (l.map f) = l.foldr (fun i a => (f i).toNat + 256 * a) 0 := by
  induction l with
  | nil => rfl
  | cons x l ih => rw [List.map_cons, ofLE, ih, List.foldr_cons]

theorem ofLE_lt (bs : List Byte) : ofLE bs < 256 ^ bs.length := by
  induction bs with
  | nil => exact Nat.one_pos
  | cons b bs ih =>
    have hb : b.toNat < 256 := b.isLt
    rw [ofLE, List.length_cons, pow_succ]
    omega

/-- Byte i of a little-endian number. -/
theorem ofLE_byte (bs : List Byte) (i : Nat) (h : i < bs.length) : BitVec.ofNat 8 (ofLE bs / 256 ^ i) = bs[i] := by
  induction bs generalizing i with
  | nil => exact absurd h (Nat.not_lt_zero i)
  | cons b bs ih =>
    have hb : b.toNat < 256 := b.isLt
    cases i with
    | zero =>
      apply BitVec.eq_of_toNat_eq
      rw [pow_zero, Nat.div_one, BitVec.toNat_ofNat, ofLE, Nat.add_mul_mod_self_left, List.getElem_cons_zero]
      exact Nat.mod_eq_of_lt hb
    | succ i =>
      have hq : (b.toNat + 256 * ofLE bs) / 256 = ofLE bs := by omega
      rw [ofLE, pow_succ', ← Nat.div_div_eq_div_mul, hq, List.getElem_cons_succ]
      exact ih i _

@[simp] theorem State.read_length (s : State) (key n : Nat) : (s.read key n).length = n := by
  simp [State.read, Mem.read]

theorem State.read_getElem (s : State) (key n i : Nat) (h : i < (s.read key n).length) :
    (s.read key n)[i] = s.mem.get (key + i) := by
  simp [State.read, Mem.read]

theorem leNat_eq_readN (s : State) (key n : Nat) : leNat s key n = s.readN key n := by
  rw [State.readN, State.read, Mem.read, ofLE_map]
  rfl

theorem leNat_lt (s : State) (key n : Nat) : leNat s key n < 256 ^ n := by
  have h := ofLE_lt (s.read key n)
  rwa [State.read_length, ← State.readN, ← leNat_eq_readN] at h

theorem leNat_byte (s : State) {key n i : Nat} (h : i < n) :
    BitVec.ofNat 8 (leNat s key n / 256 ^ i) = s.mem.get (key + i) := by
  have hlen : i < (s.read key n).length := by rwa [State.read_length]
  rw [leNat_eq_readN, State.readN, ofLE_byte _ _ hlen, State.read_getElem]

/-- What a load returns is its bytes as a number, extended. -/
theorem loadValue_eq_loaded (n : Nat) (sg : Bool) (bs : List Byte) (h : bs.length = n) :
    loadValue n sg bs = loaded (ofLE bs) n sg := by
  have hlt : ofLE bs < 2 ^ (8 * n) := by
    have := ofLE_lt bs
    rwa [h, show (256 : Nat) = 2 ^ 8 from rfl, ← pow_mul] at this
  cases sg with
  | false => simp [loadValue, loaded]
  | true =>
    have hhalf : 2 ^ (8 * n) ≤ 2 * ofLE bs ↔ 2 ^ (8 * n - 1) ≤ ofLE bs := by
      cases n with
      | zero =>
        have : ofLE bs = 0 := by simpa using hlt
        simp [this]
      | succ n =>
        have : 2 ^ (8 * (n + 1)) = 2 * 2 ^ (8 * (n + 1) - 1) := by
          rw [← pow_succ']
          congr 1
        omega
    simp only [loadValue, loaded, signedN, if_true, Nat.mod_eq_of_lt hlt, ge_iff_le, hhalf, Bool.true_and, decide_eq_true_eq]
    split <;> simp

theorem State.loadValue_read (s : State) (key n : Nat) (sg : Bool) :
    loadValue n sg (s.read key n) = loaded (leNat s key n) n sg := by
  rw [loadValue_eq_loaded n sg _ (State.read_length ..), leNat_eq_readN, State.readN]

/-! ### Stores -/

/-- The bytes of a number stored read back. -/
theorem State.writeN_get (s : State) (key n v : Nat) {i : Nat} (h : i < n) :
    (s.write key (toLE n v)).mem.get (key + i) = BitVec.ofNat 8 (v / 256 ^ i) := by
  have hlen : i < (toLE n v).length := by rwa [toLE_length]
  exact (mem_get_write_same _ _ _ _ hlen).trans (toLE_getElem ..)

theorem State.writeN_get_other (s : State) (key n v : Nat) {a : Nat} (h : a < key ∨ key + n ≤ a) :
    (s.write key (toLE n v)).mem.get a = s.mem.get a :=
  s.write_get_other key a _ (by rwa [toLE_length])

/-- A store of less than a granule leaves every poison mark (R368). -/
theorem State.write_poison_short (s : State) (key : Nat) {bs : List Byte} (h : bs.length < 64) :
    (s.write key bs).poison = s.poison := by
  refine List.filter_eq_self.mpr fun q _ => ?_
  simp only [Bool.not_eq_true', Bool.and_eq_false_iff, decide_eq_false_iff_not]
  omega

theorem State.write_short (s : State) (key : Nat) {bs : List Byte} (h : bs.length < 64) :
    s.write key bs = { s with mem := s.mem.write key bs } := by
  have hp := s.write_poison_short key h
  simp only [State.write] at hp ⊢
  rw [hp]

/-! ### Atomics (R84) -/

/-- The access is an atomic. -/
def Acc.atomic (acc : Acc) : Prop := acc = .amoadd ∨ acc = .amoswap ∨ acc = .amocas

theorem Acc.atomic.size {acc : Acc} (h : acc.atomic) : acc.size = 8 := by obtain rfl | rfl | rfl := h <;> rfl

theorem Acc.atomic.writes {acc : Acc} (h : acc.atomic) : acc.writes = true := by obtain rfl | rfl | rfl := h <;> rfl

/-- What an atomic stores, from the old value and its operands; none where it stores nothing. -/
def Acc.newValue (acc : Acc) (old data cmp : Word) : Option Word :=
  match acc with
  | .amoadd => some (old + data)
  | .amoswap => some data
  | .amocas => if old = cmp then some data else none
  | _ => none

/-- A word stored at a key, or nothing. -/
def State.atomicStored (s : State) (key : Nat) (v : Option Word) : State :=
  match v with
  | none => s
  | some v => s.write key (toLE 8 v.toNat)

theorem State.atomicStored_eq (s : State) (key : Nat) (v : Option Word) :
    s.atomicStored key v = { s with mem := (s.atomicStored key v).mem } := by
  cases v with
  | none => rfl
  | some v => exact s.write_short key (by rw [toLE_length]; decide)

/-- The word at the key is the value stored, or the old one. -/
theorem State.atomicStored_get (s : State) (key : Nat) (v : Option Word) {i : Nat} (hi : i < 8) :
    (s.atomicStored key v).mem.get (key + i) =
      BitVec.ofNat 8 ((v.getD (BitVec.ofNat 64 (leNat s key 8))).toNat / 256 ^ i) := by
  cases v with
  | none =>
    rw [Option.getD_none, BitVec.toNat_ofNat, Nat.mod_eq_of_lt (show leNat s key 8 < 2 ^ 64 from leNat_lt s key 8)]
    exact (leNat_byte s hi).symm
  | some v => exact s.writeN_get key 8 _ hi

theorem State.atomicStored_get_other (s : State) (key : Nat) (v : Option Word) {a : Nat} (ha : a < key ∨ key + 8 ≤ a) :
    (s.atomicStored key v).mem.get a = s.mem.get a := by
  cases v with
  | none => rfl
  | some v => exact s.writeN_get_other key 8 _ ha

/-- An atomic on a word that is neither a count nor an allocation word. -/
theorem State.atomicAt_plain {s : State} {key : Nat} (hcount : s.countWordAt key = none) (halloc : s.allocWordAt key = none)
    {acc : Acc} (ha : acc.atomic) (g : Nat) (c : Option Nat) (data cmp : Word) :
    s.atomicAt g c key acc data cmp = (BitVec.ofNat 64 (leNat s key 8),
      s.atomicStored key (acc.newValue (BitVec.ofNat 64 (leNat s key 8)) data cmp)) := by
  rw [leNat_eq_readN]
  obtain rfl | rfl | rfl := ha
  · simp [State.atomicAt, hcount, halloc, Acc.newValue, State.atomicStored]
  · simp [State.atomicAt, Acc.newValue, State.atomicStored]
  · by_cases he : BitVec.ofNat 64 (s.readN key 8) = cmp <;> simp [State.atomicAt, Acc.newValue, State.atomicStored, he]

end Sys2Proof.Machine
end

section
namespace Sys2Proof.Machine

open Sys2Proof.Claims

/-! PROOFS. NearAccesses, BadScratchpadAccessesFault. -/

/-! ### The issue of an access -/

section
variable {s : State} {g c k rd addr : Nat} {acc : Acc} {data cmp : Word}

theorem State.access_pending (hw : acc.writes = false) (hp : 8 ≤ s.loadsPending g c k) :
    s.access g c k acc rd addr data cmp = s := by simp [State.access, hw, hp]

variable (hp : acc.writes = false → s.loadsPending g c k < 8)
include hp

theorem State.access_goes_on : (!acc.writes && decide (8 ≤ s.loadsPending g c k)) = false := by
  cases hw : acc.writes with
  | true => rfl
  | false => simpa using hp hw

theorem State.access_misaligned (ha : addr % acc.size ≠ 0) :
    s.access g c k acc rd addr data cmp = s.raise g c k 0x04 addr := by
  simp [State.access, State.access_goes_on hp, ha]

theorem State.access_error {e : Nat} (ha : addr % acc.size = 0) (hx : s.xlate g c addr acc.writes .scalar = .error e) :
    s.access g c k acc rd addr data cmp = s.raise g c k e addr := by
  simp [State.access, State.access_goes_on hp, ha, hx]

theorem State.access_ok {loc : Loc} (ha : addr % acc.size = 0) (hx : s.xlate g c addr acc.writes .scalar = .ok loc)
    (hc : s.writeCheck loc acc.size acc = .ok ()) :
    s.access g c k acc rd addr data cmp =
      if ownSpad g loc then s.ownAccess g c k acc rd (loc.key.getD 0) data cmp addr
      else s.slotted g c k acc rd addr loc data cmp := by
  simp [State.access, State.access_goes_on hp, ha, hx, hc]

end

theorem exec_load {s : State} {g c k : Nat} {d : Dec} : ∀ x ∈ loadOps, s.At g c k x.1 d →
    exec (x.2.1 g c k) s = .next (s.access g c k (.load x.2.2.1 x.2.2.2) d.rd (accessAddr s g c k d true) 0 0) := by
  simp only [loadOps, List.forall_mem_cons, List.not_mem_nil, false_implies, implies_true, and_true]
  have h {op : Op} (n : Nat) (sg : Bool) (h : s.At g c k op d) : (.next (s.loadOp g c k op n sg) : Host.Outcome State Fault Refusal) =
      .next (s.access g c k (.load n sg) d.rd (accessAddr s g c k d true) 0 0) := by rw [State.loadOp, State.issue_of_at h]; rfl
  exact ⟨h 1 false, h 2 false, h 4 false, h 8 false, h 1 true, h 2 true, h 4 true⟩

theorem exec_store {s : State} {g c k : Nat} {d : Dec} : ∀ x ∈ storeOps, s.At g c k x.1 d →
    exec (x.2.1 g c k) s = .next (s.access g c k (.store x.2.2) d.rd (accessAddr s g c k d true) ((s.strand g c k).rd d.rd) 0) := by
  simp only [storeOps, List.forall_mem_cons, List.not_mem_nil, false_implies, implies_true, and_true]
  have h {op : Op} (n : Nat) (h : s.At g c k op d) : (.next (s.storeOp g c k op n) : Host.Outcome State Fault Refusal) =
      .next (s.access g c k (.store n) d.rd (accessAddr s g c k d true) ((s.strand g c k).rd d.rd) 0) := by
    rw [State.storeOp, State.issue_of_at h]; rfl
  exact ⟨h 1, h 2, h 4, h 8⟩

theorem exec_atomic {s : State} {g c k : Nat} {d : Dec} : ∀ x ∈ atomicOps, s.At g c k x.1 d →
    exec (x.2.1 g c k) s = .next (s.access g c k x.2.2.1 d.rd (accessAddr s g c k d false)
      ((s.strand g c k).rd d.rs2) ((s.strand g c k).rd d.rd)) := by
  simp only [atomicOps, List.forall_mem_cons, List.not_mem_nil, false_implies, implies_true, and_true]
  have h {op : Op} (acc : Acc) (h : s.At g c k op d) : (.next (s.atomicOp g c k op acc) : Host.Outcome State Fault Refusal) =
      .next (s.access g c k acc d.rd (accessAddr s g c k d false) ((s.strand g c k).rd d.rs2) ((s.strand g c k).rd d.rd)) := by
    rw [State.atomicOp, State.issue_of_at h]; rfl
  exact ⟨h .amoadd, h .amoswap, h .amocas⟩

/-- Every access instruction that can issue is one call of access. -/
theorem exec_access {s : State} {g c k : Nat} {d : Dec} {x} (hx : x ∈ accessOps) (h : s.At g c k x.1 d) :
    ∃ data cmp, exec (x.2.1 g c k) s =
      .next (s.access g c k x.2.2.1 d.rd (accessAddr s g c k d x.2.2.2) data cmp) := by
  simp only [accessOps, List.mem_append, List.mem_map] at hx
  obtain (⟨y, hy, rfl⟩ | ⟨y, hy, rfl⟩) | ⟨y, hy, rfl⟩ := hx
  · exact ⟨0, 0, exec_load y hy h⟩
  · exact ⟨_, 0, exec_store y hy h⟩
  · exact ⟨_, _, exec_atomic y hy h⟩

/-! ### The windows of the own scratchpad (R187) -/

theorem State.winCheck_ok {s : State} {c o : Nat} (hw : s.inWin c o = true) (ho : ∀ d, d < 4 → d ≠ c → s.inWin d o = false) :
    s.winCheck c o = .ok () := by
  have hany : (List.range 4).any (fun d => decide (d ≠ c) && s.inWin d o) = false := by
    simp only [List.any_eq_false, List.mem_range, Bool.and_eq_true, decide_eq_true_eq, not_and, Bool.not_eq_true]
    exact ho
  simp only [State.winCheck, hany, hw, Bool.false_eq_true, if_false, if_true]

theorem State.winCheck_other {s : State} {c o e : Nat} (he : e < 4) (hc : e ≠ c) (hw : s.inWin e o = true) :
    s.winCheck c o = .error 0x06 := by
  have hany : (List.range 4).any (fun d => decide (d ≠ c) && s.inWin d o) = true := by
    simp only [List.any_eq_true, List.mem_range, Bool.and_eq_true, decide_eq_true_eq]
    exact ⟨e, he, hc, hw⟩
  simp only [State.winCheck, hany, if_true]

theorem State.winCheck_none {s : State} {c o : Nat} (hw : s.inWin c o = false) (ho : ∀ d, d < 4 → d ≠ c → s.inWin d o = false) :
    s.winCheck c o = .error 0x05 := by
  have hany : (List.range 4).any (fun d => decide (d ≠ c) && s.inWin d o) = false := by
    simp only [List.any_eq_false, List.mem_range, Bool.and_eq_true, decide_eq_true_eq, not_and, Bool.not_eq_true]
    exact ho
  simp only [State.winCheck, hany, hw, Bool.false_eq_true, if_false]

/-- The window that every core has for itself leads to the own scratchpad where the window check passes (Table TIER-2). -/
theorem State.xlate_alias (s : State) {g c addr o : Nat} (w : Bool) (ha : addr = s.f F.NET_NODE_ID_ID * 2 ^ 44 + 0xF8000000000 + o)
    (ho : o < 0x300000) :
    s.xlate g c addr w .scalar = (s.winCheck c o).map fun _ => .mem (spadKey g o) := by
  have hn : addr / 2 ^ 44 = s.f F.NET_NODE_ID_ID := by omega
  have hl : addr % 2 ^ 44 = 0xF8000000000 + o := by omega
  have hsub : 0xF8000000000 + o - 0xF8000000000 = o := by omega
  have hhbm : ¬0xF8000000000 + o < hbmSize := by unfold hbmSize; omega
  have hspad : 0xF8000000000 ≤ 0xF8000000000 + o ∧ 0xF8000000000 + o < 0xF8000000000 + spadSize := by unfold spadSize; omega
  rw [State.xlate, if_pos hn, hl, State.xlateLocal, if_neg hhbm, if_neg (by omega), if_neg (by omega), if_neg (by omega),
    if_neg (by omega), if_neg (by omega), if_neg (by omega), if_pos hspad, hsub]
  dsimp only
  cases s.winCheck c o <;> rfl

/-- A core's own window of Table TIER-2 leads to the same. -/
theorem State.xlate_window (s : State) {g c addr o : Nat} (w : Bool) (hg : s.coreOk g = true)
    (ha : addr = s.f F.NET_NODE_ID_ID * 2 ^ 44 + 0xF0000000000 + g * 0x400000 + o) (ho : o < 0x300000) :
    s.xlate g c addr w .scalar = (s.winCheck c o).map fun _ => .mem (spadKey g o) := by
  have hg256 : g < 256 := by
    simp only [State.coreOk, Bool.and_eq_true, decide_eq_true_eq] at hg
    exact hg.1
  have hn : addr / 2 ^ 44 = s.f F.NET_NODE_ID_ID := by omega
  have hl : addr % 2 ^ 44 = 0xF0000000000 + g * 0x400000 + o := by omega
  have hdiv : (0xF0000000000 + g * 0x400000 + o - 0xF0000000000) / 0x400000 = g := by omega
  have hmod : (0xF0000000000 + g * 0x400000 + o - 0xF0000000000) % 0x400000 = o := by omega
  have hhbm : ¬0xF0000000000 + g * 0x400000 + o < hbmSize := by unfold hbmSize; omega
  have hspad : ¬(spadSize ≤ o ∨ s.coreOk g = false) := by
    rw [hg]
    unfold spadSize
    simp only [Bool.true_eq_false, or_false]
    omega
  rw [State.xlate, if_pos hn, hl, State.xlateLocal, if_neg hhbm, if_neg (by omega), if_neg (by omega), if_neg (by omega),
    if_neg (by omega), if_neg (by omega), if_pos (by omega), hdiv, hmod, if_neg hspad]
  cases s.winCheck c o <;> rfl

theorem State.xlate_own {s : State} {g c addr o : Nat} (h : OwnWindow s g c addr o) (w : Bool) :
    s.xlate g c addr w .scalar = .ok (.mem (spadKey g o)) := by
  obtain ⟨haddr, ho, hw, hother⟩ := h
  obtain ha | ⟨hg, ha⟩ := haddr
  · rw [s.xlate_alias w ha ho, State.winCheck_ok hw hother, Except.map]
  · rw [s.xlate_window w hg ha ho, State.winCheck_ok hw hother, Except.map]

theorem ownSpad_spadKey {g o : Nat} (ho : o < 0x300000) : ownSpad g (.mem (spadKey g o)) = true := by
  simp [ownSpad, spadKey, spadSize, ho]

/-- An access in the own window, that is not refused, is done at issue. -/
theorem State.access_own {s : State} {g c k rd addr o : Nat} {acc : Acc} {data cmp : Word}
    (hp : acc.writes = false → s.loadsPending g c k < 8) (ha : addr % acc.size = 0) (hw : OwnWindow s g c addr o)
    (hc : s.writeCheck (.mem (spadKey g o)) acc.size acc = .ok ()) :
    s.access g c k acc rd addr data cmp = s.ownAccess g c k acc rd (spadKey g o) data cmp addr := by
  obtain ⟨-, ho, -, -⟩ := id hw
  rw [State.access_ok hp ha (State.xlate_own hw _) hc, if_pos (ownSpad_spadKey ho)]
  rfl

/-! ### An access to the own scratchpad -/

/-- The state in which a store of n bytes over the own scratchpad leaves memory and the record of unseen stores (R84). -/
def State.nearStored (s : State) (g c k key n v : Nat) : State := (s.storing g c k key n).write key (toLE n v)

theorem State.nearStored_eq (s : State) (g c k key : Nat) {n : Nat} (v : Nat) (hn : n < 64) :
    s.nearStored g c k key n v =
      { s with mem := s.mem.write key (toLE n v), unseen := (s.storing g c k key n).unseen } :=
  State.write_short _ _ (by rwa [toLE_length])

theorem State.storing_get (s : State) (g c k key n h : Nat) :
    SMap.get [] (s.storing g c k key n).unseen h =
      if h = g then { c := c, k := k, key := key, old := s.read key n } :: SMap.get [] s.unseen g
      else SMap.get [] s.unseen h := by
  rw [State.storing]
  split
  next e => rw [e, SMap.get_set_same]
  next e => rw [SMap.get_set_other _ _ _ _ _ e]

/-- A near store: its bytes, the old ones kept for the engines, and the strand gone on (R84). -/
theorem State.ownAccess_store (s : State) (g c k rd key addr : Nat) {n : Nat} (data cmp : Word) (hn : n < 64) :
    let t := s.ownAccess g c k (.store n) rd key data cmp addr
    (∀ i, i < n → t.mem.get (key + i) = BitVec.ofNat 8 (data.toNat / 256 ^ i)) ∧
    (∀ a, a < key ∨ key + n ≤ a → t.mem.get a = s.mem.get a) ∧
    OldBytesKept s t g c k key n ∧ ({ s with mem := t.mem, unseen := t.unseen } : State).Passes t g c k := by
  intro t
  have heq := s.nearStored_eq g c k key data.toNat hn
  have hpass : (s.nearStored g c k key n data.toNat).Passes t g c k := State.retire_passes _ g c k
  have hm : t.mem = (s.nearStored g c k key n data.toNat).mem := hpass.frame.mem
  have hu : t.unseen = (s.storing g c k key n).unseen := hpass.frame.unseen
  refine ⟨fun i hi => ?_, fun a ha => ?_, fun h => ?_, ?_⟩
  · rw [hm]
    exact State.writeN_get _ _ _ _ hi
  · rw [hm]
    exact State.writeN_get_other (s.storing g c k key n) key n _ ha
  · rw [hu]
    exact s.storing_get g c k key n h
  · rw [hm, hu, heq]
    rw [heq] at hpass
    exact hpass

/-- A near load of bytes not poisoned returns them, extended. -/
theorem State.ownAccess_load {s : State} {key n : Nat} (hq : s.poisoned key n = false) (g c k rd addr : Nat) (sg : Bool)
    (data cmp : Word) :
    s.Retires (s.ownAccess g c k (.load n sg) rd key data cmp addr) g c k rd (loaded (leNat s key n) n sg) := by
  have ht : s.ownAccess g c k (.load n sg) rd key data cmp addr = s.retireB g c k rd (loadValue n sg (s.read key n)) 6 :=
    if_neg (by rw [hq]; exact Bool.false_ne_true)
  rw [ht, State.loadValue_read]
  exact s.retireB_retires ..

/-- A near access of poisoned bytes, other than a store, raises 0x0D. -/
theorem State.ownAccess_poisoned {s : State} {key : Nat} {acc : Acc} (hq : s.poisoned key acc.size = true)
    (hs : ∀ n, acc ≠ .store n) (g c k rd addr : Nat) (data cmp : Word) :
    s.ownAccess g c k acc rd key data cmp addr = s.raise g c k 0x0D addr := by
  cases acc with
  | store n => exact absurd rfl (hs n)
  | load n sg => exact if_pos hq
  | amoadd => exact if_pos hq
  | amoswap => exact if_pos hq
  | amocas => exact if_pos hq

/-- A near atomic is atomicAt in the state with the old bytes kept, and returns its value. -/
theorem State.ownAccess_of_atomicAt {s w : State} {g c k key rd addr : Nat} {acc : Acc} {data cmp old : Word} (ha : acc.atomic)
    (hq : s.poisoned key 8 = false) (h : (s.storing g c k key 8).atomicAt g (some c) key acc data cmp = (old, w)) :
    s.ownAccess g c k acc rd key data cmp addr = w.retireB g c k rd old 8 := by
  obtain rfl | rfl | rfl := ha <;> simp only [State.ownAccess, hq, Bool.false_eq_true, if_false, h]

/-- A near atomic on a plain word: the new value stored, the old one kept for the engines and returned (R84). -/
theorem State.ownAccess_atomic {s : State} {key : Nat} {acc : Acc} (ha : acc.atomic) (hq : s.poisoned key 8 = false)
    (hcount : s.countWordAt key = none) (halloc : s.allocWordAt key = none) (g c k rd addr : Nat) (data cmp : Word) :
    let t := s.ownAccess g c k acc rd key data cmp addr
    let old := BitVec.ofNat 64 (leNat s key 8)
    let new := (acc.newValue old data cmp).getD old
    (∀ i, i < 8 → t.mem.get (key + i) = BitVec.ofNat 8 (new.toNat / 256 ^ i)) ∧
    (∀ a, a < key ∨ key + 8 ≤ a → t.mem.get a = s.mem.get a) ∧
    OldBytesKept s t g c k key 8 ∧ ({ s with mem := t.mem, unseen := t.unseen } : State).Retires t g c k rd old := by
  intro t old new
  let u := s.storing g c k key 8
  let w := u.atomicStored key (acc.newValue old data cmp)
  have ht : t = w.retireB g c k rd old 8 :=
    State.ownAccess_of_atomicAt ha hq (State.atomicAt_plain (s := s.storing g c k key 8) hcount halloc ha ..)
  have hret : w.Retires t g c k rd old := ht ▸ w.retireB_retires g c k rd old 8
  have hm : t.mem = w.mem := hret.frame.mem
  have hw : w = { u with mem := w.mem } := State.atomicStored_eq ..
  have hu : t.unseen = u.unseen := hret.frame.unseen.trans (by rw [hw])
  refine ⟨fun i hi => ?_, fun a hout => ?_, fun h => ?_, ?_⟩
  · rw [hm]
    exact u.atomicStored_get key _ hi
  · rw [hm]
    exact u.atomicStored_get_other key _ hout
  · rw [hu]
    exact s.storing_get g c k key 8 h
  · rw [hm, hu]
    exact hw ▸ hret

/-! ### The obligations -/

/-- An access instruction accesses with the bytes and the kind of its opcode. -/
theorem atomicOps_spec : ∀ x ∈ atomicOps, x.2.2.1.atomic ∧ ∀ old b r, x.2.2.2 old b r = x.2.2.1.newValue old b r := by
  simp only [atomicOps, List.forall_mem_cons, List.not_mem_nil, false_implies, implies_true, and_true]
  exact ⟨⟨.inl rfl, fun old b _ => congrArg some (BitVec.add_def old b).symm⟩, ⟨.inr (.inl rfl), fun _ _ _ => rfl⟩,
    ⟨.inr (.inr rfl), fun _ _ _ => rfl⟩⟩

theorem storeOps_short : ∀ x ∈ storeOps, x.2.2 < 64 := by simp [storeOps]

/-- Settles O7: an access in the own window is done at issue, by kind. -/
theorem nearAccesses : Obligations.NearAccesses := by
  refine ⟨?load, ?store, ?atomic⟩
  case load =>
    intro s g c k o d x hx h hp addr key hw ha hq
    refine ⟨_, exec_load x hx h, ?_⟩
    rw [State.access_own (fun _ => hp) ha hw rfl]
    exact State.ownAccess_load hq ..
  case store =>
    intro s g c k o d x hx h addr key hw ha hc
    refine ⟨_, exec_store x hx h, ?_⟩
    rw [State.access_own (acc := .store x.2.2) (fun hf => absurd hf (by simp [Acc.writes])) ha hw hc]
    exact s.ownAccess_store g c k d.rd key addr _ 0 (storeOps_short x hx)
  case atomic =>
    intro s g c k o d x hx h addr key hw ha hq hc hcount halloc
    obtain ⟨hatom, hnew⟩ := atomicOps_spec x hx
    refine ⟨_, exec_atomic x hx h, ?_⟩
    rw [State.access_own (fun hf => absurd hf (by simp [hatom.writes])) (hatom.size ▸ ha) hw (hatom.size ▸ hc)]
    simp only [hnew]
    exact State.ownAccess_atomic hatom hq hcount halloc ..

/-- The address recorded by a fault of an access. -/
theorem State.raise_code (s : State) {g c k e addr : Nat} (ha : addr < 2 ^ 64) :
    s.Faults (s.raise g c k e addr) g c k e ∧ (s.raise g c k e addr).f F.CORE_FAULT_ADDR_ADDR g c = addr :=
  ⟨s.raise_faults g c k e _, (s.raise_addr g c k e addr).trans (Nat.mod_eq_of_lt ha)⟩

theorem accessAddr_lt (s : State) (g c k : Nat) (d : Dec) (imm : Bool) : accessAddr s g c k d imm < 2 ^ 64 := by
  unfold accessAddr
  split <;> exact BitVec.isLt _

/-- Settles O8: the order of the checks of access, each raising its code at the address. -/
theorem badScratchpadAccessesFault : Obligations.BadScratchpadAccessesFault := by
  intro s g c k o d x hx h hp addr acc here code
  obtain ⟨data, cmp, he⟩ := exec_access hx h
  have raises {e : Nat} (hr : s.access g c k acc d.rd addr data cmp = s.raise g c k e addr) : code e := by
    refine ⟨_, he, ?_⟩
    rw [hr]
    exact s.raise_code (accessAddr_lt s g c k d _)
  refine ⟨fun ha => raises (State.access_misaligned hp ha), fun ha hh hwin => ?_, fun ha hh hother hown => ?_,
    fun ha hw hc hq hs => ?_⟩
  · obtain ⟨e, he4, hec, hin⟩ := hwin
    refine raises (State.access_error hp ha ?_)
    rw [s.xlate_alias _ hh.1 hh.2, State.winCheck_other he4 hec hin, Except.map]
  · refine raises (State.access_error hp ha ?_)
    rw [s.xlate_alias _ hh.1 hh.2, State.winCheck_none hown hother, Except.map]
  · refine raises ?_
    rw [State.access_own hp ha hw hc, State.ownAccess_poisoned hq hs]

end Sys2Proof.Machine
end

section
namespace Sys2Proof.Machine

open Sys2Proof.Claims

/-! PROOFS. FarAccessesTakeSlots. -/

/-! ### Requests sent on the flows -/

/-- The state but for the flows, what is sent, and the request tags drawn. -/
def State.besideSends (s : State) : State := { s.besideFlows with tag := 0 }

/-- t is a but for the flows, what is sent, and the request tags drawn. -/
def SendsOnly (a t : State) : Prop := t.besideSends = a.besideSends

namespace SendsOnly

variable {a s t : State}

theorem regs (h : SendsOnly a t) : t.regs = a.regs := (congrArg State.regs h :)
theorem mem (h : SendsOnly a t) : t.mem = a.mem := (congrArg State.mem h :)
theorem poison (h : SendsOnly a t) : t.poison = a.poison := (congrArg State.poison h :)
theorem strands (h : SendsOnly a t) : t.strands = a.strands := (congrArg State.strands h :)
theorem cores (h : SendsOnly a t) : t.cores = a.cores := (congrArg State.cores h :)
theorem msgs (h : SendsOnly a t) : t.msgs = a.msgs := (congrArg State.msgs h :)
theorem core (h : SendsOnly a t) (g : Nat) : t.core g = a.core g := by rw [State.core, h.cores]; rfl

theorem refl (a : State) : SendsOnly a a := Eq.refl a.besideSends

theorem trans (h : SendsOnly a s) (h' : SendsOnly s t) : SendsOnly a t := Eq.trans h' h

theorem of_flows (h : FlowsOnly a t) : SendsOnly a t := (congrArg (fun s : State => { s with tag := 0 }) h :)

theorem tag (a : State) (n : Nat) : SendsOnly a { a with tag := n } := Eq.refl a.besideSends

theorem flowSend (h : SendsOnly a s) (k : FlowKey) (ps : List TxPkt) : SendsOnly a (s.flowSend k ps) :=
  h.trans (of_flows (FlowsOnly.flowSend (.refl s)))

theorem foldl {α : Type} {f : State → α → State} (h : SendsOnly a s) (l : List α)
    (hf : ∀ u x, SendsOnly a u → SendsOnly a (f u x)) : SendsOnly a (l.foldl f s) :=
  List.foldlRecOn l f h fun u hu x _ => hf u x hu

theorem mirrorSend (h : SendsOnly a s) (key : Nat) (bs : List Byte) (poison : Bool) (k : Nat → FlowKey) (op : OpKind) :
    SendsOnly a (s.mirrorSend key bs poison k op).2 :=
  h.foldl _ fun _ _ hu => hu.flowSend _ _

end SendsOnly

/-! ### Slots (R74 to R76) -/

/-- What a request sends as it takes its slot: the mirror copies of a store, whose number it returns, or its packet. -/
def State.reqSend (s : State) (g : Nat) (r : Req) : Nat × State :=
  match r.loc, r.acc with
  | .mem k, .store n => s.mirrorSend k (toLE n r.data.toNat) false (fun node => spurKey g r.who.c node 0) (.scalar g r.seq)
  | .remote node a, _ => (0, ({ s with tag := (s.tag + 1) % 2 ^ 32 } : State).flowSend (spurKey g r.who.c node a)
      [{ pkt := remoteReq r.acc r.who.c a s.tag r.data r.cmp, refs := [{ op := .scalar g r.seq }] }])
  | _, _ => (0, s)

/-- A request put into a slot, with the peak of slots in use. -/
def State.slotPut (s : State) (g : Nat) (r : Req) : State :=
  let x := s.core g
  let s := s.setCore g { x with slots := x.slots ++ [r] }
  if s.f F.CORE_SLOT_STAT_PEAK g < x.slots.length + 1 then s.setF F.CORE_SLOT_STAT_PEAK (x.slots.length + 1) g else s

theorem State.slotTake_eq (s : State) (g : Nat) (r : Req) :
    s.slotTake g r = (s.reqSend g r).2.slotPut g { r with dups := (s.reqSend g r).1 } := by
  obtain ⟨seq, who, acc, rd, addr, loc, tgt, data, cmp, rsp, dups, fail⟩ := r
  cases loc <;> cases acc <;> rfl

theorem State.reqSend_only (s : State) (g : Nat) (r : Req) : SendsOnly s (s.reqSend g r).2 := by
  unfold State.reqSend
  split
  · exact (SendsOnly.refl s).mirrorSend ..
  · exact (SendsOnly.tag s _).flowSend _ _
  · exact SendsOnly.refl s

theorem State.slotPut_rest (s : State) (g : Nat) (r : Req) :
    (s.slotPut g r).mem = s.mem ∧ (s.slotPut g r).poison = s.poison ∧ (s.slotPut g r).strands = s.strands ∧
      (s.slotPut g r).core g = { s.core g with slots := (s.core g).slots ++ [r] } := by
  unfold State.slotPut
  dsimp only
  split <;> simp

/-- A request that takes a slot of core g stands last there; memory and strands stay. -/
theorem State.slotTake_spec (s : State) (g : Nat) (r : Req) :
    (s.slotTake g r).mem = s.mem ∧ (s.slotTake g r).poison = s.poison ∧ (s.slotTake g r).strands = s.strands ∧
      ∃ m, (s.slotTake g r).core g = { s.core g with slots := (s.core g).slots ++ [{ r with dups := m }] } := by
  have hs := s.reqSend_only g r
  obtain ⟨hm, hp, hst, hc⟩ := (s.reqSend g r).2.slotPut_rest g { r with dups := (s.reqSend g r).1 }
  rw [State.slotTake_eq]
  exact ⟨hm.trans hs.mem, hp.trans hs.poison, hst.trans hs.strands, _, by rw [hc, hs.core]⟩

/-! ### The issue of a far access -/

theorem State.OnlyStrand.poison {s t : State} {g c k : Nat} (h : s.OnlyStrand t g c k) : t.poison = s.poison :=
  (congrArg State.poison h.rest :)

theorem State.OnlyStrand.slots {s t : State} {g c k : Nat} (h : s.OnlyStrand t g c k) :
    (t.core g).slots = (s.core g).slots := (congrArg Core.slots h.core :)

theorem State.OnlyStrand.sideq {s t : State} {g c k : Nat} (h : s.OnlyStrand t g c k) :
    (t.core g).sideq = (s.core g).sideq := (congrArg Core.sideq h.core :)

section
variable (s : State) (g c k : Nat) (acc : Acc) (rd addr : Nat) (loc : Loc) (data cmp : Word)

/-- The request that strand k makes of an access (R74). -/
def State.request : Req :=
  { seq := (s.core g).seq, who := (s.strand g c k).who c k, acc := acc, rd := rd, addr := addr, loc := loc,
    tgt := targetOf loc, data := data, cmp := cmp }

/-- The strand that waits for what the access returns. -/
def Strand.awaits (u : Strand) : Strand := if acc.returns then { u with pend := u.pend ++ [rd] } else u

theorem Strand.awaits_next (u : Strand) :
    ({ u.awaits acc rd with pc := (u.awaits acc rd).pc + 1 } : Strand) =
      { u with pc := u.pc + 1, pend := if acc.returns then u.pend ++ [rd] else u.pend } := by
  unfold Strand.awaits
  split <;> rfl

/-- Below the quota of its target, an access takes a slot. -/
theorem State.slotted_slot (hs : (s.core g).slots.length < 48) (hq : (s.core g).held (targetOf loc) < quotaOf (targetOf loc)) :
    s.slotted g c k acc rd addr loc data cmp =
      ((s.setCore g { s.core g with seq := (s.core g).seq + 1 }).slotTake g (s.request g c k acc rd addr loc data cmp)).retire
        g c k ((s.strand g c k).awaits acc rd) := by
  rw [State.slotted, if_neg (Nat.not_le.mpr hs), if_pos hq]
  rfl

/-- At the quota of its target, an access enters the side queue while that has room. -/
theorem State.slotted_side (hs : (s.core g).slots.length < 48) (hq : quotaOf (targetOf loc) ≤ (s.core g).held (targetOf loc))
    (hside : (s.core g).sideq.length < 32) :
    s.slotted g c k acc rd addr loc data cmp =
      ((s.setCore g { s.core g with
        seq := (s.core g).seq + 1, sideq := (s.core g).sideq ++ [s.request g c k acc rd addr loc data cmp] }).addF
          F.CORE_SIDEQ_WAITS_COUNT 1 g c).retire g c k ((s.strand g c k).awaits acc rd) := by
  rw [State.slotted, if_neg (Nat.not_le.mpr hs), if_neg (Nat.not_lt.mpr hq), if_pos hside]
  rfl

theorem State.slotted_waits
    (h : 48 ≤ (s.core g).slots.length ∨
      quotaOf (targetOf loc) ≤ (s.core g).held (targetOf loc) ∧ 32 ≤ (s.core g).sideq.length) :
    s.slotted g c k acc rd addr loc data cmp = s := by
  by_cases hs : 48 ≤ (s.core g).slots.length
  · rw [State.slotted, if_pos hs]
  · obtain ⟨hq, hside⟩ := h.resolve_left hs
    rw [State.slotted, if_neg hs, if_neg (Nat.not_lt.mpr hq), if_neg (Nat.not_lt.mpr hside)]

end

/-- Settles O9: by the branches of slotted; what a slot taken sends leaves memory, strands and the queues. -/
theorem farAccessesTakeSlots : Obligations.FarAccessesTakeSlots := by
  intro s g c k d loc x hx h addr acc u y
  obtain ⟨data, cmp, he⟩ := exec_access hx h
  refine ⟨fun hw hp => ?_, fun hp ha hl hown hc => ⟨_, he, ?_⟩⟩
  · rw [he, State.access_pending hw hp]
  · let q := s.request g c k acc d.rd addr loc data cmp
    rw [State.access_ok hp ha hl hc, hown]
    by_cases hfull : 48 ≤ y.slots.length ∨ quotaOf (targetOf loc) ≤ y.held (targetOf loc) ∧ 32 ≤ y.sideq.length
    · rw [if_neg Bool.false_ne_true, State.slotted_waits _ _ _ _ _ _ _ _ _ _ hfull]
      refine ⟨rfl, rfl, fun hs hq => ?_, fun hs hq hside => ?_, fun _ => rfl⟩ <;> omega
    obtain ⟨hs, hroom⟩ := not_or.mp hfull
    replace hs : y.slots.length < 48 := Nat.not_le.mp hs
    by_cases hq : y.held (targetOf loc) < quotaOf (targetOf loc)
    · rw [if_neg Bool.false_ne_true, State.slotted_slot _ _ _ _ _ _ _ _ _ _ hs hq]
      obtain ⟨hm, hpo, hst, m, hcore⟩ := (s.setCore g { y with seq := y.seq + 1 }).slotTake_spec g q
      have honly := ((s.setCore g { y with seq := y.seq + 1 }).slotTake g q).retire_only g c k (u.awaits acc d.rd)
      refine ⟨honly.mem.trans hm, honly.poison.trans hpo, fun _ _ => ⟨?_, { q with dups := m }, ?_, ?_, ?_⟩,
        fun _ hq' _ => absurd hq (Nat.not_lt.mpr hq'), fun hf => absurd hf hfull⟩
      · rw [State.retire_strand_same, Strand.awaits_next]
      · exact ⟨rfl, rfl, rfl, rfl, rfl, rfl, rfl⟩
      · rw [honly.slots, hcore, State.core_setCore_same]
      · rw [honly.sideq, hcore, State.core_setCore_same]
    · have hq' : quotaOf (targetOf loc) ≤ y.held (targetOf loc) := Nat.not_lt.mp hq
      have hside : y.sideq.length < 32 := Nat.not_le.mp fun h32 => hroom ⟨hq', h32⟩
      rw [if_neg Bool.false_ne_true, State.slotted_side _ _ _ _ _ _ _ _ _ _ hs hq' hside]
      have honly := ((s.setCore g { y with seq := y.seq + 1, sideq := y.sideq ++ [q] }).addF
        F.CORE_SIDEQ_WAITS_COUNT 1 g c).retire_only g c k (u.awaits acc d.rd)
      refine ⟨honly.mem, honly.poison, fun _ hlt => absurd hlt hq, fun _ _ _ => ⟨?_, q, ?_, ?_, ?_⟩,
        fun hf => absurd hf hfull⟩
      · rw [State.retire_strand_same, Strand.awaits_next]
      · exact ⟨rfl, rfl, rfl, rfl, rfl, rfl, rfl⟩
      · rw [honly.sideq, State.addF_eq, State.setF_core, State.core_setCore_same]
      · rw [honly.slots, State.addF_eq, State.setF_core, State.core_setCore_same]

end Sys2Proof.Machine
end

section
namespace Sys2Proof.Machine

open Sys2Proof.Claims

/-! PROOFS. What an operation under way returns, what it raises, and whether its context is gone (R65, R88; log entry 72). -/

/-! ### Arrival at a strand -/

/-- An arrival changes the strand that waits, and nothing else. -/
theorem State.arrive_rest (s : State) (g : Nat) (w : Who) (rd : Nat) (v : Option Word) :
    s.arrive g w rd v = { s with strands := (s.arrive g w rd v).strands } := by
  unfold State.arrive
  dsimp only
  split
  · rfl
  · split
    · split <;> rfl
    · rfl

/-- A value that arrives at the dispatch that waits for it is in its register, whose pending mark goes. -/
theorem State.arrive_strand {s : State} {g : Nat} {w : Who} (rd : Nat) (v : Word)
    (hex : (s.strand g w.c w.k).exec = true) (hend : (s.strand g w.c w.k).ended = false)
    (hfid : (s.strand g w.c w.k).fid = w.fid) :
    (s.arrive g w rd (some v)).strand g w.c w.k =
      ({ s.strand g w.c w.k with pend := (s.strand g w.c w.k).pend.erase rd } : Strand).wr rd v := by
  simp [State.arrive, hex, hend, hfid]

theorem Strand.rd_wr_of_pend (u : Strand) (l : List Nat) (rd q : Nat) (v : Word) :
    (({ u with pend := l } : Strand).wr rd v).rd q = if q = rd ∧ q ≠ 0 then v else u.rd q := by
  rw [Strand.rd_wr]
  have hiff : q = rd ∧ rd ≠ 0 ↔ q = rd ∧ q ≠ 0 := and_congr_right fun e => by rw [e]
  simp only [hiff]
  rfl

/-! ### Faults of an operation under way -/

theorem State.stale_iff (s : State) (g c seq : Nat) : s.stale g c seq = true ↔ CtxGone s g c seq := by
  simp [State.stale, State.occupied, CtxGone]

theorem State.stale_of_ctxs {s t : State} (h : t.ctxs = s.ctxs) (g c seq : Nat) : t.stale g c seq = s.stale g c seq := by
  have hctx : t.ctx g c = s.ctx g c := by rw [State.ctx, h]; rfl
  rw [State.stale, State.occupied, hctx]
  rfl

/-- A fault of an operation writes what raiseAt writes, and marks its strand. -/
theorem State.raiseOp_rest (s : State) (g c k fid block index code : Nat) (addr : Option Nat) :
    s.raiseOp g c k fid block index code addr = { s.raiseAt g c code (some (k, block, index)) addr with
      strands := (s.raiseOp g c k fid block index code addr).strands } := by
  unfold State.raiseOp
  dsimp only
  split <;> rfl

section
variable (s : State) (g c k fid block index code : Nat) (addr : Option Nat)

theorem State.raiseOp_reg (r : Reg) :
    (s.raiseOp g c k fid block index code addr).reg r = (s.raiseAt g c code (some (k, block, index)) addr).reg r := by
  rw [State.raiseOp_rest]
  rfl

theorem State.raiseOp_f (y : Fld) (i j l : Nat) :
    (s.raiseOp g c k fid block index code addr).f y i j l =
      (s.raiseAt g c code (some (k, block, index)) addr).f y i j l := by rw [State.f, State.raiseOp_reg]; rfl

theorem State.raiseOp_mem : (s.raiseOp g c k fid block index code addr).mem = s.mem := by
  rw [State.raiseOp_rest]
  exact s.raiseAt_mem ..

theorem State.raiseOp_cores : (s.raiseOp g c k fid block index code addr).cores = s.cores := by
  rw [State.raiseOp_rest]
  exact (congrArg State.cores (s.raiseAt_rest ..) :)

end

/-- The records of a fault that an operation of instruction w raises (R88). -/
theorem State.raiseOp_blamed (s : State) (g : Nat) (w : Who) {code : Nat} (hc : code < 256) (addr : Option Nat) :
    Blamed (s.raiseOp g w.c w.k w.fid w.block w.index code addr) g w code := by
  refine ⟨?_, ?_, ?_, ?_, ?_, ?_⟩ <;> simp only [State.fb, State.raiseOp_f]
  · exact (s.raiseAt_code ..).trans (Nat.mod_eq_of_lt hc)
  · exact s.raiseAt_strand ..
  · exact s.raiseAt_block ..
  · exact s.raiseAt_index ..
  · exact s.raiseAt_halted ..
  · exact s.raiseAt_event ..

theorem State.raiseOpWho_gone {s : State} {g : Nat} {w : Who} {seq : Nat} (h : CtxGone s g w.c seq) (code addr : Nat) :
    s.raiseOpWho g w seq code addr = s := if_pos ((s.stale_iff g w.c seq).mpr h)

theorem State.raiseOpWho_here {s : State} {g : Nat} {w : Who} {seq : Nat} (h : ¬CtxGone s g w.c seq) (code addr : Nat) :
    s.raiseOpWho g w seq code addr = s.raiseOp g w.c w.k w.fid w.block w.index code (some addr) :=
  if_neg fun e => h ((s.stale_iff g w.c seq).mp e)

theorem State.raiseOpWho_mem (s : State) (g : Nat) (w : Who) (seq code addr : Nat) :
    (s.raiseOpWho g w seq code addr).mem = s.mem := by
  unfold State.raiseOpWho
  split
  · rfl
  · exact s.raiseOp_mem ..

theorem State.raiseOpWho_cores (s : State) (g : Nat) (w : Who) (seq code addr : Nat) :
    (s.raiseOpWho g w seq code addr).cores = s.cores := by
  unfold State.raiseOpWho
  split
  · rfl
  · exact s.raiseOp_cores ..

/-- Progress of an operation's context is bookkeeping of the stall watch (R52). -/
theorem State.progressOf_rest (s : State) (g c seq : Nat) :
    s.progressOf g c seq = { s with watch := (s.progressOf g c seq).watch, stalled := (s.progressOf g c seq).stalled } := by
  unfold State.progressOf
  split <;> rfl

end Sys2Proof.Machine
end

section
namespace Sys2Proof.Machine

open Sys2Proof.Claims

/-! PROOFS. SlotsCompleteAndPassOn. -/

/-! ### A freed slot is offered on (R77) -/

theorem State.slotTake_reg (s : State) (g : Nat) (q : Req) {r : Reg} (h : r.name ≠ .CORE_SLOT_STAT) :
    (s.slotTake g q).reg r = s.reg r := by
  have hr : (s.reqSend g q).2.reg r = s.reg r := by rw [State.reg, (s.reqSend_only g q).regs]; rfl
  rw [State.slotTake_eq, ← hr]
  unfold State.slotPut
  dsimp only
  split
  · rw [State.reg_setF_other _ _ _ _ _ _ (fun e => h (congrArg Reg.name e)), State.setCore_reg]
  · rw [State.setCore_reg]

/-- An offer leaves memory, the strands, and every register but the statistics of the slots. -/
theorem State.slotOffer_rest (s : State) (g : Nat) (t : Target) :
    (s.slotOffer g t).mem = s.mem ∧ (s.slotOffer g t).strands = s.strands ∧
      ∀ r : Reg, r.name ≠ .CORE_SLOT_STAT → (s.slotOffer g t).reg r = s.reg r := by
  have htake (y : Core) (q : Req) : ((s.setCore g y).slotTake g q).mem = s.mem ∧
      ((s.setCore g y).slotTake g q).strands = s.strands ∧
      ∀ r : Reg, r.name ≠ .CORE_SLOT_STAT → ((s.setCore g y).slotTake g q).reg r = s.reg r := by
    obtain ⟨hm, -, hst, -⟩ := (s.setCore g y).slotTake_spec g q
    exact ⟨hm, hst, fun r hr => State.slotTake_reg _ _ _ hr⟩
  unfold State.slotOffer
  dsimp only
  split
  · exact ⟨rfl, rfl, fun _ _ => rfl⟩
  · exact htake _ _

theorem State.slotOffer_nil {s : State} {g : Nat} (h : (s.core g).sideq = []) (t : Target) : s.slotOffer g t = s := by
  simp [State.slotOffer, h]

/-- The oldest entry of the side queue for the target takes the slot. -/
theorem State.slotOffer_core {s : State} {g : Nat} {t : Target} {q : Req}
    (h : (s.core g).sideq.find? (fun r => decide (r.tgt = t)) = some q) :
    ∃ m, (s.slotOffer g t).core g = { s.core g with
      slots := (s.core g).slots ++ [{ q with dups := m }], sideq := (s.core g).sideq.filter (fun x => x.seq ≠ q.seq) } := by
  have ht : s.slotOffer g t =
      (s.setCore g { s.core g with sideq := (s.core g).sideq.filter (fun x => x.seq ≠ q.seq) }).slotTake g q := by
    simp only [State.slotOffer, h]
  obtain ⟨-, -, -, m, hcore⟩ := (s.setCore g
    { s.core g with sideq := (s.core g).sideq.filter (fun x => x.seq ≠ q.seq) }).slotTake_spec g q
  exact ⟨m, by rw [ht, hcore, State.core_setCore_same]⟩

/-! ### What a request does at its target -/

section
variable {s : State} {g : Nat} {r : Req} (hshut : s.hostShut r.loc = false) (hst : r.status = 0)
include hshut hst

theorem State.reqEffect_store {key n : Nat} (hl : r.loc.key = some key) (ha : r.acc = .store n) :
    s.reqEffect g r = (none, none, s.write key (toLE n r.data.toNat)) := by
  simp [State.reqEffect, hshut, hst, hl, ha, State.store]

theorem State.reqEffect_load {key n : Nat} {sg : Bool} (hl : r.loc.key = some key) (ha : r.acc = .load n sg)
    (hq : s.poisoned key n = false) : s.reqEffect g r = (some (loaded (leNat s key n) n sg), none, s) := by
  simp [State.reqEffect, hshut, hst, hl, ha, Acc.size, hq, State.loadValue_read]

theorem State.reqEffect_atomic {key : Nat} (hl : r.loc.key = some key) (ha : r.acc.atomic) (hq : s.poisoned key 8 = false)
    (hcount : s.countWordAt key = none) (halloc : s.allocWordAt key = none) :
    s.reqEffect g r = (some (BitVec.ofNat 64 (leNat s key 8)), none,
      s.atomicStored key (r.acc.newValue (BitVec.ofNat 64 (leNat s key 8)) r.data r.cmp)) := by
  have hplain := State.atomicAt_plain hcount halloc ha g (some r.who.c) r.data r.cmp
  obtain ha | ha | ha := ha <;> rw [ha] at hplain <;>
    simp [State.reqEffect, hshut, hst, hl, ha, Acc.size, hq, hplain]

theorem State.reqEffect_remote {x : Rsp} (hl : r.loc.key = none) (hx : r.rsp = some x) (hq : x.poison = false) :
    s.reqEffect g r = (returned s r, none, s) := by
  cases ha : r.acc <;> simp [State.reqEffect, hshut, hst, hl, ha, hx, hq, returned, Acc.returns]

end

/-- What a completing store or atomic stores is what its kind makes of the old value. -/
theorem stored_of_atomic {s : State} {r : Req} (ha : r.acc.atomic) (key : Nat) :
    stored s r key = (r.acc.newValue (BitVec.ofNat 64 (leNat s key 8)) r.data r.cmp).map fun v => (8, v) := by
  obtain ha | ha | ha := ha <;> simp only [stored, ha, Acc.newValue]
  · simp [BitVec.ofNat_add]
  · rfl
  · split <;> rfl

theorem returned_of_atomic {s : State} {r : Req} (ha : r.acc.atomic) {key : Nat} (hl : r.loc.key = some key) :
    returned s r = some (BitVec.ofNat 64 (leNat s key 8)) := by
  obtain ha | ha | ha := ha <;> simp [returned, ha, hl]

/-- What a request stores is at its key, and nothing else of memory changes. -/
def ReqStored (s w : State) (r : Req) : Prop :=
  (∀ key m v, r.loc.key = some key → stored s r key = some (m, v) →
    (∀ i, i < m → w.mem.get (key + i) = BitVec.ofNat 8 (v.toNat / 256 ^ i)) ∧
    ∀ a, a < key ∨ key + m ≤ a → w.mem.get a = s.mem.get a) ∧
  ((∀ key, r.loc.key = some key → stored s r key = none) → w.mem = s.mem)

theorem ReqStored.of_none {s : State} {r : Req} (h : ∀ key, r.loc.key = some key → stored s r key = none) :
    ReqStored s s r :=
  ⟨fun key _ _ hl hv => (Option.some_ne_none _ (hv.symm.trans (h key hl))).elim, fun _ => rfl⟩

theorem ReqStored.of_some {s w : State} {r : Req} {key m : Nat} {v : Word} (hl : r.loc.key = some key)
    (hv : stored s r key = some (m, v)) (hin : ∀ i, i < m → w.mem.get (key + i) = BitVec.ofNat 8 (v.toNat / 256 ^ i))
    (hout : ∀ a, a < key ∨ key + m ≤ a → w.mem.get a = s.mem.get a) : ReqStored s w r := by
  refine ⟨fun key' m' v' hl' hv' => ?_, fun hn => (Option.some_ne_none _ (hv.symm.trans (hn key hl))).elim⟩
  obtain rfl : key = key' := Option.some.inj (hl.symm.trans hl')
  obtain ⟨rfl, rfl⟩ : m = m' ∧ v = v' := Prod.mk.inj (Option.some.inj (hv.symm.trans hv'))
  exact ⟨hin, hout⟩

/-- A request that goes well returns its value, stores its bytes, and raises nothing. -/
theorem State.reqEffect_ok {s : State} {g : Nat} {r : Req} (hr : s.reqReady g r = true) (hshut : s.hostShut r.loc = false)
    (hst : r.status = 0)
    (hkey : ∀ key, r.loc.key = some key →
      s.poisoned key r.acc.size = false ∧ s.countWordAt key = none ∧ s.allocWordAt key = none)
    (hrsp : ∀ x, r.rsp = some x → x.poison = false) :
    ∃ w : State, s.reqEffect g r = (returned s r, none, w) ∧ w = { s with mem := w.mem, poison := w.poison } ∧
      ReqStored s w r := by
  cases hl : r.loc.key with
  | none =>
    obtain ⟨x, hx⟩ : ∃ x, r.rsp = some x := by
      simp only [State.reqReady, hl, Option.isSome_none, Bool.false_or, Bool.and_eq_true] at hr
      exact Option.isSome_iff_exists.mp hr.2
    exact ⟨s, State.reqEffect_remote hshut hst hl hx (hrsp x hx), rfl,
      .of_none fun key hl' => (Option.some_ne_none _ (hl'.symm.trans hl)).elim⟩
  | some key =>
    obtain ⟨hq, hcount, halloc⟩ := hkey key hl
    have atomic (ha : r.acc.atomic) : ∃ w : State, s.reqEffect g r = (returned s r, none, w) ∧
        w = { s with mem := w.mem, poison := w.poison } ∧ ReqStored s w r := by
      rw [ha.size] at hq
      refine ⟨_, (State.reqEffect_atomic hshut hst hl ha hq hcount halloc).trans (by rw [returned_of_atomic ha hl]), ?_, ?_⟩
      · exact (State.atomicStored_eq ..).trans (by rw [State.atomicStored_eq])
      · have hsto := stored_of_atomic (s := s) ha key
        cases hv : r.acc.newValue (BitVec.ofNat 64 (leNat s key 8)) r.data r.cmp with
        | none =>
          refine .of_none fun key' hl' => ?_
          obtain rfl : key = key' := Option.some.inj (hl.symm.trans hl')
          rw [hsto, hv, Option.map_none]
        | some v =>
          exact .of_some hl (v := v) (hsto.trans (by rw [hv, Option.map_some])) (fun i hi => s.atomicStored_get key (some v) hi)
            fun a ha => s.atomicStored_get_other key (some v) ha
    cases ha : r.acc with
    | load n sg =>
      refine ⟨s, (State.reqEffect_load hshut hst hl ha (by rwa [ha] at hq)).trans ?_, rfl, .of_none fun _ _ => ?_⟩
      · simp only [returned, ha, hl]
      · simp only [stored, ha]
    | store n =>
      refine ⟨s.write key (toLE n r.data.toNat), (State.reqEffect_store hshut hst hl ha).trans ?_, rfl, .of_some hl (m := n) (v := r.data) ?_ ?_ ?_⟩
      · simp only [returned, ha]
      · simp only [stored, ha]
      · exact fun i hi => s.writeN_get key n _ hi
      · exact fun a hout => s.writeN_get_other key n _ hout
    | amoadd => exact atomic (.inl ha)
    | amoswap => exact atomic (.inr (.inl ha))
    | amocas => exact atomic (.inr (.inr ha))

/-! ### The completion -/

/-- The slot of a request is freed, and what it returns has arrived (R77). -/
def State.reqDone (s : State) (g : Nat) (r : Req) (v : Option Word) : State :=
  let s := s.setCore g { s.core g with slots := (s.core g).slots.filter (fun q => q.seq ≠ r.seq) }
  if r.acc.returns then s.arrive g r.who r.rd v else s

theorem State.reqDone_rest (s : State) (g : Nat) (r : Req) (v : Option Word) :
    s.reqDone g r v = { s with cores := (s.reqDone g r v).cores, strands := (s.reqDone g r v).strands } := by
  unfold State.reqDone
  dsimp only
  split
  · rw [State.arrive_rest]
    rfl
  · rfl

theorem State.reqDone_core (s : State) (g : Nat) (r : Req) (v : Option Word) :
    (s.reqDone g r v).core g = { s.core g with slots := (s.core g).slots.filter (fun q => q.seq ≠ r.seq) } := by
  unfold State.reqDone
  dsimp only
  split
  · rw [State.arrive_rest]
    exact State.core_setCore_same ..
  · exact State.core_setCore_same ..

theorem returns_of_returned {s : State} {r : Req} {v : Word} (h : returned s r = some v) : r.acc.returns = true := by
  cases ha : r.acc with
  | store n => simp [returned, ha] at h
  | _ => rfl

theorem State.reqDone_strand {s : State} {g : Nat} {r : Req} {v : Word} (hret : r.acc.returns = true)
    (hex : (s.strand g r.who.c r.who.k).exec = true) (hend : (s.strand g r.who.c r.who.k).ended = false)
    (hfid : (s.strand g r.who.c r.who.k).fid = r.who.fid) :
    (s.reqDone g r (some v)).strand g r.who.c r.who.k =
      ({ s.strand g r.who.c r.who.k with pend := (s.strand g r.who.c r.who.k).pend.erase r.rd } : Strand).wr r.rd v := by
  rw [State.reqDone, if_pos hret]
  exact State.arrive_strand (s := s.setCore g _) r.rd v hex hend hfid

theorem execScalarAccessComplete_fault {s w : State} {g n e : Nat} {r : Req} {v : Option Word}
    (hslot : (s.core g).slots[n]? = some r) (hr : s.reqReady g r = true) (he : s.reqEffect g r = (v, some e, w)) :
    execScalarAccessComplete g n s = .next (((w.reqDone g r v).raiseOpWho g r.who r.seq e r.addr).slotOffer g r.tgt) := by
  simp only [execScalarAccessComplete, hslot, hr, Bool.not_true, Bool.false_eq_true, if_false, he]
  rfl

theorem execScalarAccessComplete_ok {s w : State} {g n : Nat} {r : Req} {v : Option Word}
    (hslot : (s.core g).slots[n]? = some r) (hr : s.reqReady g r = true) (he : s.reqEffect g r = (v, none, w)) :
    execScalarAccessComplete g n s = .next (((w.reqDone g r v).progressOf g r.who.c r.seq).slotOffer g r.tgt) := by
  simp only [execScalarAccessComplete, hslot, hr, Bool.not_true, Bool.false_eq_true, if_false, he]
  rfl

theorem State.reqEffect_shut {s : State} {r : Req} (h : s.hostShut r.loc = true) (g : Nat) :
    s.reqEffect g r = (none, some 0x05, s) := if_pos h

/-- Settles O10: the request's effect, the slot freed, and the offer, which touches none of the rest. -/
theorem slotsCompleteAndPassOn : Obligations.SlotsCompleteAndPassOn := by
  constructor
  · intro s g n r hslot hr hshut
    refine ⟨_, execScalarAccessComplete_fault hslot hr (State.reqEffect_shut hshut g), ?_⟩
    obtain ⟨hmem, -, hreg⟩ := ((s.reqDone g r none).raiseOpWho g r.who r.seq 0x05 r.addr).slotOffer_rest g r.tgt
    have hdone := s.reqDone_rest g r none
    have hstale : CtxGone (s.reqDone g r none) g r.who.c r.seq ↔ CtxGone s g r.who.c r.seq := by
      rw [← State.stale_iff, ← State.stale_iff, State.stale_of_ctxs (s := s) (by rw [hdone])]
    have hf (y : Fld) (i j l : Nat) (hy : y.reg ≠ .CORE_SLOT_STAT) :
        (((s.reqDone g r none).raiseOpWho g r.who r.seq 0x05 r.addr).slotOffer g r.tgt).f y i j l =
          ((s.reqDone g r none).raiseOpWho g r.who r.seq 0x05 r.addr).f y i j l := by
      rw [State.f, hreg _ hy]
      rfl
    refine ⟨?_, fun hgone => ?_, fun hgone => ?_⟩
    · rw [hmem, State.raiseOpWho_mem, hdone]
    · have hhere := State.raiseOpWho_here (mt hstale.mp hgone) 0x05 r.addr
      obtain ⟨hcode, -, -, -, hhalt, -⟩ :=
        (s.reqDone g r none).raiseOp_blamed g r.who (code := 0x05) (by decide) (some r.addr)
      refine ⟨?_, ?_, ?_⟩
      · rw [hf _ _ _ _ (by decide), hhere, hcode]
      · rw [hf _ _ _ _ (by decide), hhere, State.raiseOp_f, State.raiseAt_addr]
      · rw [State.fb, hf _ _ _ _ (by decide), hhere]
        exact hhalt
    · have hnone := State.raiseOpWho_gone (hstale.mpr hgone) 0x05 r.addr
      have hreg' (x : Reg) (hx : x.name ≠ .CORE_SLOT_STAT) :
          (((s.reqDone g r none).raiseOpWho g r.who r.seq 0x05 r.addr).slotOffer g r.tgt).reg x = s.reg x := by
        rw [hreg x hx, hnone, hdone]
        rfl
      have hne : RegName.CORE_FAULT ≠ .CORE_SLOT_STAT ∧ F.CORE_CTX_HALT_HALTED.reg ≠ .CORE_SLOT_STAT := by decide
      refine ⟨hreg' _ hne.1, ?_⟩
      rw [State.fb, State.f, hreg' _ hne.2]
      rfl
  · intro s g n r hslot hr hshut hst hkey hrsp
    obtain ⟨w, he, hw, hstore⟩ := State.reqEffect_ok hr hshut hst hkey hrsp
    refine ⟨_, execScalarAccessComplete_ok hslot hr he, ?_⟩
    have hdone := w.reqDone_rest g r (returned s r)
    have hprog := (w.reqDone g r (returned s r)).progressOf_rest g r.who.c r.seq
    obtain ⟨hmem, hstrands, -⟩ := ((w.reqDone g r (returned s r)).progressOf g r.who.c r.seq).slotOffer_rest g r.tgt
    have hm : (((w.reqDone g r (returned s r)).progressOf g r.who.c r.seq).slotOffer g r.tgt).mem = w.mem := by
      rw [hmem, hprog, hdone]
    have hcore : ((w.reqDone g r (returned s r)).progressOf g r.who.c r.seq).core g =
        { s.core g with slots := (s.core g).slots.filter (fun q => q.seq ≠ r.seq) } := by
      rw [hprog]
      refine (w.reqDone_core g r (returned s r)).trans ?_
      rw [hw]
      rfl
    refine ⟨fun v hv hex hend hfid => ?_, fun key m v hl hv => ?_, fun hn => hm.trans (hstore.2 hn), fun hside => ?_,
      fun q hq => ?_⟩
    · have hst' : (((w.reqDone g r (returned s r)).progressOf g r.who.c r.seq).slotOffer g r.tgt).strand g r.who.c r.who.k =
          ({ s.strand g r.who.c r.who.k with pend := (s.strand g r.who.c r.who.k).pend.erase r.rd } : Strand).wr r.rd v := by
        have hs : w.strand g r.who.c r.who.k = s.strand g r.who.c r.who.k := by rw [hw]; rfl
        rw [State.strand, hstrands, hprog, hv, ← hs]
        exact State.reqDone_strand (returns_of_returned hv) (hs ▸ hex) (hs ▸ hend) (hs ▸ hfid)
      rw [hst']
      exact ⟨Strand.wr_pend .., Strand.wr_pc .., fun q => Strand.rd_wr_of_pend ..⟩
    · rw [hm]
      exact hstore.1 key m v hl hv
    · rw [State.slotOffer_nil (by rw [hcore]; exact hside), hcore]
      exact ⟨rfl, hside⟩
    · obtain ⟨m, hoffer⟩ := State.slotOffer_core (s := (w.reqDone g r (returned s r)).progressOf g r.who.c r.seq)
        (t := r.tgt) (q := q) (by rw [hcore]; exact hq)
      rw [hoffer, hcore]
      exact ⟨{ q with dups := m }, rfl, rfl, rfl, rfl, rfl, rfl⟩

end Sys2Proof.Machine
end

section
namespace Sys2Proof.Machine

open Sys2Proof.Claims

/-! PROOFS. MatrixInstructionsQueue, VectorInstructionsQueue, MessagesQueue. -/

/-! ### The engine queues (R82) -/

/-- A change of core g's units and a retirement, as an issue to a queue makes them. -/
theorem State.retire_queued (s : State) (g c k : Nat) (y : Core) :
    Queued s ((s.setCore g y).retire g c k (s.strand g c k)) g c k y := (s.setCore g y).retire_passes g c k

theorem Bool.toNat_eq_ite (b : Bool) : b.toNat = if b then 1 else 0 := by cases b <;> rfl

theorem exec_matrix (s : State) (g c k : Nat) : ∀ x ∈ matrixOps, exec (x.2 g c k) s = .next (s.mtxIssue g c k x.1) := by
  simp only [matrixOps, List.forall_mem_cons, List.not_mem_nil, false_implies, implies_true, and_true]
  exact ⟨rfl, rfl, rfl, rfl, rfl, rfl⟩

theorem exec_vector (s : State) (g c k : Nat) : ∀ x ∈ vectorOps, exec (x.2 g c k) s = .next (s.vecIssue g c k x.1) := by
  simp only [vectorOps, List.forall_mem_cons, List.not_mem_nil, false_implies, implies_true, and_true]
  exact ⟨rfl, rfl, rfl, rfl, rfl, rfl, rfl, rfl, rfl, rfl, rfl, rfl, rfl, rfl, rfl, rfl, rfl, rfl, rfl, rfl, rfl⟩

/-- Settles O11: the branches of mtxIssue. -/
theorem matrixInstructionsQueue : Obligations.MatrixInstructionsQueue := by
  intro s g c k d x hx h
  refine ⟨_, exec_matrix s g c k x hx, ?_⟩
  rw [State.mtxIssue, State.issue_of_at h]
  simp only [List.countP_eq_length_filter]
  refine ⟨fun hfull => if_pos hfull, fun hroom => ?_⟩
  rw [if_neg (Nat.not_le.mpr hroom)]
  exact ⟨_, rfl, rfl, Bool.toNat_eq_ite _, rfl, rfl, rfl, rfl, rfl, rfl, s.retire_queued g c k _⟩

/-- Settles O12: the branches of vecIssue; VCFG is a retirement. -/
theorem vectorInstructionsQueue : Obligations.VectorInstructionsQueue := by
  constructor
  · intro s g c k d x hx h
    refine ⟨_, exec_vector s g c k x hx, ?_⟩
    rw [State.vecIssue, State.issue_of_at h]
    simp only [List.countP_eq_length_filter]
    refine ⟨fun hfull => if_pos hfull, fun hroom => ?_⟩
    rw [if_neg (Nat.not_le.mpr hroom)]
    exact ⟨_, rfl, rfl, rfl, rfl, rfl, rfl, rfl, rfl, rfl, rfl, s.retire_queued g c k _⟩
  · intro s g c k d h
    refine ⟨_, rfl, ?_⟩
    rw [State.issue_of_at h]
    exact ⟨s.retire_only g c k _, State.retire_strand_same ..⟩

/-! ### Messages (R86) -/

/-- The destination word names a core. -/
theorem State.dstOk_iff (s : State) (w : Word) :
    s.dstOk w = true ↔ bits w 8 36 = 0 ∧ (bits w 44 20 = s.node ∧ s.coreOk (bits w 0 8) = true ∨
      bits w 44 20 ≠ s.node ∧ s.nodeKnown (bits w 44 20) = true) := by
  by_cases hn : bits w 44 20 = s.node <;> simp [State.dstOk, hn]

/-- A message that finds room enters the spur queue, or its destination word raises 0x0B. -/
theorem State.msgIssue_spec {s : State} {g : Nat} (hroom : (s.core g).spurq.length < 32) (c k : Nat) (d : Dec) (key : Nat)
    (data : List Byte) :
    let u := s.strand g c k
    let w := u.rd d.rd
    let t := s.msgIssue g c k d key data
    (¬s.dstOk w = true → s.Faults t g c k 0x0B) ∧
    (s.dstOk w = true → Queued s t g c k { s.core g with
      seq := (s.core g).seq + 1
      spurq := (s.core g).spurq ++
        [{ seq := (s.core g).seq, who := u.who c k, kind := .msg (bits w 0 8) (d.field 36 3),
           tok := decide (d.field 32 1 = 1), addr := w.toNat, parts := [], loc := key, len := 8 * (d.field 33 3 + 1),
           data := data, born := s.clk.now }] }) := by
  intro u w t
  refine ⟨fun hbad => ?_, fun hok => ?_⟩
  · have ht : t = s.raise g c k 0x0B w.toNat := if_pos (by simpa using hbad)
    exact ht ▸ s.raise_faults g c k 0x0B _
  · have ht : t = s.spurIssue g c k _ u := if_neg (by simp [w, u] at hok; simp [hok])
    rw [ht, State.spurIssue, if_neg (Nat.not_le.mpr hroom)]
    exact s.retire_queued g c k _

/-- Settles O14: a local operand refused, or msgIssue_spec. -/
theorem messagesQueue : Obligations.MessagesQueue := by
  intro s g c k d u y w n ok op hroom
  have hok : s.dstOk w = true ↔ ok := s.dstOk_iff w
  refine ⟨fun h => ⟨_, rfl, ?_⟩, fun h => ⟨_, rfl, ?_⟩⟩
  · rw [State.issue_of_at h]
    simp only
    rw [if_neg (Nat.not_le.mpr hroom)]
    refine ⟨fun e he => ?_, fun key hkey => ?_⟩
    · simp only [n, u] at he
      simp only [he]
      exact s.raise_faults g c k e _
    · simp only [n, u] at hkey
      simp only [hkey]
      rw [← hok]
      exact State.msgIssue_spec hroom c k d key []
  · rw [State.issue_of_at h]
    simp only
    rw [if_neg (Nat.not_le.mpr hroom), ← hok]
    have hspec := State.msgIssue_spec hroom c k d 0
      ((List.range (d.field 33 3 + 1)).flatMap fun i => toLE 8 (u.rd (d.rs1 + i)).toNat)
    simp only [toLE_eq_map] at hspec ⊢
    exact hspec

end Sys2Proof.Machine
end

section
namespace Sys2Proof.Machine

open Sys2Proof.Claims

/-! PROOFS. BlockTableAndTokensAreWritten. -/

theorem State.btOpen_iff (s : State) (g c : Nat) :
    s.btOpen g c = true ↔ s.occupied g c = true ∧ ((s.ctx g c).phase = .loaded ∨ s.halted c = true) := by
  simp [State.btOpen]

/-- An entry made of words is armed by bit 29 of word 0 (Table ISA-17). -/
theorem Block.ofWords_armed (w0 w1 w2 w3 : Word) :
    (Block.ofWords w0 w1 w2 w3).armed = decide (w0.toNat / 2 ^ 29 % 2 = 1) := by
  rw [Block.ofWords, bit, bits, bitsN, pow_one, beq_eq_decide]

theorem getD_modAt_ne {α : Type} (l : List α) {n m : Nat} (f : α → α) (d : α) (h : m ≠ n) :
    (modAt l n f).getD m d = l.getD m d := by
  induction l generalizing n m with
  | nil => rfl
  | cons x xs ih => cases n <;> cases m <;> simp_all [modAt]

/-- Word w of the selected entry at a commit: the pending one, or the one in effect. -/
def Ctx.pendingWord (x : Ctx) (w : Nat) (old : Word) : Word := ((x.btPend.find? (fun e => decide (e.1 = w))).map (·.2)).getD old

/-- The entry that a commit makes of an old one (R94). -/
def Ctx.committed (x : Ctx) (now : Nat) (v : Word) (b : Block) : Block :=
  { Block.ofWords (x.pendingWord 0 b.w0) (x.pendingWord 1 b.w1) (x.pendingWord 2 b.w2) v with
    fires := b.fires, mark := b.mark, since := if b.armed then b.since else now }

theorem Ctx.committed_words {x : Ctx} {now : Nat} {v : Word} {b b' : Block} (h : b' = x.committed now v b) :
    b'.w0 = x.pendingWord 0 b.w0 ∧ b'.w1 = x.pendingWord 1 b.w1 ∧ b'.w2 = x.pendingWord 2 b.w2 ∧ b'.w3 = v ∧
      b'.armed = decide (b'.w0.toNat / 2 ^ 29 % 2 = 1) ∧ b'.fires = b.fires ∧ b'.mark = b.mark := by
  subst h
  exact ⟨rfl, rfl, rfl, rfl, Block.ofWords_armed _ (x.pendingWord 1 b.w1) (x.pendingWord 2 b.w2) v, rfl, rfl⟩

theorem State.btCommit_open {s : State} {g c : Nat} (h : s.btOpen g c = true) (v : Word) :
    s.btCommit g c v = s.setCtx g c { s.ctx g c with
      btPend := [], blocks := modAt (s.ctx g c).blocks (s.f F.CORE_BT_INDEX_BLOCK g c) ((s.ctx g c).committed s.clk.now v) } :=
  if_neg (by simp [h])

theorem State.btCommit_shut {s : State} {g c : Nat} (h : ¬s.btOpen g c = true) (v : Word) : s.btCommit g c v = s :=
  if_pos (by simpa using h)

theorem State.btStage_open {s : State} {g c : Nat} (h : s.btOpen g c = true) (w : Nat) (v : Word) :
    s.btStage g c w v = s.setCtx g c { s.ctx g c with
      btPend := (s.ctx g c).btPend.filter (fun e => decide (e.1 ≠ w)) ++ [(w, v)] } :=
  if_neg (by simp [h])

theorem State.btStage_shut {s : State} {g c : Nat} (h : ¬s.btOpen g c = true) (w : Nat) (v : Word) : s.btStage g c w v = s :=
  if_pos (by simpa using h)

theorem State.tokenWrite_open {s : State} {g c t : Nat} (h : s.btOpen g c = true) (ht : t ≠ 28) (v : Word) :
    s.tokenWrite g c t v = s.setF F.CORE_TOKEN_COUNT (v.toNat % 4096) g c t := by
  simp [State.tokenWrite, h, ht, bits_low]

theorem State.tokenWrite_shut {s : State} {g c t : Nat} (h : ¬s.btOpen g c = true ∨ t = 28) (v : Word) :
    s.tokenWrite g c t v = s := by
  refine if_neg fun e => ?_
  simp only [Bool.and_eq_true, bne_iff_ne] at e
  exact h.elim (fun hn => hn e.1) e.2

/-- Settles O40: each write by what it does while the table is open, and while it is not. -/
theorem blockTableAndTokensAreWritten : Obligations.BlockTableAndTokensAreWritten := by
  intro s g c v x open_ word n
  have hopen : s.btOpen g c = true ↔ open_ := s.btOpen_iff g c
  refine ⟨⟨_, rfl, ?select, State.ctx_setCtx_same .., rfl⟩, fun w hw => ⟨s.btStage g c w v, if_pos hw, fun hn => ?_, ?stage⟩,
    ⟨s.btCommit g c v, rfl, fun hn => ?_, ?commit⟩, fun t => ⟨s.tokenWrite g c t v, rfl, fun hn => ?_, fun ho ht => ?_⟩⟩
  case select =>
    rw [State.setCtx_f, State.f_setF_same _ _ _ _ _ _ (by decide)]
    rfl
  case stage =>
    intro ho
    rw [State.btStage_open (hopen.mpr ho), State.ctx_setCtx_same]
    exact ⟨rfl, rfl⟩
  case commit =>
    intro ho hlen
    rw [State.btCommit_open (hopen.mpr ho), State.ctx_setCtx_same]
    refine ⟨rfl, rfl, fun m hm => getD_modAt_ne _ _ _ hm, ?_⟩
    exact Ctx.committed_words ((getD_modAt _ _ _ _ _ hlen).trans (if_pos rfl))
  · exact State.btStage_shut (mt hopen.mp hn) w v
  · exact State.btCommit_shut (mt hopen.mp hn) v
  · exact State.tokenWrite_shut (hn.imp_left (mt hopen.mp)) v
  · exact State.tokenWrite_open (hopen.mpr ho) ht v

end Sys2Proof.Machine
end

section
namespace Sys2Proof.Machine

open Sys2Proof.Claims

/-! PROOFS. ContextRegistersReadAndWrite. -/

/-! ### A strand that can issue -/

theorem State.At.canIssue {s : State} {g c k : Nat} {op : Op} {d : Dec} (h : s.At g c k op d) : s.canIssue g c k = true := by
  by_contra hn
  have hi := h.1
  simp [State.instrAt, hn] at hi

/-- The context of a strand that can issue is running on the core (R63, R93). -/
theorem State.At.phase {s : State} {g c k : Nat} {op : Op} {d : Dec} (h : s.At g c k op d) : (s.ctx g c).phase = .running := by
  have hc := h.canIssue
  simp only [State.canIssue, State.ready, State.running, Bool.and_eq_true, decide_eq_true_eq] at hc
  exact hc.1.1.1.1.1

theorem State.OnlyStrand.halted {s t : State} {g c k : Nat} (h : s.OnlyStrand t g c k) (c' : Nat) : t.halted c' = s.halted c' := by
  rw [State.halted, State.halted, h.fb _ _ _ _ (by decide), h.fb _ _ _ _ (by decide)]

/-! ### Writes to a context's own registers (R87, R92, R94) -/

theorem State.unload_running {s : State} {g c : Nat} (hp : (s.ctx g c).phase = .running) (hh : s.halted c = false) :
    s.unload g c = s := by
  simp [State.unload, hp, hh]

section
variable {s : State} {r : Reg} (v : Word) (hp : (s.ctx r.i r.j).phase = .running)
include hp

/-- Of a context that runs and is not halted, region, block table and tokens are not written. -/
theorem State.ctxRegWrite_shut (hh : s.halted r.j = false)
    (hr : r.name ∈ [RegName.CORE_CTX_ISTORE, .CORE_BT_DATA0, .CORE_BT_DATA1, .CORE_BT_DATA2, .CORE_BT_DATA3, .CORE_TOKEN]) :
    s.ctxRegWrite r v = s := by
  have hocc : s.occupied r.i r.j = true := by simp [State.occupied, hp]
  have hbt : ¬s.btOpen r.i r.j = true := by simp [State.btOpen, hp, hh]
  simp only [List.mem_cons, List.not_mem_nil, or_false] at hr
  obtain h | h | h | h | h | h := hr <;> simp only [State.ctxRegWrite, h]
  · exact if_pos hocc
  · exact State.btStage_shut hbt _ v
  · exact State.btStage_shut hbt _ v
  · exact State.btStage_shut hbt _ v
  · exact State.btCommit_shut hbt v
  · exact State.tokenWrite_shut (.inl hbt) v

/-- CORE_LOAD_CTRL does nothing without GO, and without UNLOAD of a halted context. -/
theorem State.ctxRegWrite_load (hr : r.name = .CORE_LOAD_CTRL) (hgo : v.toNat % 4 ≠ 1)
    (hun : v.toNat % 4 = 2 → s.halted r.j = false) : s.ctxRegWrite r v = s := by
  have hv : bits v 0 2 = v.toNat % 4 := bits_low v 2
  simp only [State.ctxRegWrite, hr, hv]
  split
  · next h => exact absurd h hgo
  · next h => exact State.unload_running hp (hun h)
  · rfl

end

theorem State.ctxRegWrite_index {s : State} {r : Reg} (v : Word) (hr : r.name = .CORE_BT_INDEX) :
    s.ctxRegWrite r v =
      (s.setReg r (s.fieldsWrite r v)).setCtx r.i r.j { s.ctx r.i r.j with btPend := [] } := by
  simp only [State.ctxRegWrite, hr]

/-- Any other register takes the fields that software sets. -/
theorem State.ctxRegWrite_fields {s : State} {r : Reg} (v : Word)
    (hr : r.name ∉ [RegName.CORE_CTX_ISTORE, .CORE_LOAD_CTRL, .CORE_BT_INDEX, .CORE_BT_DATA0, .CORE_BT_DATA1, .CORE_BT_DATA2,
      .CORE_BT_DATA3, .CORE_TOKEN]) : s.ctxRegWrite r v = s.setReg r (s.fieldsWrite r v) := by
  simp only [List.mem_cons, List.not_mem_nil, or_false, not_or] at hr
  obtain ⟨h1, h2, h3, h4, h5, h6, h7, h8⟩ := hr
  unfold State.ctxRegWrite
  dsimp only
  split
  · next h => exact absurd h h1
  · next h => exact absurd h h2
  · next h => exact absurd h h3
  · next h => exact absurd h h4
  · next h => exact absurd h h5
  · next h => exact absurd h h6
  · next h => exact absurd h h7
  · next h => exact absurd h h8
  · rfl

theorem State.fieldsWrite_of_reg {s t : State} {r : Reg} (h : t.reg r = s.reg r) (v : Word) :
    t.fieldsWrite r v = s.fieldsWrite r v := by rw [State.fieldsWrite, h, State.fieldsWrite]

/-- A register write after a retirement leaves the retirement, on the registers as written. -/
theorem State.Passes.setReg {s t : State} {g c k : Nat} (h : s.Passes t g c k) (r : Reg) (w : Word) :
    ({ s with regs := (t.setReg r w).regs } : State).Passes (t.setReg r w) g c k := by
  obtain ⟨hst, hf⟩ := h
  refine ⟨hst, ?_, hf.strands, hf.cores, hf.core, hf.slot, fun _ _ => rfl⟩
  conv_lhs => rw [hf.rest]
  rfl

/-- The field of CORE_BT_INDEX that software writes. -/
theorem State.fieldsWrite_index (s : State) (g c : Nat) (v : Word) :
    bits (s.fieldsWrite ⟨.CORE_BT_INDEX, g, c, 0⟩ v) 0 9 = v.toNat % 512 := by
  have h : s.fieldsWrite ⟨.CORE_BT_INDEX, g, c, 0⟩ v = setBits (s.reg ⟨.CORE_BT_INDEX, g, c, 0⟩) 0 9 (bits v 0 9) := rfl
  rw [h, bits_setBits_same _ _ _ _ (by decide), bits_low]
  exact Nat.mod_mod _ _

/-! ### CRD and CWR -/

theorem execCrd_spec {s : State} {g c k : Nat} {d : Dec} (h : s.At g c k .crd d) :
    execCrd g c k s = .next (if 0x106 < d.id12 then s.raise g c k 0x0E
      else if 0x100 ≤ d.id12 then s.retireB g c k d.rd (s.crdValue g c k d.id12) 4
      else s.retireB g c k d.rd (((ownReg g c d.id12).map s.regRead).getD 0) 4) := by
  rw [execCrd, State.issue_of_at h]

theorem execCwr_none {s : State} {g c k : Nat} {d : Dec} (h : s.At g c k .cwr d)
    (hr : 0x100 ≤ d.id12 ∨ ownReg g c d.id12 = none) : execCwr g c k s = .next (s.raise g c k 0x0E) := by
  have hnone : (if d.id12 < 0x100 then ownReg g c d.id12 else none) = none := by
    split
    · next hlt => exact hr.resolve_left (Nat.not_le.mpr hlt)
    · rfl
  rw [execCwr, State.issue_of_at h]
  simp only [hnone]

theorem execCwr_some {s : State} {g c k : Nat} {d : Dec} (h : s.At g c k .cwr d) (hid : d.id12 < 0x100) {r : Reg}
    (hr : ownReg g c d.id12 = some r) :
    execCwr g c k s = .next (if r.readOnly then s.raise g c k 0x0E
      else (s.retire g c k (s.strand g c k)).ctxRegWrite r ((s.strand g c k).rd d.rs1)) := by
  rw [execCwr, State.issue_of_at h]
  simp only [hid, if_true, hr]

/-- Settles O34: CRD by its three ranges, CWR by the register it names. -/
theorem contextRegistersReadAndWrite : Obligations.ContextRegistersReadAndWrite := by
  intro s g c k d id
  refine ⟨fun h => ⟨_, execCrd_spec h, fun hid => ?_, fun r hid hr => ?_, fun hid hr => ?_, fun e he hid => ?_⟩, fun h => ?_⟩
  · rw [if_pos hid]
    exact s.raise_faults g c k 0x0E none
  · rw [if_neg (by omega), if_neg (by omega), hr]
    exact s.retireB_retires ..
  · rw [if_neg (by omega), if_neg (by omega), hr]
    exact s.retireB_retires ..
  · have hrange : 0x100 ≤ e.1 ∧ e.1 ≤ 0x106 ∧ s.crdValue g c k e.1 = BitVec.ofNat 64 e.2 := by
      simp only [List.mem_cons, List.not_mem_nil, or_false] at he
      obtain rfl | rfl | rfl | rfl | rfl | rfl | rfl := he <;>
        exact ⟨Nat.le_of_ble_eq_true rfl, Nat.le_of_ble_eq_true rfl, rfl⟩
    obtain ⟨hlo, hhi, hval⟩ := hrange
    rw [if_neg (by omega), if_pos (by omega), show d.id12 = e.1 from hid, hval]
    exact s.retireB_retires ..
  · by_cases hnone : 0x100 ≤ id ∨ ownReg g c id = none
    · refine ⟨_, execCwr_none h hnone, fun _ => s.raise_faults g c k 0x0E none, fun r hid hr => ?_⟩
      exact absurd hnone (not_or.mpr ⟨Nat.not_le.mpr hid, by rw [hr]; exact Option.some_ne_none r⟩)
    · obtain ⟨hid, hsome⟩ := not_or.mp hnone
      obtain ⟨r, hr⟩ := Option.ne_none_iff_exists'.mp hsome
      refine ⟨_, execCwr_some h (Nat.not_le.mp hid) hr, fun hn => absurd hn hnone, fun r' _ hr' => ?_⟩
      obtain rfl : r = r' := Option.some.inj (hr.symm.trans hr')
      refine ⟨fun hro => ?_, fun hro hi hj => ?_⟩
      · rw [if_pos hro]
        exact s.raise_faults g c k 0x0E none
      · rw [if_neg (by rw [hro]; exact Bool.false_ne_true)]
        subst hi hj
        have hpass := s.retire_passes r.i r.j k
        have hphase : ((s.retire r.i r.j k (s.strand r.i r.j k)).ctx r.i r.j).phase = .running := by
          rw [hpass.frame.ctx]
          exact h.phase
        refine ⟨fun hn hh => ?_, fun hn => ?_, fun hn hgo hun => ?_, fun hn => ?_⟩
        · rw [State.ctxRegWrite_shut _ hphase (by rwa [hpass.frame.halted]) hn]
          exact hpass
        · rw [State.ctxRegWrite_index _ (congrArg Reg.name hn)]
          refine ⟨?_, ?_, ?_⟩
          · rw [hn, State.setCtx_f, State.f, State.reg_setReg_same]
            exact State.fieldsWrite_index ..
          · rw [State.ctx_setCtx_same]
          · rw [State.setCtx_strand, State.setReg_strand]
            exact congrArg Strand.pc hpass.strand
        · rw [State.ctxRegWrite_load _ hphase hn hgo (by rwa [hpass.frame.halted])]
          exact hpass
        · have hsw : r ≠ ⟨.CORE_SWITCHES, r.i, r.j, 0⟩ := fun e => by
            rw [e] at hro
            exact Bool.noConfusion (hro.symm.trans (rfl : Reg.readOnly ⟨.CORE_SWITCHES, r.i, r.j, 0⟩ = true))
          rw [State.ctxRegWrite_fields _ hn, State.fieldsWrite_of_reg (hpass.frame.regs r hsw)]
          exact ⟨hpass.setReg .., State.reg_setReg_same .., fun q hq hqs =>
            (State.reg_setReg_other _ _ hq).trans (hpass.frame.regs q hqs)⟩

end Sys2Proof.Machine
end

section
namespace Sys2Proof.Machine

open Sys2Proof.Claims

/-! PROOFS. BlocksFireAndAreDispatched. -/

/-! ### Which block fires (R67) -/

theorem State.reqMet_iff (s : State) (g c : Nat) (b : Block) (j : Nat) :
    s.reqMet g c b j = true ↔ (b.thr j ≠ 0 → if b.ctr j = 28 then b.thr j ≤ (s.ctx g c).ticks - b.mark
      else b.thr j ≤ s.f F.CORE_TOKEN_COUNT g c (b.ctr j)) := by
  unfold State.reqMet
  split
  · next h => simp [h]
  · next h => split <;> simp [*]

theorem State.executing_eq_false_iff (s : State) (g c n : Nat) :
    s.executing g c n = false ↔ ∀ k, k < 8 → (s.strand g c k).exec = true → (s.strand g c k).block ≠ n := by
  simp [State.executing]

theorem State.eligible_iff (s : State) (g c n : Nat) : s.eligible g c n = true ↔ CanFire s g c n := by
  simp only [State.eligible, CanFire, Bool.and_eq_true, decide_eq_true_eq, Bool.not_eq_true', State.executing_eq_false_iff,
    List.any_eq_true, List.all_eq_true, List.mem_range, bne_iff_ne, State.reqMet_iff, List.contains_eq_mem,
    decide_eq_false_iff_not, and_assoc]

theorem execBlockFire_idle {s : State} {g c : Nat} (h : s.running g c = false ∨ ∀ n, ¬CanFire s g c n) :
    execBlockFire g c s = .next s := by
  unfold execBlockFire
  split
  · rfl
  · next hr =>
    have hnone : (List.range (s.ctx g c).blocks.length).find? (s.eligible g c) = none :=
      List.find?_eq_none.mpr fun n _ => fun he => by
        obtain h | h := h
        · simp [h] at hr
        · exact h n ((s.eligible_iff g c n).mp he)
    rw [hnone]

theorem execBlockFire_fires {s : State} {g c n : Nat} (hr : s.running g c = true) (hn : CanFire s g c n)
    (hmin : ∀ m, m < n → ¬CanFire s g c m) : execBlockFire g c s = .next (s.fire g c n) := by
  have hfind : (List.range (s.ctx g c).blocks.length).find? (s.eligible g c) = some n :=
    List.find?_range_eq_some.mpr ⟨(s.eligible_iff g c n).mpr hn, List.mem_range.mpr hn.1,
      fun m hm => by simpa using (s.eligible_iff g c m).not.mpr (hmin m hm)⟩
  unfold execBlockFire
  rw [hr, hfind]
  rfl

/-- A firing unit that does something has fired a block. -/
theorem execBlockFire_cases (s : State) (g c : Nat) :
    execBlockFire g c s = .next s ∨ ∃ n, execBlockFire g c s = .next (s.fire g c n) := by
  unfold execBlockFire
  split
  · exact .inl rfl
  · split
    · exact .inl rfl
    · exact .inr ⟨_, rfl⟩

/-! ### What a firing consumes (R69) -/

/-- Requirement j of a block takes tokens from its counter: it is used, and not of T28. -/
def Block.takes (b : Block) (j : Nat) : Prop := b.thr j ≠ 0 ∧ b.ctr j ≠ 28

/-- What requirement j of block b takes from its counter. -/
def State.consumeOne (g c : Nat) (b : Block) (j : Nat) (s : State) : State :=
  let v := s.f F.CORE_TOKEN_COUNT g c (b.ctr j)
  if b.thr j = 0 ∨ b.ctr j = 28 then s
  else if b.thr j ≤ v then s.setF F.CORE_TOKEN_COUNT (v - b.thr j) g c (b.ctr j)
  else s.free.2.setF F.CORE_TOKEN_COUNT s.free.1.toNat g c (b.ctr j)

theorem State.consume_eq (s : State) (g c : Nat) (b : Block) : s.consume g c b = iter 4 (State.consumeOne g c b) s := rfl

theorem State.consumeOne_mem (g c : Nat) (b : Block) (j : Nat) (s : State) : (State.consumeOne g c b j s).mem = s.mem := by
  unfold State.consumeOne
  dsimp only
  split
  · rfl
  · split <;> rfl

theorem State.consumeOne_unused {g c : Nat} {b : Block} {j : Nat} (s : State) (h : ¬b.takes j) :
    State.consumeOne g c b j s = s :=
  if_pos (by
    simp only [Block.takes] at h
    tauto)

theorem State.consumeOne_takes {s : State} {g c : Nat} {b : Block} {j : Nat} (h : b.takes j)
    (hv : b.thr j ≤ s.f F.CORE_TOKEN_COUNT g c (b.ctr j)) : State.consumeOne g c b j s =
      s.setF F.CORE_TOKEN_COUNT (s.f F.CORE_TOKEN_COUNT g c (b.ctr j) - b.thr j) g c (b.ctr j) := by
  unfold State.consumeOne
  dsimp only
  rw [if_neg (not_or.mpr h), if_pos hv]

theorem iter_succ {α : Type} (n : Nat) (f : Nat → α → α) (a : α) : iter (n + 1) f a = f n (iter n f a) := by
  simp [iter, List.range_succ]

theorem State.consume_mem (s : State) (g c : Nat) (b : Block) : (s.consume g c b).mem = s.mem := by
  have h (n : Nat) : (iter n (State.consumeOne g c b) s).mem = s.mem := by
    induction n with
    | zero => rfl
    | succ n ih => rw [iter_succ, State.consumeOne_mem, ih]
  rw [State.consume_eq]
  exact h 4

/-- The first n requirements of block b have taken their tokens, and nothing else has changed. -/
structure State.Consumed (s t : State) (g c : Nat) (b : Block) (n : Nat) : Prop where
  rest : t = { s with regs := t.regs }
  regs : ∀ r, r.name ≠ .CORE_TOKEN → t.reg r = s.reg r
  taken : ∀ j, j < n → b.takes j →
    t.f F.CORE_TOKEN_COUNT g c (b.ctr j) + b.thr j = s.f F.CORE_TOKEN_COUNT g c (b.ctr j)
  kept : ∀ k, (∀ j, j < n → b.takes j → b.ctr j ≠ k) → t.f F.CORE_TOKEN_COUNT g c k = s.f F.CORE_TOKEN_COUNT g c k

/-- One more requirement, whose counter none before it names. -/
theorem State.Consumed.succ {s t : State} {g c n : Nat} {b : Block} (h : s.Consumed t g c b n)
    (hmet : b.takes n → b.thr n ≤ s.f F.CORE_TOKEN_COUNT g c (b.ctr n))
    (hnew : ∀ j, j < n → b.takes j → b.takes n → b.ctr j ≠ b.ctr n) :
    s.Consumed (State.consumeOne g c b n t) g c b (n + 1) := by
  by_cases hn : b.takes n
  · have hsame : t.f F.CORE_TOKEN_COUNT g c (b.ctr n) = s.f F.CORE_TOKEN_COUNT g c (b.ctr n) :=
      h.kept _ fun j hj hjt => hnew j hj hjt hn
    have hle := hmet hn
    have hlt : s.f F.CORE_TOKEN_COUNT g c (b.ctr n) < 2 ^ 12 := bits_lt ..
    rw [State.consumeOne_takes hn (by omega), hsame]
    have hother (k : Nat) (hk : b.ctr n ≠ k) :
        (t.setF F.CORE_TOKEN_COUNT (s.f F.CORE_TOKEN_COUNT g c (b.ctr n) - b.thr n) g c (b.ctr n)).f F.CORE_TOKEN_COUNT g c k =
          t.f F.CORE_TOKEN_COUNT g c k :=
      State.f_setF_reg _ _ _ _ _ _ _ _ _ _ fun e => hk (Reg.mk.inj e).2.2.2.symm
    refine ⟨?_, fun r hr => ?_, fun j hj hjt => ?_, fun k hk => ?_⟩
    · conv_lhs => rw [h.rest]
      rfl
    · exact (State.reg_setReg_other _ _ fun e => hr (congrArg Reg.name e)).trans (h.regs r hr)
    · obtain hj | rfl := Nat.lt_succ_iff_lt_or_eq.mp hj
      · rw [hother _ (hnew j hj hjt hn).symm]
        exact h.taken j hj hjt
      · rw [State.f_setF_same _ _ _ _ _ _ (by decide), Nat.mod_eq_of_lt (show _ < 2 ^ 12 by omega)]
        omega
    · rw [hother k (hk n (Nat.lt_succ_self n) hn)]
      exact h.kept k fun j hj => hk j (Nat.lt_succ_of_lt hj)
  · rw [State.consumeOne_unused t hn]
    refine ⟨h.rest, h.regs, fun j hj hjt => ?_, fun k hk => h.kept k fun j hj => hk j (Nat.lt_succ_of_lt hj)⟩
    obtain hj | rfl := Nat.lt_succ_iff_lt_or_eq.mp hj
    · exact h.taken j hj hjt
    · exact absurd hjt hn

/-- A block whose requirements are met on distinct counters consumes exactly its thresholds. -/
theorem State.consume_consumed {s : State} {g c : Nat} {b : Block}
    (hmet : ∀ j, j < 4 → b.takes j → b.thr j ≤ s.f F.CORE_TOKEN_COUNT g c (b.ctr j))
    (hnew : ∀ i j, i < 4 → j < 4 → i ≠ j → b.takes i → b.takes j → b.ctr i ≠ b.ctr j) :
    s.Consumed (s.consume g c b) g c b 4 := by
  have h (n : Nat) (hn : n ≤ 4) : s.Consumed (iter n (State.consumeOne g c b) s) g c b n := by
    induction n with
    | zero => exact ⟨rfl, fun _ _ => rfl, fun _ hj => absurd hj (Nat.not_lt_zero _), fun _ _ => rfl⟩
    | succ n ih =>
      rw [iter_succ]
      exact (ih (by omega)).succ (hmet n hn) fun j hj => hnew j n (by omega) hn (by omega)
  rw [State.consume_eq]
  exact h 4 (le_refl 4)

/-! ### The firing -/

/-- Block b as a firing leaves it: marked with tick count k, and of the time now. -/
def Block.fired (b : Block) (k now : Nat) : Block :=
  { b with mark := k, armed := b.armed && !b.oneshot, fires := (b.fires + 1) % 2 ^ 64, since := now }

theorem State.fire_mem (s : State) (g c n : Nat) : (s.fire g c n).mem = s.mem := s.consume_mem g c _

theorem State.fire_token (s : State) (g c n k : Nat) : (s.fire g c n).f F.CORE_TOKEN_COUNT g c k =
    (s.consume g c ((s.ctx g c).blk n)).f F.CORE_TOKEN_COUNT g c k := by
  simp only [State.fire, State.progress_f, State.addF_eq]
  rw [State.f_setF_name _ _ _ _ _ _ _ _ _ _ (by decide), State.setCtx_f]

section
variable {s : State} {g c n : Nat} (hcon : s.Consumed (s.consume g c ((s.ctx g c).blk n)) g c ((s.ctx g c).blk n) 4)
include hcon

theorem State.fire_ctx : (s.fire g c n).ctx g c = { s.ctx g c with
    blocks := modAt (s.ctx g c).blocks n (fun _ => ((s.ctx g c).blk n).fired (s.ctx g c).ticks s.clk.now),
    ready := (s.ctx g c).ready ++ [n] } := by
  have hx : (s.consume g c ((s.ctx g c).blk n)).ctx g c = s.ctx g c := by rw [hcon.rest]; rfl
  have hclk : (s.consume g c ((s.ctx g c).blk n)).clk = s.clk := by rw [hcon.rest]
  simp only [State.fire, State.progress_ctx, State.addF_eq, State.setF_ctx, State.ctx_setCtx_same, hx, hclk, Block.fired]

theorem State.fire_fires :
    (s.fire g c n).f F.CORE_FIRES_COUNT g c = (s.f F.CORE_FIRES_COUNT g c + 1) % 2 ^ 64 := by
  simp only [State.fire, State.progress_f, State.addF_eq]
  rw [State.f_setF_same _ _ _ _ _ _ (by decide), State.setCtx_f, State.f, hcon.regs _ RegName.noConfusion]
  rfl

end

/-! ### Dispatch (R70, R62) -/

theorem State.nextReady_of_next {s : State} {g c n : Nat} (h : NextBlock s g c n) : s.nextReady g c = some n := by
  unfold State.nextReady
  dsimp only
  obtain h | ⟨hnone, hhead, hmax⟩ := h
  · rw [h]
  · rw [hnone]
    dsimp only
    rw [← List.countP_eq_length_filter, if_pos hmax, hhead]

theorem execBlockDispatch_starts {s : State} {g c n k : Nat} (hr : s.running g c = true) (ho : s.owns g c = true)
    (hothers : ∀ d j, d < 4 → d ≠ c → j < 8 → s.haltedOn g d = false → (s.strand g d j).exec = false)
    (hn : NextBlock s g c n) (hk : k < 8) (hfree : (s.strand g c k).exec = false)
    (hmin : ∀ j, j < k → (s.strand g c j).exec = true) : execBlockDispatch g c s = .next (s.dispatch g c n k) := by
  have hoth : s.othersExecuting g c = false := by
    simpa [State.othersExecuting] using fun d hd hdc hh j hj => hothers d j hd hdc hj hh
  have hfind : (List.range 8).find? (fun k => !(s.strand g c k).exec) = some k :=
    List.find?_range_eq_some.mpr ⟨by simp [hfree], List.mem_range.mpr hk, fun j hj => by simp [hmin j hj]⟩
  simp [execBlockDispatch, hr, ho, hoth, State.nextReady_of_next hn, hfind]

/-- A strand at dispatch: its argument, the frame, its number and its earlier firings in s1 to s4 (R62). -/
def Strand.started (b : Block) (n frame fid : Nat) : Strand :=
  ((((({ exec := true, block := n, fid := fid, vcfg := vcfgDispatch } : Strand).wr 1 b.w2).wr 2 (BitVec.ofNat 64 frame)).wr 3
    (BitVec.ofNat 64 n)).wr 4 (BitVec.ofNat 64 (b.fires + 2 ^ 64 - 1)))

theorem State.dispatch_eq (s : State) (g c n k : Nat) : s.dispatch g c n k =
    ((s.setCore g { s.core g with seq := (s.core g).seq + 1 }).setCtx g c
      { s.ctx g c with ready := (s.ctx g c).ready.erase n }).setStrand g c k
        (Strand.started ((s.ctx g c).blk n) n s.clk.frame (s.core g).seq) := rfl

/-- The firings before the present one, as a word. -/
theorem ofNat_fires_before (n : Nat) : BitVec.ofNat 64 (n + 2 ^ 64 - 1) = BitVec.ofInt 64 ((n : Int) - 1) := by
  apply BitVec.eq_of_toNat_eq
  rw [BitVec.toNat_ofNat, BitVec.toNat_ofInt]
  omega

/-- The registers above s4 start at 0. -/
theorem Strand.started_rd_above (b : Block) (n frame fid : Nat) {r : Nat} (hr : 4 < r) :
    (Strand.started b n frame fid).rd r = 0 := by
  have hne (q : Nat) (hq : q ≤ 4) : r ≠ q := by omega
  simp only [Strand.started, Strand.rd_wr, hne 1 (by decide), hne 2 (by decide), hne 3 (by decide), hne 4 (by decide), false_and,
    if_false]
  exact ite_self _

/-- s1 to s4 as a block finds them. -/
theorem Strand.started_args (b : Block) (n frame fid : Nat) :
    (Strand.started b n frame fid).rd 1 = b.w2 ∧ (Strand.started b n frame fid).rd 2 = BitVec.ofNat 64 frame ∧
    (Strand.started b n frame fid).rd 3 = BitVec.ofNat 64 n ∧
    (Strand.started b n frame fid).rd 4 = BitVec.ofInt 64 ((b.fires : Int) - 1) := by
  rw [← ofNat_fires_before, Strand.started]
  generalize BitVec.ofNat 64 (b.fires + 2 ^ 64 - 1) = w
  simp [Strand.rd_wr]

/-- Settles O38: the firing by what its requirements consume, one after the other; the dispatch as written. -/
theorem blocksFireAndAreDispatched : Obligations.BlocksFireAndAreDispatched := by
  refine ⟨fun s g c => ?_, fun s g c n k hr ho hothers hn hk hfree hmin => ?_⟩
  · have hmem : ∃ t, execBlockFire g c s = .next t ∧ t.mem = s.mem := by
      obtain h | ⟨n, h⟩ := execBlockFire_cases s g c
      · exact ⟨_, h, rfl⟩
      · exact ⟨_, h, s.fire_mem g c n⟩
    obtain ⟨t, ht, htm⟩ := hmem
    refine ⟨t, ht, htm, fun hidle => ?_, fun n hr hn hmin => ?_⟩
    · exact (Host.Outcome.next.inj ((execBlockFire_idle hidle).symm.trans ht)).symm
    · intro x b hdistinct
      obtain rfl : s.fire g c n = t := Host.Outcome.next.inj ((execBlockFire_fires hr hn hmin).symm.trans ht)
      obtain ⟨hlen, -, -, -, -, hmet⟩ := hn
      have hcon : s.Consumed (s.consume g c b) g c b 4 := State.consume_consumed
        (fun j hj ht => (if_neg ht.2).mp (hmet j hj ht.1))
        (fun i j hi hj hij hti htj => hdistinct i j hi hj hij hti.1 htj.1)
      refine ⟨?_, fun m => ?_, fun j hj hthr hctr => ?_, fun k hk => ?_, State.fire_fires hcon⟩
      · rw [State.fire_ctx hcon]
      · rw [State.fire_ctx hcon]
        exact getD_modAt _ _ _ _ _ hlen
      · rw [State.fire_token]
        exact hcon.taken j hj ⟨hthr, hctr⟩
      · rw [State.fire_token]
        refine hcon.kept k fun j hj ht hjk => ?_
        obtain h | h | h := hk j hj
        · exact ht.1 h
        · exact h hjk
        · exact ht.2 (hjk.trans h)
  · refine ⟨_, execBlockDispatch_starts hr ho hothers hn hk hfree hmin, ?_⟩
    rw [State.dispatch_eq]
    refine ⟨rfl, rfl, ?_⟩
    intro x u
    have hu : u = Strand.started (x.blk n) n s.clk.frame (s.core g).seq := State.strand_setStrand_same ..
    obtain ⟨h1, h2, h3, h4⟩ := Strand.started_args (x.blk n) n s.clk.frame (s.core g).seq
    rw [hu]
    refine ⟨by rw [State.setStrand_ctx, State.ctx_setCtx_same], rfl, rfl, rfl, rfl, rfl, rfl, rfl, h1, h2, h3, h4, fun r => Strand.started_rd_above _ _ _ _, fun g' c' k' hne => ?_⟩
    rw [State.strand_setStrand_other _ _ hne, State.setCtx_strand, State.setCore_strand]

end Sys2Proof.Machine
end

section
namespace Sys2Proof.Machine

open Sys2Proof.Claims

/-! PROOFS. ImagesLoadAndUnload. -/

/-! ### GO (R92) -/

theorem State.loadGo_busy {s : State} {g c : Nat} (h : s.f F.CORE_LOAD_STATUS_STATE g c = 1) : s.loadGo g c = s := if_pos h

theorem State.loadGo_begins {s : State} {g c : Nat} (h : s.f F.CORE_LOAD_STATUS_STATE g c ≠ 1) : s.loadGo g c =
    ((s.setF F.CORE_LOAD_STATUS_STATE 1 g c).setF F.CORE_LOAD_STATUS_ERROR 0 g c).setCtx g c
      { s.ctx g c with load := some (s.f F.CORE_LOAD_ADDR_ADDR g c / 64 * 64) } := if_neg h

theorem State.loadGo_mem (s : State) (g c : Nat) : (s.loadGo g c).mem = s.mem := by
  unfold State.loadGo
  split <;> rfl

/-! ### The error of an image (Table ISA-18) -/

theorem State.image_setCtx (s : State) (g c : Nat) (x : Ctx) (a : Nat) : (s.setCtx g c x).image a = s.image a := rfl

/-- A load that ends changes nothing that the check of its image reads. -/
theorem State.loadError_ended (s : State) (g c addr : Nat) (err : MemErr) :
    (s.setCtx g c { s.ctx g c with load := none }).loadError g c addr err = s.loadError g c addr err := by
  have hocc (d : Nat) : (s.setCtx g c { s.ctx g c with load := none }).occupied g d = s.occupied g d := by
    unfold State.occupied
    by_cases hd : d = c
    · rw [hd, State.ctx_setCtx_same]
    · rw [State.ctx_setCtx_other _ _ (by simp [hd])]
  unfold State.loadError
  simp only [hocc]
  rfl

theorem State.loadError_unreadable {s : State} {g c addr : Nat}
    (h : s.poisoned addr (s.image addr).size = true ∨ 0x12000000000 < addr + (s.image addr).size) :
    s.loadError g c addr .ok = 8 := by
  unfold State.loadError
  refine if_pos ?_
  simp only [Bool.false_or, Bool.or_eq_true, decide_eq_true_eq]
  exact h.symm

theorem State.loadError_header {s : State} {g c addr : Nat} (hp : s.poisoned addr (s.image addr).size = false)
    (hs : addr + (s.image addr).size ≤ 0x12000000000) (h : (s.image addr).magic ≠ 0x4D494D4B ∨ (s.image addr).version ≠ 1) :
    s.loadError g c addr .ok = 1 := by
  unfold State.loadError
  refine (if_neg ?_).trans (if_pos ?_)
  · simp only [hbmKey, Bool.false_or, Bool.or_eq_true, decide_eq_true_eq, hp, Bool.false_eq_true, or_false]
    exact Nat.not_lt.mpr hs
  · exact h.imp_right .inl

/-- The scratchpad data of a good image lies in the context's window. -/
theorem State.loadError_scratch {s : State} {g c addr : Nat} {err : MemErr} (h : s.loadError g c addr err = 0) :
    (s.image addr).scratchOff + (s.image addr).scratchLen ≤ s.f F.PLC_WIN_SIZE c * 65536 := by
  unfold State.loadError at h
  dsimp only at h
  split_ifs at h with h1 h2 h3 h4 h5 h6 h7 h8
  omega

/-! ### A load that ends (R93) -/

theorem State.memErr_ok (s : State) (key : Nat) : s.memErr key .ok = s := rfl

/-- The state after a load that was refused with code e. -/
def State.loadRefused (s : State) (g c e : Nat) : State :=
  ((((s.setCtx g c { s.ctx g c with load := none }).setF F.CORE_LOAD_STATUS_STATE 3 g c).setF F.CORE_LOAD_STATUS_ERROR e g c).event
    F.CORE_EVENT_LOAD_ERR 0 g c)

theorem execLoadDone_refused {s : State} {g c addr e : Nat} (hl : (s.ctx g c).load = some addr)
    (he : s.loadError g c addr .ok = e) (h0 : e ≠ 0) : execLoadDone g c .ok s = .next (s.loadRefused g c e) := by
  unfold execLoadDone
  rw [hl]
  dsimp only
  rw [State.memErr_ok, State.loadError_ended, he, if_pos h0, State.loadRefused]

theorem State.loadRefused_spec (s : State) (g c : Nat) {e : Nat} (he : e < 256) :
    (s.loadRefused g c e).f F.CORE_LOAD_STATUS_STATE g c = 3 ∧ (s.loadRefused g c e).f F.CORE_LOAD_STATUS_ERROR g c = e ∧
    (s.loadRefused g c e).fb F.CORE_EVENT_LOAD_ERR g c = true ∧
    (s.loadRefused g c e).ctx g c = { s.ctx g c with load := none } ∧ (s.loadRefused g c e).mem = s.mem := by
  unfold State.loadRefused
  refine ⟨?_, ?_, State.event_one _ _ _ _ (by decide) rfl, ?_, ?_⟩
  · rw [State.f_event_name _ _ _ _ _ _ _ _ _ (by decide), State.f_setF_bits _ _ _ _ _ _ _ _ _ _ (by decide),
      State.f_setF_same _ _ _ _ _ _ (by decide)]
    rfl
  · rw [State.f_event_name _ _ _ _ _ _ _ _ _ (by decide), State.f_setF_same _ _ _ _ _ _ (by decide)]
    exact Nat.mod_eq_of_lt he
  · rw [State.event_ctx, State.setF_ctx, State.setF_ctx, State.ctx_setCtx_same]
  · rw [State.event_mem, State.setF_mem, State.setF_mem, State.setCtx_mem]

/-! ### What a good image writes -/

/-- The code and the scratchpad data of an image, stored. -/
def State.imageStored (s : State) (g c addr : Nat) : State :=
  let m := s.image addr
  let code := hbmKey (addr + 0x40 + 32 * m.blocks)
  let base := s.f F.CORE_CTX_ISTORE_BASE g c * 8192
  let s := s.write (istoreKey g base) ((s.read code (8 * m.codeLen)).take (262144 - base))
  let s : State := { s with badInstr := s.badInstr.filter (fun k =>
    !(decide (istoreKey g base ≤ k) && decide (k < istoreKey g base + min (8 * m.codeLen) (262144 - base)))) }
  s.write (spadKey g (s.f F.PLC_WIN_BASE c * 65536 + m.scratchOff)) (s.read (code + 8 * m.codeLen) m.scratchLen)

/-- The first n counters of a context cleared. -/
def State.tokensCleared (s : State) (g c n : Nat) : State := iter n (fun t s => s.setF F.CORE_TOKEN_COUNT 0 g c t) s

/-- The strands of a context freed. -/
def State.strandsFreed (s : State) (g c : Nat) : State := iter 8 (fun k s => s.freeStrand g c k) s

/-- What a loaded context starts with besides counters and strands: no firings counted, no step seen, no altimeter run. -/
def State.countsCleared (s : State) (g c : Nat) : State :=
  let s := s.setF F.CORE_FIRES_COUNT 0 g c
  let s := s.setTrn c { s.trnOf c with seen := false }
  iter 8 (fun p s => s.setReg ⟨.TRN_ALT_RUN, c, p, 0⟩ 0) s

/-- A context before it is loaded: its image stored, its counters cleared, its strands free. -/
def State.loadStart (s : State) (g c addr : Nat) : State :=
  (((s.imageStored g c addr).tokensCleared g c 32).strandsFreed g c).countsCleared g c

theorem State.loadWrite_eq (s : State) (g c addr : Nat) : s.loadWrite g c addr =
    (s.loadStart g c addr).setCtx g c {
      phase := .loaded
      blocks := ((s.loadStart g c addr).imageBlocks (s.image addr)).map (fun b => { b with since := (s.loadStart g c addr).clk.now })
      codeLen := (s.image addr).codeLen
      born := ((s.loadStart g c addr).core g).seq } := rfl

theorem State.tokensCleared_token (s : State) (g c n k : Nat) :
    (s.tokensCleared g c n).f F.CORE_TOKEN_COUNT g c k = if k < n then 0 else s.f F.CORE_TOKEN_COUNT g c k := by
  induction n with
  | zero => rfl
  | succ n ih =>
    rw [State.tokensCleared, iter_succ]
    by_cases hk : k = n
    · rw [hk, State.f_setF_same _ _ _ _ _ _ (by decide), if_pos (Nat.lt_succ_self n), Nat.zero_mod]
    · rw [State.f_setF_reg _ _ _ _ _ _ _ _ _ _ (by simp [hk]), ← State.tokensCleared, ih]
      have hiff : k < n ↔ k < n + 1 := by omega
      simp only [hiff]

theorem State.strandsFreed_strand (s : State) (g c : Nat) {k : Nat} (hk : k < 8) : (s.strandsFreed g c).strand g c k = {} := by
  obtain ⟨m, he, hm⟩ := s.freeStrands_eq g c 8
  rw [State.strandsFreed, he]
  exact (hm g c k).trans (if_pos ⟨rfl, rfl, hk⟩)

theorem State.strandsFreed_f (s : State) (g c : Nat) (x : Fld) (i j k : Nat) : (s.strandsFreed g c).f x i j k = s.f x i j k := by
  obtain ⟨m, he, -⟩ := s.freeStrands_eq g c 8
  rw [State.strandsFreed, he]
  rfl

theorem State.countsCleared_keeps {α : Type} {π : State → α} {a s : State} {g c : Nat}
    (ht : ∀ s : State, ∀ c x, π (s.setTrn c x) = π s) (h : Keeps π a s [F.CORE_TOKEN_COUNT]) :
    Keeps π a (s.countsCleared g c) [F.CORE_TOKEN_COUNT] :=
  Keeps.iter (h.setF.other (ht _ _ _) rfl) fun _ _ h => h.setReg

section
variable (s : State) (g c addr : Nat)

/-- The memory of a loaded context is that of its image stored. -/
theorem State.loadStart_mem : (s.loadStart g c addr).mem = (s.imageStored g c addr).mem := by
  have start : Keeps State.mem (s.imageStored g c addr) (s.imageStored g c addr) ([] : List Fld) := .refl (fun _ _ _ _ => rfl) _
  have htok : Keeps State.mem _ ((s.imageStored g c addr).tokensCleared g c 32) [] := start.iter fun _ _ h => h.setF
  have hfree : Keeps State.mem _ (((s.imageStored g c addr).tokensCleared g c 32).strandsFreed g c) [] :=
    htok.iter fun _ _ h => h.other rfl rfl
  exact (State.countsCleared_keeps (fun _ _ _ => rfl) (.refl hfree.blind _)).part.trans hfree.part

theorem State.loadStart_keeps : Keeps State.strands (((s.imageStored g c addr).tokensCleared g c 32).strandsFreed g c)
    (s.loadStart g c addr) [F.CORE_TOKEN_COUNT] :=
  State.countsCleared_keeps (fun _ _ _ => rfl) (.refl (fun _ _ _ _ => rfl) _)

theorem State.loadStart_strand {k : Nat} (hk : k < 8) : (s.loadStart g c addr).strand g c k = {} := by
  rw [State.strand, (s.loadStart_keeps g c addr).part]
  exact State.strandsFreed_strand _ g c hk

theorem State.loadStart_token {k : Nat} (hk : k < 32) : (s.loadStart g c addr).f F.CORE_TOKEN_COUNT g c k = 0 := by
  rw [(s.loadStart_keeps g c addr).field _ (List.mem_singleton_self _), State.strandsFreed_f, State.tokensCleared_token, if_pos hk]

end

theorem State.imageStored_mem (s : State) (g c addr : Nat) : ∃ scratch : List Byte, scratch.length = (s.image addr).scratchLen ∧
    (s.imageStored g c addr).mem = Mem.write (Mem.write s.mem (istoreKey g (s.f F.CORE_CTX_ISTORE_BASE g c * 8192))
      ((s.read (addr + 0x40 + 32 * (s.image addr).blocks) (8 * (s.image addr).codeLen)).take
        (262144 - s.f F.CORE_CTX_ISTORE_BASE g c * 8192)))
      (spadKey g (s.f F.PLC_WIN_BASE c * 65536 + (s.image addr).scratchOff)) scratch :=
  ⟨_, State.read_length .., rfl⟩

/-- Byte i of the code of a good image in the instruction store. -/
theorem State.imageStored_code {s : State} {g c addr i : Nat} (hg : g < 256)
    (hs : (s.image addr).scratchOff + (s.image addr).scratchLen ≤ s.f F.PLC_WIN_SIZE c * 65536)
    (hi : i < 8 * (s.image addr).codeLen) (hb : 8192 * s.f F.CORE_CTX_ISTORE_BASE g c + i < 262144) :
    (s.imageStored g c addr).mem.get (istoreKey g (8192 * s.f F.CORE_CTX_ISTORE_BASE g c + i)) =
      s.mem.get (addr + 0x40 + 32 * (s.image addr).blocks + i) := by
  have hbase : s.f F.CORE_CTX_ISTORE_BASE g c * 8192 = 8192 * s.f F.CORE_CTX_ISTORE_BASE g c := Nat.mul_comm ..
  have hwin : s.f F.PLC_WIN_BASE c < 2 ^ 6 := bits_lt ..
  have hsize : s.f F.PLC_WIN_SIZE c < 2 ^ 6 := bits_lt ..
  have hkey : istoreKey g (8192 * s.f F.CORE_CTX_ISTORE_BASE g c + i) = istoreKey g (8192 * s.f F.CORE_CTX_ISTORE_BASE g c) + i := by
    unfold istoreKey
    omega
  obtain ⟨scratch, hlen, hmem⟩ := s.imageStored_mem g c addr
  rw [hmem, mem_get_write_other, hbase, hkey]
  · refine (mem_get_write_same _ _ _ _ ?_).trans ?_
    · rw [List.length_take, State.read_length]
      omega
    · rw [List.getElem_take, State.read_getElem]
  · right
    unfold istoreKey spadKey
    omega

/-- The state after a load of a good image. -/
def State.loadGood (s : State) (g c addr : Nat) : State :=
  ((s.loadWrite g c addr).setF F.CORE_LOAD_STATUS_STATE 2 g c).event F.CORE_EVENT_LOAD_DONE 0 g c

theorem execLoadDone_good {s : State} {g c addr : Nat} (hl : (s.ctx g c).load = some addr)
    (he : s.loadError g c addr .ok = 0) : execLoadDone g c .ok s =
      .next ((s.setCtx g c { s.ctx g c with load := none }).loadGood g c addr) := by
  unfold execLoadDone
  rw [hl]
  dsimp only
  rw [State.memErr_ok, State.loadError_ended, he, if_neg (not_not.mpr rfl), State.loadGood]

theorem State.loadGood_ctx (s : State) (g c addr : Nat) : (s.loadGood g c addr).ctx g c = (s.loadWrite g c addr).ctx g c := by
  rw [State.loadGood, State.event_ctx, State.setF_ctx]

/-- What a good image of header m leaves, of the memory, the region and the window before it. -/
theorem State.loadGood_spec {s : State} {g c addr base size : Nat} {m : Image} {mem : Mem} (hg : g < 256)
    (hm : s.image addr = m) (hmem : s.mem = mem) (hbase : s.f F.CORE_CTX_ISTORE_BASE g c = base)
    (hsize : s.f F.PLC_WIN_SIZE c = size) (hs : m.scratchOff + m.scratchLen ≤ size * 65536) :
    let t := s.loadGood g c addr
    t.f F.CORE_LOAD_STATUS_STATE g c = 2 ∧ t.fb F.CORE_EVENT_LOAD_DONE g c = true ∧
    (t.ctx g c).phase = .loaded ∧ (t.ctx g c).codeLen = m.codeLen ∧ (t.ctx g c).blocks.length = m.blocks ∧
    (t.ctx g c).ticks = 0 ∧ (t.ctx g c).ready = [] ∧ (t.ctx g c).frames = [] ∧
    (∀ k, k < 32 → t.f F.CORE_TOKEN_COUNT g c k = 0) ∧ (∀ k, k < 8 → t.strand g c k = {}) ∧
    ∀ i, i < 8 * m.codeLen → 8192 * base + i < 262144 →
      t.mem.get (istoreKey g (8192 * base + i)) = mem.get (addr + 0x40 + 32 * m.blocks + i) := by
  subst hm hmem hbase hsize
  intro t
  have ht : t = ((s.loadWrite g c addr).setF F.CORE_LOAD_STATUS_STATE 2 g c).event F.CORE_EVENT_LOAD_DONE 0 g c := rfl
  have hctx : t.ctx g c = (s.loadWrite g c addr).ctx g c := s.loadGood_ctx g c addr
  refine ⟨?_, State.event_one _ _ _ _ (by decide) rfl, ?_⟩
  · rw [ht, State.f_event_name _ _ _ _ _ _ _ _ _ (by decide), State.f_setF_same _ _ _ _ _ _ (by decide)]
    rfl
  rw [hctx, State.loadWrite_eq, State.ctx_setCtx_same]
  refine ⟨rfl, rfl, by simp [State.imageBlocks], rfl, rfl, rfl, fun k hk => ?_, fun k hk => ?_, fun i hi hb => ?_⟩
  · rw [ht, State.f_event_name _ _ _ _ _ _ _ _ _ (by decide), State.f_setF_name _ _ _ _ _ _ _ _ _ _ (by decide),
      State.loadWrite_eq, State.setCtx_f, State.loadStart_token _ _ _ _ hk]
  · rw [ht, State.event_strand, State.setF_strand, State.loadWrite_eq, State.setCtx_strand,
      State.loadStart_strand _ _ _ _ hk]
  · rw [ht, State.event_mem, State.setF_mem, State.loadWrite_eq, State.setCtx_mem, State.loadStart_mem]
    exact State.imageStored_code hg hs hi hb

/-! ### UNLOAD (R94) -/

/-- What UNLOAD requires of the context. -/
def State.mayUnload (s : State) (g c : Nat) : Prop :=
  ((s.ctx g c).phase = .loaded ∨ (s.ctx g c).phase = .running ∧ s.halted c = true) ∧ s.f F.CORE_LOAD_STATUS_STATE g c ≠ 1

theorem State.unload_guard (s : State) (g c : Nat) :
    (!(decide ((s.ctx g c).phase = .loaded) || decide ((s.ctx g c).phase = .running) && s.halted c) ||
      s.f F.CORE_LOAD_STATUS_STATE g c == 1) = true ↔ ¬s.mayUnload g c := by
  simp only [State.mayUnload, Bool.or_eq_true, Bool.not_eq_true', Bool.or_eq_false_iff, Bool.and_eq_false_iff,
    decide_eq_false_iff_not, beq_iff_eq, not_and_or, not_or, not_not, Bool.not_eq_true]

theorem State.unload_shut {s : State} {g c : Nat} (h : ¬s.mayUnload g c) : s.unload g c = s :=
  if_pos ((s.unload_guard g c).mpr h)

/-- An unload empties the context on the core; what else it gives up holds every context. -/
theorem State.unload_empties {s : State} {g c : Nat} (h : s.mayUnload g c) :
    HoldsContexts (s.ctxEmpty g c) (s.unload g c) := by
  unfold State.unload
  dsimp only
  rw [if_neg (mt (s.unload_guard g c).mp (not_not.mpr h))]
  exact Keeps.ite (HoldsContexts.start _) (HoldsContexts.start _).svcCancel

/-- Settles O39: a load by its stages, an unload by what it empties on the core. -/
theorem imagesLoadAndUnload : Obligations.ImagesLoadAndUnload := by
  refine ⟨fun s g c => ?_, fun s g c addr hg hl => ?_, fun s g c => ?_⟩
  · refine ⟨s.loadGo g c, rfl, s.loadGo_mem g c, State.loadGo_busy, fun h => ?_⟩
    rw [State.loadGo_begins h, State.ctx_setCtx_same, State.setCtx_f, State.f_setF_bits _ _ _ _ _ _ _ _ _ _ (by decide),
      State.f_setF_same _ _ _ _ _ _ (by decide)]
    exact ⟨rfl, rfl⟩
  · obtain he | he := Nat.eq_zero_or_pos (s.loadError g c addr .ok)
    · refine ⟨_, execLoadDone_good hl he, fun h => ?_, fun hp hs h => ?_, fun _ => ?_⟩
      · exact absurd (he.symm.trans (State.loadError_unreadable h)) (by decide)
      · exact absurd (he.symm.trans (State.loadError_header hp hs h)) (by decide)
      · exact State.loadGood_spec hg (s.image_setCtx ..) (s.setCtx_mem ..) (s.setCtx_f ..) (s.setCtx_f ..) (State.loadError_scratch he)
    · refine ⟨_, execLoadDone_refused hl rfl he.ne', fun h => ?_, fun hp hs h => ?_, fun h => absurd h he.ne'⟩
      · rw [State.loadError_unreadable h]
        exact s.loadRefused_spec g c (by decide)
      · rw [State.loadError_header hp hs h]
        exact s.loadRefused_spec g c (by decide)
  · refine ⟨s.unload g c, rfl, State.unload_shut, fun h => ?_⟩
    have hkeep := State.unload_empties h
    refine ⟨?_, fun k hk => ?_, fun g' c' hne => ?_⟩
    · rw [hkeep.ctx, State.ctxEmpty_ctx, if_pos rfl]
    · rw [hkeep.strand, State.ctxEmpty_strand, if_pos ⟨rfl, rfl, hk⟩]
    · rw [hkeep.ctx, State.ctxEmpty_ctx, if_neg hne]

end Sys2Proof.Machine
end

section
namespace Sys2Proof.Machine

open Sys2Proof.Claims

/-! PROOFS. SpurOperationsLeaveAndComplete. -/

/-! ### An operation leaves the queue (R237) -/

/-- The operation reads its local bytes as it leaves: a SPUT, and a message whose payload was not read at issue. -/
def SOp.readsLocal (o : SOp) : Bool :=
  match o.kind with
  | .put => true
  | .msg _ _ => o.data.isEmpty
  | _ => false

/-- The operation as it has left, with the bytes it carries. -/
def SOp.left (s : State) (o : SOp) : SOp :=
  { o with
    sent := true
    data := if o.readsLocal then s.read o.loc o.len else o.data
    poison := o.readsLocal && s.poisoned o.loc o.len }

theorem SOp.left_reads {s : State} {o : SOp} (h : o.readsLocal = true) :
    o.left s = { o with sent := true, data := bytesAt s o.loc o.len, poison := s.poisoned o.loc o.len } := by
  rw [SOp.left, h]
  rfl

theorem SOp.left_carries {s : State} {o : SOp} (h : o.readsLocal = false) :
    o.left s = { o with sent := true, poison := false } := by
  rw [SOp.left, h]
  rfl

theorem State.spurMod_core (s : State) (g seq : Nat) (f : SOp → SOp) :
    ((s.spurMod g seq f).core g).spurq = (s.core g).spurq.map (fun o => if o.seq = seq then f o else o) := by
  rw [State.spurMod, State.core_setCore_same]

/-- The queue with an operation as it has left it; memory and strands as before. -/
structure State.SpurLeft (s t : State) (g : Nat) (o : SOp) : Prop where
  mem : t.mem = s.mem
  strands : t.strands = s.strands
  queue : ∃ m, (t.core g).spurq = (s.core g).spurq.map (fun x => if x.seq = o.seq then { o.left s with dups := m } else x)

theorem State.SpurLeft.of_sends {s u t : State} {g : Nat} {o : SOp} (m : Nat) (hu : SendsOnly s u)
    (ht : SendsOnly (u.spurMod g o.seq fun _ => { o.left s with dups := m }) t) : s.SpurLeft t g o where
  mem := ht.mem.trans hu.mem
  strands := ht.strands.trans hu.strands
  queue := ⟨m, by rw [ht.core, State.spurMod_core, hu.core]⟩

/-- A message of this module is on its way. -/
theorem State.spurLeave_msg_here {s : State} {g core q : Nat} {o : SOp} (hk : o.kind = .msg core q)
    (hn : o.addr / 2 ^ 44 = s.node) : s.spurLeave g o = { s.spurMod g o.seq (fun _ => o.left s) with
      msgs := s.msgs ++
        [⟨g, o.seq, core, o.who.c, q, (o.left s).data, (o.left s).poison, false⟩] } := by
  obtain ⟨seq, who, kind, tok, addr, parts, loc, len, val, rc, data, poison, sent, born, dups, fail⟩ := o
  obtain rfl : kind = .msg core q := hk
  exact if_pos hn

theorem State.spurLeave_msg_away {s : State} {g core q : Nat} {o : SOp} (hk : o.kind = .msg core q)
    (hn : o.addr / 2 ^ 44 ≠ s.node) : SendsOnly (s.spurMod g o.seq (fun _ => o.left s)) (s.spurLeave g o) := by
  obtain ⟨seq, who, kind, tok, addr, parts, loc, len, val, rc, data, poison, sent, born, dups, fail⟩ := o
  obtain rfl : kind = .msg core q := hk
  refine Eq.trans (congrArg State.besideSends (if_neg hn)) ?_
  exact (SendsOnly.refl _).flowSend _ _

/-- The mirror copies of a SPUT, and how many. -/
def State.spurMirrors (s : State) (g : Nat) (o : SOp) : Nat × State :=
  o.parts.foldl (fun (n, s) p => match p.loc, o.kind with
    | .mem k, .put =>
      let (m, s) := s.mirrorSend k ((o.data.drop p.off).take p.len) o.poison (fun node => spurKey g o.who.c node 0) (.spur g o.seq)
      (n + m, s)
    | _, _ => (n, s)) (0, s)

/-- The packets of the remote parts. -/
def State.spurPackets (s : State) (g : Nat) (o : SOp) : State :=
  ((List.range o.parts.length).zip o.parts).foldl (fun s e => match e.2.loc with
    | .remote node a =>
      let (tag, s) := s.nextTag
      s.flowSend (spurKey g o.who.c node a)
        [{ pkt := s.spurPacket o e.2 a tag, refs := [{ op := .spur g o.seq, part := e.1 }] }]
    | _ => s) s

theorem SendsOnly.nextTag {a s : State} (h : SendsOnly a s) : SendsOnly a s.nextTag.2 := h.trans (.tag s _)

theorem SendsOnly.spurMirrors (s : State) (g : Nat) (o : SOp) : SendsOnly s (s.spurMirrors g o).2 := by
  refine List.foldlRecOn (motive := fun x : Nat × State => SendsOnly s x.2) _ _ (SendsOnly.refl s) fun x hx p _ => ?_
  dsimp only
  split
  · dsimp only
    exact hx.mirrorSend ..
  · exact hx

theorem SendsOnly.spurPackets (s : State) (g : Nat) (o : SOp) : SendsOnly s (s.spurPackets g o) := by
  refine (SendsOnly.refl s).foldl _ fun u e hu => ?_
  split
  · exact hu.nextTag.flowSend _ _
  · exact hu

/-- Any other operation sends the mirror copies of a SPUT and the packets of its remote parts. -/
theorem State.spurLeave_parts {s : State} {g : Nat} {o : SOp} (hk : ∀ core q, o.kind ≠ .msg core q) :
    s.spurLeave g o = ((s.spurMirrors g (o.left s)).2.spurMod g o.seq fun _ =>
      { o.left s with dups := (s.spurMirrors g (o.left s)).1 }).spurPackets g
        { o.left s with dups := (s.spurMirrors g (o.left s)).1 } := by
  obtain ⟨seq, who, kind, tok, addr, parts, loc, len, val, rc, data, poison, sent, born, dups, fail⟩ := o
  cases kind with
  | msg core q => exact absurd rfl (hk core q)
  | put => rfl
  | get => rfl
  | atom => rfl

theorem State.spurLeave_left (s : State) (g : Nat) (o : SOp) : s.SpurLeft (s.spurLeave g o) g o := by
  by_cases hk : ∃ core q, o.kind = .msg core q
  · obtain ⟨core, q, hk⟩ := hk
    by_cases hn : o.addr / 2 ^ 44 = s.node
    · rw [State.spurLeave_msg_here hk hn]
      exact ⟨rfl, rfl, o.dups, State.spurMod_core ..⟩
    · exact .of_sends o.dups (.refl s) (State.spurLeave_msg_away hk hn)
  · rw [State.spurLeave_parts fun core q h => hk ⟨core, q, h⟩]
    exact .of_sends _ (.spurMirrors ..) (.spurPackets ..)

/-! ### What an operation does at its target -/

/-- t is s but for what memory holds. -/
def StoresOnly (s t : State) : Prop := ∃ m p, t = { s with mem := m, poison := p }

namespace StoresOnly

variable {s t : State}

theorem refl (s : State) : StoresOnly s s := ⟨s.mem, s.poison, rfl⟩

theorem regs (h : StoresOnly s t) : t.regs = s.regs := by obtain ⟨m, p, rfl⟩ := h; rfl
theorem ctxs (h : StoresOnly s t) : t.ctxs = s.ctxs := by obtain ⟨m, p, rfl⟩ := h; rfl
theorem cores (h : StoresOnly s t) : t.cores = s.cores := by obtain ⟨m, p, rfl⟩ := h; rfl
theorem strands (h : StoresOnly s t) : t.strands = s.strands := by obtain ⟨m, p, rfl⟩ := h; rfl

theorem store (h : StoresOnly s t) (key : Nat) (bs : List Byte) (poison : Bool) : StoresOnly s (t.store key bs poison) := by
  obtain ⟨m, p, rfl⟩ := h
  unfold State.store
  dsimp only
  split
  · exact ⟨_, _, rfl⟩
  · exact ⟨_, _, rfl⟩

end StoresOnly

theorem State.store_mem (s : State) (key : Nat) (bs : List Byte) (poison : Bool) :
    (s.store key bs poison).mem = s.mem.write key bs := by
  unfold State.store
  dsimp only
  split <;> rfl

theorem Stores.of_mem {s t : State} {key : Nat} {bs : List Byte} (h : t.mem = s.mem.write key bs) : Stores s t key bs := by
  unfold Stores
  rw [h]
  refine ⟨fun i hi => ?_, fun a ha => mem_get_write_other bs s.mem key a ha⟩
  rw [mem_get_write_same _ _ _ _ hi, List.getD_eq_getElem _ _ hi]

/-- A host part whose port may not master the bus. -/
def SOp.shut (s : State) (o : SOp) : Prop := ∃ p ∈ o.parts, s.hostShut p.loc = true

theorem SOp.shut_iff (s : State) (o : SOp) : o.parts.any (fun p => s.hostShut p.loc) = true ↔ o.shut s := List.any_eq_true

theorem State.spurEffect_shut {s : State} {o : SOp} (h : o.shut s) (g : Nat) : s.spurEffect g o = (some 0x05, none, s) :=
  if_pos ((o.shut_iff s).mpr h)

section
variable {s : State} {o : SOp} (hshut : ¬o.shut s) (g : Nat)
include hshut

theorem State.spurEffect_open : s.spurEffect g o =
    let failed := if o.status = 0 then none else some (failCode o.status)
    match o.kind with
    | .msg _ _ => (failed, none, s)
    | .put => (failed, none, o.parts.foldl (fun s p => match p.loc.key with
        | some k => s.store k ((o.data.drop p.off).take p.len) o.poison
        | none => s) s)
    | .get =>
      if failed.isSome then (failed, none, s) else
      if (s.spurGather o).2 then (some 0x0D, none, s) else (none, none, s.store o.loc (s.spurGather o).1 false)
    | .atom =>
      if failed.isSome then (failed, none, s) else
      match o.parts.head? with
      | none => (none, none, s)
      | some p =>
        match p.loc.key, p.rsp with
        | some k, _ =>
          if s.poisoned k 8 then (some 0x0D, none, s)
          else (none, some (s.atomicAt g (some o.who.c) k .amoadd o.val 0).1, (s.atomicAt g (some o.who.c) k .amoadd o.val 0).2)
        | none, some r => if r.poison then (some 0x0D, none, s) else (none, some (BitVec.ofNat 64 (ofLE r.data)), s)
        | none, none => (none, none, s) :=
  if_neg (mt (o.shut_iff s).mp hshut)

/-- A refused operation raises its code, and changes nothing but memory. -/
theorem State.spurEffect_refused (hst : o.status ≠ 0) :
    ∃ w, s.spurEffect g o = (some (failCode o.status), none, w) ∧ StoresOnly s w := by
  rw [State.spurEffect_open hshut, if_neg hst]
  cases o.kind with
  | put => exact ⟨_, rfl, List.foldlRecOn (motive := StoresOnly s) _ _ (.refl s) fun u hu p _ => by
      split
      · exact hu.store ..
      · exact hu⟩
  | get => exact ⟨s, rfl, .refl s⟩
  | atom => exact ⟨s, rfl, .refl s⟩
  | msg => exact ⟨s, rfl, .refl s⟩

variable (hst : o.status = 0)
include hst

theorem State.spurEffect_msg {core q : Nat} (hk : o.kind = .msg core q) : s.spurEffect g o = (none, none, s) := by
  rw [State.spurEffect_open hshut, hk, if_pos hst]

end

/-- The bytes of a sum as the atomic stores it. -/
theorem toLE_add_eq (old : Nat) (v : Word) : toLE 8 (BitVec.ofNat 64 old + v).toNat =
    (List.range 8).map (fun i => BitVec.ofNat 8 ((old + v.toNat) / 256 ^ i)) := by
  rw [toLE_eq_map]
  refine List.map_congr_left fun i hi => ?_
  have hi8 : i < 8 := List.mem_range.mp hi
  have hsplit : 2 ^ 64 = 256 ^ i * 256 ^ (8 - i) := by
    rw [← pow_add, Nat.add_sub_cancel' hi8.le]
    rfl
  have hbyte : 256 ∣ 256 ^ (8 - i) := dvd_pow_self 256 (by omega)
  apply BitVec.eq_of_toNat_eq
  rw [BitVec.toNat_ofNat, BitVec.toNat_ofNat, BitVec.toNat_add, BitVec.toNat_ofNat, Nat.mod_add_mod, hsplit,
    Nat.mod_mul_right_div_self]
  exact Nat.mod_mod_of_dvd _ hbyte

/-! ### What an operation of one part in this module's memory does -/

section
variable {s : State} {o : SOp} {p : SPart} {key : Nat} (g : Nat) (hst : o.status = 0) (hp : o.parts = [p]) (hl : p.loc = .mem key)
include hp hl

theorem SOp.open_of_mem : ¬o.shut s := by
  simp [SOp.shut, hp, hl, State.hostShut]

theorem State.spurGather_one : s.spurGather o = (bytesAt s key p.len, s.poisoned key p.len) := by
  simp only [State.spurGather, hp, List.foldl_cons, List.foldl_nil, hl, Loc.key, List.nil_append, Bool.false_or]
  rfl

include hst

theorem State.spurEffect_put (hk : o.kind = .put) :
    s.spurEffect g o = (none, none, s.store key ((o.data.drop p.off).take p.len) o.poison) := by
  rw [State.spurEffect_open (SOp.open_of_mem hp hl), hk, if_pos hst, hp]
  simp only [List.foldl_cons, List.foldl_nil, hl, Loc.key]

theorem State.spurEffect_get (hk : o.kind = .get) : s.spurEffect g o =
    if s.poisoned key p.len = true then (some 0x0D, none, s) else (none, none, s.store o.loc (bytesAt s key p.len) false) := by
  rw [State.spurEffect_open (SOp.open_of_mem hp hl), hk, if_pos hst, State.spurGather_one hp hl]
  rfl

theorem State.spurEffect_atom (hk : o.kind = .atom) : s.spurEffect g o =
    if s.poisoned key 8 = true then (some 0x0D, none, s)
    else (none, some (s.atomicAt g (some o.who.c) key .amoadd o.val 0).1, (s.atomicAt g (some o.who.c) key .amoadd o.val 0).2) := by
  rw [State.spurEffect_open (SOp.open_of_mem hp hl), hk, if_pos hst, hp]
  simp only [List.head?_cons, hl, Loc.key]
  rfl

/-- An SATOM on a word that is neither a count nor an allocation word adds to it and returns what it held. -/
theorem State.spurEffect_add (hk : o.kind = .atom) (hq : s.poisoned key 8 = false) (hcount : s.countWordAt key = none)
    (halloc : s.allocWordAt key = none) :
    ∃ w, s.spurEffect g o = (none, some (BitVec.ofNat 64 (leNat s key 8)), w) ∧ StoresOnly s w ∧ w.mem = s.mem.write key
      ((List.range 8).map (fun i => BitVec.ofNat 8 ((leNat s key 8 + o.val.toNat) / 256 ^ i))) := by
  refine ⟨s.atomicStored key (some (BitVec.ofNat 64 (leNat s key 8) + o.val)), ?_, ⟨_, s.poison, State.atomicStored_eq ..⟩, ?_⟩
  · rw [State.spurEffect_atom g hst hp hl hk, if_neg (by rw [hq]; decide),
      State.atomicAt_plain hcount halloc (.inl rfl) g (some o.who.c) o.val 0]
    rfl
  · rw [← toLE_add_eq]
    rfl

end

/-! ### The units of the cores stand -/

/-- t has the units of the cores that a has. -/
abbrev HoldsCores (a t : State) : Prop := Keeps State.cores a t []

namespace HoldsCores

variable {a s : State}

theorem start (s : State) : HoldsCores s s := .refl (fun _ _ _ _ => rfl) s

theorem setReg (h : HoldsCores a s) (r : Reg) (w : Word) : HoldsCores a (s.setReg r w) := Keeps.setReg h
theorem addF (h : HoldsCores a s) (x : Fld) (n i j k : Nat) : HoldsCores a (s.addF x n i j k) := Keeps.addF h
theorem event (h : HoldsCores a s) (x : Fld) (n i j : Nat) : HoldsCores a (s.event x n i j) := Keeps.event h
theorem writeN (h : HoldsCores a s) (k n v : Nat) : HoldsCores a (s.writeN k n v) := h.other rfl rfl
theorem setSeg (h : HoldsCores a s) (p i : Nat) (x : Seg) : HoldsCores a (s.setSeg p i x) := h.other rfl rfl

end HoldsCores

theorem HoldsCores.setFree {a s : State} (h : HoldsCores a s) (p i n : Nat) : HoldsCores a (s.setFree p i n) :=
  Keeps.ite (HoldsCores.writeN h.setF _ _ _) h.setF

theorem HoldsCores.ite_snd {α : Type} {a : State} {x y : α × State} {c : Prop} {_ : Decidable c} (hx : HoldsCores a x.2)
    (hy : HoldsCores a y.2) : HoldsCores a (if c then x else y).2 := by
  split
  · exact hx
  · exact hy

theorem State.countAdd_cores (s : State) (g p i n : Nat) (d : Word) : HoldsCores s (s.countAdd g p i n d).2 := by
  have start := HoldsCores.start s
  unfold State.countAdd
  dsimp only
  refine HoldsCores.ite_snd ?_ ?_ <;> dsimp only
  · exact ((start.setReg ..).addF ..).event ..
  split
  · exact (((start.writeN ..).setSeg ..).addF ..)
  · exact start.writeN ..

theorem State.allocPage_cores (s : State) (p i reserve : Nat) : HoldsCores s (s.allocPage p i reserve).2 :=
  have start := HoldsCores.start s
  HoldsCores.ite_snd ((((start.setSeg ..).writeN ..).setFree ..).addF ..) (start.addF ..)

theorem State.allocWord_cores (s : State) (c : Option Nat) (p i : Nat) : HoldsCores s (s.allocWord c p i).2 := by
  unfold State.allocWord
  split
  · exact s.allocPage_cores p i 0
  · exact (HoldsCores.start s).addF ..

theorem State.atomicAt_cores (s : State) (g : Nat) (c : Option Nat) (key : Nat) (acc : Acc) (data cmp : Word) :
    (s.atomicAt g c key acc data cmp).2.cores = s.cores := by
  unfold State.atomicAt
  split
  · exact (s.countAdd_cores ..).part
  · exact (s.allocWord_cores ..).part
  · dsimp only
    split <;> rfl

theorem ite_cores {α β : Type} {s : State} {x y : α × β × State} {c : Prop} {_ : Decidable c} (hx : x.2.2.cores = s.cores)
    (hy : y.2.2.cores = s.cores) : (if c then x else y).2.2.cores = s.cores := by
  split
  · exact hx
  · exact hy

theorem State.spurEffect_cores (s : State) (g : Nat) (o : SOp) : (s.spurEffect g o).2.2.cores = s.cores := by
  by_cases hshut : o.shut s
  · rw [State.spurEffect_shut hshut]
  by_cases hst : o.status = 0
  · rw [State.spurEffect_open hshut, if_pos hst]
    cases hk : o.kind with
    | put =>
      refine (List.foldlRecOn (motive := StoresOnly s) _ _ (.refl s) fun u hu p _ => ?_).cores
      split
      · exact hu.store ..
      · exact hu
    | get => exact ite_cores rfl (ite_cores rfl (StoresOnly.store (.refl s) _ _ _).cores)
    | atom =>
      refine ite_cores rfl ?_
      split
      · rfl
      · split
        · exact ite_cores (s := s) rfl (s.atomicAt_cores ..)
        · exact ite_cores (s := s) rfl rfl
        · rfl
    | msg => rfl
  · obtain ⟨w, he, hw⟩ := State.spurEffect_refused hshut g hst
    rw [he]
    exact hw.cores

/-! ### Tokens (R65) -/

theorem State.token_rest (s : State) (g c t n : Nat) :
    (s.token g c t n).mem = s.mem ∧ (s.token g c t n).cores = s.cores ∧ (s.token g c t n).strands = s.strands := by
  unfold State.token
  split
  · exact ⟨rfl, rfl, rfl⟩
  · split
    · rw [State.raiseAt_rest]
      exact ⟨rfl, rfl, rfl⟩
    · exact ⟨rfl, rfl, rfl⟩

theorem State.token_counts {s : State} {g c t n : Nat} (hocc : s.occupied g c = true)
    (hn : s.f F.CORE_TOKEN_COUNT g c t + n ≤ 4095) :
    (s.token g c t n).f F.CORE_TOKEN_COUNT g c t = s.f F.CORE_TOKEN_COUNT g c t + n := by
  rw [State.token, hocc, if_neg (by decide), if_neg (by omega), State.progress_f, State.f_setF_same _ _ _ _ _ _ (by decide)]
  exact Nat.mod_eq_of_lt (show _ < 4096 by omega)

/-! ### The end of an operation -/

/-- An operation has given up its place, and what it returns has arrived (R237). -/
def State.spurFreed (s : State) (g : Nat) (o : SOp) (v : Option Word) : State :=
  let s := s.setCore g { s.core g with spurq := (s.core g).spurq.filter (fun q => q.seq ≠ o.seq) }
  let s := { s with msgs := s.msgs.filter (fun m => !decide (m.g = g ∧ m.seq = o.seq)) }
  if o.kind = .atom then s.arrive g o.who o.rc v else s

section
variable (s : State) (g : Nat) (o : SOp) (v : Option Word)

theorem State.spurEnd_fault (e : Nat) : s.spurEnd g o (some e) v = (s.spurFreed g o v).raiseOpWho g o.who o.seq e o.addr := rfl

theorem State.spurEnd_none : s.spurEnd g o none v =
    (if o.tok && !(s.spurFreed g o v).stale g o.who.c o.seq then (s.spurFreed g o v).token g o.who.c 29 1
      else s.spurFreed g o v).progressOf g o.who.c o.seq := rfl

theorem State.spurFreed_rest : s.spurFreed g o v =
    { s with cores := (s.spurFreed g o v).cores, msgs := (s.spurFreed g o v).msgs, strands := (s.spurFreed g o v).strands } := by
  unfold State.spurFreed
  dsimp only
  split
  · rw [State.arrive_rest]
    rfl
  · rfl

theorem State.spurFreed_queue :
    ((s.spurFreed g o v).core g).spurq = (s.core g).spurq.filter (fun q => decide (q.seq ≠ o.seq)) := by
  have h (u : State) (hu : u.cores = (s.setCore g { s.core g with
      spurq := (s.core g).spurq.filter (fun q => q.seq ≠ o.seq) }).cores) :
      (u.core g).spurq = (s.core g).spurq.filter (fun q => decide (q.seq ≠ o.seq)) := by
    rw [State.core, hu]
    exact congrArg Core.spurq (State.core_setCore_same ..)
  unfold State.spurFreed
  dsimp only
  split
  · rw [State.arrive_rest]
    exact h _ rfl
  · exact h _ rfl

/-- What an SATOM returns has arrived at the dispatch that waits for it. -/
theorem State.spurFreed_strand {s w : State} {g : Nat} {o : SOp} (hs : w.strands = s.strands) (hk : o.kind = .atom) (v : Word)
    (hex : (s.strand g o.who.c o.who.k).exec = true) (hend : (s.strand g o.who.c o.who.k).ended = false)
    (hfid : (s.strand g o.who.c o.who.k).fid = o.who.fid) :
    (w.spurFreed g o (some v)).strand g o.who.c o.who.k =
      ({ s.strand g o.who.c o.who.k with pend := (s.strand g o.who.c o.who.k).pend.erase o.rc } : Strand).wr o.rc v := by
  have hst : w.strand g o.who.c o.who.k = s.strand g o.who.c o.who.k := by rw [State.strand, hs]; rfl
  rw [← hst] at hex hend hfid ⊢
  rw [State.spurFreed, if_pos hk]
  exact State.arrive_strand (s := { w.setCore g _ with msgs := _ }) o.rc v hex hend hfid

/-- An operation that ends changes neither memory nor, of the units, more than freed them. -/
theorem State.spurEnd_rest (err : Option Nat) :
    (s.spurEnd g o err v).mem = s.mem ∧ (s.spurEnd g o err v).cores = (s.spurFreed g o v).cores := by
  have hmem : (s.spurFreed g o v).mem = s.mem := by rw [State.spurFreed_rest]
  cases err with
  | some e =>
    rw [State.spurEnd_fault]
    exact ⟨(State.raiseOpWho_mem ..).trans hmem, State.raiseOpWho_cores ..⟩
  | none =>
    rw [State.spurEnd_none, State.progressOf_rest]
    dsimp only
    split
    · obtain ⟨hm, hc, -⟩ := (s.spurFreed g o v).token_rest g o.who.c 29 1
      exact ⟨hm.trans hmem, hc⟩
    · exact ⟨hmem, rfl⟩

/-- Ending well changes no strand further. -/
theorem State.spurEnd_strand (c k : Nat) :
    (s.spurEnd g o none v).strand g c k = (s.spurFreed g o v).strand g c k := by
  have hstrands : (s.spurEnd g o none v).strands = (s.spurFreed g o v).strands := by
    rw [State.spurEnd_none, State.progressOf_rest]
    dsimp only
    split
    · exact ((s.spurFreed g o v).token_rest g o.who.c 29 1).2.2
    · rfl
  rw [State.strand, hstrands]
  rfl

end

section
variable {s w : State} (g : Nat) (o : SOp) (v : Option Word)

theorem SpurGone.of_end (h : w.cores = s.cores) (err : Option Nat) : SpurGone s (w.spurEnd g o err v) g o := by
  have hcore : w.core g = s.core g := by rw [State.core, h]; rfl
  rw [SpurGone, State.core, (w.spurEnd_rest g o v err).2, ← hcore]
  exact w.spurFreed_queue g o v

theorem State.spurFreed_gone (hctxs : w.ctxs = s.ctxs) : CtxGone (w.spurFreed g o v) g o.who.c o.seq ↔ CtxGone s g o.who.c o.seq := by
  rw [← State.stale_iff, ← State.stale_iff, State.stale_of_ctxs (s := s) (by rw [State.spurFreed_rest]; exact hctxs)]

theorem State.spurFreed_reg (hregs : w.regs = s.regs) (r : Reg) : (w.spurFreed g o v).reg r = s.reg r := by
  rw [State.spurFreed_rest, State.reg, State.reg, ← hregs]

variable (hctxs : w.ctxs = s.ctxs) (hregs : w.regs = s.regs)
include hctxs hregs

/-- An operation that ends with a code has raised it, unless its context has been emptied since. -/
theorem SpurFault.of_end {e : Nat} (he : e < 256) : SpurFault s (w.spurEnd g o (some e) v) g o e := by
  have hgone := State.spurFreed_gone g o v hctxs
  refine ⟨fun h => ?_, fun h => ?_⟩ <;> rw [State.spurEnd_fault]
  · rw [State.raiseOpWho_here (mt hgone.mp h)]
    exact State.raiseOp_blamed _ g o.who he (some o.addr)
  · rw [State.raiseOpWho_gone (hgone.mpr h)]
    exact State.spurFreed_reg g o v hregs _

/-- An operation that ends well has counted its token. -/
theorem SpurToken.of_end : SpurToken s (w.spurEnd g o none v) g o := by
  have hgone := State.spurFreed_gone g o v hctxs
  have hf (x : Fld) (i j k : Nat) : (w.spurFreed g o v).f x i j k = s.f x i j k := by
    rw [State.f, State.spurFreed_reg g o v hregs]
    rfl
  have hprog (u : State) (x : Fld) (i j k : Nat) : (u.progressOf g o.who.c o.seq).f x i j k = u.f x i j k := by
    rw [State.progressOf_rest]
    rfl
  refine ⟨fun htok hhere hroom => ?_, fun h => ?_⟩ <;> rw [State.spurEnd_none, hprog]
  · have hnot := mt hgone.mp hhere
    have hstale : (w.spurFreed g o v).stale g o.who.c o.seq = false := by
      rwa [← Bool.not_eq_true, State.stale_iff]
    have hocc : (w.spurFreed g o v).occupied g o.who.c = true := by
      simpa [State.occupied] using fun e => hnot (.inl e)
    rw [htok, hstale, if_pos (by decide), State.token_counts hocc (by rw [hf]; omega), hf]
  · have hno : ¬(o.tok && !(w.spurFreed g o v).stale g o.who.c o.seq) = true := by
      simp only [Bool.and_eq_true, Bool.not_eq_true', not_and, Bool.not_eq_false, State.stale_iff, hgone]
      exact fun ht => h.resolve_left (by simp [ht])
    rw [if_neg hno, hf]

end

/-! ### The queue's commands -/

theorem execSpurSend_sends {s : State} {g : Nat} {o : SOp} (h : (s.core g).spurq.find? (fun x => !x.sent) = some o) :
    execSpurSend g s = .next (s.spurLeave g o) := by
  rw [execSpurSend, h]

theorem execSpurComplete_ends {s : State} {g n : Nat} {o : SOp} (hn : (s.core g).spurq[n]? = some o)
    (hr : s.spurReady g o = true) : execSpurComplete g n s =
      .next ((s.spurEffect g o).2.2.spurEnd g o (s.spurEffect g o).1 (s.spurEffect g o).2.1) := by
  rw [execSpurComplete, hn]
  dsimp only
  rw [hr, if_neg (by decide)]

theorem failCode_lt (status : Nat) : failCode status < 256 := by
  unfold failCode
  split
  · decide
  · split <;> decide

/-- Settles O30: an operation leaves with its bytes; it ends by its effect, its place and its token or fault. -/
theorem spurOperationsLeaveAndComplete : Obligations.SpurOperationsLeaveAndComplete := by
  refine ⟨fun s g o ho => ?_, fun s g n o hn hr => ?_, fun s g n o hn => ?_⟩
  · obtain ⟨hmem, hstrands, m, hqueue⟩ := s.spurLeave_left g o
    refine ⟨_, execSpurSend_sends ho, hmem, hstrands, fun h => ⟨m, ?_⟩, fun h => ⟨m, ?_⟩, fun core q hk hnode hdata => ?_⟩
    · have hreads : o.readsLocal = true := by
        obtain hk | ⟨⟨core, q, hk⟩, hdata⟩ := h
        · rw [SOp.readsLocal, hk]
        · simp [SOp.readsLocal, hk, hdata]
      rw [hqueue, SOp.left_reads hreads]
    · have hreads : o.readsLocal = false := by
        obtain hk | hk | ⟨⟨core, q, hk⟩, hdata⟩ := h
        · rw [SOp.readsLocal, hk]
        · rw [SOp.readsLocal, hk]
        · simp [SOp.readsLocal, hk, hdata]
      rw [hqueue, SOp.left_carries hreads]
    · have hreads : o.readsLocal = false := by simp [SOp.readsLocal, hk, hdata]
      rw [State.spurLeave_msg_here hk hnode, SOp.left_carries hreads]
  · refine ⟨_, execSpurComplete_ends hn hr, SpurGone.of_end g o _ (s.spurEffect_cores g o) _, fun hshut => ?shut,
      fun hshut hst => ?refused, fun hshut hst ⟨core, q, hk⟩ => ?message, fun p key hst hp hl => ⟨fun hk => ?put,
        fun hk hq => ?get, fun hk hq => ?getPoisoned, fun hk hq => ?atomPoisoned, fun hk hq hcount halloc => ?atom⟩⟩
    case shut =>
      rw [State.spurEffect_shut hshut]
      exact ⟨SpurFault.of_end g o none rfl rfl (by decide), (s.spurEnd_rest g o none _).1⟩
    case refused =>
      obtain ⟨w, he, hw⟩ := State.spurEffect_refused hshut g hst
      rw [he]
      exact SpurFault.of_end g o none hw.ctxs hw.regs (failCode_lt _)
    case message =>
      rw [State.spurEffect_msg hshut g hst hk]
      exact ⟨SpurToken.of_end g o none rfl rfl, (s.spurEnd_rest g o none none).1⟩
    case put =>
      have hw := (StoresOnly.refl s).store key ((o.data.drop p.off).take p.len) o.poison
      rw [State.spurEffect_put g hst hp hl hk]
      exact ⟨SpurToken.of_end g o none hw.ctxs hw.regs,
        Stores.of_mem ((State.spurEnd_rest _ g o none none).1.trans (s.store_mem ..))⟩
    case get =>
      have hw := (StoresOnly.refl s).store o.loc (bytesAt s key p.len) false
      rw [State.spurEffect_get g hst hp hl hk, if_neg (by rw [hq]; decide)]
      exact ⟨SpurToken.of_end g o none hw.ctxs hw.regs,
        Stores.of_mem ((State.spurEnd_rest _ g o none none).1.trans (s.store_mem ..))⟩
    case getPoisoned =>
      rw [State.spurEffect_get g hst hp hl hk, if_pos hq]
      exact ⟨SpurFault.of_end g o none rfl rfl (by decide), (s.spurEnd_rest g o none _).1⟩
    case atomPoisoned =>
      rw [State.spurEffect_atom g hst hp hl hk, if_pos hq]
      exact ⟨SpurFault.of_end g o none rfl rfl (by decide), (s.spurEnd_rest g o none _).1⟩
    case atom =>
      intro old u
      obtain ⟨w, he, hw, hm⟩ := State.spurEffect_add g hst hp hl hk hq hcount halloc
      rw [he]
      refine ⟨SpurToken.of_end g o _ hw.ctxs hw.regs, Stores.of_mem ((State.spurEnd_rest ..).1.trans hm), fun hex hend hfid hrc => ?_⟩
      rw [State.spurEnd_strand, State.spurFreed_strand hw.strands hk (BitVec.ofNat 64 old) hex hend hfid]
      exact ⟨by rw [Strand.rd_wr_of_pend, if_pos ⟨rfl, hrc⟩], Strand.wr_pend ..⟩
  · rw [show exec (.spurTimeout g n) s = execSpurTimeout g n s from rfl, execSpurTimeout, hn]
    dsimp only
    split
    · next hlt => exact ⟨s, rfl, rfl, fun _ => rfl, fun hle => absurd hlt (Nat.not_lt.mpr hle)⟩
    · next hlt =>
      exact ⟨_, rfl, (s.spurEnd_rest g o none _).1, fun h => absurd h hlt, fun _ =>
        ⟨SpurGone.of_end g o none rfl _, SpurFault.of_end g o none rfl rfl (by decide)⟩⟩

end Sys2Proof.Machine
end

section
namespace Sys2Proof.Machine

open Sys2Proof.Claims

/-! PROOFS. What leaving the matrix queue, a fault there and a start change (R88, R133). -/

/-! ### Readers of one part of the state -/

section
variable {s t : State}

theorem State.core_of_cores (h : t.cores = s.cores) (g : Nat) : t.core g = s.core g := by
  rw [State.core, h]
  rfl

theorem State.f_of_regs (h : t.regs = s.regs) (x : Fld) (i j k : Nat) : t.f x i j k = s.f x i j k := by
  simp only [State.f, State.reg, h]

theorem State.winKey_of_regs (h : t.regs = s.regs) (g c addr n : Nat) : t.winKey g c addr n = s.winKey g c addr n := by
  simp only [State.winKey, State.spadOff, State.f_of_regs h]

theorem State.accMode_of_regs (h : t.regs = s.regs) (g c a : Nat) : t.accMode g c a = s.accMode g c a := by
  simp only [State.accMode, State.f_of_regs h]

theorem State.accTot_of_accs (h : t.accs = s.accs) (g c a : Nat) : t.accTot g c a = s.accTot g c a := by
  rw [State.accTot, h]
  rfl

theorem State.accBad_of_badAcc (h : t.badAcc = s.badAcc) (g c a : Nat) : t.accBad g c a = s.accBad g c a := by
  rw [State.accBad, h]
  rfl

theorem State.poisoned_of_poison (h : t.poison = s.poison) (key n : Nat) : t.poisoned key n = s.poisoned key n := by
  rw [State.poisoned, h]
  rfl

end

/-! ### The queue -/

/-- An instruction that becomes o, in a state with the units of s. -/
theorem State.setMtx_becomes {s u : State} {g : Nat} (h : u.core g = s.core g) (o : MOp) : MtxBecomes s (u.setMtx g o) g o := by
  rw [MtxBecomes, State.setMtx, State.core_setCore_same, h]

theorem State.setMtx_only (s : State) (g : Nat) (o : MOp) : OnlyCore s (s.setMtx g o) g :=
  ⟨rfl, fun _ h => s.core_setCore_other _ h⟩

theorem State.setMtx_f (s : State) (g : Nat) (o : MOp) (x : Fld) (i j k : Nat) : (s.setMtx g o).f x i j k = s.f x i j k := rfl

section
variable (s : State) (g seq : Nat)

@[simp] theorem State.dropMtx_regs : (s.dropMtx g seq).regs = s.regs := State.setCore_regs ..
@[simp] theorem State.dropMtx_mem : (s.dropMtx g seq).mem = s.mem := State.setCore_mem ..
@[simp] theorem State.dropMtx_poison : (s.dropMtx g seq).poison = s.poison := State.setCore_poison ..
@[simp] theorem State.dropMtx_accs : (s.dropMtx g seq).accs = s.accs := State.setCore_accs ..
@[simp] theorem State.dropMtx_badAcc : (s.dropMtx g seq).badAcc = s.badAcc := State.setCore_badAcc ..

end

/-- What leaves the queue of u has left that of s, where both hold the same issue numbers. -/
theorem MtxGone.of_drop {s t u : State} {g : Nat} {o : MOp}
    (hseq : (u.core g).mtxq.map MOp.seq = (s.core g).mtxq.map MOp.seq) (ht : t.cores = (u.dropMtx g o.seq).cores) :
    MtxGone s t g o := by
  rw [MtxGone, State.core_of_cores ht, State.dropMtx, State.core_setCore_same, ← hseq, List.filter_map]
  rfl

/-! ### Faults -/

theorem State.raiseWho_mem (s : State) (g : Nat) (w : Who) (code : Nat) (addr : Option Nat) :
    (s.raiseWho g w code addr).mem = s.mem := s.raiseOp_mem ..

theorem State.raiseWho_cores (s : State) (g : Nat) (w : Who) (code : Nat) (addr : Option Nat) :
    (s.raiseWho g w code addr).cores = s.cores := s.raiseOp_cores ..

theorem State.raiseWho_blamed (s : State) (g : Nat) (w : Who) {code : Nat} (hc : code < 256) (addr : Option Nat) :
    Blamed (s.raiseWho g w code addr) g w code := s.raiseOp_blamed g w hc addr

/-- The registers that a fault writes (R88). -/
def faultRegs : List RegName := [.CORE_FAULT, .CORE_FAULT_ADDR, .CORE_EVENT, .CORE_CTX_HALT, .CORE_FAULT_EVENT]

/-- A field outside the records and events of a fault reads as before one. -/
theorem State.raiseAt_f (s : State) (g c code : Nat) (w : Option (Nat × Nat × Nat)) (addr : Option Nat) (x : Fld) (i j k : Nat)
    (h : x.reg ∉ faultRegs) : (s.raiseAt g c code w addr).f x i j k = s.f x i j k := by
  rw [State.f, State.raiseAt_reg, State.f]
  simp only [faultRegs, List.mem_cons, List.not_mem_nil, or_false, not_or, Reg.mk.injEq, not_and] at h ⊢
  obtain ⟨h1, h2, h3, h4, h5⟩ := h
  exact ⟨fun e => absurd e h1, fun e => absurd e h2, fun e => absurd e h3, fun e => absurd e h4, fun e => absurd e h5⟩

theorem State.raiseWho_f (s : State) (g : Nat) (w : Who) (code : Nat) (addr : Option Nat) (x : Fld) (i j k : Nat)
    (h : x.reg ∉ faultRegs) : (s.raiseWho g w code addr).f x i j k = s.f x i j k :=
  (s.raiseOp_f ..).trans (s.raiseAt_f _ _ _ _ _ x i j k h)

/-- An instruction that faults leaves the queue, names itself in the records and writes no memory. -/
theorem State.mtxFault_spec (s : State) (g : Nat) (o : MOp) {code : Nat} (hc : code < 256) :
    MtxGone s (s.mtxFault g o code) g o ∧ Blamed (s.mtxFault g o code) g o.who code ∧ (s.mtxFault g o code).mem = s.mem :=
  ⟨MtxGone.of_drop rfl (State.raiseWho_cores ..), State.raiseWho_blamed _ g o.who hc none, State.raiseWho_mem ..⟩

end Sys2Proof.Machine
end

section
namespace Sys2Proof.Machine

open Sys2Proof.Claims

/-! PROOFS. Parts of little-endian numbers (R11). -/

/-- Equal bytes give equal numbers. -/
theorem leNat_congr {s t : State} {key n : Nat} (h : ∀ i, i < n → t.mem.get (key + i) = s.mem.get (key + i)) :
    leNat t key n = leNat s key n := by
  rw [leNat_eq_readN, leNat_eq_readN]
  exact congrArg ofLE (List.map_congr_left fun i hi => h i (List.mem_range.mp hi))

theorem ofLE_append (as bs : List Byte) : ofLE (as ++ bs) = ofLE as + 256 ^ as.length * ofLE bs := by
  induction as with
  | nil => simp [ofLE]
  | cons a as ih =>
    rw [List.cons_append, ofLE, ofLE, ih, List.length_cons]
    ring

theorem Mem.read_append (m : Mem) (key a b : Nat) : m.read key (a + b) = m.read key a ++ m.read (key + a) b := by
  simp [Mem.read, List.range_add, Nat.add_assoc]

theorem leNat_add (s : State) (key a b : Nat) : leNat s key (a + b) = leNat s key a + 256 ^ a * leNat s (key + a) b := by
  simp only [leNat_eq_readN, State.readN, State.read, Mem.read_append, ofLE_append]
  simp [Mem.read]

/-- Bytes lo to lo + len - 1 of a number. -/
theorem leNat_part (s : State) (key lo len r : Nat) :
    leNat s key (lo + (len + r)) / 256 ^ lo % 256 ^ len = leNat s (key + lo) len := by
  rw [leNat_add, Nat.add_mul_div_left _ _ (by positivity), Nat.div_eq_of_lt (leNat_lt s key lo), Nat.zero_add, leNat_add,
    Nat.add_mul_mod_self_left, Nat.mod_eq_of_lt (leNat_lt s (key + lo) len)]

theorem ofLE_toLE (n v : Nat) : ofLE (toLE n v) = v % 256 ^ n := by
  induction n generalizing v with
  | zero => simp [toLE, ofLE, Nat.mod_one]
  | succ n ih => exact (congrArg (v % 256 + 256 * ·) (ih (v / 256))).trans (by rw [pow_succ', Nat.mod_mul])

/-- A number stored reads back. -/
theorem leNat_of_write {t : State} {m : Mem} {key n v : Nat} (h : t.mem = m.write key (toLE n v)) :
    leNat t key n = v % 256 ^ n := by
  have hread := State.read_write { t with mem := m } key (toLE n v)
  rw [toLE_length] at hread
  rw [leNat_eq_readN, State.readN, State.read, h, ← ofLE_toLE]
  exact congrArg ofLE hread

/-- A word of bytes read is the number stored there. -/
theorem wordAt_read (s : State) (key i r : Nat) : wordAt (s.read key (8 * i + (8 + r))) i = leNat s (key + 8 * i) 8 := by
  rw [wordAt, State.read, Mem.read_append, List.drop_left' (by simp [Mem.read]), Mem.read_append,
    List.take_left' (by simp [Mem.read]), leNat_eq_readN]
  rfl

end Sys2Proof.Machine
end

section
namespace Sys2Proof.Machine

open Sys2Proof.Claims

/-! PROOFS. MatrixInstructionsStart. -/

/-- What an instruction of the matrix queue does at its start, by operation. -/
def State.mtxStart (s : State) (g : Nat) (o : MOp) : State :=
  match o.dec.op with
  | .mma => s.startMma g o
  | .mwb => s.startMwb g o
  | .mlb => s.startMlb g o
  | .mle => s.startMle g o
  | .mtin => if s.fb F.MTX_TRV_NEXT_FIRST g o.who.c o.trv then s.mtxFault g o 0x09 else s.setMtx g { o with started := true }
  | _ => if s.fb F.MTX_TRV_NEXT_LAST g o.who.c o.trv then s.mtxFault g o 0x09 else s.beginMtx g o

theorem exec_matrixInstructionStart {s : State} {g : Nat} {o : MOp}
    (hfirst : (s.core g).mtxq.find? (fun x => !x.started) = some o) (hready : s.mtxReady g o = true) :
    exec (.matrixInstructionStart g) s = .next (s.mtxStart g o) := by
  show execMatrixInstructionStart g s = _
  rw [execMatrixInstructionStart, hfirst]
  dsimp only
  rw [hready, if_neg (by decide), State.mtxStart]
  cases o.dec.op <;> rfl

/-! ### MMA (R121, R125) -/

/-- The accepted pairs are those of Table MTX-1, in their modes. -/
theorem mmaPair_map_mode (a b : Nat) :
    (mmaPair a b).map Prod.snd = if pairAccepted a b then some (pairMode a) else none := by
  have row {n : Nat} (hacc : pairAccepted a b = true) (hn : pairMode a = n) :
      some n = if pairAccepted a b then some (pairMode a) else none := by rw [if_pos hacc, hn]
  unfold mmaPair
  simp only [Bool.and_eq_true, Bool.or_eq_true, decide_eq_true_eq, beq_iff_eq]
  by_cases hsmall : (5 ≤ a ∧ a ≤ 9) ∧ 5 ≤ b ∧ b ≤ 9
  · rw [if_pos hsmall]
    exact row (by simp [pairAccepted, hsmall]) (by rw [pairMode, if_neg (by omega), if_neg (by omega)])
  by_cases hint : (12 ≤ a ∧ a ≤ 14) ∧ 12 ≤ b ∧ b ≤ 14
  · rw [if_neg hsmall, if_pos hint]
    exact row (by simp [pairAccepted, hint]) (by rw [pairMode, if_neg (by omega), if_pos hint.1.1])
  by_cases hhalf : (a = 3 ∨ a = 4) ∧ (b = 3 ∨ b = 4)
  · rw [if_neg hsmall, if_neg hint, if_pos hhalf]
    exact row (by simp [pairAccepted, hhalf]) (by rw [pairMode, if_neg (by omega), if_neg (by omega)])
  by_cases hsingle : a = 1 ∧ b = 1
  · rw [if_neg hsmall, if_neg hint, if_neg hhalf, if_pos hsingle]
    exact row (by simp [pairAccepted, hsingle]) (by rw [pairMode, if_neg (by omega), if_neg (by omega)])
  by_cases hdouble : a = 0 ∧ b = 0
  · rw [if_neg hsmall, if_neg hint, if_neg hhalf, if_neg hsingle, if_pos hdouble]
    exact row (by simp [pairAccepted, hdouble]) (by rw [pairMode, if_pos hdouble.1])
  · rw [if_neg hsmall, if_neg hint, if_neg hhalf, if_neg hsingle, if_neg hdouble, if_neg (by simp [pairAccepted]; omega)]
    rfl

/-- The tiles of an MMA are operands. -/
theorem State.streamsOk_tiles (s : State) (g : Nat) {o : MOp} (hop : o.dec.op = .mma) :
    s.streamsOk g o.who.c o.tiles = true ↔
      TileOk s g o.who.c o.dec.f35 o.ra.toNat ∧ TileOk s g o.who.c o.bfmt o.rb.toNat := by
  simp [State.streamsOk, MOp.tiles, hop, TileOk]

/-- An MMA starts on an accepted pair of tiles of the window, in the mode of its accumulator. -/
abbrev MmaMayStart (s : State) (g : Nat) (o : MOp) : Prop :=
  pairAccepted o.dec.f35 o.bfmt = true ∧ TileOk s g o.who.c o.dec.f35 o.ra.toNat ∧ TileOk s g o.who.c o.bfmt o.rb.toNat ∧
    (o.clr = true ∨ s.accMode g o.who.c o.acc = 0 ∨ s.accMode g o.who.c o.acc = pairMode o.dec.f35)

theorem State.startMma_eq (s : State) (g : Nat) {o : MOp} (hop : o.dec.op = .mma) :
    (MmaMayStart s g o → s.startMma g o = s.setMtx g { o with started := true }) ∧
    (¬MmaMayStart s g o → s.startMma g o = s.mtxFault g o 0x09) := by
  have hpair := mmaPair_map_mode o.dec.f35 o.bfmt
  unfold State.startMma MmaMayStart
  rw [← and_assoc (a := TileOk s g o.who.c _ _), ← s.streamsOk_tiles g hop]
  dsimp only
  cases hm : mmaPair o.dec.f35 o.bfmt with
  | none =>
    have hno : pairAccepted o.dec.f35 o.bfmt = false := by simpa [hm] using hpair
    exact ⟨fun h => absurd h.1 (by simp [hno]), fun _ => rfl⟩
  | some e =>
    obtain ⟨hyes, hmode⟩ : pairAccepted o.dec.f35 o.bfmt = true ∧ e.2 = pairMode o.dec.f35 := by
      rw [hm] at hpair
      simpa using hpair
    dsimp only
    rw [hyes, ← hmode]
    refine ⟨fun ⟨_, htiles, hacc⟩ => if_neg ?_, fun h => if_pos ?_⟩
    · rcases hacc with h | h | h <;> simp [htiles, h]
    · simp only [true_and, not_and, not_or] at h
      by_cases htiles : s.streamsOk g o.who.c o.tiles = true
      · obtain ⟨hclr, h0, hne⟩ := h htiles
        simp [hclr, h0, hne]
      · simp [htiles]

/-! ### MWB and MTOUT (R131, R138, R304) -/

/-- The bucket of an instruction is that of the bracket that counts it. -/
theorem State.binOf_spec (s : State) (g : Nat) (o : MOp) : BinOf s g o (s.binOf g o) := by
  refine ⟨fun hb => by rw [State.binOf, hb], fun b hb => ?_⟩
  rw [State.binOf, hb]
  refine ⟨fun hopen hclose => if_pos ?_, fun hopen => if_neg ?_, fun e he hclose => if_neg ?_⟩
  · cases he : b.closeSeq with
    | none => simp [Bracket.counts, hopen, he]
    | some e => simp [Bracket.counts, hopen, he, hclose e he]
  · simp [Bracket.counts, Nat.not_lt.mpr hopen]
  · simp [Bracket.counts, he, Nat.not_lt.mpr hclose]

theorem State.beginMtx_measured (s : State) (g : Nat) (o : MOp) :
    OnlyCore s (s.beginMtx g o) g ∧
      ∃ bin, BinOf s g o bin ∧ MtxBecomes s (s.beginMtx g o) g { o with started := true, bin := bin } :=
  ⟨s.setMtx_only g _, s.binOf g o, s.binOf_spec g o, State.setMtx_becomes rfl _⟩

/-! ### MLB and MLE (R143, R145) -/

/-- An MLB on a well-formed descriptor opens the bracket of its class. -/
theorem State.startMlb_opens {s : State} {g : Nat} {o : MOp} {key : Nat} (hst : s.f F.MTX_LAYER_STATE g o.who.c o.cls = 0)
    (hkey : s.operandKey g o.who.c o.ra.toNat 64 = some key) (hpoison : s.poisoned key 64 = false)
    (hok : layerOk (s.read key 64) = true) :
    MtxStarted s (s.startMlb g o) g o ∧ (s.startMlb g o).f F.MTX_LAYER_STATE g o.who.c o.cls = 1 ∧
      (s.startMlb g o).f F.MTX_LAYER_LAYER_ID g o.who.c o.cls = leNat s key 2 ∧ (s.startMlb g o).mem = s.mem := by
  have hw : wordAt (s.read key 64) 0 % 2 ^ 16 = leNat s key 2 := by
    rw [show wordAt (s.read key 64) 0 = leNat s key 8 from wordAt_read s key 0 56]
    simpa using leNat_part s key 0 2 6
  rw [State.startMlb]
  dsimp only
  rw [hst, if_neg (by decide), if_neg (by decide), hkey]
  dsimp only
  rw [hpoison, hok, if_neg (by decide), if_neg (by decide)]
  refine ⟨State.setMtx_becomes (by simp) _, ?_, ?_, rfl⟩
  · rw [State.setMtx_f, State.f_setF_bits _ _ _ _ _ _ _ _ _ _ (by decide),
      State.f_setF_bits _ _ _ _ _ _ _ _ _ _ (by decide), State.f_setF_same _ _ _ _ _ _ (by decide)]
    rfl
  · rw [State.setMtx_f, State.f_setF_same _ _ _ _ _ _ (by decide)]
    exact hw

/-- An MLE of an open bracket has it decide. -/
theorem State.startMle_decides {s : State} {g : Nat} {o : MOp} {b : Bracket} (hst : s.f F.MTX_LAYER_STATE g o.who.c o.cls = 1)
    (hb : s.bracket g o.who.c o.cls = some b) :
    MtxStarted s (s.startMle g o) g o ∧ (s.startMle g o).f F.MTX_LAYER_STATE g o.who.c o.cls = 2 ∧
      (s.startMle g o).mem = s.mem := by
  simp only [State.startMle, hst, hb]
  refine ⟨State.setMtx_becomes (by simp) _, ?_, rfl⟩
  rw [State.setMtx_f, State.f_setF_same _ _ _ _ _ _ (by decide)]
  rfl

/-- Settles O16: the start by operation, and what a start or a fault changes. -/
theorem matrixInstructionsStart : Obligations.MatrixInstructionsStart := by
  intro s g o hfirst hready
  refine ⟨_, exec_matrixInstructionStart hfirst hready, ?_⟩
  intro c started measured fault
  have hstart : s.mtxStart g o = s.setMtx g { o with started := true } → started := fun h =>
    show OnlyCore s _ g ∧ MtxStarted s _ g o from h ▸ ⟨s.setMtx_only g _, State.setMtx_becomes rfl _⟩
  have hmeasured : s.mtxStart g o = s.beginMtx g o → measured := fun h =>
    show OnlyCore s _ g ∧ ∃ bin, _ from h ▸ s.beginMtx_measured g o
  have hfault : s.mtxStart g o = s.mtxFault g o 0x09 → fault := fun h =>
    show MtxGone s _ g o ∧ _ from h ▸ s.mtxFault_spec g o (by decide)
  refine ⟨fun hop => ?mma, fun hop => ?mwb, fun hop => ?mtin, fun hop => ?mtout, fun hop hst => ?mlb, fun hop => ?mle⟩ <;>
    simp only [State.mtxStart, hop] at hstart hmeasured hfault ⊢
  case mma =>
    obtain ⟨hok, hbad⟩ := s.startMma_eq g hop
    exact ⟨fun h => hstart (hok h), fun h => hfault (hbad h)⟩
  case mwb =>
    have hiff : (o.dec.f35 ≠ 2 ∧ TileOk s g c o.dec.f35 o.ra.toNat) ↔
        ¬(o.dec.f35 = 2 ∨ (s.operandKey g c o.ra.toNat (tileBytes o.dec.f35)).isNone) := by
      simp [TileOk, Option.isSome_iff_ne_none]
    rw [hiff, not_not]
    exact ⟨fun h => hmeasured (if_neg h), fun h => hfault (if_pos h)⟩
  case mtin => exact ⟨fun h => hstart (if_neg (by simp [show s.fb _ g o.who.c _ = _ from h])), fun h => hfault (if_pos h)⟩
  case mtout => exact ⟨fun h => hmeasured (if_neg (by simp [show s.fb _ g o.who.c _ = _ from h])), fun h => hfault (if_pos h)⟩
  case mlb =>
    refine ⟨fun key hkey hpoison hok => State.startMlb_opens hst hkey hpoison hok, fun hkey => hfault ?_⟩
    simp [State.startMlb, hst, hkey, c]
  case mle =>
    refine ⟨fun hst hb => ?_, fun hst => hfault ?_⟩
    · obtain ⟨b, hb⟩ := Option.ne_none_iff_exists'.mp hb
      exact State.startMle_decides hst hb
    · simp [State.startMle, hst, c]

end Sys2Proof.Machine
end

section
namespace Sys2Proof.Machine

open Sys2Proof.Claims

/-! PROOFS. What an accumulator, the flags and the queue hold once an instruction of the matrix engine completes (R124, R129). -/

theorem exec_matrixInstructionComplete {s : State} {g n : Nat} {o : MOp} (hn : (s.core g).mtxq[n]? = some o)
    (hstarted : o.started = true) :
    (o.dec.op = .mma → exec (.matrixInstructionComplete g n) s = .next (s.mmaComplete g o)) ∧
    (o.dec.op = .mwb → exec (.matrixInstructionComplete g n) s = .next (s.mwbComplete g o)) ∧
    (o.dec.op = .mtin → exec (.matrixInstructionComplete g n) s = .next (s.mtinComplete g o)) ∧
    (o.dec.op = .mtout → exec (.matrixInstructionComplete g n) s = .next (s.mtoutComplete g o)) := by
  have hexec : exec (.matrixInstructionComplete g n) s = execMatrixInstructionComplete g n s := rfl
  rw [hexec, execMatrixInstructionComplete, hn]
  dsimp only
  rw [hstarted, if_neg (by decide)]
  refine ⟨fun h => ?_, fun h => ?_, fun h => ?_, fun h => ?_⟩ <;> rw [h]

/-! ### Accumulators (R124) -/

section
variable (s : State) (g c a : Nat) {mode : Nat} (tot : SMap Nat Nat)

theorem State.setAcc_rest (mode : Nat) : s.setAcc g c a mode tot =
    { s with regs := (s.setAcc g c a mode tot).regs, accs := (s.setAcc g c a mode tot).accs
             badAcc := s.badAcc.filter (fun e => e ≠ (g, c, a)) } := by
  unfold State.setAcc
  dsimp only
  split <;> rfl

theorem State.setAcc_cores (mode : Nat) : (s.setAcc g c a mode tot).cores = s.cores := by rw [State.setAcc_rest]
theorem State.setAcc_mem (mode : Nat) : (s.setAcc g c a mode tot).mem = s.mem := by rw [State.setAcc_rest]
theorem State.setAcc_poison (mode : Nat) : (s.setAcc g c a mode tot).poison = s.poison := by rw [State.setAcc_rest]
theorem State.setAcc_badAcc (mode : Nat) : (s.setAcc g c a mode tot).badAcc = s.badAcc.filter (fun e => e ≠ (g, c, a)) := by
  rw [State.setAcc_rest]

theorem State.setAcc_tot (mode : Nat) : (s.setAcc g c a mode tot).accTot g c a = if mode = 0 then [] else tot := by
  have hread : SMap.get [] (SMap.set (fun k => (4 * k.1 + k.2.1) * 2 + k.2.2) [] s.accs (g, c, a)
      (if mode = 0 then [] else tot)) (g, c, a) = if mode = 0 then [] else tot := SMap.get_set_same ..
  unfold State.setAcc
  dsimp only
  split <;> exact hread

theorem State.setAcc_mode (h : mode < 4) : (s.setAcc g c a mode tot).accMode g c a = mode := by
  unfold State.setAcc State.accMode
  dsimp only
  split
  · exact (State.f_setF_same _ _ _ _ _ _ (by decide)).trans (Nat.mod_eq_of_lt h)
  · exact (State.f_setF_same _ _ _ _ _ _ (by decide)).trans (Nat.mod_eq_of_lt h)

/-- A write of an accumulator writes its mode in MTX_ACC_STATE, and no other register. -/
theorem State.setAcc_reg (mode : Nat) {r : Reg} (h : r.name ≠ .MTX_ACC_STATE) : (s.setAcc g c a mode tot).reg r = s.reg r := by
  have hne : r ≠ ⟨.MTX_ACC_STATE, g, c, 0⟩ := fun e => h (congrArg Reg.name e)
  unfold State.setAcc
  dsimp only
  split
  · exact State.reg_setF_other _ _ _ _ _ _ hne
  · exact State.reg_setF_other _ _ _ _ _ _ hne

theorem State.setAcc_f (mode : Nat) (x : Fld) (i j k : Nat) (h : x.reg ≠ .MTX_ACC_STATE) :
    (s.setAcc g c a mode tot).f x i j k = s.f x i j k := by
  rw [State.f, State.setAcc_reg _ _ _ _ _ _ (r := ⟨x.reg, i, j, k⟩) h]
  rfl

end

/-- The mode of an accumulator is a field of MTX_ACC_STATE. -/
theorem State.accMode_congr {s t : State} (g c a : Nat)
    (h : t.reg ⟨.MTX_ACC_STATE, g, c, 0⟩ = s.reg ⟨.MTX_ACC_STATE, g, c, 0⟩) :
    t.accMode g c a = s.accMode g c a := by
  simp only [State.accMode, State.f, h]

theorem State.progress_accTot (s : State) (g c g' c' a : Nat) : (s.progress g c).accTot g' c' a = s.accTot g' c' a := rfl
theorem State.progress_accMode (s : State) (g c g' c' a : Nat) : (s.progress g c).accMode g' c' a = s.accMode g' c' a := rfl

theorem State.accBad_iff (s : State) (g c a : Nat) : s.accBad g c a = true ↔ (g, c, a) ∈ s.badAcc := by
  simp [State.accBad]

/-! ### Flags (R129, R144) -/

section
variable (s : State) (g : Nat) (o : MOp) (fl : FFlags)

/-- The OVF of a matrix instruction sets the flag of its bracket, or nothing. -/
theorem State.bracketOvf_matrix (c cls seq : Nat) : s.bracketOvf g c cls seq false = s ∨
    s.bracketOvf g c cls seq false = s.setF F.MTX_LAYER_FLAG 1 g c cls := by
  unfold State.bracketOvf
  cases s.bracket g c cls with
  | none => exact .inl rfl
  | some b =>
    dsimp only
    split
    · exact .inr rfl
    · exact .inl rfl

theorem State.mtxFlags_eq : s.mtxFlags g o fl = s.mtxRaised g o.who.c fl ∨
    s.mtxFlags g o fl = (s.mtxRaised g o.who.c fl).setF F.MTX_LAYER_FLAG 1 g o.who.c o.cls := by
  unfold State.mtxFlags
  dsimp only
  split
  · exact State.bracketOvf_matrix ..
  · exact .inl rfl

theorem State.mtxFlags_rest : s.mtxFlags g o fl = { s with regs := (s.mtxFlags g o fl).regs } := by
  obtain h | h := s.mtxFlags_eq g o fl <;> rw [h] <;> rfl

theorem State.mtxFlags_cores : (s.mtxFlags g o fl).cores = s.cores := (congrArg State.cores (s.mtxFlags_rest g o fl) :)
theorem State.mtxFlags_mem : (s.mtxFlags g o fl).mem = s.mem := (congrArg State.mem (s.mtxFlags_rest g o fl) :)
theorem State.mtxFlags_poison : (s.mtxFlags g o fl).poison = s.poison := (congrArg State.poison (s.mtxFlags_rest g o fl) :)
theorem State.mtxFlags_badAcc : (s.mtxFlags g o fl).badAcc = s.badAcc := (congrArg State.badAcc (s.mtxFlags_rest g o fl) :)

theorem State.mtxFlags_accTot (c a : Nat) : (s.mtxFlags g o fl).accTot g c a = s.accTot g c a := by
  rw [State.mtxFlags_rest]
  rfl

/-- The flags enter MTX_FLAGS and the bracket, and no other register. -/
theorem State.mtxFlags_reg {r : Reg} (hflags : r.name ≠ .MTX_FLAGS) (hlayer : r.name ≠ .MTX_LAYER) :
    (s.mtxFlags g o fl).reg r = s.reg r := by
  have hraised : (s.mtxRaised g o.who.c fl).reg r = s.reg r := s.reg_setReg_other _ fun e => hflags (congrArg Reg.name e)
  obtain h | h := s.mtxFlags_eq g o fl <;> rw [h]
  · exact hraised
  · exact (State.reg_setF_other _ _ _ _ _ _ fun e => hlayer (congrArg Reg.name e)).trans hraised

theorem State.mtxFlags_accMode (c a : Nat) : (s.mtxFlags g o fl).accMode g c a = s.accMode g c a :=
  State.accMode_congr g c a (s.mtxFlags_reg g o fl (by simp) (by simp))

theorem State.mtxFlags_flags : (s.mtxFlags g o fl).reg ⟨.MTX_FLAGS, g, o.who.c, 0⟩ =
    s.reg ⟨.MTX_FLAGS, g, o.who.c, 0⟩ ||| BitVec.ofNat 64 fl.toNat := by
  have hraised : (s.mtxRaised g o.who.c fl).reg ⟨.MTX_FLAGS, g, o.who.c, 0⟩ = _ := s.reg_setReg_same _ _
  obtain h | h := s.mtxFlags_eq g o fl <;> rw [h]
  · exact hraised
  · exact (State.reg_setF_other _ _ _ _ _ _ (by simp)).trans hraised

end
end Sys2Proof.Machine
end

section
namespace Sys2Proof.Machine

open Sys2Proof.Claims

/-! PROOFS. MmaCompletes. -/

/-- Bytes that no other writer has changed read as they stand, whatever the free choice (R134). -/
theorem State.raced_of_unraced {s : State} {snap : Mem} {key n : Nat} (h : Unraced s snap key n) :
    s.raced snap key n = (s.mem.read key n, s.useFree (ceilDiv n 64)) := by
  refine congrArg (·, s.useFree (ceilDiv n 64)) (List.map_congr_left fun i hi => ?_)
  dsimp only
  rw [h i (List.mem_range.mp hi), if_pos rfl, ite_self]

theorem State.tileElems_of_unraced {s u : State} {g f addr key : Nat} {o : MOp} (hmem : u.mem = s.mem) (hregs : u.regs = s.regs)
    (hkey : s.winKey g o.who.c addr (tileBytes f) = some key) (h : Unraced s o.snap key (tileBytes f)) :
    u.tileElems g o f addr = (tileAt s f key, u.useFree (ceilDiv (tileBytes f) 64)) := by
  rw [State.tileElems, State.winKey_of_regs hregs, hkey]
  dsimp only
  rw [State.raced_of_unraced (s := u) (by rw [Unraced, hmem]; exact h), hmem]
  rfl

/-- The ranges of an MMA's tiles. -/
theorem State.keysOf_tiles {s u : State} {g ka kb : Nat} {o : MOp} (hregs : u.regs = s.regs) (hop : o.dec.op = .mma)
    (ha : s.winKey g o.who.c o.ra.toNat (tileBytes o.dec.f35) = some ka)
    (hb : s.winKey g o.who.c o.rb.toNat (tileBytes o.bfmt) = some kb) :
    u.keysOf g o.who.c o.tiles = [(ka, tileBytes o.dec.f35), (kb, tileBytes o.bfmt)] := by
  simp [State.keysOf, MOp.tiles, hop, State.winKey_of_regs hregs, ha, hb]

theorem mmaPair_mode {a b chunk mode : Nat} (h : mmaPair a b = some (chunk, mode)) : 0 < mode ∧ mode < 4 := by
  have hm := mmaPair_map_mode a b
  rw [h, Option.map_some] at hm
  split at hm
  · obtain rfl : mode = pairMode a := by simpa using hm
    unfold pairMode
    split_ifs <;> decide
  · cases hm

/-- The total that an MMA adds to, by element: none where its accumulator is empty or cleared. -/
def State.mmaOld (s : State) (g : Nat) (o : MOp) (p : Nat) : Option Nat :=
  if o.clr = true ∨ s.accMode g o.who.c o.acc = 0 then none else some ((denseTot (s.accTot g o.who.c o.acc)).getD p 0)

/-- The product of an MMA's tiles over what its accumulator held, and its flags (R127, R129). -/
def State.mmaResult (s : State) (g : Nat) (o : MOp) (mode chunk ka kb : Nat) : List Nat × FFlags :=
  mmaTile o.dec.f35 o.bfmt (decide (o.dec.field 30 1 = 1)) (decide (o.dec.field 29 1 = 1)) (decide (o.dec.field 26 1 = 1))
    mode chunk (s.mmaOld g o) (tileAt s o.dec.f35 ka) (tileAt s o.bfmt kb)

section
variable {s : State} {g ka kb : Nat} {o : MOp} (hop : o.dec.op = .mma)
  (ha : s.winKey g o.who.c o.ra.toNat (tileBytes o.dec.f35) = some ka)
  (hb : s.winKey g o.who.c o.rb.toNat (tileBytes o.bfmt) = some kb)
include hop ha hb

/-- A poisoned tile, or a total with an uncorrectable error, ends an MMA. -/
theorem State.mmaComplete_fault (h : s.poisoned ka (tileBytes o.dec.f35) = true ∨ s.poisoned kb (tileBytes o.bfmt) = true ∨
      (o.clr = false ∧ (g, o.who.c, o.acc) ∈ s.badAcc)) :
    s.mmaComplete g o = (s.dropMtx g o.seq).raiseWho g o.who 0x0D := by
  have hkeys := State.keysOf_tiles (s.dropMtx_regs g o.seq) hop ha hb
  have hany : [(ka, tileBytes o.dec.f35), (kb, tileBytes o.bfmt)].any (fun r => (s.dropMtx g o.seq).poisoned r.1 r.2) =
      (s.poisoned ka (tileBytes o.dec.f35) || s.poisoned kb (tileBytes o.bfmt)) := by
    simp only [List.any_cons, List.any_nil, Bool.or_false, State.poisoned_of_poison (s.dropMtx_poison g o.seq)]
  have hbad := State.accBad_of_badAcc (s.dropMtx_badAcc g o.seq) g o.who.c o.acc
  rw [State.mmaComplete]
  dsimp only
  rw [hkeys, hany, hbad]
  by_cases hp : (s.poisoned ka (tileBytes o.dec.f35) || s.poisoned kb (tileBytes o.bfmt)) = true
  · exact if_pos hp
  · obtain ⟨hclr, hacc⟩ := (or_assoc.mpr h).resolve_left (by simpa using hp)
    rw [if_neg hp, if_pos (by rw [hclr, (s.accBad_iff ..).mpr hacc]; rfl)]

/-- Otherwise it writes the product to the accumulator. -/
theorem State.mmaComplete_adds {chunk mode : Nat} (hpair : mmaPair o.dec.f35 o.bfmt = some (chunk, mode))
    (hra : Unraced s o.snap ka (tileBytes o.dec.f35)) (hrb : Unraced s o.snap kb (tileBytes o.bfmt))
    (hpa : s.poisoned ka (tileBytes o.dec.f35) = false) (hpb : s.poisoned kb (tileBytes o.bfmt) = false)
    (hacc : o.clr = true ∨ (g, o.who.c, o.acc) ∉ s.badAcc) :
    ∃ m n, s.mmaComplete g o = ((((((s.dropMtx g o.seq).useFree m).useFree n).setAcc g o.who.c o.acc mode
      (sparseTot (s.mmaResult g o mode chunk ka kb).1)).mtxFlags g o (s.mmaResult g o mode chunk ka kb).2).progress
        g o.who.c) := by
  have hkeys := State.keysOf_tiles (s.dropMtx_regs g o.seq) hop ha hb
  have hany : [(ka, tileBytes o.dec.f35), (kb, tileBytes o.bfmt)].any (fun r => (s.dropMtx g o.seq).poisoned r.1 r.2) =
      false := by
    simp only [List.any_cons, List.any_nil, State.poisoned_of_poison (s.dropMtx_poison g o.seq), hpa, hpb, Bool.or_self]
  have hbad : (!o.clr && (s.dropMtx g o.seq).accBad g o.who.c o.acc) = false := by
    rw [State.accBad_of_badAcc (s.dropMtx_badAcc g o.seq), ← Bool.not_eq_true, Bool.and_eq_true, Bool.not_eq_true',
      State.accBad_iff]
    rcases hacc with h | h <;> simp [h]
  have hold (u : State) (hregs : u.regs = s.regs) (haccs : u.accs = s.accs) :
      (fun p => if (o.clr || u.accMode g o.who.c o.acc == 0) = true then none
        else some ((denseTot (u.accTot g o.who.c o.acc)).getD p 0)) = s.mmaOld g o := by
    funext p
    simp only [State.accMode_of_regs hregs, State.accTot_of_accs haccs, Bool.or_eq_true, beq_iff_eq, State.mmaOld]
  refine ⟨ceilDiv (tileBytes o.dec.f35) 64, ceilDiv (tileBytes o.bfmt) 64, ?_⟩
  rw [State.mmaComplete]
  dsimp only
  rw [hkeys, hany, if_neg (by decide), hbad, if_neg (by decide), hpair]
  dsimp only
  rw [State.tileElems_of_unraced (s.dropMtx_mem g o.seq) (s.dropMtx_regs g o.seq) ha hra]
  dsimp only
  rw [State.tileElems_of_unraced (u := (s.dropMtx g o.seq).useFree _) (by simp) (by simp) hb hrb]
  dsimp only
  rw [hold (((s.dropMtx g o.seq).useFree _).useFree _) (by simp) (by simp)]
  rfl

end

/-- Settles O17: a fault, or the product written, by mmaComplete_fault and mmaComplete_adds. -/
theorem mmaCompletes : Obligations.MmaCompletes := by
  intro s g n ka kb chunk mode o hn hstarted hop hpair ha hb hra hrb
  obtain ⟨hexec, -, -, -⟩ := exec_matrixInstructionComplete hn hstarted
  refine ⟨_, hexec hop, fun h => ?fault, fun hpa hpb hacc => ?adds⟩
  case fault =>
    rw [State.mmaComplete_fault hop ha hb h]
    exact ⟨MtxGone.of_drop rfl (State.raiseWho_cores ..), State.raiseWho_blamed _ g o.who (by decide) none⟩
  case adds =>
    obtain ⟨hpos, hlt⟩ := mmaPair_mode hpair
    obtain ⟨m, k, he⟩ := State.mmaComplete_adds hop ha hb hpair hra hrb hpa hpb hacc
    show MtxGone s _ g o ∧ _ ∧ _ ∧ _ = sparseTot (s.mmaResult g o mode chunk ka kb).1 ∧ _ ∧ _ ∧
      _ = _ ||| BitVec.ofNat 64 (s.mmaResult g o mode chunk ka kb).2.toNat
    generalize s.mmaResult g o mode chunk ka kb = r at he ⊢
    rw [he]
    refine ⟨MtxGone.of_drop rfl ?_, ?_, ?_, ?_, ?_, ?_, ?_⟩
    · rw [State.progress_cores, State.mtxFlags_cores, State.setAcc_cores, State.useFree_cores, State.useFree_cores]
    · rw [State.progress_mem, State.mtxFlags_mem, State.setAcc_mem, State.useFree_mem, State.useFree_mem, State.dropMtx_mem]
    · rw [State.progress_poison, State.mtxFlags_poison, State.setAcc_poison, State.useFree_poison, State.useFree_poison,
        State.dropMtx_poison]
    · rw [State.progress_accTot, State.mtxFlags_accTot, State.setAcc_tot, if_neg hpos.ne']
    · rw [State.progress_accMode, State.mtxFlags_accMode, State.setAcc_mode _ _ _ _ _ hlt]
    · rw [State.progress_badAcc, State.mtxFlags_badAcc, State.setAcc_badAcc]
      simp
    · rw [State.progress_reg, State.mtxFlags_flags, State.setAcc_reg _ _ _ _ _ _ (by simp), State.useFree_reg,
        State.useFree_reg, State.reg, State.dropMtx_regs, State.reg]

end Sys2Proof.Machine
end

section
namespace Sys2Proof.Machine

open Sys2Proof.Claims

/-! PROOFS. MwbWritesItsTile. -/

/-! ### The matrix engine's stores (R133) -/

section
variable (s : State) (g key : Nat) (bs : List Byte)

theorem State.matrixWrite_mem : (s.matrixWrite g key bs).mem = s.mem.write key bs := rfl
theorem State.matrixWrite_regs : (s.matrixWrite g key bs).regs = s.regs := rfl
theorem State.matrixWrite_accs : (s.matrixWrite g key bs).accs = s.accs := rfl
theorem State.matrixWrite_accSrc : (s.matrixWrite g key bs).accSrc = s.accSrc := rfl
theorem State.matrixWrite_ctxs : (s.matrixWrite g key bs).ctxs = s.ctxs := rfl
theorem State.matrixWrite_bracket (h c cls : Nat) : (s.matrixWrite g key bs).bracket h c cls = s.bracket h c cls := rfl
theorem State.matrixWrite_f (x : Fld) (i j k : Nat) : (s.matrixWrite g key bs).f x i j k = s.f x i j k := rfl

/-- A store of the matrix engine changes what waiting instructions have seen, and not the order of the queue. -/
theorem State.matrixWrite_seqs : ((s.matrixWrite g key bs).core g).mtxq.map MOp.seq = (s.core g).mtxq.map MOp.seq := by
  rw [State.matrixWrite, State.patchSnaps, State.core_setCore_same, List.map_map]
  refine List.map_congr_left fun o _ => ?_
  dsimp only [Function.comp]
  split <;> rfl

end

/-! ### The write-back (R131) -/

/-- The bytes of an MWB's tile: every element the total times the combined scale, rounded once. -/
def State.mwbBytes (s : State) (g : Nat) (o : MOp) : List Byte :=
  packElems (fmt o.dec.f35).width (mwbTile (s.accMode g o.who.c o.acc) (fun p => (denseTot (s.accTot g o.who.c o.acc)).getD p 0)
    (scaleProd (o.rb.toNat % 2 ^ 32) (o.rb.toNat / 2 ^ 32)).1 o.dec.f35 o.dec.f32 (o.dec.field 28 4 + 1) o.seed o.tag).1

/-- Where no traverse was loaded into the accumulator, the statistics of R304 measure nothing. -/
theorem State.gnsLast_unmeasured {s : State} {g : Nat} {o : MOp} (h : SMap.get none s.accSrc (g, o.who.c, o.acc) = none) :
    s.gnsLast g o = s := by
  rw [State.gnsLast, h]

/-- The state after an MWB's store, its accumulator kept or emptied. -/
def State.mwbStored (s : State) (g key : Nat) (o : MOp) : State :=
  let w := s.matrixWrite g key (s.mwbBytes g o)
  if o.keep then w else w.setAcc g o.who.c o.acc 0 []

theorem State.mwbComplete_stores {s : State} {g key : Nat} {o : MOp} (hgood : (g, o.who.c, o.acc) ∉ s.badAcc)
    (hkey : s.winKey g o.who.c o.ra.toNat (tileBytes o.dec.f35) = some key)
    (hsrc : SMap.get none s.accSrc (g, o.who.c, o.acc) = none) :
    ∃ fl, s.mwbComplete g o = (((s.mwbStored g key o).mtxFlags g o fl).dropMtx g o.seq).progress g o.who.c := by
  have hacc : s.accBad g o.who.c o.acc = false := by rwa [← Bool.not_eq_true, State.accBad_iff]
  have hgns : (s.matrixWrite g key (s.mwbBytes g o)).gnsLast g o = s.matrixWrite g key (s.mwbBytes g o) :=
    State.gnsLast_unmeasured (by rw [State.matrixWrite_accSrc, hsrc])
  rw [State.mwbComplete]
  dsimp only
  rw [hacc, if_neg (by decide), hkey]
  dsimp only
  rw [State.mwbBytes] at hgns
  rw [hgns, State.mwbStored, State.mwbBytes]
  exact ⟨_, rfl⟩

section
variable (s : State) (g key : Nat) (o : MOp)

theorem State.mwbStored_mem : (s.mwbStored g key o).mem = s.mem.write key (s.mwbBytes g o) := by
  unfold State.mwbStored
  dsimp only
  split
  · rfl
  · rw [State.setAcc_rest]
    rfl

theorem State.mwbStored_cores : (s.mwbStored g key o).cores = (s.matrixWrite g key (s.mwbBytes g o)).cores := by
  unfold State.mwbStored
  dsimp only
  split
  · rfl
  · rw [State.setAcc_rest]

theorem State.mwbStored_keep (h : o.keep = true) : s.mwbStored g key o = s.matrixWrite g key (s.mwbBytes g o) := if_pos h

theorem State.mwbStored_empty (h : o.keep = false) :
    s.mwbStored g key o = (s.matrixWrite g key (s.mwbBytes g o)).setAcc g o.who.c o.acc 0 [] := if_neg (by simp [h])

end

/-- Settles O18: a fault, or mwbComplete_stores. -/
theorem mwbWritesItsTile : Obligations.MwbWritesItsTile := by
  intro s g n key o hn hstarted hop hkey hsrc
  obtain ⟨-, hexec, -, -⟩ := exec_matrixInstructionComplete hn hstarted
  refine ⟨_, hexec hop, ?_⟩
  intro c a tot scale es bs
  by_cases hbad : (g, c, a) ∈ s.badAcc
  · have hfault : s.mwbComplete g o = s.mtxFault g o 0x0D := if_pos ((s.accBad_iff g c a).mpr hbad)
    obtain ⟨hgone, hblamed, hmem⟩ := s.mtxFault_spec g o (code := 0x0D) (by decide)
    rw [hfault]
    exact ⟨hgone, fun _ => ⟨hblamed, hmem⟩, fun h => absurd hbad h⟩
  · obtain ⟨fl, he⟩ := State.mwbComplete_stores hbad hkey hsrc
    have hbs : s.mwbBytes g o = bs := rfl
    have hstored := hbs ▸ s.mwbStored_mem g key o
    have hmem : (s.mwbComplete g o).mem = s.mem.write key bs := by
      rw [he, State.progress_mem, State.dropMtx_mem, State.mtxFlags_mem, hstored]
    have htot : (s.mwbComplete g o).accTot g c a = (s.mwbStored g key o).accTot g c a := by
      rw [he, State.progress_accTot, State.accTot_of_accs (State.dropMtx_accs ..), State.mtxFlags_accTot]
    have hmode : (s.mwbComplete g o).accMode g c a = (s.mwbStored g key o).accMode g c a := by
      rw [he, State.progress_accMode, State.accMode_of_regs (State.dropMtx_regs ..), State.mtxFlags_accMode]
    have hseqs : (((s.mwbStored g key o).mtxFlags g o fl).core g).mtxq.map MOp.seq = (s.core g).mtxq.map MOp.seq := by
      rw [State.core_of_cores ((State.mtxFlags_cores ..).trans (s.mwbStored_cores g key o)), State.matrixWrite_seqs]
    refine ⟨MtxGone.of_drop hseqs (by rw [he, State.progress_cores]), fun h => absurd h hbad,
      fun _ => ⟨fun i hi => ?_, fun x hx => ?_, fun hk => ?_, fun hk => ?_⟩⟩
    · rw [hmem, mem_get_write_same _ _ _ _ hi, List.getD_eq_getElem _ _ hi]
    · rw [hmem, mem_get_write_other _ _ _ _ hx]
    · rw [htot, hmode, State.mwbStored_keep _ _ _ _ hk]
      exact ⟨State.accTot_of_accs (State.matrixWrite_accs ..) .., State.accMode_of_regs (State.matrixWrite_regs ..) ..⟩
    · rw [htot, hmode, State.mwbStored_empty _ _ _ _ hk]
      exact ⟨State.setAcc_tot .., State.setAcc_mode _ _ _ _ _ (by decide)⟩

end Sys2Proof.Machine
end

section
namespace Sys2Proof.Machine

open Sys2Proof.Claims

/-! PROOFS. What a traverse entry reads of the state, and an area in memory (R136, R137). -/

section
variable {s t : State}

theorem State.operandKey_of_regs (h : t.regs = s.regs) (g c addr n : Nat) :
    t.operandKey g c addr n = s.operandKey g c addr n := by
  simp only [State.operandKey, State.winKey_of_regs h]

theorem State.landKey_of_regs (h : t.regs = s.regs) (g c v : Nat) : t.landKey g c v = s.landKey g c v := by
  simp only [State.landKey, State.areaKey, State.f_of_regs h, State.operandKey_of_regs h]

theorem State.occupied_of_ctxs (h : t.ctxs = s.ctxs) (g c : Nat) : t.occupied g c = s.occupied g c := by
  rw [State.occupied, State.ctx, h]
  rfl

end

section
variable (s : State) (g c v : Nat) (x : Hop)

theorem State.setHop_regs : (s.setHop g c v x).regs = s.regs := rfl
theorem State.setHop_accs : (s.setHop g c v x).accs = s.accs := rfl

end

theorem State.putArea_regs (s : State) (key : Nat) (area : Mem) : (s.putArea key area).regs = s.regs := rfl

/-! ### Areas stored -/

theorem SMap.get_filter_keys {κ ν : Type} [DecidableEq κ] (d : ν) (m : SMap κ ν) (p : κ → Bool) (k : κ) :
    SMap.get d (m.filter (fun e => p e.1)) k = if p k then SMap.get d m k else d := by
  induction m with
  | nil => simp [SMap.get]
  | cons e m ih =>
    by_cases hk : e.1 = k
    · subst hk
      by_cases hp : p e.1 = true
      · simp [SMap.get, hp]
      · simp [hp, ih]
    · by_cases hp : p e.1 = true
      · simp [SMap.get, hp, hk, ih]
      · simp [SMap.get, hp, hk, ih]

/-- Cells stored at offsets from a key: of several at one offset the first counts. -/
theorem Mem.get_foldr_set (m : Mem) (key i : Nat) (l : Mem) :
    (l.foldr (fun e m => Mem.set m (key + e.1) e.2) m).get (key + i) = SMap.get (m.get (key + i)) l i := by
  induction l with
  | nil => rfl
  | cons e l ih =>
    obtain ⟨j, b⟩ := e
    rw [List.foldr_cons, SMap.get]
    by_cases hj : j = i
    · subst hj
      rw [if_pos rfl, mem_get_set_same]
    · rw [if_neg hj, mem_get_set_other _ _ (by omega), ih]

theorem Mem.get_foldr_set_below (m : Mem) {key x : Nat} (h : x < key) (l : Mem) :
    (l.foldr (fun e m => Mem.set m (key + e.1) e.2) m).get x = m.get x := by
  induction l with
  | nil => rfl
  | cons e l ih => rw [List.foldr_cons, mem_get_set_other _ _ (by omega), ih]

/-- An area stored reads back. -/
theorem State.putArea_get (s : State) (key : Nat) (area : Mem) {i : Nat} (h : i < areaSize) :
    (s.putArea key area).mem.get (key + i) = area.get i := by
  rw [State.putArea]
  dsimp only
  rw [Mem.get_foldr_set, SMap.get_filter_keys (p := fun k => decide (k < areaSize)), if_pos (by simpa using h), Mem.get,
    SMap.get_filter_keys (p := fun k => decide (k < key) || decide (key + areaSize ≤ k)), if_neg (by simp; omega), Mem.get]

/-- Every byte outside an area stored is as before. -/
theorem State.putArea_get_other (s : State) (key : Nat) (area : Mem) {x : Nat} (h : x < key ∨ key + areaSize ≤ x) :
    (s.putArea key area).mem.get x = s.mem.get x := by
  have hkept : Mem.get (s.mem.filter (fun e => decide (e.1 < key) || decide (key + areaSize ≤ e.1))) x = s.mem.get x := by
    rw [Mem.get, SMap.get_filter_keys (p := fun k => decide (k < key) || decide (key + areaSize ≤ k)),
      if_pos (by simpa using h), Mem.get]
  rw [State.putArea]
  dsimp only
  obtain h | h := h
  · rw [Mem.get_foldr_set_below _ h, hkept]
  · obtain ⟨i, rfl⟩ := Nat.exists_eq_add_of_le (Nat.le_of_add_right_le h)
    rw [Mem.get_foldr_set, SMap.get_filter_keys (p := fun k => decide (k < areaSize)), if_neg (by simp; omega), hkept]

/-! ### Tokens -/

/-- A token of a context that is there, below the limit, is counted, and is progress (R65). -/
theorem State.token_eq {s : State} {g c k n : Nat} (hocc : s.occupied g c = true)
    (hn : s.f F.CORE_TOKEN_COUNT g c k + n ≤ 4095) :
    s.token g c k n = (s.setF F.CORE_TOKEN_COUNT (s.f F.CORE_TOKEN_COUNT g c k + n) g c k).progress g c := by
  rw [State.token, hocc, if_neg (by decide), if_neg (by omega)]

/-- A field of no token counter and outside the records of a fault reads as before a token. -/
theorem State.token_f (s : State) (g c k n : Nat) (x : Fld) (i j l : Nat) (hx : x.reg ≠ .CORE_TOKEN) (h : x.reg ∉ faultRegs) :
    (s.token g c k n).f x i j l = s.f x i j l := by
  unfold State.token
  split
  · rfl
  · split
    · rw [State.raiseAt_f _ _ _ _ _ _ _ _ _ _ h, State.f_setF_name _ _ _ _ _ _ _ _ _ _ hx]
    · rw [State.progress_f, State.f_setF_name _ _ _ _ _ _ _ _ _ _ hx]

theorem State.token_brackets (s : State) (g c k n : Nat) : (s.token g c k n).brackets = s.brackets := by
  unfold State.token
  split
  · rfl
  · split
    · rw [State.raiseAt_rest]
      rfl
    · rfl

end Sys2Proof.Machine
end

section
namespace Sys2Proof.Machine

open Sys2Proof.Claims

/-! PROOFS. TraverseTotalsMove. -/

theorem State.raiseWho_accMode (s : State) (g : Nat) (w : Who) (code : Nat) (addr : Option Nat) (h c a : Nat) :
    (s.raiseWho g w code addr).accMode h c a = s.accMode h c a := by
  simp only [State.accMode, State.raiseWho_f _ _ _ _ _ F.MTX_ACC_STATE_MODE0 _ _ _ (by decide),
    State.raiseWho_f _ _ _ _ _ F.MTX_ACC_STATE_MODE1 _ _ _ (by decide)]

theorem State.raiseWho_transit (s : State) (g : Nat) (w : Who) (code : Nat) (addr : Option Nat) :
    (s.raiseWho g w code addr).transit = s.transit := by
  rw [State.raiseWho, State.raiseOp_rest, State.raiseAt_rest]

/-! ### MTIN (R138) -/

/-- An MTIN of an entry that is not LAST, over what landed at a key: a wrong total or mode is a fault. -/
def State.mtinLoaded (s : State) (g : Nat) (o : MOp) (key : Nat) : State :=
  let h := TrvHdr.ofArea s.mem key
  let tot := areaTot s.mem key
  let s' := s.dropMtx g o.seq
  if s.poisoned key areaSize || (crc64 (totBytes tot)).toNat != h.digest then
    (s'.setAcc g o.who.c o.acc 0 []).raiseWho g o.who 0x0D
  else if 3 < h.mode then (s'.setAcc g o.who.c o.acc 0 []).raiseWho g o.who 0x09
  else (s'.setAcc g o.who.c o.acc h.mode tot).progress g o.who.c

section
variable {s : State} {g : Nat} {o : MOp}

theorem State.mtinComplete_waits (h : (s.hop g o.who.c o.trv).up = none) : s.mtinComplete g o = s := if_pos (by simp [h])

theorem State.mtinComplete_strays (h : (s.hop g o.who.c o.trv).up ≠ none) (hkey : s.landKey g o.who.c o.trv = none) :
    s.mtinComplete g o = (s.dropMtx g o.seq).raiseWho g o.who 0x09 := by
  rw [State.mtinComplete]
  dsimp only
  rw [if_neg (by simpa using h), State.landKey_of_regs (State.dropMtx_regs ..), hkey]

theorem State.mtinComplete_loads {key : Nat} (h : (s.hop g o.who.c o.trv).up ≠ none)
    (hkey : s.landKey g o.who.c o.trv = some key) (hlast : s.fb F.MTX_TRV_NEXT_LAST g o.who.c o.trv = false) :
    s.mtinComplete g o = s.mtinLoaded g o key := by
  have hnot (mode : Nat) (tot : SMap Nat Nat) :
      (((s.dropMtx g o.seq).setAcc g o.who.c o.acc mode tot).progress g o.who.c).fb F.MTX_TRV_NEXT_LAST g o.who.c o.trv =
        false := by
    rw [State.progress_fb, State.fb, State.setAcc_f _ _ _ _ _ _ _ _ _ _ (by decide), ← hlast, State.fb,
      State.f_of_regs (State.dropMtx_regs ..)]
  rw [State.mtinComplete]
  dsimp only
  rw [if_neg (by simpa using h), State.landKey_of_regs (State.dropMtx_regs ..), hkey]
  dsimp only
  simp only [hnot, Bool.not_false, if_true]
  rw [State.dropMtx_mem, State.poisoned_of_poison (State.dropMtx_poison ..), State.mtinLoaded]

theorem State.mtinLoaded_rest (s : State) (g : Nat) (o : MOp) (key : Nat) :
    (s.mtinLoaded g o key).mem = s.mem ∧ (s.mtinLoaded g o key).cores = (s.dropMtx g o.seq).cores := by
  unfold State.mtinLoaded
  dsimp only
  split_ifs
  · exact ⟨by rw [State.raiseWho_mem, State.setAcc_mem, State.dropMtx_mem], by rw [State.raiseWho_cores, State.setAcc_cores]⟩
  · exact ⟨by rw [State.raiseWho_mem, State.setAcc_mem, State.dropMtx_mem], by rw [State.raiseWho_cores, State.setAcc_cores]⟩
  · exact ⟨by rw [State.progress_mem, State.setAcc_mem, State.dropMtx_mem], by rw [State.progress_cores, State.setAcc_cores]⟩

/-- An MTIN writes no memory. -/
theorem State.mtinComplete_mem (hlast : s.fb F.MTX_TRV_NEXT_LAST g o.who.c o.trv = false) : (s.mtinComplete g o).mem = s.mem := by
  by_cases h : (s.hop g o.who.c o.trv).up = none
  · rw [State.mtinComplete_waits h]
  · cases hkey : s.landKey g o.who.c o.trv with
    | none => rw [State.mtinComplete_strays h hkey, State.raiseWho_mem, State.dropMtx_mem]
    | some key => rw [State.mtinComplete_loads h hkey hlast, (s.mtinLoaded_rest g o key).1]

/-- An accumulator emptied by a fault. -/
theorem State.setAcc_fault (u : State) (g : Nat) (o : MOp) {code : Nat} (hc : code < 256) :
    ((u.setAcc g o.who.c o.acc 0 []).raiseWho g o.who code).accMode g o.who.c o.acc = 0 ∧
      Blamed ((u.setAcc g o.who.c o.acc 0 []).raiseWho g o.who code) g o.who code :=
  ⟨by rw [State.raiseWho_accMode, State.setAcc_mode _ _ _ _ _ (by decide)], State.raiseWho_blamed _ g o.who hc none⟩

end

/-! ### MTOUT (R137) -/

/-- The header of a FIRST entry's total. -/
def State.firstHdr (s : State) (g : Nat) (o : MOp) : TrvHdr :=
  ⟨o.trv, s.accMode g o.who.c o.acc, 0, s.f F.MTX_TRV_NEXT_CONTRIB g o.who.c o.trv, s.node * 2 ^ 44 + g, 0, s.clk.frame,
    (crc64 (totBytes (s.accTot g o.who.c o.acc))).toNat⟩

/-- An entry that has sent a total: its accumulator is empty, its hop has sent and is idle. -/
def State.trvSent (s : State) (g : Nat) (o : MOp) : State :=
  let u := (s.setAcc g o.who.c o.acc 0 []).setHop g o.who.c o.trv { s.hop g o.who.c o.trv with sent := true }
  (u.setTrvState g o.who.c o.trv 0).progress g o.who.c

section
variable {s : State} {g : Nat} {o : MOp}

theorem State.mtoutComplete_fault (h : (g, o.who.c, o.acc) ∈ s.badAcc) : s.mtoutComplete g o = s.mtxFault g o 0x0D :=
  if_pos ((s.accBad_iff ..).mpr h)

/-- An MTOUT of an idle entry sends where it has credit and no forward waits. -/
theorem State.mtoutComplete_idle (h : (g, o.who.c, o.acc) ∉ s.badAcc) (hidle : s.trvState g o.who.c o.trv = 0)
    (hwait : (s.hop g o.who.c o.trv).wait = false) :
    s.mtoutComplete g o = if s.fb F.MTX_TRV_STATUS_CREDIT g o.who.c o.trv then s.sendComplete g o else s := by
  have hacc : ¬s.accBad g o.who.c o.acc = true := mt (s.accBad_iff ..).mp h
  rw [State.mtoutComplete, if_neg hacc, hidle, hwait, if_neg (by decide)]
  cases s.fb F.MTX_TRV_STATUS_CREDIT g o.who.c o.trv <;> rfl

theorem State.sendComplete_first (hfirst : s.fb F.MTX_TRV_NEXT_FIRST g o.who.c o.trv = true)
    (hgns : s.gnsOn o.who.c o.trv = false) (hnode : s.f F.MTX_TRV_NEXT_NEXT_NODE g o.who.c o.trv = s.node)
    (hcore : s.coreOk (s.f F.MTX_TRV_NEXT_NEXT_CORE g o.who.c o.trv) = true) :
    s.sendComplete g o = ((s.dropMtx g o.seq).inTransit g o.who.c o.trv
      (areaOf (s.firstHdr g o) (s.accTot g o.who.c o.acc)) false).trvSent g o := by
  have hnode' : (s.dropMtx g o.seq).f F.MTX_TRV_NEXT_NEXT_NODE g o.who.c o.trv = (s.dropMtx g o.seq).node := hnode
  have hknown : (s.dropMtx g o.seq).nextKnown g o.who.c o.trv = true := (if_pos hnode').trans hcore
  have hgns' : (s.dropMtx g o.seq).gnsOn o.who.c o.trv = false := hgns
  rw [State.sendComplete]
  dsimp only
  rw [hfirst, hknown, hgns']
  simp only [Bool.not_true, Bool.false_and, Bool.false_eq_true, if_false, Bool.not_false, if_true]
  rw [State.trvSend_here _ _ hnode']
  rfl

theorem State.trvSent_rest (s : State) (g : Nat) (o : MOp) : s.trvSent g o =
    { s with regs := (s.trvSent g o).regs, accs := (s.trvSent g o).accs, badAcc := (s.trvSent g o).badAcc
             hops := (s.trvSent g o).hops, watch := (s.trvSent g o).watch, stalled := (s.trvSent g o).stalled } := by
  unfold State.trvSent
  rw [State.setAcc_rest]
  rfl

theorem State.trvSent_accMode (s : State) (g : Nat) (o : MOp) : (s.trvSent g o).accMode g o.who.c o.acc = 0 := by
  rw [State.trvSent, State.progress_accMode, State.setTrvState,
    State.accMode_congr _ _ _ (State.reg_setF_other _ _ _ _ _ _ (by simp)), State.accMode_of_regs (State.setHop_regs ..),
    State.setAcc_mode _ _ _ _ _ (by decide)]

theorem State.trvSent_accTot (s : State) (g : Nat) (o : MOp) : (s.trvSent g o).accTot g o.who.c o.acc = [] := by
  rw [State.trvSent, State.progress_accTot, State.setTrvState, State.accTot_of_accs (State.setF_accs ..),
    State.accTot_of_accs (State.setHop_accs ..), State.setAcc_tot, if_pos rfl]

theorem State.trvSent_credit (s : State) (g : Nat) (o : MOp) :
    (s.trvSent g o).fb F.MTX_TRV_STATUS_CREDIT g o.who.c o.trv = s.fb F.MTX_TRV_STATUS_CREDIT g o.who.c o.trv := by
  rw [State.trvSent, State.progress_fb, State.setTrvState, State.fb_setF_bits _ _ _ _ _ _ _ _ _ _ (by decide), State.setHop_fb,
    State.fb, State.setAcc_f _ _ _ _ _ _ _ _ _ _ (by decide), State.fb]

theorem State.trvSent_state (s : State) (g : Nat) (o : MOp) : (s.trvSent g o).trvState g o.who.c o.trv = 0 := by
  rw [State.trvSent, State.trvState, State.progress_f, State.setTrvState, State.f_setF_same _ _ _ _ _ _ (by decide)]
  rfl

end

/-! ### Landing (R137) -/

/-- The total at place n of the transit list has been taken from it. -/
def State.taken (s : State) (n : Nat) : State := { s with transit := s.transit.eraseIdx n }

section
variable (s : State) (n : Nat)

@[simp] theorem State.taken_regs : (s.taken n).regs = s.regs := rfl
@[simp] theorem State.taken_mem : (s.taken n).mem = s.mem := rfl
@[simp] theorem State.taken_ctxs : (s.taken n).ctxs = s.ctxs := rfl

end

/-- An area written, and its entry turned landed. -/
def State.landed (s : State) (g c v key node core : Nat) (area : Mem) (contrib skips : Nat) : State :=
  ((((s.putArea key area).setHop g c v { (s.putArea key area).hop g c v with up := some (node, core) }).setF
    F.MTX_TRV_STATUS_CONTRIB contrib g c v).setF F.MTX_TRV_STATUS_SKIPS skips g c v).setTrvState g c v 1

section
variable (s : State) (g c v key node core : Nat) (area : Mem) (contrib skips : Nat)

theorem State.landed_f (x : Fld) (i j k : Nat) (h : x.reg ≠ .MTX_TRV_STATUS) :
    (s.landed g c v key node core area contrib skips).f x i j k = s.f x i j k := by
  rw [State.landed, State.setTrvState, State.f_setF_name _ _ _ _ _ _ _ _ _ _ h, State.f_setF_name _ _ _ _ _ _ _ _ _ _ h,
    State.f_setF_name _ _ _ _ _ _ _ _ _ _ h, State.setHop_f, State.f_of_regs (State.putArea_regs ..)]

theorem State.landed_ctxs : (s.landed g c v key node core area contrib skips).ctxs = s.ctxs := rfl
theorem State.landed_mem : (s.landed g c v key node core area contrib skips).mem = (s.putArea key area).mem := rfl
theorem State.landed_transit : (s.landed g c v key node core area contrib skips).transit = s.transit := rfl

theorem State.landed_up : ((s.landed g c v key node core area contrib skips).hop g c v).up = some (node, core) := by
  rw [State.landed, State.setTrvState, State.setF_hop, State.setF_hop, State.setF_hop, State.hop_setHop_same]

theorem State.landed_state : (s.landed g c v key node core area contrib skips).trvState g c v = 1 :=
  State.f_setF_same _ _ _ _ _ _ (by decide)

/-- A total of sound memory lands at an idle entry, and counts its token. -/
theorem State.trvLand_idle (hkey : s.landKey g c v = some key) (hidle : s.trvState g c v = 0) :
    s.trvLand g c v node core (some (area, false)) contrib skips =
      (s.landed g c v key node core area contrib skips).token g c (16 + s.f F.MTX_TRV_NEXT_RQ g c v) 1 := by
  have hstate (x : Hop) : ((((s.putArea key area).setHop g c v x).setF F.MTX_TRV_STATUS_CONTRIB contrib g c v).setF
      F.MTX_TRV_STATUS_SKIPS skips g c v).trvState g c v = 0 := by
    rw [State.trvState, State.f_setF_bits _ _ _ _ _ _ _ _ _ _ (by decide), State.f_setF_bits _ _ _ _ _ _ _ _ _ _ (by decide),
      State.setHop_f, State.f_of_regs (State.putArea_regs ..)]
    exact hidle
  rw [← State.landed_f s g c v key node core area contrib skips F.MTX_TRV_NEXT_RQ g c v (by decide)]
  unfold State.trvLand
  rw [hkey]
  simp only [hstate, Bool.false_eq_true, if_false, State.landed]

end

theorem State.landOwn_eq {s : State} {n : Nat} {m : TrvMsg} (hn : s.transit[n]? = some m) :
    s.landOwn n = (s.taken n).trvLand m.g m.c m.t m.node m.core (some (m.area, m.poison)) (TrvHdr.ofArea m.area 0).contrib
      (TrvHdr.ofArea m.area 0).skips := by
  rw [State.landOwn, hn]
  rfl

/-- Settles O19: the ends of mtinComplete, of mtoutComplete, and a landing at an idle entry. -/
theorem traverseTotalsMove : Obligations.TraverseTotalsMove := by
  refine ⟨fun s g n o hn hstarted hop hlast => ?mtin, fun s g n o hn hstarted hop => ?mtout,
    fun s n key m hn hkey hidle hpoison hocc => ?land⟩
  case mtin =>
    obtain ⟨-, -, hexec, -⟩ := exec_matrixInstructionComplete hn hstarted
    refine ⟨_, hexec hop, State.mtinComplete_mem hlast, ?_⟩
    intro c a
    refine ⟨State.mtinComplete_waits, fun key hup hkey hpoison => ?_⟩
    intro h tot good
    rw [State.mtinComplete_loads hup hkey hlast]
    refine ⟨MtxGone.of_drop rfl (s.mtinLoaded_rest g o key).2, fun hgood hmode => ?_, fun hgood hmode => ?_,
      fun hbad => ?_⟩ <;> rw [State.mtinLoaded]
    · rw [if_neg (by simpa [hpoison] using hgood), if_neg (Nat.not_lt.mpr hmode), State.progress_accMode, State.progress_accTot]
      exact ⟨State.setAcc_mode _ _ _ _ _ (Nat.lt_succ_of_le hmode), State.setAcc_tot ..⟩
    · rw [if_neg (by simpa [hpoison] using hgood), if_pos hmode]
      exact State.setAcc_fault _ g o (by decide)
    · rw [if_pos (by simpa [hpoison] using hbad)]
      exact State.setAcc_fault _ g o (by decide)
  case mtout =>
    intro c v hidle hfirst hwait hgns hnode hcore
    obtain ⟨-, -, -, hexec⟩ := exec_matrixInstructionComplete hn hstarted
    refine ⟨_, hexec hop, ?_⟩
    by_cases hbad : (g, c, o.acc) ∈ s.badAcc
    · obtain ⟨hgone, hblamed, hmem⟩ := s.mtxFault_spec g o (code := 0x0D) (by decide)
      rw [State.mtoutComplete_fault hbad]
      exact ⟨hmem, fun _ => ⟨hgone, hblamed, State.raiseWho_transit ..⟩, fun h => absurd hbad h, fun h => absurd hbad h⟩
    · rw [State.mtoutComplete_idle hbad hidle hwait]
      cases hcredit : s.fb F.MTX_TRV_STATUS_CREDIT g o.who.c o.trv with
      | false => exact ⟨rfl, fun h => absurd h hbad, fun _ _ => rfl, fun _ h => absurd h (by decide)⟩
      | true =>
        rw [if_pos rfl, State.sendComplete_first hfirst hgns hnode hcore]
        refine ⟨?_, fun h => absurd h hbad, fun _ h => absurd h (by decide), fun _ _ => ?_⟩
        · rw [State.trvSent_rest]
          exact s.dropMtx_mem g o.seq
        · refine ⟨MtxGone.of_drop rfl ?_, ?_, State.trvSent_accMode .., State.trvSent_accTot ..,
            (State.trvSent_credit ..).trans (State.inTransit_credit ..), State.trvSent_state ..⟩
          · rw [State.trvSent_rest]
            rfl
          · rw [State.trvSent_rest]
            rfl
  case land =>
    intro k hroom
    refine ⟨_, rfl, ?_⟩
    have hkey' : (s.taken n).landKey m.g m.c m.t = some key := (State.landKey_of_regs (s.taken_regs n) ..).trans hkey
    have hidle' : (s.taken n).trvState m.g m.c m.t = 0 := (State.f_of_regs (s.taken_regs n) ..).trans hidle
    rw [State.landOwn_eq hn, hpoison, State.trvLand_idle _ _ _ _ _ _ _ _ _ _ hkey' hidle', State.f_of_regs (s.taken_regs n)]
    generalize (TrvHdr.ofArea m.area 0).contrib = contrib
    generalize (TrvHdr.ofArea m.area 0).skips = skips
    have hcount : ((s.taken n).landed m.g m.c m.t key m.node m.core m.area contrib skips).f F.CORE_TOKEN_COUNT m.g m.c k =
        s.f F.CORE_TOKEN_COUNT m.g m.c k := by
      rw [State.landed_f _ _ _ _ _ _ _ _ _ _ _ _ _ _ (by decide), State.f_of_regs (s.taken_regs n)]
    have hhere : ((s.taken n).landed m.g m.c m.t key m.node m.core m.area contrib skips).occupied m.g m.c = true := by
      rw [State.occupied_of_ctxs (State.landed_ctxs ..), State.occupied_of_ctxs (s.taken_ctxs n), hocc]
    rw [State.token_eq hhere (by rw [hcount]; exact hroom), hcount]
    refine ⟨?_, fun i hi => ?_, fun x hx => ?_, ?_, ?_, ?_⟩
    · rw [State.progress_transit, State.setF_transit, State.landed_transit]
      rfl
    · rw [State.progress_mem, State.setF_mem, State.landed_mem, State.putArea_get _ _ _ hi]
    · rw [State.progress_mem, State.setF_mem, State.landed_mem, State.putArea_get_other _ _ _ hx, State.taken_mem]
    · rw [State.trvState, State.progress_f, State.f_setF_name _ _ _ _ _ _ _ _ _ _ (by decide)]
      exact State.landed_state ..
    · rw [State.progress_hop, State.setF_hop, State.landed_up]
    · rw [State.progress_f, State.f_setF_same _ _ _ _ _ _ (by decide)]
      exact Nat.mod_eq_of_lt (show _ < 4096 by omega)

end Sys2Proof.Machine
end

section
namespace Sys2Proof.Machine

open Sys2Proof.Claims

/-! PROOFS. LayersDecide. -/

/-! ### Parts of the decision (R145) -/

/-- The first position of a range that satisfies p. -/
theorem firstFrom_eq_some {p : Nat → Bool} {n a i : Nat} (ha : a ≤ i) (hi : i < a + n) (hp : p i = true)
    (hmin : ∀ j, a ≤ j → j < i → p j = false) : firstFrom p n a = some i := by
  induction n generalizing a with
  | zero => omega
  | succ n ih =>
    rw [firstFrom]
    by_cases h : a = i
    · rw [h, hp, if_pos rfl]
    · rw [hmin a le_rfl (by omega), if_neg (by decide), ih (by omega) (by omega) fun j hj => hmin j (by omega)]

section
variable (s : State) (g c cls : Nat) (b : Bracket)

theorem State.closeBracket_rest : s.closeBracket g c cls b =
    { s with regs := (s.closeBracket g c cls b).regs, brackets := (s.closeBracket g c cls b).brackets
             cores := (s.closeBracket g c cls b).cores } := by
  unfold State.closeBracket
  dsimp only
  split <;> rfl

theorem State.closeBracket_regs :
    (s.closeBracket g c cls b).regs = (s.setReg ⟨.MTX_LAYER, g, c, cls⟩ 0).regs := by
  unfold State.closeBracket
  dsimp only
  split <;> rfl

theorem State.closeBracket_f (x : Fld) (i j k : Nat) (h : x.reg ≠ .MTX_LAYER) :
    (s.closeBracket g c cls b).f x i j k = s.f x i j k := by
  rw [State.f_of_regs (s.closeBracket_regs g c cls b), State.f, State.reg_setReg_other _ _ fun e => h (congrArg Reg.name e),
    State.f]

theorem State.closeBracket_state : (s.closeBracket g c cls b).f F.MTX_LAYER_STATE g c cls = 0 := by
  rw [State.f_of_regs (s.closeBracket_regs g c cls b), State.f, State.reg_setReg_same]
  rfl

theorem State.closeBracket_bracket : (s.closeBracket g c cls b).bracket g c cls = none := by
  have hclosed : (s.setBracket g c cls none).bracket g c cls = none := s.bracket_setBracket_same g c cls none
  unfold State.closeBracket
  dsimp only
  split <;> exact hclosed

end

/-- The token that a layer's end counts; 28 names none. -/
def State.layerToken (s : State) (g c k : Nat) : State := if k = 28 then s else s.token g c k 1

section
variable (s : State) (g c k : Nat)

theorem State.layerToken_mem : (s.layerToken g c k).mem = s.mem := by
  unfold State.layerToken
  split
  · rfl
  · exact (s.token_rest g c k 1).1

theorem State.layerToken_bracket (cls : Nat) : (s.layerToken g c k).bracket g c cls = s.bracket g c cls := by
  unfold State.layerToken
  split
  · rfl
  · rw [State.bracket, State.token_brackets, State.bracket]

theorem State.layerToken_f (x : Fld) (i j l : Nat) (hx : x.reg ≠ .CORE_TOKEN) (h : x.reg ∉ faultRegs) :
    (s.layerToken g c k).f x i j l = s.f x i j l := by
  unfold State.layerToken
  split
  · rfl
  · exact s.token_f g c k 1 x i j l hx h

theorem State.layerToken_counts {s : State} {g c k : Nat} (hocc : s.occupied g c = true) (hk : k ≠ 28)
    (hroom : s.f F.CORE_TOKEN_COUNT g c k < 4095) :
    (s.layerToken g c k).f F.CORE_TOKEN_COUNT g c k = s.f F.CORE_TOKEN_COUNT g c k + 1 := by
  rw [State.layerToken, if_neg hk, State.token_counts hocc hroom]

end

/-! ### The two ends of a decision -/

/-- The first word of a layer descriptor, and the third. -/
theorem State.descriptor_words (s : State) (key : Nat) :
    wordAt (s.read key 64) 0 = leNat s key 8 ∧ wordAt (s.read key 64) 2 = leNat s (key + 16) 8 :=
  ⟨wordAt_read s key 0 56, wordAt_read s key 2 40⟩

/-- A layer that ends well: the bracket closed, and the frame in the descriptor. -/
def State.layerDone (s : State) (g c cls : Nat) (b : Bracket) (key : Nat) : State :=
  (s.closeBracket g c cls b).matrixWrite g (key + 16)
    (toLE 8 (leNat s (key + 16) 8 % 2 ^ 17 + s.clk.frame % 2 ^ 32 * 2 ^ 32))

theorem State.layerDecide_clear (s : State) (g c cls : Nat) (b : Bracket) (key : Nat) :
    s.layerDecide g c cls b key false =
      ((s.layerDone g c cls b key).layerToken g c (leNat s key 8 / 2 ^ 48 % 32)).progress g c := by
  have hdone : bitsN (leNat s key 8) 48 5 = leNat s key 8 / 2 ^ 48 % 32 := rfl
  obtain ⟨h0, h2⟩ := s.descriptor_words key
  unfold State.layerDecide
  simp only [h0, h2, hdone, Bool.not_false, if_true]
  rfl

/-- A layer that is replayed: the bracket closed, words 2 and 0 of the descriptor stored, the replay counted and recorded. -/
def State.layerAgain (s : State) (g c cls : Nat) (b : Bracket) (key v0 v2 : Nat) (w : Word) : State :=
  let u := ((((s.closeBracket g c cls b).matrixWrite g (key + 16) (toLE 8 v2)).matrixWrite g key (toLE 8 v0)).addF
    F.MTX_RPL_COUNT_COUNT 1 g c).setReg ⟨.MTX_RPL_LAST, g, c, 0⟩ w
  (u.setF F.MTX_RPL_LAST_FRAME_FRAME u.clk.frame g c).event F.MTX_EVENT_REPLAY c

/-- A wider format of a layer descriptor's first word: the first after its step. -/
def NextStep (w0 i : Nat) : Prop :=
  w0 / 2 ^ 16 % 4 < i ∧ i < 4 ∧ w0 / 2 ^ (32 + 4 * i) % 16 ≠ 15 ∧
    ∀ j, w0 / 2 ^ 16 % 4 < j → j < i → w0 / 2 ^ (32 + 4 * j) % 16 = 15

theorem State.layerDecide_set {s : State} {key i : Nat} (hi : NextStep (leNat s key 8) i) (g c cls : Nat) (b : Bracket) :
    ∃ v2 w, s.layerDecide g c cls b key true =
      ((s.layerAgain g c cls b key (leNat s key 8 - leNat s key 8 / 2 ^ 16 % 4 * 2 ^ 16 + i * 2 ^ 16) v2 w).layerToken g c
        (leNat s key 8 / 2 ^ 53 % 32)).progress g c := by
  obtain ⟨hlo, hhi, hfm, hmin⟩ := hi
  have hnext : firstFrom (fun i => bitsN (leNat s key 8) (32 + 4 * i) 4 != 15) (3 - leNat s key 8 / 2 ^ 16 % 4)
      (leNat s key 8 / 2 ^ 16 % 4 + 1) = some i :=
    firstFrom_eq_some hlo (by omega) (by simpa [bitsN] using hfm) fun j hj hji => by
      simpa [bitsN] using hmin j hj hji
  have hstep : bitsN (leNat s key 8) 16 2 = leNat s key 8 / 2 ^ 16 % 4 := rfl
  have hagain : bitsN (leNat s key 8) 53 5 = leNat s key 8 / 2 ^ 53 % 32 := rfl
  obtain ⟨h0, h2⟩ := s.descriptor_words key
  unfold State.layerDecide
  simp only [h0, h2, hnext, hstep, hagain, Bool.not_true, Bool.false_eq_true, if_false]
  exact ⟨_, _, rfl⟩

/-! ### What the two ends leave -/

section
variable (s : State) (g c cls : Nat) (b : Bracket) (key : Nat)

theorem State.layerDone_mem : (s.layerDone g c cls b key).mem = s.mem.write (key + 16)
    (toLE 8 (leNat s (key + 16) 8 % 2 ^ 17 + s.clk.frame % 2 ^ 32 * 2 ^ 32)) := by
  rw [State.layerDone, State.matrixWrite_mem, State.closeBracket_rest]

theorem State.layerDone_bracket : (s.layerDone g c cls b key).bracket g c cls = none := by
  rw [State.layerDone, State.matrixWrite_bracket, State.closeBracket_bracket]

theorem State.layerDone_state : (s.layerDone g c cls b key).f F.MTX_LAYER_STATE g c cls = 0 := by
  rw [State.layerDone, State.matrixWrite_f, State.closeBracket_state]

theorem State.layerDone_f (x : Fld) (i j k : Nat) (h : x.reg ≠ .MTX_LAYER) :
    (s.layerDone g c cls b key).f x i j k = s.f x i j k := by
  rw [State.layerDone, State.matrixWrite_f, s.closeBracket_f g c cls b x i j k h]

theorem State.layerDone_ctxs : (s.layerDone g c cls b key).ctxs = s.ctxs := by
  rw [State.layerDone, State.matrixWrite_ctxs, State.closeBracket_rest]

variable (v0 v2 : Nat) (w : Word)

theorem State.layerAgain_mem : (s.layerAgain g c cls b key v0 v2 w).mem =
    (s.mem.write (key + 16) (toLE 8 v2)).write key (toLE 8 v0) := by
  rw [State.layerAgain, State.event_mem, State.setF_mem, State.setReg_mem, State.addF_eq, State.setF_mem, State.matrixWrite_mem,
    State.matrixWrite_mem, State.closeBracket_rest]

theorem State.layerAgain_bracket : (s.layerAgain g c cls b key v0 v2 w).bracket g c cls = none := by
  rw [State.layerAgain, State.event_bracket, State.setF_bracket, State.setReg_bracket, State.addF_eq, State.setF_bracket,
    State.matrixWrite_bracket, State.matrixWrite_bracket, State.closeBracket_bracket]

/-- A field outside the records of replays reads as it does once the bracket is closed. -/
theorem State.layerAgain_f (x : Fld) (i j k : Nat)
    (h : x.reg ∉ [RegName.MTX_EVENT, .MTX_RPL_LAST, .MTX_RPL_LAST_FRAME, .MTX_RPL_COUNT]) :
    (s.layerAgain g c cls b key v0 v2 w).f x i j k = (s.closeBracket g c cls b).f x i j k := by
  simp only [List.mem_cons, List.not_mem_nil, or_false, not_or] at h
  obtain ⟨hevent, hlast, hframe, hcount⟩ := h
  rw [State.layerAgain, State.f_event_name _ _ _ _ _ _ _ _ _ hevent, State.f_setF_name _ _ _ _ _ _ _ _ _ _ hframe, State.f,
    State.reg_setReg_other _ _ fun e => hlast (congrArg Reg.name e), ← State.f, State.addF_eq,
    State.f_setF_name _ _ _ _ _ _ _ _ _ _ hcount, State.matrixWrite_f, State.matrixWrite_f]

theorem State.layerAgain_count : (s.layerAgain g c cls b key v0 v2 w).f F.MTX_RPL_COUNT_COUNT g c =
    (s.f F.MTX_RPL_COUNT_COUNT g c + 1) % 2 ^ F.MTX_RPL_COUNT_COUNT.len := by
  rw [State.layerAgain, State.f_event_name _ _ _ _ _ _ _ _ _ (by decide), State.f_setF_name _ _ _ _ _ _ _ _ _ _ (by decide),
    State.f, State.reg_setReg_other _ _ (by simp), ← State.f, State.addF_eq, State.f_setF_same _ _ _ _ _ _ (by decide),
    State.matrixWrite_f, State.matrixWrite_f, State.closeBracket_f _ _ _ _ _ _ _ _ _ (by decide)]

theorem State.layerAgain_event (h : c < 4) : bitN ((s.layerAgain g c cls b key v0 v2 w).f F.MTX_EVENT_REPLAY) c = true :=
  State.event_set _ _ _ _ _ (by decide) h

theorem State.layerAgain_ctxs : (s.layerAgain g c cls b key v0 v2 w).ctxs = s.ctxs := by
  rw [State.layerAgain, State.event_ctxs, State.setF_ctxs, State.setReg_ctxs, State.addF_eq, State.setF_ctxs,
    State.matrixWrite_ctxs, State.matrixWrite_ctxs, State.closeBracket_rest]

end

/-! ### The decision -/

/-- A bracket that may decide, of a layer without a col, decides on its flag. -/
theorem exec_layerEndDecision {s : State} {g c cls key : Nat} {b : Bracket} (hb : s.bracket g c cls = some b)
    (hst : s.f F.MTX_LAYER_STATE g c cls = 2) (hhalt : s.halted c = false) (hkey : s.operandKey g c b.addr 64 = some key)
    (hbusy : s.bracketBusy g c cls b = false) (hpoison : s.poisoned key 64 = false) (hcol : leNat s key 8 / 2 ^ 19 % 2 = 0) :
    exec (.layerEndDecision g c cls) s = .next (s.layerDecide g c cls b key (s.fb F.MTX_LAYER_FLAG g c cls)) := by
  have hbit : bitN (wordAt (s.read key 64) 0) 19 = false := by
    rw [(s.descriptor_words key).1]
    simpa [bitN, bitsN] using hcol
  have hexec : exec (.layerEndDecision g c cls) s = execLayerEndDecision g c cls s := rfl
  rw [hexec, execLayerEndDecision, hb]
  simp [hst, hhalt, hkey, hbusy, hpoison, hbit]

/-- The first wider format of a descriptor that has one. -/
theorem exists_nextStep {w0 : Nat} (h : ∃ i, w0 / 2 ^ 16 % 4 < i ∧ i < 4 ∧ w0 / 2 ^ (32 + 4 * i) % 16 ≠ 15) :
    ∃ i, NextStep w0 i := by
  obtain ⟨hlo, hhi, hfm⟩ := Nat.find_spec h
  refine ⟨Nat.find h, hlo, hhi, hfm, fun j hj hji => ?_⟩
  by_contra hne
  exact Nat.find_min h hji ⟨hj, by omega, hne⟩

theorem NextStep.unique {w0 i j : Nat} (hi : NextStep w0 i) (hj : NextStep w0 j) : i = j := by
  obtain ⟨hilo, -, hi15, himin⟩ := hi
  obtain ⟨hjlo, -, hj15, hjmin⟩ := hj
  obtain h | h | h := Nat.lt_trichotomy i j
  · exact absurd (hjmin i hilo h) hi15
  · exact h
  · exact absurd (himin j hjlo h) hj15

/-- A clear flag: the bracket is closed, word 0 of the descriptor stands, and word 2 names the frame. -/
theorem State.layerDecide_clear_rest (s : State) (g c cls : Nat) (b : Bracket) (key : Nat) :
    let t := s.layerDecide g c cls b key false
    (∀ x, x < key ∨ key + 24 ≤ x → t.mem.get x = s.mem.get x) ∧ t.bracket g c cls = none ∧
      t.f F.MTX_LAYER_STATE g c cls = 0 ∧ leNat t key 8 = leNat s key 8 ∧ leNat t (key + 20) 4 = s.clk.frame % 2 ^ 32 := by
  intro t
  have ht : t = _ := s.layerDecide_clear g c cls b key
  have hmem : t.mem = s.mem.write (key + 16)
      (toLE 8 (leNat s (key + 16) 8 % 2 ^ 17 + s.clk.frame % 2 ^ 32 * 2 ^ 32)) := by
    rw [ht, State.progress_mem, State.layerToken_mem, State.layerDone_mem]
  have hget (x : Nat) (hx : x < key + 16 ∨ key + 24 ≤ x) : t.mem.get x = s.mem.get x := by
    rw [hmem, mem_get_write_other _ _ _ _ (by rw [toLE_length]; omega)]
  refine ⟨fun x hx => hget x (by omega), ?_, ?_, leNat_congr fun i hi => hget _ (by omega), ?_⟩
  · rw [ht, State.progress_bracket, State.layerToken_bracket, State.layerDone_bracket]
  · rw [ht, State.progress_f, State.layerToken_f _ _ _ _ _ _ _ _ (by decide) (by decide), State.layerDone_state]
  · have hpart := leNat_part t (key + 16) 4 4 0
    rw [leNat_of_write hmem] at hpart
    rw [← hpart]
    generalize leNat s (key + 16) 8 = w2
    omega

theorem State.layerDecide_clear_counts {s : State} {g c key : Nat} (hocc : s.occupied g c = true)
    (hk : leNat s key 8 / 2 ^ 48 % 32 ≠ 28) (hroom : s.f F.CORE_TOKEN_COUNT g c (leNat s key 8 / 2 ^ 48 % 32) < 4095)
    (cls : Nat) (b : Bracket) :
    (s.layerDecide g c cls b key false).f F.CORE_TOKEN_COUNT g c (leNat s key 8 / 2 ^ 48 % 32) =
      s.f F.CORE_TOKEN_COUNT g c (leNat s key 8 / 2 ^ 48 % 32) + 1 := by
  have hf := s.layerDone_f g c cls b key F.CORE_TOKEN_COUNT g c (leNat s key 8 / 2 ^ 48 % 32) (by decide)
  have hhere : (s.layerDone g c cls b key).occupied g c = true := by rw [State.occupied_of_ctxs (State.layerDone_ctxs ..), hocc]
  rw [State.layerDecide_clear, State.progress_f, State.layerToken_counts hhere hk (by rw [hf]; exact hroom), hf]

/-- A set flag with a wider format left: the bracket is closed, and the descriptor takes the next step. -/
theorem State.layerDecide_set_rest {s : State} {key i : Nat} (hi : NextStep (leNat s key 8) i) (g c cls : Nat) (b : Bracket) :
    let t := s.layerDecide g c cls b key true
    (∀ x, x < key ∨ key + 24 ≤ x → t.mem.get x = s.mem.get x) ∧ t.bracket g c cls = none ∧
      t.f F.MTX_LAYER_STATE g c cls = 0 ∧ leNat t key 8 / 2 ^ 16 % 4 = i ∧
      t.f F.MTX_RPL_COUNT_COUNT g c = (s.f F.MTX_RPL_COUNT_COUNT g c + 1) % 2 ^ F.MTX_RPL_COUNT_COUNT.len ∧
      (c < 4 → bitN (t.f F.MTX_EVENT_REPLAY) c = true) := by
  intro t
  obtain ⟨v2, w, ht⟩ : ∃ v2 w, t = _ := State.layerDecide_set hi g c cls b
  have hw0 := leNat_lt s key 8
  obtain ⟨-, hlt, -, -⟩ := hi
  generalize leNat s key 8 = w0 at ht hw0
  have hmem : t.mem = (s.mem.write (key + 16) (toLE 8 v2)).write key (toLE 8 (w0 - w0 / 2 ^ 16 % 4 * 2 ^ 16 + i * 2 ^ 16)) := by
    rw [ht, State.progress_mem, State.layerToken_mem, State.layerAgain_mem]
  refine ⟨fun x hx => ?_, ?_, ?_, ?_, ?_, fun hc => ?_⟩
  · rw [hmem, mem_get_write_other _ _ _ _ (by rw [toLE_length]; omega), mem_get_write_other _ _ _ _ (by rw [toLE_length]; omega)]
  · rw [ht, State.progress_bracket, State.layerToken_bracket, State.layerAgain_bracket]
  · rw [ht, State.progress_f, State.layerToken_f _ _ _ _ _ _ _ _ (by decide) (by decide),
      State.layerAgain_f _ _ _ _ _ _ _ _ _ _ _ _ _ (by decide), State.closeBracket_state]
  · rw [leNat_of_write hmem]
    omega
  · rw [ht, State.progress_f, State.layerToken_f _ _ _ _ _ _ _ _ (by decide) (by decide), State.layerAgain_count]
  · rw [ht, State.progress_f, State.layerToken_f _ _ _ _ _ _ _ _ (by decide) (by decide),
      State.layerAgain_event _ _ _ _ _ _ _ _ _ hc]

theorem State.layerDecide_set_counts {s : State} {g c key i : Nat} (hi : NextStep (leNat s key 8) i)
    (hocc : s.occupied g c = true) (hk : leNat s key 8 / 2 ^ 53 % 32 ≠ 28)
    (hroom : s.f F.CORE_TOKEN_COUNT g c (leNat s key 8 / 2 ^ 53 % 32) < 4095)
    (cls : Nat) (b : Bracket) :
    (s.layerDecide g c cls b key true).f F.CORE_TOKEN_COUNT g c (leNat s key 8 / 2 ^ 53 % 32) =
      s.f F.CORE_TOKEN_COUNT g c (leNat s key 8 / 2 ^ 53 % 32) + 1 := by
  obtain ⟨v2, w, ht⟩ := State.layerDecide_set hi g c cls b
  generalize leNat s key 8 - leNat s key 8 / 2 ^ 16 % 4 * 2 ^ 16 + i * 2 ^ 16 = v0 at ht
  have hf : (s.layerAgain g c cls b key v0 v2 w).f F.CORE_TOKEN_COUNT g c (leNat s key 8 / 2 ^ 53 % 32) =
      s.f F.CORE_TOKEN_COUNT g c (leNat s key 8 / 2 ^ 53 % 32) := by
    rw [State.layerAgain_f _ _ _ _ _ _ _ _ _ _ _ _ _ (by decide), State.closeBracket_f _ _ _ _ _ _ _ _ _ (by decide)]
  have hhere : (s.layerAgain g c cls b key v0 v2 w).occupied g c = true := by
    rw [State.occupied_of_ctxs (State.layerAgain_ctxs ..), hocc]
  rw [ht, State.progress_f, State.layerToken_counts hhere hk (by rw [hf]; exact hroom), hf]

/-- Settles O24: by the flag, layerDecide_clear_rest or layerDecide_set_rest. -/
theorem layersDecide : Obligations.LayersDecide := by
  intro s g c cls key b hb hst hhalt hkey hbusy hpoison w0 step fm done again hcol hocc hend
  refine ⟨_, exec_layerEndDecision hb hst hhalt hkey hbusy hpoison hcol, ?_⟩
  cases hflag : s.fb F.MTX_LAYER_FLAG g c cls with
  | false =>
    obtain ⟨hmem, hbracket, hstate, h0, h2⟩ := s.layerDecide_clear_rest g c cls b key
    exact ⟨hmem, hbracket, hstate, fun _ hk hroom => ⟨State.layerDecide_clear_counts hocc hk hroom cls b, h0, h2⟩,
      fun _ h => absurd h (by decide)⟩
  | true =>
    obtain ⟨i, hi⟩ := exists_nextStep (hend.resolve_left (by simp [hflag]))
    obtain ⟨hmem, hbracket, hstate, hstep, hcount, hevent⟩ := State.layerDecide_set_rest hi g c cls b
    refine ⟨hmem, hbracket, hstate, fun h => absurd h (by decide), fun j _ hlo hhi hfm hmin hk hroom => ?_⟩
    obtain rfl : i = j := hi.unique ⟨hlo, hhi, hfm, hmin⟩
    exact ⟨State.layerDecide_set_counts hi hocc hk hroom cls b, hcount, hstep, hevent⟩

end Sys2Proof.Machine
end

section
namespace Sys2Proof.Machine

open Sys2Proof.Claims

/-! PROOFS. VectorInstructionsStart. -/

/-! ### The vector queue -/

/-- What leaves the queue of u has left that of s, where both hold the same issue numbers. -/
theorem VecGone.of_filter {s t u : State} {g : Nat} {o : VOp}
    (hseq : (u.core g).vecq.map VOp.seq = (s.core g).vecq.map VOp.seq)
    (ht : (t.core g).vecq = (u.core g).vecq.filter (fun x => decide (x.seq ≠ o.seq))) : VecGone s t g o := by
  rw [VecGone, ht, ← hseq, List.filter_map]
  rfl

/-- An instruction that faults leaves the queue, names itself in the records and writes no memory. -/
theorem State.vecFault_spec (s : State) (g : Nat) (o : VOp) {code : Nat} (hc : code < 256) :
    VecGone s (s.vecFault g o code) g o ∧ Blamed (s.vecFault g o code) g o.who code ∧ (s.vecFault g o code).mem = s.mem := by
  refine ⟨VecGone.of_filter rfl ?_, State.raiseWho_blamed _ g o.who hc none, State.raiseWho_mem ..⟩
  rw [State.vecFault, State.core_of_cores (State.raiseWho_cores ..), State.core_setCore_same]

theorem State.setVec_only (s : State) (g : Nat) (o : VOp) : OnlyCore s (s.setVec g o) g :=
  ⟨rfl, fun _ h => s.core_setCore_other _ h⟩

theorem State.setVec_vecq (s : State) (g : Nat) (o : VOp) :
    ((s.setVec g o).core g).vecq = (s.core g).vecq.map (fun x => if x.seq = o.seq then o else x) := by
  rw [State.setVec, State.core_setCore_same]

/-! ### The start (R151 to R154) -/

theorem exec_vectorInstructionStart {s : State} {g : Nat} {o : VOp} {rest : List VOp} (hq : (s.core g).vecq = o :: rest)
    (hst : o.started = false) :
    exec (.vectorInstructionStart g) s = .next (if o.dec.op = .vupd then s.updStart g o else s.elemStart g o) := by
  show execVectorInstructionStart g s = _
  rw [execVectorInstructionStart, hq]
  dsimp only
  rw [hst, if_neg (by decide)]
  split <;> rfl

/-- The streams of an instruction are operands, and its destination overlaps no source wrongly (R150, R152). -/
abbrev VecMayStart (s : State) (g : Nat) (o : VOp) (l : VLay) : Prop :=
  s.streamsOk g o.who.c (l.d :: l.reads) = true ∧
    overlapOk (s.placeOf g l.d) (s.placeOf g l.s1) (fmt l.dst).width (fmt l.f).width = true ∧
    ∀ r, l.s2 = some r → overlapOk (s.placeOf g l.d) (s.placeOf g r) (fmt l.dst).width (fmt l.f).width = true

theorem vecMayStart_iff (s : State) (g : Nat) (o : VOp) (l : VLay) :
    VecMayStart s g o l ↔ (!s.streamsOk g o.who.c (l.d :: l.reads) ||
      !overlapOk (s.placeOf g l.d) (s.placeOf g l.s1) (fmt l.dst).width (fmt l.f).width ||
      l.s2.any (fun r => !overlapOk (s.placeOf g l.d) (s.placeOf g r) (fmt l.dst).width (fmt l.f).width)) = false := by
  cases h : l.s2 <;> simp [VecMayStart, h, and_assoc]

section
variable {s : State} {g : Nat} {o : VOp}

theorem State.elemStart_unlaid (hl : vecLay o = none) : s.elemStart g o = s.vecFault g o 0x09 := by
  rw [State.elemStart, hl]

variable {l : VLay} (hl : vecLay o = some l)
include hl

theorem State.elemStart_refused (h : ¬VecMayStart s g o l) : s.elemStart g o = s.vecFault g o 0x09 := by
  rw [vecMayStart_iff, Bool.not_eq_false] at h
  rw [State.elemStart, hl]
  exact if_pos h

/-- What may start waits while a started MWB writes its streams. -/
theorem State.elemStart_eq (h : VecMayStart s g o l) : s.elemStart g o =
    if (s.keysOf g o.who.c (l.d :: l.reads)).any (s.mwbWrites g) then s else s.setVec g { o with started := true } := by
  rw [vecMayStart_iff] at h
  rw [State.elemStart, hl]
  exact if_neg (by rw [h]; decide)

end

/-- Settles O21: a fault, or the wait and start of elemStart_eq. -/
theorem vectorInstructionsStart : Obligations.VectorInstructionsStart := by
  intro s g o rest hq hst hop
  refine ⟨_, exec_vectorInstructionStart hq hst, ?_⟩
  rw [if_neg hop]
  obtain ⟨hgone, hblamed, hfaultMem⟩ := s.vecFault_spec g o (code := 0x09) (by decide)
  cases hl : vecLay o with
  | none =>
    rw [State.elemStart_unlaid hl]
    exact ⟨hfaultMem, fun _ => ⟨hgone, hblamed⟩, fun _ h => absurd h (by simp)⟩
  | some l =>
    by_cases hok : VecMayStart s g o l
    · rw [State.elemStart_eq hl hok]
      refine ⟨by split <;> rfl, fun h => absurd h (by simp), fun l' h => ?_⟩
      obtain rfl : l = l' := Option.some.inj h
      refine ⟨fun h => absurd hok h, fun _ hfree => ?_⟩
      rw [if_neg (by simpa using hfree)]
      exact ⟨s.setVec_only g _, s.setVec_vecq g _⟩
    · rw [State.elemStart_refused hl hok]
      refine ⟨hfaultMem, fun h => absurd h (by simp), fun l' h => ?_⟩
      obtain rfl : l = l' := Option.some.inj h
      exact ⟨fun _ => ⟨hgone, hblamed⟩, fun h => absurd h hok⟩

end Sys2Proof.Machine
end

section
namespace Sys2Proof.Machine

open Sys2Proof.Claims

/-! PROOFS. What the reads, the stores and a completion of the vector engine leave alone (R153, R161). -/

/-! ### Reads and stores -/

/-- t is s after reads and stores of the vector engine on core g: its registers and the order of its queue are as before. -/
structure VecStores (s t : State) (g : Nat) : Prop where
  regs : t.regs = s.regs
  seqs : (t.core g).vecq.map VOp.seq = (s.core g).vecq.map VOp.seq

namespace VecStores

variable {s w : State} {g : Nat}

theorem refl (s : State) (g : Nat) : VecStores s s g := ⟨rfl, rfl⟩

/-- A store changes what waiting instructions have seen, and not the order of the queue. -/
theorem vectorWrite (h : VecStores s w g) (key : Nat) (bs : List Byte) : VecStores s (w.vectorWrite g key bs) g := by
  refine ⟨h.regs, Eq.trans ?_ h.seqs⟩
  rw [State.vectorWrite, State.patchSnaps, State.core_setCore_same, List.map_map]
  refine List.map_congr_left fun o _ => ?_
  dsimp only [Function.comp]
  split <;> rfl

/-- A read draws free values. -/
theorem stream (h : VecStores s w g) (c : Nat) (snap : Mem) (f n : Nat) (r : Nat × Nat) :
    VecStores s (w.stream g c snap f n r).2 g := by
  unfold State.stream
  split
  · exact h
  · exact ⟨h.regs, h.seqs⟩

end VecStores

theorem State.vectorWrite_mem (s : State) (g key : Nat) (bs : List Byte) : (s.vectorWrite g key bs).mem = s.mem.write key bs := rfl

/-! ### A completion (R144, R161) -/

section
variable (s : State) (g c cls seq : Nat) (vector : Bool)

/-- The OVF of an instruction sets the flag of its bracket, or marks a waiting MLB, or nothing. -/
theorem State.bracketOvf_ind {P : State → Prop} (hnone : P s) (hflag : P (s.setF F.MTX_LAYER_FLAG 1 g c cls))
    (hmark : ∀ q, P (s.setCore g { s.core g with mtxq := q })) : P (s.bracketOvf g c cls seq vector) := by
  unfold State.bracketOvf
  extract_lets inOpen u before
  split
  · exact hflag
  split
  · split
    · exact hnone
    split
    · exact hmark _
    · exact hnone
  · exact hnone

theorem State.bracketOvf_mem : (s.bracketOvf g c cls seq vector).mem = s.mem :=
  s.bracketOvf_ind g c cls seq vector (P := fun t => t.mem = s.mem) rfl rfl fun _ => rfl

theorem State.bracketOvf_vecq : ((s.bracketOvf g c cls seq vector).core g).vecq = (s.core g).vecq :=
  s.bracketOvf_ind g c cls seq vector (P := fun t => (t.core g).vecq = (s.core g).vecq) rfl rfl fun _ => by
    rw [State.core_setCore_same]

theorem State.bracketOvf_reg {r : Reg} (hr : r.name ≠ .MTX_LAYER) : (s.bracketOvf g c cls seq vector).reg r = s.reg r :=
  s.bracketOvf_ind g c cls seq vector (P := fun t => t.reg r = s.reg r) rfl
    (State.reg_setF_other _ _ _ _ _ _ fun e => hr (congrArg Reg.name e)) fun _ => rfl

end

section
variable (s : State) (g : Nat) (o : VOp) (fl : FFlags)

theorem State.vecDone_mem : (s.vecDone g o fl).mem = s.mem := by
  rw [State.vecDone]
  rw [State.progress_mem]
  split
  · exact State.bracketOvf_mem ..
  · rfl

theorem State.vecDone_vecq : ((s.vecDone g o fl).core g).vecq = (s.core g).vecq.filter (fun x => decide (x.seq ≠ o.seq)) := by
  rw [State.vecDone]
  rw [State.progress_core]
  split
  · rw [State.bracketOvf_vecq, State.setReg_core, State.core_setCore_same]
  · rw [State.setReg_core, State.core_setCore_same]

/-- The registers after a completion, but for the bracket's. -/
theorem State.vecDone_reg {r : Reg} (hr : r.name ≠ .MTX_LAYER) : (s.vecDone g o fl).reg r =
    (s.setReg ⟨.VEC_FLAGS, g, o.who.c, 0⟩ (s.reg ⟨.VEC_FLAGS, g, o.who.c, 0⟩ ||| BitVec.ofNat 64 fl.toNat)).reg r := by
  rw [State.vecDone]
  rw [State.progress_reg]
  split
  · exact State.bracketOvf_reg _ _ _ _ _ _ hr
  · rfl

theorem State.vecDone_flags : (s.vecDone g o fl).reg ⟨.VEC_FLAGS, g, o.who.c, 0⟩ =
    s.reg ⟨.VEC_FLAGS, g, o.who.c, 0⟩ ||| BitVec.ofNat 64 fl.toNat := by
  rw [State.vecDone_reg _ _ _ _ (by simp), State.reg_setReg_same]

theorem State.vecDone_f (x : Fld) (i j k : Nat) (hlayer : x.reg ≠ .MTX_LAYER) (hflags : x.reg ≠ .VEC_FLAGS) :
    (s.vecDone g o fl).f x i j k = s.f x i j k := by
  rw [State.f, State.vecDone_reg _ _ _ _ (r := ⟨x.reg, i, j, k⟩) hlayer,
    State.reg_setReg_other _ _ fun e => hflags (congrArg Reg.name e), State.f]

end

theorem VecStores.gone {s w : State} {g : Nat} (h : VecStores s w g) (o : VOp) (fl : FFlags) :
    VecGone s (w.vecDone g o fl) g o :=
  VecGone.of_filter h.seqs (w.vecDone_vecq g o fl)

theorem exec_vectorInstructionComplete {s : State} {g : Nat} {o : VOp} {rest : List VOp} (hq : (s.core g).vecq = o :: rest)
    (hst : o.started = true) :
    exec (.vectorInstructionComplete g) s = .next (if o.dec.op = .vupd then s.updComplete g o else s.elemComplete g o) := by
  show execVectorInstructionComplete g s = _
  rw [execVectorInstructionComplete, hq]
  dsimp only
  rw [hst, if_neg (by decide)]
  split <;> rfl

end Sys2Proof.Machine
end

section
namespace Sys2Proof.Machine

open Sys2Proof.Claims

/-! PROOFS. VectorInstructionsComplete. -/

/-! ### The streams of an instruction whose sources have not changed (R153) -/

/-- The elements of a stream as they stand. -/
def State.elemsAt (s : State) (g c f n : Nat) (r : Nat × Nat) : List Nat :=
  ((s.winKey g c r.1 r.2).map (fun k => unpackElems (fmt f).width n (s.mem.read k r.2))).getD []

/-- The elements of a stream that an instruction may have, and the state after their reads. -/
def State.streamOpt (s : State) (g c : Nat) (snap : Mem) (f n : Nat) : Option (Nat × Nat) → List Nat × State
  | none => ([], s)
  | some r => s.stream g c snap f n r

section
variable {s : State} {g c f n : Nat} {snap : Mem}

/-- A stream that has not changed since its issue reads as it stands, and draws free values. -/
theorem State.stream_of_unraced {r : Nat × Nat} (h : ∀ k, s.winKey g c r.1 r.2 = some k → Unraced s snap k r.2) (m : Nat) :
    ∃ m', ({ s with freeCtr := m } : State).stream g c snap f n r = (s.elemsAt g c f n r, { s with freeCtr := m' }) := by
  have hkey : ({ s with freeCtr := m } : State).winKey g c r.1 r.2 = s.winKey g c r.1 r.2 := rfl
  rw [State.stream, hkey, State.elemsAt]
  cases hk : s.winKey g c r.1 r.2 with
  | none => exact ⟨m, rfl⟩
  | some k =>
    dsimp only
    rw [State.raced_of_unraced (s := { s with freeCtr := m }) (h k hk)]
    exact ⟨_, rfl⟩

theorem State.streamOpt_of_unraced {x : Option (Nat × Nat)}
    (h : ∀ r k, x = some r → s.winKey g c r.1 r.2 = some k → Unraced s snap k r.2) (m : Nat) :
    ∃ m', ({ s with freeCtr := m } : State).streamOpt g c snap f n x =
      ((x.map (s.elemsAt g c f n)).getD [], { s with freeCtr := m' }) := by
  cases x with
  | none => exact ⟨m, rfl⟩
  | some r => exact State.stream_of_unraced (h r · rfl) m

end

/-! ### The completion (R155 to R161) -/

section
variable {s : State} {g : Nat} {o : VOp} {l : VLay} (hl : vecLay o = some l)
include hl

theorem State.elemComplete_poisoned (h : (s.keysOf g o.who.c l.reads).any (fun r => s.poisoned r.1 r.2) = true) :
    s.elemComplete g o = s.vecFault g o 0x0D := by
  rw [State.elemComplete, hl]
  exact if_pos h

/-- The results and flags of an instruction over its sources as they stand. -/
abbrev State.elemResult (s : State) (g : Nat) (o : VOp) (l : VLay) : List Nat × FFlags :=
  vecResult o l (s.elemsAt g o.who.c l.f o.vlen l.s1) ((l.s2.map (s.elemsAt g o.who.c l.f o.vlen)).getD [])
    ((l.prior.map (s.elemsAt g o.who.c l.f o.vlen)).getD [])

/-- A completion writes the results of sources that have not changed, once. -/
theorem State.elemComplete_stores (hclean : (s.keysOf g o.who.c l.reads).any (fun r => s.poisoned r.1 r.2) = false)
    (h1 : ∀ k, s.winKey g o.who.c l.s1.1 l.s1.2 = some k → Unraced s o.snap k l.s1.2)
    (h2 : ∀ r k, l.s2 = some r → s.winKey g o.who.c r.1 r.2 = some k → Unraced s o.snap k r.2)
    (h3 : ∀ r k, l.prior = some r → s.winKey g o.who.c r.1 r.2 = some k → Unraced s o.snap k r.2)
    {kd : Nat} (hkd : s.winKey g o.who.c l.d.1 l.d.2 = some kd) :
    ∃ m, s.elemComplete g o = (({ s with freeCtr := m } : State).vectorWrite g kd
      (packElems (fmt l.dst).width (s.elemResult g o l).1)).vecDone g o (s.elemResult g o l).2 := by
  obtain ⟨m1, e1⟩ := State.stream_of_unraced (f := l.f) (n := o.vlen) h1 s.freeCtr
  obtain ⟨m2, e2⟩ := State.streamOpt_of_unraced (f := l.f) (n := o.vlen) h2 m1
  obtain ⟨m3, e3⟩ := State.streamOpt_of_unraced (f := l.f) (n := o.vlen) h3 m2
  have hkey : ({ s with freeCtr := m3 } : State).winKey g o.who.c l.d.1 l.d.2 = some kd := hkd
  have hreads : s.elemComplete g o =
      let (s1, w) := s.stream g o.who.c o.snap l.f o.vlen l.s1
      let (s2, w) := w.streamOpt g o.who.c o.snap l.f o.vlen l.s2
      let (pr, w) := w.streamOpt g o.who.c o.snap l.f o.vlen l.prior
      let (es, fl) := vecResult o l s1 s2 pr
      let w := match w.winKey g o.who.c l.d.1 l.d.2 with
        | none => w
        | some key => w.vectorWrite g key (packElems (fmt l.dst).width es)
      w.vecDone g o fl := by
    rw [State.elemComplete, hl]
    dsimp only
    rw [hclean, if_neg (by decide)]
    rfl
  refine ⟨m3, ?_⟩
  rw [hreads, show s.stream g o.who.c o.snap l.f o.vlen l.s1 = _ from e1]
  dsimp only
  rw [e2]
  dsimp only
  rw [e3]
  dsimp only
  rw [hkey]

end

/-- Settles O22: a fault, or elemComplete_stores. -/
theorem vectorInstructionsComplete : Obligations.VectorInstructionsComplete := by
  intro s g kd k1 o rest l hq hst hop hl hkd hk1 h1 h2 h3
  refine ⟨_, exec_vectorInstructionComplete hq hst, ?_⟩
  rw [if_neg hop]
  cases hbad : (s.keysOf g o.who.c l.reads).any (fun r => s.poisoned r.1 r.2) with
  | true =>
    obtain ⟨hgone, hblamed, hmem⟩ := s.vecFault_spec g o (code := 0x0D) (by decide)
    rw [State.elemComplete_poisoned hl hbad]
    exact ⟨hgone, fun _ => ⟨hblamed, hmem⟩, fun h => absurd h (by simp)⟩
  | false =>
    have h1' (k : Nat) (hk : s.winKey g o.who.c l.s1.1 l.s1.2 = some k) : Unraced s o.snap k l.s1.2 := by
      obtain rfl : k1 = k := Option.some.inj (hk1.symm.trans hk)
      exact h1
    obtain ⟨m, he⟩ := State.elemComplete_stores hl hbad h1' h2 h3 hkd
    have hstores : Stores s (s.elemComplete g o) kd (packElems (fmt l.dst).width (s.elemResult g o l).1) :=
      Stores.of_mem (by rw [he, State.vecDone_mem, State.vectorWrite_mem])
    refine ⟨?_, fun h => absurd h (by simp), fun _ => ⟨hstores.1, hstores.2, ?_⟩⟩
    · rw [he]
      exact ((VecStores.mk rfl rfl : VecStores s { s with freeCtr := m } g).vectorWrite ..).gone ..
    · rw [he]
      exact State.vecDone_flags ..

end Sys2Proof.Machine
end

section
namespace Sys2Proof.Machine

/-! PROOFS. The passes of a VUPD are reads and stores of the vector engine (R169 to R175). -/

namespace VecStores

variable {s w : State} {g : Nat}

theorem uread (h : VecStores s w g) (o : VOp) (f n addr len : Nat) : VecStores s (w.uread g o f n addr len).2 g :=
  h.stream ..

theorem uwrite (h : VecStores s w g) (c f addr : Nat) (es : List Nat) : VecStores s (w.uwrite g c f addr es) g := by
  unfold State.uwrite
  split
  · exact h
  · exact h.vectorWrite ..

theorem ite {t : State} {p : Prop} {_ : Decidable p} (hw : VecStores s w g) (ht : VecStores s t g) :
    VecStores s (if p then w else t) g := by
  split
  · exact hw
  · exact ht

theorem ureadIf (h : VecStores s w g) (o : VOp) (f n addr len : Nat) {p : Prop} {_ : Decidable p} :
    VecStores s (if p then w.uread g o f n addr len else (#[], w)).2 g := by
  split
  · exact h.uread ..
  · exact h

/-- The state of a pair, once that is taken apart. -/
theorem of_eq {α : Type} {e : α × State} {x : α} {t : State} (h : VecStores s e.2 g) (he : e = (x, t)) : VecStores s t g := by
  rwa [he] at h

/-- The apply reads its arrays, then writes the weights and the moments that its rule has. -/
theorem updApply (h : VecStores s w g) (o : VOp) : VecStores s (w.updApply g o).1 g := by
  unfold State.updApply
  extract_lets u c sd
  split; next ge w e =>
  replace h := (h.uread ..).of_eq e
  split; next lt w e =>
  replace h := (h.ureadIf ..).of_eq e
  split; next we w e =>
  replace h := (h.uread ..).of_eq e
  split; next me w e =>
  replace h := (h.ureadIf ..).of_eq e
  split; next ve w e =>
  replace h := (h.ureadIf ..).of_eq e
  split; next re w e =>
  replace h := (h.ureadIf ..).of_eq e
  split; next ce w e =>
  replace h := (h.ureadIf ..).of_eq e
  extract_lets outs col w1 w2
  have h1 : VecStores s w1 g := h.uwrite ..
  have h2 : VecStores s w2 g := ite (h1.uwrite ..) h1
  exact ite (h2.uwrite ..) h2

/-- The statistics pass reads the gradient and the sums, and writes the sums and, at its end, the statistics. -/
theorem updStats (h : VecStores s w g) (o : VOp) : VecStores s (w.updStats g o).1 g := by
  unfold State.updStats
  extract_lets u c
  split; next ge w e =>
  replace h := (h.uread ..).of_eq e
  split; next ra w e =>
  replace h := (h.uread ..).of_eq e
  split; next ca w e =>
  replace h := (h.uread ..).of_eq e
  extract_lets q rows cols fl w1 w2
  have hsums : VecStores s w2 g := (h.uwrite ..).uwrite ..
  split
  · exact hsums
  split; next ri w e =>
  replace h := (hsums.uread ..).of_eq e
  split; next ci w e =>
  replace h := (h.uread ..).of_eq e
  exact (h.uwrite ..).uwrite ..

end VecStores
end Sys2Proof.Machine
end

section
namespace Sys2Proof.Machine

open Sys2Proof.Claims

/-! PROOFS. UpdatesStartAndComplete. -/

/-! ### The start (R153, R166, R167) -/

section
variable (s : State) (g : Nat) (o : VOp)

/-- The descriptors of a VUPD. -/
abbrev VOp.descs (o : VOp) : List (Nat × Nat) := [(o.ra, 128), (o.rb, 64), (o.rc, 128)]

/-- A VUPD starts, waits or faults: its start writes no memory. -/
theorem State.updStart_mem : (s.updStart g o).mem = s.mem := by
  have hfault (code : Nat) : (s.vecFault g o code).mem = s.mem := State.raiseWho_mem ..
  unfold State.updStart
  extract_lets c descs u arrs
  split
  · exact hfault _
  split
  · rfl
  split
  · exact hfault _
  split
  · exact hfault _
  split
  · rfl
  split
  · exact hfault _
  · rfl

variable {s g o}

theorem State.updStart_refused (h : s.streamsOk g o.who.c o.descs = false) : s.updStart g o = s.vecFault g o 0x09 :=
  if_pos (by rw [h]; rfl)

variable (h : s.streamsOk g o.who.c o.descs = true)
include h

/-- On descriptors that are operands, a VUPD waits for the MWB that writes them, then checks them. -/
theorem State.updStart_waits (hmwb : (s.keysOf g o.who.c o.descs).any (s.mwbWrites g) = true) : s.updStart g o = s :=
  (if_neg (by rw [h]; decide)).trans (if_pos hmwb)

theorem State.updStart_poisoned (hmwb : (s.keysOf g o.who.c o.descs).any (s.mwbWrites g) = false)
    (hp : (s.keysOf g o.who.c o.descs).any (fun r => s.poisoned r.1 r.2) = true) : s.updStart g o = s.vecFault g o 0x0D :=
  (if_neg (by rw [h]; decide)).trans ((if_neg (by rw [hmwb]; decide)).trans (if_pos hp))

end

/-! ### The layer descriptor (R177, Table VEC-6) -/

/-- The first bytes of a store read back. -/
theorem leNat_of_write_take {t : State} {m : Mem} {key n : Nat} {bs : List Byte} (h : t.mem = m.write key bs)
    (hn : n ≤ bs.length) : leNat t key n = ofLE (bs.take n) := by
  obtain ⟨r, hr⟩ := Nat.exists_eq_add_of_le hn
  have hread : (m.write key bs).read key bs.length = bs := State.read_write { t with mem := m } key bs
  rw [hr, Mem.read_append] at hread
  rw [leNat_eq_readN, State.readN, State.read, h]
  conv_rhs => rw [← hread, List.take_left' (by simp [Mem.read])]

/-- T of a layer descriptor after a completed VUPD: it advances at the last segment of a step. -/
theorem Upd.progress_steps (u : Upd) (fl : FFlags) (sumR : Option Nat) : (u.progress fl sumR).1 % 256 ^ 4 =
    if u.done + 1 = u.tiles ∧ ¬(u.rule = 1 ∧ u.phase = 0) then (u.lf 4 0 32 + 1) % 2 ^ 32 else u.lf 4 0 32 := by
  have hlt : u.lf 4 0 32 < 2 ^ 32 := Nat.mod_lt _ (by decide)
  unfold Upd.progress
  dsimp only
  split
  · exact Nat.mod_mod _ _
  · omega

/-- The state with the layer descriptor of a VUPD brought up to date. -/
def State.updStored (s : State) (g : Nat) (o : VOp) (fl : FFlags) (sumR : Option Nat) : State :=
  match s.winKey g o.who.c (o.ra + 32) 24 with
  | none => s
  | some key => s.vectorWrite g key
      (toLE 8 (o.upd.progress fl sumR).1 ++ toLE 8 (o.upd.progress fl sumR).2.1 ++ toLE 8 (o.upd.progress fl sumR).2.2)

theorem VecStores.updStored {s w : State} {g : Nat} (h : VecStores s w g) (o : VOp) (fl : FFlags) (sumR : Option Nat) :
    VecStores s (w.updStored g o fl sumR) g := by
  unfold State.updStored
  split
  · exact h
  · exact h.vectorWrite ..

theorem State.updStored_steps {s t : State} {g key : Nat} {o : VOp} {fl : FFlags} {sumR : Option Nat}
    (hkey : s.winKey g o.who.c (o.ra + 32) 24 = some key) (ht : t.mem = (s.updStored g o fl sumR).mem) :
    leNat t key 4 = (o.upd.progress fl sumR).1 % 256 ^ 4 := by
  rw [State.updStored, hkey] at ht
  rw [leNat_of_write_take ht (by simp [toLE_length])]
  exact ofLE_toLE 4 _

/-! ### The counters (R178) -/

/-- The events of a VUPD's flags. -/
def State.updFlagged (s : State) (c : Nat) (fl : FFlags) : State :=
  let s := if fl.ovf then s.event F.VEC_EVENT_UPD_OVF c else s
  if fl.inv then s.event F.VEC_EVENT_UPD_INV c else s

/-- The registers in which a VUPD counts, the word VEC_UPD_LAST, and its events. -/
def State.updCounted (s : State) (g : Nat) (o : VOp) (fl : FFlags) (last : Word) : State :=
  let s := (s.addF F.VEC_UPD_COUNT_COUNT 1 g o.who.c).setReg ⟨.VEC_UPD_LAST, g, o.who.c, 0⟩ last
  (if o.upd.n = 0 then (s.addF F.VEC_UPD_SKIPS_COUNT 1 g o.who.c).event F.VEC_EVENT_UPD_SKIP o.who.c else s).updFlagged
    o.who.c fl

section
variable (s : State) (g c : Nat) (o : VOp) (fl : FFlags) (last : Word)

theorem State.updFlagged_keeps {α : Type} {π : State → α} (hπ : Blind π) :
    Keeps π s (s.updFlagged c fl) [F.VEC_UPD_COUNT_COUNT, F.VEC_UPD_SKIPS_COUNT] := by
  have start : Keeps π s s [F.VEC_UPD_COUNT_COUNT, F.VEC_UPD_SKIPS_COUNT] := .refl hπ s
  have hovf : Keeps π s (if fl.ovf then s.event F.VEC_EVENT_UPD_OVF c else s) [F.VEC_UPD_COUNT_COUNT, F.VEC_UPD_SKIPS_COUNT] :=
    .ite start.event start
  exact Keeps.ite hovf.event hovf

theorem State.updCounted_keeps {α : Type} {π : State → α} (hπ : Blind π) : Keeps π s (s.updCounted g o fl last) [] := by
  have start : Keeps π s s [] := .refl hπ s
  have h : Keeps π s ((s.addF F.VEC_UPD_COUNT_COUNT 1 g o.who.c).setReg ⟨.VEC_UPD_LAST, g, o.who.c, 0⟩ last) [] :=
    start.addF.setReg
  exact (Keeps.ite h.addF.event h).trans ((State.updFlagged_keeps _ _ fl hπ).mono (List.nil_subset _))

theorem State.updFlagged_f {x : Fld} (hx : x ∈ [F.VEC_UPD_COUNT_COUNT, F.VEC_UPD_SKIPS_COUNT]) (i j k : Nat) :
    (s.updFlagged c fl).f x i j k = s.f x i j k :=
  (s.updFlagged_keeps c fl (π := fun _ => ()) fun _ _ _ _ => rfl).field x hx i j k

theorem State.f_setReg_name {n : RegName} {i' j' k' : Nat} (w : Word) (x : Fld) (i j k : Nat) (h : x.reg ≠ n) :
    (s.setReg ⟨n, i', j', k'⟩ w).f x i j k = s.f x i j k := by
  rw [State.f, s.reg_setReg_other w fun e => h (congrArg Reg.name e), State.f]

/-- A completed VUPD is counted. -/
theorem State.updCounted_count : (s.updCounted g o fl last).f F.VEC_UPD_COUNT_COUNT g o.who.c =
    (s.f F.VEC_UPD_COUNT_COUNT g o.who.c + 1) % 2 ^ F.VEC_UPD_COUNT_COUNT.len := by
  have hcount : ((s.addF F.VEC_UPD_COUNT_COUNT 1 g o.who.c).setReg ⟨.VEC_UPD_LAST, g, o.who.c, 0⟩ last).f
      F.VEC_UPD_COUNT_COUNT g o.who.c = (s.f F.VEC_UPD_COUNT_COUNT g o.who.c + 1) % 2 ^ F.VEC_UPD_COUNT_COUNT.len := by
    rw [State.f_setReg_name _ _ _ _ _ _ (by decide), State.addF_eq, State.f_setF_same _ _ _ _ _ _ (by decide)]
  rw [State.updCounted, State.updFlagged_f _ _ _ (by decide)]
  split
  · rw [State.f_event_name _ _ _ _ _ _ _ _ _ (by decide), State.addF_eq, State.f_setF_name _ _ _ _ _ _ _ _ _ _ (by decide), hcount]
  · exact hcount

/-- A skip is counted. -/
theorem State.updCounted_skips : (s.updCounted g o fl last).f F.VEC_UPD_SKIPS_COUNT g o.who.c =
    (s.f F.VEC_UPD_SKIPS_COUNT g o.who.c + if o.upd.n = 0 then 1 else 0) % 2 ^ F.VEC_UPD_SKIPS_COUNT.len := by
  have hskips : ((s.addF F.VEC_UPD_COUNT_COUNT 1 g o.who.c).setReg ⟨.VEC_UPD_LAST, g, o.who.c, 0⟩ last).f
      F.VEC_UPD_SKIPS_COUNT g o.who.c = s.f F.VEC_UPD_SKIPS_COUNT g o.who.c := by
    rw [State.f_setReg_name _ _ _ _ _ _ (by decide), State.addF_eq, State.f_setF_name _ _ _ _ _ _ _ _ _ _ (by decide)]
  rw [State.updCounted, State.updFlagged_f _ _ _ (by decide)]
  split
  · rw [State.f_event_name _ _ _ _ _ _ _ _ _ (by decide), State.addF_eq, State.f_setF_same _ _ _ _ _ _ (by decide), hskips]
  · exact hskips.trans (Nat.mod_mod _ _).symm

end

/-! ### The completion -/

/-- What a VUPD computes and writes before its layer descriptor: a statistics pass or an apply. -/
def State.updPass (s : State) (g : Nat) (o : VOp) : State × FFlags × Option Nat :=
  if o.upd.rule = 1 ∧ o.upd.phase = 0 then s.updStats g o else ((s.updApply g o).1, (s.updApply g o).2, none)

theorem State.updPass_stores (s : State) (g : Nat) (o : VOp) : VecStores s (s.updPass g o).1 g := by
  unfold State.updPass
  split
  · exact (VecStores.refl s g).updStats o
  · exact (VecStores.refl s g).updApply o

/-- Of ranges that hold no poisoned bytes none is poisoned. -/
theorem State.keysOf_clean {s : State} {g c : Nat} {rs : List (Nat × Nat)}
    (h : ∀ r ∈ rs, ∀ k, s.winKey g c r.1 r.2 = some k → s.poisoned k r.2 = false) :
    (s.keysOf g c rs).any (fun r => s.poisoned r.1 r.2) = false := by
  rw [List.any_eq_false]
  intro x hx
  obtain ⟨r, hr, hmap⟩ := List.mem_filterMap.mp hx
  obtain ⟨k, hk, rfl⟩ := Option.map_eq_some_iff.mp hmap
  simp [h r hr k hk]

/-- A VUPD on arrays that are not poisoned, without a late total, completes: its pass, its descriptor, its counters. -/
theorem State.updComplete_eq {s : State} {g : Nat} {o : VOp} (hlate : o.upd.lateAddr = 0)
    (hclean : ∀ a ∈ o.upd.arrays, ∀ k, s.winKey g o.who.c a.addr a.len = some k → s.poisoned k a.len = false) :
    ∃ fl sumR last, s.updComplete g o = (((s.updPass g o).1.updStored g o fl sumR).updCounted g o fl last).vecDone g o fl := by
  have harrs : ¬((s.keysOf g o.who.c (o.upd.arrays.map (fun a => (a.addr, a.len)))).any (fun r => s.poisoned r.1 r.2) = true ∨
      (o.upd.lateAddr ≠ 0 ∧ (crc64 (s.winBytes g o.who.c (o.upd.lateAddr + 64) 131072)).toNat ≠ wordAt o.upd.late 4)) := by
    rw [State.keysOf_clean (by simpa using hclean)]
    simp [hlate]
  refine ⟨(s.updPass g o).2.1, (s.updPass g o).2.2, ?_⟩
  rw [State.updComplete]
  dsimp only
  rw [if_neg harrs]
  exact ⟨_, rfl⟩

/-- Settles O23: the checks of updStart in their order, and the parts of updComplete_eq. -/
theorem updatesStartAndComplete : Obligations.UpdatesStartAndComplete := by
  intro s g o rest hq hop c descs u
  refine ⟨fun hst => ⟨_, exec_vectorInstructionStart hq hst, ?start⟩, fun hst hlate hclean =>
    ⟨_, exec_vectorInstructionComplete hq hst, ?complete⟩⟩ <;> rw [if_pos hop]
  case start =>
    refine ⟨s.updStart_mem g o, fun h => ?_, fun h ⟨r, hr, hw⟩ => ?_, fun h hfree ⟨r, hr, hp⟩ => ?_⟩
    · obtain ⟨hgone, hblamed, -⟩ := s.vecFault_spec g o (code := 0x09) (by decide)
      rw [State.updStart_refused h]
      exact ⟨hgone, hblamed⟩
    · exact State.updStart_waits h (List.any_eq_true.mpr ⟨r, hr, hw⟩)
    · obtain ⟨hgone, hblamed, -⟩ := s.vecFault_spec g o (code := 0x0D) (by decide)
      rw [State.updStart_poisoned h (by simpa using hfree) (List.any_eq_true.mpr ⟨r, hr, hp⟩)]
      exact ⟨hgone, hblamed⟩
  case complete =>
    obtain ⟨fl, sumR, last, he⟩ := State.updComplete_eq hlate hclean
    have hpass := s.updPass_stores g o
    generalize (s.updPass g o).1 = w at he hpass
    have hstored := hpass.updStored o fl sumR
    have hcores := ((w.updStored g o fl sumR).updCounted_keeps g o fl last (π := State.cores) fun _ _ _ _ => rfl).part
    have hmem := ((w.updStored g o fl sumR).updCounted_keeps g o fl last (π := State.mem) fun _ _ _ _ => rfl).part
    rw [he]
    refine ⟨VecGone.of_filter ?_ (State.vecDone_vecq ..), ?_, ?_, fun key hkey => ?_⟩
    · rw [State.core_of_cores hcores, hstored.seqs]
    · rw [State.vecDone_f _ _ _ _ _ _ _ _ (by decide) (by decide), State.updCounted_count, State.f_of_regs hstored.regs]
    · rw [State.vecDone_f _ _ _ _ _ _ _ _ (by decide) (by decide), State.updCounted_skips, State.f_of_regs hstored.regs]
    · rw [State.updStored_steps (by rw [State.winKey_of_regs hpass.regs]; exact hkey) ((State.vecDone_mem ..).trans hmem),
        Upd.progress_steps]

end Sys2Proof.Machine
end

section
/-! PROOFS. What the receiver of packets changes beside their effects: receive flows, the counters of links, and what leaves
(R317, R324, R326, R327). -/

namespace Sys2Proof.Machine

open Sys2Proof.Claims

/-! ### All but flows, link counters and frames -/

/-- The registers that count what crosses a link. -/
def linkCounters : List RegName := [.NET_LINK_RX, .NET_LINK_TX, .NET_LINK_CE]

/-- The state but for the registers, the receive flows, the ports that pause, and frames that left or wait. -/
def State.besideNet (s : State) : State := { s with regs := [], rflows := [], out := [], netWait := [], pausing := [] }

/-- t is a but for receive flows, link counters, ports that pause, and frames that have left or wait since. -/
structure NetOnly (a t : State) : Prop where
  beside : t.besideNet = a.besideNet
  reg : ∀ r : Reg, r.name ∉ linkCounters → t.reg r = a.reg r
  listed : ∀ n, n ∉ linkCounters → t.listed n = a.listed n
  out : a.out ⊆ t.out
  netWait : a.netWait ⊆ t.netWait

/-- A key that a test rejects leaves the listed keys of the test as it goes. -/
theorem SMap.erase_keys_filter {κ ν : Type} [DecidableEq κ] (p : κ → Bool) (m : SMap κ ν) {k : κ} (hk : p k = false) :
    (m.erase k).keys.filter p = m.keys.filter p := by
  induction m with
  | nil => rfl
  | cons e m ih =>
    obtain ⟨j, v⟩ := e
    by_cases hj : j = k
    · subst hj
      simpa [SMap.erase, SMap.keys, hk] using ih
    · simp only [SMap.erase, if_neg hj, SMap.keys, List.map_cons, List.filter_cons] at ih ⊢
      rw [ih]

/-- A key that a test rejects leaves the listed keys of the test as it comes. -/
theorem SMap.insert_keys_filter {κ ν : Type} (p : κ → Bool) (rank : κ → Nat) (m : SMap κ ν) {k : κ} (v : ν)
    (hk : p k = false) : (m.insert rank k v).keys.filter p = m.keys.filter p := by
  induction m with
  | nil => simp [SMap.insert, SMap.keys, hk]
  | cons e m ih =>
    obtain ⟨j, w⟩ := e
    by_cases hr : rank k < rank j
    · simp [SMap.insert, SMap.keys, hr, hk]
    · simp only [SMap.insert, if_neg hr, SMap.keys, List.map_cons, List.filter_cons] at ih ⊢
      rw [ih]

/-- A write to a register of another name leaves the listed registers of that name. -/
theorem State.listed_setReg (s : State) {r : Reg} (w : Word) {n : RegName} (h : n ≠ r.name) :
    (s.setReg r w).listed n = s.listed n := by
  have hr : decide (r.name = n) = false := decide_eq_false h.symm
  unfold State.listed State.setReg SMap.set
  dsimp only
  split
  · exact SMap.erase_keys_filter (fun r : Reg => decide (r.name = n)) _ hr
  · rw [SMap.insert_keys_filter (fun r : Reg => decide (r.name = n)) _ _ _ hr,
      SMap.erase_keys_filter (fun r : Reg => decide (r.name = n)) _ hr]

theorem State.listed_setF (s : State) {x : Fld} (v i j k : Nat) {n : RegName} (h : n ≠ x.reg) :
    (s.setF x v i j k).listed n = s.listed n := s.listed_setReg _ h

namespace NetOnly

variable {a s t : State}

theorem refl (a : State) : NetOnly a a := ⟨rfl, fun _ _ => rfl, fun _ _ => rfl, fun _ h => h, fun _ h => h⟩

theorem trans {u : State} (h : NetOnly a t) (h' : NetOnly t u) : NetOnly a u :=
  ⟨h'.beside.trans h.beside, fun r hr => (h'.reg r hr).trans (h.reg r hr), fun n hn => (h'.listed n hn).trans (h.listed n hn),
    fun _ hq => h'.out (h.out hq), fun _ hq => h'.netWait (h.netWait hq)⟩

theorem mem (h : NetOnly a t) : t.mem = a.mem := (congrArg State.mem h.beside :)
theorem clk (h : NetOnly a t) : t.clk = a.clk := (congrArg State.clk h.beside :)
theorem sflows (h : NetOnly a t) : t.sflows = a.sflows := (congrArg State.sflows h.beside :)
theorem granted (h : NetOnly a t) : t.granted = a.granted := (congrArg State.granted h.beside :)
theorem lendRel (h : NetOnly a t) : t.lendRel = a.lendRel := (congrArg State.lendRel h.beside :)
theorem colRels (h : NetOnly a t) : t.colRels = a.colRels := (congrArg State.colRels h.beside :)
theorem colHist (h : NetOnly a t) : t.colHist = a.colHist := (congrArg State.colHist h.beside :)
theorem hops (h : NetOnly a t) : t.hops = a.hops := (congrArg State.hops h.beside :)

theorem f (h : NetOnly a t) (x : Fld) (i j k : Nat) (hx : x.reg ∉ linkCounters) : t.f x i j k = a.f x i j k := by
  rw [State.f, h.reg _ hx, State.f]

theorem fb (h : NetOnly a t) (x : Fld) (i j k : Nat) (hx : x.reg ∉ linkCounters) : t.fb x i j k = a.fb x i j k := by
  rw [State.fb, h.f x i j k hx, State.fb]

/-- What has left or waits stays so. -/
theorem gone (h : NetOnly a t) {P : Packet → Prop} : Gone a P → Gone t P
  | ⟨q, hq, .inl ⟨l, hl⟩⟩ => ⟨q, hq, .inl ⟨l, h.out hl⟩⟩
  | ⟨q, hq, .inr hw⟩ => ⟨q, hq, .inr (h.netWait hw)⟩

/-- A change of the parts named only. -/
theorem other (h : NetOnly a s) (hb : t.besideNet = s.besideNet) (hr : t.regs = s.regs) (ho : s.out ⊆ t.out)
    (hw : s.netWait ⊆ t.netWait) : NetOnly a t :=
  h.trans ⟨hb, fun r _ => by rw [State.reg, State.reg, hr], fun n _ => by rw [State.listed, State.listed, hr], ho, hw⟩

theorem ite {c : Prop} {_ : Decidable c} (hs : NetOnly a s) (ht : NetOnly a t) : NetOnly a (if c then s else t) := by
  split
  · exact hs
  · exact ht

theorem addF (h : NetOnly a s) {x : Fld} {n i j k : Nat} (hx : x.reg ∈ linkCounters) : NetOnly a (s.addF x n i j k) :=
  h.trans ⟨rfl, fun _ hr => s.reg_setF_other _ _ _ _ _ fun e => hr (by rw [e]; exact hx),
    fun _ hn => s.listed_setF _ _ _ _ fun e => hn (e ▸ hx), fun _ h => h, fun _ h => h⟩

theorem sendOn (h : NetOnly a s) (l : Nat) (p : Packet) : NetOnly a (s.sendOn l p) :=
  (h.addF (x := F.NET_LINK_TX_BYTES) (by decide)).other rfl rfl (List.subset_cons_self _ _) fun _ h => h

theorem send (h : NetOnly a s) (l : Option Nat) (p : Packet) : NetOnly a (s.send l p) := by
  unfold State.send
  split
  · exact h.sendOn _ _
  · exact ite h (h.other rfl rfl (fun _ h => h) (List.subset_append_left _ _))

theorem setRFlow (h : NetOnly a s) (r : RFlow) : NetOnly a (s.setRFlow r) :=
  ite (h.other rfl rfl (fun _ h => h) fun _ h => h) (h.other rfl rfl (fun _ h => h) fun _ h => h)

theorem answer (h : NetOnly a s) (r : RFlow) (type addr : Nat) : NetOnly a (s.answer r type addr) :=
  (h.setRFlow _).send _ _

theorem sendAck (h : NetOnly a s) (node flow : Nat) : NetOnly a (s.sendAck node flow) := by
  unfold State.sendAck
  split
  · exact h
  · exact h.answer _ _ _

theorem pfcPort (h : NetOnly a s) (p : Nat) : NetOnly a (s.pfcPort p) :=
  have stays {x : List Nat} : NetOnly a { s with pausing := x } := h.other rfl rfl (fun _ h => h) fun _ h => h
  have tells {x : List Nat} {o : Out} : NetOnly a { s with pausing := x, out := o :: s.out } :=
    h.other rfl rfl (List.subset_cons_self _ _) fun _ h => h
  ite stays (ite tells (ite tells h))

theorem pfcAll (h : NetOnly a s) : NetOnly a s.pfcAll := List.foldlRecOn _ _ h fun _ h _ _ => pfcPort h _

theorem dropRFlow (h : NetOnly a s) (node flow : Nat) : NetOnly a (s.dropRFlow node flow) :=
  pfcAll (h.other rfl rfl (fun _ h => h) fun _ h => h)

theorem readN (h : NetOnly a t) (key n : Nat) : t.readN key n = a.readN key n := by
  rw [State.readN, State.read, h.mem, State.readN, State.read]

theorem netAddr (h : NetOnly a t) : t.netAddr = a.netAddr := by
  simp only [State.netAddr, h.f F.NET_ADDR_HI_ADDR _ _ _ (by decide), h.f F.NET_ADDR_LO_ADDR _ _ _ (by decide)]

theorem freshSrc (h : NetOnly a t) (p : Packet) : t.freshSrc p = a.freshSrc p := by
  simp only [State.freshSrc, State.nodeKnown, State.nodeAddr, State.nodeKey, h.readN, h.f F.NET_NODE_CNT_COUNT _ _ _ (by decide),
    h.f F.NET_NODE_TBL_BASE _ _ _ (by decide)]

theorem releaseCtrs (h : NetOnly a t) (node phys : Nat) : t.releaseCtrs node phys = a.releaseCtrs node phys := by
  simp only [State.releaseCtrs, h.listed .COL_CTR_HOME (by decide), h.fb F.COL_CTR_CFG_XMOD _ _ _ (by decide),
    h.f F.COL_CTR_HOME_HOME_NODE _ _ _ (by decide), h.f F.COL_CTR_HOME_HOME_PHYS _ _ _ (by decide)]

theorem colName (h : NetOnly a t) (k : Nat) : t.colName k = a.colName k := by
  simp only [State.colName, h.listed .COL_XLATE (by decide), h.fb F.COL_XLATE_VALID _ _ _ (by decide),
    h.f F.COL_XLATE_PHYS _ _ _ (by decide)]

theorem coreList (h : NetOnly a t) : t.coreList = a.coreList := by
  have hok : t.coreOk = a.coreOk := funext fun g => by
    simp only [State.coreOk, h.f F.BIST_REPAIR_ACTIVE _ _ _ (by decide)]
  rw [State.coreList, hok, State.coreList]

end NetOnly

/-! ### Receive flows -/

theorem State.rflow_name {s : State} {node flow : Nat} {r : RFlow} (h : s.rflow node flow = some r) :
    r.node = node ∧ r.flow = flow := by simpa using List.find?_some h

/-- A receive flow put in place is found under its name, and the others as before. -/
theorem State.rflow_setRFlow (s : State) (r : RFlow) (node flow : Nat) :
    (s.setRFlow r).rflow node flow = if r.node = node ∧ r.flow = flow then some r else s.rflow node flow := by
  unfold State.setRFlow
  split
  next hsome =>
    have hname : (fun q : RFlow => decide (q.node = node ∧ q.flow = flow)) ∘
        (fun q : RFlow => if q.node = r.node ∧ q.flow = r.flow then r else q) =
          fun q => decide (q.node = node ∧ q.flow = flow) := by
      funext q
      by_cases hq : q.node = r.node ∧ q.flow = r.flow
      · simp [hq]
      · simp [hq]
    rw [State.rflow, List.find?_map, hname, ← State.rflow]
    split
    next hr =>
      obtain ⟨rfl, rfl⟩ := hr
      obtain ⟨q, hq⟩ := Option.isSome_iff_exists.1 hsome
      rw [hq, Option.map_some, if_pos (State.rflow_name hq)]
    next hr =>
      cases hq : s.rflow node flow with
      | none => rfl
      | some q =>
        have hother : ¬(q.node = r.node ∧ q.flow = r.flow) := by
          obtain ⟨rfl, rfl⟩ := State.rflow_name hq
          exact fun e => hr ⟨e.1.symm, e.2.symm⟩
        rw [Option.map_some, if_neg hother]
  next hnone =>
    rw [State.rflow, List.find?_append, ← State.rflow]
    split
    next hr =>
      obtain ⟨rfl, rfl⟩ := hr
      rw [Option.not_isSome_iff_eq_none.1 hnone]
      simp
    next hr => simp [hr]

theorem State.rflow_setRFlow_same (s : State) {r : RFlow} {node flow : Nat} (hn : r.node = node) (hf : r.flow = flow) :
    (s.setRFlow r).rflow node flow = some r := by rw [s.rflow_setRFlow, if_pos ⟨hn, hf⟩]

theorem State.rflow_setRFlow_other (s : State) {r : RFlow} (node : Nat) {flow : Nat} (h : flow ≠ r.flow) :
    (s.setRFlow r).rflow node flow = s.rflow node flow := by rw [s.rflow_setRFlow, if_neg fun e => h e.2.symm]

theorem State.rflow_of_rflows {s t : State} (h : t.rflows = s.rflows) (node flow : Nat) :
    t.rflow node flow = s.rflow node flow := by
  rw [State.rflow, h, State.rflow]

@[simp] theorem State.pfcAll_rflows (s : State) : s.pfcAll.rflows = s.rflows :=
  (congrArg State.rflows (FlowsOnly.pfcAll (.refl s)) :)

@[simp] theorem State.send_rflows (s : State) (l : Option Nat) (p : Packet) : (s.send l p).rflows = s.rflows := by
  unfold State.send
  split
  · rfl
  · split <;> rfl

theorem State.rflow_dropRFlow_same (s : State) (node flow : Nat) : (s.dropRFlow node flow).rflow node flow = none := by
  rw [State.dropRFlow, State.rflow, State.pfcAll_rflows, List.find?_eq_none]
  exact fun q hq => by simpa [imp_iff_not_or] using (List.mem_filter.1 hq).2

theorem State.rflow_dropRFlow_other (s : State) (node : Nat) {flow flow' : Nat} (h : flow' ≠ flow) :
    (s.dropRFlow node flow).rflow node flow' = s.rflow node flow' := by
  rw [State.dropRFlow, State.rflow, State.pfcAll_rflows, List.find?_filter]
  refine congrArg (fun test => s.rflows.find? test) (funext fun r => ?_)
  by_cases hr : r.flow = flow'
  · simp [hr, h]
  · simp [hr]

/-! ### What a receiver answers (R327) -/

/-- A packet sent on its path has left or waits, as it is but for its link, its outer fields and its resend mark. -/
theorem State.send_gone (s : State) (p : Packet) {P : Packet → Prop}
    (hP : ∀ link wire retx, P { p with link := link, wire := wire, retx := retx }) : Gone (s.send none p) P := by
  unfold State.send
  split
  next l _ => exact ⟨_, hP l _ p.retx, .inl ⟨l, List.mem_cons_self ..⟩⟩
  next =>
    split
    next hw =>
      obtain ⟨⟨l, w⟩, hmem, hsame⟩ := List.any_eq_true.1 hw
      obtain ⟨rfl, hp⟩ := of_decide_eq_true hsame
      have hresent : w = { p with retx := w.retx } := congrArg (fun q : Packet => { q with retx := w.retx }) hp
      exact ⟨w, hresent ▸ hP p.link p.wire w.retx, .inr hmem⟩
    next => exact ⟨p, hP p.link p.wire p.retx, .inr (List.mem_append_right _ (List.mem_singleton_self _))⟩

/-- An answer to requests goes to the node of the flow with its cumulative PSN. -/
theorem State.answer_gone (s : State) (r : RFlow) (type addr : Nat) : Gone (s.answer r type addr) fun q =>
    q.type = type ∧ q.dstNode = r.node ∧ q.flow = r.flow ∧ q.epoch = r.epoch ∧ q.psn = r.rx.cum ∧ q.addr = addr :=
  State.send_gone _ _ fun _ _ _ => ⟨rfl, rfl, rfl, rfl, rfl, rfl⟩

theorem State.answer_rflow (s : State) (r : RFlow) (type addr node flow : Nat) :
    (s.answer r type addr).rflow node flow =
      if r.node = node ∧ r.flow = flow then some { r with rx := s.answered r.rx } else s.rflow node flow := by
  rw [State.answer, State.emit, State.rflow_of_rflows (State.send_rflows ..), State.rflow_setRFlow]

end Sys2Proof.Machine
end

section
/-! PROOFS. The next packet of a receive flow: how it comes to its effect, and what follows one that was not refused
(R326, R327). -/

namespace Sys2Proof.Machine

open Sys2Proof.Claims

/-! ### Its way in -/

/-- The frame of a packet counted at its link. -/
def State.rxCounted (s : State) (p : Packet) : State :=
  let s := s.addF F.NET_LINK_RX_BYTES (96 + p.payload.length) p.link
  if p.ce then s.addF F.NET_LINK_CE_COUNT 1 p.link else s

/-- A receive flow in frame n that has seen packet p and holds some packets. -/
def RFlow.saw (r : RFlow) (p : Packet) (n : Nat) (held : List Packet) : RFlow :=
  { r with used := n, rx := { r.rx.seen p with held := held } }

/-- The state in which the next packet of flow r takes effect. -/
def State.rxBegun (s : State) (p : Packet) (r : RFlow) : State :=
  ((s.rxCounted p).setRFlow (r.saw p s.clk.frame [p])).setRFlow (r.saw p s.clk.frame [])

/-- A packet of PSN psn has had its effect e: its code and the state after it. -/
def State.rxSettle (n node flow psn : Nat) (e : Nat × State) : State :=
  match e.2.rflow node flow with
  | none => e.2
  | some q =>
    if e.1 = 1 then (e.2.setRFlow { q with rx := { q.rx with waits := true } }).sendNak node flow 1 psn
    else
      let u := e.2.setRFlow { q with rx := Rx.count { q.rx with next := (q.rx.next + 1) % 2 ^ 32, waits := false } e.2.clk.now }
      State.rxRun n node flow (
        if e.1 ≠ 0 then u.sendNak node flow e.1 psn else if 16 ≤ q.rx.due + 1 then u.sendAck node flow else u)

/-- Receive flow r has applied its next packet, and answers the sixteenth since it last did. -/
def State.rxApplied (s : State) (r : RFlow) : State :=
  let s := s.setRFlow { r with rx := Rx.count { r.rx with next := (r.rx.next + 1) % 2 ^ 32, waits := false } s.clk.now }
  if 16 ≤ r.rx.due + 1 then s.sendAck r.node r.flow else s

theorem State.rxCounted_netOnly (s : State) (p : Packet) : NetOnly s (s.rxCounted p) :=
  have hbytes := (NetOnly.refl s).addF (x := F.NET_LINK_RX_BYTES) (n := 96 + p.payload.length) (i := p.link) (j := 0) (k := 0)
    (by decide)
  .ite (hbytes.addF (by decide)) hbytes

theorem State.rxBegun_netOnly (s : State) (p : Packet) (r : RFlow) : NetOnly s (s.rxBegun p r) :=
  ((s.rxCounted_netOnly p).setRFlow _).setRFlow _

theorem State.rxApplied_netOnly (s : State) (r : RFlow) : NetOnly s (s.rxApplied r) :=
  have hcounted := (NetOnly.refl s).setRFlow _
  .ite (hcounted.sendAck _ _) hcounted

theorem State.rxCounted_rflows (s : State) (p : Packet) : (s.rxCounted p).rflows = s.rflows := by
  unfold State.rxCounted
  split <;> rfl

section
variable {s : State} {p : Packet} {r : RFlow}

theorem State.rxBegun_rflow (hr : s.rflow p.srcNode p.flow = some r) :
    (s.rxBegun p r).rflow p.srcNode p.flow = some (r.saw p s.clk.frame []) :=
  have ⟨hnode, hflow⟩ := State.rflow_name hr
  State.rflow_setRFlow_same _ hnode hflow

/-- A request comes to its receive flow. -/
theorem State.netRx_request (h : InOrder s p r) (hreq : p.type ∉ [tReadResp, tAtomicResp, tAck, tNak]) :
    s.netRx p = ((s.rxCounted p).rxInOrder r p).pfcAll := by
  obtain ⟨⟨hup, hcrc, hdst, htype, hsrc⟩, hr, hepoch, -, -, -⟩ := h
  have hnet := s.rxCounted_netOnly p
  obtain ⟨hread, hatomic, hack, hnak⟩ : p.type ≠ tReadResp ∧ p.type ≠ tAtomicResp ∧ p.type ≠ tAck ∧ p.type ≠ tNak := by
    simpa using hreq
  have hdst' : p.dstIp = (s.rxCounted p).netAddr := hdst.trans hnet.netAddr.symm
  have hsrc' : (s.rxCounted p).freshSrc p = true := (hnet.freshSrc p).trans hsrc
  have hr' : (s.rxCounted p).rflow p.srcNode p.flow = some r := (State.rflow_of_rflows (s.rxCounted_rflows p) _ _).trans hr
  unfold State.netRx
  rw [hup, Bool.not_true, if_neg Bool.false_ne_true]
  change State.pfcAll (if crcBad p = true then (s.rxCounted p).addSatF F.NET_DROPS_CRC 1
    else if p.dstIp = (s.rxCounted p).netAddr then (s.rxCounted p).rxDeliver p else _) = _
  rw [hcrc, if_neg Bool.false_ne_true, if_pos hdst', State.rxDeliver, htype, if_neg Bool.false_ne_true, hsrc', Bool.not_true,
    if_neg Bool.false_ne_true, if_neg hack, if_neg hnak, if_neg (not_or.2 ⟨hread, hatomic⟩), State.rxRequest, hr']
  exact congrArg State.pfcAll (if_pos hepoch)

/-- With nothing held there is nothing to apply. -/
theorem State.rxRun_of_none_held (n node flow : Nat) (hr : s.rflow node flow = some r) (hheld : r.rx.held = []) :
    State.rxRun n node flow s = s := by
  cases n with
  | zero => rfl
  | succ n => simp [State.rxRun, hr, hheld]

/-- The next packet of a flow that holds nothing is the only one to be applied. -/
theorem State.rxInOrder_next (h : InOrder s p r) : (s.rxCounted p).rxInOrder r p =
    State.rxRun 66 r.node r.flow ((s.rxCounted p).setRFlow (r.saw p s.clk.frame [p])) := by
  obtain ⟨-, -, -, hnext, hpsn, hheld⟩ := h
  have hahead : psnAhead p.psn r.rx.next = 0 := by
    rw [hnext, psnAhead, Nat.add_sub_cancel_left, Nat.mod_self]
  have hsort : (s.rxCounted p).rxSort (r.rx.seen p) p = .next { r.rx.seen p with held := [p] } := by
    rw [State.rxSort]
    change (if psnAhead p.psn r.rx.next = 0 then RxCase.next { r.rx.seen p with held := r.rx.held ++ [p] } else _) = _
    rw [if_pos hahead, hheld, List.nil_append]
  rw [State.rxInOrder]
  change (s.rxCounted p).rxTake _ ((s.rxCounted p).rxSort (r.rx.seen p) p) = _
  rw [hsort, State.rxTake, RFlow.saw, ← (s.rxCounted_netOnly p).clk]

/-- One packet of those that a flow holds. -/
theorem State.rxRun_succ {n node flow : Nat} (hr : s.rflow node flow = some r)
    (hp : r.rx.held.find? (fun q => q.psn = r.rx.next) = some p) : State.rxRun (n + 1) node flow s =
      State.rxSettle n node flow p.psn
        ((s.setRFlow { r with rx := { r.rx with held := r.rx.held.filter (fun q => q.psn ≠ p.psn) } }).rxApply r p) := by
  rw [State.rxRun, hr]
  dsimp only
  rw [hp]
  rfl

/-- The next packet of a flow takes effect, and is the only one. -/
theorem State.netRx_next (h : InOrder s p r) (hreq : p.type ∉ [tReadResp, tAtomicResp, tAck, tNak]) :
    s.netRx p = (State.rxSettle 65 p.srcNode p.flow p.psn
      ((s.rxBegun p r).rxApply (r.saw p s.clk.frame [p]) p)).pfcAll := by
  have ⟨_, hr, _, hnext, _, _⟩ := h
  obtain ⟨hnode, hflow⟩ := State.rflow_name hr
  have hnone : (r.saw p s.clk.frame [p]).rx.held.filter (fun q => q.psn ≠ p.psn) = [] := by simp [RFlow.saw]
  rw [State.netRx_request h hreq, State.rxInOrder_next h, hnode, hflow, State.rxRun_succ (r := r.saw p s.clk.frame [p]) (p := p)
    (State.rflow_setRFlow_same _ hnode hflow) (List.find?_cons_of_pos (decide_eq_true hnext.symm)), hnone]
  rfl

/-- A flow that has applied a packet counts it, or acknowledges it as the sixteenth. -/
theorem State.rxApplied_spec (s : State) (r : RFlow) : ∃ q, (s.rxApplied r).rflow r.node r.flow = some q ∧
    q.rx.next = (r.rx.next + 1) % 2 ^ 32 ∧ q.rx.held = r.rx.held ∧ q.rx.due = (if 15 ≤ r.rx.due then 0 else r.rx.due + 1) ∧
    (15 ≤ r.rx.due → Gone (s.rxApplied r) fun a => a.type = 8 ∧ a.dstNode = r.node ∧ a.flow = r.flow ∧
      a.psn = q.rx.mirrored.headD q.rx.next) := by
  unfold State.rxApplied
  generalize hq : ({ r with rx := Rx.count { r.rx with next := (r.rx.next + 1) % 2 ^ 32, waits := false } s.clk.now } : RFlow) = q
  obtain ⟨hnode, hflow⟩ : q.node = r.node ∧ q.flow = r.flow := by rw [← hq]; exact ⟨rfl, rfl⟩
  obtain ⟨hnext, hheld, hdue⟩ : q.rx.next = (r.rx.next + 1) % 2 ^ 32 ∧ q.rx.held = r.rx.held ∧ q.rx.due = r.rx.due + 1 := by
    rw [← hq]; exact ⟨rfl, rfl, rfl⟩
  have hset := s.rflow_setRFlow_same hnode hflow
  by_cases h : 15 ≤ r.rx.due
  · have hack : (s.setRFlow q).sendAck r.node r.flow = (s.setRFlow q).answer q tAck 0 := by rw [State.sendAck, hset]
    dsimp only
    rw [if_pos (Nat.succ_le_succ h), if_pos h, hack]
    refine ⟨_, (State.answer_rflow ..).trans (if_pos ⟨hnode, hflow⟩), hnext, hheld, rfl, fun _ => ?_⟩
    obtain ⟨a, ⟨htype, hdst, hname, -, hpsn, -⟩, ha⟩ := (s.setRFlow q).answer_gone q tAck 0
    exact ⟨a, ⟨htype, hdst.trans hnode, hname.trans hflow, hpsn⟩, ha⟩
  · dsimp only
    rw [if_neg fun e => h (Nat.le_of_succ_le_succ e), if_neg h]
    exact ⟨q, hset, hnext, hheld, hdue, fun e => absurd e h⟩

theorem State.rxApplied_rflow_other (s : State) (r : RFlow) (node : Nat) {flow : Nat} (h : flow ≠ r.flow) :
    (s.rxApplied r).rflow node flow = s.rflow node flow := by
  have hset (q : RFlow) (hq : q.flow = r.flow) : (s.setRFlow q).rflow node flow = s.rflow node flow :=
    s.rflow_setRFlow_other node (hq ▸ h)
  unfold State.rxApplied
  dsimp only
  split
  · rw [State.sendAck, State.rflow_setRFlow_same _ rfl rfl]
    dsimp only
    rw [State.answer_rflow, if_neg fun e => h e.2.symm]
    exact hset _ rfl
  · exact hset _ rfl

/-- A flow whose packet was not refused, and which holds no other. -/
theorem State.rxSettle_applied {n node flow psn : Nat} (hr : s.rflow node flow = some r) (hheld : r.rx.held = []) :
    State.rxSettle n node flow psn (0, s) = s.rxApplied r := by
  obtain ⟨rfl, rfl⟩ := State.rflow_name hr
  obtain ⟨q, hq, -, hqheld, -, -⟩ := s.rxApplied_spec r
  rw [State.rxSettle]
  dsimp only
  rw [hr]
  dsimp only
  rw [if_neg Nat.zero_ne_one, if_neg (not_not.2 rfl)]
  exact State.rxRun_of_none_held n _ _ hq (hqheld.trans hheld)

/-- An effect that frees the flow of its packet is the end of it. -/
theorem State.rxSettle_freed {n node flow psn code : Nat} (hr : s.rflow node flow = none) :
    State.rxSettle n node flow psn (code, s) = s := by
  rw [State.rxSettle]
  dsimp only
  rw [hr]

/-- The next packet of a flow, not refused: its effect, then what counts it. -/
theorem State.netRx_applies {v : State} (h : InOrder s p r) (hreq : p.type ∉ [tReadResp, tAtomicResp, tAck, tNak])
    (hv : (s.rxBegun p r).rxApply (r.saw p s.clk.frame [p]) p = (0, v))
    (hflow : v.rflow p.srcNode p.flow = (s.rxBegun p r).rflow p.srcNode p.flow) :
    NetOnly v (s.netRx p) ∧ AppliedOne (s.netRx p) p r ∧
      ∀ flow, flow ≠ p.flow → (s.netRx p).rflow p.srcNode flow = v.rflow p.srcNode flow := by
  have ⟨_, hr, _, hnext, _, _⟩ := h
  obtain ⟨hnode, hname⟩ := State.rflow_name hr
  have hsaw : v.rflow p.srcNode p.flow = some (r.saw p s.clk.frame []) := hflow.trans (State.rxBegun_rflow hr)
  have heq : s.netRx p = (v.rxApplied (r.saw p s.clk.frame [])).pfcAll := by
    rw [State.netRx_next h hreq, hv, State.rxSettle_applied hsaw rfl]
  have hpfc := NetOnly.pfcAll (.refl (v.rxApplied (r.saw p s.clk.frame [])))
  have hkeep := State.rflow_of_rflows (v.rxApplied (r.saw p s.clk.frame [])).pfcAll_rflows
  obtain ⟨q, hq, hqnext, hheld, hdue, hgone⟩ := v.rxApplied_spec (r.saw p s.clk.frame [])
  rw [heq]
  refine ⟨(v.rxApplied_netOnly _).trans hpfc, ⟨q, ?_, ?_, hheld, hdue, fun hd => ?_⟩, fun flow hne => ?_⟩
  · rw [hkeep, ← hnode, ← hname]
    exact hq
  · rw [hqnext, ← hnext]
    rfl
  · rw [← hnode, ← hname]
    exact hpfc.gone (hgone hd)
  · rw [hkeep]
    exact v.rxApplied_rflow_other _ _ (hname ▸ hne)

end
end Sys2Proof.Machine
end

section
/-! PROOFS. What the control packets do: cols across modules, loans and credit (R200, R274, R275, R329 to R332). -/

namespace Sys2Proof.Machine

open Sys2Proof.Claims

/-! ### What no control packet but FLOW_CLOSE changes -/

/-- Memory and the receive flows. -/
def State.memFlows (s : State) : Mem × List RFlow := (s.mem, s.rflows)

/-- t has the memory and the receive flows of a, and the fields of L as a has them. -/
abbrev HoldsFlows (L : List Fld) (a t : State) : Prop := Keeps State.memFlows a t L

namespace HoldsFlows

variable {L : List Fld} {a s : State} {k r : Nat} {flag : Bool}

theorem start (s : State) : HoldsFlows L s s := .refl (fun _ _ _ _ => rfl) s

theorem ctrlSend {node sub aux : Nat} {bs : List Byte} (h : HoldsFlows L a s) : HoldsFlows L a (s.ctrlSend node sub aux bs) :=
  have hflows := FlowsOnly.flowSend (.refl s)
  h.other (congrArg State.memFlows hflows :) hflows.regs

theorem colProto {kind : Nat} (h : HoldsFlows [] a s) : HoldsFlows [] a (s.colProto k kind) := h.setF.setF.event

theorem homeArrival (h : HoldsFlows [] a s) : HoldsFlows [] a (s.homeArrival k r flag) :=
  .ite (.ite h.addF.setF h.addF) (.ite (.ite h.addF.setF h.addF) h.colProto)

theorem sendArrival (h : HoldsFlows [] a s) : HoldsFlows [] a (s.sendArrival k r flag) :=
  have hpoll {m : SMap Nat Nat} : HoldsFlows [] a { s with colPoll := m } := h.other rfl rfl
  .ite (homeArrival hpoll) (ctrlSend hpoll)

theorem colRelease (h : HoldsFlows [] a s) : HoldsFlows [] a (s.colRelease k r flag) := by
  have hrels {x : List ColRel} : HoldsFlows [] a { s with colRels := x } := h.other rfl rfl
  unfold State.colRelease
  split
  · exact h.addF.setF.setF.setF.setF.setF.setF
  · exact hrels.addF.setF.setF.setF.setF.setF.setF

theorem colCheck {n : Nat} (h : HoldsFlows [] a s) : HoldsFlows [] a (State.colCheck n k s) := by
  induction n generalizing s with
  | zero => exact h
  | succ n ih =>
    exact
      have hfirst := Keeps.ite (sendArrival h.setF) h
      Keeps.ite (ih h.colRelease) (.ite (sendArrival hfirst.setF) hfirst)

theorem loanGrant {lender base size : Nat} (h : HoldsFlows [] a s) : HoldsFlows [] a (s.loanGrant lender base size) := by
  unfold State.loanGrant
  split
  · exact h.other rfl rfl
  · exact h.event

theorem loanNotice {lender base size stop : Nat} (h : HoldsFlows [] a s) :
    HoldsFlows [] a (s.loanNotice lender base size stop) := by
  unfold State.loanNotice
  split
  · exact h
  · exact .ite h.setF.setF.event (h.other rfl rfl)

theorem loanRelease {borrower base size : Nat} (h : HoldsFlows [] a s) :
    HoldsFlows [] a (s.loanRelease borrower base size) := by
  unfold State.loanRelease
  split
  · exact h
  · exact (Keeps.ite h h.setF).other rfl rfl

end HoldsFlows

/-! ### A control packet comes to its effect -/

section
variable {s : State} {p : Packet} {r : RFlow} {sub : Nat}

theorem State.rxSub_eq (h : ControlArrives s p r sub) : s.rxSub p sub = s.netRx p :=
  have ⟨_, hsub⟩ := h
  if_pos hsub

theorem ctrl_isRequest {p : Packet} (h : p.type = tCtrl) : p.type ∉ [tReadResp, tAtomicResp, tAck, tNak] := by
  rw [h]
  decide

theorem State.rxApply_ctrl (s : State) (r : RFlow) (h : p.type = tCtrl) : s.rxApply r p = (0, s.rxCtrl p) := by
  simp [State.rxApply, h, tCtrl, tWrite, tReadReq, tAtomicReq, tMsg, tTrv]

/-- A control packet with effect e, which leaves memory and the receive flows: e acts between what the receiver does. -/
theorem State.rxSub_effect (e : State → State) (h : ControlArrives s p r sub)
    (he : ∀ a, NetOnly s a → p.addr % 256 = sub → a.rxCtrl p = e a) (hkeep : ∀ a, HoldsFlows [] a (e a)) :
    ∃ a, NetOnly s a ∧ NetOnly (e a) (s.rxSub p sub) ∧ (s.rxSub p sub).mem = s.mem ∧ AppliedOne (s.rxSub p sub) p r := by
  have ⟨horder, htype, hsub⟩ := h
  have ha := s.rxBegun_netOnly p r
  obtain ⟨hmem, hflows⟩ := Prod.ext_iff.1 (hkeep (s.rxBegun p r)).part
  obtain ⟨honly, happlied, -⟩ := State.netRx_applies horder (ctrl_isRequest htype)
    ((State.rxApply_ctrl _ _ htype).trans (congrArg (Prod.mk 0) (he _ ha hsub))) (State.rflow_of_rflows hflows _ _)
  rw [State.rxSub_eq h]
  exact ⟨_, ha, honly, honly.mem.trans (hmem.trans ha.mem), happlied⟩

end

/-! ### Cols (R271, R274, R275) -/

theorem colBody_eq (p : Packet) :
    colBody p = (body p % 1024, body p / 2 ^ 16 % 65536, decide (body p / 2 ^ 32 % 2 = 1)) :=
  Prod.ext (by simp [colBody, bitsN, body]) (Prod.ext rfl (beq_eq_decide ..))

section
variable (s : State) (k : Nat)

theorem State.round_lt : s.f F.COL_CTR_STATE_ROUND k < 65536 := bits_lt _ _ _

/-- An arrival for the counter's round. -/
theorem State.homeArrival_now {r : Nat} {flag : Bool} (hr : r % 65536 = s.f F.COL_CTR_STATE_ROUND k) :
    (s.homeArrival k r flag).f F.COL_CTR_ARR_A0 k = (s.f F.COL_CTR_ARR_A0 k + 1) % 2 ^ 20 ∧
    (s.homeArrival k r flag).fb F.COL_CTR_ARR_AF0 k = (s.fb F.COL_CTR_ARR_AF0 k || flag) ∧
    (s.homeArrival k r flag).f F.COL_CTR_ARR_A1 k = s.f F.COL_CTR_ARR_A1 k := by
  have heq : s.homeArrival k r flag =
      if flag then (s.addF F.COL_CTR_ARR_A0 1 k).setF F.COL_CTR_ARR_AF0 1 k else s.addF F.COL_CTR_ARR_A0 1 k := if_pos hr
  rw [heq]
  cases flag <;>
    simp (disch := decide) [State.f_setF_same, State.f_setF_bits, State.fb_setF_bits, State.fb_setF_one]

/-- An arrival for the round after it. -/
theorem State.homeArrival_next {r : Nat} {flag : Bool} (hr : r % 65536 = (s.f F.COL_CTR_STATE_ROUND k + 1) % 65536) :
    (s.homeArrival k r flag).f F.COL_CTR_ARR_A1 k = (s.f F.COL_CTR_ARR_A1 k + 1) % 2 ^ 20 ∧
    (s.homeArrival k r flag).f F.COL_CTR_ARR_A0 k = s.f F.COL_CTR_ARR_A0 k := by
  have hne : r % 65536 ≠ s.f F.COL_CTR_STATE_ROUND k := by
    have := s.round_lt k
    omega
  have heq : s.homeArrival k r flag =
      if flag then (s.addF F.COL_CTR_ARR_A1 1 k).setF F.COL_CTR_ARR_AF1 1 k else s.addF F.COL_CTR_ARR_A1 1 k :=
    (if_neg hne).trans (if_pos hr)
  rw [heq]
  cases flag <;> simp (disch := decide) [State.f_setF_same, State.f_setF_bits]

/-- A protocol error names its counter and its kind. -/
theorem State.colProto_spec (kind : Nat) :
    (s.colProto k kind).fb F.COL_EVENT_PROTO = true ∧ (s.colProto k kind).f F.COL_PROTO_KIND = kind % 4 ∧
    (s.colProto k kind).f F.COL_PROTO_PHYS = k % 1024 ∧
    (s.colProto k kind).colRels = s.colRels ∧
    ∀ i, (s.colProto k kind).f F.COL_CTR_ARR_A0 i = s.f F.COL_CTR_ARR_A0 i := by
  refine ⟨State.event_one _ _ _ _ (by decide) rfl, ?_, ?_, by simp [State.colProto], fun i => ?_⟩ <;> rw [State.colProto] <;>
    simp (disch := decide) [State.f_event_name, State.f_setF_same, State.f_setF_bits, State.f_setF_name]

/-- A release begins the counter's next round, with what has come for it. -/
theorem State.colRelease_spec (r : Nat) (flag : Bool) :
    (s.colRelease k r flag).f F.COL_CTR_STATE_ROUND k = (s.f F.COL_CTR_STATE_ROUND k + 1) % 65536 ∧
    (s.colRelease k r flag).f F.COL_CTR_STATE_C0 k = s.f F.COL_CTR_STATE_C1 k ∧
    (s.colRelease k r flag).f F.COL_CTR_STATE_C1 k = 0 ∧
    (s.colRelease k r flag).f F.COL_CTR_CFG_COUNT k = s.f F.COL_CTR_CFG_COUNT k ∧
    (s.colRelease k r flag).fb F.COL_CTR_CFG_XMOD k = s.fb F.COL_CTR_CFG_XMOD k := by
  have hc1 : s.f F.COL_CTR_STATE_C1 k < 512 := bits_lt _ _ _
  have hrels {x : List ColRel} (y : Fld) : ({ s with colRels := x } : State).f y k = s.f y k := rfl
  unfold State.colRelease
  cases s.colName k <;>
    simp (disch := decide) [State.f_setF_same, State.f_setF_bits, State.f_setF_name, Nat.mod_eq_of_lt hc1, hrels, State.fb]

theorem State.colRelease_colRels (r : Nat) (flag : Bool) {c id : Nat} (h : s.colName k = some (c, id)) :
    (s.colRelease k r flag).colRels = s.colRels ++ (s.scopeCores k).map (fun g =>
      { g := g, phys := k, c := c, id := id, tag := r % 4, flag := flag }) := by
  simp [State.colRelease, h]

/-- A counter of another home that lacks entries for both its rounds has nothing to do. -/
theorem State.colCheck_idle (n : Nat) (hx : s.fb F.COL_CTR_CFG_XMOD k = true)
    (h0 : s.f F.COL_CTR_STATE_C0 k < s.f F.COL_CTR_CFG_COUNT k) (h1 : s.f F.COL_CTR_STATE_C1 k < s.f F.COL_CTR_CFG_COUNT k) :
    State.colCheck n k s = s := by
  cases n with
  | zero => rfl
  | succ n => simp [State.colCheck, hx, h0.ne, h1.ne]

end

/-- An arrival counts at a home, and is a protocol error elsewhere. -/
theorem State.rxArrival_eq (s : State) (p : Packet) : s.rxArrival p =
    if s.fb F.COL_CTR_CFG_HOME (body p % 1024) then
      s.homeArrival (body p % 1024) (body p / 2 ^ 16 % 65536) (decide (body p / 2 ^ 32 % 2 = 1))
    else s.colProto (body p % 1024) 1 := by
  rw [State.rxArrival, colBody_eq]

/-- An arrival counts for its round, at a home. -/
theorem State.rxArrival_spec (s : State) (p : Packet) :
    let k := body p % 1024
    let round := body p / 2 ^ 16 % 65536
    let t := s.rxArrival p
    (s.fb F.COL_CTR_CFG_HOME k = true → round = s.f F.COL_CTR_STATE_ROUND k →
      t.f F.COL_CTR_ARR_A0 k = (s.f F.COL_CTR_ARR_A0 k + 1) % 2 ^ 20 ∧
      t.fb F.COL_CTR_ARR_AF0 k = (s.fb F.COL_CTR_ARR_AF0 k || decide (body p / 2 ^ 32 % 2 = 1)) ∧
      t.f F.COL_CTR_ARR_A1 k = s.f F.COL_CTR_ARR_A1 k) ∧
    (s.fb F.COL_CTR_CFG_HOME k = true → round = (s.f F.COL_CTR_STATE_ROUND k + 1) % 65536 →
      t.f F.COL_CTR_ARR_A1 k = (s.f F.COL_CTR_ARR_A1 k + 1) % 2 ^ 20 ∧ t.f F.COL_CTR_ARR_A0 k = s.f F.COL_CTR_ARR_A0 k) ∧
    (s.fb F.COL_CTR_CFG_HOME k = false → t.fb F.COL_EVENT_PROTO = true ∧ t.f F.COL_PROTO_KIND = 1 ∧
      t.f F.COL_PROTO_PHYS = k ∧ t.f F.COL_CTR_ARR_A0 k = s.f F.COL_CTR_ARR_A0 k) := by
  intro k round t
  have hround : round % 65536 = round := Nat.mod_mod ..
  have ht : t = if s.fb F.COL_CTR_CFG_HOME k then s.homeArrival k round (decide (body p / 2 ^ 32 % 2 = 1)) else s.colProto k 1 :=
    s.rxArrival_eq p
  refine ⟨fun hhome hr => ?_, fun hhome hr => ?_, fun hhome => ?_⟩ <;> rw [ht, hhome]
  · exact s.homeArrival_now k (hround.trans hr)
  · exact s.homeArrival_next k (hround.trans hr)
  · obtain ⟨hevent, hkind, hphys, -, harrived⟩ := s.colProto_spec k 1
    exact ⟨hevent, hkind, hphys.trans (Nat.mod_mod ..), harrived k⟩

/-- A release that reaches one counter, of another home: the cores of its scope are released where it is the counter's round. -/
theorem State.rxRelease_spec {s : State} {p : Packet} {m : Nat} (hctr : s.releaseCtrs p.srcNode (body p % 1024) = [m])
    (hxmod : s.fb F.COL_CTR_CFG_XMOD m = true) :
    let round := body p / 2 ^ 16 % 65536
    let t := s.rxRelease p
    (∀ c id, round = s.f F.COL_CTR_STATE_ROUND m → s.f F.COL_CTR_STATE_C1 m < s.f F.COL_CTR_CFG_COUNT m →
      s.colName m = some (c, id) → t.f F.COL_CTR_STATE_ROUND m = (round + 1) % 65536 ∧
      t.colRels = s.colRels ++ (s.coreList.filter (colScope m)).map (fun g =>
        { g := g, phys := m, c := c, id := id, tag := round % 4, flag := decide (body p / 2 ^ 32 % 2 = 1) })) ∧
    (round ≠ s.f F.COL_CTR_STATE_ROUND m →
      t.fb F.COL_EVENT_PROTO = true ∧ t.f F.COL_PROTO_KIND = 2 ∧ t.colRels = s.colRels) := by
  intro round t
  have ht : t = if s.f F.COL_CTR_STATE_ROUND m = round then
      State.colCheck 3 m (s.colRelease m round (decide (body p / 2 ^ 32 % 2 = 1))) else s.colProto m 2 := by
    change s.rxRelease p = _
    rw [State.rxRelease, colBody_eq]
    dsimp only
    rw [hctr]
    rfl
  refine ⟨fun c id hround hlack hname => ?_, fun hround => ?_⟩
  · obtain ⟨hnext, hc0, hc1, hcount, hx⟩ := s.colRelease_spec m round (decide (body p / 2 ^ 32 % 2 = 1))
    rw [ht, if_pos hround.symm, State.colCheck_idle _ m 3 (hx.trans hxmod) (by rwa [hc0, hcount])
      (by rw [hc1, hcount]; exact Nat.zero_lt_of_lt hlack)]
    exact ⟨by rw [hnext, hround], State.colRelease_colRels _ _ _ _ hname⟩
  · obtain ⟨hevent, hkind, -, hrels, -⟩ := s.colProto_spec m 2
    rw [ht, if_neg (Ne.symm hround)]
    exact ⟨hevent, hkind, hrels⟩

/-! ### Queries (R332) -/

theorem queuedControl_of_sflows {s s' t t' : State} {node sub : Nat} {bs : List Byte} (h : QueuedControl s t node sub bs)
    (hs : s'.sflows = s.sflows) (ht : t'.sflows = t.sflows) : QueuedControl s' t' node sub bs := by
  simpa only [QueuedControl, State.flowOf, State.openFlows, State.sflow, hs, ht] using h

theorem State.freeFlow_eq {s : State} {f : Nat} (hf : f < 8192) (hnone : s.sflow f = none)
    (hmin : ∀ j, j < f → s.sflow j ≠ none) : s.freeFlow = some f :=
  firstFrom_eq_some (Nat.zero_le f) (by omega) (by simp [hnone]) fun j _ hj => by
    simpa [Option.isSome_iff_ne_none] using hmin j hj

/-- A control packet is queued on the control flow to its node. -/
theorem State.ctrlSend_queued (s : State) (node sub aux : Nat) (bs : List Byte) :
    QueuedControl s (s.ctrlSend node sub aux bs) node sub bs := by
  refine ⟨fun f x hflow hx _ => ?_, fun f hflow hf hnone hmin => ?_⟩
  · rw [State.ctrlSend, State.flowSend]
    dsimp only
    rw [hflow]
    dsimp only
    rw [State.flowPush, hx]
    exact ⟨_, _, State.sflow_setSFlow_same .., rfl, rfl, rfl, rfl, rfl⟩
  · rw [State.ctrlSend, State.flowSend]
    dsimp only
    rw [hflow, State.freeFlow_eq hf hnone hmin]
    dsimp only
    rw [State.flowPush, State.newFlow, State.sflow_setSFlow_same]
    exact ⟨_, _, State.sflow_setSFlow_same .., rfl, rfl, rfl, rfl, rfl, rfl⟩

/-- How many rounds before the counter's a query asks for. -/
def State.past (s : State) (k round : Nat) : Nat := (s.f F.COL_CTR_STATE_ROUND k + 65536 - round) % 65536

/-- A counter's release of a round, as it is kept. -/
def State.history (s : State) (k round : Nat) : Option (Nat × Bool) := (SMap.get [] s.colHist k).find? (fun e => e.1 = round)

theorem NetOnly.past {a t : State} (h : NetOnly a t) (k round : Nat) : t.past k round = a.past k round := by
  rw [State.past, h.f _ _ _ _ (by decide), State.past]

theorem NetOnly.history {a t : State} (h : NetOnly a t) (k round : Nat) : t.history k round = a.history k round := by
  rw [State.history, h.colHist, State.history]

/-- The release that answers a query. -/
def State.pastRelease (s : State) (k round : Nat) : Option (Nat × Bool) :=
  if 1 ≤ s.past k round ∧ s.past k round < 2 ^ 15 then s.history k round else none

/-- A search for a round is one where the round is of the past at all. -/
theorem find?_and_const {α : Type} (l : List α) (p : α → Prop) (q : Prop) [DecidablePred p] [Decidable q] :
    l.find? (fun e => decide (p e ∧ q)) = if q then l.find? (fun e => decide (p e)) else none := by
  by_cases hq : q
  · simp [hq]
  · simp [hq]

section
variable {s : State} {p : Packet}

theorem State.rxQuery_eq : s.rxQuery p =
    (s.pastRelease (body p % 1024) (body p / 2 ^ 16 % 65536)).elim s fun e =>
      s.ctrlSend p.srcNode 2 0 (toLE 8 (body p % 1024 + body p / 2 ^ 16 % 65536 * 2 ^ 16 + e.2.toNat * 2 ^ 32)) := by
  have hround : body p / 2 ^ 16 % 65536 % 2 ^ 16 = body p / 2 ^ 16 % 65536 := Nat.mod_mod _ _
  rw [State.rxQuery, colBody_eq]
  dsimp only
  rw [hround, find?_and_const]
  split
  next h =>
    have hkept : s.pastRelease (body p % 1024) (body p / 2 ^ 16 % 65536) = none := h
    rw [hkept, Option.elim_none]
  next flag h =>
    have hkept : s.pastRelease (body p % 1024) (body p / 2 ^ 16 % 65536) = some (_, flag) := h
    rw [hkept, Option.elim_some]

/-- A query of a round that is not past, or that is not kept, has no effect. -/
theorem State.rxQuery_silent (h : s.past (body p % 1024) (body p / 2 ^ 16 % 65536) = 0 ∨
      2 ^ 15 ≤ s.past (body p % 1024) (body p / 2 ^ 16 % 65536) ∨
      s.history (body p % 1024) (body p / 2 ^ 16 % 65536) = none) :
    s.rxQuery p = s := by
  rw [State.rxQuery_eq, State.pastRelease]
  rcases h with h | h | h
  · rw [if_neg (by omega), Option.elim_none]
  · rw [if_neg (by omega), Option.elim_none]
  · rw [h, ite_self, Option.elim_none]

/-- A query of a past round that is kept is answered with its flag. -/
theorem State.rxQuery_answers {flag : Bool} (h0 : 0 < s.past (body p % 1024) (body p / 2 ^ 16 % 65536))
    (h1 : s.past (body p % 1024) (body p / 2 ^ 16 % 65536) < 2 ^ 15)
    (h : s.history (body p % 1024) (body p / 2 ^ 16 % 65536) = some (body p / 2 ^ 16 % 65536, flag)) :
    s.rxQuery p = s.ctrlSend p.srcNode 2 0
      (toLE 8 (body p % 1024 + body p / 2 ^ 16 % 65536 * 2 ^ 16 + if flag = true then 2 ^ 32 else 0)) := by
  rw [State.rxQuery_eq, State.pastRelease, if_pos ⟨h0, h1⟩, h, Option.elim_some]
  cases flag <;> simp

end

/-! ### Loans (R200) -/

/-- Borrow entry i waits for the grant of a loan. -/
def State.borrowWaits (s : State) (lender base size i : Nat) : Bool :=
  s.f F.PLC_BOR_CTL_STATE i == 1 && !s.isGranted i && s.borrowIs i lender base size

/-- Borrow entry i has a loan, or has it from the next tick. -/
def State.borrowHeld (s : State) (lender base size i : Nat) : Bool :=
  (s.f F.PLC_BOR_CTL_STATE i == 2 || s.isGranted i) && s.borrowIs i lender base size

/-- Lend entry i has a loan out. -/
def State.lendOut (s : State) (borrower base size i : Nat) : Bool :=
  decide (2 ≤ s.f F.PLC_LEND_CTL_STATE i) && s.lendIs i borrower base size

section
variable {s : State} {node base size i : Nat}

theorem State.isGranted_iff (i : Nat) : s.isGranted i = true ↔ ∃ e, e ∈ s.granted ∧ e.1 = i := by simp [State.isGranted]

theorem State.borrowWaits_iff (i : Nat) : s.borrowWaits node base size i = true ↔
    s.f F.PLC_BOR_CTL_STATE i = 1 ∧ ¬(∃ e, e ∈ s.granted ∧ e.1 = i) ∧ s.f F.PLC_BOR_CTL_LENDER i = node ∧
      s.f F.PLC_BOR_BASE_REMOTE_BASE i = base ∧ s.f F.PLC_BOR_SIZE_SIZE i = size := by
  rw [← State.isGranted_iff]
  simp [State.borrowWaits, State.borrowIs, and_assoc]

theorem State.borrowHeld_iff (i : Nat) : s.borrowHeld node base size i = true ↔
    (s.f F.PLC_BOR_CTL_STATE i = 2 ∨ ∃ e, e ∈ s.granted ∧ e.1 = i) ∧ s.f F.PLC_BOR_CTL_LENDER i = node ∧
      s.f F.PLC_BOR_BASE_REMOTE_BASE i = base ∧ s.f F.PLC_BOR_SIZE_SIZE i = size := by
  rw [← State.isGranted_iff]
  simp [State.borrowHeld, State.borrowIs, and_assoc]

theorem State.lendOut_iff (i : Nat) : s.lendOut node base size i = true ↔
    2 ≤ s.f F.PLC_LEND_CTL_STATE i ∧ s.f F.PLC_LEND_CTL_BORROWER i = node ∧
      s.f F.PLC_LEND_BASE_LOCAL_BASE i = base ∧ s.f F.PLC_LEND_SIZE_SIZE i = size := by
  simp [State.lendOut, State.lendIs, and_assoc]

theorem NetOnly.borrowHeld {a t : State} (h : NetOnly a t) : t.borrowHeld node base size = a.borrowHeld node base size := by
  funext i
  simp only [State.borrowHeld, State.isGranted, State.borrowIs, h.granted, h.f F.PLC_BOR_CTL_STATE _ _ _ (by decide),
    h.f F.PLC_BOR_CTL_LENDER _ _ _ (by decide), h.f F.PLC_BOR_BASE_REMOTE_BASE _ _ _ (by decide),
    h.f F.PLC_BOR_SIZE_SIZE _ _ _ (by decide)]

theorem NetOnly.lendOut {a t : State} (h : NetOnly a t) : t.lendOut node base size = a.lendOut node base size := by
  funext i
  simp only [State.lendOut, State.lendIs, h.f F.PLC_LEND_CTL_STATE _ _ _ (by decide),
    h.f F.PLC_LEND_CTL_BORROWER _ _ _ (by decide), h.f F.PLC_LEND_BASE_LOCAL_BASE _ _ _ (by decide),
    h.f F.PLC_LEND_SIZE_SIZE _ _ _ (by decide)]

/-- The first of 64 entries that satisfies a test. -/
theorem find?_entry {p : Nat → Bool} {P : Nat → Prop} (hP : ∀ j, p j = true ↔ P j) (hi : i < 64) (hp : P i)
    (hmin : ∀ j, j < i → ¬P j) : (List.range 64).find? p = some i :=
  List.find?_range_eq_some.2 ⟨(hP i).2 hp, List.mem_range.2 hi, fun j hj => by
    rw [Bool.eq_false_iff.2 (mt (hP j).1 (hmin j hj)), Bool.not_false]⟩

/-- A grant is for the first entry that waits for it, or for none. -/
theorem State.loanGrant_spec (s : State) (node base size : Nat) :
    let waits (i : Nat) : Prop := s.f F.PLC_BOR_CTL_STATE i = 1 ∧ ¬(∃ e, e ∈ s.granted ∧ e.1 = i) ∧
      s.f F.PLC_BOR_CTL_LENDER i = node ∧ s.f F.PLC_BOR_BASE_REMOTE_BASE i = base ∧ s.f F.PLC_BOR_SIZE_SIZE i = size
    let t := s.loanGrant node base size
    (∀ i, i < 64 → waits i → (∀ j, j < i → ¬waits j) → t.granted = s.granted ++ [(i, none)]) ∧
    ((∀ i, i < 64 → ¬waits i) → t.granted = s.granted ∧ t.fb F.PLC_EVENT_LOAN_MISMATCH = true) := by
  intro waits t
  have ht : t = ((List.range 64).find? (s.borrowWaits node base size)).elim (s.event F.PLC_EVENT_LOAN_MISMATCH)
      fun i => { s with granted := s.granted ++ [(i, none)] } := by
    change s.loanGrant node base size = _
    unfold State.loanGrant State.borrowWaits
    split
    next h => rw [h, Option.elim_some]
    next h => rw [h, Option.elim_none]
  refine ⟨fun i hi hw hmin => ?_, fun hnone => ?_⟩
  · rw [ht, find?_entry State.borrowWaits_iff hi hw hmin, Option.elim_some]
  · have hnot : (List.range 64).find? (s.borrowWaits node base size) = none :=
      List.find?_eq_none.2 fun i hi hw => hnone i (List.mem_range.1 hi) ((State.borrowWaits_iff i).1 hw)
    rw [ht, hnot, Option.elim_none]
    exact ⟨State.event_granted .., State.event_one _ _ _ _ (by decide) rfl⟩

/-- A notice sets the end of an active loan, and waits for the tick of one that a grant is to turn active. -/
theorem State.loanNotice_spec {stop : Nat} (h : (List.range 64).find? (s.borrowHeld node base size) = some i) :
    let t := s.loanNotice node base size stop
    (s.f F.PLC_BOR_CTL_STATE i = 2 → t.f F.PLC_BOR_CTL_STATE i = 3 ∧ t.f F.PLC_BOR_END_END_FRAME i = stop % 2 ^ 64 ∧
      t.fb F.PLC_EVENT_LOAN_NOTICE = true ∧ t.granted = s.granted) ∧
    (s.f F.PLC_BOR_CTL_STATE i ≠ 2 → t.f F.PLC_BOR_CTL_STATE i = s.f F.PLC_BOR_CTL_STATE i ∧
      t.granted = s.granted.map (fun e => if e.1 = i then (i, some stop) else e)) := by
  unfold State.borrowHeld at h
  rw [State.loanNotice, h]
  refine ⟨fun hactive => ?_, fun hactive => ?_⟩ <;> dsimp only
  · rw [if_pos hactive, State.noticed]
    refine ⟨?_, ?_, State.event_one _ _ _ _ (by decide) rfl, by simp⟩ <;>
      simp (disch := decide) [State.f_event_name, State.f_setF_same, State.f_setF_name]
  · rw [if_neg hactive]
    exact ⟨rfl, rfl⟩

/-- The loan that a release names ends at the next tick, or where it ends before. -/
theorem State.loanRelease_spec (h : (List.range 64).find? (s.lendOut node base size) = some i)
    (hwrap : s.clk.frame + 1 < 2 ^ 64) :
    (s.loanRelease node base size).lendRel = s.lendRel ++ [i] ∧
    (s.loanRelease node base size).f F.PLC_LEND_END_END_FRAME i =
      if s.f F.PLC_LEND_CTL_STATE i = 3 then min (s.clk.frame + 1) (s.f F.PLC_LEND_END_END_FRAME i) else s.clk.frame + 1 := by
  have hset : (s.setF F.PLC_LEND_END_END_FRAME (s.clk.frame + 1) i).f F.PLC_LEND_END_END_FRAME i = s.clk.frame + 1 :=
    (State.f_setF_same _ _ _ _ _ _ (by decide)).trans (Nat.mod_eq_of_lt hwrap)
  unfold State.lendOut at h
  rw [State.loanRelease, h]
  by_cases hends : s.f F.PLC_LEND_CTL_STATE i = 3 ∧ s.f F.PLC_LEND_END_END_FRAME i ≤ s.clk.frame + 1
  · dsimp only
    rw [if_pos hends, if_pos hends.1, Nat.min_eq_right hends.2]
    exact ⟨rfl, rfl⟩
  · dsimp only
    rw [if_neg hends]
    refine ⟨rfl, hset.trans ?_⟩
    split
    next hrevoked => exact (Nat.min_eq_left (Nat.le_of_not_le fun hle => hends ⟨hrevoked, hle⟩)).symm
    next => rfl

end

end Sys2Proof.Machine
end

section
namespace Sys2Proof.Machine

open Sys2Proof.Claims

/-! PROOFS. ControlPacketsTakeEffect. -/

namespace HoldsFlows

variable {a s : State} {p : Packet}

theorem rxArrival (h : HoldsFlows [] a s) : HoldsFlows [] a (s.rxArrival p) := by
  rw [State.rxArrival_eq]
  exact .ite h.homeArrival h.colProto

theorem rxRelease (h : HoldsFlows [] a s) : HoldsFlows [] a (s.rxRelease p) :=
  h.foldl _ fun _ _ h => .ite (colCheck (colRelease h)) (colProto h)

theorem rxQuery (h : HoldsFlows [] a s) : HoldsFlows [] a (s.rxQuery p) := by
  rw [State.rxQuery_eq]
  cases s.pastRelease (body p % 1024) (body p / 2 ^ 16 % 65536) with
  | none => exact h
  | some e => exact h.ctrlSend

end HoldsFlows

/-! ### FLOW_CLOSE and TRV_CREDIT (R329, R331) -/

section
variable {s : State} {p : Packet}

/-- A FLOW_CLOSE of another flow frees that flow. -/
theorem State.rxClose_other (h : body p % 8192 ≠ p.flow) : s.rxClose p = s.dropRFlow p.srcNode (body p % 8192) := by
  rw [State.rxClose]
  dsimp only
  split
  · exact congrArg (fun s : State => s.dropRFlow p.srcNode (body p % 8192)) (if_neg h)
  · rfl

/-- A FLOW_CLOSE of its own flow is acknowledged, and the flow freed. -/
theorem State.rxClose_own {q : RFlow} (h : body p % 8192 = p.flow) (hq : s.rflow p.srcNode p.flow = some q) :
    s.rxClose p = (s.answer { q with rx := { q.rx with next := (p.psn + 1) % 2 ^ 32 } } tAck 0).dropRFlow p.srcNode p.flow := by
  unfold body at h
  rw [State.rxClose]
  dsimp only
  rw [h, hq]
  dsimp only
  rw [if_pos rfl]

/-- The flow of a FLOW_CLOSE that names it ends with the acknowledgement of that packet. -/
theorem State.rxSub_closes_own {r : RFlow} (h : ControlArrives s p r 7) (hown : body p % 8192 = p.flow) :
    NetOnly s (s.rxSub p 7) ∧ (s.rxSub p 7).rflow p.srcNode p.flow = none ∧
      Gone (s.rxSub p 7) fun a => a.type = 8 ∧ a.dstNode = p.srcNode ∧ a.flow = p.flow ∧
        a.psn = r.rx.mirrored.headD ((p.psn + 1) % 2 ^ 32) := by
  have ⟨horder, htype, hsub⟩ := h
  have ⟨_, hr, _⟩ := horder
  obtain ⟨hnode, hflow⟩ := State.rflow_name hr
  have ha := s.rxBegun_netOnly p r
  have hv : (s.rxBegun p r).rxCtrl p = (s.rxBegun p r).rxClose p := by rw [State.rxCtrl, hsub]; rfl
  rw [State.rxClose_own hown (State.rxBegun_rflow hr)] at hv
  generalize hq :
    ({ r.saw p s.clk.frame [] with rx := { (r.saw p s.clk.frame []).rx with next := (p.psn + 1) % 2 ^ 32 } } : RFlow) = q at hv
  have heq : s.rxSub p 7 = (((s.rxBegun p r).answer q tAck 0).dropRFlow p.srcNode p.flow).pfcAll := by
    rw [State.rxSub_eq h, State.netRx_next horder (ctrl_isRequest htype), State.rxApply_ctrl _ _ htype, hv,
      State.rxSettle_freed (State.rflow_dropRFlow_same ..)]
  have hanswered := (NetOnly.refl ((s.rxBegun p r).answer q tAck 0)).dropRFlow p.srcNode p.flow |>.pfcAll
  rw [heq]
  refine ⟨(ha.answer q tAck 0).trans hanswered, ?_, hanswered.gone ?_⟩
  · rw [State.rflow_of_rflows (State.pfcAll_rflows _), State.rflow_dropRFlow_same]
  · obtain ⟨b, ⟨hack, hdst, hname, -, hpsn, -⟩, hb⟩ := (s.rxBegun p r).answer_gone q tAck 0
    rw [← hq] at hdst hname hpsn
    exact ⟨b, ⟨hack, hdst.trans hnode, hname.trans hflow, hpsn⟩, hb⟩

/-- A FLOW_CLOSE of another flow is applied as any packet, and frees that flow. -/
theorem State.rxSub_closes_other {r : RFlow} (h : ControlArrives s p r 7) (hother : body p % 8192 ≠ p.flow) :
    (s.rxSub p 7).mem = s.mem ∧ (s.rxSub p 7).rflow p.srcNode (body p % 8192) = none ∧ AppliedOne (s.rxSub p 7) p r := by
  have ⟨horder, htype, hsub⟩ := h
  have hdrop := (s.rxBegun_netOnly p r).dropRFlow p.srcNode (body p % 8192)
  have hv : (s.rxBegun p r).rxCtrl p = (s.rxBegun p r).dropRFlow p.srcNode (body p % 8192) := by
    rw [State.rxCtrl, hsub]
    exact State.rxClose_other hother
  obtain ⟨honly, happlied, hflows⟩ := State.netRx_applies horder (ctrl_isRequest htype)
    ((State.rxApply_ctrl _ _ htype).trans (congrArg (Prod.mk 0) hv)) (State.rflow_dropRFlow_other _ _ hother.symm)
  rw [State.rxSub_eq h]
  exact ⟨(hdrop.trans honly).mem, (hflows _ hother).trans (State.rflow_dropRFlow_same ..), happlied⟩

theorem State.trvCredit_eq {g c t : Nat} (h : (s.hop g c t).wait = false) :
    s.trvCredit g c t = s.setF F.MTX_TRV_STATUS_CREDIT 1 g c t := by
  rw [State.trvCredit, State.setF_hop, h]
  exact if_neg Bool.false_ne_true

end

/-- Settles O43: what each control packet does, between the counting at its link and the acknowledgement of its flow. -/
theorem controlPacketsTakeEffect : Obligations.ControlPacketsTakeEffect := by
  intro s p r
  refine ⟨fun h => ?arrival, fun m h hctr hxmod => ?release, fun h => ?query, fun h => ?grant,
    fun i h hi hheld hmin => ?notice, fun i h hi hlent hmin hwrap => ?loanEnd, fun h => ?close, fun h hwait => ?credit⟩
  case arrival =>
    obtain ⟨a, ha, honly, hmem, happlied⟩ := State.rxSub_effect (·.rxArrival p) h
      (fun a _ hsub => by rw [State.rxCtrl, hsub]; rfl) fun a => (HoldsFlows.start a).rxArrival
    refine ⟨_, rfl, hmem, happlied, ?_⟩
    simpa (disch := decide) only [honly.f, honly.fb, ha.f, ha.fb] using a.rxArrival_spec p
  case release =>
    obtain ⟨a, ha, honly, hmem, happlied⟩ := State.rxSub_effect (·.rxRelease p) h
      (fun a _ hsub => by rw [State.rxCtrl, hsub]; rfl) fun a => (HoldsFlows.start a).rxRelease
    have hspec := State.rxRelease_spec ((ha.releaseCtrs _ _).trans hctr) ((ha.fb _ _ _ _ (by decide)).trans hxmod)
    refine ⟨_, rfl, hmem, happlied, ?_⟩
    simpa (disch := decide) only [honly.f, honly.fb, honly.colRels, ha.f, ha.colRels, ha.colName, ha.coreList] using hspec
  case query =>
    obtain ⟨a, ha, honly, hmem, happlied⟩ := State.rxSub_effect (·.rxQuery p) h
      (fun a _ hsub => by rw [State.rxCtrl, hsub]; rfl) fun a => (HoldsFlows.start a).rxQuery
    refine ⟨_, rfl, hmem, happlied, fun hsilent => ?_, fun f h0 h1 hkept => ?_⟩
    · rw [State.rxQuery_silent (by rw [ha.past, ha.history]; exact hsilent)] at honly
      exact honly.sflows.trans ha.sflows
    · rw [State.rxQuery_answers (flag := f) (by rw [ha.past]; exact h0) (by rw [ha.past]; exact h1)
        (by rw [ha.history]; exact hkept), toLE_eq_map] at honly
      exact queuedControl_of_sflows (State.ctrlSend_queued ..) ha.sflows.symm honly.sflows
  case grant =>
    obtain ⟨a, ha, honly, hmem, happlied⟩ := State.rxSub_effect
      (·.loanGrant p.srcNode (body p % 2 ^ 44) (ofLE ((p.payload.drop 8).take 8) % 2 ^ 44)) h
      (fun a _ hsub => by rw [State.rxCtrl, hsub]; rfl) fun a => (HoldsFlows.start a).loanGrant
    refine ⟨_, rfl, hmem, happlied, ?_⟩
    simpa (disch := decide) only [honly.fb, honly.granted, ha.f, ha.granted] using a.loanGrant_spec p.srcNode (body p % 2 ^ 44) _
  case notice =>
    obtain ⟨a, ha, honly, hmem, happlied⟩ := State.rxSub_effect
      (·.loanNotice p.srcNode (body p % 2 ^ 44) (ofLE ((p.payload.drop 8).take 8) % 2 ^ 44)
        (ofLE ((p.payload.drop 16).take 8))) h
      (fun a _ hsub => by rw [State.rxCtrl, hsub]; rfl) fun a => (HoldsFlows.start a).loanNotice
    have hfirst := find?_entry State.borrowHeld_iff hi hheld hmin
    rw [← ha.borrowHeld] at hfirst
    have hspec := State.loanNotice_spec (stop := ofLE ((p.payload.drop 16).take 8)) hfirst
    refine ⟨_, rfl, hmem, happlied, ?_⟩
    simpa (disch := decide) only [honly.f, honly.fb, honly.granted, ha.f, ha.granted] using hspec
  case loanEnd =>
    obtain ⟨a, ha, honly, hmem, happlied⟩ := State.rxSub_effect
      (·.loanRelease p.srcNode (body p % 2 ^ 44) (ofLE ((p.payload.drop 8).take 8) % 2 ^ 44)) h
      (fun a _ hsub => by rw [State.rxCtrl, hsub]; rfl) fun a => (HoldsFlows.start a).loanRelease
    have hfirst := find?_entry State.lendOut_iff hi hlent hmin
    rw [← ha.lendOut] at hfirst
    have hspec := State.loanRelease_spec hfirst (ha.clk ▸ hwrap)
    refine ⟨_, rfl, hmem, happlied, ?_⟩
    rw [Nat.mod_eq_of_lt hwrap]
    simpa (disch := decide) only [honly.f, honly.lendRel, ha.f, ha.lendRel, ha.clk] using hspec
  case close =>
    by_cases hown : body p % 8192 = p.flow
    · obtain ⟨honly, hnone, hgone⟩ := State.rxSub_closes_own h hown
      exact ⟨_, rfl, honly.mem, hown ▸ hnone, fun hother => absurd hown hother, fun _ => hgone⟩
    · obtain ⟨hmem, hnone, happlied⟩ := State.rxSub_closes_other h hown
      exact ⟨_, rfl, hmem, hnone, fun _ => happlied, fun hsame => absurd hsame hown⟩
  case credit =>
    obtain ⟨a, ha, honly, hmem, happlied⟩ := State.rxSub_effect
      (·.setF F.MTX_TRV_STATUS_CREDIT 1 p.dstCore p.ctx (body p % 16)) h (fun a ha hsub => by
        rw [State.rxCtrl, hsub]
        exact State.trvCredit_eq (by rw [State.hop, ha.hops]; exact hwait)) fun a => (HoldsFlows.start (L := []) a).setF
    exact ⟨_, rfl, hmem, happlied, (honly.fb _ _ _ _ (by decide)).trans (State.fb_setF_one _ _ _ _ _ (by decide) rfl)⟩

end Sys2Proof.Machine
end

section
namespace Sys2Proof.Machine

open Sys2Proof.Claims

/-! PROOFS. SpurInstructionsQueue. -/

/-- An operation that finds room enters the spur queue of its core, and its strand goes on (R237). -/
theorem State.spurIssue_room {s : State} {g : Nat} (hroom : (s.core g).spurq.length < 32) (c k : Nat) (mk : Nat → Who → SOp)
    (u : Strand) : s.spurIssue g c k mk u =
      (s.setCore g { s.core g with seq := (s.core g).seq + 1
                                   spurq := (s.core g).spurq ++ [mk (s.core g).seq (u.who c k)] }).retire g c k u := by
  rw [State.spurIssue, if_neg (Nat.not_le.mpr hroom)]

/-- What a retirement leaves of the spur queue, as the state before it had it. -/
theorem State.retire_spurq (s : State) (g c k : Nat) (u : Strand) : ((s.retire g c k u).core g).spurq = (s.core g).spurq := by
  rw [(s.retire_only g c k u).core]

/-- SPUT and SGET: the remote operand is checked before the local one (R238). -/
theorem State.spurMove_spec {s : State} {g c k : Nat} {op : Op} {d : Dec} (h : s.At g c k op d) (put : Bool) :
    let u := s.strand g c k
    let y := s.core g
    let a := (u.rd d.rd).toNat
    let b := (u.rd d.rs1).toNat
    let len := d.field 31 8 + 1
    let parts := s.spurParts g c a len (if put then .store len else .load len false)
    let fault (e addr : Nat) : Prop := s.Faults (s.spurMove g c k op put) g c k e ∧
      (s.spurMove g c k op put).f F.CORE_FAULT_ADDR_ADDR g c = addr
    (32 ≤ y.spurq.length → s.spurMove g c k op put = s) ∧
    (y.spurq.length < 32 →
      (∀ e, parts = .error e → fault e a) ∧
      (∀ ps e, parts = .ok ps → s.localOperand g c b len = .error e → fault e b) ∧
      (∀ ps key, parts = .ok ps → s.localOperand g c b len = .ok key →
        Queued s (s.spurMove g c k op put) g c k { y with seq := y.seq + 1, spurq := y.spurq ++
          [{ seq := y.seq, who := u.who c k, kind := if put then .put else .get, tok := decide (d.field 30 1 = 1), addr := a,
             parts := ps, loc := key, len := len, born := s.clk.now }] })) := by
  intro u y a b len parts fault
  simp only [fault, State.spurMove, State.issue_of_at h]
  refine ⟨fun hfull => if_pos hfull, fun hroom => ?_⟩
  rw [if_neg (Nat.not_le.mpr hroom)]
  refine ⟨fun e he => ?_, fun ps e hps he => ?_, fun ps key hps hkey => ?_⟩
  · simp only [parts, a, u, len] at he
    simp only [he]
    exact s.raise_code (BitVec.isLt _)
  · simp only [parts, a, b, u, len] at hps he
    simp only [hps, he]
    exact s.raise_code (BitVec.isLt _)
  · simp only [parts, a, b, u, len] at hps hkey
    simp only [hps, hkey, State.spurIssue_room hroom]
    exact s.retire_queued g c k _

/-- Settles O13: SPUT and SGET by spurMove_spec, SATOM by its checks in their order. -/
theorem spurInstructionsQueue : Obligations.SpurInstructionsQueue := by
  intro s g c k d u y a b len tok fault move
  refine ⟨fun h => ⟨_, rfl, State.spurMove_spec h true⟩, fun h => ⟨_, rfl, State.spurMove_spec h false⟩, fun h => ⟨_, rfl, ?_⟩⟩
  rw [State.issue_of_at h]
  refine ⟨fun hfull => if_pos hfull, fun hroom hodd => ?_, fun hroom heven => ?_⟩ <;>
    rw [if_neg (Nat.not_le.mpr hroom)]
  · rw [if_pos hodd]
    exact s.raise_code (BitVec.isLt _)
  · rw [if_neg (not_not.mpr heven)]
    refine ⟨fun e he => ?_, fun ps hps => ?_⟩
    · simp only [a, u] at he
      simp only [he]
      exact s.raise_code (BitVec.isLt _)
    · simp only [a, u] at hps
      simp only [hps, State.spurIssue_room hroom]
      exact ⟨State.retire_strand_same .., (State.retire_only ..).mem,
        (State.retire_spurq ..).trans (congrArg Core.spurq (State.core_setCore_same ..))⟩

end Sys2Proof.Machine
end

section
namespace Sys2Proof.Machine

open Sys2Proof.Claims

/-! PROOFS. What the operations of a DMA channel change: its registers, its transfer, its bursts (R208 to R211, R235). -/

/-! ### One channel after another -/

/-- A loop that changes one place after another, each as φ says and in states that satisfy P: every place it comes to has
changed so. -/
theorem iter_each {σ α : Type} {n : Nat} {f : Nat → σ → σ} {V : Nat → σ → α} {φ : Nat → α → α} {P : σ → Prop}
    (hf : ∀ k u, k < n → P u → P (f k u) ∧ V k (f k u) = φ k (V k u) ∧ ∀ h, h ≠ k → V h (f k u) = V h u)
    {s : σ} (hs : P s) : P (iter n f s) ∧ ∀ h, V h (iter n f s) = if h < n then φ h (V h s) else V h s := by
  induction n with
  | zero => exact ⟨hs, fun _ => rfl⟩
  | succ n ih =>
    obtain ⟨hP, hV⟩ := ih fun k u hk => hf k u (Nat.lt_succ_of_lt hk)
    obtain ⟨hP', hsame, hother⟩ := hf n _ (Nat.lt_succ_self n) hP
    rw [iter_succ]
    refine ⟨hP', fun h => ?_⟩
    obtain hlt | rfl | hgt := Nat.lt_trichotomy h n
    · rw [hother h hlt.ne, hV, if_pos hlt, if_pos (Nat.lt_succ_of_lt hlt)]
    · rw [hsame, hV, if_neg (Nat.lt_irrefl h), if_pos (Nat.lt_succ_self h)]
    · rw [hother h hgt.ne', hV, if_neg (Nat.not_lt.mpr hgt.le), if_neg (Nat.not_lt.mpr hgt)]

/-! ### Registers of a channel -/

section
variable (s : State) (g ch : Nat)

/-- A field of another channel. -/
theorem State.f_setF_channel {h k : Nat} (hne : h ≠ k) (x y : Fld) (v : Nat) :
    (s.setF x v g k).f y g h = s.f y g h := s.f_setF_reg x y v g k 0 g h 0 (by simp [hne])

theorem State.chState_setChState_same {v : Nat} (hv : v < 8) : (s.setChState g ch v).chState g ch = v :=
  (s.f_setF_same F.DMA_CH_STATUS_STATE v g ch 0 (by decide)).trans (Nat.mod_eq_of_lt hv)

theorem State.chState_setChState_other {h k : Nat} (hne : h ≠ k) (v : Nat) :
    (s.setChState g k v).chState g h = s.chState g h := s.f_setF_channel g hne _ _ v

/-- The state of a channel is no other field. -/
theorem State.chState_setF {x : Fld} (hx : x.Apart F.DMA_CH_STATUS_STATE) (v i j k : Nat) :
    (s.setF x v i j k).chState g ch = s.chState g ch :=
  hx.elim (s.f_setF_name x _ v i j k g ch 0) (s.f_setF_bits x _ v i j k g ch 0)

/-- The active set is in its own registers. -/
theorem State.desc_setF {x : Fld} (hx : x.reg ∉ activeRegs) (v i j k : Nat) : (s.setF x v i j k).desc g ch = s.desc g ch :=
  List.map_congr_left fun n hn => s.reg_setF_other x v i j k fun e =>
    have hn' : n = x.reg := congrArg Reg.name e
    hx (hn' ▸ hn)

theorem State.desc_setChState (h v : Nat) : (s.setChState g h v).desc g ch = s.desc g ch :=
  s.desc_setF g ch (by decide) v g h 0

@[simp] theorem State.setCore_desc (i : Nat) (y : Core) : (s.setCore i y).desc g ch = s.desc g ch := rfl
@[simp] theorem State.modXfer_desc (i j : Nat) (f : Xfer → Xfer) : (s.modXfer i j f).desc g ch = s.desc g ch := rfl
@[simp] theorem State.modXfer_core (i j : Nat) (f : Xfer → Xfer) : (s.modXfer i j f).core g = s.core g := rfl

/-! ### Its transfer -/

theorem State.chan_setChan_other {h k : Nat} (hne : h ≠ k) (x : Chan) : (s.setChan g k x).chan g h = s.chan g h :=
  SMap.get_set_other _ _ _ _ _ (by simp [hne])

@[simp] theorem State.chan_modXfer_same (f : Xfer → Xfer) :
    (s.modXfer g ch f).chan g ch = { s.chan g ch with act := (s.chan g ch).act.map f } := s.chan_setChan_same ..

theorem State.chan_modXfer_other {h k : Nat} (hne : h ≠ k) (f : Xfer → Xfer) :
    (s.modXfer g k f).chan g h = s.chan g h := s.chan_setChan_other g hne _

/-! ### A transfer that stops (R236) -/

theorem State.chStop_chState (e : Nat) : (s.chStop g ch e).chState g ch = 3 :=
  State.chState_setChState_same _ g ch (by decide)

theorem State.chStop_chan (e : Nat) :
    (s.chStop g ch e).chan g ch = { s.chan g ch with act := (s.chan g ch).act.map (Ends · e) } :=
  State.chan_modXfer_same ..

theorem State.chStop_other {h k : Nat} (hne : h ≠ k) (e : Nat) :
    (s.chStop g k e).chState g h = s.chState g h ∧ (s.chStop g k e).chan g h = s.chan g h :=
  ⟨State.chState_setChState_other _ g hne 3, State.chan_modXfer_other _ g hne _⟩

theorem State.chStop_f {y : Fld} (hy : F.DMA_CH_STATUS_STATE.Apart y) (e i j k : Nat) :
    (s.chStop g ch e).f y i j k = s.f y i j k :=
  hy.elim (State.f_setF_name _ _ y 3 g ch 0 i j k) (State.f_setF_bits _ _ y 3 g ch 0 i j k)

/-! ### RESTART and ABORT (R235) -/

/-- Nothing is delivered while the head unit is not complete (R218). -/
theorem State.chanAdvance_open {x : Xfer} (hx : (s.chan g ch).act = some x)
    (hopen : SMap.get 0 x.acked x.head < (s.desc g ch).unitLen) (n : Nat) : State.chanAdvance n g ch s = s := by
  cases n with
  | zero => rfl
  | succ n =>
    rw [State.chanAdvance, hx]
    exact if_pos (.inr (.inr (.inr (.inl hopen))))

/-- A channel in error whose head unit is not complete returns to the state it was in, and delivers nothing. -/
theorem State.chRestart_resumes (h4 : s.chState g ch = 4) (ho : HeadOpen s g ch) :
    s.chRestart g ch = s.setChState g ch (Resumed s g ch) := by
  obtain ⟨x, hx, hopen, hstop⟩ := ho
  have hres : Resumed s g ch = if x.ending = 0 then 1 else 3 := by
    by_cases he : x.ending = 0 <;> simp [Resumed, hx, he]
  rw [State.chRestart, if_neg (not_not.mpr h4), hx, hres]
  dsimp only
  rw [hstop]
  exact State.chanAdvance_open (s.setChState g ch _) g ch hx (by rwa [State.desc_setChState]) _

theorem State.chRestart_of_ne (h : s.chState g ch ≠ 4) : s.chRestart g ch = s := if_pos h

theorem State.chAbort_stops (h4 : s.chState g ch = 4) : s.chAbort g ch = s.chStop g ch 3 := if_pos h4

theorem State.chAbort_of_ne (h : s.chState g ch ≠ 4) : s.chAbort g ch = s := if_neg h

end

/-! ### RESTART_ALL and ABORT_ALL (R233, R235) -/

/-- What each RESTART of a RESTART_ALL finds, s being the state it set out from: memory, the lifted stop, every descriptor
and every transfer stand, and the channels in error have open head units. -/
structure Restarting (s u : State) (g : Nat) : Prop where
  mem : u.mem = s.mem
  lifted : u.dmaStopped g = false
  desc : ∀ h, u.desc g h = s.desc g h
  chan : ∀ h, u.chan g h = s.chan g h
  headOpen : ∀ h, h < 16 → u.chState g h = 4 → HeadOpen s g h

theorem Restarting.step {s u : State} {g k : Nat} (hu : Restarting s u g) (hk : k < 16) :
    Restarting s (u.chRestart g k) g ∧
    (u.chRestart g k).chState g k = (if u.chState g k = 4 then Resumed s g k else u.chState g k) ∧
    ∀ h, h ≠ k → (u.chRestart g k).chState g h = u.chState g h := by
  split
  next h4 =>
    have ho : HeadOpen u g k := by
      obtain ⟨x, hx, hopen, hstop⟩ := hu.headOpen k hk h4
      exact ⟨x, by rw [hu.chan, hx], by rwa [hu.desc], hstop⟩
    have hres : Resumed u g k = Resumed s g k := by rw [Resumed, Resumed, hu.chan]
    have hlt : Resumed s g k < 8 := by unfold Resumed; split <;> decide
    have hne : Resumed s g k ≠ 4 := by unfold Resumed; split <;> decide
    rw [u.chRestart_resumes g k h4 ho, hres]
    refine ⟨⟨hu.mem, ?_, fun h => ?_, hu.chan, fun h hh h4' => ?_⟩, u.chState_setChState_same g k hlt,
      fun h hne' => u.chState_setChState_other g hne' _⟩
    · rw [← hu.lifted]
      exact u.fb_setF_name _ _ _ _ _ _ _ _ _ (by decide)
    · rw [State.desc_setChState, hu.desc]
    · by_cases e : h = k
      · rw [e, u.chState_setChState_same g k hlt] at h4'
        exact absurd h4' hne
      · rw [u.chState_setChState_other g e] at h4'
        exact hu.headOpen h hh h4'
  next h4 =>
    rw [u.chRestart_of_ne g k h4]
    exact ⟨hu, rfl, fun _ _ => rfl⟩

/-- Each channel in error after a RESTART_ALL. -/
theorem Restarting.all {s u : State} {g : Nat} (hu : Restarting s u g) :
    Restarting s (iter 16 (fun k u => u.chRestart g k) u) g ∧
    ∀ h, h < 16 → (iter 16 (fun k u => u.chRestart g k) u).chState g h =
      if u.chState g h = 4 then Resumed s g h else u.chState g h := by
  obtain ⟨hP, hV⟩ := iter_each (f := fun k u => u.chRestart g k) (P := fun u => Restarting s u g)
    (V := fun h (u : State) => u.chState g h) (φ := fun h st => if st = 4 then Resumed s g h else st)
    (fun k _ hk hu => Restarting.step hu hk) hu
  exact ⟨hP, fun h hh => (hV h).trans (if_pos hh)⟩

/-- A channel that ABORT finds in error, and any other. -/
theorem State.chAbort_spec (s : State) (g ch : Nat) :
    (s.chAbort g ch).chState g ch = (if s.chState g ch = 4 then 3 else s.chState g ch) ∧
    ((s.chAbort g ch).chan g ch).act =
      (if s.chState g ch = 4 then (s.chan g ch).act.map (fun x => Ends x 3) else (s.chan g ch).act) := by
  split
  next h4 =>
    rw [s.chAbort_stops g ch h4, State.chStop_chan]
    exact ⟨s.chStop_chState g ch 3, rfl⟩
  next h4 =>
    rw [s.chAbort_of_ne g ch h4]
    exact ⟨rfl, rfl⟩

theorem State.chAbort_rest (s : State) (g ch : Nat) :
    (s.chAbort g ch).mem = s.mem ∧ (s.chAbort g ch).dmaStopped g = s.dmaStopped g ∧
    ∀ h, h ≠ ch → (s.chAbort g ch).chState g h = s.chState g h ∧ (s.chAbort g ch).chan g h = s.chan g h := by
  by_cases h4 : s.chState g ch = 4
  · rw [s.chAbort_stops g ch h4]
    refine ⟨rfl, ?_, fun h hne => s.chStop_other g hne 3⟩
    rw [State.dmaStopped, State.fb, s.chStop_f g ch (by decide)]
    rfl
  · rw [s.chAbort_of_ne g ch h4]
    exact ⟨rfl, rfl, fun _ _ => ⟨rfl, rfl⟩⟩

/-- What ABORT_ALL does to each channel, and what it leaves. -/
theorem State.abortAll_spec (s : State) (g : Nat) :
    let t := iter 16 (fun k u => u.chAbort g k) s
    t.mem = s.mem ∧ t.dmaStopped g = s.dmaStopped g ∧ ∀ h, h < 16 →
      t.chState g h = (if s.chState g h = 4 then 3 else s.chState g h) ∧
      (t.chan g h).act = (if s.chState g h = 4 then (s.chan g h).act.map (fun x => Ends x 3) else (s.chan g h).act) := by
  obtain ⟨⟨hmem, hstop⟩, hV⟩ := iter_each (n := 16) (f := fun k u => u.chAbort g k) (s := s)
    (P := fun u => u.mem = s.mem ∧ u.dmaStopped g = s.dmaStopped g)
    (V := fun h u => (u.chState g h, (u.chan g h).act))
    (φ := fun _ v => (if v.1 = 4 then 3 else v.1, if v.1 = 4 then v.2.map (fun x => Ends x 3) else v.2))
    (fun k u _ ⟨hm, hst⟩ => by
      obtain ⟨hm', hst', hother⟩ := u.chAbort_rest g k
      obtain ⟨h1, h2⟩ := u.chAbort_spec g k
      exact ⟨⟨hm'.trans hm, hst'.trans hst⟩, Prod.ext h1 h2, fun h hne => by rw [(hother h hne).1, (hother h hne).2]⟩)
    ⟨rfl, rfl⟩
  exact ⟨hmem, hstop, fun h hh => Prod.ext_iff.mp ((hV h).trans (if_pos hh))⟩

/-! ### Pacing (R228, R229) -/

/-- The level of a transfer, over the integers. -/
theorem Xfer.level_le (x : Xfer) (n : Nat) :
    x.level ≤ n ↔ (x.startedN : Int) - ((x.seen.toNat : Int) - x.c0.toNat) % 2 ^ 64 ≤ n := by
  have hsub : ((x.seen - x.c0).toNat : Int) = ((x.seen.toNat : Int) - x.c0.toNat) % 2 ^ 64 := by
    rw [BitVec.toNat_sub]
    omega
  rw [Xfer.level, ← hsub]
  omega

/-- A held channel runs again where its level is LOW or below. -/
theorem State.paceOpen_held {s : State} {g ch : Nat} {x : Xfer} (hx : (s.chan g ch).act = some x) (h2 : s.chState g ch = 2) :
    (s.paceOpen g ch).chState g ch = if x.level ≤ s.f F.DMA_CH_PACE_LOW g ch then 1 else 2 := by
  rw [State.paceOpen, hx]
  dsimp only
  rw [h2]
  by_cases hl : x.level ≤ s.f F.DMA_CH_PACE_LOW g ch
  · simp only [hl, decide_true, Bool.and_self, if_true]
    exact s.chState_setChState_same g ch (by decide)
  · simpa [hl] using h2

theorem State.paceOpen_rest (s : State) (g ch : Nat) : s.paceOpen g ch = { s with regs := (s.paceOpen g ch).regs } := by
  unfold State.paceOpen
  split
  · rfl
  · split <;> rfl

theorem State.paceOpen_f (s : State) (g ch : Nat) {y : Fld} (hy : F.DMA_CH_STATUS_STATE.Apart y) (i j k : Nat) :
    (s.paceOpen g ch).f y i j k = s.f y i j k := by
  unfold State.paceOpen
  split
  · rfl
  · split
    · exact hy.elim (State.f_setF_name _ _ y 1 g ch 0 i j k) (State.f_setF_bits _ _ y 1 g ch 0 i j k)
    · rfl

end Sys2Proof.Machine
end

section
namespace Sys2Proof.Machine

open Sys2Proof.Claims

/-! PROOFS. ChannelsResumeAbortAndPace. -/

/-- DMA_CH_PACE_WRITE with LOW below HIGH: both are written, and a held channel is looked at again. -/
theorem State.paceWrite_spec (s : State) (g ch : Nat) {high low : Nat} (hh : high < 65536) (hl : low < 65536) :
    let t := ((s.setF F.DMA_CH_PACE_HIGH high g ch).setF F.DMA_CH_PACE_LOW low g ch).paceOpen g ch
    t.f F.DMA_CH_PACE_HIGH g ch = high ∧ t.f F.DMA_CH_PACE_LOW g ch = low ∧ t.mem = s.mem ∧
      ∀ x, (s.chan g ch).act = some x → s.chState g ch = 2 → t.chState g ch = if x.level ≤ low then 1 else 2 := by
  intro t
  have hlow : ((s.setF F.DMA_CH_PACE_HIGH high g ch).setF F.DMA_CH_PACE_LOW low g ch).f F.DMA_CH_PACE_LOW g ch = low := by
    rw [State.f_setF_same _ _ _ _ _ _ (by decide)]
    exact Nat.mod_eq_of_lt hl
  refine ⟨?_, ?_, ?_, fun x hx h2 => ?_⟩
  · rw [State.paceOpen_f _ g ch (by decide), State.f_setF_bits _ _ _ _ _ _ _ _ _ _ (by decide),
      State.f_setF_same _ _ _ _ _ _ (by decide)]
    exact Nat.mod_eq_of_lt hh
  · rw [State.paceOpen_f _ g ch (by decide), hlow]
  · exact (congrArg State.mem (State.paceOpen_rest ..) :)
  · have h2' : ((s.setF F.DMA_CH_PACE_HIGH high g ch).setF F.DMA_CH_PACE_LOW low g ch).chState g ch = 2 := by
      rw [State.chState_setF _ _ _ (by decide), State.chState_setF _ _ _ (by decide), h2]
    rw [← hlow]
    exact State.paceOpen_held hx h2'

/-- HIGH and LOW of a write to the pace register (R229). -/
theorem State.execDmaChPaceWrite_eq (s : State) (g ch : Nat) (v : Word) : execDmaChPaceWrite g ch v s =
    .next (if v.toNat / 65536 % 65536 < v.toNat % 65536 then
      ((s.setF F.DMA_CH_PACE_HIGH (v.toNat % 65536) g ch).setF F.DMA_CH_PACE_LOW (v.toNat / 65536 % 65536) g ch).paceOpen g ch
      else s) := by
  have hhigh : bits v 0 16 = v.toNat % 65536 := by simp [bits, bitsN]
  have hlow : bits v 16 16 = v.toNat / 65536 % 65536 := rfl
  rw [execDmaChPaceWrite, hhigh, hlow]

/-- A paced channel sees its counter word, and is looked at again (R228). -/
theorem execDmaPaceCounterSeen_paced {s : State} {g ch key : Nat} {x : Xfer} (hx : (s.chan g ch).act = some x)
    (hpace : (s.desc g ch).pace = true) (hkey : s.winKey g x.who.c (s.f F.DMA_CH_PACE_ADDR_ADDR g ch) 8 = some key) :
    execDmaPaceCounterSeen g ch s =
      .next ((s.modXfer g ch fun x => { x with seen := BitVec.ofNat 64 (leNat s key 8) }).paceOpen g ch) := by
  have hword : s.paceWord g x.who.c ch = BitVec.ofNat 64 (leNat s key 8) := by rw [State.paceWord, hkey, leNat_eq_readN]
  rw [execDmaPaceCounterSeen, hx]
  dsimp only
  rw [if_pos hpace, hword]

/-- Settles O29: each channel in error by chRestart_resumes or chStop, all of them in turn, and the pace registers. -/
theorem channelsResumeAbortAndPace : Obligations.ChannelsResumeAbortAndPace := by
  intro s g ch
  refine ⟨⟨_, rfl, fun h => ?_, fun hrun h4 ho => ?_⟩, ⟨_, rfl, (s.chAbort_rest g ch).1, s.chAbort_of_ne g ch, fun h4 => ?_⟩,
    fun ho => ⟨_, rfl, ?_⟩, ⟨_, rfl, ?_⟩,
    fun v => ⟨_, s.execDmaChPaceWrite_eq g ch v, fun h => if_neg (Nat.not_lt.mpr h), fun h => ?_⟩,
    fun v => ⟨_, rfl, fun h => if_pos h, fun h => if_neg (by tauto)⟩,
    fun x key hx hpace hkey => ⟨_, execDmaPaceCounterSeen_paced hx hpace hkey, ?_⟩⟩
  · split
    next => rfl
    next hrun => exact s.chRestart_of_ne g ch (h.resolve_left hrun)
  · rw [if_neg (by simp [hrun])]
    exact s.chRestart_resumes g ch h4 ho
  · rw [s.chAbort_stops g ch h4]
    exact ⟨s.chStop_chState g ch 3, congrArg Chan.act (s.chStop_chan g ch 3)⟩
  · have hstart : Restarting s (s.setF F.DMA_STOPPED_STOPPED 0 g) g :=
      ⟨rfl, State.fb_setF_zero _ _ _ _ _ (by decide), fun h => s.desc_setF g h (by decide) .., fun _ => rfl, fun h hh h4 =>
        ho h hh (by rwa [s.chState_setF g h (by decide)] at h4)⟩
    obtain ⟨hend, hstates⟩ := hstart.all
    refine ⟨hend.mem, hend.lifted, fun h hh => (hstates h hh).trans ?_⟩
    rw [s.chState_setF g h (by decide)]
  · obtain ⟨hmem, hstop, hstates⟩ := (s.setF F.DMA_STOPPED_STOPPED 0 g).abortAll_spec g
    refine ⟨hmem, hstop.trans (State.fb_setF_zero _ _ _ _ _ (by decide)), fun h hh => ?_⟩
    obtain ⟨hst, hact⟩ := hstates h hh
    rw [s.chState_setF g h (by decide)] at hst hact
    exact ⟨hst, fun h4 => hact.trans (if_pos h4)⟩
  · rw [if_pos h]
    exact s.paceWrite_spec g ch (Nat.mod_lt _ (by decide)) (Nat.mod_lt _ (by decide))
  · have hact : ((s.modXfer g ch fun x => { x with seen := BitVec.ofNat 64 (leNat s key 8) }).chan g ch).act =
        some { x with seen := BitVec.ofNat 64 (leNat s key 8) } := by rw [State.chan_modXfer_same, hx]; rfl
    refine ⟨(congrArg State.mem (State.paceOpen_rest ..) :), ?_, fun h2 => ?_⟩
    · rw [State.paceOpen_rest]
      exact hact
    · simp only [State.paceOpen_held hact h2, Xfer.level_le]
      rfl

end Sys2Proof.Machine
end

section
namespace Sys2Proof.Machine

open Sys2Proof.Claims

/-! PROOFS. What units, tokens and the end of a transfer change (R218, R219). -/

/-! ### Memory, the units of the cores and the channels -/

/-- What the engine works on beside its registers. -/
def State.dmaParts (s : State) : Mem × SMap Nat Core × SMap (Nat × Nat) Chan := (s.mem, s.cores, s.chans)

/-- t has memory, units, channels and the fields L as a has them. -/
abbrev HoldsDma (L : List Fld) (a t : State) : Prop := Keeps State.dmaParts a t L

namespace HoldsDma

variable {L : List Fld} {a s t : State}

theorem start (s : State) : HoldsDma L s s := .refl (fun _ _ _ _ => rfl) s

theorem mem (h : HoldsDma L a t) : t.mem = a.mem := congrArg (·.1) h.part
theorem cores (h : HoldsDma L a t) : t.cores = a.cores := congrArg (·.2.1) h.part
theorem core (h : HoldsDma L a t) (g : Nat) : t.core g = a.core g := State.core_of_cores h.cores g

theorem chan (h : HoldsDma L a t) (g ch : Nat) : t.chan g ch = a.chan g ch := by
  have hchans : t.chans = a.chans := congrArg (·.2.2) h.part
  rw [State.chan, hchans]
  rfl

theorem useFree (h : HoldsDma L a s) (n : Nat) : HoldsDma L a (s.useFree n) := h.other rfl rfl
theorem progress (h : HoldsDma L a s) (g c : Nat) : HoldsDma L a (s.progress g c) := h.other rfl rfl

/-- A token counts or faults (R65): neither is the engine's. -/
theorem token (h : HoldsDma L a s) (hL : ∀ y ∈ L, y.reg ≠ .CORE_TOKEN ∧ y.reg ∉ faultRegs) (g c t n : Nat) :
    HoldsDma L a (s.token g c t n) := by
  refine ⟨h.blind, ?_, fun y hy i j k => ?_⟩
  · rw [← h.part]
    unfold State.token
    split
    · rfl
    · split
      · rw [State.raiseAt_rest]
        rfl
      · rfl
  · rw [s.token_f g c t n y i j k (hL y hy).1 (hL y hy).2, h.field y hy]

end HoldsDma

/-! ### The end of a transfer (R219, R236) -/

/-- The channel is idle: its bursts and its transfer are gone. -/
def State.chanIdle (s : State) (g ch : Nat) : State :=
  let s := s.setCore g { s.core g with
    bursts := (s.core g).bursts.filter (fun b => b.ch ≠ ch ∨ b.next = true)
    writes := (s.core g).writes.filter (fun w => w.ch ≠ ch) }
  (s.setChan g ch { s.chan g ch with act := none }).setChState g ch 0

section
variable {s : State} {g ch : Nat} {x : Xfer}

theorem State.chanIdle_chState (s : State) (g ch : Nat) : (s.chanIdle g ch).chState g ch = 0 :=
  State.chState_setChState_same _ g ch (by decide)

theorem State.chanIdle_act (s : State) (g ch : Nat) : ((s.chanIdle g ch).chan g ch).act = none :=
  congrArg Chan.act (State.chan_setChan_same ..)

theorem State.chanIdle_f (s : State) (g ch : Nat) {y : Fld} (hy : F.DMA_CH_STATUS_STATE.Apart y) (i j k : Nat) :
    (s.chanIdle g ch).f y i j k = s.f y i j k :=
  hy.elim (State.f_setF_name _ _ y 0 g ch 0 i j k) (State.f_setF_bits _ _ y 0 g ch 0 i j k)

/-- The end code recorded, with the end token of a descriptor whose TOK is 1 (R219). -/
def State.chanCode (s : State) (g c ch tok code : Nat) : State :=
  let t := s.setF F.DMA_CH_STATUS_LAST code g ch
  if tok = 1 ∧ code ≠ 7 then t.token g c ch 1 else t

/-- The fields that the end code leaves. -/
def doneFields : List Fld := [F.DMA_CH_STATUS_STATE, F.DMA_CH_STATUS_SHADOW, F.DMA_CH_DONE_UNITS]

theorem HoldsDma.chanCode {a s : State} (h : HoldsDma doneFields a s) (g c ch tok code : Nat) :
    HoldsDma doneFields a (s.chanCode g c ch tok code) :=
  Keeps.ite (HoldsDma.token h.setF (by decide) ..) h.setF

theorem State.chanCode_last (s : State) (g c ch tok : Nat) {code : Nat} (hc : code < 256) :
    (s.chanCode g c ch tok code).f F.DMA_CH_STATUS_LAST g ch = code := by
  have hset : (s.setF F.DMA_CH_STATUS_LAST code g ch).f F.DMA_CH_STATUS_LAST g ch = code :=
    (s.f_setF_same F.DMA_CH_STATUS_LAST code g ch 0 (by decide)).trans (Nat.mod_eq_of_lt hc)
  unfold State.chanCode
  dsimp only
  split
  · rw [State.token_f _ _ _ _ _ _ _ _ _ (by decide) (by decide), hset]
  · exact hset

/-- The counter of the end token, where the context is there and below the limit (R65). -/
theorem State.chanCode_token (s : State) (g c ch tok code : Nat) :
    (code = 7 ∨ tok ≠ 1 →
      (s.chanCode g c ch tok code).f F.CORE_TOKEN_COUNT g c ch = s.f F.CORE_TOKEN_COUNT g c ch) ∧
    (code ≠ 7 → tok = 1 → s.occupied g c = true → s.f F.CORE_TOKEN_COUNT g c ch < 4095 →
      (s.chanCode g c ch tok code).f F.CORE_TOKEN_COUNT g c ch = s.f F.CORE_TOKEN_COUNT g c ch + 1) := by
  have hset : (s.setF F.DMA_CH_STATUS_LAST code g ch).f F.CORE_TOKEN_COUNT g c ch = s.f F.CORE_TOKEN_COUNT g c ch :=
    State.f_setF_name _ _ _ _ _ _ _ _ _ _ (by decide)
  unfold State.chanCode
  dsimp only
  refine ⟨fun h => ?_, fun h7 htok hocc hroom => ?_⟩
  · rw [if_neg (by tauto), hset]
  · rw [if_pos ⟨htok, h7⟩, ← hset]
    exact State.token_counts hocc (by rw [hset]; exact hroom)

theorem State.resultRecord_none (hres : (s.desc g ch).resEn = false) (code : Nat) (x : Xfer) :
    s.resultRecord g ch code x = s := by
  rw [State.resultRecord, hres]
  rfl

theorem State.shardCheck_unchecked (s : State) (g ch : Nat) (hchk : x.chk = false) : s.shardCheck g ch x = s :=
  if_pos (by simp [hchk])

/-- A transfer without a result record that ends well: code 1, with the token of its last unit (R218, R219). -/
theorem State.chanEnd_done (hx : (s.chan g ch).act = some x) (hres : (s.desc g ch).resEn = false) (hchk : x.chk = false) :
    s.chanEnd g ch 1 =
      ((if (s.desc g ch).tok = 2 then s.token g x.who.c ch 1 else s).chanCode g x.who.c ch (s.desc g ch).tok 1).chanIdle g ch := by
  rw [State.chanEnd, hx]
  dsimp only
  rw [State.resultRecord_none hres, if_pos rfl, State.shardCheck_unchecked _ _ _ hchk]
  simp only [BEq.rfl, Bool.true_or, and_true, Bool.not_true, Bool.false_and, Bool.false_eq_true, if_false]
  rfl

/-- A transfer without a result record that is stopped: its code is no good end, and its queued successor goes (R236). -/
theorem State.chanEnd_stopped {code : Nat} (hx : (s.chan g ch).act = some x) (hres : (s.desc g ch).resEn = false)
    (hcode : code = 2 ∨ code = 3 ∨ code = 7) :
    s.chanEnd g ch code =
      let t := (s.chanCode g x.who.c ch (s.desc g ch).tok code).chanIdle g ch
      if t.shadow g ch = 2 then t.shadowEmpty g ch else t := by
  have hbad : (code == 1 || code == 4) = false := by obtain rfl | rfl | rfl := hcode <;> rfl
  rw [State.chanEnd, hx]
  dsimp only
  rw [State.resultRecord_none hres, hbad, if_neg (by omega : ¬code = 1), if_neg (by omega : ¬code = 4),
    if_neg (by omega : ¬(code = 5 ∨ code = 6)), if_neg (by simp : ¬((s.desc g ch).tok = 2 ∧ false = true))]
  simp only [Bool.not_false, Bool.true_and, beq_iff_eq]
  rfl

end

/-! ### The shadow set -/

/-- The eight registers of the shadow set written in turn. -/
def State.setShd (s : State) (g ch : Nat) (f : Nat → Word) : State := iter 8 (fun i s => s.setReg ⟨.DMA_CH_SHD, g, ch, i⟩ (f i)) s

section
variable (s : State) (g ch : Nat)

theorem State.setShd_rest (f : Nat → Word) : ∃ r, s.setShd g ch f = { s with regs := r } := by
  have h (n : Nat) : ∃ r, iter n (fun i s => s.setReg ⟨.DMA_CH_SHD, g, ch, i⟩ (f i)) s = { s with regs := r } := by
    induction n with
    | zero => exact ⟨s.regs, rfl⟩
    | succ n ih =>
      obtain ⟨r, hr⟩ := ih
      exact ⟨_, by rw [iter_succ, hr]; rfl⟩
  exact h 8

/-- Each register of the shadow set holds what was written to it. -/
theorem State.setShd_reg (f : Nat → Word) {i : Nat} (hi : i < 8) : (s.setShd g ch f).reg ⟨.DMA_CH_SHD, g, ch, i⟩ = f i := by
  obtain ⟨-, h⟩ := iter_each (n := 8) (f := fun i s => s.setReg ⟨.DMA_CH_SHD, g, ch, i⟩ (f i)) (P := fun _ => True)
    (V := fun i (s : State) => s.reg ⟨.DMA_CH_SHD, g, ch, i⟩) (φ := fun i _ => f i) (s := s)
    (fun k u _ _ => ⟨trivial, u.reg_setReg_same _ _, fun h hne => u.reg_setReg_other _ (by simp [hne])⟩) trivial
  exact (h i).trans (if_pos hi)

/-- Registers of other names stand. -/
theorem State.setShd_reg_other (f : Nat → Word) {r : Reg} (hr : r.name ≠ .DMA_CH_SHD) : (s.setShd g ch f).reg r = s.reg r := by
  have h (n : Nat) : (iter n (fun i s => s.setReg ⟨.DMA_CH_SHD, g, ch, i⟩ (f i)) s).reg r = s.reg r := by
    induction n with
    | zero => rfl
    | succ n ih =>
      rw [iter_succ, State.reg_setReg_other, ih]
      exact fun e => hr (congrArg Reg.name e)
  exact h 8

theorem State.setShd_f (f : Nat → Word) {y : Fld} (hy : y.reg ≠ .DMA_CH_SHD) (i j k : Nat) :
    (s.setShd g ch f).f y i j k = s.f y i j k := congrArg (fun w => bits w y.lo y.len) (s.setShd_reg_other g ch f hy)

/-- SHADOW says empty, and the DGO, the run-ahead and its bursts are gone. -/
def State.shadowDrop (s : State) (g ch : Nat) : State :=
  let s := s.setF F.DMA_CH_STATUS_SHADOW 0 g ch
  let s := s.setChan g ch { s.chan g ch with whoQ := none, shd := {} }
  s.setCore g { s.core g with bursts := (s.core g).bursts.filter (fun b => !(b.ch == ch && b.next)) }

theorem State.shadowEmpty_eq : s.shadowEmpty g ch = (s.setShd g ch fun _ => 0).shadowDrop g ch := rfl

theorem State.shadowDrop_f {y : Fld} (hy : F.DMA_CH_STATUS_SHADOW.Apart y) (i j k : Nat) :
    (s.shadowDrop g ch).f y i j k = s.f y i j k :=
  hy.elim (State.f_setF_name _ _ y 0 g ch 0 i j k) (State.f_setF_bits _ _ y 0 g ch 0 i j k)

theorem State.shadowDrop_shadow : (s.shadowDrop g ch).shadow g ch = 0 :=
  s.f_setF_same F.DMA_CH_STATUS_SHADOW 0 g ch 0 (by decide)

theorem State.shadowDrop_chan : (s.shadowDrop g ch).chan g ch = { s.chan g ch with whoQ := none, shd := {} } :=
  (s.setF F.DMA_CH_STATUS_SHADOW 0 g ch).chan_setChan_same g ch _

theorem State.shadowEmpty_f {y : Fld} (hy : F.DMA_CH_STATUS_SHADOW.Apart y) (hs : y.reg ≠ .DMA_CH_SHD) (i j k : Nat) :
    (s.shadowEmpty g ch).f y i j k = s.f y i j k := by
  rw [State.shadowEmpty_eq, State.shadowDrop_f _ g ch hy, State.setShd_f _ g ch _ hs]

theorem State.shadowEmpty_shadow : (s.shadowEmpty g ch).shadow g ch = 0 := by
  rw [State.shadowEmpty_eq, State.shadowDrop_shadow]

theorem State.shadowEmpty_rest : ∃ r c k, s.shadowEmpty g ch = { s with regs := r, chans := c, cores := k } := by
  obtain ⟨r, hr⟩ := s.setShd_rest g ch fun _ => 0
  rw [State.shadowEmpty_eq, hr]
  exact ⟨_, _, _, rfl⟩

theorem State.shadowEmpty_chan : (s.shadowEmpty g ch).chan g ch = { s.chan g ch with whoQ := none, shd := {} } := by
  obtain ⟨r, hr⟩ := s.setShd_rest g ch fun _ => 0
  rw [State.shadowEmpty_eq, State.shadowDrop_chan, hr]
  rfl

end

/-! ### Units complete (R218) -/

/-- The unit before h is delivered: h is the head. -/
def Xfer.headAt (x : Xfer) (h : Nat) : Xfer :=
  { x with
    head := h
    acked := x.acked.filter (fun e => decide (h ≤ e.1))
    started := x.started.filter (h ≤ ·)
    walk := { x.walk with
      pages := x.walk.pages.filter (fun e => decide (h ≤ e.1))
      recs := x.walk.recs.filter (fun e => decide (h ≤ e.1)) }
    tokPages := []
    tokDone := false }

section
variable {s : State} {g ch n : Nat} {x : Xfer}

/-- The last unit of a running transfer ends it (R219). -/
theorem State.chanAdvance_last (hx : (s.chan g ch).act = some x) (h1 : s.chState g ch = 1)
    (hfull : (s.desc g ch).unitLen ≤ SMap.get 0 x.acked x.head) (hlast : (s.desc g ch).units = x.head + 1) (fuel : Nat) :
    State.chanAdvance (fuel + 1) g ch s =
      (s.modXfer g ch (Xfer.headAt · (x.head + 1))).chanEnd g ch (if x.bad then 4 else 1) := by
  rw [State.chanAdvance, hx]
  dsimp only
  rw [h1, hlast, if_neg (by omega)]
  simp only [Nat.le_refl, decide_true, Bool.not_true, Nat.reduceBEq, Bool.or_self, Bool.and_false, Bool.false_eq_true,
    if_false, ne_eq, Nat.reduceEqDiff, not_false_eq_true, Bool.and_self, if_true]
  rfl

/-- So many bytes of a unit are acknowledged. -/
def Xfer.ackAt (x : Xfer) (unit v : Nat) : Xfer := { x with acked := SMap.set id 0 x.acked unit v }

/-- A complete unit counted, in DMA_CH_DONE and in the status (R218). -/
def State.unitDone (s : State) (g ch : Nat) : State :=
  let s := s.setF F.DMA_CH_DONE_UNITS (s.f F.DMA_CH_DONE_UNITS g ch + 1) g ch
  s.setF F.DMA_CH_STATUS_UNITS (s.f F.DMA_CH_DONE_UNITS g ch) g ch

theorem State.unitDone_f {y : Fld} (h1 : F.DMA_CH_DONE_UNITS.Apart y) (h2 : F.DMA_CH_STATUS_UNITS.Apart y) (i j k : Nat) :
    (s.unitDone g ch).f y i j k = s.f y i j k := by
  have hset (u : State) {x : Fld} (hx : x.Apart y) (v : Nat) : (u.setF x v g ch).f y i j k = u.f y i j k :=
    hx.elim (u.f_setF_name x y v g ch 0 i j k) (u.f_setF_bits x y v g ch 0 i j k)
  rw [State.unitDone, hset _ h2, hset _ h1]

theorem State.unitDone_done : (s.unitDone g ch).f F.DMA_CH_DONE_UNITS g ch =
    (s.f F.DMA_CH_DONE_UNITS g ch + 1) % 2 ^ F.DMA_CH_DONE_UNITS.len := by
  rw [State.unitDone, State.f_setF_name _ _ _ _ _ _ _ _ _ _ (by decide), State.f_setF_same _ _ _ _ _ _ (by decide)]

theorem State.unitDone_desc : (s.unitDone g ch).desc g ch = s.desc g ch := by
  rw [State.unitDone, State.desc_setF _ _ _ (by decide), State.desc_setF _ _ _ (by decide)]

/-- Bytes that do not complete the head unit are counted. -/
theorem State.credit_open (hx : (s.chan g ch).act = some x)
    (hopen : SMap.get 0 x.acked x.head + n < (s.desc g ch).unitLen) : s.credit g ch x.head n =
      (s.modXfer g ch (Xfer.ackAt · x.head (SMap.get 0 x.acked x.head + n))).progress g x.who.c := by
  have hact : ((s.modXfer g ch (Xfer.ackAt · x.head (SMap.get 0 x.acked x.head + n))).chan g ch).act =
      some (x.ackAt x.head (SMap.get 0 x.acked x.head + n)) := by rw [State.chan_modXfer_same, hx]; rfl
  have hget : SMap.get 0 (x.ackAt x.head (SMap.get 0 x.acked x.head + n)).acked x.head = SMap.get 0 x.acked x.head + n :=
    SMap.get_set_same ..
  rw [State.credit, hx]
  dsimp only
  rw [if_neg (by omega)]
  exact congrArg (State.progress · g x.who.c) (State.chanAdvance_open _ g ch hact (hget.trans_lt hopen) _)

/-- Bytes that complete the last unit of a running transfer end it, and the unit is counted. -/
theorem State.credit_last (hx : (s.chan g ch).act = some x) (h1 : s.chState g ch = 1)
    (hold : SMap.get 0 x.acked x.head < (s.desc g ch).unitLen)
    (hfull : (s.desc g ch).unitLen ≤ SMap.get 0 x.acked x.head + n) (hlast : (s.desc g ch).units = x.head + 1) :
    s.credit g ch x.head n =
      ((((s.modXfer g ch (Xfer.ackAt · x.head (SMap.get 0 x.acked x.head + n))).unitDone g ch).modXfer g ch
        (Xfer.headAt · (x.head + 1))).chanEnd g ch (if x.bad then 4 else 1)).progress g x.who.c := by
  have hact : (((s.modXfer g ch (Xfer.ackAt · x.head (SMap.get 0 x.acked x.head + n))).unitDone g ch).chan g ch).act =
      some (x.ackAt x.head (SMap.get 0 x.acked x.head + n)) :=
    (congrArg Chan.act (s.chan_modXfer_same g ch _)).trans (by rw [hx]; rfl)
  have hget : SMap.get 0 (x.ackAt x.head (SMap.get 0 x.acked x.head + n)).acked x.head = SMap.get 0 x.acked x.head + n :=
    SMap.get_set_same ..
  have hdesc : ((s.modXfer g ch (Xfer.ackAt · x.head (SMap.get 0 x.acked x.head + n))).unitDone g ch).desc g ch =
      s.desc g ch := State.unitDone_desc
  have hst : ((s.modXfer g ch (Xfer.ackAt · x.head (SMap.get 0 x.acked x.head + n))).unitDone g ch).chState g ch = 1 :=
    (State.unitDone_f (by decide) (by decide) ..).trans h1
  rw [State.credit, hx]
  dsimp only
  rw [if_pos ⟨hold, hfull⟩]
  exact congrArg (State.progress · g x.who.c)
    (State.chanAdvance_last hact hst (by rw [hdesc]; exact hget.symm ▸ hfull) (by rw [hdesc]; exact hlast) _)

end
end Sys2Proof.Machine
end

section
namespace Sys2Proof.Machine

open Sys2Proof.Claims

/-! PROOFS. WritesLandAndTransfersEnd. -/

/-! ### Transfers without a result record -/

/-- The active set, read as fields. -/
theorem State.desc_of_fields {s t : State} {g ch : Nat} (h : ∀ n ∈ activeRegs, t.f ⟨n, 0, 64⟩ g ch = s.f ⟨n, 0, 64⟩ g ch) :
    t.desc g ch = s.desc g ch := by
  refine List.map_congr_left fun n hn => ?_
  have hword (w : Word) : bits w 0 64 = w.toNat := by rw [bits_low, Nat.mod_eq_of_lt w.isLt]
  exact reg_eq_of_bits ((h n hn).trans (hword _))

theorem State.token_desc (s : State) (g c k n h ch : Nat) : (s.token g c k n).desc h ch = s.desc h ch :=
  State.desc_of_fields fun m hm => s.token_f g c k n ⟨m, 0, 64⟩ h ch 0
    (fun e => absurd (e ▸ hm : RegName.CORE_TOKEN ∈ activeRegs) (by decide))
    fun e => absurd hm (by revert m; decide)

/-- The channel has transfer x, which leaves no result record and is not checked. -/
structure Unrecorded (t : State) (g ch : Nat) (x : Xfer) : Prop where
  act : (t.chan g ch).act = some x
  unrecorded : (t.desc g ch).resEn = false
  unchecked : x.chk = false

theorem Unrecorded.modXfer {t : State} {g ch : Nat} {x : Xfer} (h : Unrecorded t g ch x) {f : Xfer → Xfer}
    (hf : (f x).chk = x.chk) : Unrecorded (t.modXfer g ch f) g ch (f x) :=
  ⟨by rw [State.chan_modXfer_same, h.act]; rfl, h.unrecorded, hf.trans h.unchecked⟩

theorem Unrecorded.token {t : State} {g ch : Nat} {x : Xfer} (h : Unrecorded t g ch x) (g' c k n : Nat) :
    Unrecorded (t.token g' c k n) g ch x :=
  ⟨by rw [((HoldsDma.start (L := []) t).token (by simp) ..).chan, h.act], by rw [State.token_desc, h.unrecorded], h.unchecked⟩

theorem Unrecorded.unitDone {t : State} {g ch : Nat} {x : Xfer} (h : Unrecorded t g ch x) : Unrecorded (t.unitDone g ch) g ch x :=
  ⟨h.act, by rw [State.unitDone_desc, h.unrecorded], h.unchecked⟩

/-! ### What the end of a transfer leaves of memory and of the bursts -/

/-- Memory stands, and no core has a burst that it had not. -/
structure BurstsShrink (s t : State) : Prop where
  mem : t.mem = s.mem
  reads : ∀ g, ∀ b ∈ (t.core g).bursts, b ∈ (s.core g).bursts
  writes : ∀ g, ∀ w ∈ (t.core g).writes, w ∈ (s.core g).writes

namespace BurstsShrink

variable {s t u : State}

theorem refl (s : State) : BurstsShrink s s := ⟨rfl, fun _ _ h => h, fun _ _ h => h⟩

theorem trans (h : BurstsShrink s t) (h' : BurstsShrink t u) : BurstsShrink s u :=
  ⟨h'.mem.trans h.mem, fun g b hb => h.reads g b (h'.reads g b hb), fun g w hw => h.writes g w (h'.writes g w hw)⟩

theorem of_parts (hm : t.mem = s.mem) (hc : t.cores = s.cores) : BurstsShrink s t :=
  ⟨hm, fun g b hb => by rwa [State.core_of_cores hc] at hb, fun g w hw => by rwa [State.core_of_cores hc] at hw⟩

/-- A change of neither memory nor the cores. -/
theorem other (h : BurstsShrink s t) (hm : u.mem = t.mem) (hc : u.cores = t.cores) : BurstsShrink s u := h.trans (of_parts hm hc)

/-- A change of one core that adds no burst. -/
theorem setCore (h : BurstsShrink s t) (g : Nat) {y : Core} (hr : ∀ b ∈ y.bursts, b ∈ (t.core g).bursts)
    (hw : ∀ w ∈ y.writes, w ∈ (t.core g).writes) : BurstsShrink s (t.setCore g y) := by
  refine h.trans ⟨rfl, fun i b hb => ?_, fun i w hw' => ?_⟩ <;> by_cases e : i = g
  · rw [e, State.core_setCore_same] at hb
    exact e ▸ hr b hb
  · rwa [State.core_setCore_other _ _ e] at hb
  · rw [e, State.core_setCore_same] at hw'
    exact e ▸ hw w hw'
  · rwa [State.core_setCore_other _ _ e] at hw'

theorem ite {c : Prop} {_ : Decidable c} (ht : BurstsShrink s t) (hu : BurstsShrink s u) : BurstsShrink s (if c then t else u) := by
  split
  · exact ht
  · exact hu

/-- A step made or left out. -/
theorem step {c : Prop} {_ : Decidable c} (ht : BurstsShrink s t) (hu : BurstsShrink t u) : BurstsShrink s (if c then u else t) :=
  ite (ht.trans hu) ht

theorem foldl {α : Type} {f : State → α → State} (h : BurstsShrink s t) (l : List α)
    (hf : ∀ u x, BurstsShrink s u → BurstsShrink s (f u x)) : BurstsShrink s (l.foldl f t) :=
  List.foldlRecOn l f h fun u hu x _ => hf u x hu

theorem setF (h : BurstsShrink s t) (x : Fld) (v i j k : Nat) : BurstsShrink s (t.setF x v i j k) := h.other rfl rfl

theorem event (h : BurstsShrink s t) (x : Fld) (n i j : Nat) : BurstsShrink s (t.event x n i j) :=
  h.other (State.event_mem ..) (State.event_cores ..)

theorem token (h : BurstsShrink s t) (g c k n : Nat) : BurstsShrink s (t.token g c k n) :=
  h.other (t.token_rest g c k n).1 (t.token_rest g c k n).2.1

theorem raiseAt (h : BurstsShrink s t) (g c code : Nat) (w : Option (Nat × Nat × Nat)) (a : Option Nat) :
    BurstsShrink s (t.raiseAt g c code w a) := by
  have hrest := t.raiseAt_rest g c code w a
  exact h.other (congrArg State.mem hrest :) (congrArg State.cores hrest :)

theorem colSend (h : BurstsShrink s t) (g c id : Nat) (w : Waiter) (flag : Bool) : BurstsShrink s (t.colSend g c id w flag) :=
  h.other rfl rfl

theorem colStall (h : BurstsShrink s t) (g : Nat) (e : Stall) : BurstsShrink s (t.colStall g e) :=
  h.setCore g (fun _ hb => hb) (fun _ hw => hw)

theorem setTrn (h : BurstsShrink s t) (c : Nat) (y : Trn) : BurstsShrink s (t.setTrn c y) := h.other rfl rfl

theorem vote (h : BurstsShrink s t) (c g : Nat) (one : Bool) : BurstsShrink s (t.vote c g one) := by
  have hmark (y : Trn) (b : Bool) :
      BurstsShrink s (if b then (t.setTrn c y).setF F.TRN_STEP_STATE_FLAG 1 c else t.setTrn c y) :=
    ite ((h.setTrn c y).setF ..) (h.setTrn c y)
  exact ite h (ite ((hmark _ _).raiseAt ..) (ite ((hmark _ _).colSend ..) ((hmark _ _).colStall ..)))

theorem lateCause (h : BurstsShrink s t) (c code : Nat) : BurstsShrink s (t.lateCause c code) := (h.setF ..).event ..

/-- A cause of a step records, votes and stalls; it touches no burst (R291). -/
theorem trnCause (h : BurstsShrink s t) (c g code : Nat) : BurstsShrink s (t.trnCause c g code) := by
  have hvotes (u : State) (y : Trn) (l : List Nat) (hu : BurstsShrink s u) :
      BurstsShrink s (l.foldl (fun s v => s.vote c v true) (u.setTrn c y)) :=
    (hu.other (u := u.setTrn c y) rfl rfl).foldl l fun u v hu => hu.vote c v true
  refine ite ?_ (ite (h.lateCause c code) h)
  exact ite ((hvotes _ _ _ (ite ((h.setF ..).setF ..) h)).lateCause ..) (hvotes _ _ _ (ite ((h.setF ..).setF ..) h))

theorem chanIdle (h : BurstsShrink s t) (g ch : Nat) : BurstsShrink s (t.chanIdle g ch) :=
  (h.setCore g (fun _ hb => (List.mem_filter.mp hb).1) (fun _ hw => (List.mem_filter.mp hw).1)).other rfl rfl

theorem setChan (h : BurstsShrink s t) (g ch : Nat) (x : Chan) : BurstsShrink s (t.setChan g ch x) := h.other rfl rfl

theorem shadowDrop (h : BurstsShrink s t) (g ch : Nat) : BurstsShrink s (t.shadowDrop g ch) :=
  ((h.setF F.DMA_CH_STATUS_SHADOW 0 g ch 0).setChan g ch _).setCore g (fun _ hb => (List.mem_filter.mp hb).1) (fun _ hw => hw)

theorem shadowEmpty (h : BurstsShrink s t) (g ch : Nat) : BurstsShrink s (t.shadowEmpty g ch) := by
  have hset : BurstsShrink s (t.setShd g ch fun _ => 0) := by
    obtain ⟨r, hr⟩ := t.setShd_rest g ch fun _ => 0
    rw [hr]
    exact h.other rfl rfl
  exact hset.shadowDrop g ch

/-- The end of a transfer that leaves no result record and is not checked. -/
theorem chanEnd {g ch : Nat} {x : Xfer} (h : BurstsShrink s t) (hx : Unrecorded t g ch x) (code : Nat) :
    BurstsShrink s (t.chanEnd g ch code) := by
  have hcode (u : State) (c : Nat) : BurstsShrink u (if code = 1 then u else if code = 4 then
      (if (u.event F.DMA_EVENT_POISON c).stepOpen c then (u.event F.DMA_EVENT_POISON c).trnCause c g 4
        else u.event F.DMA_EVENT_POISON c)
      else if code = 5 ∨ code = 6 then u.event F.DMA_EVENT_ALLOC c else u) :=
    ite (refl u) (ite (step ((refl u).event ..) ((refl _).trnCause ..)) (step (refl u) ((refl u).event ..)))
  have hlast (u : State) (c tok : Nat) : BurstsShrink u (u.chanCode g c ch tok code) :=
    step ((refl u).setF ..) ((refl _).token ..)
  rw [State.chanEnd, hx.act]
  dsimp only
  rw [State.resultRecord_none hx.unrecorded, State.shardCheck_unchecked _ _ _ hx.unchecked]
  exact step ((((step h ((refl t).token ..)).trans (hcode _ _)).trans (hlast _ _ _)).chanIdle g ch) ((refl _).shadowEmpty g ch)

theorem unitDone (h : BurstsShrink s t) (g ch : Nat) : BurstsShrink s (t.unitDone g ch) := (h.setF ..).setF ..

theorem progress (h : BurstsShrink s t) (g c : Nat) : BurstsShrink s (t.progress g c) := h.other rfl rfl

/-- The units of such a transfer, delivered one after another. -/
theorem chanAdvance {g ch : Nat} {x : Xfer} (fuel : Nat) (h : BurstsShrink s t) (hx : Unrecorded t g ch x) :
    BurstsShrink s (State.chanAdvance fuel g ch t) := by
  induction fuel generalizing t x with
  | zero => exact h
  | succ fuel ih =>
    have hhead : BurstsShrink s (t.modXfer g ch (Xfer.headAt · (x.head + 1))) := h.setChan ..
    have hx' : Unrecorded (t.modXfer g ch (Xfer.headAt · (x.head + 1))) g ch (x.headAt (x.head + 1)) :=
      hx.modXfer (f := (Xfer.headAt · (x.head + 1))) rfl
    have hnext (b : Bool) :
        BurstsShrink s (if b then (t.modXfer g ch (Xfer.headAt · (x.head + 1))).token g x.who.c ch 1
          else t.modXfer g ch (Xfer.headAt · (x.head + 1))) ∧
        Unrecorded (if b then (t.modXfer g ch (Xfer.headAt · (x.head + 1))).token g x.who.c ch 1
          else t.modXfer g ch (Xfer.headAt · (x.head + 1))) g ch (x.headAt (x.head + 1)) := by
      cases b
      · exact ⟨hhead, hx'⟩
      · exact ⟨hhead.token .., hx'.token ..⟩
    rw [State.chanAdvance, hx.act]
    exact ite h (ite ((hnext _).1.chanEnd (hnext _).2 _) (ih (hnext _).1 (hnext _).2))

theorem credit {g ch unit n : Nat} {x : Xfer} (h : BurstsShrink s t) (hx : Unrecorded t g ch x) :
    BurstsShrink s (t.credit g ch unit n) := by
  have hack : BurstsShrink s (t.modXfer g ch (Xfer.ackAt · unit (SMap.get 0 x.acked unit + n))) := h.setChan ..
  have hx' := hx.modXfer (f := (Xfer.ackAt · unit (SMap.get 0 x.acked unit + n))) rfl
  rw [State.credit, hx.act]
  dsimp only
  split
  · exact ((hack.unitDone g ch).chanAdvance _ hx'.unitDone).progress ..
  · exact (hack.chanAdvance _ hx').progress ..

end BurstsShrink

/-! ### An acknowledged write (R218) -/

/-- The transfer after its write w has landed: the bytes are delivered. -/
def DWrite.landed (w : DWrite) (n : Nat) (x : Xfer) : Xfer :=
  ({ x with bytes := x.bytes + w.data.length, bad := x.bad || w.poison } : Xfer).deliver n w.run w.off w.data

/-- The state once write w has landed and burst id is done: neither is in flight. -/
def State.writeGone (s : State) (g : Nat) (w : DWrite) (id : Nat) : State :=
  ((s.setCore g { s.core g with writes := (s.core g).writes.filter (fun v => v.id ≠ w.id) }).modXfer g w.ch
    (w.landed (s.desc g w.ch).runLen)).dropBurst g id

section
variable {s : State} {g n key : Nat} {w : DWrite} {b : Burst}

/-- A write of the last bytes of its burst is done: the burst's bytes are credited to its unit. -/
theorem State.writeDone_eq (hkind : w.kind = .data) (hop : (s.desc g w.ch).op = 0) (hsrc : w.src = some b.id)
    (hb : (s.core g).bursts.find? (fun q => q.id = b.id) = some b) (hfull : b.data.length = b.acked + w.data.length) :
    s.writeDone g w = (s.writeGone g w b.id).credit g w.ch w.unit b.data.length := by
  have hcore (u : State) (f : Xfer → Xfer) : ((u.setCore g { u.core g with
      writes := (u.core g).writes.filter (fun v => v.id ≠ w.id) }).modXfer g w.ch f).core g =
      { u.core g with writes := (u.core g).writes.filter (fun v => v.id ≠ w.id) } := State.core_setCore_same ..
  rw [State.writeDone, hkind, hsrc]
  dsimp only
  rw [hcore]
  dsimp only
  rw [hb]
  dsimp only
  rw [if_pos hfull.le]
  simp only [State.setCore_desc, hop, OfNat.zero_ne_ofNat, false_and, if_false]
  rfl

/-- The acknowledgement of a write that is in flight on this module's memory. -/
theorem execDmaWriteAck_ok (hn : (s.core g).writes[n]? = some w) (hopen : w.failed = none) (hdups : w.dups = 0)
    (hdup : w.dupFail = none) (hloc : w.loc = .mem key) (hsrc : w.src = some b.id) :
    execDmaWriteAck g n .ok s =
      .next (((s.saveOver g w.ch key w.data.length).store key w.data w.poison).writeDone g w) := by
  rw [execDmaWriteAck, hn]
  simp [hopen, hdups, hdup, hloc, hsrc, State.errAt, State.hostShut, DWrite.endOf, Loc.key]

end

/-- What the landing of write w, of transfer x, leaves in v: transfer z has its bytes, and the write and its burst are gone. -/
structure Landed (s v : State) (g key : Nat) (w : DWrite) (b : Burst) (x z : Xfer) : Prop where
  regs : v.regs = s.regs
  ctxs : v.ctxs = s.ctxs
  mem : v.mem = s.mem.write key w.data
  writes : ∀ q ∈ (v.core g).writes, q.id ≠ w.id
  bursts : ∀ q ∈ (v.core g).bursts, q.id ≠ b.id
  act : (v.chan g w.ch).act = some z
  who : z.who = x.who
  head : z.head = x.head
  acked : z.acked = x.acked
  chk : z.chk = x.chk
  bad : z.bad = (x.bad || w.poison)
  bytes : z.bytes = x.bytes + w.data.length

theorem State.writeGone_core (u : State) (g : Nat) (w : DWrite) (id : Nat) : (u.writeGone g w id).core g =
    { u.core g with
      writes := (u.core g).writes.filter (fun v => v.id ≠ w.id)
      bursts := (u.core g).bursts.filter (fun q => q.id ≠ id) } := by
  rw [State.writeGone, State.dropBurst, State.core_setCore_same, State.modXfer_core, State.core_setCore_same]

theorem State.writeGone_act {u : State} {g : Nat} {w : DWrite} {x : Xfer} (hx : (u.chan g w.ch).act = some x) (id : Nat) :
    ((u.writeGone g w id).chan g w.ch).act = some (w.landed (u.desc g w.ch).runLen x) :=
  (congrArg Chan.act (State.chan_modXfer_same ..)).trans (congrArg (Option.map _) hx)

theorem State.store_lands (s : State) (g key : Nat) (w : DWrite) (b : Burst) {x : Xfer} (hx : (s.chan g w.ch).act = some x) :
    ∃ z, Landed s (((s.saveOver g w.ch key w.data.length).store key w.data w.poison).writeGone g w b.id) g key w b x z := by
  obtain ⟨m, hover⟩ : ∃ m, ((s.saveOver g w.ch key w.data.length).chan g w.ch).act = some { x with overwritten := m } :=
    ⟨_, (congrArg Chan.act (State.chan_modXfer_same ..)).trans (congrArg (Option.map _) hx)⟩
  have hmem := (s.saveOver g w.ch key w.data.length).store_mem key w.data w.poison
  obtain ⟨m', p, hu⟩ := (StoresOnly.refl (s.saveOver g w.ch key w.data.length)).store key w.data w.poison
  have hact : (((s.saveOver g w.ch key w.data.length).store key w.data w.poison).chan g w.ch).act =
      some { x with overwritten := m } := by
    rw [hu]
    exact hover
  refine ⟨_, ?_, ?_, hmem, fun q hq => ?_, fun q hq => ?_, State.writeGone_act hact b.id, rfl, rfl, rfl, rfl, rfl, rfl⟩
  · rw [hu]
    rfl
  · rw [hu]
    rfl
  all_goals
    rw [State.writeGone_core] at hq
    simpa using (List.mem_filter.mp hq).2

section
variable {s v : State} {g key : Nat} {w : DWrite} {b : Burst} {x z : Xfer}

theorem Landed.f (h : Landed s v g key w b x z) (y : Fld) (i j k : Nat) : v.f y i j k = s.f y i j k := State.f_of_regs h.regs y i j k

theorem Landed.desc (h : Landed s v g key w b x z) : v.desc g w.ch = s.desc g w.ch :=
  State.desc_of_fields fun n _ => h.f ⟨n, 0, 64⟩ g w.ch 0

theorem Landed.occupied (h : Landed s v g key w b x z) (c : Nat) : v.occupied g c = s.occupied g c := by
  rw [State.occupied, State.ctx, h.ctxs]
  rfl

theorem Landed.unrecorded (h : Landed s v g key w b x z) (hres : (s.desc g w.ch).resEn = false) (hchk : x.chk = false) :
    Unrecorded v g w.ch z := ⟨h.act, by rw [h.desc, hres], h.chk.trans hchk⟩

/-- A write acknowledged without fault: it lands, and its burst's bytes are credited to its unit. -/
theorem State.dmaWriteAck_lands {n : Nat} (hn : (s.core g).writes[n]? = some w) (hopen : w.failed = none) (hdups : w.dups = 0)
    (hdup : w.dupFail = none) (hkind : w.kind = .data) (hloc : w.loc = .mem key) (hsrc : w.src = some b.id)
    (hb : (s.core g).bursts.find? (fun q => q.id = b.id) = some b) (hlen : b.data.length = b.acked + w.data.length)
    (hx : (s.chan g w.ch).act = some x) (hop : (s.desc g w.ch).op = 0) :
    ∃ v z, Landed s v g key w b x z ∧
      exec (.dmaWriteAck g n .ok) s = .next (v.credit g w.ch w.unit b.data.length) := by
  obtain ⟨z, hv⟩ := s.store_lands g key w b hx
  obtain ⟨m, p, hu⟩ := (StoresOnly.refl (s.saveOver g w.ch key w.data.length)).store key w.data w.poison
  refine ⟨_, z, hv, ?_⟩
  have hdone := State.writeDone_eq (s := (s.saveOver g w.ch key w.data.length).store key w.data w.poison) (g := g) (w := w)
    (b := b) hkind (by rw [hu]; exact hop) hsrc (by rw [hu]; exact hb) hlen
  exact (execDmaWriteAck_ok hn hopen hdups hdup hloc hsrc).trans (congrArg Host.Outcome.next hdone)

end

/-! ### The end of a transfer, as read (R219, R236) -/

section
variable {s : State} {g ch : Nat} {x : Xfer}

theorem Unrecorded.chanEnd_done (h : Unrecorded s g ch x) :
    let t := s.chanEnd g ch 1
    t.chState g ch = 0 ∧ (t.chan g ch).act = none ∧ t.f F.DMA_CH_STATUS_LAST g ch = 1 ∧
    t.f F.DMA_CH_DONE_UNITS g ch = s.f F.DMA_CH_DONE_UNITS g ch ∧
    ((s.desc g ch).tok = 1 → s.occupied g x.who.c = true → s.f F.CORE_TOKEN_COUNT g x.who.c ch < 4095 →
      t.f F.CORE_TOKEN_COUNT g x.who.c ch = s.f F.CORE_TOKEN_COUNT g x.who.c ch + 1) := by
  intro t
  have hdone : HoldsDma doneFields s (if (s.desc g ch).tok = 2 then s.token g x.who.c ch 1 else s) :=
    Keeps.ite ((HoldsDma.start s).token (by decide) ..) (HoldsDma.start s)
  simp only [t, State.chanEnd_done h.act h.unrecorded h.unchecked]
  refine ⟨State.chanIdle_chState .., State.chanIdle_act .., ?_, ?_, fun htok hocc hroom => ?_⟩ <;>
    rw [State.chanIdle_f _ _ _ (by decide)]
  · exact State.chanCode_last _ _ _ _ _ (by decide)
  · exact (hdone.chanCode ..).field F.DMA_CH_DONE_UNITS (by decide) g ch 0
  · rw [if_neg (by omega)]
    exact (s.chanCode_token g x.who.c ch _ 1).2 (by decide) htok hocc hroom

theorem State.stopped_chanEnd (hx : (s.chan g ch).act = some x) (hres : (s.desc g ch).resEn = false) {code : Nat}
    (hcode : code = 2 ∨ code = 3 ∨ code = 7) :
    let t := s.chanEnd g ch code
    t.mem = s.mem ∧ t.chState g ch = 0 ∧ (t.chan g ch).act = none ∧ t.f F.DMA_CH_STATUS_LAST g ch = code ∧
    (code = 7 ∨ (s.desc g ch).tok ≠ 1 → t.f F.CORE_TOKEN_COUNT g x.who.c ch = s.f F.CORE_TOKEN_COUNT g x.who.c ch) ∧
    (code ≠ 7 → (s.desc g ch).tok = 1 → s.occupied g x.who.c = true → s.f F.CORE_TOKEN_COUNT g x.who.c ch < 4095 →
      t.f F.CORE_TOKEN_COUNT g x.who.c ch = s.f F.CORE_TOKEN_COUNT g x.who.c ch + 1) := by
  intro t
  have hcoded := (HoldsDma.start s).chanCode g x.who.c ch (s.desc g ch).tok code
  have htok := s.chanCode_token g x.who.c ch (s.desc g ch).tok code
  have hlast := s.chanCode_last g x.who.c ch (s.desc g ch).tok (code := code) (by omega)
  simp only [t, State.chanEnd_stopped hx hres hcode]
  generalize s.chanCode g x.who.c ch (s.desc g ch).tok code = u at hcoded htok hlast
  have hidle : ∃ r k c, u.chanIdle g ch = { u with regs := r, cores := k, chans := c } := ⟨_, _, _, rfl⟩
  have hbase : (u.chanIdle g ch).mem = s.mem ∧ (u.chanIdle g ch).chState g ch = 0 ∧ ((u.chanIdle g ch).chan g ch).act = none ∧
      (u.chanIdle g ch).f F.DMA_CH_STATUS_LAST g ch = code ∧
      (u.chanIdle g ch).f F.CORE_TOKEN_COUNT g x.who.c ch = u.f F.CORE_TOKEN_COUNT g x.who.c ch :=
    ⟨hcoded.mem, u.chanIdle_chState g ch, u.chanIdle_act g ch, (u.chanIdle_f g ch (by decide) ..).trans hlast,
      u.chanIdle_f g ch (by decide) ..⟩
  obtain ⟨hmem, hst, hact, hlst, htk⟩ := hbase
  rw [← htk] at htok
  split
  · obtain ⟨r, c, k, hrest⟩ := (u.chanIdle g ch).shadowEmpty_rest g ch
    refine ⟨by rw [hrest]; exact hmem, (State.shadowEmpty_f _ g ch (by decide) (by decide) ..).trans hst,
      (congrArg Chan.act (State.shadowEmpty_chan _ g ch)).trans hact,
      (State.shadowEmpty_f _ g ch (by decide) (by decide) ..).trans hlst, ?_⟩
    rw [State.shadowEmpty_f _ g ch (by decide) (by decide)]
    exact htok
  · exact ⟨hmem, hst, hact, hlst, htok⟩

end

end Sys2Proof.Machine
end

section
namespace Sys2Proof.Machine

open Sys2Proof.Claims

/-! PROOFS. WritesLandAndTransfersEnd, the credit of a landed write. -/

section
variable {s : State} {g ch n : Nat} {x : Xfer}

theorem State.progress_chState (s : State) (g c ch : Nat) : (s.progress g c).chState g ch = s.chState g ch := rfl
theorem State.modXfer_f (s : State) (g ch : Nat) (f : Xfer → Xfer) (y : Fld) (i j k : Nat) :
    (s.modXfer g ch f).f y i j k = s.f y i j k := rfl

/-- A unit that stays open counts the bytes, and its channel runs on. -/
theorem Unrecorded.credit_open (h : Unrecorded s g ch x) (hopen : SMap.get 0 x.acked x.head + n < (s.desc g ch).unitLen) :
    let t := s.credit g ch x.head n
    t.chState g ch = s.chState g ch ∧ ∃ y, (t.chan g ch).act = some y ∧ y.head = x.head ∧ y.bytes = x.bytes ∧
      SMap.get 0 y.acked x.head = SMap.get 0 x.acked x.head + n := by
  intro t
  have ht : t = _ := State.credit_open h.act hopen
  rw [ht]
  exact ⟨rfl, x.ackAt x.head (SMap.get 0 x.acked x.head + n),
    (congrArg Chan.act (s.chan_modXfer_same g ch _)).trans (congrArg (Option.map _) h.act), rfl, rfl, SMap.get_set_same ..⟩

/-- The last unit of a running transfer without poison counts, and ends it with code 1. -/
theorem Unrecorded.credit_last (h : Unrecorded s g ch x) (h1 : s.chState g ch = 1)
    (hold : SMap.get 0 x.acked x.head < (s.desc g ch).unitLen)
    (hfull : (s.desc g ch).unitLen ≤ SMap.get 0 x.acked x.head + n) (hlast : (s.desc g ch).units = x.head + 1)
    (hbad : x.bad = false) :
    let t := s.credit g ch x.head n
    t.chState g ch = 0 ∧ (t.chan g ch).act = none ∧ t.f F.DMA_CH_STATUS_LAST g ch = 1 ∧
    t.f F.DMA_CH_DONE_UNITS g ch = (s.f F.DMA_CH_DONE_UNITS g ch + 1) % 2 ^ F.DMA_CH_DONE_UNITS.len ∧
    ((s.desc g ch).tok = 1 → s.occupied g x.who.c = true → s.f F.CORE_TOKEN_COUNT g x.who.c ch < 4095 →
      t.f F.CORE_TOKEN_COUNT g x.who.c ch = s.f F.CORE_TOKEN_COUNT g x.who.c ch + 1) := by
  intro t
  have hacked := h.modXfer (f := (Xfer.ackAt · x.head (SMap.get 0 x.acked x.head + n))) rfl
  obtain ⟨hst, hact, hcode, hunits, htoken⟩ :=
    (hacked.unitDone.modXfer (f := (Xfer.headAt · (x.head + 1))) rfl).chanEnd_done
  have ht : t = _ := State.credit_last h.act h1 hold hfull hlast
  rw [ht, hbad]
  simp only [Bool.false_eq_true, if_false, State.progress_f, State.progress_chState, State.progress_chan]
  refine ⟨hst, hact, hcode, ?_, fun htok hocc hroom => ?_⟩
  · rw [hunits, State.modXfer_f, State.unitDone_done, State.modXfer_f]
  · have hcount := htoken (by rw [State.modXfer_desc, State.unitDone_desc, State.modXfer_desc, htok]) hocc
    rw [State.modXfer_f, State.unitDone_f (by decide) (by decide), State.modXfer_f] at hcount
    exact hcount hroom

/-- The end of a stopping channel whose bursts are gone. -/
theorem execChannelDrained_ends (h3 : s.chState g ch = 3) (hx : (s.chan g ch).act = some x) (hw : (s.core g).writes = [])
    (hb : ∀ b ∈ (s.core g).bursts, b.ch ≠ ch) : execChannelDrained g ch s = .next (s.chanEnd g ch x.ending) := by
  have hnone : (s.core g).bursts.any (fun b => b.ch == ch && !b.next && b.st == .reading) = false :=
    List.any_eq_false.mpr fun b hmem => by simp [hb b hmem]
  rw [execChannelDrained, h3, hnone, hw, hx]
  rfl

end

/-- Settles O28: an acknowledged write leaves the state v whose transfer z has its bytes (`State.dmaWriteAck_lands`), and the
credit of its unit either leaves the transfer open or ends it. -/
theorem writesLandAndTransfersEnd : Obligations.WritesLandAndTransfersEnd := by
  constructor
  · intro s g n ch key w b x hn hopen hdups hdup hkind hch hloc hpoison hsrc hb hlen hx hop hres h1 hunit hchk d old
    subst hch
    obtain ⟨v, z, hv, hex⟩ := State.dmaWriteAck_lands hn hopen hdups hdup hkind hloc hsrc hb hlen hx hop
    have hz : Unrecorded v g w.ch z := hv.unrecorded hres hchk
    have hget : SMap.get 0 z.acked z.head = old := by rw [hv.acked, hv.head]
    have hshrink := (BurstsShrink.refl v).credit hz (unit := w.unit) (n := b.data.length)
    obtain ⟨hstore, hother⟩ := Stores.of_mem (s := s) (hshrink.mem.trans hv.mem)
    refine ⟨_, hex, hstore, hother, fun q hq => hv.writes q (hshrink.writes g q hq),
      fun q hq => hv.bursts q (hshrink.reads g q hq), fun hmore => ?_, fun hold hfull hlast hgood => ?_⟩ <;>
      rw [hunit, ← hv.head]
    · obtain ⟨hst, y, hy, hhead, hbytes, hacked⟩ := hz.credit_open (n := b.data.length) (by rw [hget, hv.desc]; exact hmore)
      exact ⟨(hst.trans (hv.f ..)).trans h1, y, hy, hhead, hbytes.trans hv.bytes, by rw [hacked, hget]⟩
    · have hend := hz.credit_last (n := b.data.length) ((hv.f ..).trans h1) (by rw [hget, hv.desc]; exact hold)
        (by rw [hget, hv.desc]; exact hfull) (by rw [hv.desc, hv.head]; exact hlast) (by rw [hv.bad, hgood, hpoison]; rfl)
      simpa only [hv.f, hv.desc, hv.occupied, hv.who] using hend
  · intro s g ch x h3 hx hcode hres hw hb
    exact ⟨_, execChannelDrained_ends h3 hx hw hb, State.stopped_chanEnd hx hres hcode⟩

end Sys2Proof.Machine
end

section
namespace Sys2Proof.Machine

open Sys2Proof.Claims

/-! PROOFS. DmaInstructionsDriveChannels. -/

/-- A retirement after a change that leaves the strand. -/
theorem State.retire_passes_of {s v : State} {g c k : Nat} (h : v.strand g c k = s.strand g c k) :
    v.Passes (v.retire g c k (s.strand g c k)) g c k := h ▸ v.retire_passes g c k

/-- What stands of channel ch, as the state before a retirement had it. -/
theorem State.OnlyStrand.channel {s t : State} {g c k : Nat} (h : s.OnlyStrand t g c k) (ch : Nat) :
    t.chState g ch = s.chState g ch ∧ t.shadow g ch = s.shadow g ch ∧ t.chan g ch = s.chan g ch := by
  refine ⟨h.f F.DMA_CH_STATUS_STATE _ _ _ (by decide), h.f F.DMA_CH_STATUS_SHADOW _ _ _ (by decide), ?_⟩
  rw [h.rest]
  rfl

/-! ### DLD (R210) -/

/-- The shadow set loaded with a descriptor. -/
def State.shadowLoad (s : State) (g ch : Nat) (ws : Desc) : State := (s.setShd g ch ws.w).setF F.DMA_CH_STATUS_SHADOW 1 g ch

section
variable (s : State) (g ch : Nat) (ws : Desc)

theorem State.shadowLoad_rest : s.shadowLoad g ch ws = { s with regs := (s.shadowLoad g ch ws).regs } := by
  obtain ⟨r, hr⟩ := s.setShd_rest g ch ws.w
  rw [State.shadowLoad, hr]
  rfl

theorem State.shadowLoad_channel : (s.shadowLoad g ch ws).shadow g ch = 1 ∧ (s.shadowLoad g ch ws).chState g ch = s.chState g ch := by
  refine ⟨State.f_setF_same _ _ _ _ _ _ (by decide), ?_⟩
  rw [State.shadowLoad, State.chState_setF _ _ _ (by decide)]
  exact s.setShd_f g ch ws.w (y := F.DMA_CH_STATUS_STATE) (by decide) ..

theorem State.shadowLoad_reg {i : Nat} (hi : i < 8) : (s.shadowLoad g ch ws).reg ⟨.DMA_CH_SHD, g, ch, i⟩ = ws.w i := by
  rw [State.shadowLoad, State.setF, State.reg_setReg_other _ _ (by simp), State.setShd_reg _ _ _ _ hi]

end

/-- The words of a descriptor in memory. -/
def State.descAt (s : State) (key : Nat) : Desc := (List.range 8).map (fun i => BitVec.ofNat 64 (s.readN (key + 8 * i) 8))

/-- The checks of DLD in their order. -/
theorem execDld_eq {s : State} {g c k : Nat} {d : Dec} (h : s.At g c k .dld d) :
    execDld g c k s = .next (
      if s.chOwner g d.f35 ≠ c then s.raise g c k 0x0A ((s.strand g c k).rd d.rd).toNat
      else if s.shadow g d.f35 ≠ 0 then s
      else match s.operandKey g c ((s.strand g c k).rd d.rd).toNat 64 with
      | none => s.raise g c k 0x0A ((s.strand g c k).rd d.rd).toNat
      | some key =>
        if s.poisoned key 64 then s.raise g c k 0x0D ((s.strand g c k).rd d.rd).toNat
        else if !s.descOk c (s.descAt key) then s.raise g c k 0x0A ((s.strand g c k).rd d.rd).toNat
        else (s.shadowLoad g d.f35 (s.descAt key)).retire g c k (s.strand g c k)) :=
  congrArg Host.Outcome.next (State.issue_of_at h _)

/-- A descriptor that passes the checks is loaded, and the strand goes on. -/
theorem State.shadowLoad_retires (s : State) (g c k ch : Nat) (ws : Desc) :
    let t := (s.shadowLoad g ch ws).retire g c k (s.strand g c k)
    (∃ v : State, v = { s with regs := v.regs } ∧ v.Passes t g c k) ∧
    (∀ i, i < 8 → t.reg ⟨.DMA_CH_SHD, g, ch, i⟩ = ws.w i) ∧ t.shadow g ch = 1 ∧ t.chState g ch = s.chState g ch := by
  intro t
  have hstrand : (s.shadowLoad g ch ws).strand g c k = s.strand g c k := by
    rw [State.shadowLoad_rest]
    rfl
  have hpass := State.retire_passes_of hstrand
  obtain ⟨hst, hsh, -⟩ := hpass.frame.channel ch
  obtain ⟨hshadow, hstate⟩ := s.shadowLoad_channel g ch ws
  exact ⟨⟨_, s.shadowLoad_rest g ch ws, hpass⟩,
    fun i hi => (hpass.frame.regs _ (by simp)).trans (s.shadowLoad_reg g ch ws hi), hsh.trans hshadow, hst.trans hstate⟩

/-! ### DGO (R210, R229) -/

/-- A loaded shadow set queued for strand k, whose DGO says whether the checks of the step take the transfer in. -/
def State.dgo (s : State) (g c k ch : Nat) : State :=
  let chk := (s.shdDesc g ch).op == 0 && s.stepOpen c && bitN (s.trnF F.TRN_STEP_CFG_CHK_CHANNELS c) ch
  (s.setChan g ch { s.chan g ch with whoQ := some ((s.strand g c k).who c k, chk), shd := {} }).setF F.DMA_CH_STATUS_SHADOW 2 g ch

theorem execDgo_eq {s : State} {g c k : Nat} {d : Dec} (h : s.At g c k .dgo d) :
    execDgo g c k s = .next (
      if s.chOwner g d.f35 ≠ c ∨ s.shadow g d.f35 ≠ 1 then s.raise g c k 0x0A
      else if (s.shdDesc g d.f35).pace &&
          (decide (s.f F.DMA_CH_PACE_ADDR_ADDR g d.f35 % 8 ≠ 0) || (s.winKey g c (s.f F.DMA_CH_PACE_ADDR_ADDR g d.f35) 8).isNone)
        then s.raise g c k 0x0A (s.f F.DMA_CH_PACE_ADDR_ADDR g d.f35)
      else (s.dgo g c k d.f35).retire g c k (s.strand g c k)) :=
  congrArg Host.Outcome.next (State.issue_of_at h _)

/-- The pace address of a paced transfer is misaligned, or no word of the window. -/
theorem paceBad_iff (paced : Bool) (n : Nat) (key : Option Nat) :
    (paced && (decide (n ≠ 0) || key.isNone)) = true ↔ ¬(paced = true → n = 0 ∧ key.isSome = true) := by
  cases paced <;> cases key <;> simp

theorem State.dgo_retires (s : State) (g c k ch : Nat) :
    let t := (s.dgo g c k ch).retire g c k (s.strand g c k)
    (∃ v : State, v = { s with regs := v.regs, chans := v.chans } ∧ v.Passes t g c k) ∧
    t.shadow g ch = 2 ∧ (t.chan g ch).act = (s.chan g ch).act ∧
    (t.chan g ch).whoQ.map (·.1) = some ((s.strand g c k).who c k) ∧ t.chState g ch = s.chState g ch := by
  intro t
  have hpass : (s.dgo g c k ch).Passes t g c k := State.retire_passes_of rfl
  obtain ⟨hst, hsh, hchan⟩ := hpass.frame.channel ch
  have hdgo : (s.dgo g c k ch).chan g ch = _ := s.chan_setChan_same g ch _
  refine ⟨⟨_, rfl, hpass⟩, hsh.trans (State.f_setF_same _ _ _ _ _ _ (by decide)), ?_, ?_,
    hst.trans (State.chState_setF _ _ _ (by decide) ..)⟩ <;> rw [hchan, hdgo]
  rfl

/-! ### DSTOP (R236) -/

/-- DSTOP of a transfer that is not stopping yet. -/
theorem State.dstop_active {s : State} {g ch : Nat} (h : s.chState g ch = 1 ∨ s.chState g ch = 2 ∨ s.chState g ch = 4) :
    s.dstop g ch = (s.shadowEmpty g ch).chStop g ch (if s.chState g ch = 4 then 3 else 2) := by
  rw [State.dstop]
  obtain h | h | h := h <;> rw [h] <;> rfl

theorem State.dstop_inactive {s : State} {g ch : Nat} (h : s.chState g ch = 0 ∨ s.chState g ch = 3) : s.dstop g ch = s := by
  rw [State.dstop]
  obtain h | h := h <;> rw [h] <;> rfl

theorem State.chStop_rest (s : State) (g ch e : Nat) :
    ∃ r c k, s.chStop g ch e = { s with regs := r, chans := c, cores := k } := ⟨_, _, _, rfl⟩

/-- DSTOP changes registers, channels and units only. -/
theorem State.stop_rest (s : State) (g ch e : Nat) :
    ∃ r c k, (s.shadowEmpty g ch).chStop g ch e = { s with regs := r, chans := c, cores := k } := by
  obtain ⟨r, c, k, hr⟩ := (s.shadowEmpty g ch).chStop_rest g ch e
  obtain ⟨r', c', k', hr'⟩ := s.shadowEmpty_rest g ch
  exact ⟨r, c, k, by rw [hr, hr']⟩

theorem execDstop_eq {s : State} {g c k : Nat} {d : Dec} (h : s.At g c k .dstop d) :
    execDstop g c k s =
      .next ((if s.chOwner g d.f35 = c then s.dstop g d.f35 else s).retire g c k (s.strand g c k)) :=
  congrArg Host.Outcome.next (State.issue_of_at h _)

theorem State.stop_retires (s : State) (g c k ch e : Nat) :
    let t := ((s.shadowEmpty g ch).chStop g ch e).retire g c k (s.strand g c k)
    (∃ v : State, v = { s with regs := v.regs, chans := v.chans, cores := v.cores } ∧ v.Passes t g c k) ∧
    t.chState g ch = 3 ∧ t.shadow g ch = 0 ∧ (t.chan g ch).act = (s.chan g ch).act.map (Ends · e) := by
  intro t
  obtain ⟨r, n, m, hstop⟩ := s.stop_rest g ch e
  have hstrand : ((s.shadowEmpty g ch).chStop g ch e).strand g c k = s.strand g c k := by
    rw [hstop]
    rfl
  have hpass := State.retire_passes_of hstrand
  obtain ⟨hst, hsh, hchan⟩ := hpass.frame.channel ch
  refine ⟨⟨_, ?_, hpass⟩, hst.trans (State.chStop_chState ..), hsh.trans ?_, ?_⟩
  · rw [hstop]
  · exact (State.chStop_f _ _ _ (y := F.DMA_CH_STATUS_SHADOW) (by decide) ..).trans (s.shadowEmpty_shadow g ch)
  · rw [hchan, State.chStop_chan, State.shadowEmpty_chan]

/-- Settles O25: each instruction by its equation and by what its channel holds when the strand goes on. -/
theorem dmaInstructionsDriveChannels : Obligations.DmaInstructionsDriveChannels := by
  intro s g c k d u ch own
  refine ⟨fun h => ⟨_, execDld_eq h, ?_⟩, fun h => ⟨_, execDgo_eq h, ?_⟩, fun h => ⟨_, execDstop_eq h, ?_⟩,
    fun h => ⟨_, congrArg Host.Outcome.next (State.issue_of_at h _), State.retireB_retires ..⟩⟩
  · intro a
    refine ⟨fun hown => ?_, fun hown hsh => ?_, fun hown hsh hkey => ?_, fun key hown hsh hkey => ?_⟩
    · rw [if_pos hown]
      exact s.raise_faults ..
    · rw [if_neg (not_not.mpr hown), if_pos hsh]
    · rw [if_neg (not_not.mpr hown), if_neg (not_not.mpr hsh), hkey]
      exact s.raise_faults ..
    · intro words
      have hwords : s.descAt key = words := List.map_congr_left fun i _ => by rw [leNat_eq_readN]
      have hword (i : Nat) (hi : i < 8) : words.w i = BitVec.ofNat 64 (leNat s (key + 8 * i) 8) := by
        simp [words, Desc.w, hi]
      rw [if_neg (not_not.mpr hown), if_neg (not_not.mpr hsh), hkey]
      dsimp only
      rw [hwords]
      refine ⟨fun hp => ?_, fun hp hbad => ?_, fun hp hok => ?_⟩ <;> rw [hp]
      · exact s.raise_faults ..
      · rw [hbad]
        exact s.raise_faults ..
      · rw [hok]
        obtain ⟨hpass, hregs, hstate⟩ := s.shadowLoad_retires g c k ch words
        exact ⟨hpass, fun i hi => (hregs i hi).trans (hword i hi), hstate⟩
  · intro pa ok
    simp only [paceBad_iff]
    refine ⟨fun hbad => ?_, fun hok => ?_⟩
    · split
      · exact s.raise_faults ..
      next hmine =>
        rw [if_pos fun hpace => hbad ⟨not_not.mp fun h => hmine (.inl h), not_not.mp fun h => hmine (.inr h), hpace⟩]
        exact s.raise_faults ..
    · obtain ⟨hown, hsh, hpace⟩ := hok
      rw [if_neg (not_or.mpr ⟨not_not.mpr hown, not_not.mpr hsh⟩), if_neg (not_not.mpr hpace)]
      exact s.dgo_retires g c k ch
  · intro st
    refine ⟨fun hidle => ?_, fun hown hst => ?_⟩
    · have hnone : (if s.chOwner g d.f35 = c then s.dstop g d.f35 else s) = s := by
        split
        next hown => exact State.dstop_inactive (hidle.resolve_left (not_not.mpr hown))
        · rfl
      rw [hnone]
      exact s.retire_passes g c k
    · rw [if_pos hown, State.dstop_active hst]
      exact s.stop_retires g c k ch _

end Sys2Proof.Machine
end

section
namespace Sys2Proof.Machine

open Sys2Proof.Claims

/-! PROOFS. TransfersStartAndMove, the start of a transfer. -/

/-! ### The shadow set becomes active (R210) -/

/-- The registers of the active set written in turn, each from its word of the shadow set. -/
def State.copyShd (s : State) (g ch : Nat) (l : List (Nat × RegName)) : State :=
  l.foldl (fun s e => s.setReg ⟨e.2, g, ch, 0⟩ (s.reg ⟨.DMA_CH_SHD, g, ch, e.1⟩)) s

section
variable (s : State) (g ch : Nat)

theorem State.copyShd_rest (l : List (Nat × RegName)) : ∃ r, s.copyShd g ch l = { s with regs := r } := by
  induction l generalizing s with
  | nil => exact ⟨s.regs, rfl⟩
  | cons e l ih => exact ih (s.setReg ⟨e.2, g, ch, 0⟩ _)

/-- Registers that are not written stand. -/
theorem State.copyShd_other {l : List (Nat × RegName)} {r : Reg} (h : ∀ e ∈ l, e.2 ≠ r.name) : (s.copyShd g ch l).reg r = s.reg r := by
  induction l generalizing s with
  | nil => rfl
  | cons e l ih =>
    refine (ih _ fun e' he' => h e' (List.mem_cons_of_mem _ he')).trans (State.reg_setReg_other _ _ fun heq => ?_)
    exact h e List.mem_cons_self (congrArg Reg.name heq).symm

/-- Each register written once holds its word of the shadow set. -/
theorem State.copyShd_reg {l : List (Nat × RegName)} (hshd : ∀ e ∈ l, e.2 ≠ .DMA_CH_SHD) (hone : (l.map (·.2)).Nodup)
    {e : Nat × RegName} (he : e ∈ l) : (s.copyShd g ch l).reg ⟨e.2, g, ch, 0⟩ = s.reg ⟨.DMA_CH_SHD, g, ch, e.1⟩ := by
  induction l generalizing s with
  | nil => cases he
  | cons x l ih =>
    obtain ⟨hx, hone⟩ := List.nodup_cons.mp hone
    have hshd' := fun e' he' => hshd e' (List.mem_cons_of_mem x he')
    obtain rfl | he := List.mem_cons.mp he
    · refine (State.copyShd_other (s.setReg _ _) g ch (l := l) fun e' he' heq => hx ?_).trans (State.reg_setReg_same ..)
      exact List.mem_map.mpr ⟨e', he', heq⟩
    · refine (ih _ hshd' hone he).trans (State.reg_setReg_other _ _ fun heq => ?_)
      exact hshd x List.mem_cons_self (congrArg Reg.name heq).symm

/-- The words of the active set, numbered as in the shadow set. -/
def activeWords : List (Nat × RegName) := (List.range 8).zip activeRegs

/-- The active set after the copy is the shadow set. -/
theorem State.copyShd_desc : (s.copyShd g ch activeWords).desc g ch = s.shdDesc g ch := by
  have hword (e : Nat × RegName) (he : e ∈ activeWords) :
      (s.copyShd g ch activeWords).reg ⟨e.2, g, ch, 0⟩ = s.reg ⟨.DMA_CH_SHD, g, ch, e.1⟩ :=
    s.copyShd_reg g ch (by decide) (by decide) he
  have hdesc : (s.copyShd g ch activeWords).desc g ch =
      activeWords.map fun e => (s.copyShd g ch activeWords).reg ⟨e.2, g, ch, 0⟩ := rfl
  have hshd : s.shdDesc g ch = activeWords.map fun e => s.reg ⟨.DMA_CH_SHD, g, ch, e.1⟩ := rfl
  rw [hdesc, hshd]
  exact List.map_congr_left hword

/-- The registers of a transfer that starts: the shadow set moved to the active one, STATE running, no unit done. -/
def State.startRegs : State :=
  let s := (s.copyShd g ch activeWords).setShd g ch fun _ => 0
  let s := (s.setF F.DMA_CH_STATUS_SHADOW 0 g ch).setChState g ch 1
  (s.setF F.DMA_CH_DONE_UNITS 0 g ch).setF F.DMA_CH_STATUS_UNITS 0 g ch

/-- Bursts read ahead for the shadow transfer are the active one's. -/
def State.adopt : State :=
  s.setCore g { s.core g with bursts := (s.core g).bursts.map (fun b => if b.ch = ch then { b with next := false } else b) }

theorem State.adopt_chan : (s.adopt g ch).chan g ch = s.chan g ch := rfl

/-- The transfer that a queued DGO starts. -/
def State.startXfer (w : Who) (chk : Bool) : Xfer :=
  { who := w, chk := chk, walk := (s.chan g ch).shd, c0 := (s.startRegs g ch).paceWord g w.c ch,
    seen := (s.startRegs g ch).paceWord g w.c ch }

variable {s g ch}

theorem execShadowActivation_starts {w : Who} {chk : Bool} (hq : (s.chan g ch).whoQ = some (w, chk)) (h2 : s.shadow g ch = 2)
    (h0 : s.chState g ch = 0) (hstop : s.dmaStopped g = false) : execShadowActivation g ch s =
      .next (((s.startRegs g ch).setChan g ch { act := some (s.startXfer g ch w chk) }).adopt g ch) := by
  rw [execShadowActivation, hq]
  dsimp only
  rw [if_neg (by simp [h2, h0, hstop])]
  rfl

theorem State.startRegs_rest : ∃ r, s.startRegs g ch = { s with regs := r } := by
  obtain ⟨r, hr⟩ := s.copyShd_rest g ch activeWords
  obtain ⟨r', hr'⟩ := (s.copyShd g ch activeWords).setShd_rest g ch fun _ => 0
  rw [State.startRegs, hr', hr]
  exact ⟨_, rfl⟩

/-- Registers that the start of a transfer leaves. -/
theorem State.startRegs_reg {r : Reg} (h1 : r.name ≠ .DMA_CH_STATUS) (h2 : r.name ≠ .DMA_CH_DONE) :
    (s.startRegs g ch).reg r = ((s.copyShd g ch activeWords).setShd g ch fun _ => 0).reg r := by
  have hset (u : State) (x : Fld) (v : Nat) (hx : r.name ≠ x.reg) : (u.setF x v g ch).reg r = u.reg r :=
    State.reg_setReg_other _ _ fun e => hx (congrArg Reg.name e)
  rw [State.startRegs, hset _ _ _ h1, hset _ _ _ h2, State.setChState, hset _ _ _ h1, hset _ _ _ h1]

theorem State.startRegs_desc : (s.startRegs g ch).desc g ch = s.shdDesc g ch := by
  rw [← State.copyShd_desc]
  refine List.map_congr_left fun n hn => ?_
  have hname : n ≠ .DMA_CH_STATUS ∧ n ≠ .DMA_CH_DONE ∧ n ≠ .DMA_CH_SHD := by revert n; decide
  obtain ⟨h1, h2, h3⟩ := hname
  rw [State.startRegs_reg h1 h2, State.setShd_reg_other _ _ _ _ h3]

theorem State.startRegs_shd {i : Nat} (hi : i < 8) : (s.startRegs g ch).reg ⟨.DMA_CH_SHD, g, ch, i⟩ = 0 := by
  rw [State.startRegs_reg (by simp) (by simp), State.setShd_reg _ _ _ _ hi]

theorem State.startRegs_state :
    (s.startRegs g ch).chState g ch = 1 ∧ (s.startRegs g ch).shadow g ch = 0 ∧ (s.startRegs g ch).f F.DMA_CH_DONE_UNITS g ch = 0 := by
  refine ⟨?_, ?_, ?_⟩
  · rw [State.startRegs, State.chState_setF _ _ _ (by decide), State.chState_setF _ _ _ (by decide),
      State.chState_setChState_same _ g ch (by decide)]
  · rw [State.startRegs, State.shadow, State.f_setF_bits _ _ _ _ _ _ _ _ _ _ (by decide),
      State.f_setF_name _ _ _ _ _ _ _ _ _ _ (by decide), State.setChState, State.f_setF_bits _ _ _ _ _ _ _ _ _ _ (by decide),
      State.f_setF_same _ _ _ _ _ _ (by decide)]
    rfl
  · rw [State.startRegs, State.f_setF_name _ _ _ _ _ _ _ _ _ _ (by decide), State.f_setF_same _ _ _ _ _ _ (by decide)]
    rfl

/-- A queued shadow set becomes the active transfer of an idle channel. -/
theorem State.transferStarts (w : Who) (chk : Bool) :
    let t := ((s.startRegs g ch).setChan g ch { act := some (s.startXfer g ch w chk) }).adopt g ch
    t.mem = s.mem ∧ t.chState g ch = 1 ∧ t.shadow g ch = 0 ∧ t.f F.DMA_CH_DONE_UNITS g ch = 0 ∧ t.desc g ch = s.shdDesc g ch ∧
      (∀ i, i < 8 → t.reg ⟨.DMA_CH_SHD, g, ch, i⟩ = 0) ∧ (t.chan g ch).whoQ = none ∧
      ∃ x, (t.chan g ch).act = some x ∧ x.who = w ∧ x.chk = chk ∧ x.head = 0 ∧ x.walk = (s.chan g ch).shd ∧ x.acked = [] := by
  have hstate := s.startRegs_state (g := g) (ch := ch)
  have hdesc := s.startRegs_desc (g := g) (ch := ch)
  have hshd (i : Nat) (hi : i < 8) := s.startRegs_shd (g := g) (ch := ch) hi
  have hmem : (s.startRegs g ch).mem = s.mem := by
    obtain ⟨r, hr⟩ := s.startRegs_rest (g := g) (ch := ch)
    rw [hr]
  have hx : (s.startXfer g ch w chk).who = w ∧ (s.startXfer g ch w chk).chk = chk ∧ (s.startXfer g ch w chk).head = 0 ∧
      (s.startXfer g ch w chk).walk = (s.chan g ch).shd ∧ (s.startXfer g ch w chk).acked = [] := ⟨rfl, rfl, rfl, rfl, rfl⟩
  generalize s.startRegs g ch = u at hstate hdesc hshd hmem
  generalize s.startXfer g ch w chk = x at hx
  intro t
  have hchan : t.chan g ch = { act := some x } := (State.adopt_chan ..).trans (u.chan_setChan_same g ch _)
  obtain ⟨h1, h0, hdone⟩ := hstate
  exact ⟨hmem, h1, h0, hdone, hdesc, hshd, congrArg Chan.whoQ hchan, x, congrArg Chan.act hchan, hx⟩

end
end Sys2Proof.Machine
end

section
namespace Sys2Proof.Machine

open Sys2Proof.Claims

/-! PROOFS. TransfersStartAndMove, the read engine. -/

/-! ### Round robin where one channel is ready (R217) -/

theorem mem_roundRobin (last : Nat) {ch : Nat} (hch : ch < 16) : ch ∈ (List.range 16).map (fun i => (last + 1 + i) % 16) :=
  List.mem_map.mpr ⟨(ch + 16 - (last + 1) % 16) % 16, List.mem_range.mpr (Nat.mod_lt _ (by decide)), by omega⟩

theorem roundRobin_some {last h : Nat} {p : Nat → Bool} (hr : roundRobin last p = some h) : h < 16 ∧ p h = true := by
  obtain ⟨i, -, rfl⟩ := List.mem_map.mp (List.mem_of_find?_eq_some hr)
  exact ⟨Nat.mod_lt _ (by decide), List.find?_some hr⟩

theorem roundRobin_only {last ch : Nat} {p : Nat → Bool} (hch : ch < 16) (hp : p ch = true)
    (hother : ∀ h, h < 16 → h ≠ ch → p h = false) : roundRobin last p = some ch := by
  cases hr : roundRobin last p with
  | none => exact absurd hp (List.find?_eq_none.mp hr ch (mem_roundRobin last hch))
  | some h =>
    obtain ⟨hh, hph⟩ := roundRobin_some hr
    rw [Decidable.not_not.mp fun hne => Bool.false_ne_true ((hother h hh hne).symm.trans hph)]

theorem roundRobin_none {last : Nat} {p : Nat → Bool} (hp : ∀ h, h < 16 → p h = false) : roundRobin last p = none := by
  cases hr : roundRobin last p with
  | none => rfl
  | some h =>
    obtain ⟨hh, hph⟩ := roundRobin_some hr
    exact absurd ((hp h hh).symm.trans hph) Bool.false_ne_true

/-! ### Translation reads the registers and memory only -/

theorem State.xlate_congr {s t : State} (hr : t.regs = s.regs) (hm : t.mem = s.mem) (g c a : Nat) (w : Bool) (k : AccKind) :
    t.xlate g c a w k = s.xlate g c a w k := by
  have hread (u : State) : u.xlate g c a w k = ({ s with regs := u.regs, mem := u.mem } : State).xlate g c a w k := rfl
  rw [hread t, hr, hm]

theorem State.writeCheck_congr {s t : State} (hr : t.regs = s.regs) (l : Loc) (n : Nat) (acc : Acc) :
    t.writeCheck l n acc = s.writeCheck l n acc := by
  have hread (u : State) : u.writeCheck l n acc = ({ s with regs := u.regs } : State).writeCheck l n acc := rfl
  rw [hread t, hr]

/-! ### A read goes out to memory of this module (R185, R216) -/

/-- Burst b is being read from a key. -/
def Burst.readAt (a key : Nat) (b : Burst) : Burst := { b with st := .reading, addr := a, loc := .mem key, rsp := none }

theorem State.burstGo_reads {s : State} {g c a key : Nat} (h : s.xlate g c a false .dma = .ok (.mem key)) (b : Burst) :
    ∃ r, s.burstGo g c b (.ok a) = { s.modBurst g b.id (Burst.readAt a key) with regs := r } ∧
      ∀ y : Fld, y.reg ≠ .DMA_BUF_STAT → ∀ i j k, (s.burstGo g c b (.ok a)).f y i j k = s.f y i j k := by
  have hgo : s.burstGo g c b (.ok a) =
      if (s.modBurst g b.id (Burst.readAt a key)).f F.DMA_BUF_STAT_PEAK g < ((s.modBurst g b.id (Burst.readAt a key)).core g).bufUsed
      then (s.modBurst g b.id (Burst.readAt a key)).setF F.DMA_BUF_STAT_PEAK
        ((s.modBurst g b.id (Burst.readAt a key)).core g).bufUsed g
      else s.modBurst g b.id (Burst.readAt a key) := by
    rw [State.burstGo]
    dsimp only
    rw [h]
    rfl
  rw [hgo]
  split
  · exact ⟨_, rfl, fun y hy i j k => State.f_setF_name _ _ _ _ _ _ _ _ _ _ hy⟩
  · exact ⟨_, rfl, fun y hy i j k => rfl⟩

/-! ### The next read of a copy -/

/-- The next read of a copy: the next bytes of a run, up to a 256 B boundary. -/
def Desc.copyFetch (d : Desc) (w : Walk) : Fetch :=
  ⟨.data, d.unitOf w.run, w.run, w.off, .ok (d.srcRun w.run + w.off), cut (d.srcRun w.run) w.off d.run,
    w.past (cut (d.srcRun w.run) w.off d.run) d.run⟩

/-- The engine makes no run of a copy itself. -/
theorem Desc.ownRun_copy {d : Desc} (hop : d.op = 0) (w : Walk) (r : Nat) : d.ownRun w r = false := by
  rw [Desc.ownRun, hop]
  rfl

theorem Desc.ahead_copy {d : Desc} (hop : d.op = 0) (w : Walk) : d.ahead w = w := by
  rw [Desc.ahead, Desc.skip, Desc.ownRun_copy hop, if_pos (.inr rfl)]

theorem State.fetchOf_copy {s : State} {c : Nat} {d : Desc} {w : Walk} (hop : d.op = 0) (hr : w.run < d.nRuns) :
    s.fetchOf c d w = some (d.copyFetch w) := by
  rw [State.fetchOf, Desc.ahead_copy hop]
  dsimp only
  rw [hop, if_neg (by simp), if_neg (Nat.not_le.mpr hr)]
  rfl

section
variable {s : State} {g ch : Nat} {x : Xfer}

/-- A channel without a transfer has no read. -/
theorem State.readCand_none (h : (s.chan g ch).act = none) : s.readCand g ch = none := by
  rw [State.readCand, h]

/-- The read of a running copy that has none in its list. -/
theorem State.readCand_copy (hx : (s.chan g ch).act = some x) (h1 : s.chState g ch = 1) (hstop : s.dmaStopped g = false)
    (hop : (s.desc g ch).op = 0) (hb : (s.core g).bursts = []) (hr : x.walk.run < (s.desc g ch).nRuns)
    (hdepth : (s.desc g ch).unitOf x.walk.run ≤ x.head + (s.f F.DMA_CH_CFG_DEPTH_M1 g ch + 1)) :
    s.readCand g ch = some ⟨(s.desc g ch).unitOf x.walk.run == x.head, false, none, some ((s.desc g ch).copyFetch x.walk)⟩ := by
  have htail : s.tailFetch g ch (s.desc g ch) x = none := if_pos (by omega)
  rw [State.readCand, hx]
  dsimp only
  rw [if_neg (by simp [h1, hstop]), hb, List.filter_nil, List.find?_nil]
  dsimp only
  rw [htail, State.fetchOf_copy hop hr]
  exact if_pos hdepth

/-- Where only one channel has a read, and the list is empty, that read is issued. -/
theorem execDmaReadBurstIssue_only {k : ReadCand} (hch : ch < 16) (hb : (s.core g).bursts = []) (hk : s.readCand g ch = some k)
    (hother : ∀ h, h < 16 → h ≠ ch → s.readCand g h = none) : execDmaReadBurstIssue g s = .next (s.readIssue g ch k) := by
  have hused : (s.core g).bufUsed = 0 := by rw [Core.bufUsed, hb]; rfl
  have hreads : (s.core g).bufReads = 0 := by rw [Core.bufReads, hb]; rfl
  have hpick (b : Bool) (hd : k.demand = b) : roundRobin (s.core g).lastRead (fun h =>
      (s.readCand g h).any (fun k => k.demand == b && (!k.takes || decide ((s.core g).bufUsed < 1024)))) = some ch :=
    roundRobin_only hch (by simp [hk, hd, hused]) fun h hh hne => by rw [hother h hh hne]; rfl
  have hrest (b : Bool) (hd : k.demand ≠ b) : roundRobin (s.core g).lastRead (fun h =>
      (s.readCand g h).any (fun k => k.demand == b && (!k.takes || decide ((s.core g).bufUsed < 1024)))) = none := by
    refine roundRobin_none fun h hh => ?_
    by_cases hne : h = ch
    · rw [hne, hk]
      simp [hd]
    · rw [hother h hh hne]
      rfl
  rw [execDmaReadBurstIssue]
  dsimp only
  rw [if_neg (by omega)]
  cases hd : k.demand with
  | true =>
    rw [hpick true hd]
    dsimp only
    rw [hk]
  | false =>
    rw [hrest true (by simp [hd]), hpick false hd, if_pos (by omega)]
    dsimp only
    rw [hk]

/-- The burst of a new demand or run-ahead read of the active transfer. -/
def Fetch.burst (f : Fetch) (id ch a : Nat) (demand : Bool) : Burst :=
  { id := id, ch := ch, next := false, kind := f.kind, unit := f.unit, run := f.run, off := f.off, addr := a, loc := .mem 0, len := f.len,
    demand := demand }

/-- A new read of the active transfer is in the list, and its walk is past it. -/
def State.readListed (s : State) (g ch : Nat) (b : Burst) (w : Walk) : State :=
  let s' := s.setCore g { s.core g with lastRead := ch }
  (s'.setCore g { s'.core g with seq := (s.core g).seq + 1, bursts := (s.core g).bursts ++ [b] }).modXfer g ch
    (fun x => { x with walk := w })

/-- A new read of memory of this module, on an empty list. -/
theorem State.readIssue_reads (hx : (s.chan g ch).act = some x) (hb : (s.core g).bursts = []) {f : Fetch} {a key : Nat}
    (hf : f.addr = .ok a) (hkey : s.xlate g x.who.c a false .dma = .ok (.mem key)) (demand : Bool) :
    let t := s.readIssue g ch ⟨demand, false, none, some f⟩
    t.mem = s.mem ∧ (t.core g).lastRead = ch ∧
    (t.core g).bursts = [(f.burst (s.core g).seq ch a demand).readAt a key] ∧
    (t.chan g ch).act = some { x with walk := f.walk } := by
  have ht : s.readIssue g ch ⟨demand, false, none, some f⟩ =
      (s.readListed g ch (f.burst (s.core g).seq ch a demand) f.walk).burstGo g x.who.c
        (f.burst (s.core g).seq ch a demand) (.ok a) := by
    simp only [State.readIssue, hx, hf]
    rfl
  have hcore : (s.readListed g ch (f.burst (s.core g).seq ch a demand) f.walk).core g =
      { s.core g with lastRead := ch, seq := (s.core g).seq + 1, bursts := [f.burst (s.core g).seq ch a demand] } := by
    rw [State.readListed, State.modXfer_core, State.core_setCore_same, State.core_setCore_same, hb]
    rfl
  have hact : ((s.readListed g ch (f.burst (s.core g).seq ch a demand) f.walk).chan g ch).act = some { x with walk := f.walk } :=
    (congrArg Chan.act (State.chan_modXfer_same ..)).trans (congrArg (Option.map _) hx)
  have hmem : (s.readListed g ch (f.burst (s.core g).seq ch a demand) f.walk).mem = s.mem := rfl
  have hregs : (s.readListed g ch (f.burst (s.core g).seq ch a demand) f.walk).regs = s.regs := rfl
  intro t
  simp only [t, ht]
  generalize s.readListed g ch (f.burst (s.core g).seq ch a demand) f.walk = v at hcore hact hmem hregs
  obtain ⟨r, hgo, -⟩ := State.burstGo_reads ((State.xlate_congr hregs hmem ..).trans hkey) (f.burst (s.core g).seq ch a demand)
  have hsame (u : State) : ({ u with regs := r } : State).core g = u.core g := rfl
  rw [hgo, hsame, State.modBurst, State.core_setCore_same, hcore]
  refine ⟨hmem, rfl, ?_, hact⟩
  simp

/-- The next bytes of a copy that runs alone, up to a 256 B boundary, are being read. -/
theorem execDmaReadBurstIssue_copy {key : Nat} (hrun : RunsAlone s g ch x) (hop : (s.desc g ch).op = 0)
    (hb : (s.core g).bursts = []) (hr : x.walk.run < (s.desc g ch).nRuns)
    (hdepth : (s.desc g ch).unitOf x.walk.run ≤ x.head + (s.f F.DMA_CH_CFG_DEPTH_M1 g ch + 1))
    (hkey : s.xlate g x.who.c ((s.desc g ch).srcRun x.walk.run + x.walk.off) false .dma = .ok (.mem key)) :
    ∃ t, exec (.dmaReadBurstIssue g) s = .next t ∧ t.mem = s.mem ∧ (t.core g).lastRead = ch ∧
      (t.core g).bursts = [(((s.desc g ch).copyFetch x.walk).burst (s.core g).seq ch
        ((s.desc g ch).srcRun x.walk.run + x.walk.off) ((s.desc g ch).unitOf x.walk.run == x.head)).readAt
        ((s.desc g ch).srcRun x.walk.run + x.walk.off) key] ∧
      (t.chan g ch).act = some { x with walk := ((s.desc g ch).copyFetch x.walk).walk } := by
  obtain ⟨hch, hx, h1, hstop, hother⟩ := hrun
  have hk := State.readCand_copy hx h1 hstop hop hb hr hdepth
  have hnone (h : Nat) (hh : h < 16) (hne : h ≠ ch) : s.readCand g h = none := State.readCand_none (hother h hh hne).1
  exact ⟨_, execDmaReadBurstIssue_only hch hb hk hnone, State.readIssue_reads hx hb rfl hkey _⟩

end
end Sys2Proof.Machine
end

section
namespace Sys2Proof.Machine

open Sys2Proof.Claims

/-! PROOFS. TransfersStartAndMove, the write engine. -/

/-! ### The bytes of a write (R215) -/

/-- The part of a stretch in its granule i: its offset and its bytes. -/
def granulePart (key n i : Nat) : Nat × Nat :=
  let lo := if i = 0 then 0 else 64 * i - key % 64
  (lo, min n (64 * (i + 1) - key % 64) - lo)

/-- The parts of a stretch have its bytes at most. -/
theorem granuleParts_sum (key n : Nat) : ((granuleParts key n).map (·.2)).sum ≤ n := by
  have hlast (m : Nat) : (granulePart key n m).2 = min n (64 * (m + 1) - key % 64) - (64 * m - key % 64) := by
    cases m <;> simp [granulePart]
  have hsum (m : Nat) : (((List.range m).map (granulePart key n)).map (·.2)).sum ≤ min n (64 * m - key % 64) := by
    induction m with
    | zero => exact Nat.zero_le _
    | succ m ih =>
      rw [List.range_succ, List.map_append, List.map_append, List.sum_append, List.map_singleton, List.map_singleton,
        List.sum_singleton, hlast]
      omega
  exact (hsum _).trans (Nat.min_le_left ..)

/-- A part lies in its stretch. -/
theorem granuleParts_mem {key n : Nat} {p : Nat × Nat} (hp : p ∈ granuleParts key n) : p.1 + p.2 ≤ n := by
  obtain ⟨i, hi, rfl⟩ := List.mem_map.mp hp
  have hlt := List.mem_range.mp hi
  simp only [ceilDiv] at hlt
  dsimp only [granulePart]
  split <;> omega

/-- Pieces of bounded length collected one after another. -/
theorem foldl_pieces_length {α β : Type} (piece : List (List Byte) × β → α → List Byte) (next : List (List Byte) × β → α → β)
    {bound : α → Nat} (h : ∀ acc e, (piece acc e).length ≤ bound e) (l : List α) (acc : List (List Byte) × β) :
    ((l.foldl (fun acc e => (acc.1 ++ [piece acc e], next acc e)) acc).1.map List.length).sum ≤
      (acc.1.map List.length).sum + (l.map bound).sum := by
  induction l generalizing acc with
  | nil => simp
  | cons e l ih =>
    refine (ih _).trans ?_
    have he := h acc e
    simp only [List.map_append, List.sum_append, List.map_cons, List.map_nil, List.sum_cons, List.sum_nil]
    omega

/-- Pieces have the same bytes in either order. -/
theorem flatten_reverse_length (up : Bool) (l : List (List Byte)) :
    (if up then l else l.reverse).flatten.length = (l.map List.length).sum := by
  cases up <;> simp [List.length_flatten, List.sum_reverse]

theorem numbered_sum (l : List (Nat × Nat)) :
    (((List.range l.length).zip l).map (fun e => e.2.2)).sum = (l.map (·.2)).sum := by
  have hsnd : ((List.range l.length).zip l).map Prod.snd = l := List.map_snd_zip (by simp)
  conv_rhs => rw [← hsnd]
  rw [List.map_map]
  rfl

section
variable {s : State} {g ch : Nat} {x : Xfer} {b : Burst}

/-- A write over its own source carries no more bytes than were read. -/
theorem State.overlapped_length (dk off : Nat) (data : List Byte) : (s.overlapped g ch b dk off data).1.length ≤ data.length := by
  unfold State.overlapped
  split
  next y sk hact hloc =>
    dsimp only
    split
    · exact Nat.le_refl _
    · refine le_trans ?_ (granuleParts_sum dk data.length)
      rw [flatten_reverse_length]
      refine (foldl_pieces_length (bound := fun e => e.2.2) _ _ (fun acc e => ?_) _ _).trans ?_
      · split_ifs <;> exact List.length_take_le ..
      · simp only [List.map_nil, List.sum_nil, Nat.zero_add]
        split_ifs <;> simp only [List.map_reverse, List.sum_reverse, numbered_sum, le_refl]
  · exact Nat.le_refl _

/-- The bytes of a write use up free values at most. -/
theorem State.overlapped_state (s : State) (g ch : Nat) (b : Burst) (dk off : Nat) (data : List Byte) :
    ∃ n, (s.overlapped g ch b dk off data).2 = s.useFree n := by
  unfold State.overlapped
  split
  · dsimp only
    split
    · exact ⟨0, rfl⟩
    · exact ⟨_, rfl⟩
  · exact ⟨0, rfl⟩

/-- Bytes of a poisoned burst, and of one whose source the write does not meet, go as they were read. -/
theorem State.overlapped_same (dk off : Nat) (data : List Byte) (hx : (s.chan g ch).act = some x) (hw : (s.core g).writes = [])
    (hin : off - b.off + data.length ≤ b.data.length)
    (h : b.poison = true ∨ ∀ sk, b.loc.key = some sk → (sk + b.data.length ≤ dk ∨ dk + data.length ≤ sk) ∧ x.overwritten = []) :
    s.overlapped g ch b dk off data = (data, s) := by
  unfold State.overlapped
  rw [hx]
  cases hk : b.loc.key with
  | none => rfl
  | some sk =>
    dsimp only
    refine if_pos ?_
    obtain hp | h := h
    · rw [hp]
      rfl
    · obtain ⟨hapart, hover⟩ := h sk hk
      rw [Bool.or_eq_true]
      refine .inr (by
        rw [Bool.not_eq_true', List.any_eq_false]
        intro p hp
        have hpart := granuleParts_mem hp
        simp only [hw, hover, overlap, List.filterMap_nil, List.any_nil, SMap.get]
        simp
        intro h1 h2 h3
        omega)
end

/-! ### The next write of a copy (R216, R218) -/

/-- The next write of burst b of a copy: the bytes that have come, up to a 256 B boundary. -/
def Desc.copyWrite (d : Desc) (b : Burst) : WriteCand :=
  ⟨.data, some b.id, b.unit, b.run, b.off + b.sent, .ok (d.dstRun b.run + (b.off + b.sent)),
    (b.data.drop b.sent).take (to256 (d.dstRun b.run + (b.off + b.sent)) (b.data.length - b.sent)), b.poison⟩

theorem Desc.dstOf_copy {d : Desc} (hop : d.op = 0) (r : Nat) : d.dstOf r = d.dstRun r := if_neg (by omega)

section
variable {s : State} {g ch : Nat} {x : Xfer} {b : Burst}

/-- No earlier stretch waits where only burst b of a copy is in flight. -/
theorem State.writeBlocked_copy (hop : (s.desc g ch).op = 0) (hb : (s.core g).bursts = [b]) (hw : (s.core g).writes = [])
    (a n : Nat) : s.writeBlocked g ch (s.desc g ch) b.run b.off a n = false := by
  rw [State.writeBlocked, hb, hw, hop]
  simp [Nat.add_assoc]

/-- The write of a running copy that is not paced. -/
theorem State.writeCand_copy (hx : (s.chan g ch).act = some x) (h1 : s.chState g ch = 1) (hstop : s.dmaStopped g = false)
    (hop : (s.desc g ch).op = 0) (hpace : (s.desc g ch).pace = false) (hb : (s.core g).bursts = [b])
    (hw : (s.core g).writes = []) (hch : b.ch = ch) (hnext : b.next = false) (hst : b.st = .ready) (hmore : b.sent < b.data.length) :
    s.writeCand g ch = some ((s.desc g ch).copyWrite b) := by
  rw [State.writeCand, hx]
  dsimp only
  rw [if_neg (by simp [h1, hstop]), if_neg (by omega), hb]
  simp only [List.findSome?_cons, hch, hnext, hst, hpace, hmore, State.writeBlocked_copy hop hb hw, Desc.dstOf_copy hop, BEq.rfl,
    Bool.not_false, Bool.true_or, decide_true, Bool.and_self, if_true, Bool.false_eq_true, if_false]
  rfl

/-- A channel without a transfer has no write. -/
theorem State.writeCand_none (h : (s.chan g ch).act = none) : s.writeCand g ch = none := by
  rw [State.writeCand, h]

theorem State.writeRedo_none (hw : (s.core g).writes = []) : s.writeRedo g ch = none := by
  rw [State.writeRedo, hw]
  split <;> rfl

/-- Where only one channel has a write, that write is issued. -/
theorem execDmaWriteBurstIssue_only {k : WriteCand} (hch : ch < 16) (hw : (s.core g).writes = []) (hk : s.writeCand g ch = some k)
    (hother : ∀ h, h < 16 → h ≠ ch → s.writeCand g h = none) : execDmaWriteBurstIssue g s = .next (s.writeIssue g ch k) := by
  have hpick : roundRobin (s.core g).lastWrite (fun ch => (s.writeRedo g ch).isSome || (s.writeCand g ch).isSome) = some ch :=
    roundRobin_only hch (by rw [hk]; simp) fun h hh hne => by rw [hother h hh hne, State.writeRedo_none hw]; rfl
  rw [execDmaWriteBurstIssue, hpick]
  dsimp only
  rw [State.writeRedo_none hw, hk]

/-! ### A write goes out to memory of this module (R185, R218) -/

/-- The check of a shorter write passes where that of a longer one does. -/
theorem State.writeCheck_shorter {key m n : Nat} (h : s.writeCheck (.mem key) n (.store n) = .ok ()) (hle : m ≤ n) :
    s.writeCheck (.mem key) m (.store m) = .ok () := by
  have hlong : s.kvProtected key n = false := by
    by_contra hp
    rw [State.writeCheck, if_pos (by simpa using hp)] at h
    cases h
  have hshort : s.kvProtected key m = false := by
    rw [State.kvProtected, List.any_eq_false] at hlong ⊢
    refine fun r hr hp => hlong r hr ?_
    simp only [Bool.and_eq_true, decide_eq_true_eq] at hp ⊢
    omega
  rw [State.writeCheck, hshort]
  rfl

/-- Write w goes out to a key. -/
theorem State.writeGo_mem {w : DWrite} {key : Nat} (hloc : w.loc = .mem key) (c : Nat) :
    let t := s.writeGo g c w
    t.mem = s.mem ∧ ∃ dups, t.core g = { s.core g with writes := (s.core g).writes.filter (fun v => v.id ≠ w.id) ++
      [{ w with dups := dups, rsp := none, dupFail := none, failed := none }] } := by
  have hsend := (SendsOnly.refl s).mirrorSend key w.data w.poison (fun node => dmaKey g w.ch node 0) (.dma g w.ch w.id)
  intro t
  simp only [t, State.writeGo, hloc]
  exact ⟨hsend.mem, (s.mirrorSend key w.data w.poison (fun node => dmaKey g w.ch node 0) (.dma g w.ch w.id)).1,
    by rw [State.core_setCore_same, hsend.core]⟩

/-- The address of a copy's write stands. -/
theorem State.writeAddr_copy (w : DWrite) (hop : (s.desc g w.ch).op = 0) (c : Nat) : s.writeAddr g c w = .ok w.addr := by
  rw [State.writeAddr]
  split
  · exact if_neg (by omega)
  · rfl

theorem State.writeTry_mem {w : DWrite} {c key n : Nat} (hop : (s.desc g w.ch).op = 0)
    (hkey : s.xlate g c w.addr true .dma = .ok (.mem key)) (hcheck : s.writeCheck (.mem key) n (.store n) = .ok ())
    (hn : w.data.length ≤ n) : s.writeTry g c w = s.writeGo g c { w with loc := .mem key } := by
  rw [State.writeTry]
  dsimp only
  rw [State.writeAddr_copy w hop]
  dsimp only
  rw [hkey]
  dsimp only
  rw [State.writeCheck_shorter hcheck hn]

/-- The first write of a unit that is not paced changes its transfer only. -/
theorem State.unitStart_unpaced (hpace : (s.desc g ch).pace = false) (unit : Nat) :
    ∃ c, s.unitStart g ch unit = { s with chans := c } := by
  rw [State.unitStart]
  split
  · exact ⟨_, rfl⟩
  · split
    · exact ⟨_, rfl⟩
    · dsimp only
      rw [State.modXfer_desc, hpace]
      exact ⟨_, rfl⟩

/-- The write of burst b, with the bytes that it carries. -/
def Desc.copyBurst (d : Desc) (b : Burst) (id ch : Nat) (bs : List Byte) : DWrite :=
  { id := id, ch := ch, kind := .data, src := some b.id, unit := b.unit, run := b.run, off := b.off + b.sent,
    addr := d.dstRun b.run + (b.off + b.sent), loc := .mem 0, data := bs, poison := b.poison }

/-- The bytes of a copy's write are given: n of its burst are taken up. -/
def State.writeTaken (s : State) (g ch : Nat) (b : Burst) (k n : Nat) : State :=
  let s' := (s.setCore g { s.core g with lastWrite := ch }).useFree k
  (s'.setCore g { s'.core g with seq := (s.core g).seq + 1 }).modBurst g b.id (fun b => { b with sent := b.sent + n })

theorem State.writeTaken_core (hb : (s.core g).bursts = [b]) (k n : Nat) : (s.writeTaken g ch b k n).core g =
    { s.core g with lastWrite := ch, seq := (s.core g).seq + 1, bursts := [{ b with sent := b.sent + n }] } := by
  have hfree (u : State) : (u.useFree k).core g = u.core g := rfl
  rw [State.writeTaken, State.modBurst, State.core_setCore_same, State.core_setCore_same, hfree, State.core_setCore_same, hb]
  simp

theorem State.writeTaken_rest (s : State) (g ch : Nat) (b : Burst) (k n : Nat) :
    (s.writeTaken g ch b k n).regs = s.regs ∧ (s.writeTaken g ch b k n).mem = s.mem ∧
    (s.writeTaken g ch b k n).desc g ch = s.desc g ch := by
  have hregs : (s.writeTaken g ch b k n).regs = s.regs := by
    simp only [State.writeTaken, State.modBurst, State.setCore_regs, State.useFree_regs]
  have hmem : (s.writeTaken g ch b k n).mem = s.mem := by
    simp only [State.writeTaken, State.modBurst, State.setCore_mem, State.useFree_mem]
  exact ⟨hregs, hmem, State.desc_of_fields fun m _ => State.f_of_regs hregs ⟨m, 0, 64⟩ g ch 0⟩

/-- What stands when the unit of such a write has started. -/
theorem State.writeStarted_rest (hpace : (s.desc g ch).pace = false) (hb : (s.core g).bursts = [b]) (k n : Nat) :
    let t := (s.writeTaken g ch b k n).unitStart g ch b.unit
    t.regs = s.regs ∧ t.mem = s.mem ∧
    t.core g = { s.core g with lastWrite := ch, seq := (s.core g).seq + 1, bursts := [{ b with sent := b.sent + n }] } := by
  have hcore := State.writeTaken_core (ch := ch) hb k n
  obtain ⟨hregs, hmem, hdesc⟩ := s.writeTaken_rest g ch b k n
  generalize s.writeTaken g ch b k n = u at hcore hregs hmem hdesc
  obtain ⟨c, hc⟩ := State.unitStart_unpaced (hdesc ▸ hpace) b.unit
  rw [hc]
  exact ⟨hregs, hmem, hcore⟩

/-- The bytes that the next write of burst b carries to a key (R215). -/
def State.copyBytes (s : State) (g ch key : Nat) (b : Burst) : List Byte :=
  ((s.setCore g { s.core g with lastWrite := ch }).overlapped g ch b key (b.off + b.sent) ((s.desc g ch).copyWrite b).data).1

theorem Desc.copyWrite_length (d : Desc) (b : Burst) : (d.copyWrite b).data.length =
    to256 (d.dstRun b.run + (b.off + b.sent)) (b.data.length - b.sent) := by
  simp only [Desc.copyWrite, List.length_take, List.length_drop]
  exact Nat.min_eq_left (Nat.min_le_right ..)

/-- What the write of burst b carries where it does not meet its source. -/
theorem State.copyBytes_same {key : Nat} (hx : (s.chan g ch).act = some x) (hw : (s.core g).writes = [])
    (hmore : b.sent < b.data.length)
    (h : b.poison = true ∨ ∀ sk, b.loc.key = some sk →
      (sk + b.data.length ≤ key ∨ key + ((s.desc g ch).copyWrite b).data.length ≤ sk) ∧ x.overwritten = []) :
    s.copyBytes g ch key b = ((s.desc g ch).copyWrite b).data := by
  have hact : ((s.setCore g { s.core g with lastWrite := ch }).chan g ch).act = some x := by rw [State.setCore_chan, hx]
  have hnone : ((s.setCore g { s.core g with lastWrite := ch }).core g).writes = [] := by
    rw [State.core_setCore_same]
    exact hw
  have hin : b.off + b.sent - b.off + ((s.desc g ch).copyWrite b).data.length ≤ b.data.length := by
    rw [Desc.copyWrite_length, to256]
    omega
  rw [State.copyBytes, State.overlapped_same key _ _ hact hnone hin h]

/-- A copy's write to memory of this module is given its bytes and goes out. -/
theorem State.writeIssue_copy {key : Nat} (hx : (s.chan g ch).act = some x) (hop : (s.desc g ch).op = 0)
    (hb : (s.core g).bursts = [b])
    (hkey : s.xlate g x.who.c ((s.desc g ch).dstRun b.run + (b.off + b.sent)) true .dma = .ok (.mem key)) :
    let k := (s.desc g ch).copyWrite b
    ∃ n, s.writeIssue g ch k = ((s.writeTaken g ch b n k.data.length).unitStart g ch b.unit).writeTry g x.who.c
        ((s.desc g ch).copyBurst b (s.core g).seq ch (s.copyBytes g ch key b)) := by
  intro k
  have hkey' := (State.xlate_congr (t := s.setCore g { s.core g with lastWrite := ch }) rfl rfl g x.who.c
    ((s.desc g ch).dstRun b.run + (b.off + b.sent)) true .dma).trans hkey
  obtain ⟨n, hn⟩ := (s.setCore g { s.core g with lastWrite := ch }).overlapped_state g ch b key (b.off + b.sent) k.data
  have hfind : ((s.setCore g { s.core g with lastWrite := ch }).core g).bursts.find? (fun q => q.id = b.id) = some b := by
    rw [State.core_setCore_same, hb]
    simp
  have hcand : (s.setCore g { s.core g with lastWrite := ch }).candData g ch x.who.c k =
      (s.setCore g { s.core g with lastWrite := ch }).overlapped g ch b key (b.off + b.sent) k.data := by
    simp only [State.candData, k, Desc.copyWrite, Option.bind_some, hfind, hkey']
    rfl
  refine ⟨n, ?_⟩
  rw [State.writeIssue, hx]
  dsimp only
  rw [hop, hcand, hn]
  rfl

/-- The bytes that have come of a copy that runs alone are on their way, up to a 256 B boundary. -/
theorem execDmaWriteBurstIssue_copy {key : Nat} (hrun : RunsAlone s g ch x) (hop : (s.desc g ch).op = 0)
    (hpace : (s.desc g ch).pace = false) (hb : (s.core g).bursts = [b]) (hw : (s.core g).writes = []) (hch : b.ch = ch)
    (hnext : b.next = false) (hst : b.st = .ready) (hmore : b.sent < b.data.length)
    (hkey : s.xlate g x.who.c ((s.desc g ch).dstRun b.run + (b.off + b.sent)) true .dma = .ok (.mem key))
    (hcheck : let n := ((s.desc g ch).copyWrite b).data.length
      s.writeCheck (.mem key) n (.store n) = .ok ()) :
    ∃ t dups, exec (.dmaWriteBurstIssue g) s = .next t ∧ t.mem = s.mem ∧
      t.core g = { s.core g with
        lastWrite := ch, seq := (s.core g).seq + 1
        bursts := [{ b with sent := b.sent + ((s.desc g ch).copyWrite b).data.length }]
        writes := [{ (s.desc g ch).copyBurst b (s.core g).seq ch (s.copyBytes g ch key b) with loc := .mem key, dups := dups }] } := by
  obtain ⟨hlt, hx, h1, hstop, hother⟩ := hrun
  have hk := State.writeCand_copy hx h1 hstop hop hpace hb hw hch hnext hst hmore
  have hnone (h : Nat) (hh : h < 16) (hne : h ≠ ch) : s.writeCand g h = none := State.writeCand_none (hother h hh hne).1
  obtain ⟨k, hissue⟩ := State.writeIssue_copy hx hop hb hkey
  have hrest := State.writeStarted_rest (ch := ch) hpace hb k ((s.desc g ch).copyWrite b).data.length
  generalize (s.writeTaken g ch b k ((s.desc g ch).copyWrite b).data.length).unitStart g ch b.unit = v at hrest hissue
  obtain ⟨hregs, hmem, hcore⟩ := hrest
  have hdesc : v.desc g ch = s.desc g ch := State.desc_of_fields fun m _ => State.f_of_regs hregs ⟨m, 0, 64⟩ g ch 0
  have htry := State.writeTry_mem (s := v) (g := g)
    (w := (s.desc g ch).copyBurst b (s.core g).seq ch (s.copyBytes g ch key b)) ((congrArg Desc.op hdesc).trans hop)
    ((State.xlate_congr hregs hmem ..).trans hkey) ((State.writeCheck_congr hregs ..).trans hcheck) (State.overlapped_length ..)
  obtain ⟨hgone, dups, hput⟩ := State.writeGo_mem (s := v) (g := g)
    (w := { (s.desc g ch).copyBurst b (s.core g).seq ch (s.copyBytes g ch key b) with loc := .mem key }) rfl x.who.c
  refine ⟨_, dups, execDmaWriteBurstIssue_only hlt hw hk hnone, ?_, ?_⟩
  · rw [hissue, htry, hgone, hmem]
  · rw [hissue, htry, hput, hcore, hw]
    rfl

end

/-- Settles O26: a transfer's start, its read and its write are each of the one channel that runs. -/
theorem transfersStartAndMove : Obligations.TransfersStartAndMove := by
  refine ⟨fun s g ch w chk hq h2 h0 hstop => ⟨_, execShadowActivation_starts hq h2 h0 hstop, State.transferStarts w chk⟩, ?_, ?_⟩
  · intro s g ch key x hrun hop hb d r a n hr hdepth hkey
    obtain ⟨t, hex, hmem, hlast, hbursts, hact⟩ := execDmaReadBurstIssue_copy hrun hop hb hr hdepth hkey
    exact ⟨t, hex, hmem, hlast, ⟨_, hbursts, rfl, rfl, rfl, rfl, rfl, rfl, rfl, rfl, rfl, rfl, rfl⟩, hact⟩
  · intro s g ch key x b hrun hop hpace hb hw hch hnext hst hmore a n hkey hcheck
    have hx : (s.chan g ch).act = some x := hrun.2.1
    have hlen : ((s.desc g ch).copyWrite b).data.length = n := Desc.copyWrite_length ..
    obtain ⟨t, dups, hex, hmem, hcore⟩ :=
      execDmaWriteBurstIssue_copy hrun hop hpace hb hw hch hnext hst hmore hkey (by rw [hlen]; exact hcheck)
    refine ⟨t, hex, hmem, ?_, ?_, _, congrArg Core.writes hcore, rfl, rfl, rfl, rfl, rfl, rfl, rfl, rfl, rfl, rfl, fun hsame => ?_⟩
    · rw [hcore]
    · rw [hcore, hlen]
    · exact State.copyBytes_same hx hw hmore (by rw [hlen]; exact hsame)

end Sys2Proof.Machine
end

section
namespace Sys2Proof.Machine

open Sys2Proof.Claims

/-! PROOFS. ReadBurstsReturn, a bus error that is not retried (R233, R234). -/

/-! ### The failing channel -/

/-- The failing read recorded and its event set. -/
def State.readErred (s : State) (g ch cause tries addr : Nat) : State :=
  (s.chErr g ch cause tries addr false).event F.DMA_EVENT_BUS_ERR (s.chOwner g ch)

/-- The fields and parts that the record of a failing read leaves. -/
def besideErr : List Fld := [F.DMA_CH_STATUS_STATE, F.DMA_CORE_CFG_ERR_MODE]

section
variable (s : State) (g ch cause tries addr : Nat)

theorem State.readErred_holds : HoldsDma besideErr s (s.readErred g ch cause tries addr) := by
  have h := (((((HoldsDma.start (L := besideErr) s).setF (x := F.DMA_CH_ERR_CAUSE) (v := cause) (i := g) (j := ch) (k := 0)).setF
    (x := F.DMA_CH_ERR_TRIES) (v := tries) (i := g) (j := ch) (k := 0)).setF (x := F.DMA_CH_ERR_WRITE) (v := 0) (i := g) (j := ch)
    (k := 0)).setF (x := F.DMA_CH_ERR_ADDR_ADDR) (v := addr) (i := g) (j := ch) (k := 0)).event (x := F.DMA_EVENT_BUS_ERR)
    (n := s.chOwner g ch) (i := 0) (j := 0)
  exact h

theorem State.readErred_record :
    (s.readErred g ch cause tries addr).f F.DMA_CH_ERR_CAUSE g ch = cause % 16 ∧
    (s.readErred g ch cause tries addr).f F.DMA_CH_ERR_ADDR_ADDR g ch = addr % 2 ^ 64 ∧
    (s.readErred g ch cause tries addr).f F.DMA_CH_ERR_WRITE g ch = 0 := by
  refine ⟨?_, ?_, ?_⟩ <;> rw [State.readErred, State.f_event_name _ _ _ _ _ _ _ _ _ (by decide), State.chErr]
  · rw [State.f_setF_name _ _ _ _ _ _ _ _ _ _ (by decide), State.f_setF_bits _ _ _ _ _ _ _ _ _ _ (by decide),
      State.f_setF_bits _ _ _ _ _ _ _ _ _ _ (by decide), State.f_setF_same _ _ _ _ _ _ (by decide)]
    rfl
  · rw [State.f_setF_same _ _ _ _ _ _ (by decide)]
  · rw [State.f_setF_name _ _ _ _ _ _ _ _ _ _ (by decide), State.f_setF_same _ _ _ _ _ _ (by decide)]
    rfl

/-! ### A channel leaves running or held for error (R236) -/

variable {s g ch}

theorem State.chFail_stopping (h3 : s.chState g ch = 3) : s.chFail g ch = s.modXfer g ch (Ends · 3) := if_pos h3

theorem State.chFail_error (h3 : s.chState g ch ≠ 3) : s.chFail g ch = s.setChState g ch 4 := if_neg h3

theorem State.chFail_f {y : Fld} (hy : F.DMA_CH_STATUS_STATE.Apart y) (i j k : Nat) :
    (s.chFail g ch).f y i j k = s.f y i j k := by
  rw [State.chFail]
  split
  · rfl
  · exact hy.elim (State.f_setF_name _ _ y 4 g ch 0 i j k) (State.f_setF_bits _ _ y 4 g ch 0 i j k)

/-- Other channels stand. -/
theorem State.chFail_other {h : Nat} (hne : h ≠ ch) :
    (s.chFail g ch).chState g h = s.chState g h ∧ (s.chFail g ch).chan g h = s.chan g h := by
  rw [State.chFail]
  split
  · exact ⟨rfl, State.chan_modXfer_other _ g hne _⟩
  · exact ⟨State.chState_setChState_other _ g hne 4, rfl⟩

theorem State.chFail_rest : (s.chFail g ch).mem = s.mem ∧ (s.chFail g ch).cores = s.cores := by
  rw [State.chFail]
  split <;> exact ⟨rfl, rfl⟩

/-! ### The stop of the core (R233) -/

/-- Channel k enters error with cause 7, unless it is idle or its context is gone. -/
def State.stopOne (s : State) (g ch k : Nat) : State :=
  if k ≠ ch ∧ s.chState g k ≠ 0 ∧ !(s.chState g k = 3 ∧ ((s.chan g k).act.map (·.ending)) = some 7) then
    ((s.setF F.DMA_CH_ERR_CAUSE 7 g k).setChState g k 4).event F.DMA_EVENT_STOP_ALL (s.chOwner g k)
  else s

/-- The stop is in force. -/
def State.stopForced (s : State) (g ch : Nat) : State :=
  (s.setF F.DMA_STOPPED_STOPPED 1 g).event F.DMA_EVENT_STOP_ALL ((s.setF F.DMA_STOPPED_STOPPED 1 g).chOwner g ch)

/-- The stop is in force, and the other channels are stopped. -/
def State.stopRest (s : State) (g ch : Nat) : State := iter 16 (fun k s => s.stopOne g ch k) (s.stopForced g ch)

theorem State.busError_eq : s.busError g ch cause tries addr false =
    if s.fb F.DMA_CORE_CFG_ERR_MODE g then (s.readErred g ch cause tries addr).chFail g ch
    else ((s.readErred g ch cause tries addr).chFail g ch).stopRest g ch := by
  have hmode : (s.readErred g ch cause tries addr).fb F.DMA_CORE_CFG_ERR_MODE g = s.fb F.DMA_CORE_CFG_ERR_MODE g :=
    congrArg (· == 1) ((s.readErred_holds g ch cause tries addr).field F.DMA_CORE_CFG_ERR_MODE (by decide) g 0 0)
  rw [← hmode]
  rfl

/-- STATE and the error's cause of channel h. -/
def State.errView (s : State) (g h : Nat) : Nat × Nat := (s.chState g h, s.f F.DMA_CH_ERR_CAUSE g h)

/-- What the stop makes of them, where the channel's transfer ends with code e, if it has one. -/
def stopView (ch h : Nat) (e : Option Nat) (p : Nat × Nat) : Nat × Nat :=
  if h ≠ ch ∧ p.1 ≠ 0 ∧ !(p.1 = 3 ∧ e = some 7) then (4, 7) else p

/-- The fields that the stop of the other channels leaves. -/
def besideStop : List Fld := [F.DMA_STOPPED_STOPPED, F.DMA_CH_ERR_ADDR_ADDR, F.DMA_CH_ERR_WRITE]

theorem State.stopOne_spec (s : State) (g ch k : Nat) :
    HoldsDma besideStop s (s.stopOne g ch k) ∧
    (s.stopOne g ch k).errView g k = stopView ch k ((s.chan g k).act.map (·.ending)) (s.errView g k) ∧
    ∀ h, h ≠ k → (s.stopOne g ch k).errView g h = s.errView g h := by
  have hevent (u : State) (n h : Nat) : (u.event F.DMA_EVENT_STOP_ALL n).errView g h = u.errView g h :=
    Prod.ext (u.f_event_name _ F.DMA_CH_STATUS_STATE _ _ _ _ _ _ (by decide))
      (u.f_event_name _ F.DMA_CH_ERR_CAUSE _ _ _ _ _ _ (by decide))
  by_cases hc : k ≠ ch ∧ s.chState g k ≠ 0 ∧ !(s.chState g k = 3 ∧ ((s.chan g k).act.map (·.ending)) = some 7)
  · have hview : stopView ch k ((s.chan g k).act.map (·.ending)) (s.errView g k) = (4, 7) := if_pos hc
    rw [State.stopOne, if_pos hc, hview, hevent]
    refine ⟨((HoldsDma.start (L := besideStop) s).setF (x := F.DMA_CH_ERR_CAUSE)).setF.event, Prod.ext ?_ ?_, fun h hne => ?_⟩
    · exact State.chState_setChState_same _ g k (by decide)
    · exact (State.f_setF_name _ _ _ _ _ _ _ _ _ _ (by decide)).trans (State.f_setF_same _ _ _ _ _ _ (by decide))
    · rw [hevent]
      exact Prod.ext ((State.f_setF_channel _ g hne _ _ _).trans (State.f_setF_channel _ g hne _ _ _))
        ((State.f_setF_channel _ g hne _ _ _).trans (State.f_setF_channel _ g hne _ _ _))
  · have hview : stopView ch k ((s.chan g k).act.map (·.ending)) (s.errView g k) = s.errView g k := if_neg hc
    rw [State.stopOne, if_neg hc, hview]
    exact ⟨.start s, rfl, fun _ _ => rfl⟩

theorem State.stopRest_spec (s : State) (g ch : Nat) :
    HoldsDma [F.DMA_CH_ERR_ADDR_ADDR, F.DMA_CH_ERR_WRITE] s (s.stopRest g ch) ∧ (s.stopRest g ch).dmaStopped g = true ∧
    (s.stopRest g ch).errView g ch = s.errView g ch ∧
    ∀ h, h < 16 → (s.stopRest g ch).errView g h = stopView ch h ((s.chan g h).act.map (·.ending)) (s.errView g h) := by
  have hfirst : HoldsDma [F.DMA_CH_STATUS_STATE, F.DMA_CH_ERR_CAUSE, F.DMA_CH_ERR_ADDR_ADDR, F.DMA_CH_ERR_WRITE] s (s.stopForced g ch) :=
    ((HoldsDma.start (L := [F.DMA_CH_STATUS_STATE, F.DMA_CH_ERR_CAUSE, F.DMA_CH_ERR_ADDR_ADDR, F.DMA_CH_ERR_WRITE]) s).setF
      (x := F.DMA_STOPPED_STOPPED)).event
  have hforced : (s.stopForced g ch).dmaStopped g = true := by
    have hset : (s.stopForced g ch).f F.DMA_STOPPED_STOPPED g = 1 := by
      rw [State.stopForced, State.f_event_name _ _ _ _ _ _ _ _ _ (by decide), State.f_setF_same _ _ _ _ _ _ (by decide)]
      rfl
    rw [State.dmaStopped, State.fb, hset]
    rfl
  have hview (h : Nat) : (s.stopForced g ch).errView g h = s.errView g h :=
    Prod.ext (hfirst.field F.DMA_CH_STATUS_STATE (by decide) g h 0) (hfirst.field F.DMA_CH_ERR_CAUSE (by decide) g h 0)
  have hstep (k : Nat) (u : State) (_ : k < 16) (hu : HoldsDma besideStop (s.stopForced g ch) u) :
      HoldsDma besideStop (s.stopForced g ch) (u.stopOne g ch k) ∧
      (u.stopOne g ch k).errView g k = stopView ch k ((s.chan g k).act.map (·.ending)) (u.errView g k) ∧
      ∀ h, h ≠ k → (u.stopOne g ch k).errView g h = u.errView g h := by
    have hone := u.stopOne_spec g ch k
    rw [hu.chan, hfirst.chan] at hone
    exact ⟨hu.trans hone.1, hone.2⟩
  obtain ⟨hkeep, hall⟩ := iter_each (V := fun h (u : State) => u.errView g h)
    (φ := fun h => stopView ch h ((s.chan g h).act.map (·.ending))) hstep (HoldsDma.start _)
  refine ⟨(hfirst.mono (by decide)).trans (hkeep.mono (by decide)), ?_, ?_, fun h hh => ?_⟩
  · exact (congrArg (· == 1) (hkeep.field F.DMA_STOPPED_STOPPED (by decide) g 0 0)).trans hforced
  · have hself : stopView ch ch ((s.chan g ch).act.map (·.ending)) ((s.stopForced g ch).errView g ch) =
        (s.stopForced g ch).errView g ch := if_neg fun h => h.1 rfl
    rw [← hview ch]
    exact (hall ch).trans (by rw [hself, ite_self])
  · rw [← hview h]
    exact (hall h).trans (if_pos hh)

/-! ### A bus error on a read -/

/-- A bus error of a read on channel ch is recorded, and the channel is in error or goes on stopping. -/
structure ErrRecorded (s t : State) (g ch cause addr : Nat) : Prop where
  cause : t.f F.DMA_CH_ERR_CAUSE g ch = cause % 16
  addr : t.f F.DMA_CH_ERR_ADDR_ADDR g ch = addr % 2 ^ 64
  read : t.f F.DMA_CH_ERR_WRITE g ch = 0
  mem : t.mem = s.mem
  cores : t.cores = s.cores
  state : t.chState g ch = if s.chState g ch = 3 then 3 else 4
  act : (t.chan g ch).act = if s.chState g ch = 3 then (s.chan g ch).act.map (Ends · 3) else (s.chan g ch).act

theorem State.readErred_fails (s : State) (g ch cause tries addr : Nat) :
    let t := (s.readErred g ch cause tries addr).chFail g ch
    ErrRecorded s t g ch cause addr ∧ ∀ h, h ≠ ch → t.chState g h = s.chState g h ∧ t.chan g h = s.chan g h := by
  have hkeep := s.readErred_holds g ch cause tries addr
  obtain ⟨hcause, haddr, hread⟩ := s.readErred_record g ch cause tries addr
  generalize s.readErred g ch cause tries addr = u at hkeep hcause haddr hread
  have hst (h : Nat) : u.chState g h = s.chState g h := hkeep.field F.DMA_CH_STATUS_STATE (by decide) g h 0
  obtain ⟨hmem, hcores⟩ := u.chFail_rest (g := g) (ch := ch)
  refine ⟨⟨?_, ?_, ?_, hmem.trans hkeep.mem, hcores.trans hkeep.cores, ?_, ?_⟩, fun h hne => ?_⟩
  · rw [State.chFail_f (by decide), hcause]
  · rw [State.chFail_f (by decide), haddr]
  · rw [State.chFail_f (by decide), hread]
  · split
    next h3 => rw [State.chFail_stopping ((hst ch).trans h3)]; exact (hst ch).trans h3
    next h3 => rw [State.chFail_error ((hst ch).trans_ne h3)]; exact State.chState_setChState_same _ _ _ (by decide)
  · split
    next h3 => rw [State.chFail_stopping ((hst ch).trans h3), State.chan_modXfer_same, hkeep.chan]
    next h3 => rw [State.chFail_error ((hst ch).trans_ne h3)]; exact congrArg Chan.act (hkeep.chan g ch)
  · obtain ⟨hstate, hchan⟩ := u.chFail_other (g := g) hne
    exact ⟨hstate.trans (hst h), hchan.trans (hkeep.chan g h)⟩

/-- The stop of the core changes other channels only. -/
theorem ErrRecorded.stopRest {s t : State} {g ch cause addr : Nat} (h : ErrRecorded s t g ch cause addr) :
    ErrRecorded s (t.stopRest g ch) g ch cause addr := by
  obtain ⟨hkeep, -, hview, -⟩ := t.stopRest_spec g ch
  obtain ⟨hstate, hcause⟩ := Prod.ext_iff.mp hview
  exact ⟨hcause.trans h.cause, (hkeep.field F.DMA_CH_ERR_ADDR_ADDR (by decide) g ch 0).trans h.addr,
    (hkeep.field F.DMA_CH_ERR_WRITE (by decide) g ch 0).trans h.read, hkeep.mem.trans h.mem, hkeep.cores.trans h.cores,
    hstate.trans h.state, (congrArg Chan.act (hkeep.chan g ch)).trans h.act⟩

/-- A channel that is neither idle nor keeps its own end enters error with the others. -/
theorem stopView_stops {ch h : Nat} {e : Option Nat} {p : Nat × Nat} (hne : h ≠ ch) (h0 : p.1 ≠ 0)
    (hgone : ¬(p.1 = 3 ∧ e = some 7)) : stopView ch h e p = (4, 7) :=
  if_pos ⟨hne, h0, by simpa [imp_iff_not_or] using hgone⟩

/-- A bus error is recorded and, where the core's mode is to stop, stops the other channels. -/
theorem State.busError_spec (s : State) (g ch cause tries addr : Nat) :
    let t := s.busError g ch cause tries addr false
    ErrRecorded s t g ch cause addr ∧ (s.fb F.DMA_CORE_CFG_ERR_MODE g = false → t.dmaStopped g = true ∧
      ∀ h, h < 16 → h ≠ ch → s.chState g h ≠ 0 → ¬(s.chState g h = 3 ∧ ∃ x, (s.chan g h).act = some x ∧ x.ending = 7) →
        t.chState g h = 4 ∧ t.f F.DMA_CH_ERR_CAUSE g h = 7) := by
  obtain ⟨hrec, hother⟩ := s.readErred_fails g ch cause tries addr
  dsimp only
  rw [State.busError_eq]
  generalize (s.readErred g ch cause tries addr).chFail g ch = u at hrec hother
  split
  next hmode => exact ⟨hrec, fun h => absurd h (by rw [hmode]; decide)⟩
  next hmode =>
    obtain ⟨-, hstop, -, hviews⟩ := u.stopRest_spec g ch
    refine ⟨hrec.stopRest, fun _ => ⟨hstop, fun h hh hne h0 hgone => ?_⟩⟩
    obtain ⟨hst, hchan⟩ := hother h hne
    have hview := (hviews h hh).trans (stopView_stops hne (hst.trans_ne h0) (by
      rw [hchan, State.errView, hst, Option.map_eq_some_iff]
      exact hgone))
    exact Prod.ext_iff.mp hview

end
end Sys2Proof.Machine
end

section
namespace Sys2Proof.Machine

open Sys2Proof.Claims

/-! PROOFS. ReadBurstsReturn, a translation that a count leaves as it was. -/

/-- t translates addresses as s does: it has s's memory and s's registers but for the counts of reissues. -/
structure SamePlaces (s t : State) : Prop where
  f : ∀ y : Fld, y.reg ≠ .DMA_CH_RETRIES → ∀ i j k, t.f y i j k = s.f y i j k
  entries : t.listed .PLC_ENT_CTL = s.listed .PLC_ENT_CTL
  mem : t.mem = s.mem

namespace SamePlaces

variable {s t : State} (h : SamePlaces s t)
include h

theorem fb {y : Fld} (hy : y.reg ≠ .DMA_CH_RETRIES) (i j k : Nat) : t.fb y i j k = s.fb y i j k :=
  congrArg (· == 1) (h.f y hy i j k)

theorem entriesOf (c : Nat) : t.entries c = s.entries c := by
  simp (disch := decide) only [State.entries, h.entries, h.fb]

theorem inWin (c o : Nat) : t.inWin c o = s.inWin c o := by
  simp (disch := decide) only [State.inWin, h.f]

theorem winCheck (c o : Nat) : t.winCheck c o = s.winCheck c o := by
  simp only [State.winCheck, h.inWin]

theorem coreOk (g : Nat) : t.coreOk g = s.coreOk g := by
  simp (disch := decide) only [State.coreOk, h.f]

theorem hostLoc (p o : Nat) : t.hostLoc p o = s.hostLoc p o := by
  simp (disch := decide) only [State.hostLoc, h.f]

theorem coverCheck {c : Nat} {w : Bool} {cover cover' : Nat → List Nat} (hc : ∀ d, cover d = cover' d) (l : Loc) :
    t.coverCheck c w cover l = s.coverCheck c w cover' l := by
  simp (disch := decide) only [State.coverCheck, hc, h.fb]

theorem hbmCover (c a : Nat) : t.hbmCover c a = s.hbmCover c a := by
  simp (disch := decide) only [State.hbmCover, h.entriesOf, h.f]

theorem hostCover (c p o : Nat) : t.hostCover c p o = s.hostCover c p o := by
  simp (disch := decide) only [State.hostCover, h.entriesOf, h.f, h.fb]

theorem entSpan (c e : Nat) : t.entSpan c e = s.entSpan c e := by
  simp (disch := decide) only [State.entSpan, h.f, h.fb]

theorem borrowLive (b : Nat) : t.borrowLive b = s.borrowLive b := by
  simp (disch := decide) only [State.borrowLive, h.f]

theorem remoteCover (c n a : Nat) : t.remoteCover c n a = s.remoteCover c n a := by
  simp (disch := decide) only [State.remoteCover, h.entSpan, h.borrowLive, h.entriesOf, h.f]

theorem placeBy (c e a : Nat) : t.placeBy c e a = s.placeBy c e a := by
  simp (disch := decide) only [State.placeBy, h.entSpan, h.borrowLive, h.hostLoc, h.f, h.fb]

theorem place (c a : Nat) (w : Bool) : t.place c a w = s.place c a w := by
  simp (disch := decide) only [State.place, h.entriesOf, h.placeBy, h.f, h.fb]

theorem nodeKnown (n : Nat) : t.nodeKnown n = s.nodeKnown n := by
  simp (disch := decide) only [State.nodeKnown, State.nodeKey, State.readN, State.read, h.mem, h.f]

theorem xlateLocal (g c a : Nat) (w : Bool) : t.xlateLocal g c a w = s.xlateLocal g c a w := by
  simp only [State.xlateLocal, h.coverCheck (h.hbmCover · a), h.coverCheck (h.hostCover · _ _), h.hostLoc, h.place, h.coreOk,
    h.winCheck]

theorem xlateRemote (c n a : Nat) (w : Bool) (k : AccKind) : t.xlateRemote c n a w k = s.xlateRemote c n a w k := by
  simp (disch := decide) only [State.xlateRemote, h.nodeKnown, h.remoteCover, h.fb]

theorem xlate (g c a : Nat) (w : Bool) (k : AccKind) : t.xlate g c a w k = s.xlate g c a w k := by
  simp (disch := decide) only [State.xlate, h.xlateLocal, h.xlateRemote, h.f]

end SamePlaces
end Sys2Proof.Machine
end

section
namespace Sys2Proof.Machine

open Sys2Proof.Claims

/-! PROOFS. ReadBurstsReturn. -/

/-! ### One burst of the list -/

section
variable {s : State} {g n : Nat} {b : Burst}

theorem State.modBurst_bursts (s : State) (g id : Nat) (f : Burst → Burst) :
    ((s.modBurst g id f).core g).bursts = (s.core g).bursts.map (fun b => if b.id = id then f b else b) := by
  rw [State.modBurst, State.core_setCore_same]

/-- A burst keeps its place. -/
theorem State.modBurst_at (hb : (s.core g).bursts[n]? = some b) (f : Burst → Burst) :
    ((s.modBurst g b.id f).core g).bursts[n]? = some (f b) := by
  rw [State.modBurst_bursts, List.getElem?_map, hb, Option.map_some, if_pos rfl]

theorem State.modBurst_mem {f : Burst → Burst} (hb : b ∈ (s.core g).bursts) : f b ∈ ((s.modBurst g b.id f).core g).bursts := by
  rw [State.modBurst_bursts]
  exact List.mem_map.mpr ⟨b, hb, if_pos rfl⟩

theorem State.dropBurst_core (s : State) (g id : Nat) : (s.dropBurst g id).core g =
    { s.core g with bursts := (s.core g).bursts.filter (fun b => b.id ≠ id) } := State.core_setCore_same ..

/-! ### The data of a copy (R220) -/

/-- The data of a copy has come. -/
def Burst.readyWith (bs : List Byte) (poison : Bool) (b : Burst) : Burst := { b with st := .ready, data := bs, poison := poison }

theorem State.burstData_copy (hnext : b.next = false) (hkind : b.kind = .data) (hop : (s.desc g b.ch).op = 0) {bs : List Byte}
    (hbs : bs ≠ []) (poison : Bool) : s.burstData g b bs poison = s.modBurst g b.id (Burst.readyWith bs poison) := by
  have hform : (s.desc g b.ch).form b bs = bs := by rw [Desc.form, hop]; rfl
  rw [State.burstData, hnext, hkind]
  simp only [Bool.false_eq_true, if_false, hop, hform, List.isEmpty_iff, hbs, OfNat.zero_ne_ofNat, false_and]
  rfl

/-- Data that is not poisoned goes to the buffer. -/
theorem State.readReturn_data (h3 : s.chState g b.ch ≠ 3) (hkind : b.kind = .data) (bs : List Byte) :
    s.readReturn g b (.data bs) = s.burstData g b bs false := by
  have hrefused (c : Nat) (d : Desc) : s.entryRefused g c d b bs = none := if_neg (by rw [hkind]; simp)
  simp only [State.readReturn, h3, hrefused, decide_false, Bool.false_and, Bool.false_eq_true, if_false, Option.isSome_none]
  split <;> rfl

theorem State.readReturn_poison (h3 : s.chState g b.ch ≠ 3) (hdemand : b.demand = true) :
    s.readReturn g b .poison = s.poisonedRead g b := by
  simp only [State.readReturn, h3, hdemand, decide_false, Bool.false_and, Bool.false_eq_true, if_false, Bool.not_true]

/-- A bus error of demand data (R234): retried, or the channel's error. -/
theorem State.readReturn_bus (h3 : s.chState g b.ch ≠ 3) (hdemand : b.demand = true) (halt : b.alt = false) (cause : Nat) :
    s.readReturn g b (.bus cause) =
      if s.mayRetry g b.again then s.modBurst g b.id (fun b => { b with st := .retry })
      else (s.modBurst g b.id (fun b => { b with st := .failed })).busError g b.ch cause b.tries b.addr false := by
  simp only [State.readReturn, h3, hdemand, halt, decide_false, Bool.false_and, Bool.false_eq_true, if_false, Bool.not_true]

/-- A demand read of a stopping channel is dropped, and its bus error handled (R236). -/
theorem State.readReturn_stopping (h3 : s.chState g b.ch = 3) (hnext : b.next = false) (hdemand : b.demand = true)
    (halt : b.alt = false) (cause : Nat) :
    s.readReturn g b (.bus cause) = (s.dropBurst g b.id).busError g b.ch cause b.tries b.addr false := by
  simp only [State.readReturn, State.stoppedRead, h3, hnext, hdemand, halt, decide_true, Bool.not_false, Bool.and_self,
    if_true, Bool.false_eq_true, if_false]

/-! ### What memory of this module answers -/

variable {key : Nat}

theorem execDmaReadReturn_ok (hb : (s.core g).bursts[n]? = some b) (hst : b.st = .reading) (hloc : b.loc = .mem key) :
    execDmaReadReturn g n .ok s =
      .next (s.readReturn g b (if s.poisoned key b.len then .poison else .data (s.read key b.len))) := by
  rw [execDmaReadReturn, hb]
  dsimp only
  rw [if_neg (by simp [hst, hloc, Loc.key]), State.readEnd, hloc]
  rfl

theorem execDmaReadReturn_bus (hb : (s.core g).bursts[n]? = some b) (hst : b.st = .reading) (hloc : b.loc = .mem key)
    (cause : Nat) : execDmaReadReturn g n (.bus cause) s = .next (s.readReturn g b (.bus cause)) := by
  rw [execDmaReadReturn, hb]
  dsimp only
  rw [if_neg (by simp [hst, hloc, Loc.key]), State.readEnd, hloc]
  rfl

theorem execPcieCompletionTimeout_host {p a : Nat} (hb : (s.core g).bursts[n]? = some b) (hst : b.st = .reading)
    (hloc : b.loc = .host p a) : execPcieCompletionTimeout g n s = .next (s.readReturn g b (.bus 2)) := by
  rw [execPcieCompletionTimeout, hb]
  dsimp only
  rw [hst, hloc]

/-! ### Poisoned data (R220) -/

/-- Poison that has no other source goes on as poison, with free bytes. -/
theorem State.poisonedRead_on (hx : (s.desc g b.ch).aux = 0) (hnext : b.next = false) (hkind : b.kind = .data)
    (hop : (s.desc g b.ch).op = 0) (hlen : 0 < b.len) : s.poisonedRead g b =
      ((s.useFree b.len).modXfer g b.ch (fun x => { x with bad := true })).modBurst g b.id
        (Burst.readyWith (s.freeBytes b.len).1 true) := by
  have hbs : (s.freeBytes b.len).1 ≠ [] := by
    rw [State.freeBytes, ← List.length_pos_iff]
    simpa using hlen
  rw [State.poisonedRead]
  dsimp only
  rw [if_neg (by rw [hx]; simp)]
  exact State.burstData_copy (s := (s.useFree b.len).modXfer g b.ch _) hnext hkind hop hbs true

/-- Poison of a transfer that has another source is read again there. -/
theorem State.poisonedRead_again (hx : (s.desc g b.ch).aux ≠ 0) (halt : b.alt = false) (hop : (s.desc g b.ch).op = 0) :
    s.poisonedRead g b = s.setCore g { s.core g with
      seq := (s.core g).seq + 1
      bursts := (s.core g).bursts.flatMap (fun v => if v.id = b.id then b.rereads (s.desc g b.ch) (s.core g).seq else [v]) } := by
  rw [State.poisonedRead]
  exact if_pos ⟨hop, hx, by rw [halt]; rfl⟩

/-! ### A burst is issued again (R234) -/

theorem State.againAddr_same {q : Burst} (c : Nat) (h : (s.desc g q.ch).op ≠ 3 ∨ q.kind ≠ .data) :
    s.againAddr g c q = .ok q.addr := if_neg fun hc => h.elim (· hc.2) (· hc.1)

/-- The burst with its reissue counted. -/
def Burst.reissue (b : Burst) : Burst := { b with tries := b.tries + 1, again := b.again + 1 }

/-- The reissue of burst q is counted, in the channel and in the burst. -/
def State.reissued (s : State) (g ch : Nat) (q : Burst) : State := (s.retryCount g ch).modBurst g q.id (fun _ => q.reissue)

theorem State.reissued_places (s : State) (g ch : Nat) (q : Burst) : SamePlaces s (s.reissued g ch q) := by
  have hregs : (s.reissued g ch q).regs = (s.addF F.DMA_CH_RETRIES_COUNT 1 g ch).regs := by
    rw [State.reissued, State.modBurst, State.setCore_regs]
    rfl
  have hmem : (s.reissued g ch q).mem = s.mem := by
    rw [State.reissued, State.modBurst, State.setCore_mem]
    rfl
  have hlisted (u : State) : u.listed .PLC_ENT_CTL = (SMap.keys u.regs).filter (fun r => r.name = .PLC_ENT_CTL) := rfl
  refine ⟨fun y hy i j k => (State.f_of_regs hregs y i j k).trans (s.f_setF_name _ y _ _ _ _ _ _ _ hy), ?_, hmem⟩
  rw [hlisted, hregs]
  exact s.listed_setF (x := F.DMA_CH_RETRIES_COUNT) _ _ _ _ (by decide)

theorem State.reissued_count (s : State) (g ch : Nat) (q : Burst) : (s.reissued g ch q).f F.DMA_CH_RETRIES_COUNT g ch =
    (s.f F.DMA_CH_RETRIES_COUNT g ch + 1) % 2 ^ F.DMA_CH_RETRIES_COUNT.len :=
  State.f_setF_same (s.modXfer g ch fun x => { x with retries := x.retries + 1 }) _ _ _ _ _ (by decide)

theorem execDmaBurstRetry_again {ch c : Nat} {q : Burst}
    (hq : (s.core g).bursts.find? (fun b => b.ch == ch && b.st == .retry) = some q) (h1 : s.chState g ch = 1)
    (hstop : s.dmaStopped g = false) (hc : (s.chan g ch).act.map (·.who.c) = some c) (hroom : (s.core g).bufReads < 512) :
    execDmaBurstRetry g ch s = .next ((s.reissued g ch q).burstGo g c q.reissue (s.againAddr g c q.reissue)) := by
  rw [execDmaBurstRetry, hq, hc]
  dsimp only
  rw [if_neg (by simp [h1, hstop]), if_neg (Nat.not_le.mpr hroom)]
  rfl

/-- The reissue of a burst to memory of this module. -/
theorem State.reissued_reads {ch c : Nat} {q : Burst} (hq : q ∈ (s.core g).bursts)
    (hkey : s.xlate g c q.addr false .dma = .ok (.mem key)) :
    let t := (s.reissued g ch q).burstGo g c q.reissue (.ok q.addr)
    t.mem = s.mem ∧ q.reissue.readAt q.addr key ∈ (t.core g).bursts ∧
    t.f F.DMA_CH_RETRIES_COUNT g ch = (s.f F.DMA_CH_RETRIES_COUNT g ch + 1) % 2 ^ F.DMA_CH_RETRIES_COUNT.len := by
  have hplaces := s.reissued_places g ch q
  have hcount := s.reissued_count g ch q
  have hin : q.reissue ∈ ((s.reissued g ch q).core g).bursts :=
    State.modBurst_mem (s := s.retryCount g ch) (f := fun _ => q.reissue) hq
  generalize s.reissued g ch q = v at hplaces hcount hin
  obtain ⟨r, hgo, hf⟩ := State.burstGo_reads ((hplaces.xlate ..).trans hkey) q.reissue
  have hmem := State.modBurst_mem (f := Burst.readAt q.addr key) hin
  refine ⟨?_, ?_, (hf _ (by decide) g ch 0).trans hcount⟩
  · rw [hgo]
    exact hplaces.mem
  · rw [hgo]
    exact hmem

end

/-- The first reread of a burst: at its offset of the other source, up to a 256 B boundary. -/
theorem Burst.rereads_first (b : Burst) (d : Desc) (seq : Nat) : ∃ r ∈ b.rereads d seq,
    let a := ((b.addr : Int) - d.src + d.aux).toNat
    r.id = b.id ∧ r.st = .reread ∧ r.alt = true ∧ r.addr = a ∧ r.off = b.off ∧ r.len = to256 a b.len :=
  ⟨_, List.mem_cons_self, rfl, rfl, rfl, rfl, rfl, rfl⟩

/-! ### The end of a read that fails -/

section
variable {s : State} {g n cause : Nat} {b : Burst}

/-- The clause of R233 and R234 for a channel that was not stopping. -/
theorem State.failedRead_stops (h3 : s.chState g b.ch ≠ 3) (cause : Nat) :
    let t := (s.modBurst g b.id (fun b => { b with st := .failed })).busError g b.ch cause b.tries b.addr false
    t.f F.DMA_CH_ERR_CAUSE g b.ch = cause % 16 ∧ t.f F.DMA_CH_ERR_ADDR_ADDR g b.ch = b.addr % 2 ^ 64 ∧
    t.fb F.DMA_CH_ERR_WRITE g b.ch = false ∧ t.chState g b.ch = 4 ∧ t.mem = s.mem ∧
    (s.fb F.DMA_CORE_CFG_ERR_MODE g = false → t.dmaStopped g = true ∧
      ∀ h, h < 16 → h ≠ b.ch → s.chState g h ≠ 0 →
        ¬(s.chState g h = 3 ∧ ∃ x, (s.chan g h).act = some x ∧ x.ending = 7) →
        t.chState g h = 4 ∧ t.f F.DMA_CH_ERR_CAUSE g h = 7) := by
  obtain ⟨hrec, hstop⟩ := (s.modBurst g b.id (fun b => { b with st := .failed })).busError_spec g b.ch cause b.tries b.addr
  exact ⟨hrec.cause, hrec.addr, congrArg (· == 1) hrec.read, hrec.state.trans (if_neg h3), hrec.mem, hstop⟩

/-- The clause of R236: the error of a stopping channel is recorded, its burst is gone, and it ends with code 3. -/
theorem State.stoppedRead_ends {x : Xfer} (h3 : s.chState g b.ch = 3) (hx : (s.chan g b.ch).act = some x) (cause : Nat) :
    let t := (s.dropBurst g b.id).busError g b.ch cause b.tries b.addr false
    t.mem = s.mem ∧ t.f F.DMA_CH_ERR_CAUSE g b.ch = cause % 16 ∧ t.chState g b.ch = 3 ∧
    (t.chan g b.ch).act = some (Ends x 3) ∧ ∀ q ∈ (t.core g).bursts, q.id ≠ b.id := by
  obtain ⟨hrec, -⟩ := (s.dropBurst g b.id).busError_spec g b.ch cause b.tries b.addr
  refine ⟨hrec.mem, hrec.cause, hrec.state.trans (if_pos h3), ?_, fun q hq => ?_⟩
  · exact (hrec.act.trans (if_pos h3)).trans (congrArg (Option.map (Ends · 3)) hx)
  · rw [State.core_of_cores hrec.cores, State.dropBurst_core] at hq
    simpa using (List.mem_filter.mp hq).2

end

/-- Settles O27: what memory answers (`execDmaReadReturn_ok`, `execDmaReadReturn_bus`), what the channel makes of it
(`State.readReturn_data` to `State.readReturn_stopping`), and the reissue of a burst. -/
theorem readBurstsReturn : Obligations.ReadBurstsReturn := by
  refine ⟨fun s g n b hb hst hnext hkind hop h3 hlen => ?_, ?_, ?_⟩
  · intro stops
    refine ⟨fun key hloc hclean => ?_, fun key hloc hbad hdemand haux => ?_, fun key hloc hbad hdemand haux halt => ?_,
      fun key cause hloc hdemand halt hretry => ?_, fun p a hloc hdemand halt => ?_⟩
    · have hbs : s.read key b.len ≠ [] := by
        rw [← List.length_pos_iff, State.read_length]
        exact hlen
      have hex := execDmaReadReturn_ok hb hst hloc
      rw [hclean, if_neg (by decide), State.readReturn_data h3 hkind, State.burstData_copy hnext hkind hop hbs] at hex
      exact ⟨_, hex, rfl, s.modBurst_at hb _⟩
    · have hex := execDmaReadReturn_ok hb hst hloc
      rw [hbad, if_pos rfl, State.readReturn_poison h3 hdemand, State.poisonedRead_on haux hnext hkind hop hlen] at hex
      refine ⟨_, hex, rfl, ⟨(s.freeBytes b.len).1, by simp [State.freeBytes], ?_⟩, fun x hx => ?_⟩
      · exact State.modBurst_at hb _
      · exact (congrArg Chan.act (State.chan_modXfer_same ..)).trans (congrArg (Option.map _) hx)
    · have hex := execDmaReadReturn_ok hb hst hloc
      rw [hbad, if_pos rfl, State.readReturn_poison h3 hdemand, State.poisonedRead_again haux halt hop] at hex
      obtain ⟨r, hr, hplace⟩ := b.rereads_first (s.desc g b.ch) (s.core g).seq
      refine ⟨_, hex, rfl, r, ?_, hplace⟩
      rw [State.core_setCore_same]
      exact List.mem_flatMap.mpr ⟨b, List.mem_of_getElem? hb, by rw [if_pos rfl]; exact hr⟩
    · have hex := execDmaReadReturn_bus hb hst hloc cause
      rw [State.readReturn_bus h3 hdemand halt, hretry, if_neg (by decide)] at hex
      exact ⟨_, hex, State.failedRead_stops h3 cause⟩
    · have hex := execPcieCompletionTimeout_host hb hst hloc
      rw [State.readReturn_bus h3 hdemand halt] at hex
      refine ⟨_, hex, fun hretry => ?_, fun hretry => ?_⟩ <;> rw [hretry]
      · exact State.failedRead_stops h3 2
      · exact s.modBurst_at hb _
  · intro s g n key cause b x hb hst hnext h3 hx hloc hdemand halt
    have hex := execDmaReadReturn_bus hb hst hloc cause
    rw [State.readReturn_stopping h3 hnext hdemand halt] at hex
    exact ⟨_, hex, State.stoppedRead_ends h3 hx cause⟩
  · intro s g ch key c q hq h1 hstop hc hroom hop hkey
    have hch : q.ch = ch := by
      have hfound := List.find?_some hq
      simp only [Bool.and_eq_true, beq_iff_eq] at hfound
      exact hfound.1
    have hex := execDmaBurstRetry_again hq h1 hstop hc hroom
    rw [State.againAddr_same c (q := q.reissue) (hch ▸ hop)] at hex
    obtain ⟨hmem, hin, hcount⟩ := State.reissued_reads (ch := ch) (List.mem_of_find?_eq_some hq) hkey
    exact ⟨_, hex, hmem, ⟨_, hin, rfl, rfl, rfl, rfl, rfl⟩, hcount⟩

end Sys2Proof.Machine
end

section
namespace Sys2Proof.Machine

open Sys2Proof.Claims

/-! PROOFS. PagesAreCountedAndAllocated. -/

/-! ### Numbers among stored bytes -/

theorem le_eq_toLE (n v : Nat) : le n v = toLE n v := (toLE_eq_map n v).symm

/-- A number apart from the bytes stored reads as before. -/
theorem leNat_of_write_other {s t : State} {key k n : Nat} {bs : List Byte} (h : t.mem = s.mem.write key bs)
    (hk : k + n ≤ key ∨ key + bs.length ≤ k) : leNat t k n = leNat s k n :=
  leNat_congr fun i _ => by rw [h, mem_get_write_other _ _ _ _ (by omega)]

/-- One of the numbers that a store holds, laid end to end. -/
theorem leNat_of_write_flatMap {t : State} {m : Mem} {key w n j : Nat} {f : Nat → Nat} (hj : j < n)
    (h : t.mem = m.write key ((List.range n).flatMap fun i => toLE w (f i))) : leNat t (key + w * j) w = f j % 256 ^ w := by
  obtain ⟨r, rfl⟩ : ∃ r, n = j + 1 + r := Nat.exists_eq_add_of_le hj
  have hpre (l : List Nat) : (l.flatMap fun i => toLE w (f i)).length = w * l.length := by
    simp [List.length_flatMap, Nat.mul_comm]
  have hbytes (i : Nat) (hi : i < w) : t.mem.get (key + w * j + i) = BitVec.ofNat 8 (f j / 256 ^ i) := by
    have hlen : w * j + i < ((List.range (j + 1 + r)).flatMap fun i => toLE w (f i)).length := by
      rw [hpre, List.length_range, Nat.mul_add, Nat.mul_add]
      omega
    rw [h, Nat.add_assoc key, mem_get_write_same _ _ _ _ hlen]
    simp only [List.range_add, List.range_succ, List.flatMap_append, List.flatMap_singleton]
    rw [List.getElem_append_left (by simp [hpre]; omega), List.getElem_append_right (by simp [hpre])]
    simp [hpre, toLE_getElem]
  have hstored : t.read (key + w * j) w = toLE w (f j) := List.ext_getElem (by simp) fun i hi _ => by
    rw [State.read_getElem, hbytes i (by simpa using hi), toLE_getElem]
  rw [leNat_eq_readN, State.readN, hstored, ofLE_toLE]

theorem leNat_of_zeros {t : State} {k n : Nat} (h : ∀ i, i < n → t.mem.get (k + i) = 0) : leNat t k n = 0 := by
  have hread : t.read k n = toLE n 0 := List.ext_getElem (by simp) fun i hi _ => by
    rw [State.read_getElem, h i (by simpa using hi), toLE_getElem, Nat.zero_div]
    rfl
  rw [leNat_eq_readN, State.readN, hread, ofLE_toLE, Nat.zero_mod]

/-- A one-bit event raised is set. -/
theorem State.fb_event_same (s : State) (x : Fld) (i j : Nat) (h : x.lo + x.len ≤ 64) (h1 : x.len = 1) :
    (s.event x 0 i j).fb x i j = true := by
  have hset := s.event_set x 0 i j h (by omega)
  have hlt : (s.event x 0 i j).f x i j < 2 ^ x.len := bits_lt ..
  rw [h1] at hlt
  simp only [bitN, bitsN, pow_zero, Nat.div_one, beq_iff_eq] at hset
  rw [State.fb, beq_iff_eq]
  omega

/-! ### FREE and its allocation word (R248) -/

section
variable (s : State) (p i n : Nat)

theorem State.setFree_segs : (s.setFree p i n).segs = s.segs := by
  unfold State.setFree
  dsimp only
  split <;> rfl

theorem State.setFree_regs : (s.setFree p i n).regs = (s.setF F.KV_SEG_STATUS_FREE n p i).regs := by
  unfold State.setFree
  dsimp only
  split <;> rfl

theorem State.setFree_f (y : Fld) (i' j' k' : Nat) :
    (s.setFree p i n).f y i' j' k' = (s.setF F.KV_SEG_STATUS_FREE n p i).f y i' j' k' :=
  State.f_of_regs (s.setFree_regs p i n) ..

theorem State.setFree_seg (p' i' : Nat) : (s.setFree p i n).seg p' i' = s.seg p' i' := by
  rw [State.seg, State.setFree_segs]
  rfl

theorem State.setFree_free : (s.setFree p i n).f F.KV_SEG_STATUS_FREE p i = n % 2 ^ 29 := by
  rw [State.setFree_f, State.f_setF_same _ _ _ _ _ _ (by decide)]

/-- A field that shares no bit with FREE reads as before. -/
theorem State.setFree_f_apart (y : Fld) (i' j' k' : Nat) (h : F.KV_SEG_STATUS_FREE.Apart y) :
    (s.setFree p i n).f y i' j' k' = s.f y i' j' k' := by
  rw [State.setFree_f]
  exact h.elim (s.f_setF_name _ y n p i 0 i' j' k') (s.f_setF_bits _ y n p i 0 i' j' k')

/-- Memory changes where the pool is enabled, in the segment's allocation word alone. -/
theorem State.setFree_mem : (s.setFree p i n).mem =
    if s.poolOn p = true then s.mem.write (s.allocKey p i) (toLE 8 n) else s.mem := by
  have hon : (s.setF F.KV_SEG_STATUS_FREE n p i).poolOn p = s.poolOn p := State.fb_setF_name _ _ _ _ _ _ _ _ _ _ (by decide)
  have hkey : (s.setF F.KV_SEG_STATUS_FREE n p i).allocKey p i = s.allocKey p i := by
    simp only [State.allocKey, State.f_setF_name _ _ _ _ _ _ _ _ _ _ (show F.KV_POOL_CB_ADDR.reg ≠ F.KV_SEG_STATUS_FREE.reg by decide)]
  unfold State.setFree
  dsimp only
  rw [hon, hkey, apply_ite State.mem]
  rfl

variable {s p i n}

/-- The allocation word of an enabled pool reads as FREE. -/
theorem State.leNat_setFree (h : s.poolOn p = true) : leNat (s.setFree p i n) (s.allocKey p i) 8 = n % 2 ^ 64 :=
  leNat_of_write ((s.setFree_mem p i n).trans (if_pos h))

theorem State.setFree_get_other {a : Nat} (h : s.poolOn p = false ∨ a < s.allocKey p i ∨ s.allocKey p i + 8 ≤ a) :
    (s.setFree p i n).mem.get a = s.mem.get a := by
  rw [State.setFree_mem]
  split
  · next hon =>
    rw [hon] at h
    exact s.writeN_get_other _ 8 n (h.resolve_left (by decide))
  · rfl

theorem State.leNat_setFree_other {k m : Nat} (h : s.poolOn p = false ∨ k + m ≤ s.allocKey p i ∨ s.allocKey p i + 8 ≤ k) :
    leNat (s.setFree p i n) k m = leNat s k m :=
  leNat_congr fun _ _ => State.setFree_get_other (h.imp_right (by omega))

end

/-! ### Count words (R246) -/

/-- What an add on a count word gives. -/
def State.countSum (s : State) (p i n : Nat) (d : Word) : Int := (leNat s (s.countKey p i n) 8 : Int) + d.toInt

/-- The kind of error of an add on a count word, 0 for none (R246). -/
def State.countKind (s : State) (p i n : Nat) (d : Word) : Nat :=
  if leNat s (s.countKey p i n) 8 = 0 ∧ d ≠ 0 then 1 else if s.countSum p i n d < 0 then 2
  else if 2 ^ 32 - 1 < s.countSum p i n d then 3 else 0

/-- The state after an add of core g that is refused. -/
def State.countRefused (s : State) (g p i n kind : Nat) : State :=
  ((s.setReg ⟨.KV_CNT_ERR, 0, 0, 0⟩ (BitVec.ofNat 64 (pageNumber i n + p * 2 ^ 32 + g * 2 ^ 40 + kind * 2 ^ 48))).addF
    F.KV_CNT_ERRS_COUNT 1).event F.KV_EVENT_CNT_ERR

/-- The state with a page counted as pending. -/
def State.pended (s : State) (p i n : Nat) : State :=
  (s.setSeg p i { s.seg p i with pend := (s.seg p i).pend ++ [n] }).addF F.KV_SEG_STATUS_PENDING 1 p i

section
variable {s : State} {p i n : Nat} {d : Word} (g : Nat)

theorem State.countAdd_eq : (s.countAdd g p i n d).2 =
    if s.countKind p i n d ≠ 0 then s.countRefused g p i n (s.countKind p i n d)
    else if 0 < leNat s (s.countKey p i n) 8 ∧ s.countSum p i n d = 0 then
      (s.writeN (s.countKey p i n) 8 (s.countSum p i n d).toNat).pended p i n
    else s.writeN (s.countKey p i n) 8 (s.countSum p i n d).toNat := by
  have hmax : (2 : Int) ^ 32 - 1 = 0xFFFFFFFF := by norm_num
  unfold State.countAdd
  extract_lets key c z kind
  have hc : leNat s (s.countKey p i n) 8 = c := leNat_eq_readN ..
  have hz : s.countSum p i n d = z := by rw [State.countSum, hc]
  have hkind : s.countKind p i n d = kind := by rw [State.countKind, hc, hz, hmax]
  rw [hc, hz, hkind]
  clear_value kind z c
  split
  · rfl
  · rfl

theorem State.countAdd_refused (h : s.countKind p i n d ≠ 0) :
    (s.countAdd g p i n d).2 = s.countRefused g p i n (s.countKind p i n d) :=
  (State.countAdd_eq g).trans (if_pos h)

theorem State.countAdd_stored (h : s.countKind p i n d = 0) (hz : s.countSum p i n d ≠ 0 ∨ leNat s (s.countKey p i n) 8 = 0) :
    (s.countAdd g p i n d).2 = s.writeN (s.countKey p i n) 8 (s.countSum p i n d).toNat := by
  rw [State.countAdd_eq, if_neg (not_not.mpr h), if_neg (by omega)]

theorem State.countAdd_freed (h : s.countKind p i n d = 0) (hz : s.countSum p i n d = 0) (hc : leNat s (s.countKey p i n) 8 ≠ 0) :
    (s.countAdd g p i n d).2 = (s.writeN (s.countKey p i n) 8 (s.countSum p i n d).toNat).pended p i n := by
  rw [State.countAdd_eq, if_neg (not_not.mpr h), if_pos ⟨Nat.pos_of_ne_zero hc, hz⟩]

/-- An add that is not refused stores its sum, whatever it makes of the page. -/
theorem State.countAdd_mem (h : s.countKind p i n d = 0) :
    (s.countAdd g p i n d).2.mem = s.mem.write (s.countKey p i n) (toLE 8 (s.countSum p i n d).toNat) := by
  by_cases hz : s.countSum p i n d ≠ 0 ∨ leNat s (s.countKey p i n) 8 = 0
  · rw [State.countAdd_stored g h hz]
    rfl
  · obtain ⟨hz, hc⟩ := not_or.mp hz
    rw [State.countAdd_freed g h (not_not.mp hz) hc]
    rfl

variable (s p i n)

theorem State.pended_seg : (s.pended p i n).seg p i = { s.seg p i with pend := (s.seg p i).pend ++ [n] } :=
  State.seg_setSeg_same ..

theorem State.pended_pending :
    (s.pended p i n).f F.KV_SEG_STATUS_PENDING p i = (s.f F.KV_SEG_STATUS_PENDING p i + 1) % 2 ^ 29 :=
  State.f_setF_same _ _ _ _ _ _ (by decide)

variable (kind : Nat)

theorem State.countRefused_mem : (s.countRefused g p i n kind).mem = s.mem := by
  rw [State.countRefused, State.event_mem, State.addF_eq, State.setF_mem, State.setReg_mem]

theorem State.countRefused_segs : (s.countRefused g p i n kind).segs = s.segs := by
  rw [State.countRefused, State.event_segs, State.addF_eq, State.setF_segs, State.setReg_segs]

theorem State.countRefused_event : (s.countRefused g p i n kind).fb F.KV_EVENT_CNT_ERR = true :=
  State.fb_event_same _ _ _ _ (by decide) rfl

theorem State.countRefused_count :
    (s.countRefused g p i n kind).f F.KV_CNT_ERRS_COUNT = (s.f F.KV_CNT_ERRS_COUNT + 1) % 2 ^ 64 := by
  rw [State.countRefused, State.f_event_name _ _ _ _ _ _ _ _ _ (by decide), State.addF_eq,
    State.f_setF_same _ _ _ _ _ _ (by decide), State.f_setReg_name _ _ _ _ _ _ (by decide)]

theorem State.countRefused_record : (s.countRefused g p i n kind).reg ⟨.KV_CNT_ERR, 0, 0, 0⟩ =
    BitVec.ofNat 64 (i * 2 ^ 29 + n + p * 2 ^ 32 + g * 2 ^ 40 + kind * 2 ^ 48) := by
  rw [State.countRefused, State.reg_event, State.setF, State.reg_setReg_other _ _ (by decide), State.addF_eq, State.setF,
    State.reg_setReg_other _ _ (by decide), State.reg_setReg_same, pageNumber]

end

/-- The add of a count word in range (R246). -/
theorem exec_countWordAtomic {s : State} {p i n : Nat} (hok : s.segOk p i = true) (hn : n < s.segPages p i) (g : Nat)
    (d : Word) : exec (.countWordAtomic g p i n d) s = .next (s.countAdd g p i n d).2 :=
  if_pos (by simp [hok, hn])

/-! ### Allocation (R248) -/

/-- The segment has a page to give. -/
def State.givesPage (s : State) (p i : Nat) : Prop :=
  s.segOk p i = true ∧ s.fb F.KV_SEG_STATUS_READY p i = true ∧ s.f F.KV_SEG_STATUS_FREE p i ≠ 0

/-- The count word of the page at the ring's head. -/
def State.headCountKey (s : State) (p i : Nat) : Nat :=
  s.countKey p i (leNat s (s.ringKey p i (s.seg p i).head) 4 % 2 ^ 29)

/-- The state with the page at the ring's head taken off the ring and counted once. -/
def State.headTaken (s : State) (p i : Nat) : State :=
  (s.setSeg p i { s.seg p i with head := ((s.seg p i).head + 1) % s.segPages p i }).writeN (s.headCountKey p i) 8 1

/-- The state after an allocation. -/
def State.pageTaken (s : State) (p i : Nat) : State :=
  ((s.headTaken p i).setFree p i (s.f F.KV_SEG_STATUS_FREE p i - 1)).addF F.KV_POOL_ALLOCS_COUNT 1 p

section
variable {s : State} {p i : Nat}

/-- An allocation word answers the pool's owner from the segment, with no page kept back. -/
theorem exec_allocationWordAtomic (hon : s.poolOn p = true) :
    exec (.allocationWordAtomic p i) s = .next (s.allocPage p i 0).2 := by
  refine (if_pos hon).trans ?_
  rw [State.allocWord, if_pos rfl]

theorem State.allocPage_none (h : ¬s.givesPage p i) : (s.allocPage p i 0).2 = s.addF F.KV_POOL_FAILS_COUNT 1 p := by
  unfold State.allocPage
  dsimp only
  rw [if_neg]
  simp only [Bool.and_eq_true, decide_eq_true_eq]
  rintro ⟨⟨⟨_, hok⟩, hready⟩, hfree⟩
  exact h ⟨hok, hready, Nat.ne_of_gt hfree⟩

theorem State.allocPage_taken (hon : s.poolOn p = true) (h : s.givesPage p i) : (s.allocPage p i 0).2 = s.pageTaken p i := by
  obtain ⟨hok, hready, hfree⟩ := h
  unfold State.allocPage
  dsimp only
  rw [if_pos (by simp [hon, hok, hready, Nat.pos_of_ne_zero hfree]), ← leNat_eq_readN]
  rfl

variable (s p i)

theorem State.pageTaken_free : (s.pageTaken p i).f F.KV_SEG_STATUS_FREE p i = s.f F.KV_SEG_STATUS_FREE p i - 1 := by
  have hlt : s.f F.KV_SEG_STATUS_FREE p i < 2 ^ 29 := bits_lt ..
  rw [State.pageTaken, State.addF_eq, State.f_setF_name _ _ _ _ _ _ _ _ _ _ (by decide), State.setFree_free,
    Nat.mod_eq_of_lt (by omega)]

theorem State.pageTaken_head : ((s.pageTaken p i).seg p i).head = ((s.seg p i).head + 1) % s.segPages p i := by
  rw [State.pageTaken, State.addF_eq, State.setF_seg, State.setFree_seg, State.headTaken, State.writeN_eq, State.write_seg,
    State.seg_setSeg_same]

theorem State.pageTaken_allocs :
    (s.pageTaken p i).f F.KV_POOL_ALLOCS_COUNT p = (s.f F.KV_POOL_ALLOCS_COUNT p + 1) % 2 ^ 64 := by
  rw [State.pageTaken, State.addF_eq, State.f_setF_same _ _ _ _ _ _ (by decide),
    State.setFree_f_apart _ _ _ _ _ _ _ _ (.inl (by decide))]
  rfl

variable {s p i}

theorem State.pageTaken_word (hon : s.poolOn p = true) :
    leNat (s.pageTaken p i) (s.allocKey p i) 8 = s.f F.KV_SEG_STATUS_FREE p i - 1 := by
  have hlt : s.f F.KV_SEG_STATUS_FREE p i < 2 ^ 29 := bits_lt ..
  exact (State.leNat_setFree (s := s.headTaken p i) hon).trans (Nat.mod_eq_of_lt (by omega))

theorem State.pageTaken_count (h : s.headCountKey p i + 8 ≤ s.allocKey p i ∨ s.allocKey p i + 8 ≤ s.headCountKey p i) :
    leNat (s.pageTaken p i) (s.headCountKey p i) 8 = 1 :=
  (State.leNat_setFree_other (s := s.headTaken p i) (.inr h)).trans (leNat_of_write (v := 1) rfl)

theorem State.pageTaken_get_other {a : Nat} (hc : a < s.headCountKey p i ∨ s.headCountKey p i + 8 ≤ a)
    (hw : a < s.allocKey p i ∨ s.allocKey p i + 8 ≤ a) : (s.pageTaken p i).mem.get a = s.mem.get a :=
  (State.setFree_get_other (s := s.headTaken p i) (.inr hw)).trans (s.writeN_get_other _ 8 1 hc)

end

/-! ### A segment that becomes valid (R245) -/

/-- The bytes of a ring that holds all n pages of segment i in ascending order. -/
def ringBytes (i n : Nat) : List Byte := (List.range n).flatMap (fun j => toLE 4 (pageNumber i j))

theorem ringBytes_length (i n : Nat) : (ringBytes i n).length = 4 * n := by
  simp [ringBytes, List.length_flatMap, Nat.mul_comm]

/-- The state with the count words of a segment 0. -/
def State.countsZeroed (s : State) (p i : Nat) : State := s.write (s.countKey p i 0) (zeroBytes (8 * s.segPages p i))

/-- The state with the count words of a segment 0 and its ring filled. -/
def State.ringFilled (s : State) (p i : Nat) : State :=
  (s.countsZeroed p i).write (s.ringKey p i 0) (ringBytes i (s.segPages p i))

/-- The state with a segment's initialisation begun. -/
def State.initBegun (s : State) (p i : Nat) : State :=
  (((s.ringFilled p i).setSeg p i { init := true }).setF F.KV_SEG_STATUS_READY 0 p i).setF F.KV_SEG_STATUS_PENDING 0 p i

section
variable (s : State) (p i : Nat)

theorem State.segStart_eq : s.segStart p i = (s.initBegun p i).setFree p i (s.segPages p i) := rfl

theorem State.initBegun_poolOn : (s.initBegun p i).poolOn p = s.poolOn p :=
  (State.fb_setF_name _ _ _ _ _ _ _ _ _ _ (by decide)).trans (State.fb_setF_name _ _ _ _ _ _ _ _ _ _ (by decide))

theorem State.initBegun_allocKey : (s.initBegun p i).allocKey p i = s.allocKey p i :=
  congrArg (fun a => hbmKey (a + 8 * i))
    ((State.f_setF_name _ _ _ _ _ _ _ _ _ _ (by decide)).trans (State.f_setF_name _ _ _ _ _ _ _ _ _ _ (by decide)))

theorem State.segPages_lt : s.segPages p i < 2 ^ 29 := bits_lt ..

theorem State.segStart_free : (s.segStart p i).f F.KV_SEG_STATUS_FREE p i = s.segPages p i := by
  rw [State.segStart_eq, State.setFree_free, Nat.mod_eq_of_lt (s.segPages_lt p i)]

theorem State.segStart_pending : (s.segStart p i).f F.KV_SEG_STATUS_PENDING p i = 0 := by
  rw [State.segStart_eq, State.setFree_f_apart _ _ _ _ _ _ _ _ (.inr (by decide)), State.initBegun,
    State.f_setF_same _ _ _ _ _ _ (by decide), Nat.zero_mod]

theorem State.segStart_ready : (s.segStart p i).fb F.KV_SEG_STATUS_READY p i = false := by
  rw [State.fb, State.segStart_eq, State.setFree_f_apart _ _ _ _ _ _ _ _ (.inr (by decide))]
  exact (State.fb_setF_bits _ _ _ _ _ _ _ _ _ _ (by decide)).trans (State.fb_setF_zero _ _ _ _ _ (by decide))

theorem State.segStart_init : ((s.segStart p i).seg p i).init = true := by
  rw [State.segStart_eq, State.setFree_seg, State.initBegun, State.setF_seg, State.setF_seg, State.seg_setSeg_same]

variable {s p i}

theorem State.segStart_word (hon : s.poolOn p = true) : leNat (s.segStart p i) (s.allocKey p i) 8 = s.segPages p i := by
  have hlt := s.segPages_lt p i
  rw [State.segStart_eq, ← s.initBegun_allocKey, State.leNat_setFree ((s.initBegun_poolOn p i).trans hon),
    Nat.mod_eq_of_lt (by omega)]

/-- Beside the allocation word, memory is as the ring's fill leaves it. -/
theorem State.segStart_get_filled {a : Nat} (h : s.poolOn p = false ∨ a < s.allocKey p i ∨ s.allocKey p i + 8 ≤ a) :
    (s.segStart p i).mem.get a = (s.ringFilled p i).mem.get a :=
  State.setFree_get_other (s := s.initBegun p i) (by rwa [State.initBegun_poolOn, State.initBegun_allocKey])

theorem State.segStart_leNat_filled {k m : Nat} (h : s.poolOn p = false ∨ k + m ≤ s.allocKey p i ∨ s.allocKey p i + 8 ≤ k) :
    leNat (s.segStart p i) k m = leNat (s.ringFilled p i) k m :=
  leNat_congr fun _ _ => State.segStart_get_filled (h.imp_right (by omega))

theorem State.ringFilled_ring {j : Nat} (hj : j < s.segPages p i) :
    leNat (s.ringFilled p i) (s.ringKey p i 0 + 4 * j) 4 = (i * 2 ^ 29 + j) % 2 ^ 32 :=
  leNat_of_write_flatMap hj rfl

theorem State.countsZeroed_count {j : Nat} (hj : j < s.segPages p i) :
    leNat (s.countsZeroed p i) (s.countKey p i 0 + 8 * j) 8 = 0 :=
  leNat_of_zeros fun k hk => by
    have hlen : 8 * j + k < (zeroBytes (8 * s.segPages p i)).length := by
      rw [zeroBytes, List.length_replicate]
      omega
    rw [Nat.add_assoc]
    exact (mem_get_write_same _ _ _ _ hlen).trans (List.getElem_replicate ..)

theorem State.ringFilled_count {j : Nat} (hj : j < s.segPages p i)
    (h : s.countKey p i 0 + 8 * s.segPages p i ≤ s.ringKey p i 0 ∨ s.ringKey p i 0 + 4 * s.segPages p i ≤ s.countKey p i 0) :
    leNat (s.ringFilled p i) (s.countKey p i 0 + 8 * j) 8 = 0 :=
  (leNat_of_write_other (s := s.countsZeroed p i) rfl (by rw [ringBytes_length]; omega)).trans (State.countsZeroed_count hj)

theorem State.ringFilled_get_other {a : Nat}
    (hc : a < s.countKey p i 0 ∨ s.countKey p i 0 + 8 * s.segPages p i ≤ a)
    (hr : a < s.ringKey p i 0 ∨ s.ringKey p i 0 + 4 * s.segPages p i ≤ a) : (s.ringFilled p i).mem.get a = s.mem.get a :=
  ((s.countsZeroed p i).write_get_other _ _ _ (by rwa [ringBytes_length])).trans
    (s.write_get_other _ _ _ (by rwa [zeroBytes, List.length_replicate]))

theorem State.segStart_ring {j : Nat} (hj : j < s.segPages p i)
    (hw : s.poolOn p = false ∨ s.ringKey p i 0 + 4 * s.segPages p i ≤ s.allocKey p i ∨ s.allocKey p i + 8 ≤ s.ringKey p i 0) :
    leNat (s.segStart p i) (s.ringKey p i 0 + 4 * j) 4 = (i * 2 ^ 29 + j) % 2 ^ 32 :=
  (State.segStart_leNat_filled (hw.imp_right (by omega))).trans (State.ringFilled_ring hj)

theorem State.segStart_count {j : Nat} (hj : j < s.segPages p i)
    (hw : s.poolOn p = false ∨ s.countKey p i 0 + 8 * s.segPages p i ≤ s.allocKey p i ∨ s.allocKey p i + 8 ≤ s.countKey p i 0)
    (hr : s.countKey p i 0 + 8 * s.segPages p i ≤ s.ringKey p i 0 ∨ s.ringKey p i 0 + 4 * s.segPages p i ≤ s.countKey p i 0) :
    leNat (s.segStart p i) (s.countKey p i 0 + 8 * j) 8 = 0 :=
  (State.segStart_leNat_filled (hw.imp_right (by omega))).trans (State.ringFilled_count hj hr)

end

/-- SEGMENT_READY acts on a valid segment under initialisation, and on no other (R245). -/
theorem exec_segmentReady_idle {s : State} {p i : Nat} (h : s.segOk p i = false ∨ (s.seg p i).init = false) :
    exec (.segmentReady p i) s = .next s :=
  congrArg Host.Outcome.next (if_neg (by obtain h | h := h <;> simp [h]))

theorem exec_segmentReady_done {s : State} {p i : Nat} (hok : s.segOk p i = true) (hinit : (s.seg p i).init = true) :
    exec (.segmentReady p i) s =
      .next ((s.setSeg p i { s.seg p i with init := false }).setF F.KV_SEG_STATUS_READY 1 p i) :=
  congrArg Host.Outcome.next (if_pos (by rw [hok, hinit]; rfl))

/-- Settles O41: the count of a page, an allocation, the end of an initialisation and its start, from the lemmas above. -/
theorem pagesAreCountedAndAllocated : Obligations.PagesAreCountedAndAllocated := by
  refine ⟨fun s g p i n d hok hn => ?_, fun s p i hon => ?_, fun s p i => ?_, fun s p i => ?_⟩
  · refine ⟨_, exec_countWordAtomic hok hn g d, fun (hkind : s.countKind p i n d ≠ 0) => ?_,
      fun (hkind : s.countKind p i n d = 0) => ⟨?_, fun hz => ?_, fun hz hc => ?_⟩⟩
    · rw [State.countAdd_refused g hkind]
      exact ⟨State.countRefused_mem .., State.countRefused_segs .., State.countRefused_event .., State.countRefused_count ..,
        State.countRefused_record ..⟩
    · rw [le_eq_toLE]
      exact Stores.of_mem (State.countAdd_mem g hkind)
    · rw [State.countAdd_stored g hkind hz]
      exact ⟨rfl, rfl⟩
    · rw [State.countAdd_freed g hkind hz hc]
      exact ⟨State.pended_seg .., State.pended_pending ..⟩
  · refine ⟨_, exec_allocationWordAtomic hon, fun (hcan : ¬s.givesPage p i) => ?_, fun (hcan : s.givesPage p i) => ?_⟩
    · rw [State.allocPage_none hcan, State.addF_eq]
      exact ⟨rfl, rfl, State.f_setF_name _ _ _ _ _ _ _ _ _ _ (by decide), State.f_setF_same _ _ _ _ _ _ (by decide)⟩
    · rw [State.allocPage_taken hon hcan]
      exact ⟨s.pageTaken_free p i, s.pageTaken_head p i, s.pageTaken_allocs p i, State.pageTaken_word hon,
        State.pageTaken_count, fun a hc hw => State.pageTaken_get_other hc hw⟩
  · by_cases h : s.segOk p i = true ∧ (s.seg p i).init = true
    · obtain ⟨hok, hinit⟩ := h
      refine ⟨_, exec_segmentReady_done hok hinit, fun h => ?_, fun _ _ => ⟨?_, ?_, rfl, ?_⟩⟩
      · simp [hok, hinit] at h
      · exact State.fb_setF_one _ _ _ _ _ (by decide) rfl
      · rw [State.setF_seg, State.seg_setSeg_same]
      · exact State.f_setF_bits _ _ _ _ _ _ _ _ _ _ (by decide)
    · exact ⟨s, exec_segmentReady_idle (by simpa [imp_iff_not_or] using h), fun _ => rfl, fun hok hinit => absurd ⟨hok, hinit⟩ h⟩
  · refine ⟨s.segStart_free p i, s.segStart_pending p i, s.segStart_ready p i, s.segStart_init p i, State.segStart_word,
      fun hw j hj => ?_, fun hw hr j hj => ?_, fun a hc hr hw => ?_⟩
    · exact State.segStart_ring hj hw
    · exact State.segStart_count hj hw hr
    · exact (State.segStart_get_filled hw).trans (State.ringFilled_get_other hc hr)

end Sys2Proof.Machine
end

section
namespace Sys2Proof.Machine

open Sys2Proof.Claims

/-! PROOFS. ReceiveTakesTheHeadMessage. -/

theorem StoresOnly.f {s t : State} (h : StoresOnly s t) (x : Fld) (i j k : Nat) : t.f x i j k = s.f x i j k := by
  rw [State.f, State.f, State.reg, State.reg, h.regs]

theorem State.slotKey_eq (s : State) (g c q i o : Nat) :
    s.slotKey g c q i o = spadKey g (128 * (s.f F.COL_MQ_CFG_BASE g c q + i)) + o :=
  (Nat.add_assoc ..).symm

theorem State.readN_byte (s : State) (key : Nat) : s.readN key 1 = (s.mem.get key).toNat := by
  simp [State.readN, State.read, Mem.read, ofLE]

/-- The length and the sender that a slot holds, as RB takes them (R263). -/
theorem senderWord_eq (s : State) (key len : Nat) :
    let sender := BitVec.ofNat 64 (s.readN key 8)
    BitVec.ofNat 64 (len + 256 * bits sender 0 8 + 2 ^ 44 * bits sender 44 20) =
      BitVec.ofNat 64 (len + 256 * (leNat s key 8 % 256) + 2 ^ 44 * (leNat s key 8 / 2 ^ 44)) := by
  have hlt : leNat s key 8 < 2 ^ 64 := leNat_lt s key 8
  have hword : (BitVec.ofNat 64 (s.readN key 8)).toNat = leNat s key 8 := by
    rw [← leNat_eq_readN, BitVec.toNat_ofNat, Nat.mod_eq_of_lt hlt]
  dsimp only
  rw [bits_low, hword, bits, bitsN, hword, Nat.mod_eq_of_lt (show leNat s key 8 / 2 ^ 44 < 2 ^ 20 by omega)]
  rfl

/-- The head message of a queue is copied to a key and gives up its slot: HEAD goes on round the ring, COUNT is one less (R263). -/
def State.mqTaken (s : State) (g c q key : Nat) : State :=
  let h := s.f F.COL_MQ_STATE_HEAD g c q
  let src := s.slotKey g c q h 0
  let len := s.readN (s.slotKey g c q h 0x48) 1
  let s := s.store key (s.read src len) (s.poisoned src len)
  let s := s.setF F.COL_MQ_STATE_HEAD (if h + 1 = s.mqSlots g c q then 0 else h + 1) g c q
  s.setF F.COL_MQ_STATE_COUNT (s.f F.COL_MQ_STATE_COUNT g c q - 1) g c q

section
variable (s : State) (g c q key : Nat)

/-- What a queue's head message changes beside the queue's own register: the bytes of the copy. -/
theorem State.mqTaken_rest : ∃ w, StoresOnly s w ∧
    w.mem = s.mem.write key (s.read (s.slotKey g c q (s.f F.COL_MQ_STATE_HEAD g c q) 0)
      (s.readN (s.slotKey g c q (s.f F.COL_MQ_STATE_HEAD g c q) 0x48) 1)) ∧
    s.mqTaken g c q key =
      (w.setF F.COL_MQ_STATE_HEAD (if s.f F.COL_MQ_STATE_HEAD g c q = s.f F.COL_MQ_CFG_SLOTS_M1 g c q then 0
        else s.f F.COL_MQ_STATE_HEAD g c q + 1) g c q).setF F.COL_MQ_STATE_COUNT (s.f F.COL_MQ_STATE_COUNT g c q - 1) g c q := by
  have hw := StoresOnly.store (.refl s) key (s.read (s.slotKey g c q (s.f F.COL_MQ_STATE_HEAD g c q) 0)
    (s.readN (s.slotKey g c q (s.f F.COL_MQ_STATE_HEAD g c q) 0x48) 1))
    (s.poisoned (s.slotKey g c q (s.f F.COL_MQ_STATE_HEAD g c q) 0)
      (s.readN (s.slotKey g c q (s.f F.COL_MQ_STATE_HEAD g c q) 0x48) 1))
  refine ⟨_, hw, State.store_mem .., ?_⟩
  simp only [State.mqTaken, State.mqSlots, hw.f, Nat.add_right_cancel_iff]
  rw [State.f_setF_bits _ _ _ _ _ _ _ _ _ _ (by decide), hw.f]

theorem State.mqTaken_count :
    (s.mqTaken g c q key).f F.COL_MQ_STATE_COUNT g c q = s.f F.COL_MQ_STATE_COUNT g c q - 1 := by
  obtain ⟨w, -, -, heq⟩ := s.mqTaken_rest g c q key
  have hlt : s.f F.COL_MQ_STATE_COUNT g c q < 512 := bits_lt ..
  rw [heq, State.f_setF_same _ _ _ _ _ _ (by decide)]
  exact Nat.mod_eq_of_lt (show _ < 512 by omega)

theorem State.mqTaken_head : (s.mqTaken g c q key).f F.COL_MQ_STATE_HEAD g c q =
    if s.f F.COL_MQ_STATE_HEAD g c q = s.f F.COL_MQ_CFG_SLOTS_M1 g c q then 0 else (s.f F.COL_MQ_STATE_HEAD g c q + 1) % 256 := by
  obtain ⟨w, -, -, heq⟩ := s.mqTaken_rest g c q key
  rw [heq, State.f_setF_bits _ _ _ _ _ _ _ _ _ _ (by decide), State.f_setF_same _ _ _ _ _ _ (by decide)]
  split <;> rfl

theorem State.mqTaken_reg {r : Reg} (h : r ≠ ⟨.COL_MQ_STATE, g, c, q⟩) : (s.mqTaken g c q key).reg r = s.reg r := by
  obtain ⟨w, hw, -, heq⟩ := s.mqTaken_rest g c q key
  rw [heq, State.reg_setF_other _ _ _ _ _ _ h, State.reg_setF_other _ _ _ _ _ _ h, State.reg, State.reg, hw.regs]

theorem State.mqTaken_strand (g' c' k' : Nat) : (s.mqTaken g c q key).strand g' c' k' = s.strand g' c' k' := by
  obtain ⟨w, hw, -, heq⟩ := s.mqTaken_rest g c q key
  rw [heq, State.setF_strand, State.setF_strand, State.strand, hw.strands]
  rfl

theorem State.mqTaken_stores : Stores s (s.mqTaken g c q key) key
    (s.read (s.slotKey g c q (s.f F.COL_MQ_STATE_HEAD g c q) 0)
      (s.readN (s.slotKey g c q (s.f F.COL_MQ_STATE_HEAD g c q) 0x48) 1)) := by
  obtain ⟨w, -, hmem, heq⟩ := s.mqTaken_rest g c q key
  refine Stores.of_mem ?_
  rw [heq, State.setF_mem, State.setF_mem, hmem]

end

section
variable {s : State} {g c k : Nat} {d : Dec} (h : s.At g c k .mrecv d)
include h

theorem execMrecv_empty (hn : s.f F.COL_MQ_STATE_COUNT g c (d.field 36 3) = 0) : exec (.mrecv g c k) s = .next s := by
  refine congrArg Host.Outcome.next ?_
  rw [State.issue_of_at h]
  exact if_pos hn

theorem execMrecv_refused (hn : s.f F.COL_MQ_STATE_COUNT g c (d.field 36 3) ≠ 0) {len : Nat}
    (hlen : s.readN (s.slotKey g c (d.field 36 3) (s.f F.COL_MQ_STATE_HEAD g c (d.field 36 3)) 0x48) 1 = len)
    (hno : ((s.strand g c k).rd d.rd).toNat % 8 ≠ 0 ∨ s.winKey g c ((s.strand g c k).rd d.rd).toNat len = none) :
    exec (.mrecv g c k) s = .next (s.raise g c k 0x05 ((s.strand g c k).rd d.rd).toNat) := by
  refine congrArg Host.Outcome.next ?_
  rw [State.issue_of_at h]
  dsimp only
  rw [if_neg hn, hlen]
  obtain hodd | hout := hno
  · rw [if_neg hodd]
  · rw [hout, ite_self]

theorem execMrecv_takes (hn : s.f F.COL_MQ_STATE_COUNT g c (d.field 36 3) ≠ 0) {len key : Nat}
    (hlen : s.readN (s.slotKey g c (d.field 36 3) (s.f F.COL_MQ_STATE_HEAD g c (d.field 36 3)) 0x48) 1 = len)
    (heven : ((s.strand g c k).rd d.rd).toNat % 8 = 0)
    (hkey : s.winKey g c ((s.strand g c k).rd d.rd).toNat len = some key) :
    let sender := BitVec.ofNat 64 (s.readN (s.slotKey g c (d.field 36 3) (s.f F.COL_MQ_STATE_HEAD g c (d.field 36 3)) 0x40) 8)
    exec (.mrecv g c k) s = .next ((s.mqTaken g c (d.field 36 3) key).retireRd g c k d.rs1
      (BitVec.ofNat 64 (len + 256 * bits sender 0 8 + 2 ^ 44 * bits sender 44 20))) := by
  refine congrArg Host.Outcome.next ?_
  rw [State.issue_of_at h, State.mqTaken]
  dsimp only
  rw [if_neg hn, hlen, if_pos heven, hkey]

end

/-- Settles O15: MRECV by the queue and the address it finds, MCOUNT as a retirement. -/
theorem receiveTakesTheHeadMessage : Obligations.ReceiveTakesTheHeadMessage := by
  intro s g c k d u q h n slot len sender a
  have hlen : s.readN (s.slotKey g c q h 0x48) 1 = len := by rw [State.slotKey_eq, State.readN_byte]
  refine ⟨fun hat => ?_, fun hat => ⟨_, rfl, ?_⟩⟩
  · by_cases hn : n = 0
    · exact ⟨s, execMrecv_empty hat hn, fun _ => rfl, fun h => absurd hn h, fun _ h => absurd hn h⟩
    by_cases hno : a % 8 ≠ 0 ∨ s.winKey g c a len = none
    · refine ⟨_, execMrecv_refused hat hn hlen hno, fun h => absurd h hn, fun _ _ => s.raise_faults .., fun key _ heven hkey => ?_⟩
      exact absurd hno (by simp [heven, hkey])
    · simp only [not_or, not_not] at hno
      obtain ⟨heven, hwin⟩ := hno
      obtain ⟨key, hkey⟩ := Option.ne_none_iff_exists'.mp hwin
      refine ⟨_, execMrecv_takes hat hn hlen heven hkey, fun h => absurd h hn, fun _ h => absurd h (by simp [heven, hkey]), ?_⟩
      intro key' _ _ hkey'
      obtain rfl : key = key' := Option.some_inj.mp (hkey.symm.trans hkey')
      obtain ⟨hval, hstrand, hframe⟩ := (s.mqTaken g c q key).retireRd_retires g c k d.rs1 (BitVec.ofNat 64 (len +
        256 * bits (BitVec.ofNat 64 (s.readN (s.slotKey g c q h 0x40) 8)) 0 8 +
        2 ^ 44 * bits (BitVec.ofNat 64 (s.readN (s.slotKey g c q h 0x40) 8)) 44 20))
      obtain ⟨hcopy, hother⟩ := s.mqTaken_stores g c q key
      rw [State.slotKey_eq s g c q h 0, hlen] at hcopy hother
      rw [State.read_length] at hother
      refine ⟨fun i hi => ?_, fun x hx => ?_, ?_, ?_, ?_, fun r => ?_, fun i => ?_, fun r hq hr => ?_⟩
      · rw [hframe.mem, hcopy i (by rwa [State.read_length]), List.getD_eq_getElem _ _ (by rwa [State.read_length]),
          State.read_getElem]
        rfl
      · rw [hframe.mem, hother x hx]
      · rw [hframe.f _ _ _ _ (by decide), s.mqTaken_count]
      · rw [hframe.f _ _ _ _ (by decide), s.mqTaken_head]
      · rw [hstrand, s.mqTaken_strand]
      · rw [hval r, s.mqTaken_strand, senderWord_eq, State.slotKey_eq]
      · rw [hframe.f _ _ _ _ (by decide), State.f, s.mqTaken_reg _ _ _ _ (by simp), State.f]
      · rw [hframe.regs r hr, s.mqTaken_reg _ _ _ _ hq]
  · rw [State.issue_of_at hat]
    exact s.retireRd_retires ..

end Sys2Proof.Machine
end

section
namespace Sys2Proof.Machine

open Sys2Proof.Claims

/-! PROOFS. MessagesFillReceiveQueues. -/

/-! ### What shared operations leave alone -/

theorem StoresOnly.write {s t : State} (h : StoresOnly s t) (key : Nat) (bs : List Byte) : StoresOnly s (t.write key bs) := by
  obtain ⟨m, p, rfl⟩ := h
  exact ⟨_, _, rfl⟩

theorem State.write_mem (s : State) (key : Nat) (bs : List Byte) : (s.write key bs).mem = s.mem.write key bs := rfl

theorem StoresOnly.occupied {s t : State} (h : StoresOnly s t) (g c : Nat) : t.occupied g c = s.occupied g c := by
  rw [State.occupied, State.occupied, State.ctx, State.ctx, h.ctxs]

/-- A token changes registers, the stall watch, and what a fault of its overflow changes (R65). -/
theorem State.token_frame (s : State) (g c t n : Nat) : s.token g c t n =
    { s with regs := (s.token g c t n).regs, watch := (s.token g c t n).watch, stalled := (s.token g c t n).stalled,
             mctx := (s.token g c t n).mctx, msixPend := (s.token g c t n).msixPend, out := (s.token g c t n).out,
             freeCtr := (s.token g c t n).freeCtr } := by
  unfold State.token
  split
  · rfl
  · split
    · rw [State.raiseAt_rest]
      rfl
    · rfl

/-- A number that a store holds among other bytes. -/
theorem leNat_of_write_middle {t : State} {m : Mem} {key n v : Nat} {pre post : List Byte}
    (h : t.mem = m.write key (pre ++ toLE n v ++ post)) : leNat t (key + pre.length) n = v % 256 ^ n := by
  have hread : t.read (key + pre.length) n = toLE n v := List.ext_getElem (by simp) fun j hj _ => by
    rw [State.read_length] at hj
    rw [State.read_getElem, h, Nat.add_assoc, mem_get_write_same _ _ _ _ (by simp; omega),
      List.getElem_append_left (by simp; omega), List.getElem_append_right (by simp)]
    simp
  rw [leNat_eq_readN, State.readN, hread, ofLE_toLE]

/-! ### A message taken (R262) -/

/-- The second half of a slot: sender, length and frame. -/
def slotRecord (sender len frame : Nat) : List Byte :=
  toLE 8 sender ++ toLE 1 len ++ zeroBytes 7 ++ toLE 8 frame ++ zeroBytes 40

theorem slotRecord_length (sender len frame : Nat) : (slotRecord sender len frame).length = 64 := by simp [slotRecord, zeroBytes]

section
variable {t : State} {m : Mem} {slot sender len frame : Nat} (h : t.mem = m.write (slot + 0x40) (slotRecord sender len frame))
include h

theorem leNat_slotRecord_sender : leNat t (slot + 0x40) 8 = sender % 2 ^ 64 :=
  leNat_of_write_middle (m := m) (pre := []) (post := toLE 1 len ++ zeroBytes 7 ++ toLE 8 frame ++ zeroBytes 40)
    (by rw [h]; simp [slotRecord])

theorem leNat_slotRecord_len (hlen : len < 256) : leNat t (slot + 0x48) 8 = len := by
  have hnum : toLE 8 len = toLE 1 len ++ zeroBytes 7 := by
    rw [toLE, toLE, Nat.div_eq_of_lt hlen]
    rfl
  have hsplit : slotRecord sender len frame = toLE 8 sender ++ toLE 8 len ++ (toLE 8 frame ++ zeroBytes 40) := by
    simp only [slotRecord, hnum, List.append_assoc]
  have hnext : slot + 0x48 = slot + 0x40 + (toLE 8 sender).length := by rw [toLE_length]
  rw [hnext, leNat_of_write_middle (h.trans (congrArg _ hsplit))]
  exact Nat.mod_eq_of_lt (show len < 2 ^ 64 by omega)

theorem leNat_slotRecord_frame : leNat t (slot + 0x50) 8 = frame % 2 ^ 64 := by
  have hnext : slot + 0x50 = slot + 0x40 + (toLE 8 sender ++ toLE 1 len ++ zeroBytes 7).length := by simp [zeroBytes]
  rw [hnext]
  exact leNat_of_write_middle h

end

/-- Payload and record of a message in the slot at TAIL. -/
def State.mqStored (s : State) (g c q sender : Nat) (data : List Byte) (poison : Bool) : State :=
  let slot := s.slotKey g c q (s.f F.COL_MQ_STATE_TAIL g c q) 0
  (s.store slot data poison).write (slot + 0x40) (slotRecord sender data.length s.clk.frame)

/-- TAIL and COUNT after a message taken. -/
def State.mqCounted (s : State) (g c q : Nat) : State :=
  (s.setF F.COL_MQ_STATE_TAIL (if s.f F.COL_MQ_STATE_TAIL g c q = s.f F.COL_MQ_CFG_SLOTS_M1 g c q then 0
    else s.f F.COL_MQ_STATE_TAIL g c q + 1) g c q).addF F.COL_MQ_STATE_COUNT 1 g c q

section
variable (s : State) (g c q sender : Nat) (data : List Byte) (poison : Bool)

theorem State.mqStored_only : StoresOnly s (s.mqStored g c q sender data poison) :=
  ((StoresOnly.refl s).store _ _ _).write _ _

theorem State.mqStored_mem {slot : Nat} (h : s.slotKey g c q (s.f F.COL_MQ_STATE_TAIL g c q) 0 = slot) :
    (s.mqStored g c q sender data poison).mem =
      (s.mem.write slot data).write (slot + 0x40) (slotRecord sender data.length s.clk.frame) := by
  rw [State.mqStored, h]
  exact (State.write_mem ..).trans (by rw [State.store_mem])

theorem State.mqAccept_eq : s.mqAccept g c q sender data poison =
    ((s.mqStored g c q sender data poison).mqCounted g c q).token g c (16 + q) 1 := by
  have hstore := StoresOnly.store (.refl s) (s.slotKey g c q (s.f F.COL_MQ_STATE_TAIL g c q) 0) data poison
  have hclk : (s.store (s.slotKey g c q (s.f F.COL_MQ_STATE_TAIL g c q) 0) data poison).clk = s.clk := by
    obtain ⟨m, p, h⟩ := hstore
    rw [h]
  have hslot : (s.store (s.slotKey g c q (s.f F.COL_MQ_STATE_TAIL g c q) 0) data poison).slotKey g c q
      (s.f F.COL_MQ_STATE_TAIL g c q) 0x40 = s.slotKey g c q (s.f F.COL_MQ_STATE_TAIL g c q) 0 + 0x40 := by
    rw [State.slotKey, hstore.f]
    rfl
  have hf key bs := (hstore.write key bs).f
  simp only [State.mqAccept, State.mqStored, State.mqCounted, slotRecord, State.mqSlots, hclk, hslot, hf, Nat.add_right_cancel_iff]

end

section
variable {s : State} {g c q : Nat}

theorem State.mqClosed_eq_false_iff : s.mqClosed g c q = false ↔ QueueOpen s g c q := by
  simp [State.mqClosed, QueueOpen, and_assoc]

theorem State.mqFull_eq_false_iff : s.mqFull g c q = false ↔ QueueRoom s g c q := by
  simp [State.mqFull, State.mqSlots, QueueRoom]

theorem State.mqCounted_mem : (s.mqCounted g c q).mem = s.mem := by
  rw [State.mqCounted, State.addF_eq, State.setF_mem, State.setF_mem]

theorem State.mqCounted_occupied : (s.mqCounted g c q).occupied g c = s.occupied g c := by
  rw [State.mqCounted, State.addF_eq, State.occupied, State.setF_ctx, State.setF_ctx, State.occupied]

/-- A queue with room takes a message of up to 64 B. -/
theorem State.mqAccept_accepted (hopen : QueueOpen s g c q) (hroom : QueueRoom s g c q) (sender : Nat) {data : List Byte}
    (hlen : data.length ≤ 64) (poison : Bool) : Accepted s (s.mqAccept g c q sender data poison) g c q sender data := by
  obtain ⟨-, hocc, -⟩ := hopen
  have hslot : s.slotKey g c q (s.f F.COL_MQ_STATE_TAIL g c q) 0 =
      spadKey g (128 * (s.f F.COL_MQ_CFG_BASE g c q + s.f F.COL_MQ_STATE_TAIL g c q)) := State.slotKey_eq ..
  have hf := (s.mqStored_only g c q sender data poison).f
  have hmem := s.mqStored_mem g c q sender data poison hslot
  have hrecord := slotRecord_length sender data.length s.clk.frame
  have hmax : s.f F.COL_MQ_CFG_SLOTS_M1 g c q < 256 := bits_lt ..
  have hcount : s.f F.COL_MQ_STATE_COUNT g c q ≤ s.f F.COL_MQ_CFG_SLOTS_M1 g c q := hroom
  rw [State.mqAccept_eq]
  have hm : (((s.mqStored g c q sender data poison).mqCounted g c q).token g c (16 + q) 1).mem = _ :=
    (State.token_rest ..).1.trans (State.mqCounted_mem.trans hmem)
  have htok := fun x i j k (hx : x.reg ≠ .CORE_TOKEN) (h : x.reg ∉ faultRegs) =>
    State.token_f ((s.mqStored g c q sender data poison).mqCounted g c q) g c (16 + q) 1 x i j k hx h
  refine ⟨fun i hi => ?_, leNat_slotRecord_sender hm, leNat_slotRecord_len hm (by omega), leNat_slotRecord_frame hm,
    fun a ha => ?_, ?_, ?_, ?_, fun htoken => ?_⟩
  · rw [hm, mem_get_write_other _ _ _ _ (by omega), mem_get_write_same _ _ _ _ hi, List.getD_eq_getElem _ _ hi]
  · rw [hm, mem_get_write_other _ _ _ _ (by omega), mem_get_write_other _ _ _ _ (by omega)]
  · rw [htok _ _ _ _ (by decide) (by decide), State.mqCounted, State.addF_eq, State.f_setF_bits _ _ _ _ _ _ _ _ _ _ (by decide),
      State.f_setF_same _ _ _ _ _ _ (by decide), hf, hf]
    split <;> rfl
  · rw [htok _ _ _ _ (by decide) (by decide), State.mqCounted, State.addF_eq, State.f_setF_same _ _ _ _ _ _ (by decide),
      State.f_setF_bits _ _ _ _ _ _ _ _ _ _ (by decide), hf]
    exact Nat.mod_eq_of_lt (show _ < 512 by omega)
  · rw [htok _ _ _ _ (by decide) (by decide), State.mqCounted, State.addF_eq, State.f_setF_bits _ _ _ _ _ _ _ _ _ _ (by decide),
      State.f_setF_bits _ _ _ _ _ _ _ _ _ _ (by decide), hf]
  · have hcnt : ((s.mqStored g c q sender data poison).mqCounted g c q).f F.CORE_TOKEN_COUNT g c (16 + q) =
        s.f F.CORE_TOKEN_COUNT g c (16 + q) := by
      rw [State.mqCounted, State.addF_eq, State.f_setF_name _ _ _ _ _ _ _ _ _ _ (by decide),
        State.f_setF_name _ _ _ _ _ _ _ _ _ _ (by decide), hf]
    have hthere : ((s.mqStored g c q sender data poison).mqCounted g c q).occupied g c = true := by
      rw [State.mqCounted_occupied, (s.mqStored_only g c q sender data poison).occupied, hocc]
    rw [State.token_counts hthere (by rw [hcnt]; omega), hcnt]

end

/-- What a queue has taken shows in registers and memory. -/
theorem accepted_of_eq {s t u : State} {g c q sender : Nat} {data : List Byte} (h : Accepted s t g c q sender data)
    (hr : u.regs = t.regs) (hm : u.mem = t.mem) : Accepted s u g c q sender data := by
  have hf (x : Fld) (i j k : Nat) : u.f x i j k = t.f x i j k := by rw [State.f, State.f, State.reg, State.reg, hr]
  have hle (key n : Nat) : leNat u key n = leNat t key n := leNat_congr fun i _ => by rw [hm]
  simpa only [Accepted, hf, hle, hm] using h

theorem State.mqAccept_rest (s : State) (g c q sender : Nat) (data : List Byte) (poison : Bool) :
    (s.mqAccept g c q sender data poison).cores = s.cores ∧ (s.mqAccept g c q sender data poison).msgs = s.msgs := by
  obtain ⟨m, p, heq⟩ := s.mqStored_only g c q sender data poison
  rw [State.mqAccept_eq, State.token_frame, State.mqCounted, State.addF_eq, heq]
  exact ⟨rfl, rfl⟩

/-! ### A message offered (R262, R264, R265) -/

/-- The sender's operation learns how its message ended. -/
theorem State.msgAnswer_answered {s u : State} {m : Msg} {o : SOp} (hu : u.cores = s.cores)
    (ho : (s.core m.g).spurq.find? (fun o => o.seq = m.seq) = some o) (status : Nat) :
    ∃ x, ((u.msgAnswer m status).core m.g).spurq.find? (fun o => o.seq = m.seq) = some x ∧
      x.parts.map (fun p => p.rsp) = [some { status := status }] := by
  have hcore : u.core m.g = s.core m.g := by rw [State.core, State.core, hu]
  have hseq (f : SOp → SOp) (hf : ∀ x, (f x).seq = x.seq) :
      (fun x : SOp => decide (x.seq = m.seq)) ∘ f = fun x => decide (x.seq = m.seq) := funext fun x => by simp [hf]
  refine ⟨{ o with parts := [{ loc := .mem 0, off := 0, len := 0, rsp := some { status := status } }] }, ?_, rfl⟩
  rw [State.msgAnswer, State.spurMod_core, hcore, List.find?_map, hseq _ fun x => by split <;> rfl, ho]
  have hsame : o.seq = m.seq := by simpa using List.find?_some ho
  rw [Option.map_some, if_pos hsame]

/-- The answer of a message changes the queue of its sender alone. -/
theorem State.msgAnswer_rest (u : State) (m : Msg) (status : Nat) : (u.msgAnswer m status).msgs = u.msgs ∧
    (u.msgAnswer m status).mem = u.mem ∧ (u.msgAnswer m status).regs = u.regs :=
  ⟨rfl, rfl, rfl⟩

theorem State.msgAnswer_f (u : State) (m : Msg) (status : Nat) (x : Fld) (i j k : Nat) :
    (u.msgAnswer m status).f x i j k = u.f x i j k := rfl

section
variable {s : State} {n : Nat} {m : Msg} {o : SOp} (hm : s.msgs[n]? = some m)
  (ho : (s.core m.g).spurq.find? (fun o => o.seq = m.seq) = some o)
  (hfirst : ∀ q ∈ (s.core m.g).spurq, q.seq < o.seq → q.who.c ≠ o.who.c)
include hm ho hfirst

theorem State.msgOffer_eq : s.msgOffer n =
    if s.mqClosed m.dst m.c m.q then (({ s with msgs := s.msgs.eraseIdx n } : State).mqRefuse m.dst m.c).msgAnswer m 7
    else if s.mqFull m.dst m.c m.q then { s with msgs := modAt s.msgs n (fun m => { m with held := true }) }
    else (({ s with msgs := s.msgs.eraseIdx n } : State).mqAccept m.dst m.c m.q (s.node * 2 ^ 44 + m.g) m.data
      m.poison).msgAnswer m 0 := by
  have holder (past : SOp → Bool) : s.spurOlder m.g o past = false := by
    rw [State.spurOlder, List.any_eq_false]
    intro q hq
    have hother := hfirst q hq
    simp only [Bool.and_eq_true, decide_eq_true_eq]
    exact fun h => hother h.1.1.1 h.1.1.2
  simp only [State.msgOffer, hm, ho, holder, Bool.false_eq_true, if_false]

theorem State.msgOffer_refused (hshut : ¬QueueOpen s m.dst m.c m.q) :
    s.msgOffer n = (({ s with msgs := s.msgs.eraseIdx n } : State).mqRefuse m.dst m.c).msgAnswer m 7 := by
  rw [← State.mqClosed_eq_false_iff, Bool.not_eq_false] at hshut
  rw [State.msgOffer_eq hm ho hfirst, if_pos hshut]

theorem State.msgOffer_held (hopen : QueueOpen s m.dst m.c m.q) (hfull : ¬QueueRoom s m.dst m.c m.q) :
    s.msgOffer n = { s with msgs := modAt s.msgs n (fun m => { m with held := true }) } := by
  rw [← State.mqClosed_eq_false_iff] at hopen
  rw [← State.mqFull_eq_false_iff, Bool.not_eq_false] at hfull
  rw [State.msgOffer_eq hm ho hfirst, hopen, hfull, if_neg (by decide), if_pos rfl]

theorem State.msgOffer_taken (hopen : QueueOpen s m.dst m.c m.q) (hroom : QueueRoom s m.dst m.c m.q) : s.msgOffer n =
    (({ s with msgs := s.msgs.eraseIdx n } : State).mqAccept m.dst m.c m.q (s.node * 2 ^ 44 + m.g) m.data
      m.poison).msgAnswer m 0 := by
  rw [← State.mqClosed_eq_false_iff] at hopen
  rw [← State.mqFull_eq_false_iff] at hroom
  rw [State.msgOffer_eq hm ho hfirst, hopen, hroom, if_neg (by decide), if_neg (by decide)]

theorem State.msgOffer_accepted (hlen : m.data.length ≤ 64) (hopen : QueueOpen s m.dst m.c m.q)
    (hroom : QueueRoom s m.dst m.c m.q) :
    Accepted s (s.msgOffer n) m.dst m.c m.q (s.node * 2 ^ 44 + m.g) m.data ∧ (s.msgOffer n).msgs = s.msgs.eraseIdx n ∧
    ∃ x, ((s.msgOffer n).core m.g).spurq.find? (fun o => o.seq = m.seq) = some x ∧
      x.parts.map (fun p => p.rsp) = [some { status := 0 }] := by
  rw [State.msgOffer_taken hm ho hfirst hopen hroom]
  set w := ({ s with msgs := s.msgs.eraseIdx n } : State).mqAccept m.dst m.c m.q (s.node * 2 ^ 44 + m.g) m.data m.poison with hw
  have hacc : Accepted s w m.dst m.c m.q (s.node * 2 ^ 44 + m.g) m.data :=
    State.mqAccept_accepted (s := { s with msgs := s.msgs.eraseIdx n }) hopen hroom _ hlen _
  obtain ⟨hcores, hmsgs⟩ : w.cores = s.cores ∧ w.msgs = s.msgs.eraseIdx n :=
    State.mqAccept_rest { s with msgs := s.msgs.eraseIdx n } ..
  obtain ⟨hmsgs', hmem, hregs⟩ := w.msgAnswer_rest m 0
  exact ⟨accepted_of_eq hacc hregs hmem, hmsgs'.trans hmsgs, State.msgAnswer_answered hcores ho 0⟩

end

theorem getElem?_modAt_same {α : Type} {l : List α} {n : Nat} {a : α} (h : l[n]? = some a) (f : α → α) :
    (modAt l n f)[n]? = some (f a) := by
  induction l generalizing n with
  | nil => cases h
  | cons x xs ih =>
    cases n with
    | zero =>
      obtain rfl : x = a := Option.some_inj.mp h
      rfl
    | succ n => exact ih h

section
variable (s : State) (g c : Nat)

theorem State.mqRefuse_rest :
    (s.mqRefuse g c).cores = s.cores ∧ (s.mqRefuse g c).msgs = s.msgs ∧ (s.mqRefuse g c).mem = s.mem := by
  rw [State.mqRefuse, State.event_cores, State.event_msgs, State.event_mem]
  exact ⟨rfl, rfl, rfl⟩

theorem State.mqRefuse_count : (s.mqRefuse g c).f F.COL_MQ_REFUSED_COUNT g c =
    (s.f F.COL_MQ_REFUSED_COUNT g c + 1) % 2 ^ F.COL_MQ_REFUSED_COUNT.len := by
  rw [State.mqRefuse, State.f_event_name _ _ _ _ _ _ _ _ _ (by decide), State.addF_eq, State.f_setF_same _ _ _ _ _ _ (by decide)]

theorem State.mqRefuse_event (h : c < 4) : bitN ((s.mqRefuse g c).f F.COL_EVENT_MSG_REFUSED) c = true :=
  State.event_set _ _ _ _ _ (by decide) h

end

/-! ### A held message offered again, and the configuration -/

/-- The only message, held at a queue with room, is the one offered. -/
theorem execMessageReoffer_only {s : State} {g c q : Nat} {m : Msg} (hm : s.msgs = [m]) (hheld : m.held = true)
    (hdst : m.dst = g) (hc : m.c = c) (hq : m.q = q) (hroom : QueueRoom s g c q) :
    exec (.messageReoffer g c q) s = .next (s.msgOffer 0) := by
  rw [← State.mqFull_eq_false_iff] at hroom
  change execMessageReoffer g c q s = _
  rw [execMessageReoffer, hroom, if_neg (by decide), hm]
  simp [firstFrom, hheld, hdst, hc, hq]

theorem execMessageReoffer_full {s : State} {g c q : Nat} (hfull : ¬QueueRoom s g c q) :
    exec (.messageReoffer g c q) s = .next s := by
  rw [← State.mqFull_eq_false_iff, Bool.not_eq_false] at hfull
  exact if_pos hfull

/-- What a write of a queue's configuration makes of BASE, SLOTS_M1 and the queue's state: nothing but while it is free. -/
def State.mqPlaced (s : State) (g c q : Nat) (v : Word) : State :=
  if !s.fb F.COL_MQ_CFG_ENABLE g c q && s.f F.COL_MQ_STATE_COUNT g c q == 0 then
    ((s.setF F.COL_MQ_CFG_SLOTS_M1 (bits v 8 8) g c q).setF F.COL_MQ_CFG_BASE (bits v 16 16) g c q).setReg
      ⟨.COL_MQ_STATE, g, c, q⟩ 0
  else s

/-- The whole ring lies in the context's window. -/
abbrev State.mqInside (s : State) (g c q : Nat) : Prop :=
  65536 * s.f F.PLC_WIN_BASE c ≤ 128 * s.f F.COL_MQ_CFG_BASE g c q ∧
  128 * s.f F.COL_MQ_CFG_BASE g c q + 128 * (s.f F.COL_MQ_CFG_SLOTS_M1 g c q + 1) ≤
    65536 * s.f F.PLC_WIN_BASE c + 65536 * s.f F.PLC_WIN_SIZE c

section
variable (s : State) (g c q : Nat) (v : Word)

/-- The queue's registers after the write: ENABLE holds only where the ring lies in the window (R261). -/
def State.mqWritten : State := (s.mqPlaced g c q v).setF F.COL_MQ_CFG_ENABLE
  (if v.toNat % 2 = 1 ∧ (s.mqPlaced g c q v).mqInside g c q then 1 else 0) g c q

theorem execColMqCfgWrite_eq : exec (.colMqCfgWrite g c q v) s = .next (s.mqWritten g c q v) := by
  change execColMqCfgWrite g c q v s = _
  simp only [execColMqCfgWrite]
  congr 2
  simp [bits_low, State.mqInside, State.mqPlaced, State.mqSlots, Nat.mul_comm]

theorem State.mqPlaced_rest : s.mqPlaced g c q v = { s with regs := (s.mqPlaced g c q v).regs } := by
  unfold State.mqPlaced
  split <;> rfl

theorem State.mqPlaced_reg {r : Reg} (hcfg : r ≠ ⟨.COL_MQ_CFG, g, c, q⟩) (hstate : r ≠ ⟨.COL_MQ_STATE, g, c, q⟩) :
    (s.mqPlaced g c q v).reg r = s.reg r := by
  unfold State.mqPlaced
  split
  · rw [State.reg_setReg_other _ _ hstate, State.reg_setF_other _ _ _ _ _ _ hcfg, State.reg_setF_other _ _ _ _ _ _ hcfg]
  · rfl

theorem State.mqPlaced_held (h : ¬(s.fb F.COL_MQ_CFG_ENABLE g c q = false ∧ s.f F.COL_MQ_STATE_COUNT g c q = 0)) :
    s.mqPlaced g c q v = s :=
  if_neg (by simpa using h)

theorem State.mqPlaced_free (h : s.fb F.COL_MQ_CFG_ENABLE g c q = false ∧ s.f F.COL_MQ_STATE_COUNT g c q = 0) :
    (s.mqPlaced g c q v).f F.COL_MQ_CFG_SLOTS_M1 g c q = v.toNat / 2 ^ 8 % 256 ∧
    (s.mqPlaced g c q v).f F.COL_MQ_CFG_BASE g c q = v.toNat / 2 ^ 16 % 65536 ∧
    (s.mqPlaced g c q v).reg ⟨.COL_MQ_STATE, g, c, q⟩ = 0 := by
  rw [State.mqPlaced, if_pos (by simpa using h)]
  refine ⟨?_, ?_, State.reg_setReg_same ..⟩
  · rw [State.f_setReg_name _ _ _ _ _ _ (by decide), State.f_setF_bits _ _ _ _ _ _ _ _ _ _ (by decide),
      State.f_setF_same _ _ _ _ _ _ (by decide)]
    exact Nat.mod_mod ..
  · rw [State.f_setReg_name _ _ _ _ _ _ (by decide), State.f_setF_same _ _ _ _ _ _ (by decide)]
    exact Nat.mod_mod ..

theorem State.mqPlaced_win (x : Fld) (hx : x.reg ≠ .COL_MQ_CFG ∧ x.reg ≠ .COL_MQ_STATE) (i : Nat) :
    (s.mqPlaced g c q v).f x i = s.f x i := by
  rw [State.f, s.mqPlaced_reg g c q v (fun e => hx.1 (congrArg Reg.name e)) (fun e => hx.2 (congrArg Reg.name e)), State.f]

theorem State.mqWritten_rest : s.mqWritten g c q v = { s with regs := (s.mqWritten g c q v).regs } := by
  rw [State.mqWritten, s.mqPlaced_rest]
  rfl

theorem State.mqWritten_f (x : Fld) (i j k : Nat) (hx : F.COL_MQ_CFG_ENABLE.Apart x) :
    (s.mqWritten g c q v).f x i j k = (s.mqPlaced g c q v).f x i j k :=
  hx.elim (State.f_setF_name _ _ _ _ _ _ _ _ _ _) (State.f_setF_bits _ _ _ _ _ _ _ _ _ _)

theorem State.mqWritten_reg {r : Reg} (hr : r ≠ ⟨.COL_MQ_CFG, g, c, q⟩) :
    (s.mqWritten g c q v).reg r = (s.mqPlaced g c q v).reg r :=
  State.reg_setF_other _ _ _ _ _ _ hr

theorem State.mqWritten_enable : (s.mqWritten g c q v).fb F.COL_MQ_CFG_ENABLE g c q = true ↔
    v.toNat % 2 = 1 ∧ (s.mqPlaced g c q v).mqInside g c q := by
  rw [State.mqWritten]
  split
  next h => exact iff_of_true (State.fb_setF_one _ _ _ _ _ (by decide) rfl) h
  next h => exact iff_of_false (by rw [State.fb_setF_zero _ _ _ _ _ (by decide)]; decide) h

end

/-- Settles O31: a message by its queue open, full or shut, and a configuration by whether its queue is free. -/
theorem messagesFillReceiveQueues : Obligations.MessagesFillReceiveQueues := by
  refine ⟨fun s n m o hm ho hfirst hlen => ⟨_, rfl, ?_, ?_, ?_⟩, fun s g c q m o hm hheld hdst hc hq hops hseq hlen => ?_,
    fun s g c q v => ?_⟩
  · intro hopen hroom
    exact State.msgOffer_accepted hm ho hfirst hlen hopen hroom
  · intro hopen hfull
    rw [State.msgOffer_held hm ho hfirst hopen hfull]
    exact ⟨rfl, getElem?_modAt_same hm _⟩
  · intro hshut
    rw [State.msgOffer_refused hm ho hfirst hshut]
    obtain ⟨hcores, hmsgs, hmem⟩ := State.mqRefuse_rest { s with msgs := s.msgs.eraseIdx n } m.dst m.c
    obtain ⟨hmsgs', hmem', -⟩ := State.msgAnswer_rest (({ s with msgs := s.msgs.eraseIdx n } : State).mqRefuse m.dst m.c) m 7
    refine ⟨⟨hmsgs'.trans hmsgs, State.msgAnswer_answered hcores ho 7⟩, hmem'.trans hmem, ?_, fun hc => ?_⟩
    · exact (State.msgAnswer_f ..).trans (State.mqRefuse_count ..)
    · rw [State.msgAnswer_f]
      exact State.mqRefuse_event _ _ _ hc
  · by_cases hroom : QueueRoom s g c q
    · refine ⟨_, execMessageReoffer_only hm hheld hdst hc hq hroom, fun h => absurd hroom h, fun hopen _ => ?_⟩
      subst hdst hc hq
      obtain ⟨hacc, hmsgs, -⟩ := State.msgOffer_accepted (n := 0) (m := m) (o := o) (by rw [hm]; rfl) (by simp [hops, hseq])
        (by simp [hops]) hlen hopen hroom
      exact ⟨hacc, hmsgs.trans (by rw [hm]; rfl)⟩
    · exact ⟨s, execMessageReoffer_full hroom, fun _ => rfl, fun _ h => absurd h hroom⟩
  · refine ⟨_, execColMqCfgWrite_eq .., s.mqWritten_rest g c q v, ?_⟩
    have hplace := s.mqWritten_f g c q v
    refine ⟨fun hfree => ?_, fun hheld => ?_, ?_, fun r hcfg hstate => ?_⟩
    · rw [hplace _ _ _ _ (by decide), hplace _ _ _ _ (by decide), s.mqWritten_reg _ _ _ _ (by simp)]
      exact s.mqPlaced_free g c q v hfree
    · rw [hplace _ _ _ _ (by decide), hplace _ _ _ _ (by decide), s.mqWritten_reg _ _ _ _ (by simp), s.mqPlaced_held g c q v hheld]
      exact ⟨rfl, rfl, rfl⟩
    · rw [s.mqWritten_enable, hplace _ _ _ _ (by decide), hplace _ _ _ _ (by decide), State.mqInside,
        s.mqPlaced_win g c q v F.PLC_WIN_BASE (by decide), s.mqPlaced_win g c q v F.PLC_WIN_SIZE (by decide)]
    · rw [s.mqWritten_reg _ _ _ _ hcfg, s.mqPlaced_reg g c q v hcfg hstate]

end Sys2Proof.Machine
end

section
namespace Sys2Proof.Machine

open Sys2Proof.Claims

/-! PROOFS. ColsEnterAndRead. -/

/-! ### Scope and room (R267, R270) -/

theorem colScope_iff (k g : Nat) :
    colScope k g = true ↔ (k < 512 → g / 8 = k / 16) ∧ (512 ≤ k → k < 768 → g / 128 = (k - 512) / 128) := by
  unfold colScope
  split
  next h => simp [h, Nat.not_le.mpr h]
  next h =>
    split
    next h' => simp [h, h', Nat.not_lt.mp h]
    next h' => simp [h, h']

section
variable {s : State} {g c id : Nat}

theorem State.colOk_iff {kind : Nat} : s.colOk g c id kind = true ↔ ColKnown s g c id kind := by
  simp [State.colOk, ColKnown, colScope_iff, and_assoc]

theorem State.outstanding_eq (s : State) (g c id : Nat) :
    s.outstanding g c id = (s.waitsOf g c).countP (fun e => decide (e.id = id)) :=
  List.countP_eq_length_filter.symm

theorem State.colRoom_iff : s.colRoom g c id = true ↔ ColRoom s g c id := by
  simp [State.colRoom, ColRoom, State.outstanding_eq, and_assoc]

/-! ### An entry made (R270) -/

variable (waiter : Waiter) (flag : Bool)

/-- An entry made changes the wait table, the round tag and the entries on their way. -/
theorem State.colSend_rest (s : State) : s.colSend g c id waiter flag =
    { s with waits := (s.colSend g c id waiter flag).waits, tags := (s.colSend g c id waiter flag).tags,
             colEnts := (s.colSend g c id waiter flag).colEnts } := rfl

theorem State.colSend_entered (s : State) : Entered s (s.colSend g c id waiter flag) g c id waiter flag :=
  ⟨SMap.get_set_same _ _ _ _ _, SMap.get_set_same _ _ _ _ _, rfl⟩

end

/-- An entry shows in the wait tables, the round tags and the entries on their way. -/
theorem entered_of_eq {s t u : State} {g c id : Nat} {w : Waiter} {flag : Bool} (h : Entered s t g c id w flag)
    (hw : u.waits = t.waits) (ht : u.tags = t.tags) (he : u.colEnts = t.colEnts) : Entered s u g c id w flag := by
  have hwaits : u.waitsOf g c = t.waitsOf g c := by rw [State.waitsOf, State.waitsOf, hw]
  have htag : u.colTag g c id = t.colTag g c id := by rw [State.colTag, State.colTag, ht]
  simpa only [Entered, hwaits, htag, he] using h

theorem State.OnlyStrand.entered {s v t : State} {g c k g' c' id : Nat} {w : Waiter} {flag : Bool} (h : v.OnlyStrand t g c k)
    (he : Entered s v g' c' id w flag) : Entered s t g' c' id w flag :=
  entered_of_eq he (congrArg State.waits h.rest :) (congrArg State.tags h.rest :) (congrArg State.colEnts h.rest :)

/-! ### COLE and COLW -/

/-- An entry that stalls, and its strand, which it holds. -/
def State.colStalled (s : State) (g c k id : Nat) (w : Waiter) : State :=
  (s.colStall g ⟨c, id, w, false, k, (s.strand g c k).fid⟩).setStrand g c k { s.strand g c k with held := true }

theorem State.colStalled_spec (s : State) (g c k id : Nat) (w : Waiter) :
    let t := s.colStalled g c k id w
    (t.core g).stalls = (s.core g).stalls ++ [{ c := c, id := id, waiter := w, flag := false, k := k, fid := (s.strand g c k).fid }] ∧
    t.strand g c k = { s.strand g c k with held := true } ∧ t.colEnts = s.colEnts ∧ t.waitsOf g c = s.waitsOf g c ∧
    t.mem = s.mem :=
  ⟨congrArg Core.stalls (State.core_setCore_same ..), State.strand_setStrand_same .., rfl, rfl, rfl⟩

section
variable {s : State} {g c k : Nat} {op : Op} {d : Dec} (h : s.At g c k op d) (waiter : Dec → Strand → Waiter) (holds : Bool)
include h

theorem State.colIssue_unknown (hno : ¬ColKnown s g c d.id12 0) :
    s.colIssue g c k op waiter holds = s.raise g c k 0x0C := by
  rw [← State.colOk_iff, Bool.not_eq_true] at hno
  simp [State.colIssue, State.issue_of_at h, hno]

theorem State.colIssue_enters (hk : ColKnown s g c d.id12 0) (hr : ColRoom s g c d.id12) :
    let v := s.colSend g c d.id12 (waiter d (s.strand g c k)) false
    s.colIssue g c k op waiter holds = if holds then (v.setStrand g c k { s.strand g c k with held := true }).issued g c k
      else v.retire g c k (s.strand g c k) := by
  rw [← State.colOk_iff] at hk
  rw [← State.colRoom_iff] at hr
  simp [State.colIssue, State.issue_of_at h, hk, hr]

theorem State.colIssue_stalls (hk : ColKnown s g c d.id12 0) (hr : ¬ColRoom s g c d.id12) :
    s.colIssue g c k op waiter holds = s.colStalled g c k d.id12 (waiter d (s.strand g c k)) := by
  rw [← State.colOk_iff] at hk
  rw [← State.colRoom_iff, Bool.not_eq_true] at hr
  simp [State.colIssue, State.issue_of_at h, hk, hr, State.colStalled]

end

/-- An entry made, where the strand then goes on. -/
theorem State.colSend_passes (s : State) (g c k id : Nat) (w : Waiter) (flag : Bool) :
    let v := s.colSend g c id w flag
    let t := v.retire g c k (s.strand g c k)
    Entered s t g c id w flag ∧ v.Passes t g c k := by
  intro v t
  have hp : v.Passes t g c k := State.retire_passes_of (s := s) rfl
  exact ⟨hp.frame.entered (s.colSend_entered w flag), hp⟩

/-- An entry made, where the strand is held. -/
theorem State.colSend_holds (s : State) (g c k id : Nat) (w : Waiter) (flag : Bool) :
    let v := s.colSend g c id w flag
    let t := (v.setStrand g c k { s.strand g c k with held := true }).issued g c k
    Entered s t g c id w flag ∧ t.strand g c k = { s.strand g c k with held := true } ∧ v.OnlyStrand t g c k := by
  intro v t
  have ho : v.OnlyStrand t g c k := v.issued_only g c k _
  exact ⟨ho.entered (s.colSend_entered w flag), by simp [t], ho⟩

theorem State.colWord_eq (s : State) (g c id : Nat) : s.colWord g c id = BitVec.ofNat 64
    ((s.colTag g c id).tag + 4 * (s.waitsOf g c).countP (fun e => decide (e.id = id)) + 16 * (s.colTag g c id).lastTag +
      (if (s.colTag g c id).lastFlag = true then 64 else 0) + 128 * s.f F.COL_XLATE_KIND c id) := by
  rw [State.colWord, State.outstanding_eq, Bool.toNat_eq_ite, mul_ite, Nat.mul_one, Nat.mul_zero]

theorem execColr_unknown {s : State} {g c k : Nat} {d : Dec} (h : s.At g c k .colr d)
    (hno : ¬ColKnown s g c d.id12 (s.f F.COL_XLATE_KIND c d.id12)) : exec (.colr g c k) s = .next (s.raise g c k 0x0C) := by
  rw [← State.colOk_iff, Bool.not_eq_true] at hno
  refine congrArg Host.Outcome.next ?_
  rw [State.issue_of_at h, hno]
  rfl

theorem execColr_reads {s : State} {g c k : Nat} {d : Dec} (h : s.At g c k .colr d)
    (hk : ColKnown s g c d.id12 (s.f F.COL_XLATE_KIND c d.id12)) :
    exec (.colr g c k) s = .next (s.retireB g c k d.rd (s.colWord g c d.id12) 4) := by
  rw [← State.colOk_iff] at hk
  refine congrArg Host.Outcome.next ?_
  rw [State.issue_of_at h, hk]
  rfl

/-! ### A stalled entry sent (R270) -/

/-- The first stalled entry is made. -/
def State.stallSent (s : State) (g : Nat) (e : Stall) (rest : List Stall) : State :=
  (s.setCore g { s.core g with stalls := rest }).colSend g e.c e.id e.waiter e.flag

section
variable {s : State} {g : Nat} {e : Stall} {rest : List Stall}

theorem State.stallSent_entered : Entered s (s.stallSent g e rest) g e.c e.id e.waiter e.flag :=
  State.colSend_entered e.waiter e.flag (s.setCore g { s.core g with stalls := rest })

theorem State.stallSent_stalls : ((s.stallSent g e rest).core g).stalls = rest :=
  congrArg Core.stalls (State.core_setCore_same ..)

variable (hs : (s.core g).stalls = e :: rest) (hh : s.halted e.c = false)
  (hc : (s.waitsOf g e.c).countP (fun w => decide (w.id = e.id)) < 2) (hl : (s.waitsOf g e.c).length < 32)
include hs hh hc hl

theorem State.stallSend_eq : s.stallSend g 0 = match e.waiter with
    | .token _ =>
      if (s.strand g e.c e.k).exec && (s.strand g e.c e.k).held && (s.strand g e.c e.k).fid == e.fid then
        ((s.stallSent g e rest).setStrand g e.c e.k
          { s.strand g e.c e.k with held := false, pc := (s.strand g e.c e.k).pc + 1 }).issued g e.c e.k
      else s.stallSent g e rest
    | _ => (s.stallSent g e rest).progress g e.c := by
  have hout : s.outstanding g e.c e.id < 2 := by rwa [State.outstanding_eq]
  simp only [State.stallSend, hs, List.getElem?_cons_zero, List.take_zero, List.any_nil, hh, hout, hl]
  rfl

end

/-- Where only the strand has gone on after the entry: the entry, the memory and the stalled entries left. -/
theorem State.stallSent_after {s t : State} {g k : Nat} {e : Stall} {rest : List Stall}
    (h : (s.stallSent g e rest).OnlyStrand t g e.c k) :
    t.mem = s.mem ∧ (t.core g).stalls = rest ∧ Entered s t g e.c e.id e.waiter e.flag :=
  ⟨h.mem, (congrArg Core.stalls h.core).trans State.stallSent_stalls, h.entered State.stallSent_entered⟩

/-- The strand that made a COLE entry goes on past it. -/
theorem State.stallSent_goes_on (s : State) (g k : Nat) (e : Stall) (rest : List Stall) (u : Strand) :
    let t := ((s.stallSent g e rest).setStrand g e.c k u).issued g e.c k
    (t.mem = s.mem ∧ (t.core g).stalls = rest ∧ Entered s t g e.c e.id e.waiter e.flag) ∧ t.strand g e.c k = u :=
  ⟨State.stallSent_after ((s.stallSent g e rest).issued_only g e.c k u), by simp⟩

/-- The entry made, with no strand that goes on. -/
theorem State.stallSent_spec (s : State) (g : Nat) (e : Stall) (rest : List Stall) :
    let t := s.stallSent g e rest
    t.mem = s.mem ∧ (t.core g).stalls = rest ∧ Entered s t g e.c e.id e.waiter e.flag :=
  ⟨rfl, State.stallSent_stalls, State.stallSent_entered⟩

theorem State.stallSent_progress (s : State) (g : Nat) (e : Stall) (rest : List Stall) :
    let t := (s.stallSent g e rest).progress g e.c
    (t.mem = s.mem ∧ (t.core g).stalls = rest ∧ Entered s t g e.c e.id e.waiter e.flag) ∧
    t.strand g e.c e.k = s.strand g e.c e.k := by
  obtain ⟨hmem, hstalls, hent⟩ := s.stallSent_spec g e rest
  have hent' : Entered s ((s.stallSent g e rest).progress g e.c) g e.c e.id e.waiter e.flag :=
    entered_of_eq hent (State.progress_waits ..) (State.progress_tags ..) (State.progress_colEnts ..)
  exact ⟨⟨(State.progress_mem ..).trans hmem, (congrArg Core.stalls (State.progress_core ..)).trans hstalls, hent'⟩,
    State.progress_strand ..⟩

/-- Settles O32: COLE and COLW by the identifier and the room they find, COLR by the identifier, a stalled entry by who waits. -/
theorem colsEnterAndRead : Obligations.ColsEnterAndRead := by
  refine ⟨?_, ?_⟩
  · intro s g c k d u id x stalled
    refine ⟨fun h => ?_, fun h => ?_, fun h => ?_⟩
    · refine ⟨s.colIssue g c k .cole (fun d _ => .token (d.field 25 2)) false, rfl, ?_, ?_, ?_⟩
      · intro hno
        rw [State.colIssue_unknown h _ _ hno]
        exact s.raise_faults ..
      · intro hk hr
        rw [State.colIssue_enters h _ _ hk hr]
        obtain ⟨hent, hpass⟩ := s.colSend_passes g c k id (.token (d.field 25 2)) false
        exact ⟨hent, _, s.colSend_rest .., hpass⟩
      · intro hk hr
        rw [State.colIssue_stalls h _ _ hk hr]
        exact s.colStalled_spec ..
    · refine ⟨s.colIssue g c k .colw (fun _ u => .strand k u.fid) true, rfl, ?_, ?_, ?_⟩
      · intro hno
        rw [State.colIssue_unknown h _ _ hno]
        exact s.raise_faults ..
      · intro hk hr
        rw [State.colIssue_enters h _ _ hk hr]
        obtain ⟨hent, hstrand, honly⟩ := s.colSend_holds g c k id (.strand k u.fid) false
        exact ⟨hent, hstrand, _, s.colSend_rest .., honly⟩
      · intro hk hr
        rw [State.colIssue_stalls h _ _ hk hr]
        exact s.colStalled_spec ..
    · by_cases hk : ColKnown s g c id (s.f F.COL_XLATE_KIND c id)
      · refine ⟨_, execColr_reads h hk, fun hno => absurd hk hno, fun _ => ?_⟩
        rw [State.colWord_eq]
        exact s.retireB_retires ..
      · exact ⟨_, execColr_unknown h hk, fun _ => s.raise_faults .., fun h => absurd h hk⟩
  · intro s g e rest hs hh hc hl
    refine ⟨s.stallSend g 0, rfl, ?_⟩
    rw [State.stallSend_eq hs hh hc hl]
    cases hw : e.waiter with
    | token slot =>
      by_cases hgo : ((s.strand g e.c e.k).exec && (s.strand g e.c e.k).held && (s.strand g e.c e.k).fid == e.fid) = true
      · simp only [hgo, if_true]
        obtain ⟨⟨hmem, hstalls, hent⟩, hstrand⟩ := s.stallSent_goes_on g e.k e rest
          { s.strand g e.c e.k with held := false, pc := (s.strand g e.c e.k).pc + 1 }
        rw [hw] at hent
        exact ⟨hmem, hstalls, hent, fun _ _ _ _ _ => hstrand, nofun⟩
      · simp only [hgo]
        obtain ⟨hmem, hstalls, hent⟩ := s.stallSent_spec g e rest
        rw [hw] at hent
        exact ⟨hmem, hstalls, hent, fun _ _ hexec hheld hfid => absurd (by simp [hexec, hheld, hfid]) hgo, nofun⟩
    | strand k f =>
      obtain ⟨⟨hmem, hstalls, hent⟩, hstrand⟩ := s.stallSent_progress g e rest
      rw [hw] at hent
      exact ⟨hmem, hstalls, hent, nofun, fun _ _ _ => hstrand⟩
    | _ =>
      obtain ⟨⟨hmem, hstalls, hent⟩, -⟩ := s.stallSent_progress g e rest
      rw [hw] at hent
      exact ⟨hmem, hstalls, hent, nofun, nofun⟩

end Sys2Proof.Machine
end

section
namespace Sys2Proof.Machine

open Sys2Proof.Claims

/-! PROOFS. ColsCountAndRelease. -/

/-! ### What counting an entry leaves -/

/-- t differs from s in the counters' states and the step states. -/
structure CountOnly (s t : State) : Prop where
  mem : t.mem = s.mem
  colEnts : t.colEnts = s.colEnts
  colRels : t.colRels = s.colRels
  field : ∀ x : Fld, x.reg ∉ [RegName.COL_CTR_STATE, .TRN_STEP_STATE] → ∀ i j, t.f x i j = s.f x i j
  listed : ∀ n, n ∉ [RegName.COL_CTR_STATE, .TRN_STEP_STATE] → t.listed n = s.listed n

namespace CountOnly

variable {s t u : State}

theorem setF (x : Fld) (v i : Nat) (hx : x.reg ∈ [RegName.COL_CTR_STATE, .TRN_STEP_STATE]) : CountOnly s (s.setF x v i) where
  mem := rfl
  colEnts := rfl
  colRels := rfl
  field := fun _ hy _ _ => s.f_setF_name _ _ _ _ _ _ _ _ _ (fun h => hy (h ▸ hx))
  listed := fun _ hn => s.listed_setF _ _ _ _ (fun h => hn (h ▸ hx))

theorem trans (h : CountOnly s t) (h' : CountOnly t u) : CountOnly s u where
  mem := h'.mem.trans h.mem
  colEnts := h'.colEnts.trans h.colEnts
  colRels := h'.colRels.trans h.colRels
  field := fun x hx i j => (h'.field x hx i j).trans (h.field x hx i j)
  listed := fun n hn => (h'.listed n hn).trans (h.listed n hn)

theorem refl (s : State) : CountOnly s s := ⟨rfl, rfl, rfl, fun _ _ _ _ => rfl, fun _ _ => rfl⟩

theorem fb (h : CountOnly s t) (x : Fld) (hx : x.reg ∉ [RegName.COL_CTR_STATE, .TRN_STEP_STATE]) (i j : Nat) :
    t.fb x i j = s.fb x i j := by
  rw [State.fb, State.fb, h.field x hx]

theorem colName (h : CountOnly s t) (k : Nat) : t.colName k = s.colName k := by
  unfold State.colName
  rw [h.listed .COL_XLATE (by decide)]
  simp only [h.field F.COL_XLATE_PHYS (by decide), h.fb F.COL_XLATE_VALID (by decide)]

theorem scopeCores (h : CountOnly s t) (k : Nat) : t.scopeCores k = s.scopeCores k := by
  unfold State.scopeCores State.coreList
  congr 2
  funext g
  rw [State.coreOk, State.coreOk, h.field F.BIST_REPAIR_ACTIVE (by decide)]

end CountOnly

/-- A vote's arrival is marked in the step's state alone. -/
theorem State.roundVoted_eq (s : State) (e : ColEnt) : s.roundVoted e = s ∨ ∃ c, s.roundVoted e = s.setF F.TRN_STEP_STATE_VOTED 1 c := by
  unfold State.roundVoted
  split
  · exact .inl rfl
  · extract_lets st round count
    split
    · exact .inr ⟨_, rfl⟩
    · exact .inl rfl

theorem State.roundVoted_only (s : State) (e : ColEnt) : CountOnly s (s.roundVoted e) := by
  obtain h | ⟨c, h⟩ := s.roundVoted_eq e
  · rw [h]; exact .refl s
  · rw [h]; exact .setF _ _ _ (by decide)

theorem State.roundVoted_f (s : State) (e : ColEnt) (x : Fld) (hx : x.reg ≠ .TRN_STEP_STATE) (i : Nat) :
    (s.roundVoted e).f x i = s.f x i := by
  obtain h | ⟨c, h⟩ := s.roundVoted_eq e
  · rw [h]
  · rw [h, State.f_setF_name _ _ _ _ _ _ _ _ _ _ hx]

theorem State.roundVoted_fb (s : State) (e : ColEnt) (x : Fld) (hx : x.reg ≠ .TRN_STEP_STATE) (i : Nat) :
    (s.roundVoted e).fb x i = s.fb x i := by
  rw [State.fb, State.fb, s.roundVoted_f e x hx]

/-! ### An entry counted (R271) -/

/-- An entry counted in field x, with its flag in field y. -/
def State.ctrCounted (s : State) (x y : Fld) (k : Nat) (flag : Bool) : State :=
  let v := s.setF x (s.f x k + 1) k
  if flag then v.setF y 1 k else v

theorem State.colOnEntry_eq (s : State) (k r : Nat) (flag : Bool) : s.colOnEntry k r flag =
    if r = s.f F.COL_CTR_STATE_ROUND k % 4 then
      State.colCheck 3 k (s.ctrCounted F.COL_CTR_STATE_C0 F.COL_CTR_STATE_F0 k flag)
    else if r = (s.f F.COL_CTR_STATE_ROUND k + 1) % 4 then
      State.colCheck 3 k (s.ctrCounted F.COL_CTR_STATE_C1 F.COL_CTR_STATE_F1 k flag)
    else s.colProto k 1 := rfl

section
variable (s : State) (x y : Fld) (k : Nat) (flag : Bool)

theorem State.ctrCounted_only (hx : x.reg = .COL_CTR_STATE) (hy : y.reg = .COL_CTR_STATE) :
    CountOnly s (s.ctrCounted x y k flag) := by
  have hc : CountOnly s (s.setF x (s.f x k + 1) k) := .setF _ _ _ (by simp [hx])
  cases flag
  · exact hc
  · exact hc.trans (.setF _ _ _ (by simp [hy]))

theorem State.ctrCounted_other (z : Fld) (hx : z.lo + z.len ≤ x.lo ∨ x.lo + x.len ≤ z.lo)
    (hy : z.lo + z.len ≤ y.lo ∨ y.lo + y.len ≤ z.lo) : (s.ctrCounted x y k flag).f z k = s.f z k := by
  have hc := s.f_setF_bits x z (s.f x k + 1) k 0 0 k 0 0 hx
  cases flag
  · exact hc
  · exact (State.f_setF_bits _ _ _ _ _ _ _ _ _ _ hy).trans hc

theorem State.ctrCounted_other_fb (z : Fld) (hx : z.lo + z.len ≤ x.lo ∨ x.lo + x.len ≤ z.lo)
    (hy : z.lo + z.len ≤ y.lo ∨ y.lo + y.len ≤ z.lo) : (s.ctrCounted x y k flag).fb z k = s.fb z k := by
  rw [State.fb, State.fb, s.ctrCounted_other x y k flag z hx hy]

theorem State.ctrCounted_count (h : x.lo + x.len ≤ 64) (hxy : x.lo + x.len ≤ y.lo ∨ y.lo + y.len ≤ x.lo)
    (hlt : s.f x k + 1 < 2 ^ x.len) : (s.ctrCounted x y k flag).f x k = s.f x k + 1 := by
  have hc := (s.f_setF_same x (s.f x k + 1) k 0 0 h).trans (Nat.mod_eq_of_lt hlt)
  cases flag
  · exact hc
  · exact (State.f_setF_bits _ _ _ _ _ _ _ _ _ _ hxy).trans hc

theorem State.ctrCounted_flag (h : y.lo + y.len ≤ 64) (h1 : y.len = 1) (hxy : y.lo + y.len ≤ x.lo ∨ x.lo + x.len ≤ y.lo) :
    (s.ctrCounted x y k flag).fb y k = (s.fb y k || flag) := by
  cases flag
  · rw [Bool.or_false]
    exact s.fb_setF_bits x y _ k 0 0 k 0 0 hxy
  · rw [Bool.or_true]
    exact State.fb_setF_one _ _ _ _ _ h h1

end

/-! ### The check of a counter of one module (R271) -/

section
variable {s : State} {k : Nat}

theorem State.colCheck_home (n : Nat) (hx : s.fb F.COL_CTR_CFG_XMOD k = false) : State.colCheck (n + 1) k s =
    if s.f F.COL_CTR_STATE_C0 k = s.f F.COL_CTR_CFG_COUNT k ∧ s.fb F.COL_CTR_STATE_DONE0 k = false then
      State.colCheck n k (s.colRelease k (s.f F.COL_CTR_STATE_ROUND k) (s.fb F.COL_CTR_STATE_F0 k))
    else s := by
  by_cases h : s.f F.COL_CTR_STATE_C0 k = s.f F.COL_CTR_CFG_COUNT k ∧ s.fb F.COL_CTR_STATE_DONE0 k = false <;>
    simp [State.colCheck, hx, h]

/-- A round that lacks entries stays. -/
theorem State.colCheck_waits (n : Nat) (hx : s.fb F.COL_CTR_CFG_XMOD k = false)
    (h0 : s.f F.COL_CTR_STATE_C0 k ≠ s.f F.COL_CTR_CFG_COUNT k) : State.colCheck n k s = s := by
  cases n with
  | zero => rfl
  | succ n => rw [State.colCheck_home n hx, if_neg (fun h => h0 h.1)]

theorem State.colRelease_frame (s : State) (k r : Nat) (flag : Bool) :
    (s.colRelease k r flag).mem = s.mem ∧ (s.colRelease k r flag).colEnts = s.colEnts := by
  unfold State.colRelease
  cases s.colName k <;> exact ⟨rfl, rfl⟩

theorem State.colRelease_flags (s : State) (k r : Nat) (flag : Bool) :
    (s.colRelease k r flag).fb F.COL_CTR_STATE_F0 k = s.fb F.COL_CTR_STATE_F1 k ∧
    (s.colRelease k r flag).fb F.COL_CTR_STATE_F1 k = false := by
  have hf1 : s.f F.COL_CTR_STATE_F1 k < 2 := bits_lt _ _ _
  have hrels {x : List ColRel} (y : Fld) : ({ s with colRels := x } : State).f y k = s.f y k := rfl
  unfold State.colRelease
  cases s.colName k <;>
    simp (disch := decide) [State.f_setF_same, State.f_setF_bits, Nat.mod_eq_of_lt hf1, hrels, State.fb]

theorem State.colCheck_frame (n k : Nat) (s : State) (hx : s.fb F.COL_CTR_CFG_XMOD k = false) :
    (State.colCheck n k s).mem = s.mem ∧ (State.colCheck n k s).colEnts = s.colEnts := by
  induction n generalizing s with
  | zero => exact ⟨rfl, rfl⟩
  | succ n ih =>
    rw [State.colCheck_home n hx]
    split
    · obtain ⟨-, -, -, -, hxmod⟩ := State.colRelease_spec s k (s.f F.COL_CTR_STATE_ROUND k) (s.fb F.COL_CTR_STATE_F0 k)
      obtain ⟨hmem, hents⟩ := ih _ (hxmod.trans hx)
      obtain ⟨hmem', hents'⟩ := s.colRelease_frame k (s.f F.COL_CTR_STATE_ROUND k) (s.fb F.COL_CTR_STATE_F0 k)
      exact ⟨hmem.trans hmem', hents.trans hents'⟩
    · exact ⟨rfl, rfl⟩

/-- A complete round is released, and the next one, which lacks entries, stays. -/
theorem State.colCheck_releases (n : Nat) (hx : s.fb F.COL_CTR_CFG_XMOD k = false)
    (h0 : s.f F.COL_CTR_STATE_C0 k = s.f F.COL_CTR_CFG_COUNT k) (hd : s.fb F.COL_CTR_STATE_DONE0 k = false)
    (h1 : s.f F.COL_CTR_STATE_C1 k ≠ s.f F.COL_CTR_CFG_COUNT k) : State.colCheck (n + 1) k s =
      s.colRelease k (s.f F.COL_CTR_STATE_ROUND k) (s.fb F.COL_CTR_STATE_F0 k) := by
  obtain ⟨-, hc0, -, hcount, hxmod⟩ := State.colRelease_spec s k (s.f F.COL_CTR_STATE_ROUND k) (s.fb F.COL_CTR_STATE_F0 k)
  rw [State.colCheck_home n hx, if_pos ⟨h0, hd⟩, State.colCheck_waits n (hxmod.trans hx) (by rwa [hc0, hcount])]

end

/-! ### An entry's arrival (R271) -/

section
variable {s : State} {k r : Nat} {flag : Bool} (hx : s.fb F.COL_CTR_CFG_XMOD k = false)

theorem State.colProto_frame (s : State) (k kind : Nat) :
    (s.colProto k kind).mem = s.mem ∧ (s.colProto k kind).colEnts = s.colEnts ∧
    (s.colProto k kind).f F.COL_CTR_STATE_C0 k = s.f F.COL_CTR_STATE_C0 k ∧
    (s.colProto k kind).f F.COL_CTR_STATE_C1 k = s.f F.COL_CTR_STATE_C1 k := by
  refine ⟨by simp [State.colProto], by simp [State.colProto], ?_, ?_⟩ <;> rw [State.colProto] <;>
    simp (disch := decide) [State.f_event_name, State.f_setF_name]

theorem State.colOnEntry_now (hr : r = s.f F.COL_CTR_STATE_ROUND k % 4) : s.colOnEntry k r flag =
    State.colCheck 3 k (s.ctrCounted F.COL_CTR_STATE_C0 F.COL_CTR_STATE_F0 k flag) := by
  rw [State.colOnEntry_eq, if_pos hr]

theorem State.colOnEntry_next (hr : r = (s.f F.COL_CTR_STATE_ROUND k + 1) % 4) : s.colOnEntry k r flag =
    State.colCheck 3 k (s.ctrCounted F.COL_CTR_STATE_C1 F.COL_CTR_STATE_F1 k flag) := by
  rw [State.colOnEntry_eq, if_neg (by omega), if_pos hr]

theorem State.colOnEntry_neither (hr : r ≠ s.f F.COL_CTR_STATE_ROUND k % 4)
    (hr' : r ≠ (s.f F.COL_CTR_STATE_ROUND k + 1) % 4) : s.colOnEntry k r flag = s.colProto k 1 := by
  rw [State.colOnEntry_eq, if_neg hr, if_neg hr']

include hx

theorem State.ctrCounted_home {x y : Fld} (hxr : x.reg = .COL_CTR_STATE) (hyr : y.reg = .COL_CTR_STATE) :
    (s.ctrCounted x y k flag).fb F.COL_CTR_CFG_XMOD k = false :=
  ((s.ctrCounted_only x y k flag hxr hyr).fb _ (by decide) k 0).trans hx

theorem State.colOnEntry_frame : (s.colOnEntry k r flag).mem = s.mem ∧ (s.colOnEntry k r flag).colEnts = s.colEnts := by
  have counted (x y : Fld) (hxr : x.reg = .COL_CTR_STATE) (hyr : y.reg = .COL_CTR_STATE) :
      (State.colCheck 3 k (s.ctrCounted x y k flag)).mem = s.mem ∧
      (State.colCheck 3 k (s.ctrCounted x y k flag)).colEnts = s.colEnts := by
    have honly := s.ctrCounted_only x y k flag hxr hyr
    obtain ⟨hmem, hents⟩ := State.colCheck_frame 3 k _ (State.ctrCounted_home (flag := flag) hx hxr hyr)
    exact ⟨hmem.trans honly.mem, hents.trans honly.colEnts⟩
  rw [State.colOnEntry_eq]
  split
  · exact counted _ _ rfl rfl
  · split
    · exact counted _ _ rfl rfl
    · obtain ⟨hmem, hents, -, -⟩ := s.colProto_frame k 1
      exact ⟨hmem, hents⟩

/-- An entry of the present round, which is not its last. -/
theorem State.colOnEntry_counts (hr : r = s.f F.COL_CTR_STATE_ROUND k % 4)
    (hlt : s.f F.COL_CTR_STATE_C0 k + 1 < s.f F.COL_CTR_CFG_COUNT k) :
    s.colOnEntry k r flag = s.ctrCounted F.COL_CTR_STATE_C0 F.COL_CTR_STATE_F0 k flag ∧
    (s.colOnEntry k r flag).f F.COL_CTR_STATE_C0 k = s.f F.COL_CTR_STATE_C0 k + 1 := by
  have hmax : s.f F.COL_CTR_CFG_COUNT k < 512 := bits_lt _ _ _
  have hc0 := s.ctrCounted_count F.COL_CTR_STATE_C0 F.COL_CTR_STATE_F0 k flag (by decide) (by decide)
    (show _ < 512 by omega)
  have hcount := (s.ctrCounted_only F.COL_CTR_STATE_C0 F.COL_CTR_STATE_F0 k flag rfl rfl).field
    F.COL_CTR_CFG_COUNT (by decide) k 0
  have heq : s.colOnEntry k r flag = s.ctrCounted F.COL_CTR_STATE_C0 F.COL_CTR_STATE_F0 k flag := by
    rw [State.colOnEntry_now hr]
    exact State.colCheck_waits 3 (State.ctrCounted_home hx rfl rfl) (by rw [hc0, hcount]; exact hlt.ne)
  exact ⟨heq, heq ▸ hc0⟩

/-- The last entry of the present round releases it. -/
theorem State.colOnEntry_releases (hr : r = s.f F.COL_CTR_STATE_ROUND k % 4)
    (hlast : s.f F.COL_CTR_STATE_C0 k + 1 = s.f F.COL_CTR_CFG_COUNT k)
    (h1 : s.f F.COL_CTR_STATE_C1 k ≠ s.f F.COL_CTR_CFG_COUNT k) (hd : s.fb F.COL_CTR_STATE_DONE0 k = false) :
    s.colOnEntry k r flag = (s.ctrCounted F.COL_CTR_STATE_C0 F.COL_CTR_STATE_F0 k flag).colRelease k
      (s.f F.COL_CTR_STATE_ROUND k) (s.fb F.COL_CTR_STATE_F0 k || flag) := by
  have hmax : s.f F.COL_CTR_CFG_COUNT k < 512 := bits_lt _ _ _
  have hc0 := s.ctrCounted_count F.COL_CTR_STATE_C0 F.COL_CTR_STATE_F0 k flag (by decide) (by decide)
    (show _ < 512 by omega)
  have hcount := (s.ctrCounted_only F.COL_CTR_STATE_C0 F.COL_CTR_STATE_F0 k flag rfl rfl).field
    F.COL_CTR_CFG_COUNT (by decide) k 0
  have hother (z : Fld) := s.ctrCounted_other F.COL_CTR_STATE_C0 F.COL_CTR_STATE_F0 k flag z
  have hdone : (s.ctrCounted F.COL_CTR_STATE_C0 F.COL_CTR_STATE_F0 k flag).fb F.COL_CTR_STATE_DONE0 k = false := by
    rwa [State.ctrCounted_other_fb _ _ _ _ _ _ (by decide) (by decide)]
  rw [State.colOnEntry_now hr, State.colCheck_releases 2 (State.ctrCounted_home hx rfl rfl) (by rw [hc0, hcount, hlast]) hdone
    (by rwa [hother _ (by decide) (by decide), hcount]), hother _ (by decide) (by decide),
    s.ctrCounted_flag F.COL_CTR_STATE_C0 F.COL_CTR_STATE_F0 k flag (by decide) rfl (by decide)]

/-- What that release leaves: the releases on their way, and the next round with what has come for it. -/
theorem State.colOnEntry_released {c id : Nat} (hr : r = s.f F.COL_CTR_STATE_ROUND k % 4)
    (hlast : s.f F.COL_CTR_STATE_C0 k + 1 = s.f F.COL_CTR_CFG_COUNT k)
    (h1 : s.f F.COL_CTR_STATE_C1 k ≠ s.f F.COL_CTR_CFG_COUNT k) (hd : s.fb F.COL_CTR_STATE_DONE0 k = false)
    (hname : s.colName k = some (c, id)) :
    let t := s.colOnEntry k r flag
    t.colRels = s.colRels ++ (s.scopeCores k).map (fun g =>
      { g := g, phys := k, c := c, id := id, tag := s.f F.COL_CTR_STATE_ROUND k % 4,
        flag := s.fb F.COL_CTR_STATE_F0 k || flag }) ∧
    t.f F.COL_CTR_STATE_ROUND k = (s.f F.COL_CTR_STATE_ROUND k + 1) % 65536 ∧
    t.f F.COL_CTR_STATE_C0 k = s.f F.COL_CTR_STATE_C1 k ∧ t.fb F.COL_CTR_STATE_F0 k = s.fb F.COL_CTR_STATE_F1 k ∧
    t.f F.COL_CTR_STATE_C1 k = 0 ∧ t.fb F.COL_CTR_STATE_F1 k = false := by
  intro t
  have ht : t = (s.ctrCounted F.COL_CTR_STATE_C0 F.COL_CTR_STATE_F0 k flag).colRelease k
    (s.f F.COL_CTR_STATE_ROUND k) (s.fb F.COL_CTR_STATE_F0 k || flag) := State.colOnEntry_releases hx hr hlast h1 hd
  have honly := s.ctrCounted_only F.COL_CTR_STATE_C0 F.COL_CTR_STATE_F0 k flag rfl rfl
  have hother (z : Fld) := s.ctrCounted_other F.COL_CTR_STATE_C0 F.COL_CTR_STATE_F0 k flag z
  obtain ⟨hround, hc0, hc1, -, -⟩ := (s.ctrCounted F.COL_CTR_STATE_C0 F.COL_CTR_STATE_F0 k flag).colRelease_spec k
    (s.f F.COL_CTR_STATE_ROUND k) (s.fb F.COL_CTR_STATE_F0 k || flag)
  obtain ⟨hf0, hf1⟩ := (s.ctrCounted F.COL_CTR_STATE_C0 F.COL_CTR_STATE_F0 k flag).colRelease_flags k
    (s.f F.COL_CTR_STATE_ROUND k) (s.fb F.COL_CTR_STATE_F0 k || flag)
  rw [hother _ (by decide) (by decide)] at hround hc0
  rw [State.ctrCounted_other_fb _ _ _ _ _ _ (by decide) (by decide)] at hf0
  rw [ht]
  refine ⟨?_, hround, hc0, hf0, hc1, hf1⟩
  rw [State.colRelease_colRels _ _ _ _ ((honly.colName _).trans hname), honly.colRels, honly.scopeCores]

/-- An entry of the next round, while the present one lacks entries. -/
theorem State.colOnEntry_counts_next (hr : r = (s.f F.COL_CTR_STATE_ROUND k + 1) % 4)
    (h0 : s.f F.COL_CTR_STATE_C0 k ≠ s.f F.COL_CTR_CFG_COUNT k) :
    s.colOnEntry k r flag = s.ctrCounted F.COL_CTR_STATE_C1 F.COL_CTR_STATE_F1 k flag := by
  have hcount := (s.ctrCounted_only F.COL_CTR_STATE_C1 F.COL_CTR_STATE_F1 k flag rfl rfl).field
    F.COL_CTR_CFG_COUNT (by decide) k 0
  rw [State.colOnEntry_next hr]
  refine State.colCheck_waits 3 (State.ctrCounted_home hx rfl rfl) ?_
  rwa [s.ctrCounted_other _ _ k flag F.COL_CTR_STATE_C0 (by decide) (by decide), hcount]

end

/-! ### A release's arrival (R272) -/

/-- t has the memory, the releases on their way, the wait tables and the round tags of s. -/
structure ServeKeeps (s t : State) : Prop where
  mem : t.mem = s.mem
  colRels : t.colRels = s.colRels
  waits : t.waits = s.waits
  tags : t.tags = s.tags

theorem ServeKeeps.trans {s t u : State} (h : ServeKeeps s t) (h' : ServeKeeps t u) : ServeKeeps s u :=
  ⟨h'.mem.trans h.mem, h'.colRels.trans h.colRels, h'.waits.trans h.waits, h'.tags.trans h.tags⟩

theorem State.trnRelease_serves (c : Nat) (flag : Bool) (s : State) : ServeKeeps s (State.trnRelease c flag s) := by
  unfold State.trnRelease
  extract_lets st v
  split
  · split <;> exact ⟨rfl, rfl, rfl, rfl⟩
  · exact ⟨rfl, rfl, rfl, rfl⟩

/-- A waiter served changes what waits for the release, and leaves the wait tables. -/
theorem State.colServe_serves (s : State) (g c : Nat) (flag : Bool) (w : Waiter) :
    ServeKeeps s (s.colServe State.trnRelease g c flag w) := by
  cases w with
  | token slot =>
    have htoken : ServeKeeps s (s.token g c (24 + slot) 1) := by
      rw [State.token_frame]
      exact ⟨rfl, rfl, rfl, rfl⟩
    exact htoken
  | strand k fid =>
    simp only [State.colServe]
    split <;> exact ⟨rfl, rfl, rfl, rfl⟩
  | bracket cls => exact ⟨rfl, rfl, rfl, rfl⟩
  | vote => exact State.trnRelease_serves c flag s

theorem State.colServe_foldl_serves (es : List WaitEnt) (s : State) (g c : Nat) (flag : Bool) :
    ServeKeeps s (es.foldl (fun s e => s.colServe State.trnRelease g c flag e.waiter) s) := by
  induction es generalizing s with
  | nil => exact ⟨rfl, rfl, rfl, rfl⟩
  | cons e es ih => exact (s.colServe_serves g c flag e.waiter).trans (ih _)

/-- The entries a release serves. -/
def ColRel.serves (r : ColRel) (e : WaitEnt) : Bool := decide (e.id = r.id ∧ e.tag = r.tag)

/-- The wait table and the round tag at a release, its entries freed and not served yet. -/
def State.colFreed (s : State) (r : ColRel) : State :=
  (s.setWaits r.g r.c ((s.waitsOf r.g r.c).filter (fun e => !r.serves e))).setColTag r.g r.c r.id
    { s.colTag r.g r.c r.id with lastTag := r.tag, lastFlag := r.flag }

theorem State.colArrive_eq (s : State) (r : ColRel) : s.colArrive State.trnRelease r =
    if (s.waitsOf r.g r.c).filter r.serves = [] then s
    else (((s.waitsOf r.g r.c).filter r.serves).foldl
      (fun s e => s.colServe State.trnRelease r.g r.c r.flag e.waiter) (s.colFreed r)).progress r.g r.c := by
  simp only [← List.isEmpty_iff]
  rfl

theorem State.colArrive_mem (s : State) (r : ColRel) : (s.colArrive State.trnRelease r).mem = s.mem := by
  rw [State.colArrive_eq]
  split
  · rfl
  · exact (State.progress_mem ..).trans (State.colServe_foldl_serves _ (s.colFreed r) _ _ _).mem

theorem State.colArrive_one {s : State} {r : ColRel} {e : WaitEnt} (h : (s.waitsOf r.g r.c).filter r.serves = [e]) :
    s.colArrive State.trnRelease r =
      ((s.colFreed r).colServe State.trnRelease r.g r.c r.flag e.waiter).progress r.g r.c := by
  rw [State.colArrive_eq, h, if_neg (List.cons_ne_nil _ _)]
  rfl

theorem State.colFreed_waitsOf (s : State) (r : ColRel) :
    (s.colFreed r).waitsOf r.g r.c = (s.waitsOf r.g r.c).filter (fun e => !r.serves e) := SMap.get_set_same ..

theorem State.colFreed_colTag (s : State) (r : ColRel) :
    (s.colFreed r).colTag r.g r.c r.id = { s.colTag r.g r.c r.id with lastTag := r.tag, lastFlag := r.flag } :=
  SMap.get_set_same ..

section
variable {s : State} {r : ColRel} {e : WaitEnt} (h : (s.waitsOf r.g r.c).filter r.serves = [e])
include h

theorem State.colArrive_frees : (s.colArrive State.trnRelease r).colRels = s.colRels ∧
    (s.colArrive State.trnRelease r).waitsOf r.g r.c = (s.waitsOf r.g r.c).filter (fun e => !r.serves e) ∧
    (s.colArrive State.trnRelease r).colTag r.g r.c r.id =
      { s.colTag r.g r.c r.id with lastTag := r.tag, lastFlag := r.flag } := by
  obtain ⟨-, hrels, hwaits, htags⟩ := (s.colFreed r).colServe_serves r.g r.c r.flag e.waiter
  rw [State.colArrive_one h, State.progress_colRels, State.progress_waitsOf, State.progress_colTag]
  refine ⟨hrels, ?_, ?_⟩
  · rw [State.waitsOf, hwaits]
    exact s.colFreed_waitsOf r
  · rw [State.colTag, htags]
    exact s.colFreed_colTag r

theorem State.colArrive_token {slot : Nat} (hw : e.waiter = .token slot) (hocc : s.occupied r.g r.c = true)
    (hn : s.f F.CORE_TOKEN_COUNT r.g r.c (24 + slot) < 4095) :
    (s.colArrive State.trnRelease r).f F.CORE_TOKEN_COUNT r.g r.c (24 + slot) =
      s.f F.CORE_TOKEN_COUNT r.g r.c (24 + slot) + 1 := by
  rw [State.colArrive_one h, State.progress_f, hw]
  exact State.token_counts (s := s.colFreed r) hocc hn

theorem State.colArrive_strand {k fid : Nat} (hw : e.waiter = .strand k fid) (hexec : (s.strand r.g r.c k).exec = true)
    (hheld : (s.strand r.g r.c k).held = true) (hfid : (s.strand r.g r.c k).fid = fid) :
    (s.colArrive State.trnRelease r).strand r.g r.c k =
      { s.strand r.g r.c k with held := false, pc := (s.strand r.g r.c k).pc + 1 } := by
  rw [State.colArrive_one h, State.progress_strand, hw]
  have hserve : (s.colFreed r).colServe State.trnRelease r.g r.c r.flag (.strand k fid) = (s.colFreed r).setStrand r.g r.c k
      { s.strand r.g r.c k with held := false, pc := (s.strand r.g r.c k).pc + 1 } :=
    if_pos (show ((s.strand r.g r.c k).exec && (s.strand r.g r.c k).held && (s.strand r.g r.c k).fid == fid) = true by
      simp [hexec, hheld, hfid])
  rw [hserve, State.strand_setStrand_same]

end

/-! ### The arrivals as commands -/

/-- The state at which an entry taken from its way is counted. -/
def State.entryTaken (s : State) (e : ColEnt) (rest : List ColEnt) : State :=
  ({ s with colEnts := rest } : State).roundVoted e

section
variable {s : State} {e : ColEnt} {rest : List ColEnt}

theorem execColEntryArrival_first (h : s.colEnts = e :: rest) : exec (.colEntryArrival 0) s =
    .next ((s.entryTaken e rest).colOnEntry e.phys e.tag e.flag) := by
  simp only [exec, execColEntryArrival, h]
  rfl

theorem State.entryTaken_frame : (s.entryTaken e rest).mem = s.mem ∧ (s.entryTaken e rest).colEnts = rest ∧
    (s.entryTaken e rest).colRels = s.colRels :=
  have h := State.roundVoted_only { s with colEnts := rest } e
  ⟨h.mem, h.colEnts, h.colRels⟩

theorem State.entryTaken_f (x : Fld) (hx : x.reg ≠ .TRN_STEP_STATE) (i : Nat) :
    (s.entryTaken e rest).f x i = s.f x i := State.roundVoted_f { s with colEnts := rest } e x hx i

theorem State.entryTaken_fb (x : Fld) (hx : x.reg ≠ .TRN_STEP_STATE) (i : Nat) :
    (s.entryTaken e rest).fb x i = s.fb x i := State.roundVoted_fb { s with colEnts := rest } e x hx i

theorem State.entryTaken_colName (k : Nat) : (s.entryTaken e rest).colName k = s.colName k :=
  (State.roundVoted_only { s with colEnts := rest } e).colName k

theorem State.entryTaken_scopeCores (k : Nat) : (s.entryTaken e rest).scopeCores k = s.scopeCores k :=
  (State.roundVoted_only { s with colEnts := rest } e).scopeCores k

end

theorem execColReleaseArrival_first {s : State} {r : ColRel} {rest : List ColRel} (h : s.colRels = r :: rest) :
    exec (.colReleaseArrival 0) s = .next (({ s with colRels := rest } : State).colArrive State.trnRelease r) := by
  simp only [exec, execColReleaseArrival, h]
  rfl

/-- Settles O33: an entry by the round of its tag and what its round lacks, a release by who waits for it. -/
theorem colsCountAndRelease : Obligations.ColsCountAndRelease := by
  refine ⟨?_, ?_⟩
  · intro s e rest hs hxs
    have hf (x : Fld) (hx : x.reg ≠ .TRN_STEP_STATE) : (s.entryTaken e rest).f x e.phys = s.f x e.phys :=
      State.entryTaken_f x hx e.phys
    have hfb (x : Fld) (hx : x.reg ≠ .TRN_STEP_STATE) : (s.entryTaken e rest).fb x e.phys = s.fb x e.phys :=
      State.entryTaken_fb x hx e.phys
    have hname := State.entryTaken_colName (s := s) (e := e) (rest := rest) e.phys
    have hscope := State.entryTaken_scopeCores (s := s) (e := e) (rest := rest) e.phys
    obtain ⟨hmem, hents, hrels⟩ := State.entryTaken_frame (s := s) (e := e) (rest := rest)
    refine ⟨_, execColEntryArrival_first hs, ?_⟩
    generalize s.entryTaken e rest = v at *
    have hxv : v.fb F.COL_CTR_CFG_XMOD e.phys = false := (hfb _ (by decide)).trans hxs
    obtain ⟨hmem', hents'⟩ := State.colOnEntry_frame (r := e.tag) (flag := e.flag) hxv
    simp only [← hf F.COL_CTR_CFG_COUNT (by decide), ← hf F.COL_CTR_STATE_ROUND (by decide),
      ← hf F.COL_CTR_STATE_C0 (by decide), ← hf F.COL_CTR_STATE_C1 (by decide), ← hfb F.COL_CTR_STATE_F0 (by decide),
      ← hfb F.COL_CTR_STATE_F1 (by decide), ← hfb F.COL_CTR_STATE_DONE0 (by decide), ← hfb F.COL_CTR_STATE_DONE1 (by decide)]
    rw [← hname, ← hrels]
    refine ⟨hents'.trans hents, hmem'.trans hmem, fun hr hlt => ?_, fun c id hr hlast h1 hd _ hcid => ?_,
      fun hr h0 hlt => ?_, fun hr hr' => ?_⟩
    · obtain ⟨heq, hc0⟩ := State.colOnEntry_counts (flag := e.flag) hxv hr hlt
      have honly := v.ctrCounted_only F.COL_CTR_STATE_C0 F.COL_CTR_STATE_F0 e.phys e.flag rfl rfl
      have hother (z : Fld) := v.ctrCounted_other F.COL_CTR_STATE_C0 F.COL_CTR_STATE_F0 e.phys e.flag z
      refine ⟨hc0, ?_⟩
      rw [heq]
      exact ⟨v.ctrCounted_flag _ _ _ _ (by decide) rfl (by decide), hother _ (by decide) (by decide),
        hother _ (by decide) (by decide), honly.colRels⟩
    · obtain ⟨hrels', hafter⟩ := State.colOnEntry_released (flag := e.flag) hxv hr hlast h1 hd hcid
      rw [hscope] at hrels'
      exact ⟨hrels', hafter⟩
    · rw [State.colOnEntry_counts_next hxv hr h0]
      exact ⟨v.ctrCounted_count _ _ _ _ (by decide) (by decide) hlt, v.ctrCounted_other _ _ _ _ _ (by decide) (by decide),
        v.ctrCounted_flag _ _ _ _ (by decide) rfl (by decide), (v.ctrCounted_only _ _ _ _ rfl rfl).colRels⟩
    · rw [State.colOnEntry_neither hr hr']
      obtain ⟨hevent, hkind, hphys, hrels', -⟩ := v.colProto_spec e.phys 1
      obtain ⟨-, -, hc0, hc1⟩ := v.colProto_frame e.phys 1
      exact ⟨hphys, hkind, hevent, hc0, hc1, hrels'⟩
  · intro s r rest hs
    refine ⟨_, execColReleaseArrival_first hs, State.colArrive_mem .., fun hnone => ?_, fun e hone => ?_⟩
    · rw [State.colArrive_eq]
      exact if_pos hnone
    · have hone' : ((({ s with colRels := rest } : State).waitsOf r.g r.c).filter r.serves) = [e] := hone
      obtain ⟨hrels, hwaits, htag⟩ := State.colArrive_frees hone'
      exact ⟨hrels, hwaits, htag, fun slot hw hocc hn => State.colArrive_token hone' hw hocc hn,
        fun k fid hw hexec hheld hfid => State.colArrive_strand hone' hw hexec hheld hfid⟩

end Sys2Proof.Machine
end

section
namespace Sys2Proof.Machine

open Sys2Proof.Claims

/-! PROOFS. ClockStepsAreLentAndReturned, what the registers of power lending leave as it was. -/

/-- The registers of power lending (Table COL-6). -/
def lendRegs : List RegName := [.COL_LEND_CFG, .COL_LEND_STAT, .COL_CORE_BOOST]

/-- t differs from s in the registers of power lending, the configurations written and the pointers of the periods. -/
structure LendOnly (s t : State) : Prop where
  rest : t = { s with regs := t.regs, lendNew := t.lendNew, lendPtr := t.lendPtr }
  reg : ∀ r : Reg, r.name ∉ lendRegs → t.reg r = s.reg r
  listed : ∀ n, n ∉ lendRegs → t.listed n = s.listed n

namespace LendOnly

variable {s t u : State}

theorem refl (s : State) : LendOnly s s := ⟨rfl, fun _ _ => rfl, fun _ _ => rfl⟩

theorem trans (h : LendOnly s t) (h' : LendOnly t u) : LendOnly s u where
  rest := by
    refine h'.rest.trans ?_
    rw [h.rest]
  reg := fun r hr => (h'.reg r hr).trans (h.reg r hr)
  listed := fun n hn => (h'.listed n hn).trans (h.listed n hn)

theorem setReg (s : State) (r : Reg) (w : Word) (hr : r.name ∈ lendRegs) : LendOnly s (s.setReg r w) where
  rest := rfl
  reg := fun _ hq => s.reg_setReg_other w (fun e => hq (e ▸ hr))
  listed := fun _ hn => s.listed_setReg w (fun e => hn (e ▸ hr))

theorem setF (s : State) (x : Fld) (v i : Nat) (hx : x.reg ∈ lendRegs) : LendOnly s (s.setF x v i) := .setReg s _ _ hx

section
variable (h : LendOnly s t)
include h

theorem f {x : Fld} (hx : x.reg ∉ lendRegs) (i j k : Nat) : t.f x i j k = s.f x i j k := by
  rw [State.f, State.f, h.reg _ hx]

theorem fb {x : Fld} (hx : x.reg ∉ lendRegs) (i j k : Nat) : t.fb x i j k = s.fb x i j k := by
  rw [State.fb, State.fb, h.f hx]

theorem mem : t.mem = s.mem := (congrArg State.mem h.rest :)
theorem poison : t.poison = s.poison := (congrArg State.poison h.rest :)
theorem badInstr : t.badInstr = s.badInstr := (congrArg State.badInstr h.rest :)
theorem clk : t.clk = s.clk := (congrArg State.clk h.rest :)
theorem strand (g c k : Nat) : t.strand g c k = s.strand g c k := (congrArg (fun v => State.strand v g c k) h.rest :)
theorem ctx (g c : Nat) : t.ctx g c = s.ctx g c := (congrArg (fun v => State.ctx v g c) h.rest :)
theorem core (g : Nat) : t.core g = s.core g := (congrArg (fun v => State.core v g) h.rest :)
theorem mod (c : Nat) : t.mod c = s.mod c := (congrArg (fun v => State.mod v c) h.rest :)
theorem waitsOf (g c : Nat) : t.waitsOf g c = s.waitsOf g c := (congrArg (fun v => State.waitsOf v g c) h.rest :)
theorem readN (a n : Nat) : t.readN a n = s.readN a n := (congrArg (fun v => State.readN v a n) h.rest :)

theorem coreOk (g : Nat) : t.coreOk g = s.coreOk g := by
  simp (disch := decide) only [State.coreOk, h.f]

theorem dieCores (d : Nat) : t.dieCores d = s.dieCores d := by
  simp only [State.dieCores, State.coreList, funext h.coreOk]

theorem entries (c : Nat) : t.entries c = s.entries c := by
  simp (disch := decide) only [State.entries, h.listed, h.fb]

theorem inWin (c o : Nat) : t.inWin c o = s.inWin c o := by
  simp (disch := decide) only [State.inWin, h.f]

theorem winCheck (c o : Nat) : t.winCheck c o = s.winCheck c o := by
  simp (disch := decide) only [State.winCheck, h.inWin]

theorem hostLoc (p o : Nat) : t.hostLoc p o = s.hostLoc p o := by
  simp (disch := decide) only [State.hostLoc, h.f]

theorem entSpan (c e : Nat) : t.entSpan c e = s.entSpan c e := by
  simp (disch := decide) only [State.entSpan, h.f, h.fb]

theorem borrowLive (b : Nat) : t.borrowLive b = s.borrowLive b := by
  simp (disch := decide) only [State.borrowLive, h.f]

/-- The entries that cover an address stay (R198). -/
theorem hbmCover (c a : Nat) : t.hbmCover c a = s.hbmCover c a := by
  simp (disch := decide) only [State.hbmCover, h.entries, h.f]

theorem hostCover (c p o : Nat) : t.hostCover c p o = s.hostCover c p o := by
  simp (disch := decide) only [State.hostCover, h.entries, h.f, h.fb]

theorem remoteCover (c n a : Nat) : t.remoteCover c n a = s.remoteCover c n a := by
  simp (disch := decide) only [State.remoteCover, h.entSpan, h.borrowLive, h.entries, h.f]

theorem coverCheck (c : Nat) (w : Bool) (cover : Nat → List Nat) (l : Loc) :
    t.coverCheck c w cover l = s.coverCheck c w cover l := by
  simp (disch := decide) only [State.coverCheck, h.fb]

theorem placeBy (c e a : Nat) : t.placeBy c e a = s.placeBy c e a := by
  simp (disch := decide) only [State.placeBy, h.entSpan, h.borrowLive, h.hostLoc, h.f, h.fb]

theorem place (c a : Nat) (w : Bool) : t.place c a w = s.place c a w := by
  simp (disch := decide) only [State.place, h.placeBy, h.entries, h.f, h.fb]

theorem nodeKnown (n : Nat) : t.nodeKnown n = s.nodeKnown n := by
  simp (disch := decide) only [State.nodeKnown, State.nodeKey, h.readN, h.f]

theorem xlateLocal (g c a : Nat) (w : Bool) : t.xlateLocal g c a w = s.xlateLocal g c a w := by
  simp (disch := decide) only [State.xlateLocal, h.coverCheck, h.hbmCover, h.hostCover, h.hostLoc, h.place, h.coreOk,
    h.winCheck]

theorem xlateRemote (c n a : Nat) (w : Bool) (k : AccKind) : t.xlateRemote c n a w k = s.xlateRemote c n a w k := by
  simp (disch := decide) only [State.xlateRemote, h.nodeKnown, h.remoteCover, h.fb]

/-- Addresses are translated as before. -/
theorem xlate (g c a : Nat) (w : Bool) (k : AccKind) : t.xlate g c a w k = s.xlate g c a w k := by
  simp (disch := decide) only [State.xlate, h.xlateLocal, h.xlateRemote, h.f]

/-- The ranges of count words and allocation words stay (R247). -/
theorem kvProtected (k n : Nat) : t.kvProtected k n = s.kvProtected k n := by
  have hseg (p : Nat) : t.segOk p = s.segOk p := funext fun i => h.fb (by decide) p i 0
  have hpool : t.poolOn = s.poolOn := funext fun p => h.fb (by decide) p 0 0
  simp (disch := decide) only [State.kvProtected, State.kvRanges, State.validSegs, hseg, hpool, State.segPages, State.countKey,
    State.ringKey, State.allocKey, h.f]

theorem mirrored (k n : Nat) : t.mirrored k n = s.mirrored k n := by
  simp (disch := decide) only [State.mirrored, h.f, h.fb]

theorem writeCheck (l : Loc) (n : Nat) (acc : Acc) : t.writeCheck l n acc = s.writeCheck l n acc := by
  simp (disch := decide) only [State.writeCheck, h.kvProtected, h.mirrored]

theorem noSlot (g : Nat) (l : Target) : t.noSlot g l = s.noSlot g l := by
  simp (disch := decide) only [State.noSlot, h.core]

theorem accessWaits (g c : Nat) (acc : Acc) (a : Nat) : t.accessWaits g c acc a = s.accessWaits g c acc a := by
  simp (disch := decide) only [State.accessWaits, h.xlate, h.writeCheck, h.noSlot]

theorem loadsPending (g c k : Nat) : t.loadsPending g c k = s.loadsPending g c k := by
  simp (disch := decide) only [State.loadsPending, h.strand, h.core]

theorem engineBusy (g c k : Nat) (m v : Bool) : t.engineBusy g c k m v = s.engineBusy g c k m v := by
  simp (disch := decide) only [State.engineBusy, h.core]

theorem memBusy (g c k : Nat) : t.memBusy g c k = s.memBusy g c k := by
  simp (disch := decide) only [State.memBusy, h.core]

theorem chOwner (g ch : Nat) : t.chOwner g ch = s.chOwner g ch := by
  rw [State.chOwner, State.chOwner, h.reg _ (by simp [lendRegs])]

theorem shadow (g ch : Nat) : t.shadow g ch = s.shadow g ch := h.f (by decide) g ch 0

/-- An instruction waits as before. -/
theorem waitsFor (g c k : Nat) (d : Dec) : t.waitsFor g c k d = s.waitsFor g c k d := by
  simp (disch := decide) only [State.waitsFor, h.shadow, h.chOwner, h.accessWaits, h.loadsPending, h.engineBusy, h.memBusy,
    h.core, h.strand, h.f]

theorem haltReached (g c : Nat) : t.haltReached g c = s.haltReached g c := by
  simp (disch := decide) only [State.haltReached, h.mod, h.clk]

theorem haltedOn (g c : Nat) : t.haltedOn g c = s.haltedOn g c := by
  simp (disch := decide) only [State.haltedOn, h.haltReached, h.fb]

theorem running (g c : Nat) : t.running g c = s.running g c := by
  simp (disch := decide) only [State.running, h.ctx, h.haltedOn]

theorem ready (g c k : Nat) : t.ready g c k = s.ready g c k := by
  simp (disch := decide) only [State.ready, h.strand, h.running]

theorem instrBad (a : Nat) : t.instrBad a = s.instrBad a := by
  simp (disch := decide) only [State.instrBad, State.poisoned, h.poison, h.badInstr]

theorem codeKey (g c i : Nat) : t.codeKey g c i = s.codeKey g c i := by
  simp (disch := decide) only [State.codeKey, h.f]

theorem ableUnder (lock : List (Nat × Nat × Nat × Nat)) (g c k : Nat) : t.ableUnder lock g c k = s.ableUnder lock g c k := by
  simp (disch := decide) only [State.ableUnder, h.codeKey, h.instrBad, h.strand, h.ctx, h.readN, h.waitsFor]

theorem ctxCanIssue (g : Nat) : t.ctxCanIssue g = s.ctxCanIssue g := by
  funext c
  simp only [State.ctxCanIssue, h.ready, h.ableUnder]

/-- A core is idle at a col as before. -/
theorem idleAtCol (g : Nat) : t.idleAtCol g = s.idleAtCol g := by
  simp only [State.idleAtCol, h.ctxCanIssue, h.waitsOf, h.core]

end
end LendOnly
end Sys2Proof.Machine
end

section
namespace Sys2Proof.Machine

open Sys2Proof.Claims

/-! PROOFS. ClockStepsAreLentAndReturned. -/

/-! ### Steps and lending of a core, and the die's pool -/

section
variable (s : State) (g h : Nat)

theorem State.boost_setSteps (v : Nat) :
    (s.setF F.COL_CORE_BOOST_STEPS v g).boost h = if h = g then v % 16 else s.boost h := by
  split
  next e => rw [e]; exact s.f_setF_same _ _ _ _ _ (by decide)
  next e => exact s.f_setF_reg _ _ _ _ _ _ _ _ _ (by simp [e])

theorem State.lending_setSteps (v : Nat) : (s.setF F.COL_CORE_BOOST_STEPS v g).lending h = s.lending h :=
  s.fb_setF_bits _ _ _ _ _ _ _ _ _ (by decide)

theorem State.boost_setLending (v : Nat) : (s.setF F.COL_CORE_BOOST_LENDING v g).boost h = s.boost h :=
  s.f_setF_bits _ _ _ _ _ _ _ _ _ (by decide)

theorem State.lending_setLending (b : Bool) :
    (s.setF F.COL_CORE_BOOST_LENDING b.toNat g).lending h = if h = g then b else s.lending h := by
  split
  next e => rw [e]; exact s.fb_setF_toNat _ b _ _ _ (by decide) rfl
  next e => exact congrArg (· == 1) (s.f_setF_reg _ _ _ _ _ _ _ _ _ (by simp [e]))

theorem State.boost_setStat (x : Fld) (v d : Nat) (hx : x.reg = .COL_LEND_STAT) : (s.setF x v d).boost h = s.boost h :=
  s.f_setF_name _ _ _ _ _ _ _ _ _ (by simp [hx])

theorem State.lending_setStat (x : Fld) (v d : Nat) (hx : x.reg = .COL_LEND_STAT) : (s.setF x v d).lending h = s.lending h :=
  s.fb_setF_name _ _ _ _ _ _ _ _ _ (by simp [hx])

theorem State.boost_lt : s.boost g < 16 := bits_lt _ _ _

end

/-- t differs from s in the steps, the lending and the pools of cores and dies, and the pointers of the periods. -/
structure StepsOnly (s t : State) : Prop where
  only : LendOnly s t
  cfg : ∀ d, t.reg ⟨.COL_LEND_CFG, d, 0, 0⟩ = s.reg ⟨.COL_LEND_CFG, d, 0, 0⟩
  lendNew : t.lendNew = s.lendNew

namespace StepsOnly

variable {s t u : State}

theorem refl (s : State) : StepsOnly s s := ⟨.refl s, fun _ => rfl, rfl⟩

theorem trans (h : StepsOnly s t) (h' : StepsOnly t u) : StepsOnly s u :=
  ⟨h.only.trans h'.only, fun d => (h'.cfg d).trans (h.cfg d), h'.lendNew.trans h.lendNew⟩

theorem setF (s : State) (x : Fld) (v i : Nat) (hx : x.reg ∈ [RegName.COL_LEND_STAT, .COL_CORE_BOOST]) :
    StepsOnly s (s.setF x v i) where
  only := .setF s x v i (List.mem_cons_of_mem _ hx)
  cfg := fun d => s.reg_setReg_other _ (fun e => by
    have hname : RegName.COL_LEND_CFG = x.reg := congrArg Reg.name e
    rw [← hname] at hx
    exact absurd hx (by decide))
  lendNew := rfl

/-- What each step of a walk over cores keeps, the walk keeps. -/
theorem foldl {f : State → Nat → State} (hf : ∀ s g, StepsOnly s (f s g)) (l : List Nat) (s : State) :
    StepsOnly s (l.foldl f s) := by
  induction l generalizing s with
  | nil => exact .refl s
  | cons g l ih => exact (hf s g).trans (ih _)

theorem cfgF (h : StepsOnly s t) {x : Fld} (hx : x.reg = .COL_LEND_CFG) (d : Nat) : t.f x d = s.f x d := by
  rw [State.f, State.f, hx, h.cfg]

end StepsOnly

/-! ### Busy cores and new lenders (R277) -/

/-- An engine of core g was occupied for nine tenths of the period (R277). -/
def State.mostlyOccupied (s : State) (g : Nat) : Bool :=
  let n := SMap.get 0 s.cycles.occupied g
  decide (0 < n) && decide (9 * (s.clk.now - SMap.get 0 s.lendAt (g / 128)) ≤ 10 * n)

theorem State.lendBusy_eq (s : State) (g : Nat) : s.lendBusy g = (!s.lending g && s.mostlyOccupied g) := Bool.and_assoc ..

theorem LendOnly.mostlyOccupied {s t : State} (h : LendOnly s t) (g : Nat) : t.mostlyOccupied g = s.mostlyOccupied g :=
  (congrArg (fun v => State.mostlyOccupied v g) h.rest :)

theorem LendOnly.lendBusy {s t : State} (h : LendOnly s t) {g : Nat} (hl : t.lending g = s.lending g) :
    t.lendBusy g = s.lendBusy g := by
  rw [State.lendBusy_eq, State.lendBusy_eq, hl, h.mostlyOccupied]

/-- Core g has been idle at a col for WAIT. -/
def State.lendWaited (s : State) (d g : Nat) : Bool :=
  s.idleAtCol g && decide (s.f F.COL_LEND_CFG_WAIT d ≤ s.clk.now - (s.core g).iss.idle.getD s.clk.now)

theorem StepsOnly.lendWaited {s t : State} (h : StepsOnly s t) (d g : Nat) : t.lendWaited d g = s.lendWaited d g := by
  simp only [State.lendWaited, h.only.idleAtCol, h.cfgF (x := F.COL_LEND_CFG_WAIT) rfl, h.only.clk, h.only.core]

/-! ### The first part of a period (R278) -/

/-- A core that has been idle at a col for WAIT lends. -/
def State.lendJoined (s : State) (d g : Nat) : State :=
  if !s.lending g && s.lendWaited d g then
    (s.setF F.COL_CORE_BOOST_LENDING 1 g).addF F.COL_LEND_STAT_POOL (s.f F.COL_LEND_CFG_GRANT d) d
  else s

/-- A core that is not busy returns its steps. -/
def State.stepsReturned (s : State) (d g : Nat) : State :=
  if 0 < s.boost g ∧ !s.lendBusy g then
    (s.setF F.COL_LEND_STAT_BORROWED (s.f F.COL_LEND_STAT_BORROWED d - s.f F.COL_LEND_CFG_COST d * s.boost g) d).setF
      F.COL_CORE_BOOST_STEPS 0 g
  else s

theorem State.lendJoin_eq (s : State) (d g : Nat) : s.lendJoin d g = (s.lendJoined d g).stepsReturned d g := rfl

section
variable (s : State) (d g : Nat)

theorem State.lendJoined_only : StepsOnly s (s.lendJoined d g) := by
  unfold State.lendJoined
  split
  · exact (StepsOnly.setF _ _ _ _ (by decide)).trans (.setF _ _ _ _ (by decide))
  · exact .refl s

theorem State.stepsReturned_only : StepsOnly s (s.stepsReturned d g) := by
  unfold State.stepsReturned
  split
  · exact (StepsOnly.setF _ _ _ _ (by decide)).trans (.setF _ _ _ _ (by decide))
  · exact .refl s

theorem State.lendJoin_only : StepsOnly s (s.lendJoin d g) :=
  (s.lendJoined_only d g).trans ((s.lendJoined d g).stepsReturned_only d g)

theorem State.lendJoined_lending (h : Nat) :
    (s.lendJoined d g).lending h = (s.lending h || decide (h = g) && s.lendWaited d g) := by
  have hset := s.lending_setLending g h true
  unfold State.lendJoined
  split
  next hj =>
    rw [State.addF_eq, State.lending_setStat _ _ _ _ _ rfl]
    by_cases e : h = g <;> simp_all
  next hj =>
    by_cases e : h = g
    · subst e
      cases hl : s.lending h <;> simp_all
    · simp [e]

theorem State.lendJoined_boost (h : Nat) : (s.lendJoined d g).boost h = s.boost h := by
  unfold State.lendJoined
  split
  · rw [State.addF_eq, State.boost_setStat _ _ _ _ _ rfl, State.boost_setLending]
  · rfl

theorem State.lendJoined_stat : (s.lendJoined d g).f F.COL_LEND_STAT_POOL d = (s.f F.COL_LEND_STAT_POOL d +
      if (!s.lending g && s.lendWaited d g) = true then s.f F.COL_LEND_CFG_GRANT d else 0) % 65536 ∧
    (s.lendJoined d g).f F.COL_LEND_STAT_BORROWED d = s.f F.COL_LEND_STAT_BORROWED d := by
  have hpool : s.f F.COL_LEND_STAT_POOL d < 65536 := bits_lt _ _ _
  unfold State.lendJoined
  split
  · simp (disch := decide) [State.f_setF_same, State.f_setF_bits, State.f_setF_name]
  · exact ⟨(Nat.mod_eq_of_lt hpool).symm, rfl⟩

theorem State.stepsReturned_lending (h : Nat) : (s.stepsReturned d g).lending h = s.lending h := by
  unfold State.stepsReturned
  split
  · rw [State.lending_setSteps, State.lending_setStat _ _ _ _ _ rfl]
  · rfl

theorem State.stepsReturned_boost (h : Nat) : (s.stepsReturned d g).boost h =
    if h = g ∧ s.lendBusy g = false then 0 else s.boost h := by
  unfold State.stepsReturned
  split
  · rw [State.boost_setSteps, State.boost_setStat _ _ _ _ _ rfl]
    by_cases e : h = g <;> simp_all
  next hr =>
    split
    next hb =>
      obtain ⟨rfl, hb⟩ := hb
      exact Nat.eq_zero_of_not_pos (fun h0 => hr ⟨h0, by simp [hb]⟩)
    · rfl

theorem State.stepsReturned_pool : (s.stepsReturned d g).f F.COL_LEND_STAT_POOL d = s.f F.COL_LEND_STAT_POOL d := by
  unfold State.stepsReturned
  split
  · simp (disch := decide) [State.f_setF_bits, State.f_setF_name]
  · rfl

theorem State.stepsReturned_busy (hb : 0 < s.boost g → s.lendBusy g = true) : s.stepsReturned d g = s :=
  if_neg (fun h => by simp [hb h.1] at h)

theorem State.lendJoin_lending (h : Nat) : (s.lendJoin d g).lending h = (s.lending h || decide (h = g) && s.lendWaited d g) := by
  rw [State.lendJoin_eq, State.stepsReturned_lending, State.lendJoined_lending]

theorem State.lendJoin_boost (h : Nat) : (s.lendJoin d g).boost h =
    if h = g ∧ (s.lendJoin d g).lendBusy g = false then 0 else s.boost h := by
  rw [State.lendJoin_eq, ((s.lendJoined d g).stepsReturned_only d g).only.lendBusy (State.stepsReturned_lending ..),
    State.stepsReturned_boost, State.lendJoined_boost]

theorem State.lendJoin_pool : (s.lendJoin d g).f F.COL_LEND_STAT_POOL d = (s.f F.COL_LEND_STAT_POOL d +
    if (!s.lending g && s.lendWaited d g) = true then s.f F.COL_LEND_CFG_GRANT d else 0) % 65536 := by
  rw [State.lendJoin_eq, State.stepsReturned_pool, (s.lendJoined_stat d g).1]

theorem State.lendJoin_borrowed (hb : 0 < s.boost g → (s.lendJoin d g).lendBusy g = true) :
    (s.lendJoin d g).f F.COL_LEND_STAT_BORROWED d = s.f F.COL_LEND_STAT_BORROWED d := by
  have hbusy := ((s.lendJoined d g).stepsReturned_only d g).only.lendBusy ((s.lendJoined d g).stepsReturned_lending d g g)
  rw [State.lendJoin_eq, State.stepsReturned_busy _ _ _ (fun h => hbusy.symm.trans (hb (by rwa [State.lendJoined_boost] at h))),
    (s.lendJoined_stat d g).2]

end

/-- The first part of a period for some cores. -/
def State.lendJoins (s : State) (d : Nat) (gs : List Nat) : State := gs.foldl (fun s g => s.lendJoin d g) s

section
variable (d : Nat) (gs : List Nat) (s : State)

theorem State.lendJoins_only : StepsOnly s (s.lendJoins d gs) := .foldl (fun s g => s.lendJoin_only d g) gs s

theorem State.lendJoins_lending (h : Nat) :
    (s.lendJoins d gs).lending h = (s.lending h || decide (h ∈ gs) && s.lendWaited d h) := by
  induction gs generalizing s with
  | nil => simp [State.lendJoins]
  | cons g gs ih =>
    refine (ih (s.lendJoin d g)).trans ?_
    rw [State.lendJoin_lending, (s.lendJoin_only d g).lendWaited]
    by_cases e : h = g
    · subst e
      cases s.lending h <;> cases s.lendWaited d h <;> simp
    · simp [e]

theorem State.lendJoins_boost (hnd : gs.Nodup) (h : Nat) : (s.lendJoins d gs).boost h =
    if h ∈ gs ∧ (s.lendJoins d gs).lendBusy h = false then 0 else s.boost h := by
  induction gs generalizing s with
  | nil => simp [State.lendJoins]
  | cons g gs ih =>
    obtain ⟨hg, hnd⟩ := List.nodup_cons.mp hnd
    refine (ih (s.lendJoin d g) hnd).trans ?_
    rw [State.lendJoin_boost]
    by_cases e : h = g
    · subst e
      have hlending : ((s.lendJoin d h).lendJoins d gs).lending h = (s.lendJoin d h).lending h := by
        simp [State.lendJoins_lending, hg]
      have hbusy := ((s.lendJoin d h).lendJoins_only d gs).only.lendBusy hlending
      simp only [hg, false_and, if_false, true_and, List.mem_cons, true_or, ← hbusy]
      rfl
    · simp only [e, false_and, if_false, List.mem_cons, false_or]
      rfl

theorem State.lendJoins_pool (hnd : gs.Nodup) : (s.lendJoins d gs).f F.COL_LEND_STAT_POOL d =
    (s.f F.COL_LEND_STAT_POOL d + s.f F.COL_LEND_CFG_GRANT d * gs.countP (fun g => !s.lending g && s.lendWaited d g)) % 65536 := by
  induction gs generalizing s with
  | nil => exact (Nat.mod_eq_of_lt (bits_lt _ _ _)).symm
  | cons g gs ih =>
    obtain ⟨hg, hnd⟩ := List.nodup_cons.mp hnd
    refine (ih (s.lendJoin d g) hnd).trans ?_
    have hcount : gs.countP (fun h => !(s.lendJoin d g).lending h && (s.lendJoin d g).lendWaited d h) =
        gs.countP (fun h => !s.lending h && s.lendWaited d h) := by
      refine List.countP_congr fun h hh => ?_
      have hne : h ≠ g := fun e => hg (e ▸ hh)
      rw [(s.lendJoin_only d g).lendWaited, State.lendJoin_lending]
      simp [hne]
    rw [hcount, State.lendJoin_pool, (s.lendJoin_only d g).cfgF (x := F.COL_LEND_CFG_GRANT) rfl, List.countP_cons, Nat.mul_add]
    split <;> omega

theorem State.lendJoins_borrowed (hnd : gs.Nodup) (hb : ∀ g ∈ gs, 0 < s.boost g → (s.lendJoins d gs).lendBusy g = true) :
    (s.lendJoins d gs).f F.COL_LEND_STAT_BORROWED d = s.f F.COL_LEND_STAT_BORROWED d := by
  induction gs generalizing s with
  | nil => rfl
  | cons g gs ih =>
    obtain ⟨hg, hnd⟩ := List.nodup_cons.mp hnd
    have hlending : ((s.lendJoin d g).lendJoins d gs).lending g = (s.lendJoin d g).lending g := by
      simp [State.lendJoins_lending, hg]
    have hbusy := ((s.lendJoin d g).lendJoins_only d gs).only.lendBusy hlending
    refine (ih (s.lendJoin d g) hnd fun h hh h0 => ?_).trans (s.lendJoin_borrowed d g fun h0 => ?_)
    · rw [State.lendJoin_boost, if_neg (fun e : h = g ∧ _ => hg (e.1 ▸ hh))] at h0
      exact hb h (List.mem_cons_of_mem _ hh) h0
    · exact hbusy.symm.trans (hb g List.mem_cons_self h0)

end

/-! ### The second part of a period (R278) -/

/-- The pool covers a clock step, and core g may take it. -/
def State.LendFits (s : State) (d g : Nat) : Prop :=
  s.f F.COL_LEND_CFG_COST d ≤ s.f F.COL_LEND_STAT_POOL d - s.f F.COL_LEND_STAT_BORROWED d ∧
  s.lendBusy g = true ∧ s.boost g < s.f F.COL_LEND_CFG_MAX_STEPS d

/-- Core g takes a clock step from the pool. -/
def State.stepGiven (s : State) (d g : Nat) : State :=
  (s.setF F.COL_CORE_BOOST_STEPS (s.boost g + 1) g).addF F.COL_LEND_STAT_BORROWED (s.f F.COL_LEND_CFG_COST d) d

section
variable (s : State) (d g : Nat)

theorem State.stepGiven_only : StepsOnly s (s.stepGiven d g) :=
  (StepsOnly.setF s F.COL_CORE_BOOST_STEPS (s.boost g + 1) g (by decide)).trans
    (.setF _ F.COL_LEND_STAT_BORROWED _ d (by decide))

theorem State.stepGiven_lending (h : Nat) : (s.stepGiven d g).lending h = s.lending h := by
  rw [State.stepGiven, State.addF_eq, State.lending_setStat _ _ _ _ _ rfl, State.lending_setSteps]

theorem State.stepGiven_pool : (s.stepGiven d g).f F.COL_LEND_STAT_POOL d = s.f F.COL_LEND_STAT_POOL d := by
  simp (disch := decide) [State.stepGiven, State.f_setF_bits, State.f_setF_name]

theorem State.stepGiven_boost (h : Nat) :
    (s.stepGiven d g).boost h = if h = g then (s.boost g + 1) % 16 else s.boost h := by
  rw [State.stepGiven, State.addF_eq, State.boost_setStat _ _ _ _ _ rfl, State.boost_setSteps]

end

section
variable {s : State} {d g : Nat}

theorem State.lendGive_fits (hf : s.LendFits d g) : s.lendGive d g =
    { s.stepGiven d g with lendPtr := SMap.set id 0 s.lendPtr d (g + 1) } := by
  obtain ⟨hcost, hbusy, hmax⟩ := hf
  simp only [State.lendGive, Nat.not_lt.mpr hcost, hbusy, hmax]
  rfl

theorem State.lendGive_stays (hf : ¬s.LendFits d g) : s.lendGive d g = s := by
  unfold State.lendGive
  extract_lets cost budget
  split
  · rfl
  next hcost =>
    refine if_neg fun hb => hf ⟨Nat.not_lt.mp hcost, ?_⟩
    simpa using hb

/-- The registers after a step given are those of the step. -/
theorem State.lendGive_f (hf : s.LendFits d g) (x : Fld) (i : Nat) : (s.lendGive d g).f x i = (s.stepGiven d g).f x i := by
  rw [State.lendGive_fits hf]
  rfl

variable (s d g)

theorem State.lendGive_only : StepsOnly s (s.lendGive d g) := by
  by_cases hf : s.LendFits d g
  · rw [State.lendGive_fits hf]
    obtain ⟨⟨-, hreg, hlisted⟩, hcfg, hnew⟩ := s.stepGiven_only d g
    exact ⟨⟨rfl, hreg, hlisted⟩, hcfg, hnew⟩
  · rw [State.lendGive_stays hf]
    exact .refl s

theorem State.lendGive_lending (h : Nat) : (s.lendGive d g).lending h = s.lending h := by
  by_cases hf : s.LendFits d g
  · rw [State.lending, State.fb, State.lendGive_f hf]
    exact s.stepGiven_lending d g h
  · rw [State.lendGive_stays hf]

theorem State.lendGive_pool : (s.lendGive d g).f F.COL_LEND_STAT_POOL d = s.f F.COL_LEND_STAT_POOL d := by
  by_cases hf : s.LendFits d g
  · rw [State.lendGive_f hf, State.stepGiven_pool]
  · rw [State.lendGive_stays hf]

theorem State.lendGive_boost_other {h : Nat} (hne : h ≠ g) : (s.lendGive d g).boost h = s.boost h := by
  by_cases hf : s.LendFits d g
  · rw [State.boost, State.lendGive_f hf]
    exact (s.stepGiven_boost d g h).trans (if_neg hne)
  · rw [State.lendGive_stays hf]

variable {s d g}

theorem State.lendGive_boost_fits (hf : s.LendFits d g) : (s.lendGive d g).boost g = s.boost g + 1 := by
  have hmax : s.f F.COL_LEND_CFG_MAX_STEPS d < 16 := bits_lt _ _ _
  obtain ⟨-, -, hlt⟩ := id hf
  rw [State.boost, State.lendGive_f hf]
  refine (s.stepGiven_boost d g g).trans ?_
  rw [if_pos rfl, Nat.mod_eq_of_lt (by omega)]

end

/-- The second part of a period for some cores, in their order. -/
def State.lendGives (s : State) (d : Nat) (gs : List Nat) : State := gs.foldl (fun s g => s.lendGive d g) s

section
variable (d : Nat) (gs : List Nat) (s : State)

theorem State.lendGives_only : StepsOnly s (s.lendGives d gs) := .foldl (fun s g => s.lendGive_only d g) gs s

theorem State.lendGives_lending (h : Nat) : (s.lendGives d gs).lending h = s.lending h := by
  induction gs generalizing s with
  | nil => rfl
  | cons g gs ih => exact (ih _).trans (s.lendGive_lending d g h)

theorem State.lendGives_pool : (s.lendGives d gs).f F.COL_LEND_STAT_POOL d = s.f F.COL_LEND_STAT_POOL d := by
  induction gs generalizing s with
  | nil => rfl
  | cons g gs ih => exact (ih _).trans (s.lendGive_pool d g)

theorem State.lendGives_boost_other {h : Nat} (hh : h ∉ gs) : (s.lendGives d gs).boost h = s.boost h := by
  induction gs generalizing s with
  | nil => rfl
  | cons g gs ih =>
    obtain ⟨hne, hh⟩ := List.ne_and_not_mem_of_not_mem_cons hh
    exact (ih _ hh).trans (s.lendGive_boost_other d g hne)

/-- A core gains at most one step, where it is busy and below MAX_STEPS. -/
theorem State.lendGives_boost (hnd : gs.Nodup) (h : Nat) : (s.lendGives d gs).boost h = s.boost h ∨
    (s.lendGives d gs).boost h = s.boost h + 1 ∧ s.lendBusy h = true ∧ s.boost h < s.f F.COL_LEND_CFG_MAX_STEPS d := by
  induction gs generalizing s with
  | nil => exact .inl rfl
  | cons g gs ih =>
    obtain ⟨hg, hnd⟩ := List.nodup_cons.mp hnd
    by_cases e : h = g
    · subst e
      have hrest : (s.lendGives d (h :: gs)).boost h = (s.lendGive d h).boost h :=
        State.lendGives_boost_other d gs (s.lendGive d h) hg
      rw [hrest]
      by_cases hf : s.LendFits d h
      · exact .inr ⟨State.lendGive_boost_fits hf, hf.2⟩
      · rw [State.lendGive_stays hf]
        exact .inl rfl
    · have hkeep := s.lendGive_only d g
      rw [← s.lendGive_boost_other d g e, ← hkeep.only.lendBusy (s.lendGive_lending d g h),
        ← hkeep.cfgF (x := F.COL_LEND_CFG_MAX_STEPS) rfl]
      exact ih _ hnd

/-- Where one core alone is busy, it takes a step while the pool covers it. -/
theorem State.lendGives_only_busy (hnd : gs.Nodup) {g : Nat} (hg : g ∈ gs)
    (hb : ∀ h ∈ gs, h ≠ g → s.lendBusy h = false) :
    (s.LendFits d g → (s.lendGives d gs).boost g = s.boost g + 1) ∧
    (¬s.LendFits d g → (s.lendGives d gs).boost g = s.boost g) := by
  induction gs with
  | nil => exact absurd hg List.not_mem_nil
  | cons a gs ih =>
    obtain ⟨ha, hnd⟩ := List.nodup_cons.mp hnd
    by_cases e : a = g
    · subst e
      have hrest : (s.lendGives d (a :: gs)).boost a = (s.lendGive d a).boost a :=
        State.lendGives_boost_other d gs (s.lendGive d a) ha
      rw [hrest]
      exact ⟨State.lendGive_boost_fits, fun hf => by rw [State.lendGive_stays hf]⟩
    · have hidle := hb a List.mem_cons_self e
      have hskip : s.lendGives d (a :: gs) = s.lendGives d gs :=
        congrArg (fun v => State.lendGives v d gs) (State.lendGive_stays (fun hf => by simp [hf.2.1] at hidle))
      rw [hskip]
      exact ih hnd ((List.mem_cons.mp hg).resolve_left (Ne.symm e)) fun h hh => hb h (List.mem_cons_of_mem _ hh)

end

/-! ### A period (R278, R280, R282) -/

/-- A configuration written before takes effect. -/
def State.lendConfigured (s : State) (d : Nat) : State :=
  match SMap.get none s.lendNew d with
  | some v => { s.setReg ⟨.COL_LEND_CFG, d, 0, 0⟩ v with lendNew := SMap.set id none s.lendNew d none }
  | none => s

/-- The cores of a die in the order in which a period serves them. -/
def State.lendOrder (s : State) (d : Nat) (gs : List Nat) : List Nat :=
  gs.filter (fun g => SMap.get 0 s.lendPtr d ≤ g) ++ gs.filter (fun g => g < SMap.get 0 s.lendPtr d)

theorem State.lendPeriod_eq (s : State) (d : Nat) : s.lendPeriod d =
    let v := s.lendConfigured d
    if !v.fb F.COL_LEND_CFG_EN d || decide (v.f F.PWR_STATUS_CLK < 2500) then (v.lendReturn d).lendNext d
    else
      let w := v.lendJoins d (v.dieCores d)
      ((w.lendGives d (w.lendOrder d (v.dieCores d))).lendCount d).lendNext d := rfl

theorem mem_lendOrder {s : State} {d g : Nat} {gs : List Nat} : g ∈ s.lendOrder d gs ↔ g ∈ gs := by
  have := Nat.lt_or_ge g (SMap.get 0 s.lendPtr d)
  simp only [State.lendOrder, List.mem_append, List.mem_filter, decide_eq_true_eq]
  tauto

theorem lendOrder_nodup {s : State} {d : Nat} {gs : List Nat} (h : gs.Nodup) : (s.lendOrder d gs).Nodup := by
  refine List.nodup_append'.mpr ⟨h.filter _, h.filter _, fun g hg hg' => ?_⟩
  simp only [List.mem_filter, decide_eq_true_eq] at hg hg'
  omega

/-- The cores of a die, in rising order. -/
theorem State.dieCores_sorted (s : State) (d : Nat) : (s.dieCores d).Pairwise (· < ·) :=
  (List.pairwise_lt_range.filter _).filter _

theorem State.mem_dieCores {s : State} {d g : Nat} (h : g ∈ s.dieCores d) : g / 128 = d := by
  simpa using (List.mem_filter.mp h).2

section
variable (s : State) (d : Nat)

theorem State.lendConfigured_some {s : State} {d : Nat} {v : Word} (h : SMap.get none s.lendNew d = some v) :
    s.lendConfigured d =
      { s.setReg ⟨.COL_LEND_CFG, d, 0, 0⟩ v with lendNew := SMap.set id none s.lendNew d none } := by
  rw [State.lendConfigured, h]

theorem State.lendConfigured_none {s : State} {d : Nat} (h : SMap.get none s.lendNew d = none) : s.lendConfigured d = s := by
  rw [State.lendConfigured, h]

theorem State.lendConfigured_spec : LendOnly s (s.lendConfigured d) ∧
    (s.lendConfigured d).reg ⟨.COL_LEND_CFG, d, 0, 0⟩ =
      (SMap.get none s.lendNew d).getD (s.reg ⟨.COL_LEND_CFG, d, 0, 0⟩) ∧
    SMap.get none (s.lendConfigured d).lendNew d = none ∧
    ∀ r : Reg, r.name ≠ .COL_LEND_CFG → (s.lendConfigured d).reg r = s.reg r := by
  cases hnew : SMap.get none s.lendNew d with
  | none =>
    rw [State.lendConfigured_none hnew]
    exact ⟨.refl s, rfl, hnew, fun _ _ => rfl⟩
  | some v =>
    rw [State.lendConfigured_some hnew]
    obtain ⟨-, hreg, hlisted⟩ := LendOnly.setReg s ⟨.COL_LEND_CFG, d, 0, 0⟩ v (by simp [lendRegs])
    exact ⟨⟨rfl, hreg, hlisted⟩, s.reg_setReg_same .., SMap.get_set_same id none s.lendNew d none,
      fun r hr => s.reg_setReg_other v (fun e => hr (e ▸ rfl))⟩

theorem State.lendCount_only : StepsOnly s (s.lendCount d) :=
  (StepsOnly.setF s F.COL_LEND_STAT_LENDERS _ d (by decide)).trans (.setF _ F.COL_LEND_STAT_BORROWERS _ d (by decide))

theorem State.lendCount_core (h : Nat) : (s.lendCount d).boost h = s.boost h ∧ (s.lendCount d).lending h = s.lending h := by
  refine ⟨?_, ?_⟩
  · exact (State.boost_setStat _ _ _ _ _ rfl).trans (State.boost_setStat _ _ _ _ _ rfl)
  · exact (State.lending_setStat _ _ _ _ _ rfl).trans (State.lending_setStat _ _ _ _ _ rfl)

theorem State.lendCount_stat : (s.lendCount d).f F.COL_LEND_STAT_POOL d = s.f F.COL_LEND_STAT_POOL d ∧
    (s.lendCount d).f F.COL_LEND_STAT_BORROWED d = s.f F.COL_LEND_STAT_BORROWED d := by
  simp (disch := decide) [State.lendCount, State.f_setF_bits]

theorem State.lendNext_reg (r : Reg) : (s.lendNext d).reg r = s.reg r := rfl

theorem State.lendNext_period : SMap.get 0 (s.lendNext d).lendAt d = s.clk.now ∧
    ∀ g, g / 128 = d → SMap.get 0 (s.lendNext d).cycles.occupied g = 0 := by
  refine ⟨SMap.get_set_same .., fun g hg => ?_⟩
  refine (SMap.get_filter_keys 0 s.cycles.occupied (fun g => decide (g / 128 ≠ d)) g).trans (if_neg ?_)
  simp [hg]

end

/-! ### A period that returns every core to its nominal clock (R280) -/

/-- Some cores at their nominal clock, none of them lending. -/
def State.coresReturned (s : State) (gs : List Nat) : State :=
  gs.foldl (fun s g => (s.setF F.COL_CORE_BOOST_STEPS 0 g).setF F.COL_CORE_BOOST_LENDING 0 g) s

section
variable (s : State)

theorem State.coresReturned_only (gs : List Nat) : StepsOnly s (s.coresReturned gs) :=
  .foldl (fun s g => (StepsOnly.setF s F.COL_CORE_BOOST_STEPS 0 g (by decide)).trans
    (.setF _ F.COL_CORE_BOOST_LENDING 0 g (by decide))) gs s

theorem State.coresReturned_core (gs : List Nat) (h : Nat) : ((s.coresReturned gs).boost h = if h ∈ gs then 0 else s.boost h) ∧
    (s.coresReturned gs).lending h = (decide (h ∉ gs) && s.lending h) := by
  induction gs generalizing s with
  | nil => simp [State.coresReturned]
  | cons g gs ih =>
    obtain ⟨hboost, hlending⟩ := ih ((s.setF F.COL_CORE_BOOST_STEPS 0 g).setF F.COL_CORE_BOOST_LENDING 0 g)
    refine ⟨hboost.trans ?_, hlending.trans ?_⟩
    · rw [State.boost_setLending, State.boost_setSteps]
      by_cases e : h = g <;> simp [e]
    · have hset := State.lending_setLending (s.setF F.COL_CORE_BOOST_STEPS 0 g) g h false
      rw [Bool.toNat_false, State.lending_setSteps] at hset
      rw [hset]
      by_cases e : h = g <;> simp [e]

theorem State.lendReturn_eq (d : Nat) : s.lendReturn d = (((s.coresReturned (s.dieCores d)).setF F.COL_LEND_STAT_POOL 0 d).setF
    F.COL_LEND_STAT_BORROWED 0 d).lendCount d := rfl

theorem State.lendReturn_only (d : Nat) : StepsOnly s (s.lendReturn d) :=
  (((s.coresReturned_only (s.dieCores d)).trans (.setF _ F.COL_LEND_STAT_POOL 0 d (by decide))).trans
    (.setF _ F.COL_LEND_STAT_BORROWED 0 d (by decide))).trans (State.lendCount_only _ d)

theorem State.lendReturn_stat (d : Nat) :
    (s.lendReturn d).f F.COL_LEND_STAT_POOL d = 0 ∧ (s.lendReturn d).f F.COL_LEND_STAT_BORROWED d = 0 := by
  rw [State.lendReturn_eq, (State.lendCount_stat _ d).1, (State.lendCount_stat _ d).2]
  simp (disch := decide) [State.f_setF_same, State.f_setF_bits]

theorem State.lendReturn_core {d g : Nat} (hg : g ∈ s.dieCores d) :
    (s.lendReturn d).boost g = 0 ∧ (s.lendReturn d).lending g = false := by
  obtain ⟨hboost, hlending⟩ := s.coresReturned_core (s.dieCores d) g
  rw [State.lendReturn_eq, (State.lendCount_core _ d g).1, (State.lendCount_core _ d g).2,
    State.boost_setStat _ _ _ _ _ rfl, State.boost_setStat _ _ _ _ _ rfl, State.lending_setStat _ _ _ _ _ rfl,
    State.lending_setStat _ _ _ _ _ rfl, hboost, hlending]
  simp [hg]

end

/-! ### A period that lends (R278) -/

/-- The cores of a die before the steps are given: new lenders, and the steps of cores that are not busy returned. -/
def State.dieJoined (s : State) (d : Nat) : State := s.lendJoins d (s.dieCores d)

/-- Both parts of a period that lends. -/
def State.dieServed (s : State) (d : Nat) : State :=
  ((s.dieJoined d).lendGives d ((s.dieJoined d).lendOrder d (s.dieCores d))).lendCount d

section
variable (s : State) (d : Nat)

theorem State.dieCores_nodup : (s.dieCores d).Nodup := (s.dieCores_sorted d).imp fun h => h.ne

theorem State.dieJoined_only : StepsOnly s (s.dieJoined d) := s.lendJoins_only d _

theorem State.dieServed_after : StepsOnly (s.dieJoined d) (s.dieServed d) :=
  ((s.dieJoined d).lendGives_only d _).trans (State.lendCount_only _ d)

theorem State.dieServed_only : StepsOnly s (s.dieServed d) := (s.dieJoined_only d).trans (s.dieServed_after d)

theorem State.dieServed_lending (g : Nat) : (s.dieServed d).lending g = (s.dieJoined d).lending g := by
  rw [State.dieServed, (State.lendCount_core _ d g).2, State.lendGives_lending]

theorem State.dieServed_boost (g : Nat) : (s.dieServed d).boost g =
    ((s.dieJoined d).lendGives d ((s.dieJoined d).lendOrder d (s.dieCores d))).boost g := by
  rw [State.dieServed, (State.lendCount_core _ d g).1]

theorem State.dieServed_busy (g : Nat) : (s.dieServed d).lendBusy g = (s.dieJoined d).lendBusy g :=
  (s.dieServed_after d).only.lendBusy (s.dieServed_lending d g)

variable {s d} {g : Nat} (hg : g ∈ s.dieCores d)
include hg

theorem State.dieJoined_boost : (s.dieJoined d).boost g = if (s.dieServed d).lendBusy g = false then 0 else s.boost g := by
  rw [State.dieServed_busy]
  exact (s.lendJoins_boost d _ (s.dieCores_nodup d) g).trans (if_congr (and_iff_right hg) rfl rfl)

theorem State.dieServed_new_lender : (s.dieServed d).lending g = (s.lending g || s.lendWaited d g) := by
  rw [State.dieServed_lending, State.dieJoined, State.lendJoins_lending]
  simp [hg]

theorem State.dieServed_idle (hb : (s.dieServed d).lendBusy g = false) : (s.dieServed d).boost g = 0 := by
  have hjoin := (State.dieJoined_boost hg).trans (if_pos hb)
  rw [State.dieServed_boost]
  rcases (s.dieJoined d).lendGives_boost d _ (lendOrder_nodup (s.dieCores_nodup d)) g with h | ⟨-, hbusy, -⟩
  · rw [h, hjoin]
  · rw [State.dieServed_busy, hbusy] at hb
    contradiction

theorem State.dieServed_gains (hb : (s.dieServed d).lendBusy g = true) : (s.dieServed d).boost g = s.boost g ∨
    (s.dieServed d).boost g = s.boost g + 1 ∧ s.boost g < s.f F.COL_LEND_CFG_MAX_STEPS d := by
  have hjoin := (State.dieJoined_boost hg).trans (if_neg (by simp [hb]))
  rw [State.dieServed_boost, ← hjoin, ← (s.dieJoined_only d).cfgF (x := F.COL_LEND_CFG_MAX_STEPS) rfl]
  exact ((s.dieJoined d).lendGives_boost d _ (lendOrder_nodup (s.dieCores_nodup d)) g).imp_right
    fun ⟨hone, _, hmax⟩ => ⟨hone, hmax⟩

/-- The one busy core takes a step while the pool covers it. -/
theorem State.dieServed_only_busy (hb : (s.dieServed d).lendBusy g = true)
    (hother : ∀ h ∈ s.dieCores d, h ≠ g → s.boost h = 0 ∧ (s.dieServed d).lendBusy h = false) :
    (s.dieServed d).boost g = s.boost g + if s.f F.COL_LEND_CFG_COST d ≤
      (s.dieServed d).f F.COL_LEND_STAT_POOL d - s.f F.COL_LEND_STAT_BORROWED d ∧
      s.boost g < s.f F.COL_LEND_CFG_MAX_STEPS d then 1 else 0 := by
  have hjoin := (State.dieJoined_boost hg).trans (if_neg (by simp [hb]))
  have hpool : (s.dieServed d).f F.COL_LEND_STAT_POOL d = (s.dieJoined d).f F.COL_LEND_STAT_POOL d := by
    rw [State.dieServed, (State.lendCount_stat _ d).1, State.lendGives_pool]
  have hborrowed : (s.dieJoined d).f F.COL_LEND_STAT_BORROWED d = s.f F.COL_LEND_STAT_BORROWED d := by
    refine s.lendJoins_borrowed d _ (s.dieCores_nodup d) fun h hh h0 => ?_
    by_cases e : h = g
    · exact (s.dieServed_busy d h).symm.trans (e ▸ hb)
    · exact absurd (hother h hh e).1 h0.ne'
  have hfits : (s.dieJoined d).LendFits d g ↔ s.f F.COL_LEND_CFG_COST d ≤
      (s.dieServed d).f F.COL_LEND_STAT_POOL d - s.f F.COL_LEND_STAT_BORROWED d ∧
      s.boost g < s.f F.COL_LEND_CFG_MAX_STEPS d := by
    rw [State.LendFits, (s.dieJoined_only d).cfgF (x := F.COL_LEND_CFG_COST) rfl,
      (s.dieJoined_only d).cfgF (x := F.COL_LEND_CFG_MAX_STEPS) rfl, hjoin, hborrowed, ← hpool, ← s.dieServed_busy, hb]
    simp
  obtain ⟨htakes, hstays⟩ := (s.dieJoined d).lendGives_only_busy d _ (lendOrder_nodup (s.dieCores_nodup d))
    (mem_lendOrder.mpr hg) fun h hh hne => (s.dieServed_busy d h).symm.trans (hother h (mem_lendOrder.mp hh) hne).2
  rw [State.dieServed_boost]
  split
  next h => rw [htakes (hfits.mpr h), hjoin]
  next h => rw [hstays (fun hf => h (hfits.mp hf)), hjoin, Nat.add_zero]

end

theorem State.dieServed_pool (s : State) (d : Nat) : (s.dieServed d).f F.COL_LEND_STAT_POOL d =
    (s.f F.COL_LEND_STAT_POOL d + s.f F.COL_LEND_CFG_GRANT d *
      (s.dieCores d).countP (fun g => (s.dieServed d).lending g && !s.lending g)) % 65536 := by
  have hcount : (s.dieCores d).countP (fun g => (s.dieServed d).lending g && !s.lending g) =
      (s.dieCores d).countP (fun g => !s.lending g && s.lendWaited d g) := by
    refine List.countP_congr fun g hg => ?_
    rw [State.dieServed_new_lender hg]
    cases s.lending g <;> simp
  rw [hcount, State.dieServed, (State.lendCount_stat _ d).1, State.lendGives_pool]
  exact s.lendJoins_pool d _ (s.dieCores_nodup d)

/-! ### A lender that wakes (R279) -/

/-- Whether the borrower found so far keeps its place before core g, or g takes it. -/
def State.higherBorrower (s : State) (b : Option Nat) (g : Nat) : Option Nat :=
  if s.boost g = 0 then b else
  match b with
  | none => some g
  | some h => if s.boost h ≤ s.boost g then some g else b

theorem State.topBorrower_eq (s : State) (d : Nat) : s.topBorrower d = (s.dieCores d).foldl s.higherBorrower none := rfl

/-- The borrower found is core g or the one found so far. -/
theorem State.mem_higherBorrower {s : State} {b : Option Nat} {g j : Nat} (h : j ∈ s.higherBorrower b g) : j = g ∨ j ∈ b := by
  unfold State.higherBorrower at h
  split at h
  · exact .inr h
  · cases b with
    | none => exact .inl (Option.mem_some.mp h).symm
    | some i =>
      simp only at h
      split at h
      · exact .inl (Option.mem_some.mp h).symm
      · exact .inr h

section
variable {s : State} {h : Nat} {gs : List Nat}

/-- A borrower that no core of the list reaches keeps its place. -/
theorem State.higherBorrower_keeps (hlow : ∀ j ∈ gs, s.boost j < s.boost h) :
    gs.foldl s.higherBorrower (some h) = some h := by
  induction gs with
  | nil => rfl
  | cons g gs ih =>
    have hg : s.higherBorrower (some h) g = some h := by
      have := hlow g List.mem_cons_self
      simp [State.higherBorrower, Nat.not_le.mpr this]
    rw [List.foldl_cons, hg]
    exact ih fun j hj => hlow j (List.mem_cons_of_mem _ hj)

/-- In a rising list the core with most steps, the highest number on a tie, is found. -/
theorem State.higherBorrower_top (hsorted : gs.Pairwise (· < ·)) (hh : h ∈ gs) (h0 : 0 < s.boost h)
    (htop : ∀ j ∈ gs, s.boost j < s.boost h ∨ s.boost j = s.boost h ∧ j ≤ h) (b : Option Nat)
    (hb : ∀ j ∈ b, s.boost j ≤ s.boost h) : gs.foldl s.higherBorrower b = some h := by
  induction gs generalizing b with
  | nil => exact absurd hh List.not_mem_nil
  | cons g gs ih =>
    obtain ⟨hlt, hsorted⟩ := List.pairwise_cons.mp hsorted
    rw [List.foldl_cons]
    by_cases e : h = g
    · subst e
      have hnow : s.higherBorrower b h = some h := by
        cases b with
        | none => simp [State.higherBorrower, h0.ne']
        | some j => simp [State.higherBorrower, h0.ne', hb j rfl]
      rw [hnow]
      refine State.higherBorrower_keeps fun j hj => ?_
      have := hlt j hj
      exact (htop j (List.mem_cons_of_mem _ hj)).resolve_right (by omega)
    · refine ih hsorted ((List.mem_cons.mp hh).resolve_left e) (fun j hj => htop j (List.mem_cons_of_mem _ hj)) _ fun j hj => ?_
      have hgh : s.boost g ≤ s.boost h := by
        have := htop g List.mem_cons_self
        omega
      rcases State.mem_higherBorrower hj with rfl | hj
      · exact hgh
      · exact hb j hj

end

theorem State.topBorrower_of_top {s : State} {d h : Nat} (hh : h ∈ s.dieCores d) (h0 : 0 < s.boost h)
    (htop : ∀ j ∈ s.dieCores d, s.boost j < s.boost h ∨ s.boost j = s.boost h ∧ j ≤ h) : s.topBorrower d = some h :=
  (s.topBorrower_eq d).trans (State.higherBorrower_top (s.dieCores_sorted d) hh h0 htop none nofun)

/-- One step taken back from core h. -/
def State.stepReclaimed (s : State) (d h : Nat) : State :=
  (s.setF F.COL_CORE_BOOST_STEPS (s.boost h - 1) h).setF F.COL_LEND_STAT_BORROWED
    (s.f F.COL_LEND_STAT_BORROWED d - s.f F.COL_LEND_CFG_COST d) d

theorem State.lendReclaim_covered {s : State} {d : Nat} (n : Nat)
    (h : s.f F.COL_LEND_STAT_BORROWED d ≤ s.f F.COL_LEND_STAT_POOL d) : State.lendReclaim d n s = s := by
  cases n with
  | zero => rfl
  | succ n => exact if_pos h

theorem State.lendReclaim_from {s : State} {d h : Nat} (n : Nat)
    (hover : s.f F.COL_LEND_STAT_POOL d < s.f F.COL_LEND_STAT_BORROWED d) (htop : s.topBorrower d = some h) :
    State.lendReclaim d (n + 1) s = State.lendReclaim d n (s.stepReclaimed d h) := by
  rw [State.lendReclaim, if_neg (Nat.not_le.mpr hover), htop]
  rfl

section
variable (s : State) (d h : Nat)

theorem State.stepReclaimed_stat :
    (s.stepReclaimed d h).f F.COL_LEND_STAT_POOL d = s.f F.COL_LEND_STAT_POOL d ∧
    (s.stepReclaimed d h).f F.COL_LEND_STAT_BORROWED d = s.f F.COL_LEND_STAT_BORROWED d - s.f F.COL_LEND_CFG_COST d := by
  have hlt : s.f F.COL_LEND_STAT_BORROWED d < 65536 := bits_lt _ _ _
  have hmod : (s.f F.COL_LEND_STAT_BORROWED d - s.f F.COL_LEND_CFG_COST d) % 65536 =
      s.f F.COL_LEND_STAT_BORROWED d - s.f F.COL_LEND_CFG_COST d := Nat.mod_eq_of_lt (by omega)
  simp (disch := decide) [State.stepReclaimed, State.f_setF_same, State.f_setF_bits, State.f_setF_name, hmod]

theorem State.stepReclaimed_core (j : Nat) :
    (s.stepReclaimed d h).boost j = (if j = h then s.boost h - 1 else s.boost j) ∧
    (s.stepReclaimed d h).lending j = s.lending j := by
  have hlt := s.boost_lt h
  rw [State.stepReclaimed, State.boost_setStat _ _ _ _ _ rfl, State.boost_setSteps, State.lending_setStat _ _ _ _ _ rfl,
    State.lending_setSteps, Nat.mod_eq_of_lt (by omega)]
  exact ⟨rfl, rfl⟩

end

/-- What reclaiming steps leaves: all but the registers, the lending cores, the pool. -/
theorem State.lendReclaim_rest (d n : Nat) (s : State) :
    State.lendReclaim d n s = { s with regs := (State.lendReclaim d n s).regs } ∧
    (∀ g, (State.lendReclaim d n s).lending g = s.lending g) ∧
    (State.lendReclaim d n s).f F.COL_LEND_STAT_POOL d = s.f F.COL_LEND_STAT_POOL d := by
  induction n generalizing s with
  | zero => exact ⟨rfl, fun _ => rfl, rfl⟩
  | succ n ih =>
    by_cases hover : s.f F.COL_LEND_STAT_BORROWED d ≤ s.f F.COL_LEND_STAT_POOL d
    · rw [State.lendReclaim_covered _ hover]
      exact ⟨rfl, fun _ => rfl, rfl⟩
    · cases htop : s.topBorrower d with
      | none =>
        have hstays : State.lendReclaim d (n + 1) s = s := by rw [State.lendReclaim, if_neg hover, htop]
        rw [hstays]
        exact ⟨rfl, fun _ => rfl, rfl⟩
      | some h =>
        obtain ⟨hrest, hlending, hpool⟩ := ih (s.stepReclaimed d h)
        rw [State.lendReclaim_from _ (Nat.not_le.mp hover) htop]
        exact ⟨hrest, fun g => (hlending g).trans (s.stepReclaimed_core d h g).2, hpool.trans (s.stepReclaimed_stat d h).1⟩

/-- Core g lends no more, and its GRANT leaves the pool. -/
def State.lenderWoken (s : State) (g : Nat) : State :=
  let v := s.setF F.COL_CORE_BOOST_LENDING 0 g
  v.setF F.COL_LEND_STAT_POOL (v.f F.COL_LEND_STAT_POOL (g / 128) - v.f F.COL_LEND_CFG_GRANT (g / 128)) (g / 128)

section
variable (s : State) (g : Nat)

theorem State.lenderWoken_only : StepsOnly s (s.lenderWoken g) :=
  (StepsOnly.setF s F.COL_CORE_BOOST_LENDING 0 g (by decide)).trans (.setF _ F.COL_LEND_STAT_POOL _ _ (by decide))

theorem State.lenderWoken_core : (s.lenderWoken g).lending g = false ∧ ∀ h, (s.lenderWoken g).boost h = s.boost h := by
  have hset := s.lending_setLending g g false
  rw [if_pos rfl, Bool.toNat_false] at hset
  refine ⟨(State.lending_setStat _ _ _ _ _ rfl).trans hset, fun h => ?_⟩
  exact (State.boost_setStat _ _ _ _ _ rfl).trans (s.boost_setLending ..)

theorem State.lenderWoken_stat :
    (s.lenderWoken g).f F.COL_LEND_STAT_POOL (g / 128) =
      s.f F.COL_LEND_STAT_POOL (g / 128) - s.f F.COL_LEND_CFG_GRANT (g / 128) ∧
    (s.lenderWoken g).f F.COL_LEND_STAT_BORROWED (g / 128) = s.f F.COL_LEND_STAT_BORROWED (g / 128) := by
  have hlt : s.f F.COL_LEND_STAT_POOL (g / 128) < 65536 := bits_lt _ _ _
  have hmod : (s.f F.COL_LEND_STAT_POOL (g / 128) - s.f F.COL_LEND_CFG_GRANT (g / 128)) % 65536 =
      s.f F.COL_LEND_STAT_POOL (g / 128) - s.f F.COL_LEND_CFG_GRANT (g / 128) := Nat.mod_eq_of_lt (by omega)
  simp (disch := decide) [State.lenderWoken, State.f_setF_same, State.f_setF_bits, State.f_setF_name, hmod]

end

theorem execLenderWake_stays {s : State} {g : Nat} (h : s.lending g = false ∨ s.idleAtCol g = true) :
    exec (.lenderWake g) s = .next s := if_pos (by simpa using h)

theorem execLenderWake_wakes {s : State} {g : Nat} (hl : s.lending g = true) (hi : s.idleAtCol g = false) :
    exec (.lenderWake g) s = .next ((State.lendReclaim (g / 128) 1537 (s.lenderWoken g)).lendCount (g / 128)) := by
  have hgo : (!s.lending g || s.idleAtCol g) = false := by simp [hl, hi]
  simp only [exec, execLenderWake, hgo, Bool.false_eq_true, if_false, State.lenderWoken]

/-! ### A configuration written (R282) -/

theorem execColLendCfgWrite_refused {s : State} {d : Nat} {v : Word}
    (h : 2 ≤ d ∨ bits v 8 8 = 0 ∨ bits v 16 4 = 0 ∨ 12 < bits v 24 4) : exec (.colLendCfgWrite d v) s = .next s := by
  by_cases hd : d < 2
  · exact (if_pos hd).trans (congrArg Host.Outcome.next (if_pos (h.resolve_left (Nat.not_le.mpr hd))))
  · exact if_neg hd

theorem execColLendCfgWrite_written {s : State} {d : Nat} {v : Word} (hd : d < 2)
    (h : ¬(bits v 8 8 = 0 ∨ bits v 16 4 = 0 ∨ 12 < bits v 24 4)) : exec (.colLendCfgWrite d v) s =
      .next { s with lendNew := SMap.set id none s.lendNew d (some (v &&& 0xFFFFFFFF0F0FFF01#64)) } :=
  (if_pos hd).trans (congrArg Host.Outcome.next (if_neg h))

/-! ### The parts of the statement -/

/-- What every period of a die leaves. -/
theorem State.lendNext_frame {s w : State} {d : Nat} (h : StepsOnly (s.lendConfigured d) w) :
    (w.lendNext d).mem = s.mem ∧ SMap.get 0 (w.lendNext d).lendAt d = s.clk.now ∧
    (∀ g, g / 128 = d → SMap.get 0 (w.lendNext d).cycles.occupied g = 0) ∧
    (w.lendNext d).reg ⟨.COL_LEND_CFG, d, 0, 0⟩ =
      (SMap.get none s.lendNew d).getD (s.reg ⟨.COL_LEND_CFG, d, 0, 0⟩) ∧
    SMap.get none (w.lendNext d).lendNew d = none := by
  obtain ⟨honly, hcfg, hnew, -⟩ := s.lendConfigured_spec d
  obtain ⟨hat, hocc⟩ := w.lendNext_period d
  have hw := honly.trans h.only
  have hreg := (w.lendNext_reg d ⟨.COL_LEND_CFG, d, 0, 0⟩).trans ((h.cfg d).trans hcfg)
  have hnone : SMap.get none w.lendNew d = none := by rw [h.lendNew, hnew]
  exact ⟨hw.mem, hat.trans (congrArg Clock.now hw.clk), hocc, hreg, hnone⟩

/-- The registers but the configuration, at the period's begin. -/
theorem State.lendConfigured_f {s : State} {d : Nat} {x : Fld} (hx : x.reg ≠ .COL_LEND_CFG) (i : Nat) :
    (s.lendConfigured d).f x i = s.f x i := by
  obtain ⟨-, -, -, hreg⟩ := s.lendConfigured_spec d
  rw [State.f, State.f, hreg _ hx]

theorem execLendingPeriod_none {s : State} {d : Nat} (hd : ¬d < 2) : exec (.lendingPeriod d) s = .next s := if_neg hd

theorem execLendingPeriod_die {s : State} {d : Nat} (hd : d < 2) :
    exec (.lendingPeriod d) s = .next (s.lendPeriod d) := if_pos hd

theorem StepsOnly.enabled {s t : State} (h : StepsOnly s t) (d : Nat) :
    t.fb F.COL_LEND_CFG_EN d = s.fb F.COL_LEND_CFG_EN d :=
  congrArg (· == 1) (h.cfgF (x := F.COL_LEND_CFG_EN) rfl d)

/-- Lending is on, and the clock at 2.5 GHz, with the configuration that takes effect. -/
def State.LendOn (s : State) (d : Nat) : Prop :=
  (s.lendConfigured d).fb F.COL_LEND_CFG_EN d = true ∧ 2500 ≤ s.f F.PWR_STATUS_CLK

/-- A die after the lending of a period, the next period not begun. -/
def State.DieAfter (s w : State) (d : Nat) : Prop :=
  s.LendOn d ∧ w = (s.lendConfigured d).dieServed d ∨ ¬s.LendOn d ∧ w = (s.lendConfigured d).lendReturn d

theorem State.lendPeriod_after (s : State) (d : Nat) : ∃ w, s.lendPeriod d = w.lendNext d ∧ s.DieAfter w d := by
  have hclk : (s.lendConfigured d).f F.PWR_STATUS_CLK = s.f F.PWR_STATUS_CLK := State.lendConfigured_f (by decide) 0
  have hoff : (!(s.lendConfigured d).fb F.COL_LEND_CFG_EN d || decide ((s.lendConfigured d).f F.PWR_STATUS_CLK < 2500)) = true ↔
      ¬s.LendOn d := by
    rw [State.LendOn, hclk]
    simp only [Bool.or_eq_true, Bool.not_eq_true', decide_eq_true_eq, not_and_or, Bool.not_eq_true, Nat.not_le]
  rw [State.lendPeriod_eq]
  by_cases h : s.LendOn d
  · exact ⟨_, if_neg (fun e => hoff.mp e h), .inl ⟨h, rfl⟩⟩
  · exact ⟨_, if_pos (hoff.mpr h), .inr ⟨h, rfl⟩⟩

section
variable {s w : State} {d : Nat}

theorem State.DieAfter.only (h : s.DieAfter w d) : StepsOnly (s.lendConfigured d) w := by
  obtain ⟨-, rfl⟩ | ⟨-, rfl⟩ := h
  · exact (s.lendConfigured d).dieServed_only d
  · exact (s.lendConfigured d).lendReturn_only d

theorem State.DieAfter.enabled (h : s.DieAfter w d) :
    w.fb F.COL_LEND_CFG_EN d = (s.lendConfigured d).fb F.COL_LEND_CFG_EN d := StepsOnly.enabled h.only d

theorem State.DieAfter.served (h : s.DieAfter w d) (hen : w.fb F.COL_LEND_CFG_EN d = true)
    (hclk : 2500 ≤ s.f F.PWR_STATUS_CLK) : w = (s.lendConfigured d).dieServed d := by
  have hen' := h.enabled.symm.trans hen
  obtain ⟨-, hw⟩ | ⟨hoff, -⟩ := h
  · exact hw
  · exact absurd ⟨hen', hclk⟩ hoff

theorem State.DieAfter.returned (h : s.DieAfter w d)
    (hoff : w.fb F.COL_LEND_CFG_EN d = false ∨ s.f F.PWR_STATUS_CLK < 2500) : w = (s.lendConfigured d).lendReturn d := by
  rw [h.enabled] at hoff
  obtain ⟨⟨hen, hclk⟩, -⟩ | ⟨-, hw⟩ := h
  · rw [hen] at hoff
    exact absurd hclk (Nat.not_le.mpr (hoff.resolve_left (by decide)))
  · exact hw

/-- A core is busy where the statement says so. -/
theorem State.lendBusy_iff {g : Nat} (h : LendOnly s w) (hg : g / 128 = d) : w.lendBusy g = true ↔
    w.lending g = false ∧ 0 < SMap.get 0 s.cycles.occupied g ∧
      9 * (s.clk.now - SMap.get 0 s.lendAt d) ≤ 10 * SMap.get 0 s.cycles.occupied g := by
  rw [State.lendBusy_eq, h.mostlyOccupied, State.mostlyOccupied, hg]
  simp

end

/-! ### The configured die as the period found it -/

section
variable {s : State} {d : Nat}

theorem State.lendConfigured_core (g : Nat) :
    (s.lendConfigured d).boost g = s.boost g ∧ (s.lendConfigured d).lending g = s.lending g :=
  ⟨State.lendConfigured_f (x := F.COL_CORE_BOOST_STEPS) (by decide) g,
    congrArg (· == 1) (State.lendConfigured_f (x := F.COL_CORE_BOOST_LENDING) (by decide) g)⟩

theorem State.lendConfigured_dieCores : (s.lendConfigured d).dieCores d = s.dieCores d := (s.lendConfigured_spec d).1.dieCores d

theorem State.mem_lendConfigured {g : Nat} (hg : g ∈ s.dieCores d) : g ∈ (s.lendConfigured d).dieCores d := by
  rwa [State.lendConfigured_dieCores]

/-- A core has waited by the configuration that has taken effect. -/
theorem State.lendConfigured_waited {w : State} (h : StepsOnly (s.lendConfigured d) w) (g : Nat) :
    (s.lendConfigured d).lendWaited d g =
      (s.idleAtCol g && decide (w.f F.COL_LEND_CFG_WAIT d ≤ s.clk.now - (s.core g).iss.idle.getD s.clk.now)) := by
  obtain ⟨honly, -⟩ := s.lendConfigured_spec d
  rw [State.lendWaited, honly.idleAtCol, honly.core, honly.clk, h.cfgF (x := F.COL_LEND_CFG_WAIT) rfl]

end

section
variable {s w : State} {d : Nat} (h : s.DieAfter w d)
include h

theorem State.DieAfter.all_returned (hoff : w.fb F.COL_LEND_CFG_EN d = false ∨ s.f F.PWR_STATUS_CLK < 2500) :
    (∀ g ∈ s.dieCores d, w.boost g = 0 ∧ w.lending g = false) ∧
    w.f F.COL_LEND_STAT_POOL d = 0 ∧ w.f F.COL_LEND_STAT_BORROWED d = 0 := by
  rw [h.returned hoff, ← State.lendConfigured_dieCores (s := s) (d := d)]
  exact ⟨fun g hg => State.lendReturn_core _ hg, State.lendReturn_stat _ d⟩

variable (hen : w.fb F.COL_LEND_CFG_EN d = true) (hclk : 2500 ≤ s.f F.PWR_STATUS_CLK)
include hen hclk

theorem State.DieAfter.pool : w.f F.COL_LEND_STAT_POOL d = (s.f F.COL_LEND_STAT_POOL d +
    w.f F.COL_LEND_CFG_GRANT d * (s.dieCores d).countP (fun g => w.lending g && !s.lending g)) % 65536 := by
  have hlending (g : Nat) : (s.lendConfigured d).lending g = s.lending g := (State.lendConfigured_core g).2
  have hpool := (s.lendConfigured d).dieServed_pool d
  rw [← h.served hen hclk, State.lendConfigured_dieCores, State.lendConfigured_f (by decide),
    ← h.only.cfgF (x := F.COL_LEND_CFG_GRANT) rfl] at hpool
  simpa only [hlending] using hpool

section
variable {g : Nat} (hg : g ∈ s.dieCores d)
include hg

theorem State.DieAfter.new_lender : w.lending g = (s.lending g ||
    (s.idleAtCol g && decide (w.f F.COL_LEND_CFG_WAIT d ≤ s.clk.now - (s.core g).iss.idle.getD s.clk.now))) := by
  have hlending := State.dieServed_new_lender (s := s.lendConfigured d) (State.mem_lendConfigured hg)
  rwa [← h.served hen hclk, (State.lendConfigured_core g).2, State.lendConfigured_waited h.only] at hlending

theorem State.DieAfter.idle (hb : ¬w.lendBusy g = true) : w.boost g = 0 := by
  have hidle := State.dieServed_idle (s := s.lendConfigured d) (g := g) (State.mem_lendConfigured hg)
  rw [← h.served hen hclk] at hidle
  exact hidle (Bool.eq_false_of_not_eq_true hb)

theorem State.DieAfter.gains (hb : w.lendBusy g = true) :
    w.boost g = s.boost g ∨ w.boost g = s.boost g + 1 ∧ s.boost g < w.f F.COL_LEND_CFG_MAX_STEPS d := by
  have hgains := State.dieServed_gains (s := s.lendConfigured d) (g := g) (State.mem_lendConfigured hg)
  rw [← h.served hen hclk, (State.lendConfigured_core g).1, ← h.only.cfgF (x := F.COL_LEND_CFG_MAX_STEPS) rfl] at hgains
  exact hgains hb

theorem State.DieAfter.only_busy (hb : w.lendBusy g = true)
    (hother : ∀ j ∈ s.dieCores d, j ≠ g → s.boost j = 0 ∧ ¬w.lendBusy j = true) : w.boost g = s.boost g +
      if w.f F.COL_LEND_CFG_COST d ≤ w.f F.COL_LEND_STAT_POOL d - s.f F.COL_LEND_STAT_BORROWED d ∧
        s.boost g < w.f F.COL_LEND_CFG_MAX_STEPS d then 1 else 0 := by
  have hone := State.dieServed_only_busy (s := s.lendConfigured d) (g := g) (State.mem_lendConfigured hg)
  have hboost (j : Nat) : (s.lendConfigured d).boost j = s.boost j := (State.lendConfigured_core j).1
  simp only [← h.served hen hclk, hboost, State.lendConfigured_dieCores, ← h.only.cfgF (x := F.COL_LEND_CFG_COST) rfl,
    ← h.only.cfgF (x := F.COL_LEND_CFG_MAX_STEPS) rfl] at hone
  rw [State.lendConfigured_f (by decide)] at hone
  exact hone hb fun j hj hne => (hother j hj hne).imp_right fun hb => Bool.eq_false_of_not_eq_true hb

end
end

/-! ### The core that wakes, and what is taken back -/

section
variable (s : State) (g : Nat)

/-- The state after a lender has woken. -/
def State.lenderGone : State := (State.lendReclaim (g / 128) 1537 (s.lenderWoken g)).lendCount (g / 128)

theorem State.lenderGone_frame : s.lenderGone g = { s with regs := (s.lenderGone g).regs } ∧
    (s.lenderGone g).lending g = false ∧
    (s.lenderGone g).f F.COL_LEND_STAT_POOL (g / 128) =
      s.f F.COL_LEND_STAT_POOL (g / 128) - s.f F.COL_LEND_CFG_GRANT (g / 128) := by
  obtain ⟨hrest, hlending, hpool⟩ := State.lendReclaim_rest (g / 128) 1537 (s.lenderWoken g)
  unfold State.lenderGone
  generalize State.lendReclaim (g / 128) 1537 (s.lenderWoken g) = v at *
  refine ⟨?_, ?_, ?_⟩
  · rw [hrest]
    rfl
  · rw [(v.lendCount_core _ g).2, hlending, (s.lenderWoken_core g).1]
  · rw [(v.lendCount_stat _).1, hpool, (s.lenderWoken_stat g).1]

/-- Where the pool covers what is borrowed, nothing is taken back. -/
theorem State.lenderGone_covered
    (h : s.f F.COL_LEND_STAT_BORROWED (g / 128) ≤ (s.lenderGone g).f F.COL_LEND_STAT_POOL (g / 128)) :
    (s.lenderGone g).f F.COL_LEND_STAT_BORROWED (g / 128) = s.f F.COL_LEND_STAT_BORROWED (g / 128) ∧
    ∀ j, (s.lenderGone g).boost j = s.boost j := by
  obtain ⟨hpool, hborrowed⟩ := s.lenderWoken_stat g
  obtain ⟨-, -, hgonePool⟩ := s.lenderGone_frame g
  rw [hgonePool, ← hpool, ← hborrowed] at h
  have hgone : s.lenderGone g = (s.lenderWoken g).lendCount (g / 128) := by
    rw [State.lenderGone, State.lendReclaim_covered _ h]
  rw [hgone, (State.lendCount_stat _ _).2, hborrowed]
  exact ⟨rfl, fun j => by rw [(State.lendCount_core _ _ j).1, (s.lenderWoken_core g).2]⟩

/-- Otherwise the core with most steps gives one back, and no more where that suffices. -/
theorem State.lenderGone_reclaims {h : Nat} (hh : h ∈ s.dieCores (g / 128))
    (hover : (s.lenderGone g).f F.COL_LEND_STAT_POOL (g / 128) < s.f F.COL_LEND_STAT_BORROWED (g / 128))
    (h0 : 0 < s.boost h)
    (htop : ∀ j ∈ s.dieCores (g / 128), s.boost j < s.boost h ∨ s.boost j = s.boost h ∧ j ≤ h)
    (hone : s.f F.COL_LEND_STAT_BORROWED (g / 128) - s.f F.COL_LEND_CFG_COST (g / 128) ≤
      (s.lenderGone g).f F.COL_LEND_STAT_POOL (g / 128)) :
    (s.lenderGone g).f F.COL_LEND_STAT_BORROWED (g / 128) =
      s.f F.COL_LEND_STAT_BORROWED (g / 128) - s.f F.COL_LEND_CFG_COST (g / 128) ∧
    (s.lenderGone g).boost h = s.boost h - 1 ∧ ∀ j, j ≠ h → (s.lenderGone g).boost j = s.boost j := by
  obtain ⟨hpool, hborrowed⟩ := s.lenderWoken_stat g
  have hboost := (s.lenderWoken_core g).2
  have hcost := (s.lenderWoken_only g).cfgF (x := F.COL_LEND_CFG_COST) rfl (g / 128)
  have hfound : (s.lenderWoken g).topBorrower (g / 128) = some h :=
    State.topBorrower_of_top ((s.lenderWoken_only g).only.dieCores (g / 128) ▸ hh) (by rwa [hboost]) (by
      simpa only [hboost, (s.lenderWoken_only g).only.dieCores] using htop)
  obtain ⟨hpool', hborrowed'⟩ := (s.lenderWoken g).stepReclaimed_stat (g / 128) h
  obtain ⟨-, -, hgonePool⟩ := s.lenderGone_frame g
  rw [hgonePool, ← hpool] at hover hone
  have hgone : s.lenderGone g = ((s.lenderWoken g).stepReclaimed (g / 128) h).lendCount (g / 128) := by
    rw [State.lenderGone, State.lendReclaim_from 1536 (by rwa [hborrowed]) hfound,
      State.lendReclaim_covered _ (by rwa [hborrowed', hpool', hborrowed, hcost])]
  have hcore (j : Nat) : (s.lenderGone g).boost j = if j = h then s.boost h - 1 else s.boost j := by
    rw [hgone, (State.lendCount_core _ _ j).1, (State.stepReclaimed_core _ _ _ j).1, hboost, hboost]
  refine ⟨?_, (hcore h).trans (if_pos rfl), fun j hj => (hcore j).trans (if_neg hj)⟩
  rw [hgone, (State.lendCount_stat _ _).2, hborrowed', hborrowed, hcost]

end

/-- Settles O47: a period by lending on or off, a waking lender by what is borrowed then, a written configuration by its
fields. -/
theorem clockStepsAreLentAndReturned : Obligations.ClockStepsAreLentAndReturned := by
  intro s
  refine ⟨fun d => ?_, fun g => ?_, fun d v => ?_⟩
  · by_cases hd : d < 2
    case neg => exact ⟨s, execLendingPeriod_none hd, fun _ => rfl, rfl, fun h => absurd h hd⟩
    obtain ⟨w, hperiod, hafter⟩ := s.lendPeriod_after d
    have honly := (s.lendConfigured_spec d).1.trans hafter.only.only
    obtain ⟨hmem, hat, hocc, hcfg, hnew⟩ := State.lendNext_frame hafter.only
    have hbusy (h : Nat) (hh : h ∈ s.dieCores d) := State.lendBusy_iff honly (State.mem_dieCores hh)
    refine ⟨w.lendNext d, (execLendingPeriod_die hd).trans (congrArg _ hperiod), fun h => absurd hd (Nat.not_lt.mpr h),
      hmem, fun _ => ⟨hat, hocc, hcfg, hnew, hafter.all_returned, fun hen hclk => ⟨fun g hg => ?_, hafter.pool hen hclk⟩⟩⟩
    refine ⟨hafter.new_lender hen hclk hg, fun hb => hafter.idle hen hclk hg (fun h => hb ((hbusy g hg).mp h)),
      fun hb => hafter.gains hen hclk hg ((hbusy g hg).mpr hb),
      fun hb hother => hafter.only_busy hen hclk hg ((hbusy g hg).mpr hb) fun j hj hne => ?_⟩
    exact (hother j hj hne).imp_right fun hb h => hb ((hbusy j hj).mp h)
  · by_cases hstay : s.lending g = false ∨ s.idleAtCol g = true
    · refine ⟨s, execLenderWake_stays hstay, rfl, fun _ => rfl, fun hl hi => ?_⟩
      rw [hl, hi] at hstay
      exact absurd hstay (by decide)
    simp only [not_or, Bool.not_eq_false, Bool.not_eq_true] at hstay
    obtain ⟨hl, hi⟩ := hstay
    obtain ⟨hrest, hlending, hpool⟩ := s.lenderGone_frame g
    refine ⟨s.lenderGone g, execLenderWake_wakes hl hi, hrest, fun h => ?_, fun _ _ => ⟨hlending, hpool, s.lenderGone_covered g,
      fun h hh hover h0 htop hone => s.lenderGone_reclaims g hh hover h0 htop hone⟩⟩
    rw [hl, hi] at h
    exact absurd h (by decide)
  · by_cases h : 2 ≤ d ∨ bits v 8 8 = 0 ∨ bits v 16 4 = 0 ∨ 12 < bits v 24 4
    · refine ⟨s, execColLendCfgWrite_refused h, rfl, fun _ => rfl, fun hd hok => ?_⟩
      exact absurd (h.resolve_left (Nat.not_le.mpr hd)) hok
    · obtain ⟨hd, hok⟩ := not_or.mp h
      exact ⟨_, execColLendCfgWrite_written (Nat.not_le.mp hd) hok, rfl, fun hno => absurd hno h,
        fun _ _ => SMap.get_set_same id none s.lendNew d (some (v &&& 0xFFFFFFFF0F0FFF01#64))⟩

end Sys2Proof.Machine
end
